-- ==== Sys2Proof/Word.lean ====
section
/-! DEFINITION. The word types of the module and their plainest arithmetic. -/

namespace Sys2Proof

/-- A byte of memory or of a frame. -/
abbrev Byte := BitVec 8
/-- A 32-bit register word (R7). -/
abbrev Word := BitVec 32
/-- A 64-bit value: a time-base value, a host address, a wide register. -/
abbrev Dword := BitVec 64

/-- Bits `lo` up of a number, `w` of them. -/
def bits (x lo w : Nat) : Nat := x / 2 ^ lo % 2 ^ w

/-- One bit of a number. -/
def bit (x i : Nat) : Bool := x / 2 ^ i % 2 == 1

/-- A Boolean as a one-bit field. -/
def b2n (b : Bool) : Nat := if b then 1 else 0

end Sys2Proof
end

