-- ==== Sys2Proof/Syntax.lean ====
section
/-! DEFINITION. The commands the module takes, one constructor per row of the spec's table, with the operands that the outside world chooses or that an event brings with it. -/

namespace Sys2Proof

/-- Who makes a register access (R31): fault logic, the supervisor, a function by its index (R351), an application core, a sequencer. -/
inductive Party where
  | faultLogic
  | supervisor
  | fn (fi : Fin 2056)
  | core (k : Fin 32)
  | sequencer (n : Fin 16)
  deriving DecidableEq, Repr

/-- One write of REGISTER_WRITE: who, where, and the word or the pair of words (R679).  `bad` says that the action the write starts meets its physical failure: an uncorrectable error as a program is written (R187), a fuse that does not read back blown (R585). -/
structure RegWrite where
  who : Party
  addr : Word
  value : Dword
  wide : Bool
  bad : Bool
  deriving DecidableEq, Repr

/-- A frame as it reaches a MAC (R82): its bytes from the destination address to the last byte before the FCS, and what the line showed of it. -/
structure WireFrame where
  bytes : List Byte
  fcsOk : Bool
  framing : Bool      -- malformed preamble or SFD, or a wrong start lane
  codeErr : Bool      -- a PCS error block or invalid code group inside the frame
  fecBad : Bool       -- it overlaps an uncorrectable FEC codeword
  fecCorr : Fin 65536   -- FEC codewords corrected since the frame before it
  fecUncorr : Fin 65536 -- uncorrectable FEC codewords since the frame before it, those it overlaps among them
  cut : Bool          -- its head was granted before its tail arrived (cut-through)
  deriving DecidableEq, Repr


/-- An ECC event that a packet meets in a cell (R190, R217): a corrected error, an uncorrectable one in the bundle store, an uncorrectable table entry, or a corrected error in table storage. -/
inductive EccKind where
  | corrected
  | uncorrectable
  | entry
  | entryCorrected
  deriving DecidableEq, Repr

/-- The cell of the pipeline in which it comes about, and its kind. -/
structure EccHit where
  cell : Fin 20
  kind : EccKind
  deriving DecidableEq, Repr

/-- An ECC event in a segment of a frame at dequeue (R244): the segment, whether it could be corrected, and whether the frame had started to leave. -/
structure SegError where
  segment : Fin 1048576
  corrected : Bool
  started : Bool
  deriving DecidableEq, Repr

/-- The alarms that leave the module state as it is (R497); a lid breach is a command of its own. -/
inductive AlarmCause where
  | voltageGlitch
  | clockGlitch
  | temperature
  | faultInjection
  deriving DecidableEq, Repr

/-- What a namespace's backend answers (R457, R468, R472): success, with the bytes of a read; a media error; another failure while it is present; or it is lost; or the cipher engine's countermeasure rejected a unit of the command (R496, R500). -/
inductive BackendResult where
  | ok (bytes : List Byte)
  | media
  | failed
  | lost
  | rejected
  deriving DecidableEq, Repr

/-- What a share of the modelled energy of a millisecond belongs to (R540): a frame's ingress logical port, the record of an owner, a domain, or AO. -/
inductive EnergySource where
  | frame (lp : Fin 541)
  | record (fi : Fin 2064)
  | domain (d : Fin 96)
  | ao
  deriving DecidableEq, Repr

/-- Activity of a domain in a millisecond, with what it is charged to (R538, R540): its counts, in the order of the calibration set's coefficients 2 to 9 (R617). -/
structure EnergyShare where
  source : EnergySource
  domain : Fin 96
  counts : List Nat
  deriving DecidableEq, Repr

/-- What the patrol scrub finds in a word (R309, R310): a corrected error, or an uncorrectable one in core memory, in a block of the write cache, in an entry of the peer cache, or in a partition whose data is written again from elsewhere; `unkept` where the supervisor cannot rewrite it (R603). -/
inductive ScrubResult where
  | corrected
  | core
  | cache (handle : Fin 4096) (blk : Nat)
  | peer (index : Nat)
  | rebuilt
  | unkept
  deriving DecidableEq, Repr

/-- Fault causes of a micro-trap (R404). -/
inductive TrapFault where
  | dmaError
  | poison
  | notOwned
  | desc
  deriving DecidableEq, Repr

/-- What one microword does where the spec shows no more than its raw bits (R396): bits of the word read in error, an uncorrectable error of context or scratch storage, the condition bits, FLAGS and S0 to S7 after it, a wait for DMA or an engine, the trap return, a fault met, and the RESULT and status data of a descriptor that ends with it. -/
structure MicroStep where
  readErr : BitVec 144 := 0
  ecc : Bool := false
  cond : Fin 8 := 0
  flags : Fin 65536 := 0
  scratch : List Dword := []
  waits : Bool := false
  trapReturn : Bool := false
  fault : Option TrapFault := none
  result : Byte := 0
  info : Word := 0
  deriving DecidableEq, Repr

/-- A control-store word found bad by the initialisation scan (R408): in the patch RAM or the ROM, its address, and the bits read in error. -/
structure ScanError where
  patch : Bool
  addr : Fin 32768
  bits : BitVec 144
  deriving DecidableEq, Repr

/-- Fields of configuration space that the spec names (R323, R325, R332, R335 to R338, R355, R686); `other` is any other register. -/
inductive CfgField where
  | memSpace
  | busMaster
  | maxPayload
  | maxReadReq
  | cplTimeout
  | initiateFlr
  | vfEnable
  | numVfs
  | msixMask
  | aerStatus
  | totalVfs
  | initialVfs
  | vfOffset
  | vfStride
  | cplRanges
  | maxPayloadSup
  | barSize
  | vfBarSize
  | otherBar
  | resetTime
  | flrTime
  | other (n : Fin 1024)
  deriving DecidableEq, Repr

/-- A configuration request of the host, at the level of named fields. -/
inductive CfgOp where
  | read (f : CfgField)
  | write (f : CfgField) (v : Word)
  deriving DecidableEq, Repr

/-- How a completion ends (R343): its bytes, a UR or CA status, or poisoned. -/
inductive CplStatus where
  | data (bytes : Fin 4097)
  | error
  | poisoned
  deriving DecidableEq, Repr

/-- What a drive answers at ENUM (R339, R451, R470): a type 0 header with class code 0x01_08_02, an NVMe version of 1.4 or above, its volatile write cache, its Max_Payload_Size as a power of two over 128 bytes, and its namespaces: number, LBA size, metadata, capacity in LBAs. -/
structure DriveId where
  nvme : Bool
  v14 : Bool
  vwc : Bool
  spaces : List (Nat × Nat × Bool × Nat)
  mps : Fin 6
  deriving DecidableEq, Repr

/-- A memory request of a drive (R341): a write or a read, its address and length, and whether it lies in a window open for its direction. -/
structure DriveReq where
  write : Bool
  addr : Dword
  len : Fin 4097
  allowed : Bool
  deriving DecidableEq, Repr

/-- A PCIe link: a host link and its sub-link, or a drive slot. -/
inductive LinkRef where
  | host (link sub : Fin 2)
  | drive (slot : Fin 8)
  deriving DecidableEq, Repr

/-- How the flash ends a command (R590): done, an error or overrun time, or a page that reads back otherwise. -/
inductive FlashResult where
  | done
  | error
  | mismatch
  deriving DecidableEq, Repr

/-- What a path-delay monitor reads (R611, R625): its delay in 0.1 ps, and its slack in 0.1 ps, signed in 16 bits. -/
structure MonReading where
  mon : Fin 240
  delay : Fin 65536
  slack : Fin 65536
  deriving DecidableEq, Repr

/-- The margins of a region as a Tightrope run finds them (R613): at its start and after each step of trim or ceiling, in 0.1 ps, signed in 16 bits; and whether the margin projected at the next higher ceiling meets the target. -/
structure RegionTrim where
  region : Fin 9
  margins : List (Fin 65536)
  room : Bool
  deriving DecidableEq, Repr

/-- A 32-bit access through MAILBOX (R647): a word of the debug token buffer, or AO_DBG_CMD. -/
inductive MailboxOp where
  | write (word : Fin 786) (v : Word)
  | read (word : Fin 786)
  | command (v : Word)
  deriving DecidableEq, Repr

/-- What a junction sensor reads (R668): whether its self-check holds, and its reading in 1/16 C, signed in 16 bits, as AO_PKG_TEMP shows it. -/
structure SensorReading where
  valid : Bool
  temp : Fin 65536
  deriving DecidableEq, Repr

/-- A host memory request to a function's BAR0 (R326, R343, R679): the offset of its first 32-bit word, how many words, the byte enables of the first and of the last word, and the bytes a write carries; whether it is malformed or poisoned; `bad` as for RegWrite. -/
structure BarTlp where
  fi : Fin 2056
  offset : Dword
  dws : Fin 1025
  firstBe : Fin 16
  lastBe : Fin 16
  write : Bool
  data : List Byte
  malformed : Bool
  poisoned : Bool
  bad : Bool
  deriving DecidableEq, Repr

/-- The commands of the module: one constructor per row of the spec's table of steps. -/
inductive Instr where
  /-- VIN stays above the turn-on threshold for 1 ms, so AO powers up, samples the straps, starts the time base at 0 and enters STANDBY (R19). -/
  | powerOn (devid : Fin 4) (bootsel mesh : Bool)
  /-- RST_N is high and VIN has stayed at or above VHOLD for 10 ms, so the module enters BOOT (R19). -/
  | bootStart (flash : Bool)
  /-- The attestation unit finishes deriving the identity key pair and sets READY (R586). -/
  | keyPairDerived
  /-- READY is set and every required release is done, so the module enters RUN, locks RWL fields and presents functions (R577). -/
  | runReady
  /-- The 120 s failed-start timer expires in BOOT (R573). -/
  | failedStartTimeout
  /-- VIN_SENSE falls below VHOLD, so RUN moves to RIDE-THROUGH, BOOT to STANDBY, and other states assert ALARM_N (R516). -/
  | vinBelowVhold
  /-- VIN has stayed at or above VHOLD plus HYST for DWELL, so RIDE-THROUGH returns to RUN (R517). -/
  | vinRecovered
  /-- VIN_SENSE falls below VVAULT, so RIDE-THROUGH enters VAULT (R19). -/
  | vinBelowVvault
  /-- The vault finishes: the trailer is written, every region except AO is powered off and PENDING is entered (R518). -/
  | vaultDone
  /-- VIN_SENSE falls below the turn-off threshold and all power is lost (R509). -/
  | vinTurnOff
  /-- The RST_N pin is asserted, so the module vaults first if dirty and then resets warm to STANDBY (R19). -/
  | rstN
  /-- A keyed AO_MODULE_CTRL write requests HALT (R26). -/
  | haltReq (who : Party)
  /-- A keyed AO_MODULE_CTRL write requests SAFETY-NET (R26). -/
  | snetReq (who : Party)
  /-- A keyed AO_MODULE_CTRL write requests BOOT (R26). -/
  | restartReq (who : Party)
  /-- Two consecutive samples at or above 110 °C on one sensor trip the module to VAULT or HALT (R669). -/
  | thermalTrip
  /-- The lid mesh fails two consecutive checks, so zeroisation runs and VAULT or HALT follows (R671). -/
  | lidBreach
  /-- A voltage, clock, temperature or fault-injection alarm zeroises every key slot and every MAC key (R498). -/
  | alarmZeroise (cause : AlarmCause)
  /-- REFCLK_IN shows no edge for 1 µs with fall-back selected, so the module switches to the oscillator (R40). -/
  | refclkLost
  /-- A write of AO_TB_CTRL selects the reference source or the servo owner, and a REF_SEL change resets sync (R52). -/
  | tbCtrlWrite (who : Party) (v : Word)
  /-- A write of the high word of AO_TB_OFFSET steps, slews or rejects the time-base offset (R45). -/
  | tbOffsetWrite (who : Party) (v : Dword)
  /-- A negative offset has been absorbed, so SLEWING returns to 0 (R45). -/
  | slewDone
  /-- With SERVO_EN = 0, the manager sets SYNC and ERR_EST through AO_TB_SYNC_SET (R56). -/
  | tbSyncSet (who : Party) (v : Word)
  /-- A PTP event message reaches the supervisor through LP536 with its ingress timestamp (R47). -/
  | ptpMessageRx (domain : Fin 256 := 0)
  /-- The offset has stayed within 100 ns for 16 sync intervals, so LOCKING moves to LOCKED (R48). -/
  | syncLocked (err : Fin 1048576)
  /-- No sync message has arrived for 3 intervals, so LOCKED moves to HOLDOVER (R48). -/
  | syncHoldover
  /-- ERR_EST grows by 1 ns every 20 ms in HOLDOVER or every 20 µs in FREE (R49). -/
  | errEstTick
  /-- ERR_EST reaches 1,000,000 ns, so HOLDOVER moves to FREE (R48). -/
  | holdoverExpired
  /-- The time base crosses a whole second and PPS_OUT rises (R50). -/
  | ppsOutEdge
  /-- An active PPS_IN edge captures the time base into AO_PPS_IN_TS (R51). -/
  | ppsInEdge (rising : Bool)
  /-- 1.5 s pass without a PPS_IN edge, so EV0015 is raised (R51). -/
  | ppsInMissing
  /-- A wake trigger reaches a gated domain and starts its wake (R59). -/
  | wakeTrigger (domain : Fin 96)
  /-- A domain finishes waking, and LATE is set if the wake exceeded its figure (R58). -/
  | wakeComplete (domain : Fin 96) (late : Bool)
  /-- A domain has been idle for IDLE_TIME, so it is gated or its stack enters self-refresh (R58). -/
  | idleGate (domain : Fin 96)
  /-- WAKE_LEAD before a class 12–15 gate window, the ledger pins the window's pipeline halves awake (R61). -/
  | plannedWake (lp : Fin 512)
  /-- A write of a landing-buffer configuration register, with the region total of SIZE checked (R64). -/
  | lbCfgWrite (who : Party) (port : Fin 128) (v : Word)
  /-- A port's reservation becomes empty, so its new SIZE takes effect (R64). -/
  | lbSizeApply (port : Fin 128)
  /-- A write of PA_MAC_PORT_CFG is checked and changes the breakout or stitch mode, restarting the affected sub-ports (R74). -/
  | portCfgWrite (who : Party) (port : Fin 128) (v : Word)
  /-- A write of PA_MAC_SUBPORT_CFG is checked and enables the sub-port or changes its speed, FEC or options (R73). -/
  | subportCfgWrite (who : Party) (lp : Fin 512) (v : Word)
  /-- Auto-negotiation resolves a common ability, and the sub-port moves to TRAINING or ALIGNING (R78). -/
  | anResolved (lp : Fin 512) (speed : Fin 7) (fec : Fin 4) (eee : Bool := false)
  /-- Auto-negotiation finds no common ability, or no page arrives for 3 s, so AN restarts (R78). -/
  | anFail (lp : Fin 512)
  /-- A partner training request or training frame arrives on a lane (R77). -/
  | trainRequest (lane : Fin 512) (bad : Bool)
  /-- All lanes of the sub-port have trained, so it moves to ALIGNING (R78). -/
  | trainingDone (lp : Fin 512)
  /-- The training limit expires on a lane, so the sub-port retrains, or proceeds when the partner does not train (R77). -/
  | trainTimeout (lane : Fin 512) (othersDone : Bool)
  /-- Lock has held for 10 ms in ALIGNING, so the link goes UP (R78). -/
  | alignLock (lp : Fin 512)
  /-- ALIGNING does not reach lock within 500 ms (R78). -/
  | alignTimeout (lp : Fin 512)
  /-- An UP link sees loss of lock, hi_ber or a local fault, and returns to ALIGNING (R78); whether a frame was being sent is in the state, and `sending` holds nothing. -/
  | linkLoss (lp : Fin 512) (localFault : Bool) (sending : Unit)
  /-- Remote fault is received on an UP link, which moves to FAULT (R78); `sending` holds nothing, as in LINK_LOSS. -/
  | remoteFaultRx (lp : Fin 512) (sending : Unit)
  /-- Remote fault has been absent for 10 ms, so FAULT returns to UP (R78). -/
  | remoteFaultClear (lp : Fin 512)
  /-- A frame arrives at a MAC, is checked, enters the landing buffer or is dropped and counted (R82). -/
  | macRxFrame (lp : Fin 512) (f : WireFrame)
  /-- The landing buffer grants a frame to its ingress pipeline, which parses it and runs it through the ingress cells (R81). -/
  | lbGrant (pipe : Fin 32) (recirc : Bool) (ecc : List EccHit) (excess : Bool)
  /-- The supervisor rewrites a bad bundle position at a packet boundary of the cell (R190). -/
  | bundleRewrite (region : Fin 4) (page : Fin 256) (bank : Fin 2) (index : Fin 256)
  /-- A write of word 3 of an extraction profile commits all four words at the next packet boundary (R123). -/
  | xprofCommit (who : Party) (region : Fin 4) (prof : Fin 64) (v : Word)
  /-- A write of INDEX to a counter channel starts a latch of that entry (R170). -/
  | counterLatch (who : Party) (region ch : Fin 4) (index : Fin 131072)
  /-- The latch completes and PKTS and BYTES show the entry (R170). -/
  | counterLatchDone (region ch : Fin 4)
  /-- AO_PROG_CMD LOAD_SWAP verifies, writes and then swaps a program set (R187). -/
  | loadSwap (who : Party) (pages : Fin 8192) (ecc : Bool)
  /-- AO_PROG_CMD LOAD_ONLY verifies and writes a program set, and stops at LOADED (R187). -/
  | loadOnly (who : Party) (pages : Fin 8192) (ecc : Bool)
  /-- AO_PROG_CMD SWAP swaps a program set that has been loaded (R187). -/
  | swap (who : Party)
  /-- AO_PROG_CMD ABORT ends a load that is still before its swap (R188). -/
  | abort (who : Party)
  /-- T_SWAP has passed and loading is complete, so each named pipeline flips its epoch at its next packet boundary (R187). -/
  | epochFlip
  /-- The old bank is no longer in use, so OLD_BUSY clears and the load finishes with DONE (R186). -/
  | oldBankDrained (pipe : Fin 64)
  /-- A linked swap has not drained within 100 ms, so the load ends with DRAIN_TIMEOUT (R188). -/
  | drainTimeout
  /-- A write of a table definition is checked against its entries, bindings and pool (R202). -/
  | tblCfgWrite (who : Party) (table : Fin 64) (word : Fin 5) (v : Word)
  /-- The table engine command INSERT adds an entry (R206). -/
  | tableInsert (ch : Fin 4) (regions : Fin 16) (table : Fin 64)
  /-- The table engine command REPLACE overwrites an existing entry (R206). -/
  | tableReplace (ch : Fin 4) (regions : Fin 16) (table : Fin 64)
  /-- The table engine command WRITE inserts the entry, or replaces it if present (R206). -/
  | tableWrite (ch : Fin 4) (regions : Fin 16) (table : Fin 64)
  /-- The table engine command DELETE removes an entry (R206). -/
  | tableDelete (ch : Fin 4) (regions : Fin 16) (table : Fin 64)
  /-- The table engine command READ copies an entry into the image (R206). -/
  | tableRead (ch : Fin 4) (regions : Fin 16) (table : Fin 64)
  /-- The table engine command FLUSH removes the exact-match entries whose DATA matches under the mask (R206). -/
  | tableFlush (ch : Fin 4) (regions : Fin 16) (table : Fin 64)
  /-- A TABLE_UPDATE descriptor is read and executed by the table engine (R209). -/
  | tableUpdate (ring : Fin 65536) (got : Bool) (image : List Byte) (put : Bool := true)
  /-- An engine half grants one update source and commits the update to every replica in one clock (R204); the rotating priority of the state names the source (R203), and `src` holds nothing. -/
  | engineCommit (half : Fin 2) (src : Unit)
  /-- The sweeper visits an entry, and clears its hit bits, sets AGED1 or removes it (R213); the entry is the next of the sweep, and `index` holds nothing. -/
  | ageSweep (table : Fin 64) (index : Unit)
  /-- A learning message from a stitched neighbour is applied or counted as STALE (R216). -/
  | stitchLearnRx (devid : Fin 4)
  /-- The engine rewrites an entry with an uncorrectable error from a good replica or its shadow (R217). -/
  | entryRewrite (table : Fin 64) (region : Fin 4) (index : Fin 1048576)
  /-- An admission stage enqueues one copy, which is admitted or dropped against the thresholds (R227); the order of R225 names the stage, and `pipe` holds nothing. -/
  | admissionEnqueue (pipe : Unit)
  /-- A write of FX_ADM_QCFG changes a queue's thresholds, unless it would raise G too far (R228). -/
  | qcfgWrite (who : Party) (qi : Fin 8656) (word : Fin 2) (v : Word)
  /-- The first 256 bytes of a cut-through copy are written, so it becomes eligible (R234). -/
  | cutThroughEligible (qi : Fin 8656)
  /-- A store-and-forward frame's last segment is written, so it becomes eligible or is discarded on a tail violation (R235). -/
  | tailWritten (fid : Nat)
  /-- A waiting segment allocation finds a free awake segment and the admission stage resumes (R241). -/
  | segmentAllocResume (fid : Nat)
  /-- A draining bank group holds no segment and is power-gated (R241). -/
  | bgDrained (g : Fin 16)
  /-- A logical port can accept a frame, so FX selects a queue and sends its head through the egress pipeline (R249). -/
  | dequeueSelect (server : Fin 46) (ecc : List EccHit) (seg : Option SegError) (ready : Fin 65536 := 65535)
  /-- A gate control list entry begins at its scheduled instant and changes the gate states (R255). -/
  | gateTransition (lp : Fin 512)
  /-- CHANGE written 1 makes a new list pending with change time T (R256). -/
  | gateChange (lp : Fin 512)
  /-- CANCEL written 1 cancels a pending list change (R256). -/
  | gateCancel (lp : Fin 512)
  /-- The time base reaches T, so OPER_BANK toggles and the new list becomes operative (R256). -/
  | gateListSwap (lp : Fin 512)
  /-- A write of word 3 of a meter commits its configuration and refills its buckets (R267). -/
  | meterCommit (who : Party) (region : Fin 4) (meter : Fin 16384) (v : Word)
  /-- A sample group's period expires and it forms depth and delay records (R268). -/
  | qdepthSample (group : Fin 64) (excess : Bool)
  /-- A write of word 0 of a sample group commits its configuration (R271). -/
  | sampleGroupCommit (who : Party) (group : Fin 64) (v : Word)
  /-- Every 10 µs an UP stitch link sends HELLO (R277). -/
  | helloTx (link : Fin 8)
  /-- A HELLO arrives and moves the stitch link to JOINED or DUP, or marks a lost neighbour (R279). -/
  | helloRx (link : Fin 8)
  /-- No HELLO arrives for 100 µs on a JOINED link, so it leaves JOINED (R279). -/
  | helloTimeout (link : Fin 8)
  /-- A stitch DATA frame is checked and admitted to its destination queue with a rebuilt PHV (R283). -/
  | stitchDataRx (link : Fin 8)
  /-- Every 125 µs a slave sends a TIME frame to the master (R286). -/
  | timeExchange
  /-- A TIME frame arrives and the slave computes delay and offset and corrects its time base (R286). -/
  | timeRx (link : Fin 8)
  /-- Every queue of the route is empty, so a pending member enters the active set (R282). -/
  | rejoin (devid : Fin 4)
  /-- A member has been pending for 100 ms, so EV0680 is raised (R282). -/
  | rejoinPendTimeout (devid : Fin 4)
  /-- The origin finishes re-sending its entries and clears the resync request (R290). -/
  | resyncReplayDone (devid : Fin 4)
  /-- No link to a neighbour has been JOINED for LOST_TIME, so its entries are removed (R291). -/
  | neighbourLost (devid : Fin 4)
  /-- A write of FX_STC_ROUTE changes the stitch ports of a route (R295). -/
  | routeWrite (who : Party) (devid : Fin 4) (v : Word)
  /-- A write of MX_HBM_PART sets the write-cache layout, unless it is invalid (R308). -/
  | hbmPartWrite (who : Party) (v : Word)
  /-- The patrol scrub reaches a word and corrects it or poisons its line (R309). -/
  | hbmScrub (stack : Fin 4) (addr : Dword) (result : ScrubResult)
  /-- OFF = 1 powers off an HBM stack that holds no partition (R312). -/
  | stackOff (who : Party) (stack : Fin 4)
  /-- OFF = 0 powers on, trains and zero-fills an HBM stack (R312). -/
  | stackOn (who : Party) (stack : Fin 4)
  /-- The stack finishes powering on and STATE reads ON (R312). -/
  | stackOnDone (stack : Fin 4)
  /-- Hh_PERST_N is deasserted and detect starts on the host link (R324). -/
  | hostPerstDeassert (link : Fin 2)
  /-- The host sub-link reaches DL_Active and enters RETRY or ACTIVE (R324). -/
  | hostDlActive (link sub : Fin 2) (rate : Fin 7) (width : Fin 17) (flit : Bool) (power : Fin 3 := 0)
  /-- No DL_Active is reached within 100 ms, so detect restarts (R324). -/
  | hostTrainTimeout (link sub : Fin 2)
  /-- A hot reset from the partner resets every function of the sub-link (R336). -/
  | hotReset (link sub : Fin 2)
  /-- DL_Down resets every function of the sub-link (R336). -/
  | hostDlDown (link sub : Fin 2)
  /-- Hh_PERST_N is asserted, causing a fundamental reset of the link (R336). -/
  | hostPerstAssert (link : Fin 2)
  /-- A host configuration request is answered or retried, or is applied to configuration space (R324). -/
  | configRequest (fi : Fin 2056) (op : CfgOp)
  /-- A host memory request to BAR0 is translated and served, or refused (R326). -/
  | barRequest (r : BarTlp)
  /-- A completion arrives for a DMA read, or is treated as late or unexpected (R334). -/
  | completionRx (link : Fin 2) (tag : Fin 1024) (status : CplStatus)
  /-- A read's completion timer expires and the read fails (R333). -/
  | completionTimeout (link : Fin 2) (tag : Fin 1024)
  /-- A failed or abandoned tag returns to use after twice the timer value (R334). -/
  | tagRelease (link : Fin 2) (tag : Fin 1024)
  /-- Clearing Bus Master Enable stops the function's requests and stops its rings (R335). -/
  | bmeClear (fi : Fin 2056)
  /-- Initiate Function Level Reset starts a function reset (R337). -/
  | flr (fi : Fin 2056)
  /-- The function reset completes and configuration space is reset (R337). -/
  | functionResetDone (fi : Fin 2056)
  /-- A vector is unmasked with Bus Master Enable at 1, so its pending message is sent (R338). -/
  | msixUnmask (fi : Fin 2056) (vec : Fin 2048)
  /-- EN = 1 on a drive sub-link turns on its reference clock, releases PERST_N and starts detect (R339). -/
  | driveEn (who : Party) (slot : Fin 8)
  /-- The drive sub-link reaches DL_Active and function 0 is read (R339). -/
  | driveDlActive (slot : Fin 8) (rate : Fin 6) (width : Fin 17)
  /-- No DL_Active within 1 s, so PERST_N is pulsed (R339). -/
  | driveTrainTimeout (slot : Fin 8)
  /-- The configuration completion arrives and the drive is set up and ENABLED, or REFUSED (R339). -/
  | driveEnum (slot : Fin 8) (id : DriveId)
  /-- No configuration completion arrives within 1 s, so the drive is REFUSED (R339). -/
  | driveEnumTimeout (slot : Fin 8)
  /-- A fatal, non-fatal, poisoned or malformed error from the drive triggers DPC (R342). -/
  | driveError (slot : Fin 8)
  /-- The drive sub-link goes down unrequested and returns to TRAINING (R339). -/
  | surpriseDown (slot : Fin 8)
  /-- RELEASE moves a CONTAINED or REFUSED sub-link back to TRAINING (R339). -/
  | driveRelease (who : Party) (slot : Fin 8)
  /-- A drive memory request is served in its windows or as an interrupt, or refused (R341). -/
  | driveRequest (slot : Fin 8) (req : DriveReq)
  /-- An MMIO read to a drive times out after 8 ms and triggers DPC (R343). -/
  | mmioTimeout (slot : Fin 8)
  /-- A write of a function record is taken only while the function is not live (R352). -/
  | fnRecWrite (who : Party) (fi : Fin 2064) (word : Fin 8) (v : Word)
  /-- Setting VF Enable creates and commits the PF's VFs (R355). -/
  | vfEnable (pf : Fin 8)
  /-- Clearing VF Enable destroys the PF's VFs (R356). -/
  | vfDisable (pf : Fin 8)
  /-- Destruction completes, COMMITTED clears and the resources return to their pools (R356). -/
  | functionDestroyDone (fi : Fin 2056)
  /-- A write setting EN of a dirty-page logging slot starts logging, or is refused (R362). -/
  | dlogEnable (who : Party) (slot : Fin 64) (v : Word)
  /-- HARVEST switches the active bitmap (R360). -/
  | harvest (who : Party) (slot : Fin 64)
  /-- The retired bitmap is written out and the harvest record is written (R360). -/
  | harvestDone (slot : Fin 64)
  /-- Changed shadow blocks are written to the host bitmap within 10 µs (R359). -/
  | bitmapFlush (slot : Fin 64)
  /-- A doorbell write is checked and advances a ring's tail or its release point (R370). -/
  | doorbell (who : Party) (ring : Fin 65536) (v : Word)
  /-- ENABLE validates the configuration and makes a DISABLED ring ACTIVE (R388). -/
  | ringEnable (who : Party) (ring : Fin 65536)
  /-- STOP halts dispatch and moves the ring to STOPPING (R388). -/
  | ringStop (who : Party) (ring : Fin 65536)
  /-- RESUME drops the ring's cache and restarts dispatch at H (R388). -/
  | ringResume (who : Party) (ring : Fin 65536)
  /-- RESET returns a STOPPED or ERROR ring to DISABLED (R388). -/
  | ringReset (who : Party) (ring : Fin 65536)
  /-- INVALIDATE drops the ring's undispatched cached descriptors and records D (R374). -/
  | ringInvalidate (who : Party) (ring : Fin 65536)
  /-- Every dispatched descriptor has completed and been published, so STOPPING becomes STOPPED (R388). -/
  | ringStopped (ring : Fin 65536)
  /-- A descriptor fetch returns and the entries owned by the consumer are cached (R371). -/
  | descFetch (ring : Fin 65536) (ok : Bool) (entries : List (List Byte))
  /-- A cached descriptor is dispatched to a sequencer with a free context (R395). -/
  | descDispatch (ring : Fin 65536)
  /-- A NOP descriptor completes with OK (R376). -/
  | nopDesc (ring : Fin 65536)
  /-- A FENCE holds dispatch until every earlier descriptor has completed and been published (R381). -/
  | fence (ring : Fin 65536)
  /-- A STRING holds dispatch until the CCOUNT of the target ring reaches VALUE (R381). -/
  | string (ring : Fin 65536)
  /-- A STRING's TIMEOUT passes, so it ends with STRING_TIMEOUT and the ring stops (R381). -/
  | stringTimeout (ring : Fin 65536)
  /-- An RX_BUF descriptor posts one receive buffer (R379). -/
  | rxBuf (ring : Fin 65536)
  /-- A SEND descriptor reads a frame and admits it at FX (R378). -/
  | send (ring : Fin 65536) (ok : Bool) (data : List Byte)
  /-- A descriptor completes and H advances over contiguous completions (R380). -/
  | descComplete (ring : Fin 65536) (pos : Fin 131072) (result : Byte) (info : Word)
  /-- The oldest unpublished completion reaches HEAD_TIME, so a head record is written (R383). -/
  | headTimeExpiry (ring : Fin 65536)
  /-- A record is placed in an event ring, or its ring's POLICY applies when the ring is full (R384). -/
  | eventRecordPlace (ring : Fin 65536)
  /-- HOLD_LIMIT passes with an item waiting, so items are dropped and counted (R384). -/
  | holdLimitExpiry (ring : Fin 65536)
  /-- A dequeued frame is written into receive buffers and its receive record is written (R387). -/
  | rxFrameDeliver (port : Fin 24)
  /-- A sequencer context executes one microword (R396). -/
  | microword (sq : Fin 16) (ctx : Fin 16) (o : MicroStep)
  /-- A context runs 10 ms without JOB_END or a wait, causing a WATCHDOG machine check (R404). -/
  | sqWatchdog (sq : Fin 16) (ctx : Fin 16)
  /-- A context timer expires and posts a TIMER interrupt (R404). -/
  | contextTimer (sq : Fin 16) (ctx : Fin 16)
  /-- A release bit starts a sequencer's initialisation (R408). -/
  | sqRelease (who : Party) (v : Word)
  /-- The initialisation scan completes and the sequencer is READY (R408). -/
  | sqInitDone (sq : Fin 16) (err : Option ScanError)
  /-- OFFLINE written 1 drains the sequencer (R409). -/
  | sqOffline (who : Party) (sq : Fin 16)
  /-- OFFLINE written 0 returns the sequencer to READY (R409). -/
  | sqOnline (who : Party) (sq : Fin 16)
  /-- No context is busy, so DRAINING becomes OFFLINE (R409). -/
  | sqDrained (sq : Fin 16)
  /-- AO_UCODE_CMD LOAD verifies a patch set and quiesces dispatch (R402). -/
  | ucodeLoad (who : Party) (pages : Fin 8192)
  /-- Every context reaches JOB_END, so the patch RAM is written and dispatch resumes (R402). -/
  | ucodeQuiesced (bad : Bool)
  /-- Contexts do not drain within 10 ms, so the load ends and the old patch set stays (R402). -/
  | ucodeDrainTimeout
  /-- A WRITE descriptor sends a remote write as packets (R432). -/
  | rmaWrite (ring : Fin 65536) (ok : Bool) (data : List Byte)
  /-- A READ descriptor sends READ_REQ packets (R435). -/
  | rmaRead (ring : Fin 65536)
  /-- WIN_SET attaches a window and issues its key (R421). -/
  | winSet (ring : Fin 65536)
  /-- WIN_REVOKE increments a window's generation and detaches it (R423). -/
  | winRevoke (ring : Fin 65536)
  /-- The packets that passed under the old key are placed, so the REVOKE completes (R423). -/
  | revokeDrained (window : Fin 1048576)
  /-- An inbound RMA WRITE packet is checked, deduplicated and placed or refused (R422). -/
  | writePktRx (port : Fin 16) (back : BackendResult)
  /-- An inbound READ_REQ is checked and answered with READ_RESP packets (R435). -/
  | readReqRx (port : Fin 16) (ok : Bool) (data : List Byte) (back : BackendResult)
  /-- A READ_RESP packet is placed into the initiator's buffer (R435). -/
  | readRespRx (port : Fin 16)
  /-- An ACK or NAK answers a packet and may complete its message (R433). -/
  | ackRx (port : Fin 16)
  /-- RTO expires for an unanswered packet, which is retransmitted with its rate halved (R438). -/
  | rtoExpiry (msg pkt : Nat)
  /-- A datagram packet reaches SEND_TS + H − M and times out (R429). -/
  | packetDeadline (msg pkt : Nat)
  /-- 50 µs pass without ECE, so RC grows by AI (R439). -/
  | rateIncrease (peer : Nat)
  /-- A descriptor has waited H for a peer entry and completes with PEER_FULL (R427). -/
  | peerWaitTimeout (ring : Fin 65536)
  /-- EN written 1 moves an endpoint to HOLDOFF (R431). -/
  | epEnable (who : Party) (ep : Fin 4096) (v : Word)
  /-- EN written 0 ends the endpoint's messages and moves it to DISABLED (R431). -/
  | epDisable (who : Party) (ep : Fin 4096) (v : Word)
  /-- H passes in HOLDOFF while the module is IN_SYNC, so the endpoint becomes ACTIVE (R431). -/
  | epHoldoffExpiry (ep : Fin 4096)
  /-- OP CONNECT moves a connection to READY with PSN 0 (R441). -/
  | connect (who : Party) (conn : Fin 16384)
  /-- OP RESET returns a connection to RESET (R441). -/
  | connReset (who : Party) (conn : Fin 16384)
  /-- A write of HX_STOR_NS configures a namespace, or with EN = 1 attaches it (R450). -/
  | nsConfigWrite (who : Party) (handle : Fin 4096) (word : Fin 8) (v : Word)
  /-- EN written 0 moves a namespace to DRAINING (R452). -/
  | nsDisable (who : Party) (handle : Fin 4096)
  /-- OP DISCARD drops every dirty version of the handle and frees its vault records (R474). -/
  | nsDiscard (handle : Fin 4096) (who : Party := .supervisor)
  /-- Flush completes once every earlier completed write is certified or on media (R463). -/
  | nvmFlush (ring : Fin 65536)
  /-- A Write enters the write cache as groups, or goes to the backend (R464). -/
  | nvmWrite (ring : Fin 65536) (ok : Bool) (data : List Byte) (back : BackendResult)
  /-- A Read returns the newest cache version merged with backend data (R467). -/
  | nvmRead (ring : Fin 65536) (ok : Bool) (data : List Byte) (back : BackendResult)
  /-- Write Zeroes is executed as a write of zeros (R455). -/
  | writeZeroes (ring : Fin 65536) (back : BackendResult)
  /-- Dataset Management deallocates ranges (R455). -/
  | datasetManagement (ring : Fin 65536) (ok : Bool) (data : List Byte)
  /-- An Ordered Write is admitted only after every earlier write of its scope (R462). -/
  | orderedWrite (ring : Fin 65536) (ok : Bool) (data : List Byte) (back : BackendResult)
  /-- Identify returns controller or namespace data (R458). -/
  | identify (ring : Fin 65536)
  /-- Get Log Page returns the error or SMART log (R456). -/
  | getLogPage (ring : Fin 65536)
  /-- Set Features sets the power state, the volatile write cache or APST (R477). -/
  | setFeatures (ring : Fin 65536) (ok : Bool) (data : List Byte)
  /-- Get Features returns a feature value (R456). -/
  | getFeatures (ring : Fin 65536)
  /-- A waiting write group gets free block versions and is admitted in one step (R461). -/
  | groupAdmit
  /-- A group fits the certified limit in SEQ order and its blocks become CERT (R465). -/
  | groupCertify
  /-- A group has waited over 100 ms for certification, so EV0793 is raised (R465). -/
  | certWaitWarn
  /-- A certified or VB block is chosen and its backend write is issued (R467). -/
  | destageIssue
  /-- A backend write completes and frees its version, or a failure holds the namespace (R468). -/
  | destageDone (index : Nat) (result : BackendResult)
  /-- A drive command exceeds DRV_TIMEOUT and is aborted (R470). -/
  | drvTimeout (index : Nat)
  /-- An aborted command is still open after 1 s, so the drive controller is reset (R470). -/
  | drvAbortTimeout (slot : Fin 8)
  /-- A function is idle for ITPT and moves to a lower power state (R479). -/
  | apstIdle (fi : Fin 2056)
  /-- KEY_LOAD loads a key into a slot, unwrapping it when it is wrapped (R489). -/
  | keyLoad (ring : Fin 65536) (ok : Bool) (data : List Byte)
  /-- KEY_ERASE empties a key slot (R489). -/
  | keyErase (ring : Fin 65536)
  /-- Every job under the old key has ended, so the load or erase completes (R490). -/
  | keyChangeDone (slot : Fin 16384)
  /-- A CIPH_JOB is checked and dispatched to a lane (R491). -/
  | ciphJob (ring : Fin 65536) (ok : Bool) (data : List Byte)
  /-- A cipher job finishes, and its tag is checked on decrypt (R494). -/
  | ciphJobDone (lane : Fin 16) (fault : Bool)
  /-- Every 1 µs AO samples VIN, HOLDUP and current and checks the thresholds (R510). -/
  | supplySample (vin bank : Fin 65536) (iin : Fin 262144)
  /-- The 50 µs mean current exceeds I_CAP + 10 A, so the CX and HX clocks are halved (R511). -/
  | backstop
  /-- The current has stayed below I_CAP for 1 ms, so the backstop releases (R511). -/
  | backstopRelease
  /-- The current exceeds 160 A for 20 µs, which is a module fault (R512). -/
  | overcurrent
  /-- VIN stays above 18 V for 10 µs, so OV is set (R513). -/
  | overvoltage (duration : Word)
  /-- VIN stays above 20 V for 100 µs, which is a module fault (R513). -/
  | overvoltageFault
  /-- A 10 ms window ends with a VIN swing of 0.5 V or more that stayed above VHOLD (R513). -/
  | flicker (lowest : Fin 65536)
  /-- START requests a capacitance test (R523). -/
  | captestStart (who : Party)
  /-- A scheduled or deferred capacitance test becomes due and starts, or is deferred (R523). -/
  | captestTimer
  /-- The bank falls 0.5 V or 2 ms pass, and the result updates C_USED (R523). -/
  | captestDone (v1 v2 : Fin 65536) (energy : Word)
  /-- FORCE_OFF written 1 holds a power domain off, or is refused (R526). -/
  | forceOff (who : Party) (domain : Fin 96)
  /-- FORCE_OFF written 0 returns the domain to wake-policy control (R527). -/
  | forceOffRelease (who : Party) (domain : Fin 96)
  /-- At each 1 ms the modelled energy is scaled to the measured input and charged to the accounts (R539). -/
  | ledgerMsClose (acts : List EnergyShare)
  /-- An account's period ends, so USED returns to 0 (R541). -/
  | accountPeriodEnd (account : Fin 256)
  /-- Every 100 µs the planner adjusts the throttle levels and levers (R543). -/
  | plannerRun
  /-- Every 1 s the totals are copied to AO-reserved HBM (R554). -/
  | ledgerCopy
  /-- Every hour an ENERGY_SNAP entry is written to the flash log (R554). -/
  | energySnap
  /-- The supervisor sets READY to signal that the image is ready (R592). -/
  | bootReady (who : Party)
  /-- Clears Slot A's DEMOTED mark (R592). -/
  | clrDemoteA (who : Party)
  /-- Clears Slot B's DEMOTED mark (R592). -/
  | clrDemoteB (who : Party)
  /-- ERASE erases a slot's commit sector and then its image area (R581). -/
  | imgErase (who : Party) (slot : Fin 2)
  /-- WRITE programs staging pages into a slot (R581). -/
  | imgWrite (who : Party) (slot : Fin 2) (pages : Fin 8192)
  /-- COMMIT checks the image, computes DIGEST and programs the commit record (R581). -/
  | imgCommit (who : Party) (slot : Fin 2)
  /-- WRITE_BCFG programs the boot configuration copy that is not in use (R581). -/
  | writeBcfg (who : Party) (pages : Fin 8192)
  /-- An image command completes and EV0062 is raised (R581). -/
  | imgCmdDone (flash : FlashResult)
  /-- After RUN, a verified image advances FLOOR by blowing fuses (R584). -/
  | floorAdvance (upTo : Fin 65)
  /-- OP REVOKE blows a root's revocation fuse, or is refused (R585). -/
  | rootRevoke (who : Party) (v : Word) (blown : Bool)
  /-- A release bit starts an application core at CX_CORE_ENTRY (R578). -/
  | coreRelease (who : Party) (v : Word)
  /-- DERIVE installs a sealing key in a key slot, or is refused (R587). -/
  | sealDerive (who : Party) (v : Word)
  /-- OP REPORT starts forming an attestation report (R589). -/
  | attReport (who : Party)
  /-- The signed report replaces AO_ATT_OUT and BUSY clears (R589). -/
  | reportDone
  /-- REQ in AO_FLT_REGION requests a region reset (R598). -/
  | regionResetReq (who : Party) (region : Fin 9)
  /-- A block does not answer a request within 1 ms, which is a region fault (R597). -/
  | interconnectTimeout (region : Fin 9)
  /-- A region PLL loses lock for more than 1 µs, which is a region fault (R597). -/
  | pllUnlock (region : Fin 9)
  /-- A KICK write restarts the supervisor watchdog (R620). -/
  | wdogKick (who : Party) (v : Word)
  /-- WD_PERIOD passes without a kick (R604). -/
  | supervisorWatchdog
  /-- A 1 ms logging interval ends and its count is written to the fault log (R344). -/
  | violationLogInterval (cond source : Fin 65536)
  /-- Every 2 s the flash log budget gains a token (R609). -/
  | flashToken
  /-- A write of SEQ brings a log entry unit into AO_FLT_LOG_DATA (R623). -/
  | logSelect (who : Party) (v : Word)
  /-- RUN_REQ requests a Tightrope run (R612). -/
  | tightropeReq (who : Party)
  /-- A scheduled or temperature-triggered Tightrope run becomes due (R612). -/
  | tightropeTimer (mons : List MonReading) (trims : List RegionTrim)
  /-- Every second each region's AGE_EQ_H grows by its weight (R615). -/
  | ageTick
  /-- UPDATE rewrites the calibration set in the other bank (R618). -/
  | calUpdate (who : Party) (core : Bool)
  /-- HOLDOFF expires with PENDING set and one interrupt is sent (R632). -/
  | irqHoldoffExpiry (source : Fin 1024)
  /-- A performance counter wraps, setting OVF and possibly raising the overflow event (R640). -/
  | pmcOverflow (region : Fin 9) (unit : Fin 37) (counter : Fin 8) (after : Word)
  /-- SWEEP copies the counters of the selected regions into a table (R642). -/
  | ccrSweep (who : Party) (dest : Bool) (regions : Fin 512)
  /-- The sweep finishes and the table header is written (R643). -/
  | sweepDone
  /-- EN written 1 starts trace, or is refused (R645). -/
  | traceEnable (who : Party) (v : Word)
  /-- The trace buffer fills with WRAP = 0, so trace stops (R645). -/
  | traceBufferEnd
  /-- The JTAG instruction drives and captures the pins (R647). -/
  | extest (din pins : Dword)
  /-- The JTAG instruction captures the pins without driving them (R647). -/
  | samplePreload (din pins : Dword)
  /-- The JTAG instruction selects the IDCODE register (R647). -/
  | idcode
  /-- The JTAG instruction holds the preloaded outputs (R647). -/
  | clamp (din : Dword)
  /-- The JTAG instruction puts the scanned outputs at high impedance (R647). -/
  | highz (din : Dword)
  /-- The JTAG instruction accesses RISC-V debug transport control (R647). -/
  | dtmcs (v : Word)
  /-- The JTAG instruction accesses the RISC-V debug module interface (R647). -/
  | dmi (v : Dword)
  /-- The JTAG instruction accesses the token buffer and AO_DBG_CMD (R647). -/
  | mailbox (op : MailboxOp)
  /-- The JTAG instruction selects the bypass register (R647). -/
  | bypass (din : Dword)
  /-- CHALLENGE draws a fresh debug challenge (R649). -/
  | debugChallenge (who : Party)
  /-- OPEN starts verifying a debug token (R650). -/
  | debugOpen (who : Party) (mailbox : Bool)
  /-- Token verification ends and the scopes open, or the open is refused (R650). -/
  | debugOpenDone
  /-- CLOSE closes the debug session (R651). -/
  | debugClose (who : Party)
  /-- A challenge expires after 10 minutes unused (R649). -/
  | challengeExpiry
  /-- Every 50 µs the junction sensors are sampled (R668). -/
  | tempSample (readings : List SensorReading)
  /-- A selected edge on a GPIO raises EV0100 (R672). -/
  | gpioEdge (pin : Fin 16) (level : Bool)
  /-- An auxiliary rail exceeds 400 mA and is turned off (R662). -/
  | auxOverload (rail : Fin 2)
  /-- Every 100 ms an overloaded auxiliary rail is retried (R662). -/
  | auxRetry (rail : Fin 2)
  /-- SMBus command 0x01 sets the read address (R664). -/
  | smbSetAddress (addr : Word) (pec : Bool)
  /-- SMBus command 0x02 returns the register and advances the address (R664). -/
  | smbBlockRead (pec : Bool)
  /-- A read of the Alert Response Address releases SMB_ALERT_N (R664). -/
  | smbAlertResponse
  /-- SA_CMD install loads an SA from the staging words (R89). -/
  | macsecSaInstall (region : Fin 4) (v : Word)
  /-- SA_CMD erase removes an SA (R89). -/
  | macsecSaErase (region : Fin 4) (v : Word)
  /-- The SA command completes, the staging words are cleared and the result is raised (R89). -/
  | macsecSaDone (region : Fin 4)
  /-- A transmit SA reaches its PN threshold (R91). -/
  | macsecPnThreshold (lp : Fin 512) (an : Fin 4)
  /-- Egress queues are empty for 10 µs, so transmit LPI is asserted (R86). -/
  | lpiEntry (lp : Fin 512) (rx : Bool := false)
  /-- Tw_sys_tx passes after LPI, so the held frame is sent (R86). -/
  | lpiExit (lp : Fin 512) (rx : Bool := false)
  /-- A write to a register field with no row of its own acts according to its access code (R8). -/
  | registerWrite (writes : List RegWrite)
  /-- The last flash operation of a calibration update finishes, so the new values take effect, a CALIBRATION entry is written and EV0083 reports the result (R618). -/
  | calUpdateDone (flash : FlashResult)
  /-- Restoration of a resetting region finishes, the fence is released and EV0070 is raised with DONE (R600). -/
  | regionResetDone (region : Fin 9)
  /-- The Ringmaster takes a machine check, which is a failed start in BOOT and a module fault in RUN and RIDE-THROUGH (R603). -/
  | supervisorMachineCheck
  /-- An application core takes a machine check during BOOT, which counts as a failed start (R573). -/
  | coreMachineCheck
  /-- An uncorrectable error in AO memory or AO registers is a module fault with code 0x0903 (R603). -/
  | aoUncorrectableError
  /-- An HBM controller or PHY fault, as distinct from a data error, is a module fault with code 0x0904 and can stop a vault under R606 (R603). -/
  | hbmControllerFault
  /-- An uncorrectable ECC error in a block's configuration or state memory that the block cannot rebuild is a region fault (R597). -/
  | controlStorageError (region : Fin 9)
  /-- A correctable error is reported by a drive or seen on a host or drive link, and is counted while the link stays up, with link-layer retry on host links (R343 code 0x08) (R340). -/
  | correctableError (link : LinkRef)
  deriving DecidableEq, Repr

end Sys2Proof
end

