-- ==== Sys2Proof/Decode.lean ====
section
/-! DEFINITION. The commands that a word spells by the bits of the table.  The table gives no row any bits: a command reaches the module as an access, a packet or an event, not as a word it fetches. -/

namespace Sys2Proof

/-- The command that the `nbits` low bits of `w` spell: none, since no row of the table has bits. -/
def decodeTableWord (_nbits _w : Nat) : Option Instr := none

end Sys2Proof
end

