-- ==== Sys2Proof/Config.lean ====
section
/-! DEFINITION. What the spec leaves open: values it does not state, and primitives it names without giving (other standards' ciphers, hashes and signatures).  Each is a constant with no body, so that no proof can see a value of it. -/

namespace Sys2Proof.Config

/-- A fresh open value, by the number of the draw (`State.draws`).  Log entry 4. -/
opaque freeValue : Nat → Nat

/-- SHAKE256 of a byte string, `n` bytes of output (R559 ff. name it; its text is FIPS 202's).  Log entry 5. -/
opaque shake256 : List Byte → Nat → List Byte

/-- Falcon-1024 verification: public key, message digest, signature (R570, R650).  Log entry 5. -/
opaque falconVerify : List Byte → List Byte → List Byte → Bool

/-- The device identity secret of 256 bits in fuses, written at manufacture (R586).  Log entry 5. -/
opaque identitySecret : List Byte

/-- The Falcon-1024 public key, and a padded signature, of the key pair a seed gives (R586, R588).  Log entry 5. -/
opaque falconPublic : List Byte → List Byte
opaque falconSign : List Byte → List Byte → List Byte

/-- The four root digests of 32 bytes in fuses, programmed at manufacture; empty where a root is not programmed (R585).  Log entry 15. -/
opaque rootDigest : Nat → List Byte

/-- The block ciphers and their modes (R486, R491): mode, direction, key, initial value, associated data, data; answers the output and the tag.  Log entry 5. -/
opaque cipher : Nat → Bool → List Byte → List Byte → List Byte → List Byte → List Byte × List Byte

/-- Key unwrapping under RFC 3394 (R489): wrapping key, wrapped bytes; none where the integrity check fails.  Log entry 5. -/
opaque keyUnwrap : List Byte → List Byte → Option (List Byte)

/-- What MACsec protects or validates a frame with (R87, R88): suite, SAK and salt words, SSCI, SCI, association number, PN, confidentiality offset, and the bytes that stand before the SecTAG. -/
structure MacsecArgs where
  suite : Nat
  key : List Nat
  ssci : Nat
  sci : Nat
  an : Nat
  pn : Nat
  offset : Nat
  clear : Nat

/-- MACsec protection of a frame (R87).  Log entry 5. -/
opaque macsec : MacsecArgs → List Byte → List Byte

/-- MACsec validation and removal of a frame (R87); none where the ICV check fails.  Log entry 5. -/
opaque macsecOpen : MacsecArgs → List Byte → Option (List Byte)

/-- Settings of R87 that no register of the spec holds (log entry 59): the replay window of a receive channel, the confidentiality offset of a logical port (a number modulo 3 stands for 0, 30 or 50), whether its VLAN tags stand before the SecTAG, and the SCI of its transmit channel. -/
opaque replayWindow : Nat → Nat
opaque confOffset : Nat → Nat
opaque tagsBefore : Nat → Bool
opaque txSci : Nat → Nat

/-- Tw_sys_tx in ns of a speed's PHY (R86), which the clauses of IEEE 802.3 give.  Log entry 59. -/
opaque twSysTx : Nat → Nat

/-- The static energy of a domain in 1 ms, in pJ (R538): its static and temperature coefficients of the calibration set, its POWER, its Tj, and the trim of its rail in steps of 2.5 mV.  Log entry 61. -/
opaque staticEnergy : Nat → Nat → Nat → Nat → Nat → Nat

/-- AO's own energy in 1 ms, in pJ (R538).  Log entry 61. -/
opaque aoEnergy : Nat

/-- The sensor of its region that is nearest to a domain (R538), counted from the region's first.  Log entry 61. -/
opaque nearSensor : Nat → Nat

/-- The four bucket hash functions of the exact-match tables (R198): function, key.  Log entry 6. -/
opaque bucketHash : Nat → List Nat → Nat

/-- The microword at an address of the microcode ROM (R396), whose contents the spec does not document.  Log entry 7. -/
opaque romWord : Nat → Nat

end Sys2Proof.Config
end

