-- ==== Sys2Proof/Machine/Map.lean ====
section
/-! DEFINITION. Sparse data by key: a list of (key, value) pairs in one canonical form, keys strictly rising and no entry equal to what an unlisted key reads as, so that equal contents are equal lists. -/

namespace Sys2Proof.Machine

/-- Sparse data: the listed keys with their values. -/
abbrev Map (α : Type) := List (Nat × α)

/-- What key `k` reads as; an unlisted key reads as `d`. -/
def Map.get {α : Type} (d : α) (k : Nat) : Map α → α
  | [] => d
  | (j, v) :: m => if j = k then v else Map.get d k m

/-- Put value `v` at key `k`, before the first greater key. -/
def Map.put {α : Type} (k : Nat) (v : α) : Map α → Map α
  | [] => [(k, v)]
  | (j, w) :: m => if j < k then (j, w) :: Map.put k v m else if j = k then (k, v) :: m else (k, v) :: (j, w) :: m

/-- Drop key `k`. -/
def Map.del {α : Type} (k : Nat) : Map α → Map α
  | [] => []
  | (j, w) :: m => if j = k then Map.del k m else (j, w) :: Map.del k m

/-- Write value `v` at key `k`; writing what an unlisted key reads as drops the entry. -/
def Map.set {α : Type} [DecidableEq α] (d : α) (k : Nat) (v : α) (m : Map α) : Map α :=
  if v = d then Map.del k m else Map.put k v m

/-- Every key of the map is above `k`, and the keys rise strictly. -/
def Map.rising {α : Type} (k : Nat) : Map α → Bool
  | [] => true
  | (j, _) :: m => decide (k < j) && Map.rising j m

/-- The keys of the map rise strictly. -/
def Map.sorted {α : Type} : Map α → Bool
  | [] => true
  | (j, _) :: m => Map.rising j m

/-- No entry equals what an unlisted key reads as. -/
def Map.tight {α : Type} [DecidableEq α] (d : α) (m : Map α) : Bool :=
  m.all (fun e => decide (e.2 ≠ d))

/-- The canonical form. -/
def Map.wf {α : Type} [DecidableEq α] (d : α) (m : Map α) : Bool :=
  Map.sorted m && Map.tight d m

end Sys2Proof.Machine
end

