-- ==== Sys2Proof/Machine/Fields.lean ====
section
/-! DEFINITION. Every register field of the module, each with its width, its access code (R8) and its reset value, as the tables of the spec's chapters give them.  A field of a register that the spec instances many times is ONE `Fld`; the copy is chosen by an index.
Fields the spec reserves have no `Fld`: they read as 0 and ignore writes (R6). -/

namespace Sys2Proof.Machine

/-- The access codes of R8. -/
inductive Access where
  | ro | rw | wo | w1c | w1s | rc | rwl | rws | ros
  deriving DecidableEq, Repr

/-- A register field: its number in the register file, its width in bits, its access code, its reset value in copy `i`, and its region: the base region, with the copies one region holds where the register stands in several regions (0: in one). -/
structure Fld where
  id : Nat
  width : Nat
  acc : Access
  rst : Nat → Nat := fun _ => 0
  home : Nat := 0
  per : Nat := 0

/-- The region of copy `i` of a field. -/
def Fld.region (f : Fld) (i : Nat) : Nat := if f.per = 0 then f.home else f.home + i / f.per

/-- Reset value of HX_PCIE_FN_XLATE.TT_BASE (R328): 2 x i for PF slot i of its link. -/
def ttBaseReset (i : Nat) : Nat := 2 * (i % 4)
/-- Reset value of HX_SQ_CTRL.CLASS_MASK (R395, R410): SQ0 to SQ3 class bit 0, SQ4 to SQ7 bit 1, and so on. -/
def sqClassMaskReset (i : Nat) : Nat := 2 ^ (i / 4)
/-- HX_FNV FI reads the function's own index (R681). -/
def fnvFiReset (i : Nat) : Nat := i
/-- KIND of counter unit u of region r (R634); 0 where the region has no such unit.  The index is 37 r + u. -/
def unitKindReset (i : Nat) : Nat :=
  let r := i / 37
  let u := i % 37
  if r = 0 then (if u = 0 then 0x01 else 0)
  else if r ≤ 4 then (if u < 16 then 0x02 else if u = 16 then 0x03 else if u = 17 then 0x04 else if u = 18 then 0x05 else 0)
  else if r = 5 then (if u < 32 then 0x06 else if u < 34 then 0x07 else if u < 36 then 0x08 else 0x09)
  else if r = 6 then (if u < 16 then 0x0A else if u = 16 then 0x0B else if u < 19 then 0x0C else if u < 21 then 0x0D
    else if u = 21 then 0x0E else if u = 22 then 0x0F else if u = 23 then 0x10 else 0)
  else if r = 7 then (if u < 32 then 0x11 else if u < 34 then 0x12 else if u = 34 then 0x13 else 0)
  else (if u < 4 then 0x14 else 0)

namespace F

-- AO_DEVICE_ID (R2)
def AO_DEVICE_ID_PART : Fld := { id := 0, width := 16, acc := .ro, rst := fun _ => 33064 }
def AO_DEVICE_ID_REV : Fld := { id := 1, width := 8, acc := .ro, rst := fun _ => 16 }
def AO_DEVICE_ID_DEVID : Fld := { id := 2, width := 2, acc := .ro }
-- AO_MODULE_STATE (R23)
def AO_MODULE_STATE_CAUSE : Fld := { id := 3, width := 8, acc := .ro }
def AO_MODULE_STATE_PENDING : Fld := { id := 4, width := 3, acc := .ro }
def AO_MODULE_STATE_TRANSITIONS : Fld := { id := 5, width := 8, acc := .ro }
def AO_MODULE_STATE_PREV : Fld := { id := 6, width := 3, acc := .ro }
def AO_MODULE_STATE_STATE : Fld := { id := 7, width := 3, acc := .ro, rst := fun _ => 1 }
-- AO_MODULE_STATE_TS (R24)
def AO_MODULE_STATE_TS_TS : Fld := { id := 8, width := 64, acc := .ro }
-- AO_MODULE_CTRL (R25)
def AO_MODULE_CTRL_KEY : Fld := { id := 9, width := 16, acc := .wo }
def AO_MODULE_CTRL_HALT_REQ : Fld := { id := 10, width := 1, acc := .wo }
def AO_MODULE_CTRL_SNET_REQ : Fld := { id := 11, width := 1, acc := .wo }
def AO_MODULE_CTRL_RESTART_REQ : Fld := { id := 12, width := 1, acc := .wo }
-- AO_TB_NOW (R51)
def AO_TB_NOW_NOW : Fld := { id := 13, width := 64, acc := .ro }
-- AO_TB_CTRL (R52)
def AO_TB_CTRL_SERVO_EN : Fld := { id := 14, width := 1, acc := .rwl, rst := fun _ => 1 }
def AO_TB_CTRL_REF_SEL : Fld := { id := 15, width := 2, acc := .rw }
-- AO_TB_RATE (R53)
def AO_TB_RATE_RATE : Fld := { id := 16, width := 32, acc := .rw }
-- AO_TB_OFFSET (R54)
def AO_TB_OFFSET_OFFSET : Fld := { id := 17, width := 64, acc := .wo }
-- AO_TB_STATUS (R55)
def AO_TB_STATUS_ERR_EST : Fld := { id := 18, width := 20, acc := .ro, rst := fun _ => 1048575 }
def AO_TB_STATUS_SLEWING : Fld := { id := 19, width := 1, acc := .ro }
def AO_TB_STATUS_TPLL_LOCK : Fld := { id := 20, width := 1, acc := .ro }
def AO_TB_STATUS_REF_ACTIVE : Fld := { id := 21, width := 2, acc := .ro }
def AO_TB_STATUS_SYNC : Fld := { id := 22, width := 2, acc := .ro }
-- AO_TB_SYNC_SET (R56)
def AO_TB_SYNC_SET_ERR_EST : Fld := { id := 23, width := 20, acc := .wo }
def AO_TB_SYNC_SET_SYNC : Fld := { id := 24, width := 2, acc := .wo }
-- AO_PPS_CTRL (R57)
def AO_PPS_CTRL_WIDTH : Fld := { id := 25, width := 16, acc := .rw, rst := fun _ => 10000 }
def AO_PPS_CTRL_IN_POL : Fld := { id := 26, width := 1, acc := .rw }
def AO_PPS_CTRL_IN_EN : Fld := { id := 27, width := 1, acc := .rw }
def AO_PPS_CTRL_OUT_EN : Fld := { id := 28, width := 1, acc := .rw }
-- AO_PPS_IN_TS (R57)
def AO_PPS_IN_TS_TS : Fld := { id := 29, width := 64, acc := .ro }
-- AO_WAKE_POLICY (R65)
def AO_WAKE_POLICY_IDLE_TIME : Fld := { id := 30, width := 16, acc := .rwl, rst := fun _ => 100 }
def AO_WAKE_POLICY_WAKE_LEAD : Fld := { id := 31, width := 8, acc := .rwl, rst := fun _ => 10 }
def AO_WAKE_POLICY_MODE : Fld := { id := 32, width := 2, acc := .rwl }
-- AO_WAKE_STATUS (R66)
def AO_WAKE_STATUS_WAKES : Fld := { id := 33, width := 16, acc := .rc }
def AO_WAKE_STATUS_LATE : Fld := { id := 34, width := 1, acc := .w1c }
def AO_WAKE_STATUS_PINNED : Fld := { id := 35, width := 1, acc := .ro }
def AO_WAKE_STATUS_POWER : Fld := { id := 36, width := 2, acc := .ro, rst := fun _ => 3 }
-- AO_PROG_CMD (R192)
def AO_PROG_CMD_OP : Fld := { id := 37, width := 4, acc := .wo }
def AO_PROG_CMD_PAGES : Fld := { id := 38, width := 13, acc := .wo }
-- AO_PROG_TSWAP (R192)
def AO_PROG_TSWAP_TSWAP : Fld := { id := 39, width := 64, acc := .rw }
-- AO_PROG_STATUS (R193)
def AO_PROG_STATUS_STATE : Fld := { id := 40, width := 3, acc := .ro }
def AO_PROG_STATUS_LGEN : Fld := { id := 41, width := 1, acc := .ro }
def AO_PROG_STATUS_RESULT : Fld := { id := 42, width := 8, acc := .ro }
def AO_PROG_STATUS_SEQ : Fld := { id := 43, width := 16, acc := .ro }
-- AO_UCODE_CMD (R413)
def AO_UCODE_CMD_OP : Fld := { id := 44, width := 4, acc := .wo }
def AO_UCODE_CMD_PAGES : Fld := { id := 45, width := 13, acc := .wo }
-- AO_UCODE_STATUS (R413)
def AO_UCODE_STATUS_STATE : Fld := { id := 46, width := 3, acc := .ro }
def AO_UCODE_STATUS_RESULT : Fld := { id := 47, width := 8, acc := .ro }
def AO_UCODE_STATUS_SEQ : Fld := { id := 48, width := 16, acc := .ro }
-- AO_SUP_CFG (R529)
def AO_SUP_CFG_VHOLD : Fld := { id := 49, width := 10, acc := .rwl, rst := fun _ => 280 }
def AO_SUP_CFG_VVAULT : Fld := { id := 50, width := 10, acc := .rwl, rst := fun _ => 208 }
def AO_SUP_CFG_VFLOOR : Fld := { id := 51, width := 10, acc := .rwl, rst := fun _ => 200 }
-- AO_SUP_LIM (R530)
def AO_SUP_LIM_HYST : Fld := { id := 52, width := 6, acc := .rwl, rst := fun _ => 20 }
def AO_SUP_LIM_DWELL : Fld := { id := 53, width := 10, acc := .rwl, rst := fun _ => 100 }
def AO_SUP_LIM_I_CAP : Fld := { id := 54, width := 8, acc := .rwl, rst := fun _ => 150 }
def AO_SUP_LIM_TEST_EN : Fld := { id := 55, width := 1, acc := .rwl }
def AO_SUP_LIM_DERATE : Fld := { id := 56, width := 3, acc := .rwl, rst := fun _ => 2 }
-- AO_SUP_STATUS (R531)
def AO_SUP_STATUS_OV : Fld := { id := 57, width := 1, acc := .ro }
def AO_SUP_STATUS_BACKSTOP : Fld := { id := 58, width := 1, acc := .ro }
def AO_SUP_STATUS_TESTING : Fld := { id := 59, width := 1, acc := .ro }
def AO_SUP_STATUS_CAP_SRC : Fld := { id := 60, width := 1, acc := .ro }
def AO_SUP_STATUS_BANK_LOW : Fld := { id := 61, width := 1, acc := .ro }
def AO_SUP_STATUS_ISO : Fld := { id := 62, width := 1, acc := .ro }
def AO_SUP_STATUS_ALARM : Fld := { id := 63, width := 1, acc := .ro }
def AO_SUP_STATUS_BELOW_VHOLD : Fld := { id := 64, width := 1, acc := .ro }
-- AO_SUP_VIN (R532)
def AO_SUP_VIN_VIN_MV : Fld := { id := 65, width := 16, acc := .ro }
def AO_SUP_VIN_BANK_MV : Fld := { id := 66, width := 16, acc := .ro }
-- AO_SUP_IIN (R532)
def AO_SUP_IIN_IIN_MA : Fld := { id := 67, width := 18, acc := .ro }
-- AO_SUP_RESERVE (R532)
def AO_SUP_RESERVE_RESERVE : Fld := { id := 68, width := 32, acc := .ro }
-- AO_SUP_CAP (R532)
def AO_SUP_CAP_C_USED : Fld := { id := 69, width := 32, acc := .ro }
-- AO_SUP_CAPTEST (R533)
def AO_SUP_CAPTEST_RESULT : Fld := { id := 70, width := 8, acc := .ro }
def AO_SUP_CAPTEST_START : Fld := { id := 71, width := 1, acc := .w1s }
-- AO_SUP_STAT (R534)
def AO_SUP_STAT_COUNT : Fld := { id := 72, width := 64, acc := .ros }
-- AO_PD_CTRL (R535)
def AO_PD_CTRL_FORCE_OFF : Fld := { id := 73, width := 1, acc := .rws }
def AO_PD_CTRL_REFUSED : Fld := { id := 74, width := 1, acc := .w1c }
def AO_PD_CTRL_BLOCKED : Fld := { id := 75, width := 16, acc := .rc }
-- AO_LED_CFG (R555)
def AO_LED_CFG_CERT_FRAC : Fld := { id := 76, width := 6, acc := .rwl, rst := fun _ => 40 }
def AO_LED_CFG_RT_THR : Fld := { id := 77, width := 4, acc := .rwl, rst := fun _ => 8 }
-- AO_LED_VMODEL (R556)
def AO_LED_VMODEL_VAULT_BASE : Fld := { id := 78, width := 16, acc := .rwl, rst := fun _ => 41536 }
def AO_LED_VMODEL_E_REC : Fld := { id := 79, width := 16, acc := .rwl, rst := fun _ => 2340 }
-- AO_LED_STATUS (R557)
def AO_LED_STATUS_CERT_HOLD : Fld := { id := 80, width := 1, acc := .ro }
def AO_LED_STATUS_MODEL_DRIFT : Fld := { id := 81, width := 1, acc := .ro }
def AO_LED_STATUS_CERT_LIMIT : Fld := { id := 82, width := 23, acc := .ro }
def AO_LED_STATUS_DIRTY_REQ : Fld := { id := 83, width := 32, acc := .ro, rst := fun _ => 41536 }
def AO_LED_STATUS_CERT_BASIS : Fld := { id := 84, width := 32, acc := .ro }
def AO_LED_STATUS_SNAP_AGE : Fld := { id := 85, width := 32, acc := .ro }
def AO_LED_STATUS_E_IN : Fld := { id := 86, width := 64, acc := .ros }
-- AO_LED_EA (R558)
def AO_LED_EA_EN : Fld := { id := 87, width := 1, acc := .rw }
def AO_LED_EA_BE_CLASSES : Fld := { id := 88, width := 12, acc := .rw, rst := fun _ => 4095 }
def AO_LED_EA_CEIL : Fld := { id := 89, width := 16, acc := .rw }
def AO_LED_EA_PERIOD : Fld := { id := 90, width := 16, acc := .rw, rst := fun _ => 3600 }
def AO_LED_EA_BUDGET : Fld := { id := 91, width := 64, acc := .rw }
def AO_LED_EA_USED : Fld := { id := 92, width := 64, acc := .ro }
def AO_LED_EA_TOTAL : Fld := { id := 93, width := 64, acc := .ros }
def AO_LED_EA_OVERRUN : Fld := { id := 94, width := 64, acc := .ros }
def AO_LED_EA_THR : Fld := { id := 95, width := 4, acc := .ro }
def AO_LED_EA_OVER_CEIL : Fld := { id := 96, width := 1, acc := .ro }
def AO_LED_EA_OVER_BUDGET : Fld := { id := 97, width := 1, acc := .ro }
def AO_LED_EA_LAST_CAUSE : Fld := { id := 98, width := 8, acc := .ro }
-- AO_LED_LP_EA (R559)
def AO_LED_LP_EA_EA : Fld := { id := 99, width := 8, acc := .rw }
-- AO_LED_PD_EA (R559)
def AO_LED_PD_EA_EA : Fld := { id := 100, width := 8, acc := .rw }
-- AO_BOOT_STATUS (R591)
def AO_BOOT_STATUS_UNVERIFIED : Fld := { id := 101, width := 1, acc := .ro }
def AO_BOOT_STATUS_SLOT_TIE : Fld := { id := 102, width := 1, acc := .ro }
def AO_BOOT_STATUS_FALLBACK : Fld := { id := 103, width := 1, acc := .ro }
def AO_BOOT_STATUS_SLOT : Fld := { id := 104, width := 1, acc := .ro }
def AO_BOOT_STATUS_A_VALID : Fld := { id := 105, width := 1, acc := .ro }
def AO_BOOT_STATUS_B_VALID : Fld := { id := 106, width := 1, acc := .ro }
def AO_BOOT_STATUS_A_DEMOTED : Fld := { id := 107, width := 1, acc := .ro }
def AO_BOOT_STATUS_B_DEMOTED : Fld := { id := 108, width := 1, acc := .ro }
def AO_BOOT_STATUS_VERIFY : Fld := { id := 109, width := 4, acc := .ro }
def AO_BOOT_STATUS_FAILS : Fld := { id := 110, width := 2, acc := .ro }
def AO_BOOT_STATUS_REASON : Fld := { id := 111, width := 8, acc := .ro }
-- AO_BOOT_SEQ_A (R591)
def AO_BOOT_SEQ_A_SEQ : Fld := { id := 112, width := 32, acc := .ro }
-- AO_BOOT_SEQ_B (R591)
def AO_BOOT_SEQ_B_SEQ : Fld := { id := 113, width := 32, acc := .ro }
-- AO_BOOT_CTRL (R592)
def AO_BOOT_CTRL_READY : Fld := { id := 114, width := 1, acc := .w1s }
def AO_BOOT_CTRL_CLR_DEMOTE_B : Fld := { id := 115, width := 1, acc := .w1s }
def AO_BOOT_CTRL_CLR_DEMOTE_A : Fld := { id := 116, width := 1, acc := .w1s }
-- AO_IMG_CMD (R593)
def AO_IMG_CMD_OP : Fld := { id := 117, width := 4, acc := .wo }
def AO_IMG_CMD_SLOT : Fld := { id := 118, width := 1, acc := .wo }
def AO_IMG_CMD_PAGES : Fld := { id := 119, width := 13, acc := .wo }
-- AO_IMG_ARG (R593)
def AO_IMG_ARG_OFFSET : Fld := { id := 120, width := 14, acc := .rw }
-- AO_IMG_STATUS (R593)
def AO_IMG_STATUS_STATE : Fld := { id := 121, width := 3, acc := .ro }
def AO_IMG_STATUS_SIG_OK : Fld := { id := 122, width := 1, acc := .ro }
def AO_IMG_STATUS_RESULT : Fld := { id := 123, width := 8, acc := .ro }
def AO_IMG_STATUS_SEQ : Fld := { id := 124, width := 16, acc := .ro }
-- AO_ATT_IN (R595)
def AO_ATT_IN_WORD : Fld := { id := 125, width := 32, acc := .rw }
-- AO_ATT_OUT (R595)
def AO_ATT_OUT_WORD : Fld := { id := 126, width := 32, acc := .ro }
-- AO_ATT_PUBKEY (R595)
def AO_ATT_PUBKEY_WORD : Fld := { id := 127, width := 32, acc := .ro }
-- AO_SEAL_LABEL (R595)
def AO_SEAL_LABEL_LABEL : Fld := { id := 128, width := 32, acc := .rw }
-- AO_ATT_CMD (R595)
def AO_ATT_CMD_OP : Fld := { id := 129, width := 4, acc := .wo }
-- AO_ATT_STATUS (R595)
def AO_ATT_STATUS_BUSY : Fld := { id := 130, width := 1, acc := .ro }
def AO_ATT_STATUS_READY : Fld := { id := 131, width := 1, acc := .ro }
def AO_ATT_STATUS_RESULT : Fld := { id := 132, width := 8, acc := .ro }
def AO_ATT_STATUS_SEAL_RESULT : Fld := { id := 133, width := 8, acc := .ro }
-- AO_FUSE_STATUS (R595)
def AO_FUSE_STATUS_FLOOR : Fld := { id := 134, width := 7, acc := .ro }
def AO_FUSE_STATUS_RESULT : Fld := { id := 135, width := 4, acc := .ro }
def AO_FUSE_STATUS_REVOKED : Fld := { id := 136, width := 4, acc := .ro }
def AO_FUSE_STATUS_ROOTS_SET : Fld := { id := 137, width := 4, acc := .ro }
-- AO_FUSE_CMD (R595)
def AO_FUSE_CMD_KEY : Fld := { id := 138, width := 16, acc := .wo }
def AO_FUSE_CMD_OP : Fld := { id := 139, width := 4, acc := .wo }
def AO_FUSE_CMD_ROOT : Fld := { id := 140, width := 2, acc := .wo }
-- AO_SEAL_CMD (R595)
def AO_SEAL_CMD_OP : Fld := { id := 141, width := 4, acc := .wo }
def AO_SEAL_CMD_MODE : Fld := { id := 142, width := 4, acc := .wo }
def AO_SEAL_CMD_SLOT : Fld := { id := 143, width := 14, acc := .wo }
-- AO_FLT_CFG (R620)
def AO_FLT_CFG_WD_PERIOD : Fld := { id := 144, width := 16, acc := .rwl, rst := fun _ => 2000 }
def AO_FLT_CFG_RR_LIMIT : Fld := { id := 145, width := 4, acc := .rwl, rst := fun _ => 3 }
def AO_FLT_CFG_MF_LIMIT : Fld := { id := 146, width := 4, acc := .rwl, rst := fun _ => 3 }
-- AO_FLT_WDOG (R620)
def AO_FLT_WDOG_KICK : Fld := { id := 147, width := 32, acc := .wo }
-- AO_FLT_STATUS (R621)
def AO_FLT_STATUS_MF_COUNT : Fld := { id := 148, width := 4, acc := .ros }
def AO_FLT_STATUS_LAST_MF : Fld := { id := 149, width := 16, acc := .ros }
-- AO_FLT_LOCKVIOL (R685)
def AO_FLT_LOCKVIOL_COUNT : Fld := { id := 150, width := 64, acc := .ro }
-- AO_FLT_REGION (R622)
def AO_FLT_REGION_REQ : Fld := { id := 151, width := 1, acc := .w1s }
def AO_FLT_REGION_RESETTING : Fld := { id := 152, width := 1, acc := .ro }
def AO_FLT_REGION_RESETS_HOUR : Fld := { id := 153, width := 4, acc := .ro }
def AO_FLT_REGION_FENCED : Fld := { id := 154, width := 10, acc := .rc }
def AO_FLT_REGION_LAST_CAUSE : Fld := { id := 155, width := 16, acc := .ros }
-- AO_FLT_LOG_SEL (R623)
def AO_FLT_LOG_SEL_SEQ : Fld := { id := 156, width := 32, acc := .rw }
-- AO_FLT_LOG_UNIT (R623)
def AO_FLT_LOG_UNIT_UNIT : Fld := { id := 157, width := 8, acc := .rw }
-- AO_FLT_LOG_DATA (R623)
def AO_FLT_LOG_DATA_WORD : Fld := { id := 158, width := 32, acc := .ro }
-- AO_FLT_LOG_STATUS (R623)
def AO_FLT_LOG_STATUS_HELD : Fld := { id := 159, width := 1, acc := .ro }
-- AO_FLT_LOG_NEWEST (R623)
def AO_FLT_LOG_NEWEST_NEWEST : Fld := { id := 160, width := 32, acc := .ro }
-- AO_FLT_LOG_STAT (R623)
def AO_FLT_LOG_STAT_COUNT : Fld := { id := 161, width := 64, acc := .ro }
-- AO_TR_CFG (R624)
def AO_TR_CFG_RUN_REQ : Fld := { id := 162, width := 1, acc := .w1s }
def AO_TR_CFG_RUNNING : Fld := { id := 163, width := 1, acc := .ro }
def AO_TR_CFG_TARGET : Fld := { id := 164, width := 8, acc := .rwl, rst := fun _ => 20 }
def AO_TR_CFG_LIFE_WARN : Fld := { id := 165, width := 10, acc := .rw, rst := fun _ => 24 }
-- AO_TR_REGION (R625)
def AO_TR_REGION_TRIM : Fld := { id := 166, width := 6, acc := .ro }
def AO_TR_REGION_CEIL : Fld := { id := 167, width := 5, acc := .ro, rst := fun _ => 16 }
def AO_TR_REGION_END_OF_LIFE : Fld := { id := 168, width := 1, acc := .ro }
def AO_TR_REGION_BASELINE_RESET : Fld := { id := 169, width := 1, acc := .ro }
def AO_TR_REGION_VALID : Fld := { id := 170, width := 1, acc := .ro }
def AO_TR_REGION_REMAIN_MONTHS : Fld := { id := 171, width := 10, acc := .ro }
def AO_TR_REGION_MARGIN : Fld := { id := 172, width := 16, acc := .ro }
def AO_TR_REGION_WORST_DD : Fld := { id := 173, width := 16, acc := .ro }
-- AO_TR_AGE (R625)
def AO_TR_AGE_AGE_EQ_H : Fld := { id := 174, width := 64, acc := .ros }
-- AO_TR_MON (R625)
def AO_TR_MON_D : Fld := { id := 175, width := 16, acc := .ro }
def AO_TR_MON_SLACK : Fld := { id := 176, width := 16, acc := .ro }
-- AO_CAL_CMD (R626)
def AO_CAL_CMD_OP : Fld := { id := 177, width := 4, acc := .wo }
def AO_CAL_CMD_SRC : Fld := { id := 178, width := 1, acc := .wo }
-- AO_CAL_STATUS (R626)
def AO_CAL_STATUS_STATE : Fld := { id := 179, width := 3, acc := .ro }
def AO_CAL_STATUS_NO_CAL : Fld := { id := 180, width := 1, acc := .ro }
def AO_CAL_STATUS_CAL_PENDING : Fld := { id := 181, width := 1, acc := .ro }
def AO_CAL_STATUS_RESULT : Fld := { id := 182, width := 8, acc := .ro }
def AO_CAL_STATUS_CAL_SEQ : Fld := { id := 183, width := 16, acc := .ro }
-- AO_CAL_ADDR (R626)
def AO_CAL_ADDR_ADDR : Fld := { id := 184, width := 64, acc := .rw }
-- AO_EVT_ROUTE (R629)
def AO_EVT_ROUTE_IRQ_EN : Fld := { id := 185, width := 1, acc := .rw }
def AO_EVT_ROUTE_RING_EN : Fld := { id := 186, width := 1, acc := .rw }
def AO_EVT_ROUTE_IRQ_KIND : Fld := { id := 187, width := 2, acc := .rw }
def AO_EVT_ROUTE_HOLDOFF : Fld := { id := 188, width := 8, acc := .rw }
def AO_EVT_ROUTE_TRACE : Fld := { id := 189, width := 1, acc := .rw }
def AO_EVT_ROUTE_RING : Fld := { id := 190, width := 16, acc := .rw }
def AO_EVT_ROUTE_CORE : Fld := { id := 191, width := 5, acc := .rw }
def AO_EVT_ROUTE_VEC : Fld := { id := 192, width := 11, acc := .rw }
def AO_EVT_ROUTE_IDENTITY : Fld := { id := 193, width := 8, acc := .rw }
def AO_EVT_ROUTE_COUNT : Fld := { id := 194, width := 16, acc := .rc }
def AO_EVT_ROUTE_NO_RING : Fld := { id := 195, width := 12, acc := .rc }
def AO_EVT_ROUTE_PENDING : Fld := { id := 196, width := 1, acc := .ro }
-- AO_DBG_CMD (R652)
def AO_DBG_CMD_OP : Fld := { id := 197, width := 4, acc := .wo }
def AO_DBG_CMD_SRC : Fld := { id := 198, width := 1, acc := .wo }
-- AO_DBG_STATUS (R652)
def AO_DBG_STATUS_STATE : Fld := { id := 199, width := 1, acc := .ro }
def AO_DBG_STATUS_SCOPE : Fld := { id := 200, width := 3, acc := .ro }
def AO_DBG_STATUS_DEBUG_SINCE_BOOT : Fld := { id := 201, width := 1, acc := .ro }
def AO_DBG_STATUS_SUPV_LOCK : Fld := { id := 202, width := 1, acc := .ro }
def AO_DBG_STATUS_RESULT : Fld := { id := 203, width := 8, acc := .ro }
def AO_DBG_STATUS_SEQ : Fld := { id := 204, width := 16, acc := .ro }
-- AO_DBG_CHALLENGE (R652)
def AO_DBG_CHALLENGE_WORD : Fld := { id := 205, width := 32, acc := .ro }
-- AO_CCR_CMD (R644)
def AO_CCR_CMD_OP : Fld := { id := 206, width := 4, acc := .wo }
def AO_CCR_CMD_DEST : Fld := { id := 207, width := 1, acc := .wo }
def AO_CCR_CMD_REGIONS : Fld := { id := 208, width := 9, acc := .wo }
-- AO_CCR_STATUS (R644)
def AO_CCR_STATUS_STATE : Fld := { id := 209, width := 1, acc := .ro }
def AO_CCR_STATUS_RESULT : Fld := { id := 210, width := 8, acc := .ro }
def AO_CCR_STATUS_SEQ : Fld := { id := 211, width := 16, acc := .ro }
-- AO_PKG_GPIO (R672)
def AO_PKG_GPIO_EDGE : Fld := { id := 212, width := 2, acc := .rw }
def AO_PKG_GPIO_FUNC : Fld := { id := 213, width := 2, acc := .rwl }
def AO_PKG_GPIO_OE : Fld := { id := 214, width := 1, acc := .rw }
def AO_PKG_GPIO_OUT : Fld := { id := 215, width := 1, acc := .rw }
def AO_PKG_GPIO_IN : Fld := { id := 216, width := 1, acc := .ro }
def AO_PKG_GPIO_OD : Fld := { id := 217, width := 1, acc := .rw }
-- AO_PKG_TEMP (R673)
def AO_PKG_TEMP_VALID : Fld := { id := 218, width := 1, acc := .ro }
def AO_PKG_TEMP_TEMP : Fld := { id := 219, width := 16, acc := .ro }
-- AO_PKG_THERM (R674)
def AO_PKG_THERM_WARN : Fld := { id := 220, width := 8, acc := .rwl, rst := fun _ => 100 }
def AO_PKG_THERM_HOTTEST : Fld := { id := 221, width := 8, acc := .ro }
def AO_PKG_THERM_TRIPPED : Fld := { id := 222, width := 1, acc := .ros }
def AO_PKG_THERM_WARNING : Fld := { id := 223, width := 1, acc := .ro }
-- AO_PKG_LID (R674)
def AO_PKG_LID_BREACH : Fld := { id := 224, width := 1, acc := .ros }
def AO_PKG_LID_INTACT : Fld := { id := 225, width := 1, acc := .ro }
-- AO_PKG_AUX (R674)
def AO_PKG_AUX_V3P3_FAULT : Fld := { id := 226, width := 1, acc := .w1c }
def AO_PKG_AUX_V1P8_FAULT : Fld := { id := 227, width := 1, acc := .w1c }
-- PA_SERDES_LANE_EQ (R76)
def PA_SERDES_LANE_EQ_RX_EYE : Fld := { id := 228, width := 8, acc := .ro, home := 1, per := 128 }
def PA_SERDES_LANE_EQ_TX_TAPS_IDX : Fld := { id := 229, width := 8, acc := .ro, home := 1, per := 128 }
def PA_SERDES_LANE_EQ_TRAIN_EN : Fld := { id := 230, width := 1, acc := .rw, rst := fun _ => 1, home := 1, per := 128 }
def PA_SERDES_LANE_EQ_PRESET : Fld := { id := 231, width := 4, acc := .rw, home := 1, per := 128 }
-- PA_MAC_PORT_CFG (R71)
def PA_MAC_PORT_CFG_STITCH : Fld := { id := 232, width := 1, acc := .rw, home := 1, per := 32 }
def PA_MAC_PORT_CFG_BREAKOUT : Fld := { id := 233, width := 2, acc := .rw, home := 1, per := 32 }
-- PA_MAC_SUBPORT_CFG (R72)
def PA_MAC_SUBPORT_CFG_EN : Fld := { id := 234, width := 1, acc := .rw, home := 1, per := 128 }
def PA_MAC_SUBPORT_CFG_AN_EN : Fld := { id := 235, width := 1, acc := .rw, rst := fun _ => 1, home := 1, per := 128 }
def PA_MAC_SUBPORT_CFG_LPI_EN : Fld := { id := 236, width := 1, acc := .rw, home := 1, per := 128 }
def PA_MAC_SUBPORT_CFG_MACSEC_EN : Fld := { id := 237, width := 1, acc := .rw, home := 1, per := 128 }
def PA_MAC_SUBPORT_CFG_MAX_FRAME : Fld := { id := 238, width := 14, acc := .rw, rst := fun _ => 1522, home := 1, per := 128 }
def PA_MAC_SUBPORT_CFG_FEC : Fld := { id := 239, width := 4, acc := .rw, rst := fun _ => 15, home := 1, per := 128 }
def PA_MAC_SUBPORT_CFG_SPEED : Fld := { id := 240, width := 4, acc := .rw, home := 1, per := 128 }
-- PA_MAC_LINK_STATUS (R80)
def PA_MAC_LINK_STATUS_FLAPS : Fld := { id := 241, width := 8, acc := .rc, home := 1, per := 128 }
def PA_MAC_LINK_STATUS_FEC_RES : Fld := { id := 242, width := 4, acc := .ro, home := 1, per := 128 }
def PA_MAC_LINK_STATUS_SPEED_RES : Fld := { id := 243, width := 4, acc := .ro, home := 1, per := 128 }
def PA_MAC_LINK_STATUS_TX_LPI : Fld := { id := 244, width := 1, acc := .ro, home := 1, per := 128 }
def PA_MAC_LINK_STATUS_RX_LPI : Fld := { id := 245, width := 1, acc := .ro, home := 1, per := 128 }
def PA_MAC_LINK_STATUS_REMOTE_FAULT : Fld := { id := 246, width := 1, acc := .ro, home := 1, per := 128 }
def PA_MAC_LINK_STATUS_LOCAL_FAULT : Fld := { id := 247, width := 1, acc := .ro, home := 1, per := 128 }
def PA_MAC_LINK_STATUS_STATE : Fld := { id := 248, width := 3, acc := .ro, home := 1, per := 128 }
-- PA_MAC_LB_CFG (R64)
def PA_MAC_LB_CFG_SCHED_SRC : Fld := { id := 249, width := 1, acc := .rw, home := 1, per := 32 }
def PA_MAC_LB_CFG_SIZE : Fld := { id := 250, width := 9, acc := .rw, rst := fun _ => 8, home := 1, per := 32 }
-- PA_MAC_LB_DROP (R62)
def PA_MAC_LB_DROP_COUNT : Fld := { id := 251, width := 64, acc := .ro, home := 1, per := 32 }
-- PA_MAC_CNT (R94)
def PA_MAC_CNT_COUNT : Fld := { id := 252, width := 64, acc := .ro, home := 1, per := 3968 }
-- PA_MACSEC_STAGE (R88)
def PA_MACSEC_STAGE_WORD : Fld := { id := 253, width := 32, acc := .wo, home := 1, per := 16 }
-- PA_MACSEC_SA_CMD (R88)
def PA_MACSEC_SA_CMD_OP : Fld := { id := 254, width := 2, acc := .wo, home := 1, per := 1 }
def PA_MACSEC_SA_CMD_DIR : Fld := { id := 255, width := 1, acc := .wo, home := 1, per := 1 }
def PA_MACSEC_SA_CMD_PORT : Fld := { id := 256, width := 5, acc := .wo, home := 1, per := 1 }
def PA_MACSEC_SA_CMD_SC : Fld := { id := 257, width := 4, acc := .wo, home := 1, per := 1 }
def PA_MACSEC_SA_CMD_AN : Fld := { id := 258, width := 2, acc := .wo, home := 1, per := 1 }
def PA_MACSEC_SA_CMD_SUITE : Fld := { id := 259, width := 2, acc := .wo, home := 1, per := 1 }
def PA_MACSEC_SA_CMD_TX_USE : Fld := { id := 260, width := 1, acc := .wo, home := 1, per := 1 }
-- PA_PRS_ST_CTL (R103)
def PA_PRS_ST_CTL_DEFAULT_NEXT : Fld := { id := 261, width := 6, acc := .rw, home := 1, per := 64 }
def PA_PRS_ST_CTL_END : Fld := { id := 262, width := 1, acc := .rw, rst := fun _ => 1, home := 1, per := 64 }
def PA_PRS_ST_CTL_HDR_EN : Fld := { id := 263, width := 1, acc := .rw, home := 1, per := 64 }
def PA_PRS_ST_CTL_HDR_BIT : Fld := { id := 264, width := 5, acc := .rw, home := 1, per := 64 }
def PA_PRS_ST_CTL_SEL_W : Fld := { id := 265, width := 4, acc := .rw, home := 1, per := 64 }
def PA_PRS_ST_CTL_SEL_OFF : Fld := { id := 266, width := 11, acc := .rw, home := 1, per := 64 }
def PA_PRS_ST_CTL_DEF_END : Fld := { id := 267, width := 1, acc := .rw, rst := fun _ => 1, home := 1, per := 64 }
-- PA_PRS_ST_ADV (R104)
def PA_PRS_ST_ADV_ADV_CONST : Fld := { id := 268, width := 8, acc := .rw, home := 1, per := 64 }
def PA_PRS_ST_ADV_ADV_SCALE : Fld := { id := 269, width := 2, acc := .rw, home := 1, per := 64 }
def PA_PRS_ST_ADV_ADV_FIELD_EN : Fld := { id := 270, width := 1, acc := .rw, home := 1, per := 64 }
def PA_PRS_ST_ADV_ADV_FIELD_W : Fld := { id := 271, width := 3, acc := .rw, home := 1, per := 64 }
def PA_PRS_ST_ADV_ADV_FIELD_OFF : Fld := { id := 272, width := 11, acc := .rw, home := 1, per := 64 }
-- PA_PRS_ST_EXT (R105)
def PA_PRS_ST_EXT_EN : Fld := { id := 273, width := 1, acc := .rw, home := 1, per := 256 }
def PA_PRS_ST_EXT_DST : Fld := { id := 274, width := 7, acc := .rw, home := 1, per := 256 }
def PA_PRS_ST_EXT_OFF : Fld := { id := 275, width := 11, acc := .rw, home := 1, per := 256 }
def PA_PRS_ST_EXT_W : Fld := { id := 276, width := 5, acc := .rw, home := 1, per := 256 }
def PA_PRS_ST_EXT_MODE : Fld := { id := 277, width := 2, acc := .rw, home := 1, per := 256 }
-- PA_PRS_ST_TR_MATCH (R106)
def PA_PRS_ST_TR_MATCH_VALUE : Fld := { id := 278, width := 16, acc := .rw, home := 1, per := 1024 }
def PA_PRS_ST_TR_MATCH_MASK : Fld := { id := 279, width := 16, acc := .rw, home := 1, per := 1024 }
-- PA_PRS_ST_TR_NEXT (R106)
def PA_PRS_ST_TR_NEXT_VALID : Fld := { id := 280, width := 1, acc := .rw, home := 1, per := 1024 }
def PA_PRS_ST_TR_NEXT_END : Fld := { id := 281, width := 1, acc := .rw, home := 1, per := 1024 }
def PA_PRS_ST_TR_NEXT_NEXT : Fld := { id := 282, width := 6, acc := .rw, home := 1, per := 1024 }
-- PA_PRS_START (R107)
def PA_PRS_START_STATE : Fld := { id := 283, width := 6, acc := .rw, home := 1, per := 129 }
-- PA_PRS_HASH_SEED (R114)
def PA_PRS_HASH_SEED_SEED : Fld := { id := 284, width := 32, acc := .rw, rst := fun _ => 4294967295, home := 1, per := 1 }
-- PA_PRS_HASH_HDR_VAL (R114)
def PA_PRS_HASH_HDR_VAL_VAL : Fld := { id := 285, width := 32, acc := .rw, home := 1, per := 8 }
-- PA_PRS_HASH_HDR_MASK (R114)
def PA_PRS_HASH_HDR_MASK_MASK : Fld := { id := 286, width := 32, acc := .rw, home := 1, per := 8 }
-- PA_PRS_HASH_FIELDS (R114)
def PA_PRS_HASH_FIELDS_EN : Fld := { id := 287, width := 1, acc := .rw, home := 1, per := 8 }
def PA_PRS_HASH_FIELDS_ADDR_A : Fld := { id := 288, width := 7, acc := .rw, home := 1, per := 8 }
def PA_PRS_HASH_FIELDS_ADDR_B : Fld := { id := 289, width := 7, acc := .rw, home := 1, per := 8 }
def PA_PRS_HASH_FIELDS_ADDR_N : Fld := { id := 290, width := 2, acc := .rw, home := 1, per := 8 }
def PA_PRS_HASH_FIELDS_PORT_EN : Fld := { id := 291, width := 1, acc := .rw, home := 1, per := 8 }
def PA_PRS_HASH_FIELDS_PORTS : Fld := { id := 292, width := 7, acc := .rw, home := 1, per := 8 }
-- PA_PRS_HASH_PROTO (R114)
def PA_PRS_HASH_PROTO_TABLE : Fld := { id := 293, width := 4, acc := .rw, home := 1, per := 8 }
def PA_PRS_HASH_PROTO_PROTO_EN : Fld := { id := 294, width := 1, acc := .rw, home := 1, per := 8 }
def PA_PRS_HASH_PROTO_PROTO : Fld := { id := 295, width := 7, acc := .rw, home := 1, per := 8 }
-- PA_PRS_IND (R115)
def PA_PRS_IND_ODD : Fld := { id := 296, width := 16, acc := .rw, home := 1, per := 4096 }
def PA_PRS_IND_EVEN : Fld := { id := 297, width := 16, acc := .rw, home := 1, per := 4096 }
-- PA_PRS_CPU_TGT (R121)
def PA_PRS_CPU_TGT_LP : Fld := { id := 298, width := 10, acc := .rw, rst := fun _ => 1023, home := 1, per := 256 }
def PA_PRS_CPU_TGT_CLASS : Fld := { id := 299, width := 4, acc := .rw, home := 1, per := 256 }
def PA_PRS_CPU_TGT_TRUNC : Fld := { id := 300, width := 2, acc := .rw, home := 1, per := 256 }
def PA_PRS_CPU_TGT_RING : Fld := { id := 301, width := 16, acc := .rw, home := 1, per := 256 }
-- PA_PRS_XPROF (R123)
def PA_PRS_XPROF_RING : Fld := { id := 302, width := 16, acc := .rw, home := 1, per := 64 }
def PA_PRS_XPROF_SAMPLE_ID : Fld := { id := 303, width := 16, acc := .rw, home := 1, per := 64 }
def PA_PRS_XPROF_F0 : Fld := { id := 304, width := 7, acc := .rw, home := 1, per := 64 }
def PA_PRS_XPROF_F1 : Fld := { id := 305, width := 7, acc := .rw, home := 1, per := 64 }
def PA_PRS_XPROF_F2 : Fld := { id := 306, width := 7, acc := .rw, home := 1, per := 64 }
def PA_PRS_XPROF_F3 : Fld := { id := 307, width := 7, acc := .rw, home := 1, per := 64 }
def PA_PRS_XPROF_F4 : Fld := { id := 308, width := 7, acc := .rw, home := 1, per := 64 }
def PA_PRS_XPROF_F5 : Fld := { id := 309, width := 7, acc := .rw, home := 1, per := 64 }
def PA_PRS_XPROF_F6 : Fld := { id := 310, width := 7, acc := .rw, home := 1, per := 64 }
def PA_PRS_XPROF_F7 : Fld := { id := 311, width := 7, acc := .rw, home := 1, per := 64 }
def PA_PRS_XPROF_VALID : Fld := { id := 312, width := 1, acc := .rw, home := 1, per := 64 }
def PA_PRS_XPROF_NFIELDS : Fld := { id := 313, width := 4, acc := .rw, home := 1, per := 64 }
def PA_PRS_XPROF_F8 : Fld := { id := 314, width := 7, acc := .rw, home := 1, per := 64 }
def PA_PRS_XPROF_F9 : Fld := { id := 315, width := 7, acc := .rw, home := 1, per := 64 }
-- PA_PRS_CNT (R126)
def PA_PRS_CNT_COUNT : Fld := { id := 316, width := 64, acc := .ro, home := 1, per := 11 }
-- FX_REPL_MIR_SESSION (R122)
def FX_REPL_MIR_SESSION_DEST_LP : Fld := { id := 317, width := 10, acc := .rw, rst := fun _ => 1023, home := 5 }
def FX_REPL_MIR_SESSION_CLASS : Fld := { id := 318, width := 4, acc := .rw, home := 5 }
def FX_REPL_MIR_SESSION_TRUNC : Fld := { id := 319, width := 16, acc := .rw, home := 5 }
def FX_REPL_MIR_SESSION_ONE_IN : Fld := { id := 320, width := 32, acc := .rw, home := 5 }
-- FX_REPL_GROUP (R233)
def FX_REPL_GROUP_VALID : Fld := { id := 321, width := 1, acc := .rw, home := 5 }
def FX_REPL_GROUP_PRUNE_SRC : Fld := { id := 322, width := 1, acc := .rw, rst := fun _ => 1, home := 5 }
def FX_REPL_GROUP_COUNT : Fld := { id := 323, width := 10, acc := .rw, home := 5 }
def FX_REPL_GROUP_BASE : Fld := { id := 324, width := 18, acc := .rw, home := 5 }
-- FX_REPL_MEMBER (R233)
def FX_REPL_MEMBER_ODD_VALID : Fld := { id := 325, width := 1, acc := .rw, home := 5 }
def FX_REPL_MEMBER_ODD_LP : Fld := { id := 326, width := 10, acc := .rw, home := 5 }
def FX_REPL_MEMBER_EVEN_VALID : Fld := { id := 327, width := 1, acc := .rw, home := 5 }
def FX_REPL_MEMBER_EVEN_LP : Fld := { id := 328, width := 10, acc := .rw, home := 5 }
-- PA_LV_CELL_KONST (R167)
def PA_LV_CELL_KONST_KONST : Fld := { id := 329, width := 32, acc := .ro, home := 1, per := 4096 }
-- PA_LV_CELL_KEYPROF (R167)
def PA_LV_CELL_KEYPROF_WORD : Fld := { id := 330, width := 32, acc := .ro, home := 1, per := 16384 }
-- PA_LV_CELL_EXC (R168)
def PA_LV_CELL_EXC_COUNT : Fld := { id := 331, width := 16, acc := .rc, home := 1, per := 256 }
def PA_LV_CELL_EXC_LAST_CODE : Fld := { id := 332, width := 7, acc := .ro, home := 1, per := 256 }
-- PA_LV_CELL_ECC (R195)
def PA_LV_CELL_ECC_CORR : Fld := { id := 333, width := 16, acc := .rc, home := 1, per := 256 }
def PA_LV_CELL_ECC_UNCORR : Fld := { id := 334, width := 8, acc := .rc, home := 1, per := 256 }
def PA_LV_CELL_ECC_LAST_BAD : Fld := { id := 335, width := 8, acc := .ro, home := 1, per := 256 }
-- PA_LVC_PIPE_CFG (R169)
def PA_LVC_PIPE_CFG_ENTRY_BUNDLE : Fld := { id := 336, width := 8, acc := .ro, home := 1, per := 16 }
def PA_LVC_PIPE_CFG_RECIRC_BUNDLE : Fld := { id := 337, width := 8, acc := .ro, home := 1, per := 16 }
def PA_LVC_PIPE_CFG_EXC_DROP : Fld := { id := 338, width := 1, acc := .rw, home := 1, per := 16 }
-- PA_LVC_PIPE_BR (R169)
def PA_LVC_PIPE_BR_BR_VALID3 : Fld := { id := 339, width := 1, acc := .ro, home := 1, per := 32 }
def PA_LVC_PIPE_BR_BR_CONT3 : Fld := { id := 340, width := 7, acc := .ro, home := 1, per := 32 }
def PA_LVC_PIPE_BR_BR_VALID2 : Fld := { id := 341, width := 1, acc := .ro, home := 1, per := 32 }
def PA_LVC_PIPE_BR_BR_CONT2 : Fld := { id := 342, width := 7, acc := .ro, home := 1, per := 32 }
def PA_LVC_PIPE_BR_BR_VALID1 : Fld := { id := 343, width := 1, acc := .ro, home := 1, per := 32 }
def PA_LVC_PIPE_BR_BR_CONT1 : Fld := { id := 344, width := 7, acc := .ro, home := 1, per := 32 }
def PA_LVC_PIPE_BR_BR_VALID0 : Fld := { id := 345, width := 1, acc := .ro, home := 1, per := 32 }
def PA_LVC_PIPE_BR_BR_CONT0 : Fld := { id := 346, width := 7, acc := .ro, home := 1, per := 32 }
-- PA_LVC_CNT_CTL (R170)
def PA_LVC_CNT_CTL_BUSY : Fld := { id := 347, width := 1, acc := .ro, home := 1, per := 4 }
def PA_LVC_CNT_CTL_INDEX : Fld := { id := 348, width := 17, acc := .rw, home := 1, per := 4 }
-- PA_LVC_CNT_PKTS (R170)
def PA_LVC_CNT_PKTS_PKTS : Fld := { id := 349, width := 64, acc := .ro, home := 1, per := 4 }
-- PA_LVC_CNT_BYTES (R170)
def PA_LVC_CNT_BYTES_BYTES : Fld := { id := 350, width := 64, acc := .ro, home := 1, per := 4 }
-- PA_LVC_DROP_CNT (R171)
def PA_LVC_DROP_CNT_COUNT : Fld := { id := 351, width := 64, acc := .ro, home := 1, per := 256 }
-- PA_LVC_EXC_CNT (R171)
def PA_LVC_EXC_CNT_COUNT : Fld := { id := 352, width := 64, acc := .ro, home := 1, per := 16 }
-- PA_LVC_EGR_IGN (R171)
def PA_LVC_EGR_IGN_COUNT : Fld := { id := 353, width := 64, acc := .ro, home := 1, per := 1 }
-- PA_LVC_PROG_STATUS (R194)
def PA_LVC_PROG_STATUS_OLD_BUSY : Fld := { id := 354, width := 1, acc := .ro, home := 1, per := 16 }
def PA_LVC_PROG_STATUS_LOADED : Fld := { id := 355, width := 1, acc := .ro, home := 1, per := 16 }
def PA_LVC_PROG_STATUS_EPOCH : Fld := { id := 356, width := 1, acc := .ro, home := 1, per := 16 }
-- PA_LVC_FAULT_DISC (R195)
def PA_LVC_FAULT_DISC_COUNT : Fld := { id := 357, width := 64, acc := .ro, home := 1, per := 1 }
-- PA_MTR_CFG (R267)
def PA_MTR_CFG_CIR : Fld := { id := 358, width := 19, acc := .rw, home := 1, per := 16384 }
def PA_MTR_CFG_PIR : Fld := { id := 359, width := 19, acc := .rw, home := 1, per := 16384 }
def PA_MTR_CFG_CBS : Fld := { id := 360, width := 18, acc := .rw, rst := fun _ => 1, home := 1, per := 16384 }
def PA_MTR_CFG_EN : Fld := { id := 361, width := 1, acc := .rw, home := 1, per := 16384 }
def PA_MTR_CFG_PBS : Fld := { id := 362, width := 18, acc := .rw, rst := fun _ => 1, home := 1, per := 16384 }
-- PA_MTR_STAT (R267)
def PA_MTR_STAT_COUNT : Fld := { id := 363, width := 64, acc := .ro, home := 1, per := 3 }
-- PD_STC_LINK (R292)
def PD_STC_LINK_NB_DEVID : Fld := { id := 364, width := 2, acc := .ro, home := 4 }
def PD_STC_LINK_STATE : Fld := { id := 365, width := 2, acc := .ro, home := 4 }
def PD_STC_LINK_NB_BOOT_ID : Fld := { id := 366, width := 16, acc := .ro, home := 4 }
-- PD_STC_CTRL (R293)
def PD_STC_CTRL_LOST_TIME : Fld := { id := 367, width := 4, acc := .rwl, rst := fun _ => 10, home := 4 }
def PD_STC_CTRL_MASTER : Fld := { id := 368, width := 2, acc := .ro, home := 4 }
def PD_STC_CTRL_TIME_STATE : Fld := { id := 369, width := 2, acc := .ro, home := 4 }
def PD_STC_CTRL_BOOT_ID : Fld := { id := 370, width := 16, acc := .ro, home := 4 }
-- FX_BUF_CFG (R242)
def FX_BUF_CFG_WAKE_RESERVE : Fld := { id := 371, width := 16, acc := .rwl, rst := fun _ => 128, home := 5 }
def FX_BUF_CFG_MIN_AWAKE : Fld := { id := 372, width := 5, acc := .rwl, rst := fun _ => 2, home := 5 }
-- FX_BUF_BG_STATUS (R243)
def FX_BUF_BG_STATUS_USED : Fld := { id := 373, width := 17, acc := .ro, home := 5 }
def FX_BUF_BG_STATUS_QUAR : Fld := { id := 374, width := 8, acc := .ro, home := 5 }
def FX_BUF_BG_STATUS_DRAINING : Fld := { id := 375, width := 1, acc := .ro, home := 5 }
def FX_BUF_BG_STATUS_POWER : Fld := { id := 376, width := 2, acc := .ro, rst := fun _ => 3, home := 5 }
-- FX_ADM_STATUS (R230)
def FX_ADM_STATUS_GUARANTEE : Fld := { id := 377, width := 20, acc := .ro, home := 5 }
-- FX_ADM_FREE (R230)
def FX_ADM_FREE_F : Fld := { id := 378, width := 21, acc := .ro, rst := fun _ => 1048576, home := 5 }
-- FX_ADM_PORT (R236)
def FX_ADM_PORT_CT_ING : Fld := { id := 379, width := 1, acc := .rw, home := 5 }
-- FX_ADM_SRC (R240)
def FX_ADM_SRC_ECN_EN : Fld := { id := 380, width := 1, acc := .rw, home := 5 }
def FX_ADM_SRC_ECN_CONT : Fld := { id := 381, width := 7, acc := .rw, home := 5 }
def FX_ADM_SRC_CSUM_EN : Fld := { id := 382, width := 1, acc := .rw, home := 5 }
def FX_ADM_SRC_CSUM_CONT : Fld := { id := 383, width := 7, acc := .rw, home := 5 }
def FX_ADM_SRC_V4_BIT : Fld := { id := 384, width := 5, acc := .rw, home := 5 }
def FX_ADM_SRC_REPL_EN : Fld := { id := 385, width := 1, acc := .rw, home := 5 }
def FX_ADM_SRC_REPL_CONT : Fld := { id := 386, width := 7, acc := .rw, home := 5 }
-- FX_ADM_GSTAT (R247)
def FX_ADM_GSTAT_COUNT : Fld := { id := 387, width := 64, acc := .ro, home := 5 }
-- FX_ADM_QCFG (R229)
def FX_ADM_QCFG_CT_EN : Fld := { id := 388, width := 1, acc := .rw, home := 5 }
def FX_ADM_QCFG_ECN_EN : Fld := { id := 389, width := 1, acc := .rw, home := 5 }
def FX_ADM_QCFG_K : Fld := { id := 390, width := 4, acc := .rw, rst := fun _ => 13, home := 5 }
def FX_ADM_QCFG_MIN : Fld := { id := 391, width := 20, acc := .rw, home := 5 }
def FX_ADM_QCFG_ECN_HI : Fld := { id := 392, width := 16, acc := .rw, rst := fun _ => 65535, home := 5 }
def FX_ADM_QCFG_ECN_LO : Fld := { id := 393, width := 16, acc := .rw, rst := fun _ => 65535, home := 5 }
-- FX_ADM_QSTAT (R246)
def FX_ADM_QSTAT_COUNT : Fld := { id := 394, width := 64, acc := .ro, home := 5 }
-- FX_TM_GATE_CFG (R257)
def FX_TM_GATE_CFG_ADMIN_EN : Fld := { id := 395, width := 1, acc := .rw, home := 5 }
def FX_TM_GATE_CFG_CHANGE : Fld := { id := 396, width := 1, acc := .w1s, home := 5 }
def FX_TM_GATE_CFG_CANCEL : Fld := { id := 397, width := 1, acc := .w1s, home := 5 }
def FX_TM_GATE_CFG_PEND : Fld := { id := 398, width := 1, acc := .ro, home := 5 }
def FX_TM_GATE_CFG_OPER_BANK : Fld := { id := 399, width := 1, acc := .ro, home := 5 }
def FX_TM_GATE_CFG_OPER_EN : Fld := { id := 400, width := 1, acc := .ro, home := 5 }
def FX_TM_GATE_CFG_ADMIN_LEN : Fld := { id := 401, width := 9, acc := .rw, rst := fun _ => 1, home := 5 }
def FX_TM_GATE_CFG_ADMIN_CYCLE : Fld := { id := 402, width := 30, acc := .rw, rst := fun _ => 1000000, home := 5 }
def FX_TM_GATE_CFG_ADMIN_BASE : Fld := { id := 403, width := 64, acc := .rw, home := 5 }
def FX_TM_GATE_CFG_GATES_NOW : Fld := { id := 404, width := 4, acc := .ro, rst := fun _ => 15, home := 5 }
def FX_TM_GATE_CFG_OTHERS_CLOSED : Fld := { id := 405, width := 1, acc := .ro, home := 5 }
def FX_TM_GATE_CFG_ENTRY_NOW : Fld := { id := 406, width := 8, acc := .ro, home := 5 }
def FX_TM_GATE_CFG_OPER_CHANGE_TIME : Fld := { id := 407, width := 64, acc := .ro, home := 5 }
-- FX_TM_PORT_CFG (R263)
def FX_TM_PORT_CFG_SHAPE_EN : Fld := { id := 408, width := 1, acc := .rw, home := 5 }
def FX_TM_PORT_CFG_DOWN_HOLD : Fld := { id := 409, width := 1, acc := .rw, home := 5 }
def FX_TM_PORT_CFG_BURST : Fld := { id := 410, width := 14, acc := .rw, rst := fun _ => 15, home := 5 }
def FX_TM_PORT_CFG_EXPRESS : Fld := { id := 411, width := 12, acc := .rw, home := 5 }
def FX_TM_PORT_CFG_RATE : Fld := { id := 412, width := 19, acc := .rw, rst := fun _ => 400000, home := 5 }
-- FX_TM_QDEPTH_SAMPLE (R271)
def FX_TM_QDEPTH_SAMPLE_EN : Fld := { id := 413, width := 1, acc := .rw, home := 5 }
def FX_TM_QDEPTH_SAMPLE_PERIOD : Fld := { id := 414, width := 10, acc := .rw, rst := fun _ => 1000, home := 5 }
def FX_TM_QDEPTH_SAMPLE_RING : Fld := { id := 415, width := 16, acc := .rw, home := 5 }
def FX_TM_QDEPTH_SAMPLE_BASE_QI : Fld := { id := 416, width := 14, acc := .rw, home := 5 }
def FX_TM_QDEPTH_SAMPLE_COUNT : Fld := { id := 417, width := 7, acc := .rw, rst := fun _ => 1, home := 5 }
def FX_TM_QDEPTH_SAMPLE_STRIDE : Fld := { id := 418, width := 11, acc := .rw, rst := fun _ => 1, home := 5 }
-- FX_TM_GSTAT (R272)
def FX_TM_GSTAT_COUNT : Fld := { id := 419, width := 64, acc := .ro, home := 5 }
-- FX_TM_QSCHED (R262)
def FX_TM_QSCHED_SHAPE_EN : Fld := { id := 420, width := 1, acc := .rw, home := 5 }
def FX_TM_QSCHED_BURST : Fld := { id := 421, width := 14, acc := .rw, rst := fun _ => 15, home := 5 }
def FX_TM_QSCHED_QUANTUM : Fld := { id := 422, width := 15, acc := .rw, rst := fun _ => 24, home := 5 }
def FX_TM_QSCHED_RATE : Fld := { id := 423, width := 19, acc := .rw, rst := fun _ => 400000, home := 5 }
-- FX_TM_QSTAT (R272)
def FX_TM_QSTAT_COUNT : Fld := { id := 424, width := 64, acc := .ro, home := 5 }
-- FX_GCL_ENTRY (R252)
def FX_GCL_ENTRY_GATES : Fld := { id := 425, width := 4, acc := .rw, rst := fun _ => 15, home := 5 }
def FX_GCL_ENTRY_CLOSE_OTHERS : Fld := { id := 426, width := 1, acc := .rw, home := 5 }
def FX_GCL_ENTRY_INTERVAL : Fld := { id := 427, width := 27, acc := .rw, rst := fun _ => 1, home := 5 }
-- FX_TBE_TBL_CFG (R201)
def FX_TBE_TBL_CFG_EN : Fld := { id := 428, width := 1, acc := .rw, home := 5 }
def FX_TBE_TBL_CFG_SCOPE : Fld := { id := 429, width := 1, acc := .rw, home := 5 }
def FX_TBE_TBL_CFG_KIND : Fld := { id := 430, width := 2, acc := .rw, home := 5 }
def FX_TBE_TBL_CFG_KW : Fld := { id := 431, width := 4, acc := .rw, home := 5 }
def FX_TBE_TBL_CFG_SIZE : Fld := { id := 432, width := 21, acc := .rw, home := 5 }
def FX_TBE_TBL_CFG_AGE_EN : Fld := { id := 433, width := 1, acc := .rw, home := 5 }
def FX_TBE_TBL_CFG_ON_EXIST : Fld := { id := 434, width := 1, acc := .rw, home := 5 }
def FX_TBE_TBL_CFG_FULL_PRED_EN : Fld := { id := 435, width := 1, acc := .rw, home := 5 }
def FX_TBE_TBL_CFG_FULL_PRED : Fld := { id := 436, width := 5, acc := .rw, home := 5 }
def FX_TBE_TBL_CFG_AGE_PERIOD : Fld := { id := 437, width := 24, acc := .rw, rst := fun _ => 100000, home := 5 }
def FX_TBE_TBL_CFG_LEARN_RING : Fld := { id := 438, width := 16, acc := .rw, home := 5 }
def FX_TBE_TBL_CFG_LRING_EN : Fld := { id := 439, width := 1, acc := .rw, home := 5 }
def FX_TBE_TBL_CFG_STITCH_SHARE : Fld := { id := 440, width := 1, acc := .rw, home := 5 }
def FX_TBE_TBL_CFG_NOROOM_HI : Fld := { id := 441, width := 32, acc := .rw, home := 5 }
def FX_TBE_TBL_CFG_NOROOM_LO : Fld := { id := 442, width := 32, acc := .rw, home := 5 }
-- FX_TBE_STAGE (R208)
def FX_TBE_STAGE_WORD : Fld := { id := 443, width := 32, acc := .rw, home := 5 }
-- FX_TBE_CMD_INDEX (R208)
def FX_TBE_CMD_INDEX_INDEX : Fld := { id := 444, width := 20, acc := .rw, home := 5 }
-- FX_TBE_CMD (R208)
def FX_TBE_CMD_OP : Fld := { id := 445, width := 4, acc := .wo, home := 5 }
def FX_TBE_CMD_REGIONS : Fld := { id := 446, width := 4, acc := .wo, home := 5 }
def FX_TBE_CMD_TABLE : Fld := { id := 447, width := 6, acc := .wo, home := 5 }
-- FX_TBE_RESULT (R208)
def FX_TBE_RESULT_BUSY : Fld := { id := 448, width := 1, acc := .ro, home := 5 }
def FX_TBE_RESULT_CODE : Fld := { id := 449, width := 8, acc := .ro, home := 5 }
def FX_TBE_RESULT_SEQ : Fld := { id := 450, width := 16, acc := .ro, home := 5 }
-- FX_TBE_TBL_STAT (R219)
def FX_TBE_TBL_STAT_COUNT : Fld := { id := 451, width := 64, acc := .ro, home := 5 }
-- FX_TBE_TBL_STAT2 (R219)
def FX_TBE_TBL_STAT2_COUNT : Fld := { id := 452, width := 64, acc := .ro, home := 5 }
-- FX_STC_SRC (R294)
def FX_STC_SRC_EN : Fld := { id := 453, width := 1, acc := .rw, home := 5 }
def FX_STC_SRC_CONT : Fld := { id := 454, width := 7, acc := .rw, home := 5 }
def FX_STC_SRC_BRIDGE_EXT : Fld := { id := 455, width := 1, acc := .rw, home := 5 }
-- FX_STC_ROUTE (R295)
def FX_STC_ROUTE_ACTIVE : Fld := { id := 456, width := 8, acc := .ro, home := 5 }
def FX_STC_ROUTE_REJOIN_PEND : Fld := { id := 457, width := 8, acc := .ro, home := 5 }
def FX_STC_ROUTE_MEMBERS : Fld := { id := 458, width := 8, acc := .rw, home := 5 }
-- FX_STC_STAT (R296)
def FX_STC_STAT_COUNT : Fld := { id := 459, width := 64, acc := .ro, home := 5 }
-- MX_HBM_PART (R316)
def MX_HBM_PART_WC_STACKS : Fld := { id := 460, width := 4, acc := .rwl, rst := fun _ => 15, home := 8 }
def MX_HBM_PART_WC_SIZE : Fld := { id := 461, width := 5, acc := .rwl, rst := fun _ => 16, home := 8 }
-- MX_HBM_STACK_CTRL (R317)
def MX_HBM_STACK_CTRL_STATE : Fld := { id := 462, width := 2, acc := .ro, home := 8 }
def MX_HBM_STACK_CTRL_OFF : Fld := { id := 463, width := 1, acc := .rw, home := 8 }
-- MX_HBM_ECC (R318)
def MX_HBM_ECC_COUNT : Fld := { id := 464, width := 64, acc := .ro, home := 8 }
-- CX_CPORT_CFG (R319)
def CX_CPORT_CFG_BASE_RING : Fld := { id := 465, width := 16, acc := .rw, home := 7 }
def CX_CPORT_CFG_NRINGS : Fld := { id := 466, width := 7, acc := .rw, rst := fun _ => 1, home := 7 }
-- CX_CPORT_NO_RING (R319)
def CX_CPORT_NO_RING_COUNT : Fld := { id := 467, width := 64, acc := .ro, home := 7 }
-- CX_CORE_RELEASE (R594)
def CX_CORE_RELEASE_REL : Fld := { id := 468, width := 32, acc := .w1s, home := 7 }
-- CX_CORE_ENTRY (R594)
def CX_CORE_ENTRY_ENTRY : Fld := { id := 469, width := 64, acc := .rwl, home := 7 }
-- CX_DBG_TRACE (R646)
def CX_DBG_TRACE_EN : Fld := { id := 470, width := 1, acc := .rw, home := 7 }
def CX_DBG_TRACE_WRAP : Fld := { id := 471, width := 1, acc := .rw, home := 7 }
def CX_DBG_TRACE_CORE_MASK : Fld := { id := 472, width := 32, acc := .rw, home := 7 }
def CX_DBG_TRACE_BASE : Fld := { id := 473, width := 64, acc := .rw, home := 7 }
def CX_DBG_TRACE_SIZE : Fld := { id := 474, width := 16, acc := .rw, rst := fun _ => 1, home := 7 }
def CX_DBG_TRACE_WPTR : Fld := { id := 475, width := 32, acc := .ro, home := 7 }
def CX_DBG_TRACE_LOST : Fld := { id := 476, width := 32, acc := .rc, home := 7 }
-- HX_PCIE_LINK_CFG (R345)
def HX_PCIE_LINK_CFG_BIFUR : Fld := { id := 477, width := 1, acc := .rwl, home := 6 }
-- HX_PCIE_LINK_STATUS (R345)
def HX_PCIE_LINK_STATUS_STATE : Fld := { id := 478, width := 3, acc := .ro, home := 6 }
def HX_PCIE_LINK_STATUS_RATE : Fld := { id := 479, width := 4, acc := .ro, home := 6 }
def HX_PCIE_LINK_STATUS_WIDTH : Fld := { id := 480, width := 5, acc := .ro, home := 6 }
def HX_PCIE_LINK_STATUS_FLIT : Fld := { id := 481, width := 1, acc := .ro, home := 6 }
def HX_PCIE_LINK_STATUS_POWER : Fld := { id := 482, width := 2, acc := .ro, home := 6 }
def HX_PCIE_LINK_STATUS_DOWNS : Fld := { id := 483, width := 8, acc := .rc, home := 6 }
-- HX_PCIE_FN_XLATE (R328)
def HX_PCIE_FN_XLATE_TT_BASE : Fld := { id := 484, width := 13, acc := .rw, rst := ttBaseReset, home := 6 }
def HX_PCIE_FN_XLATE_PSIZE : Fld := { id := 485, width := 2, acc := .rw, home := 6 }
def HX_PCIE_FN_XLATE_NPAGES : Fld := { id := 486, width := 14, acc := .rw, rst := fun _ => 1, home := 6 }
def HX_PCIE_FN_XLATE_VF_TT_BASE : Fld := { id := 487, width := 13, acc := .rw, home := 6 }
def HX_PCIE_FN_XLATE_VF_PSIZE : Fld := { id := 488, width := 2, acc := .rw, home := 6 }
def HX_PCIE_FN_XLATE_VF_NPAGES : Fld := { id := 489, width := 14, acc := .rw, rst := fun _ => 1, home := 6 }
-- HX_PCIE_TT (R327)
def HX_PCIE_TT_VALID : Fld := { id := 490, width := 1, acc := .rw, home := 6 }
def HX_PCIE_TT_RD : Fld := { id := 491, width := 1, acc := .rw, home := 6 }
def HX_PCIE_TT_WR : Fld := { id := 492, width := 1, acc := .rw, home := 6 }
def HX_PCIE_TT_TARGET : Fld := { id := 493, width := 2, acc := .rw, home := 6 }
def HX_PCIE_TT_ADDR : Fld := { id := 494, width := 36, acc := .rw, home := 6 }
-- HX_PCIE_STAT (R346)
def HX_PCIE_STAT_COUNT : Fld := { id := 495, width := 64, acc := .ro, home := 6 }
-- HX_RP_CFG (R347)
def HX_RP_CFG_BIFUR : Fld := { id := 496, width := 2, acc := .rwl, rst := fun _ => 2, home := 6 }
-- HX_RP_SUBLINK_CTRL (R347)
def HX_RP_SUBLINK_CTRL_RELEASE : Fld := { id := 497, width := 1, acc := .w1s, home := 6 }
def HX_RP_SUBLINK_CTRL_EN : Fld := { id := 498, width := 1, acc := .rw, home := 6 }
-- HX_RP_SUBLINK_STATUS (R347)
def HX_RP_SUBLINK_STATUS_STATE : Fld := { id := 499, width := 3, acc := .ro, home := 6 }
def HX_RP_SUBLINK_STATUS_RATE : Fld := { id := 500, width := 4, acc := .ro, home := 6 }
def HX_RP_SUBLINK_STATUS_WIDTH : Fld := { id := 501, width := 5, acc := .ro, home := 6 }
-- HX_RP_STAT (R346)
def HX_RP_STAT_COUNT : Fld := { id := 502, width := 64, acc := .ro, home := 6 }
-- HX_FN_REC (R351)
def HX_FN_REC_RING_BASE : Fld := { id := 503, width := 16, acc := .rw, home := 6 }
def HX_FN_REC_RING_COUNT : Fld := { id := 504, width := 13, acc := .rw, home := 6 }
def HX_FN_REC_VEC_BASE : Fld := { id := 505, width := 11, acc := .rw, home := 6 }
def HX_FN_REC_VEC_COUNT : Fld := { id := 506, width := 12, acc := .rw, home := 6 }
def HX_FN_REC_WIN_BASE : Fld := { id := 507, width := 20, acc := .rw, home := 6 }
def HX_FN_REC_WIN_COUNT : Fld := { id := 508, width := 21, acc := .rw, home := 6 }
def HX_FN_REC_NS_BASE : Fld := { id := 509, width := 12, acc := .rw, home := 6 }
def HX_FN_REC_NS_COUNT : Fld := { id := 510, width := 13, acc := .rw, home := 6 }
def HX_FN_REC_KEY_BASE : Fld := { id := 511, width := 14, acc := .rw, home := 6 }
def HX_FN_REC_KEY_COUNT : Fld := { id := 512, width := 15, acc := .rw, home := 6 }
def HX_FN_REC_CLASS_MASK : Fld := { id := 513, width := 16, acc := .rw, rst := fun _ => 4095, home := 6 }
def HX_FN_REC_HVP : Fld := { id := 514, width := 4, acc := .rw, home := 6 }
def HX_FN_REC_EA : Fld := { id := 515, width := 8, acc := .rw, home := 6 }
def HX_FN_REC_COMMITTED : Fld := { id := 516, width := 1, acc := .ro, home := 6 }
def HX_FN_REC_ERR : Fld := { id := 517, width := 1, acc := .ro, home := 6 }
def HX_FN_REC_ERR_CODE : Fld := { id := 518, width := 6, acc := .ro, home := 6 }
-- HX_FN_MGR (R349)
def HX_FN_MGR_MGR_PF : Fld := { id := 519, width := 3, acc := .rwl, home := 6 }
-- HX_FN_DLOG (R362)
def HX_FN_DLOG_EN : Fld := { id := 520, width := 1, acc := .rw, home := 6 }
def HX_FN_DLOG_HARVEST : Fld := { id := 521, width := 1, acc := .w1s, home := 6 }
def HX_FN_DLOG_ACTIVE : Fld := { id := 522, width := 1, acc := .ro, home := 6 }
def HX_FN_DLOG_BUSY : Fld := { id := 523, width := 1, acc := .ro, home := 6 }
def HX_FN_DLOG_ERR : Fld := { id := 524, width := 1, acc := .ro, home := 6 }
def HX_FN_DLOG_FUNC : Fld := { id := 525, width := 12, acc := .rw, home := 6 }
def HX_FN_DLOG_BITMAP0 : Fld := { id := 526, width := 64, acc := .rw, home := 6 }
def HX_FN_DLOG_BITMAP1 : Fld := { id := 527, width := 64, acc := .rw, home := 6 }
def HX_FN_DLOG_IOVA_BASE : Fld := { id := 528, width := 64, acc := .rw, home := 6 }
def HX_FN_DLOG_LENGTH : Fld := { id := 529, width := 28, acc := .rw, home := 6 }
def HX_FN_DLOG_RECORD : Fld := { id := 530, width := 64, acc := .rw, home := 6 }
-- HX_FN_VIOL (R357)
def HX_FN_VIOL_COUNT : Fld := { id := 531, width := 64, acc := .ro, home := 6 }
-- HX_RING_DISCARD (R687)
def HX_RING_DISCARD_COUNT : Fld := { id := 532, width := 64, acc := .ro, home := 6 }
-- HX_HVP_CFG (R688)
def HX_HVP_CFG_BASE_RING : Fld := { id := 533, width := 16, acc := .rw, home := 6 }
def HX_HVP_CFG_NRINGS : Fld := { id := 534, width := 7, acc := .rw, rst := fun _ => 1, home := 6 }
-- HX_RING_CFG (R391)
def HX_RING_CFG_KIND : Fld := { id := 535, width := 2, acc := .rw, home := 6 }
def HX_RING_CFG_POLICY : Fld := { id := 536, width := 2, acc := .rw, home := 6 }
def HX_RING_CFG_SIZE : Fld := { id := 537, width := 4, acc := .rw, home := 6 }
def HX_RING_CFG_IRQ_EN : Fld := { id := 538, width := 1, acc := .rw, home := 6 }
def HX_RING_CFG_VEC : Fld := { id := 539, width := 11, acc := .rw, home := 6 }
def HX_RING_CFG_HEAD_MOD : Fld := { id := 540, width := 4, acc := .rw, home := 6 }
def HX_RING_CFG_HEAD_TIME : Fld := { id := 541, width := 8, acc := .rw, home := 6 }
-- HX_RING_AUX (R391)
def HX_RING_AUX_HOLD_LIMIT : Fld := { id := 542, width := 16, acc := .rw, rst := fun _ => 1000, home := 6 }
def HX_RING_AUX_PREFETCH : Fld := { id := 543, width := 6, acc := .rw, rst := fun _ => 8, home := 6 }
def HX_RING_AUX_BUF_SIZE : Fld := { id := 544, width := 2, acc := .rw, home := 6 }
-- HX_RING_BASE (R392)
def HX_RING_BASE_BASE : Fld := { id := 545, width := 64, acc := .rw, home := 6 }
-- HX_RING_HEAD_ADDR (R392)
def HX_RING_HEAD_ADDR_HEAD_ADDR : Fld := { id := 546, width := 64, acc := .rw, home := 6 }
-- HX_RING_DB (R392)
def HX_RING_DB_LAP : Fld := { id := 547, width := 1, acc := .wo, home := 6 }
def HX_RING_DB_INDEX : Fld := { id := 548, width := 16, acc := .wo, home := 6 }
-- HX_RING_CMD (R392)
def HX_RING_CMD_OP : Fld := { id := 549, width := 4, acc := .wo, home := 6 }
-- HX_RING_STATUS (R392)
def HX_RING_STATUS_STATE : Fld := { id := 550, width := 3, acc := .ro, home := 6 }
def HX_RING_STATUS_CAUSE : Fld := { id := 551, width := 5, acc := .ro, home := 6 }
def HX_RING_STATUS_POS : Fld := { id := 552, width := 17, acc := .ro, home := 6 }
-- HX_RING_CCOUNT (R392)
def HX_RING_CCOUNT_CCOUNT : Fld := { id := 553, width := 32, acc := .ro, home := 6 }
-- HX_RING_DISP (R392)
def HX_RING_DISP_VALID : Fld := { id := 554, width := 1, acc := .ro, rst := fun _ => 1, home := 6 }
def HX_RING_DISP_D : Fld := { id := 555, width := 17, acc := .ro, home := 6 }
-- HX_RING_LOST (R392)
def HX_RING_LOST_LOST : Fld := { id := 556, width := 32, acc := .rc, home := 6 }
-- HX_RING_DBERR (R392)
def HX_RING_DBERR_DB_EARLY : Fld := { id := 557, width := 16, acc := .rc, home := 6 }
def HX_RING_DBERR_DB_BAD : Fld := { id := 558, width := 16, acc := .rc, home := 6 }
-- HX_SQ_CTRL (R410)
def HX_SQ_CTRL_OFFLINE : Fld := { id := 559, width := 1, acc := .rw, home := 6 }
def HX_SQ_CTRL_CLASS_MASK : Fld := { id := 560, width := 4, acc := .rwl, rst := sqClassMaskReset, home := 6 }
-- HX_SQ_STATUS (R410)
def HX_SQ_STATUS_STATE : Fld := { id := 561, width := 4, acc := .ro, home := 6 }
def HX_SQ_STATUS_BUSY_CTX : Fld := { id := 562, width := 5, acc := .ro, home := 6 }
def HX_SQ_STATUS_MCHECKS : Fld := { id := 563, width := 4, acc := .ro, home := 6 }
-- HX_SQ_TRAPLOG (R410)
def HX_SQ_TRAPLOG_WORD : Fld := { id := 564, width := 32, acc := .ros, home := 6 }
-- HX_SQ_TRAPLOG_IDX (R410)
def HX_SQ_TRAPLOG_IDX_IDX : Fld := { id := 565, width := 2, acc := .ros, home := 6 }
-- HX_SQ_UCODE_VERSION (R411)
def HX_SQ_UCODE_VERSION_ROM_REV : Fld := { id := 566, width := 8, acc := .ro, rst := fun _ => 33, home := 6 }
def HX_SQ_UCODE_VERSION_PATCH_LEVEL : Fld := { id := 567, width := 16, acc := .ro, home := 6 }
def HX_SQ_UCODE_VERSION_NMATCH : Fld := { id := 568, width := 7, acc := .ro, home := 6 }
-- HX_SQ_RELEASE (R412)
def HX_SQ_RELEASE_REL : Fld := { id := 569, width := 16, acc := .w1s, home := 6 }
-- HX_SQ_PMATCH (R412)
def HX_SQ_PMATCH_VALID : Fld := { id := 570, width := 1, acc := .ro, home := 6 }
def HX_SQ_PMATCH_PATCH_ADDR : Fld := { id := 571, width := 10, acc := .ro, home := 6 }
def HX_SQ_PMATCH_ROM_ADDR : Fld := { id := 572, width := 15, acc := .ro, home := 6 }
-- HX_RMA_CFG (R443)
def HX_RMA_CFG_PORT : Fld := { id := 573, width := 16, acc := .rw, rst := fun _ => 4916, home := 6 }
def HX_RMA_CFG_H : Fld := { id := 574, width := 5, acc := .rw, rst := fun _ => 4, home := 6 }
def HX_RMA_CFG_PMTU : Fld := { id := 575, width := 2, acc := .rw, rst := fun _ => 2, home := 6 }
def HX_RMA_CFG_M : Fld := { id := 576, width := 16, acc := .rw, rst := fun _ => 100, home := 6 }
def HX_RMA_CFG_TIME_TOL : Fld := { id := 577, width := 16, acc := .rw, rst := fun _ => 100, home := 6 }
def HX_RMA_CFG_RTO_MIN : Fld := { id := 578, width := 16, acc := .rw, rst := fun _ => 200, home := 6 }
def HX_RMA_CFG_MD_SHIFT : Fld := { id := 579, width := 4, acc := .rw, rst := fun _ => 1, home := 6 }
def HX_RMA_CFG_AI : Fld := { id := 580, width := 8, acc := .rw, rst := fun _ => 10, home := 6 }
def HX_RMA_CFG_CONN_RETRY : Fld := { id := 581, width := 4, acc := .rw, rst := fun _ => 7, home := 6 }
-- HX_RMA_STAT (R447)
def HX_RMA_STAT_COUNT : Fld := { id := 582, width := 64, acc := .ro, home := 6 }
-- HX_RMA_EP (R444)
def HX_RMA_EP_EN : Fld := { id := 583, width := 1, acc := .rw, home := 6 }
def HX_RMA_EP_STATE : Fld := { id := 584, width := 3, acc := .ro, home := 6 }
def HX_RMA_EP_OWNER : Fld := { id := 585, width := 12, acc := .rw, home := 6 }
def HX_RMA_EP_TX_LP : Fld := { id := 586, width := 10, acc := .rw, rst := fun _ => 1023, home := 6 }
def HX_RMA_EP_CLASS : Fld := { id := 587, width := 4, acc := .rw, home := 6 }
def HX_RMA_EP_MAX_RATE : Fld := { id := 588, width := 19, acc := .rw, rst := fun _ => 400000, home := 6 }
def HX_RMA_EP_TMPL : Fld := { id := 589, width := 8, acc := .rw, home := 6 }
-- HX_RMA_CONN (R445)
def HX_RMA_CONN_STATE : Fld := { id := 590, width := 3, acc := .ro, home := 6 }
def HX_RMA_CONN_OWNER : Fld := { id := 591, width := 12, acc := .rw, home := 6 }
def HX_RMA_CONN_TX_LP : Fld := { id := 592, width := 10, acc := .rw, rst := fun _ => 1023, home := 6 }
def HX_RMA_CONN_CLASS : Fld := { id := 593, width := 4, acc := .rw, home := 6 }
def HX_RMA_CONN_REMOTE_CONN : Fld := { id := 594, width := 14, acc := .rw, home := 6 }
def HX_RMA_CONN_TMPL : Fld := { id := 595, width := 8, acc := .rw, home := 6 }
def HX_RMA_CONN_PEER_ADDR : Fld := { id := 596, width := 128, acc := .rw, home := 6 }
def HX_RMA_CONN_EVENT_RING : Fld := { id := 597, width := 16, acc := .rw, home := 6 }
def HX_RMA_CONN_OP : Fld := { id := 598, width := 4, acc := .wo, home := 6 }
-- HX_RMA_TMPL (R446)
def HX_RMA_TMPL_WORD : Fld := { id := 599, width := 32, acc := .rw, home := 6 }
-- HX_STOR_NS (R450)
def HX_STOR_NS_EN : Fld := { id := 600, width := 1, acc := .rw, home := 6 }
def HX_STOR_NS_BACKEND : Fld := { id := 601, width := 1, acc := .rw, home := 6 }
def HX_STOR_NS_CACHE : Fld := { id := 602, width := 1, acc := .rw, rst := fun _ => 1, home := 6 }
def HX_STOR_NS_VWC : Fld := { id := 603, width := 1, acc := .rw, home := 6 }
def HX_STOR_NS_LBA4K : Fld := { id := 604, width := 1, acc := .rw, rst := fun _ => 1, home := 6 }
def HX_STOR_NS_STATE : Fld := { id := 605, width := 3, acc := .ro, home := 6 }
def HX_STOR_NS_DRIVE : Fld := { id := 606, width := 3, acc := .rw, home := 6 }
def HX_STOR_NS_FAIL_CODE : Fld := { id := 607, width := 8, acc := .ro, home := 6 }
def HX_STOR_NS_BASE_LBA : Fld := { id := 608, width := 64, acc := .rw, home := 6 }
def HX_STOR_NS_NLBA : Fld := { id := 609, width := 64, acc := .rw, home := 6 }
def HX_STOR_NS_BK_ID : Fld := { id := 610, width := 32, acc := .rw, home := 6 }
def HX_STOR_NS_KEY : Fld := { id := 611, width := 32, acc := .rw, home := 6 }
def HX_STOR_NS_OP : Fld := { id := 612, width := 4, acc := .wo, home := 6 }
-- HX_STOR_CFG (R480)
def HX_STOR_CFG_DESTAGE_AGE : Fld := { id := 613, width := 16, acc := .rwl, rst := fun _ => 10, home := 6 }
def HX_STOR_CFG_DRV_TIMEOUT : Fld := { id := 614, width := 8, acc := .rwl, rst := fun _ => 5, home := 6 }
-- HX_STOR_STATUS (R481)
def HX_STOR_STATUS_CERT_BLOCKS : Fld := { id := 615, width := 23, acc := .ro, home := 6 }
def HX_STOR_STATUS_UNCERT_BLOCKS : Fld := { id := 616, width := 23, acc := .ro, home := 6 }
def HX_STOR_STATUS_VB_BLOCKS : Fld := { id := 617, width := 23, acc := .ro, home := 6 }
def HX_STOR_STATUS_CERT_STOP : Fld := { id := 618, width := 1, acc := .ro, home := 6 }
def HX_STOR_STATUS_HELD : Fld := { id := 619, width := 2, acc := .ro, home := 6 }
-- HX_STOR_REPLAY (R482)
def HX_STOR_REPLAY_VALID : Fld := { id := 620, width := 1, acc := .ro, home := 6 }
def HX_STOR_REPLAY_INCOMPLETE : Fld := { id := 621, width := 1, acc := .ro, home := 6 }
def HX_STOR_REPLAY_CERT_MISSING : Fld := { id := 622, width := 1, acc := .ro, home := 6 }
def HX_STOR_REPLAY_LAYOUT_CHANGED : Fld := { id := 623, width := 1, acc := .ro, home := 6 }
def HX_STOR_REPLAY_REGIONS : Fld := { id := 624, width := 2, acc := .ro, home := 6 }
def HX_STOR_REPLAY_BLOCKS : Fld := { id := 625, width := 32, acc := .ro, home := 6 }
def HX_STOR_REPLAY_GROUPS_DISCARDED : Fld := { id := 626, width := 32, acc := .ro, home := 6 }
def HX_STOR_REPLAY_CRC_ERRORS : Fld := { id := 627, width := 32, acc := .ro, home := 6 }
def HX_STOR_REPLAY_VAULT_TS : Fld := { id := 628, width := 64, acc := .ro, home := 6 }
-- HX_STOR_FN_PS (R483)
def HX_STOR_FN_PS_WCE : Fld := { id := 629, width := 1, acc := .ro, rst := fun _ => 1, home := 6 }
def HX_STOR_FN_PS_APST_EN : Fld := { id := 630, width := 1, acc := .ro, home := 6 }
def HX_STOR_FN_PS_PS : Fld := { id := 631, width := 3, acc := .ro, home := 6 }
-- HX_STOR_STAT (R484)
def HX_STOR_STAT_COUNT : Fld := { id := 632, width := 64, acc := .ro, home := 6 }
-- HX_CIPH_CFG (R502)
def HX_CIPH_CFG_STOR_LANES : Fld := { id := 633, width := 5, acc := .rwl, rst := fun _ => 4, home := 6 }
-- HX_CIPH_ZSTATUS (R503)
def HX_CIPH_ZSTATUS_CAUSE : Fld := { id := 634, width := 8, acc := .ros, home := 6 }
def HX_CIPH_ZSTATUS_COUNT : Fld := { id := 635, width := 8, acc := .ros, home := 6 }
-- HX_CIPH_ZTS (R503)
def HX_CIPH_ZTS_ZTS : Fld := { id := 636, width := 64, acc := .ros, home := 6 }
-- HX_CIPH_NS (R504)
def HX_CIPH_NS_EN : Fld := { id := 637, width := 1, acc := .rw, home := 6 }
def HX_CIPH_NS_SLOT : Fld := { id := 638, width := 14, acc := .rw, home := 6 }
-- HX_CIPH_SLOT (R505)
def HX_CIPH_SLOT_LOADED : Fld := { id := 639, width := 1, acc := .ro, home := 6 }
def HX_CIPH_SLOT_MODE : Fld := { id := 640, width := 4, acc := .ro, home := 6 }
def HX_CIPH_SLOT_ENC : Fld := { id := 641, width := 1, acc := .ro, home := 6 }
def HX_CIPH_SLOT_DEC : Fld := { id := 642, width := 1, acc := .ro, home := 6 }
def HX_CIPH_SLOT_KLEN : Fld := { id := 643, width := 2, acc := .ro, home := 6 }
-- HX_CIPH_STAT (R506)
def HX_CIPH_STAT_COUNT : Fld := { id := 644, width := 64, acc := .ro, home := 6 }
-- HX_FNV_REC (R681)
def HX_FNV_REC_WORD : Fld := { id := 645, width := 32, acc := .ro, home := 6 }
-- HX_FNV_FI (R681)
def HX_FNV_FI_FI : Fld := { id := 646, width := 12, acc := .ro, rst := fnvFiReset, home := 6 }
-- HX_FNV_PBA (R681)
def HX_FNV_PBA_PBA : Fld := { id := 647, width := 32, acc := .ro, home := 6 }
-- HX_FNV_MSIX (R681)
def HX_FNV_MSIX_CTRL_RSVD : Fld := { id := 648, width := 31, acc := .ro, home := 6 }
def HX_FNV_MSIX_MASK : Fld := { id := 649, width := 1, acc := .rw, rst := fun _ => 1, home := 6 }
def HX_FNV_MSIX_DATA : Fld := { id := 650, width := 32, acc := .rw, home := 6 }
def HX_FNV_MSIX_ADDR : Fld := { id := 651, width := 64, acc := .rw, home := 6 }
-- PMU_CYCLE (R635)
def PMU_CYCLE_CYCLE : Fld := { id := 652, width := 64, acc := .ro, per := 37 }
-- PMU_PMC (R635)
def PMU_PMC_COUNT : Fld := { id := 653, width := 48, acc := .rw, per := 296 }
-- PMU_PMC_EVT (R636)
def PMU_PMC_EVT_EN : Fld := { id := 654, width := 1, acc := .rw, per := 296 }
def PMU_PMC_EVT_THR_EN : Fld := { id := 655, width := 1, acc := .rw, per := 296 }
def PMU_PMC_EVT_OVF_EV : Fld := { id := 656, width := 1, acc := .rw, per := 296 }
def PMU_PMC_EVT_THRESH : Fld := { id := 657, width := 12, acc := .rw, per := 296 }
def PMU_PMC_EVT_EVENT : Fld := { id := 658, width := 16, acc := .rw, per := 296 }
-- PMU_PMC_OVF (R635)
def PMU_PMC_OVF_OVF : Fld := { id := 659, width := 8, acc := .w1c, per := 37 }
-- PMU_UNIT_ID (R635)
def PMU_UNIT_ID_KIND : Fld := { id := 660, width := 8, acc := .ro, rst := unitKindReset, per := 37 }

end F

end Sys2Proof.Machine
end

