-- ==== Sys2Proof/Machine/State.lean ====
section
/-! DEFINITION. The state of the module: every register field (in one register file), and the state behind the registers that each chapter of the spec names, as plain data; with the queue of commands that wait. -/

namespace Sys2Proof.Machine

/-- The module states of R17. -/
inductive ModState where
  | off | standby | boot | run | rideThrough | vault | safetyNet | halt
  deriving DecidableEq, Repr

/-- What the module sends out: interrupts, writes to host memory, completions, frames, pin changes.  The list is the model's own (log entry 3); no rule of the spec reads it. -/
inductive Out where
  /-- An event raised (R628): source, SEQ, payload words. -/
  | event (ev seq : Nat) (payload : List Nat)
  /-- An MSI-X message (R338): function, vector, address, data. -/
  | msix (fi vec addr data : Nat)
  /-- An IMSIC identity set in a core's file (R632). -/
  | imsic (core file identity : Nat)
  /-- A posted write to host memory on behalf of function `fi` (R329). -/
  | hostWrite (fi addr : Nat) (bytes : List Byte)
  /-- A read request to host memory: function, tag, address, length. -/
  | hostRead (fi tag addr len : Nat)
  /-- An answer to a configuration request: 0 SC, 1 UR, 2 CRS; the value read. -/
  | cfgCpl (fi status value : Nat)
  /-- A completion of a BAR read: 0 SC, 1 UR; the bytes. -/
  | barCpl (fi status : Nat) (bytes : List Byte)
  /-- A core's access fault (R301, R678). -/
  | accessFault (core addr : Nat)
  /-- A frame leaving on a logical port, with its FCS good or stomped. -/
  | frame (lp : Nat) (bytes : List Byte) (good : Bool)
  /-- The frame being sent on a logical port is cut off (R79). -/
  | cutOff (lp : Nat)
  /-- What a logical port's transmitter does (R78): 0 off, 1 on, 2 remote fault, 3 Idle. -/
  | line (lp signal : Nat)
  /-- The answer to a training request of the partner that the lane cannot carry out: the coefficient is at its limit (R77). -/
  | trainLimit (lane : Nat)
  /-- A frame delivered to the supervisor port LP536, with its ingress timestamp. -/
  | supFrame (bytes : List Byte) (ts : Nat)
  /-- A LEARN, TIME or HELLO frame on a stitch link (R276, R277), without its FCS. -/
  | stitch (link : Nat) (bytes : List Byte)
  /-- The clock ceiling of a region, or of cluster `unit - 16`, in 1/512 of its clock in R42 (R511, R544, R614). -/
  | clock (unit n : Nat)
  /-- A command sent to a drive: drive, operation, namespace, first block, blocks. -/
  | drive (slot op nsid lba nlb : Nat)
  /-- An answer to a drive's request (R341): 0 success, 1 UR. -/
  | driveCpl (slot status : Nat)
  /-- A pin driven. -/
  | pin (name level : Nat)
  /-- A core starts in M-mode at an address (R578). -/
  | coreStart (core entry : Nat)
  /-- Bits shifted out of the TAP (R647). -/
  | tdo (value : Nat)
  /-- Bytes returned on SMBus (R664). -/
  | smbus (bytes : List Byte)
  /-- A value written to the UART (R665). -/
  | uart (v : Nat)
  /-- The answer to a register or memory read through a debug or management port. -/
  | value (v : Nat)
  deriving DecidableEq, Repr

/-- A 64-bit register held half-read or half-written by one requester (R680). -/
structure Latch where
  readHigh : Option (Nat × Nat) := none   -- address of the high word, latched half
  heldLow : Option (Nat × Nat) := none    -- address of the low word, held value
  deriving DecidableEq, Repr

/-- One record of the configuration journal (R601): field, copy, value, rank of the writer. -/
structure JRec where
  fld : Nat
  idx : Nat
  value : Nat
  rank : Nat
  deriving DecidableEq, Repr

/-- A fault-log entry (R608). -/
structure LogEntry where
  type : Nat
  units : Nat
  seq : Nat
  time : Nat
  cond : Nat
  source : Nat
  count : Nat
  detail : List Nat
  deriving DecidableEq, Repr

/-- A sector of the flash log (R609). -/
structure FlashSector where
  seq : Nat
  entries : List LogEntry
  deriving DecidableEq, Repr

/-- An open 1 ms logging interval (R344): condition, source, occurrences since the last entry, the event and detail of its entries. -/
structure Interval where
  cond : Nat
  source : Nat
  count : Nat
  event : Nat
  detail : List Nat
  deriving DecidableEq, Repr

/-- Events, the fault log and the journal (R601, R607 to R610, R628 to R632, R344). -/
structure LogSt where
  seqs : Map Nat := []            -- raises of each source since cold reset (R631)
  irqAt : Map Nat := []           -- time of each source's last interrupt, plus 1 (R632); 0 none
  sentAt : Nat := 0               -- the clock of `sent`, plus 1
  sent : List (Nat × Nat × Nat) := []  -- interrupts sent in that clock: source, kind, target (R632)
  entries : List LogEntry := []   -- the ring in HBM, oldest first (R607)
  held : List LogEntry := []      -- entries held in AO while M0 is not powered (R28)
  late : List LogEntry := []      -- mandatory entries whose flash write waits for the vault (R28)
  flash : List FlashSector := []  -- the flash log, oldest sector first (R609)
  newest : Nat := 0
  tokens : Int := 64              -- the flash budget (R609)
  intervals : List Interval := []
  journal : List JRec := []
  deriving DecidableEq, Repr

/-- A record waiting for EVENT_RECORD_PLACE: the ring it is for, its RTYPE, the event number where it is an event record, its bytes after byte 3, and bits [15:0] of word 0. -/
structure Staged where
  ring : Nat
  rtype : Nat
  low : Nat
  words : List Nat                -- the words from byte 4 on
  irq : Option Nat := none        -- the event whose interrupt follows the record (R632)
  deriving DecidableEq, Repr

/-- PCIe configuration space of a function, as far as the spec names its fields (R324 to R338, R355, R686). -/
structure FnCfg where
  bme : Bool := false
  mse : Bool := false
  vfEn : Bool := false
  numVfs : Nat := 0
  mps : Nat := 0                  -- Max Payload Size, 128 << mps
  mrrs : Nat := 2                 -- Max Read Request Size, 128 << mrrs
  cto : Nat := 0                  -- Completion Timeout Value (R332)
  msixMask : Bool := false
  resetting : Nat := 0            -- 0 none, 1 FLR, 2 hot reset or link down, 3 fundamental, 4 destruction
  vfPend : Bool := false          -- VF Enable set again before destruction ended (R356)
  aer : Nat := 0                  -- sticky AER status: bit c for code c of R343 reported
  deriving DecidableEq, Repr

/-- A read in flight to host memory (R329 to R334): tag, function, ring or consumer, bytes still to come, when its timer ends at the earliest. -/
structure HostRead where
  tag : Nat
  fi : Nat
  ring : Nat
  left : Nat
  len : Nat
  expires : Nat := 0
  deriving DecidableEq, Repr

/-- A tag out of use (R334): whether its request was abandoned, when that request's timer ends, when the tag may return to use. -/
structure DeadTag where
  tag : Nat
  abandoned : Bool
  expires : Nat
  until' : Nat
  deriving DecidableEq, Repr

/-- A host link (R320, R330, R333). -/
structure HostLink where
  perst : Bool := true            -- Hh_PERST_N is asserted
  reads : List HostRead := []
  dead : List DeadTag := []       -- tags out of use (R334)
  turn : Nat := 0                 -- sub-link whose read goes next (R330)
  queue : List (Nat × Nat × Nat × Nat) := []  -- reads that wait for a tag or buffer space: function, ring, address, length
  deriving DecidableEq, Repr

/-- A dirty-page logging slot (R358 to R362) beyond its registers. -/
structure Dlog where
  seq : Nat := 0
  outRange : Bool := false
  bits : Map Nat := []            -- the shadow of the active bitmap: byte index, byte
  dirty : List Nat := []          -- 64-byte blocks not yet written to the host
  oldBits : Map Nat := []         -- the shadow of the bitmap a harvest has retired, until HARVEST_DONE
  oldDirty : List Nat := []
  oldOut : Bool := false          -- OUT_RANGE of the record to come
  deriving DecidableEq, Repr

/-- A descriptor in the prefetch cache or in work: its position and its bytes as fetched (R373). -/
structure Desc where
  pos : Nat
  bytes : List Byte
  deriving DecidableEq, Repr

/-- A ring beyond its registers (R366 to R389). -/
structure RingSt where
  h : Nat := 0                    -- consumer position, 0 to 2N - 1
  t : Nat := 0                    -- producer position (known tail on a SUBMIT ring)
  f : Nat := 0                    -- fetch pointer
  d : Nat := 0                    -- dispatch pointer
  asked : Nat := 0                -- entries of the fetch under way (R372)
  cache : List Desc := []
  work : List Desc := []          -- dispatched, not complete
  ended : List Nat := []          -- positions completed at or beyond H
  stuck : Bool := false           -- fetching stopped at an entry not posted (R371)
  unpub : Nat := 0                -- completions not yet published
  err : Bool := false             -- ERR of the next head record (R382)
  pubCount : Nat := 0             -- CCOUNT of the last head record issued
  waiting : Option (Nat × Nat × Nat × Nat) := none  -- STRING in wait: position, TARGET, VALUE, TIMEOUT
  fence : Option Nat := none      -- FENCE in wait: position
  lostType : Nat := 0             -- RTYPE of the first item lost in the episode; 0 no episode
  lostN : Nat := 0
  lostT0 : Nat := 0
  lostT1 : Nat := 0
  holdOver : Bool := false        -- HOLD_LIMIT has passed; items drop until one is accepted
  deriving DecidableEq, Repr

/-- A MACsec security association (R87 to R89). -/
structure Sa where
  port : Nat                      -- physical port 0 to 127
  tx : Bool
  sc : Nat                        -- receive channel, or the sub-port of a transmit SA
  an : Nat
  suite : Nat
  key : List Nat                  -- SAK words
  salt : List Nat
  ssci : Nat
  pn : Nat                        -- next PN (transmit) or lowest acceptable PN (receive)
  sci : Nat
  inUse : Bool := false
  told : Bool := false            -- the PN threshold has been raised (R91)
  deriving DecidableEq, Repr

/-- A frame in a landing buffer (R62, R81). -/
structure LbFrame where
  lp : Nat
  bytes : List Byte               -- destination address to the last byte before the FCS
  ts : Nat
  bad : Nat := 0                  -- violation code found in its tail while in cut-through (R83); 0 none
  recirc : Nat := 0               -- RECIRC_CNT of a recirculated frame (R159)
  recircIn : Bool := false
  src : Nat := 0                  -- ingress LP kept through recirculation
  user : List Nat := []           -- C120 to C127 carried through recirculation (R159)
  epoch : Nat := 0                -- epoch of the pass that recirculated it (R173)
  stitched : Bool := false        -- it arrived on a stitch link before it was recirculated (R275)
  cut : Bool := false             -- granted before its tail arrived
  deriving DecidableEq, Repr

/-- MACs, landing buffers and MACsec beyond their registers. -/
structure MacSt where
  lb : Map (List LbFrame) := []   -- by physical port, oldest first; 128 + region for recirculated frames
  lbOld : Map Nat := []           -- SIZE + 1 still in force while a new SIZE waits (R64)
  trainSeen : Map Bool := []      -- lanes on which the partner has sent training frames (R77)
  trainEnded : Map Bool := []     -- lanes that ended training at their preset (R77)
  txPreset : Map Nat := []        -- the transmit preset in force on a lane, since it last came to TRAINING (R75)
  lpiOffer : Map Bool := []       -- LPI_EN as it stood at a sub-port's last entry to AN (R74, R85)
  lpiRes : Map Bool := []         -- low-power idle was resolved by auto-negotiation (R86)
  stage : Map Nat := []           -- MACsec staging words, 16 per region
  saCmd : Map Nat := []           -- SA_CMD word in progress, plus 1; by region
  sas : List Sa := []
  saZero : Map Bool := []         -- the region's keys have been zeroised (R92)
  lpiAt : Map Nat := []           -- entry to transmit LPI, plus 1
  rxLpiAt : Map Nat := []         -- entry of the partner to LPI, plus 1
  grant : Map Nat := []           -- rotating pointer of each ingress pipeline (R81)
  deriving DecidableEq, Repr

/-- A forwarding-table entry (R197, R205).  `region` is 0 for an entry of every replica, 1 to 4 for one of a local table; `index` is its place in the table. -/
structure TEntry where
  region : Nat
  index : Nat
  key : Nat
  mask : Nat := 0                 -- ternary mask
  plen : Nat := 0                 -- LPM prefix length
  data : Nat := 0
  action : Nat := 0               -- 64 bits (R118)
  nb : Nat := 0
  nbValid : Bool := false
  stat : Bool := false            -- STATIC
  origin : Nat := 0
  upd : Nat := 0                  -- UPD_TS
  hits : Nat := 0                 -- hit bits, bit r - 1 for the replica of region r
  aged1 : Bool := false
  bad : Nat := 0                  -- replicas in which the entry is uncorrectable (R217)
  deriving DecidableEq, Repr

/-- An insertion posted by LEARN (R210). -/
structure Learn where
  table : Nat
  key : Nat
  data : Nat
  time : Nat
  deriving DecidableEq, Repr

/-- A learning message in hand (R215): operation, origin, region, table, SEQ, stamp, DATA, OLD_DATA, KW, key. -/
structure LearnMsg where
  op : Nat
  origin : Nat
  region : Nat
  table : Nat
  seq : Nat
  stamp : Nat
  data : Nat
  old : Nat
  kw : Nat
  key : Nat
  deriving DecidableEq, Repr

/-- A sweep of a table (R213): when it began, plus 1; AGE_EN and AGE_PERIOD in force for it (R202); the next place. -/
structure Sweep where
  since : Nat := 0
  ages : Bool := false
  period : Nat := 0
  pos : Nat := 0
  deriving DecidableEq, Repr

/-- The table engine and the replicas beyond their registers. -/
structure TblSt where
  tabs : Map (List TEntry) := []
  learnq : Map (List Learn) := []     -- by region, oldest first (R211)
  recent : Map (List Learn) := []     -- keys a region posted in the last 2 us (R211)
  chan : Map (Option (Nat × Nat)) := []  -- command word and INDEX in progress on a channel (R208)
  turn : Map Nat := []                -- by half: the source the engine looks at first (R203)
  rings : Map Nat := []               -- the table-update rings served, each plus 1, by place 0 to 15 (R203)
  sweeps : Map Sweep := []            -- by table (R213)
  shadow : Map (List TEntry) := []    -- the shadows of local tables in the table-spill partition of HBM (R218)
  corrected : Map Nat := []           -- corrected errors of table storage, by region (R217)
  inbox : Map (List LearnMsg) := []   -- messages in the stitch receivers, oldest first, by neighbour (R289)
  msgSeq : Nat := 0                   -- learning messages sent (R215)
  rxSeq : Map (Option Nat) := []      -- SEQ of the last message of each origin (R290)
  deriving DecidableEq, Repr

/-- One program bank of a stage cell (R172). -/
structure CellBank where
  bundles : Map Nat := []         -- 144-bit bundles by index
  konst : Map Nat := []
  keyprof : Map Nat := []         -- word w of profile j at 8 j + w
  binds : List (Nat × Nat) := []  -- valid bindings: kind, table
  deriving DecidableEq, Repr

/-- One program bank of a pipeline (R172): entry bundles and the bridge selector bytes. -/
structure PipeBank where
  entry : Nat := 0
  recirc : Nat := 0
  bridge : List Nat := []
  deriving DecidableEq, Repr

/-- A program load in hand (R187): its command, its length in pages, and whether the read-back of its banks fails twice; whether it is linked, the pipelines and regions named, the contract digest of the set. -/
structure Load where
  op : Nat
  pages : Nat := 0
  ecc : Bool := false
  linked : Bool := false
  pipes : List Nat := []
  graphs : List Nat := []
  contract : List Byte := []
  go : Bool := false              -- steps 6 to 8 are wanted
  m : List Byte := []             -- M of its image (R588)
  deriving DecidableEq, Repr

/-- Luavy programs (R172 to R195).  A cell bank stands at 2 (256 (region - 1) + page) + bank, a pipeline bank at 2 (16 (region - 1) + q) + bank. -/
structure ProgSt where
  cells : Map CellBank := []
  pipes : Map PipeBank := []
  alt : Map (Map Nat) := []       -- the parse-graph bank that is not current, field by field
  gen : Nat := 0                  -- the linked generation of the current epochs (R174); LGEN toggles before they flip (R185)
  bad : Map Bool := []            -- bundle positions marked bad (R190): 256 x cell bank + index
  faults : Map (List Nat) := []   -- by pipeline: times of uncorrectable errors in the last hour (R191)
  load : Option Load := none
  linked : Map Bool := []         -- pipelines in the drain of a linked swap (R174, R185)
  nextContract : Option (List Byte) := none  -- CONTRACT of that swap
  contract : List Byte := []      -- the module's contract digest (R183, R185)
  excAt : Map Nat := []           -- exceptions of each region and code since the last event (R166): 16 x region + code
  deriving DecidableEq, Repr

/-- A replace-mode binding of a container to frame bits (R135). -/
structure Bind where
  cont : Nat
  pos : Nat
  width : Nat
  deriving DecidableEq, Repr

/-- What a frame carries through FX: the bridge record (R134, R174) with the frame as it left ingress write-back. -/
structure Pkt where
  bytes : List Byte
  orig : List Byte                -- the frame as it entered the parser, for mirror copies (R120)
  phv : Map Nat := []             -- bridged containers, C96 to C108 and C120 to C127
  binds : List Bind := []         -- bindings of bridged containers
  tos : Nat := 0                  -- value of the ECN container at ingress exit (R238)
  ecn : Option Bind := none       -- its binding, where it is an 8-bit one
  csum : Option Bind := none      -- the checksum container's binding, where it is a 16-bit one
  lgen : Nat := 0
  region : Nat := 0               -- ingress region; 0 where no pipeline brought it
  ingress : Nat := 1023           -- ingress logical port
  stitchExt : List Nat := []      -- selector and value words of the stitch extension (R276), empty without BRIDGE_EXT
  noPrune : Bool := false         -- a stitched group frame: no source pruning (R283)
  stitched : Bool := false        -- it arrived on a stitch link, in this pass or before it: no stitch link takes it (R275, R283)
  deriving DecidableEq, Repr

/-- A copy of a frame for admission or in a queue (R224, R231). -/
structure Copy where
  fid : Nat                       -- the frame it belongs to
  lp : Nat
  cls : Nat
  kind : Nat                      -- 0 primary, 1 replication, 2 mirror, 3 COPY_CPU, 4 a group still to be expanded
  trunc : Nat := 0                -- bytes kept, 0 all
  ring : Nat := 0                 -- receive ring of a COPY_CPU copy
  reason : Nat := 0
  cut : Bool := false
  eligible : Bool := false
  ts : Nat := 0                   -- admission timestamp (R225)
  remote : Option Nat := none     -- stitch container of a remote copy (R280)
  group : Nat := 0                -- replication group
  mark : Option (List Byte) := none  -- the frame as marked CE when its first segment was written (R239)
  deferred : Bool := false        -- counted once in GATE_DEFER (R253)
  deriving DecidableEq, Repr

/-- A frame in FX (R231): its packet, its segments by bank group, the copies still to come or in queues, what its tail brought. -/
structure FxFrame where
  pkt : Pkt
  segs : Map Nat := []            -- segments held, by bank group
  want : Nat := 0                 -- segments taken from F but not yet allocated (R231, R241)
  quar : List Nat := []           -- its segments that are quarantined (R244)
  live : Nat := 0                 -- admitted copies in queues
  tail : Bool := true             -- the last segment is written
  bad : Nat := 0                  -- violation its tail will bring (R235)
  deriving DecidableEq, Repr

/-- A frame waiting in an admission stage with the copies still to be made (R224). -/
structure AdmItem where
  fid : Nat
  cls : Nat
  copies : List Copy
  deriving DecidableEq, Repr

/-- A frame dequeued to an internal port, waiting for its receiver (R314, R387). -/
structure RxItem where
  copy : Copy
  bytes : List Byte
  info : Nat                      -- C96
  ts : Nat
  hash : Nat
  hashSel : Nat
  cut : Bool                      -- cut to the target's TRUNC
  deriving DecidableEq, Repr

/-- A copy that leaves cut-through, from its start until its tail is written (R83, R234, R259): the MAX_FRAME it was charged and where, and, while its port still sends it, its bytes as they were protected at its start (R74, R89). -/
structure CutTx where
  lp : Nat
  cls : Nat
  fid : Nat
  charged : Nat
  drr : Bool                      -- its class's deficit was charged
  queueShaped : Bool              -- so was its queue's shaper
  portShaped : Bool               -- and its port's
  bytes : Option (List Byte)      -- none where it was dropped or cut off
  stomp : Bool := false           -- an uncorrectable segment error was met (R244)
  deriving DecidableEq, Repr

/-- FX: admission stages, queues and segments beyond their registers. -/
structure FxSt where
  frames : Map (Option FxFrame) := []
  nextFid : Nat := 0
  mainq : Map (List AdmItem) := []    -- main FIFO by source
  express : Map (List AdmItem) := []
  queues : Map (List Copy) := []      -- by queue index, head first
  charge : Map Nat := []              -- U(q)
  admFirst : Nat := 0                 -- the stage that comes first in this clock (R225)
  admPos : Nat := 0                   -- places of this clock's order that have had their turn
  admCame : Nat := 0                  -- the stage that did come first in this clock
  stallRest : Nat := 0                -- part of STALL_CLOCKS below one clock, in fifths (R247)
  rot : Nat := 0                      -- segment rotation pointer (R223)
  quar : List Nat := []               -- the quarantined segments (R244)
  bw : List (Nat × Nat) := []         -- admitted bytes of the last 10 us: time, bytes
  oneIn : Map Nat := []               -- hits of mirror sessions, 64 x region + session (R122)
  dropQ : Map Nat := []               -- drops of each queue since the last EV0664 (R248)
  dropT : Map Nat := []               -- DROP_THRESH, DROP_NOBUF, DROP_REGION since then
  cuts : List CutTx := []             -- copies that leave or left cut-through and whose tail is still to come
  txEnd : Map Nat := []               -- when the last frame handed to a port's MAC has left, plus 1 (R79)
  rx : Map (List RxItem) := []        -- by logical port 512 to 535
  deriving DecidableEq, Repr

/-- A payload item: one word, saturating, or two words for a value defined wider than 32 bits (R631). -/
inductive Item where
  | w (v : Nat)
  | d (v : Nat)
  deriving DecidableEq, Repr

/-- Counts since the last event of a source that is raised at most once in a time (R166, R211, R248). -/
structure Limit where
  at' : Nat := 0                  -- time of the last event, plus 1
  n : Nat := 0
  due : Nat := 0                  -- when the rest is to be reported, plus 1; 0 where none waits
  pay : List Item := []           -- the payload it is to be reported with
  deriving DecidableEq, Repr

/-- Scheduling and sampling beyond the registers (R249 to R272). -/
structure TmSt where
  deficit : Map Int := []         -- by queue index (R259)
  last : Map Nat := []            -- by logical port: class Carousel visited last, plus 1
  visit : Map Nat := []           -- by logical port: class whose visit is open, plus 1
  turn : Map Nat := []            -- the place that comes first at an egress pipeline, or among the host ports (R251, R264)
  waitRest : Map Nat := []        -- part of SHAPER_WAIT_US below 1 us, in quarters of a nanosecond, by queue (R272)
  credit : Map (Int × Nat) := []  -- by queue, 8656 + port: credit in bits/16000 and the time it was set, plus 1
  pending : Map Nat := []         -- by logical port: T of a pending list change (R256)
  operLen : Map Nat := []         -- operative ADMIN_LEN and ADMIN_CYCLE
  operCycle : Map Nat := []
  meters : Map (Nat × Nat × Nat) := []  -- Tc, Tp in millibits, time of the last update, by meter of a region
  meterHeld : Map Nat := []       -- words 0 to 2 of a meter waiting for word 3
  sampleHeld : Map Nat := []      -- words 1 and 2 of a sample group waiting for word 0, plus 1
  sampleNext : Map Nat := []      -- words 0 to 2 of a sample group waiting for its period boundary, plus 1
  sampleSeq : Map Nat := []
  xprofHeld : Map Nat := []       -- words 0 to 2 of an extraction profile waiting for word 3, plus 1
  xprofSeq : Map Nat := []        -- records formed by profile and region (R124)
  latches : Map Nat := []         -- a counter latch in progress: 1 + entry, by region and channel (R170)
  counters : Map (Nat × Nat) := []  -- counter bank: packets and bytes by region and entry (R157)
  deriving DecidableEq, Repr



/-- A cipher job in a lane (R490, R491). -/
structure CiphJob where
  ring : Nat
  pos : Nat
  lane : Nat
  slot : Nat
  mode : Nat
  decrypt : Bool
  key : List Byte
  iv : List Byte
  aad : Nat
  src : List Byte
  dst : Nat
  tagAddr : Nat
  tag : List Byte                 -- the tag read, when decrypting or verifying
  deriving DecidableEq, Repr

/-- A key load or erase in effect and not yet complete (R490): the jobs that still run under the previous key. -/
structure KeyChange where
  ring : Nat
  pos : Nat
  slot : Nat
  jobs : List (Nat × Nat)
  deriving DecidableEq, Repr

/-- The cipher engine beyond its registers (R486 to R500). -/
structure CiphSt where
  keys : Map (List Byte) := []    -- by slot
  jobs : List CiphJob := []
  changes : List KeyChange := []
  lane : Nat := 0                 -- rotating pointer
  faults : List Nat := []         -- times of fault detections in the last second (R496)
  deriving DecidableEq, Repr

/-- A range of 512-byte sectors of a namespace. -/
structure Span where
  handle : Nat
  sec : Nat
  n : Nat
  deriving DecidableEq, Repr

/-- State of a block version (R466); FREE is absence. -/
inductive VerState where
  | uncert
  | cert
  | vb
  | destagingCert                 -- DESTAGING, from CERT
  | destagingVb                   -- DESTAGING, from VB
  deriving DecidableEq, Repr

/-- A block version in the write cache (R464, R466): its 4 KiB block of the namespace, the mask of valid sectors, its group. -/
structure Ver where
  id : Nat
  gid : Nat                       -- its group
  seq : Nat                       -- SEQ of the group
  handle : Nat
  blk : Nat
  mask : Nat
  data : List Byte
  st : VerState
  ordered : Bool := false
  region : Nat := 2               -- vault region a VB version was loaded from
  failed : Bool := false          -- its destage failed (R472)
  deriving DecidableEq, Repr

/-- A write group that has reached the cache and waits for versions (R461). -/
structure Group where
  gid : Nat
  handle : Nat
  blocks : List (Nat × Nat × List Byte)
  ordered : Bool
  deriving DecidableEq, Repr

/-- A storage command in progress: a write waits for its groups to be admitted or certified, a Flush for groups to be certified (R463, R464). -/
structure StorCmd where
  ring : Nat
  pos : Nat
  handle : Nat
  gids : List Nat
  cert : Bool                     -- certified, not only admitted
  bytes : Nat                     -- bytes written; 0 for a Flush
  deriving DecidableEq, Repr

/-- A write or read of a command that goes to a REMOTE backend past the cache (R462, R464, R468): its descriptor, its sectors, the bytes of a write, the buffers of a read. -/
structure Far where
  id : Nat
  ring : Nat
  pos : Nat
  handle : Nat
  write : Bool
  ordered : Bool := false
  sec : Nat
  n : Nat
  data : List Byte := []
  segs : List (Nat × Nat × Bool) := []
  sent : Bool := false
  reject : Bool := false          -- the cipher engine rejects a unit of the read (R496)
  deriving DecidableEq, Repr

/-- A backend write in progress (R467, R470). -/
structure Destage where
  id : Nat
  handle : Nat
  vers : List Nat
  spans : List (Nat × Nat)        -- first sector and sectors of each backend write
  tries : Nat := 0                -- failed attempts
  aborted : Bool := false         -- Abort has been sent
  again : Bool := false           -- issued again after a controller reset
  deriving DecidableEq, Repr

/-- A vault record (R469). -/
structure VRec where
  handle : Nat
  mask : Nat
  cert : Bool
  ordered : Bool
  live : Nat
  blk : Nat
  seq : Nat
  data : List Byte
  deriving DecidableEq, Repr

/-- A vault region (R469, R471). -/
structure Region where
  held : Bool := false
  seq : Nat := 0
  ts : Nat := 0
  stackMask : Nat := 0               -- the write-cache layout recorded
  size : Nat := 0
  ns : Map (Map Nat) := []        -- the HX_STOR_NS entries, field by field
  recs : List VRec := []
  complete : Bool := false
  torn : Nat := 0                 -- records whose writing a loss of power cut
  deriving DecidableEq, Repr

/-- What a drive reports at ENUM (R451, R470): a volatile write cache, and its namespaces with LBA size, metadata and capacity. -/
structure DriveSt where
  mps : Nat := 0                  -- Max Payload Size set at enumeration, 128 << mps (R339)
  vwc : Bool := false
  low : Nat := 0                  -- the function power state for which it has been lowered (R478); 0 not
  spaces : List (Nat × Nat × Bool × Nat) := []
  deriving DecidableEq, Repr

/-- A function's storage settings and counts (R456, R477 to R479). -/
structure FnStor where
  lastOp : Nat := 0               -- last operational power state
  apst : List (Nat × Nat) := []   -- ITPS and ITPT of each entry
  reads : Nat := 0
  writes : Nat := 0
  readUnits : Nat := 0            -- 512-byte units
  writeUnits : Nat := 0
  media : Nat := 0
  errors : List (Nat × Nat × Nat × Nat) := []  -- error log, newest first: number, status field, LBA, NSID
  errCount : Nat := 0
  deriving DecidableEq, Repr

/-- The storage functions beyond their registers (R449 to R485). -/
structure StorSt where
  vers : List Ver := []
  nextId : Nat := 0
  nextGid : Nat := 0
  seq : Nat := 0                  -- SEQ last given
  waitq : List Group := []
  open' : List Nat := []          -- groups of RMA messages still open (R475)
  cmds : List StorCmd := []
  destages : List Destage := []
  far : List Far := []
  lost : List Span := []          -- the lost-block list (R473)
  dealloc : List Span := []       -- deallocated sectors (R455)
  regions : Map Region := []
  regionSeq : Nat := 0
  vaulting : Option Nat := none   -- the region that VAULT is writing (R518)
  drives : Map DriveSt := []
  fns : Map FnStor := []
  deriving DecidableEq, Repr

/-- A memory window (R420, R421). -/
structure RmaWin where
  gen : Nat := 0
  attached : Bool := false
  base : Nat := 0
  len : Nat := 0
  persist : Bool := false
  rd : Bool := false
  wr : Bool := false
  notify : Bool := false
  ring : Nat := 0
  ns : Nat := 0                   -- storage handle of a PERSIST window
  deriving DecidableEq, Repr

/-- Names the state of one peer: (endpoint, peer address, peer endpoint) of R427, or a connection (address and peer 0). -/
structure PeerKey where
  conn : Bool
  id : Nat
  addr : Nat
  peer : Nat
  deriving DecidableEq, Repr

/-- Per-peer state (R427, R428, R439), and per-connection state (R440). -/
structure Peer where
  key : PeerKey
  highest : Option Nat := none
  marks : Map Nat := []           -- the 2-bit states of R428, by PSN
  lastTs : Nat := 0
  nextPsn : Nat
  nextMsn : Nat
  rate : Nat                      -- RC in Mb/s
  cutAt : Nat := 0                -- time of the last decrease for ECE, plus 1
  ecn : Bool := false             -- ECE is owed in the next ACK
  pend : Nat := 0                 -- durable messages pending
  expected : Nat := 0             -- expected PSN of a connection
  deriving DecidableEq, Repr

/-- A packet of a message in progress, sent and not yet gone (R429, R438).  `off` counts from the start of the message. -/
structure TxPkt where
  psn : Nat
  off : Nat
  len : Nat
  first : Bool
  last : Bool
  sendTs : Nat
  tries : Nat := 0                -- retransmissions
  answer : Option Nat := none     -- the SYNDROME that answered it
  placed : Bool := false          -- ACK_PENDING has been received
  dead : Bool := false            -- timed out
  deriving DecidableEq, Repr

/-- A WRITE or READ in progress at the initiator (R432 to R435).  `ring` is 65,536 for a destage to a REMOTE backend. -/
structure TxMsg where
  ring : Nat
  pos : Nat
  destage : Nat := 0
  key : PeerKey
  read : Bool
  durable : Bool
  notify : Bool
  imm : Nat
  wkey : Nat
  laddr : Nat
  roff : Nat
  len : Nat
  msn : Nat
  data : List Byte
  cut : Nat := 0                  -- bytes cut into packets
  pkts : List TxPkt := []
  got : List (Nat × Nat) := []    -- parts of a READ received: offset and length
  deriving DecidableEq, Repr

/-- A message arriving in a PERSIST window, until every byte of it is durable (R434, R475). -/
structure RxMsg where
  key : PeerKey
  msn : Nat
  handle : Nat
  win : Nat
  start : Nat                     -- byte offset of the message in the namespace
  woff : Nat                      -- and in the window
  len : Nat
  groups : List (Nat × Nat × Nat × Nat)  -- group number, group, its SEQ, bytes placed
  durable : Bool
  lastPsn : Option Nat := none    -- PSN of LAST, once placed
  note : Option (List Nat) := none  -- the notification that waits for durability
  deriving DecidableEq, Repr

/-- The RMA transport beyond its registers (R414 to R448). -/
structure RmaSt where
  wins : Map RmaWin := []
  revoking : List (Nat × Nat × Nat) := []  -- a WIN_REVOKE that waits for its fence: window, ring, position
  peers : List Peer := []
  tx : List TxMsg := []
  rx : List RxMsg := []
  waits : List (Nat × Nat) := []  -- descriptors that wait for a peer entry: ring, position
  synced : Bool := false          -- the module was IN_SYNC when the endpoints last looked (R431)
  deriving DecidableEq, Repr

/-- The time base beyond its registers (R43, R45, R61). -/
structure TimeSt where
  frac : Nat := 0                 -- part of the time base below 1 ns, in 1/(4096 x 10^9) ns
  phase : Nat := 0                -- quarters of a nanosecond interpolated since the last tick (R35, R43)
  step : Nat := 0                 -- positive offset still to be added at the next tick
  slew : Nat := 0                 -- negative offset still to be absorbed, in the unit of `frac`
  plan : List Nat := []           -- ports whose next scheduled window, WAKE_LEAD ahead, holds domains awake (R61)
  ptpDomains : List Nat := []     -- PTP domains in use, the one that disciplines the time base first (R47)
  deriving DecidableEq, Repr

/-- The energy ledger beyond its registers (R537 to R554); energies in pJ. -/
structure LedSt where
  rest : Nat := 0                 -- part of E_IN below 1 uJ
  ms : Nat := 0                   -- input energy of the millisecond in hand
  last : Nat := 0                 -- input energy of the millisecond last closed
  drift : Nat := 0                -- milliseconds in a row with s outside 0.8 to 1.25
  calm : Nat := 0                 -- milliseconds in a row with s within 0.9 to 1.1
  rests : Map Nat := []           -- part of USED and TOTAL below 1 uJ, by account
  overs : Map Nat := []           -- part of OVERRUN below 1 uJ, by account
  window : Map (List Nat) := []   -- charges of the last 10 ms, newest first, by account
  own : Map Nat := []             -- level of R543, by account
  cap : Nat := 0                  -- rise under R546
  oper : Map (Map Nat) := []      -- account settings in force since the last planner run (R542, R559)
  copy : List Nat := []           -- E_IN, then TOTAL and USED of each account, as last copied (R554)
  zeroed : Bool := false          -- a zeroisation has run in the millisecond in hand (R498, R552)
  since : Map Nat := []           -- when the period of an account began (R541)
  clocks : Map Nat := []          -- clock ceilings below nominal, as last told: 512 less their value, by unit (R511, R544, R614)
  deriving DecidableEq, Repr

/-- A bank of the calibration set in flash (R616): values by 65,536 x section + index, each plus 1. -/
structure CalBank where
  valid : Bool := false
  seq : Nat := 0
  vals : Map Nat := []
  deriving DecidableEq, Repr

/-- The calibration set (R616 to R619). -/
structure CalSt where
  banks : Map CalBank := []
  cur : Nat := 0                  -- bank of the current set
  vals : Map Nat := []            -- the current set, read at BOOT; empty without one
  upd : List (Nat × Nat × Nat) := []  -- the update in hand: section, index, value
  deriving DecidableEq, Repr

/-- Pins and sensors beyond their registers (R520, R523, R663, R664, R668, R669). -/
structure PkgSt where
  good : Bool := false            -- PWR_GOOD
  iso : Bool := false             -- HOLDUP_ISO is driven high
  rst : Bool := false             -- RST_N is low
  alert : Bool := false           -- SMB_ALERT_N is asserted
  smbAddr : Nat := 0
  hot : Map Nat := []             -- samples in a row at or above 110 C, by sensor
  dwell : Option Nat := none      -- since when VIN_SENSE has stood at or above VHOLD + HYST (R517)
  sagged : Bool := false          -- VIN_SENSE is below VHOLD, and the SAG has been counted (R513)
  deep : Bool := false            -- VIN_SENSE is below VVAULT, and the DEEP_SAG has been counted
  rstSeen : Bool := false         -- RST_N was asserted in VAULT (R19)
  auxOff : Nat := 0               -- auxiliary rails turned off by an overload (R662): bit 0 V1P8, bit 1 V3P3
  deriving DecidableEq, Repr

/-- What the last HELLO of a stitch link said (R277). -/
structure Hello where
  master : Nat := 0
  timeState : Nat := 0
  want : Nat := 0                 -- RESYNC_REQ
  err : Nat := 0                  -- ERR_EST of the sender
  deriving DecidableEq, Repr

/-- Stitch links beyond their registers (R274 to R297). -/
structure StcSt where
  inbox : Map (List (Nat × List Byte)) := []  -- by link: arrival time and bytes of each DATA, TIME and HELLO frame received
  hellos : Map Hello := []        -- by link
  known : List Nat := []          -- neighbours joined and not lost
  bootIds : Map Nat := []         -- by neighbour: the BOOT_ID it last showed, plus 1 (R291)
  want : List Nat := []           -- origins whose RESYNC_REQ bit this module sets (R290)
  asked : List Nat := []          -- those whose bit a HELLO to them has carried
  serving : List (Nat × Nat) := []  -- neighbours whose request is being served, with the entries re-sent
  told : List Nat := []           -- pending members for which EV0680 has been raised: 8 x DEVID + link
  peer : Map (Nat × Nat) := []    -- by link: TX_TS and arrival time, plus 1, of the last TIME frame
  waiting : Bool := false         -- a TIME frame to the master is unanswered
  missed : Nat := 0               -- exchanges unanswered in succession
  close : Nat := 0                -- exchanges in succession within 8 ns
  deriving DecidableEq, Repr

/-- What a micro-trap saves (R403): micro-PC, NSPACE, FLAGS, S0 to S7. -/
structure SqSaved where
  upc : Nat
  nspace : Bool
  flags : Nat
  regs : List Nat
  deriving DecidableEq, Repr

/-- A sequencer context (R394): its descriptor (ring and position), micro-PC, FLAGS, S0 to S7; the trap in progress; interrupts that wait; a wait for DMA or an engine. -/
structure SqCtx where
  job : Option (Nat × Nat) := none
  upc : Nat := 0
  nspace : Bool := false
  flags : Nat := 0
  regs : List Nat := []
  trap : Option SqSaved := none
  irqs : List Nat := []
  waiting : Bool := false
  deriving DecidableEq, Repr

/-- A patch set (R400): level, words of 144 bits, match registers as HX_SQ_PMATCH lays them out. -/
structure PatchSet where
  level : Nat := 0
  words : List Nat := []
  matches' : List Nat := []
  deriving DecidableEq, Repr

/-- The queue sequencers beyond their registers (R394 to R413). -/
structure SqSt where
  ctxs : Map SqCtx := []          -- by 16 x sequencer + context
  cur : Map Nat := []             -- the context each sequencer runs
  next : Nat := 0                 -- pointer of the dispatch arbiter (R395)
  fetchTurn : Map Nat := []       -- the ring ID at which each prefetch cache looks first (R372)
  checks : Map (List Nat) := []   -- times of machine checks in the last hour, by sequencer
  last : Map Nat := []            -- CAUSE of the last machine check, by sequencer
  logged : Map Bool := []         -- a trap record has been written since cold reset
  patch : Map Nat := []           -- patch RAM, the same in both halves (R398)
  copy : PatchSet := {}           -- the last loaded patch set, in AO-reserved HBM (R399)
  load : Option PatchSet := none  -- a load in hand, verified
  loadM : List Byte := []         -- M of its image (R588)
  loadPages : Nat := 0            -- pages of a load in VERIFY (R402)
  writeBad : Bool := false        -- a word of a load in WRITE failed its read-back twice (R402)
  deriving DecidableEq, Repr

/-- An AO_IMG command in progress (R581): operation, slot, pages, slot offset in pages. -/
structure ImgCmd where
  op : Nat
  slot : Nat
  pages : Nat
  offset : Nat
  deriving DecidableEq, Repr

/-- The boot flash, the fuses, and what a BOOT keeps (R561 to R589).  The flash, the fuses and the counts of failed starts outlive a loss of power. -/
structure BootSt where
  flash : Map (Map Byte) := []    -- slots 0 and 1, configuration copies 2 and 3; an unlisted byte is erased, 0xFF
  floor : Nat := 0                -- blown bits of FLOOR (R584)
  revoked : Nat := 0              -- revocation bits (R585)
  fails : Nat := 0                -- consecutive failed starts (R572)
  kicked : Nat := 0               -- when the supervisor watchdog was last armed or kicked (R604)
  slotFails : Map Nat := []       -- fails(X)
  demoted : Map Bool := []
  strap : Bool := false           -- BOOTSEL as sampled on leaving OFF
  flashOk : Bool := true          -- the flash answered at the last BOOT (R590)
  retained : Bool := false        -- the AO-reserved partition of HBM is retained (R306)
  img : Option ImgCmd := none
  uploaded : Bool := false        -- a COMMIT has completed with DONE in this SAFETY-NET (R580)
  digest : List Byte := []        -- of the booted slot
  seq : Nat := 0                  -- SEQ, SVN, ROOT_IDX, FLOOR_ADVANCE of the booted image
  svn : Nat := 0
  root : Nat := 0
  advance : Bool := false
  clusters : Nat := 0             -- CLUSTER_MASK and SQ_MASK (R567)
  sqs : Nat := 0
  coreFw : List Byte := []        -- the CORE_FW section (R565)
  meas : List Byte := []          -- RUNTIME_MEAS; empty is zero
  loads : Nat := 0
  attIn : List Nat := []          -- AO_ATT_IN at the clock of the REPORT
  report : List Byte := []        -- AO_ATT_OUT
  debugged : Bool := false        -- debug access has been opened since BOOT (R588)
  limited : Bool := false         -- an unverified image has run since cold reset (R571)
  cold : Bool := true             -- no BOOT has been entered since cold reset
  deriving DecidableEq, Repr

/-- Tightrope beyond its registers (R612, R615): a run that is due; by region, the part of AGE_EQ_H below 1/3,600 h and the weights of the last 30 days, newest first, both in 2^-32. -/
structure TrSt where
  due : Bool := false             -- a run is due (R612)
  temps : List Nat := []          -- TEMP of T00 to T47 at the last run
  rest : Map Nat := []
  hist : Map (List Nat) := []
  deriving DecidableEq, Repr

/-- Debug access beyond its registers (R649, R650): the token buffer of MAILBOX by word, whether the challenge is valid, the token of the OPEN in hand. -/
structure DbgSt where
  buf : Map Nat := []
  valid : Bool := false
  at' : Nat := 0                  -- when the challenge was drawn
  token : List Byte := []
  deriving DecidableEq, Repr

/-- The TAP (R647): the instruction in force and the boundary register. -/
structure TapSt where
  ir : Nat := 2                   -- Test-Logic-Reset selects IDCODE
  boundary : Nat := 0
  drive : Nat := 0                -- the scanned outputs: 0 the module's own, 1 as the boundary register holds them, 2 high impedance
  deriving DecidableEq, Repr

/-- The central counter reader (R642, R643): the sweep in hand, with the start of its reads, and the counter-table partition. -/
structure CcrSt where
  regions : Nat := 0
  dest : Bool := false
  since : Nat := 0
  seq : Nat := 0                  -- sweeps since cold reset
  table : List Host.Cell := []
  deriving DecidableEq, Repr

/-- An application core's hart (R298, R300): its program counter, its privilege mode (0 U, 1 S, 3 M), the integer, floating-point and vector registers, the page-table register, the 16 PMP entries, its timer compares, and the pending identities of its M-level and S-level IMSIC files. -/
structure Hart where
  pc : Nat := 0
  priv : Nat := 3
  x : Map Nat := []               -- x1 to x31, 64 bits
  f : Map Nat := []               -- f0 to f31, 64 bits
  v : Map Nat := []               -- v0 to v31, 256 bits
  satp : Nat := 0
  pmp : Map (Nat × Nat) := []     -- configuration and address of each entry
  mtimecmp : Nat := 0
  stimecmp : Nat := 0
  pendM : List Nat := []
  pendS : List Nat := []
  deriving DecidableEq, Repr

/-- The state of the module. -/
structure State where
  /-- The commands that wait, first in first out. -/
  pending : List Instr := []
  /-- AO has power: false is the state OFF of R17. -/
  powered : Bool := false
  /-- Every register field, by field number and copy; each entry holds the exclusive-or of the value with the field's reset value, so that what is not listed is at reset. -/
  regs : Map (Map Nat) := []
  /-- The regions whose RWL fields the supervisor has locked (R8, R10). -/
  locks : Map Bool := []
  /-- 64-bit register accesses in hand, by requester (R680). -/
  latches : Map Latch := []
  log : LogSt := {}
  staged : List Staged := []
  out : List Out := []
  /-- How many open values have been drawn (`Config.freeValue`): the model's own field. -/
  draws : Nat := 0
  /-- Trace messages lost since the last one written (R645). -/
  traceLost : Nat := 0
  /-- Core memory (R301, R305) and the program staging area, byte by byte; what is not listed reads 0 (R306 zero-fills HBM). -/
  mem : List Host.Cell := []
  staging : List Host.Cell := []
  /-- Poisoned lines of core memory: address / 64 (R309). -/
  poison : List Nat := []
  cfgs : Map FnCfg := []
  hosts : Map HostLink := []
  dlogs : Map Dlog := []
  rings : Map RingSt := []
  mac : MacSt := {}
  tbl : TblSt := {}
  prog : ProgSt := {}
  fx : FxSt := {}
  tm : TmSt := {}
  limits : Map Limit := []
  /-- Region faults that a command has come upon and that are still to be handled (R597): region, condition code, DETAIL. -/
  faultsDue : List (Nat × Nat × List Nat) := []
  ciph : CiphSt := {}
  stor : StorSt := {}
  rma : RmaSt := {}
  time : TimeSt := {}
  led : LedSt := {}
  cal : CalSt := {}
  pkg : PkgSt := {}
  stc : StcSt := {}
  sq : SqSt := {}
  boot : BootSt := {}
  tr : TrSt := {}
  dbg : DbgSt := {}
  tap : TapSt := {}
  ccr : CcrSt := {}
  /-- The application cores' harts, by core (R298). -/
  harts : Map Hart := []
  /-- A request of AO_MODULE_CTRL that was accepted and waits for the end of its clock (R21, R26): 0 none, 1 RESTART, 2 SNET, 3 HALT; 4 a RESTART that waits in SAFETY-NET for VIN (R19). -/
  request : Nat := 0
  /-- Times of the module faults of the last 24 hours (R605), and of each region's resets in the last 60 minutes (R599), newest first. -/
  faultTimes : List Nat := []
  resetTimes : Map (List Nat) := []
  /-- Module faults that came in VAULT, logged after it completes (R606). -/
  lateFaults : List Nat := []
  deriving DecidableEq, Repr

/-- The module right after reset: OFF, every register at its reset value, nothing waiting. -/
def State.reset : State := {}

/-- Why a command can stop the machine. -/
inductive Fault where
  /-- Raised by no command: the spec lets the module itself run on in every case. Safe. -/
  | none
  deriving DecidableEq, Repr

/-- Why the model gives a command no meaning. -/
inductive Refusal where
  /-- Raised by `exec` for a command whose meaning is not written. Safe: no claim can be proved of its effect. -/
  | notModelled (mnemonic : String)
  deriving DecidableEq, Repr

end Sys2Proof.Machine
end

