-- ==== Sys2Proof/Machine/Ops.lean ====
section
/-! DEFINITION. The operations every chapter shares: reading and writing a register field, counters, the time base, memory, the owner of a resource, interrupts, raising an event, the fault log. -/

namespace Sys2Proof.Machine

/-! ### One field of the state replaced -/

def State.withPending (s : State) (x : List Instr) : State := { s with pending := x }
def State.withPowered (s : State) (x : Bool) : State := { s with powered := x }
def State.withRegs (s : State) (x : Map (Map Nat)) : State := { s with regs := x }
def State.withLocks (s : State) (x : Map Bool) : State := { s with locks := x }
def State.withLatches (s : State) (x : Map Latch) : State := { s with latches := x }
def State.withLog (s : State) (x : LogSt) : State := { s with log := x }
def State.withStaged (s : State) (x : List Staged) : State := { s with staged := x }
def State.withOut (s : State) (x : List Out) : State := { s with out := x }
def State.withDraws (s : State) (x : Nat) : State := { s with draws := x }
def State.withTraceLost (s : State) (x : Nat) : State := { s with traceLost := x }
def State.withMem (s : State) (x : List Host.Cell) : State := { s with mem := x }
def State.withStaging (s : State) (x : List Host.Cell) : State := { s with staging := x }
def State.withPoison (s : State) (x : List Nat) : State := { s with poison := x }
def State.withCfgs (s : State) (x : Map FnCfg) : State := { s with cfgs := x }
def State.withHosts (s : State) (x : Map HostLink) : State := { s with hosts := x }
def State.withDlogs (s : State) (x : Map Dlog) : State := { s with dlogs := x }
def State.withRings (s : State) (x : Map RingSt) : State := { s with rings := x }
def State.withMac (s : State) (x : MacSt) : State := { s with mac := x }
def State.withTbl (s : State) (x : TblSt) : State := { s with tbl := x }
def State.withProg (s : State) (x : ProgSt) : State := { s with prog := x }
def State.withFx (s : State) (x : FxSt) : State := { s with fx := x }
def State.withTm (s : State) (x : TmSt) : State := { s with tm := x }
def State.withLimits (s : State) (x : Map Limit) : State := { s with limits := x }
def State.withFaultsDue (s : State) (x : List (Nat × Nat × List Nat)) : State := { s with faultsDue := x }
def State.withCiph (s : State) (x : CiphSt) : State := { s with ciph := x }
def State.withStor (s : State) (x : StorSt) : State := { s with stor := x }
def State.withRma (s : State) (x : RmaSt) : State := { s with rma := x }
def State.withTime (s : State) (x : TimeSt) : State := { s with time := x }
def State.withLed (s : State) (x : LedSt) : State := { s with led := x }
def State.withCal (s : State) (x : CalSt) : State := { s with cal := x }
def State.withPkg (s : State) (x : PkgSt) : State := { s with pkg := x }
def State.withStc (s : State) (x : StcSt) : State := { s with stc := x }
def State.withSq (s : State) (x : SqSt) : State := { s with sq := x }
def State.withBoot (s : State) (x : BootSt) : State := { s with boot := x }
def State.withTr (s : State) (x : TrSt) : State := { s with tr := x }
def State.withDbg (s : State) (x : DbgSt) : State := { s with dbg := x }
def State.withTap (s : State) (x : TapSt) : State := { s with tap := x }
def State.withCcr (s : State) (x : CcrSt) : State := { s with ccr := x }
def State.withHarts (s : State) (x : Map Hart) : State := { s with harts := x }
def State.withRequest (s : State) (x : Nat) : State := { s with request := x }
def State.withFaultTimes (s : State) (x : List Nat) : State := { s with faultTimes := x }
def State.withResetTimes (s : State) (x : Map (List Nat)) : State := { s with resetTimes := x }
def State.withLateFaults (s : State) (x : List Nat) : State := { s with lateFaults := x }

/-! ### Register fields -/

/-- The value of copy `i` of a register field. -/
def State.fld (s : State) (f : Fld) (i : Nat := 0) : Nat :=
  Nat.xor (Map.get 0 i (Map.get [] f.id s.regs)) (f.rst i)

/-- Write copy `i` of a register field; the value is cut to the field's width. -/
def State.setFld (s : State) (f : Fld) (i v : Nat) : State :=
  (s.withRegs (Map.set [] f.id (Map.set 0 i (Nat.xor (v % 2 ^ f.width) (f.rst i)) (Map.get [] f.id s.regs)) s.regs))

/-- A one-bit field as a Boolean. -/
def State.flag (s : State) (f : Fld) (i : Nat := 0) : Bool := s.fld f i == 1

/-- Set a one-bit field. -/
def State.setFlag (s : State) (f : Fld) (i : Nat) (b : Bool) : State := s.setFld f i (b2n b)

/-- Add to a counter, which wraps at its width. -/
def State.bump (s : State) (f : Fld) (i : Nat := 0) (n : Nat := 1) : State := s.setFld f i (s.fld f i + n)

/-- Add to a counter that saturates. -/
def State.bumpSat (s : State) (f : Fld) (i : Nat := 0) (n : Nat := 1) : State :=
  s.setFld f i (min (s.fld f i + n) (2 ^ f.width - 1))

/-- Return copy `i` of a field to its reset value. -/
def State.resetFld (s : State) (f : Fld) (i : Nat := 0) : State := s.setFld f i (f.rst i)

/-- The copies of a field that are not at their reset value, in rising order. -/
def State.listed (s : State) (f : Fld) : List Nat := (Map.get [] f.id s.regs).map (·.1)

/-- A field read as a signed number of its width. -/
def signed (w v : Nat) : Int := if v < 2 ^ (w - 1) then (v : Int) else (v : Int) - 2 ^ w

/-- A signed number as a field of width `w`. -/
def unsigned (w : Nat) (v : Int) : Nat := (v % 2 ^ w).toNat

/-! ### Output, open values, time, module state -/

/-- Append to what the module has sent out. -/
def State.emit (s : State) (o : Out) : State := (s.withOut (s.out ++ [o]))

/-- The next open value (log entry 4). -/
def State.free (s : State) : Nat := Config.freeValue s.draws

/-- The state after an open value has been drawn. -/
def State.drawn (s : State) : State := (s.withDraws (s.draws + 1))

/-- The time base in whole nanoseconds (R43). -/
def State.now (s : State) : Nat := s.fld F.AO_TB_NOW_NOW

/-- The state encodings of R17. -/
def ModState.code : ModState → Nat
  | .off => 0 | .standby => 1 | .boot => 2 | .run => 3 | .rideThrough => 4 | .vault => 5 | .safetyNet => 6 | .halt => 7

def ModState.ofCode : Nat → ModState
  | 0 => .off | 1 => .standby | 2 => .boot | 3 => .run | 4 => .rideThrough | 5 => .vault | 6 => .safetyNet | _ => .halt

/-- The module state (R17): OFF while AO has no power, else what AO_MODULE_STATE reports. -/
def State.mode (s : State) : ModState :=
  if s.powered then ModState.ofCode (s.fld F.AO_MODULE_STATE_STATE) else .off

/-- RUN or RIDE-THROUGH. -/
def State.inService (s : State) : Bool := s.mode == .run || s.mode == .rideThrough

/-- Region `r` is fenced by a region reset (R600). -/
def State.fenced (s : State) (r : Nat) : Bool := s.flag F.AO_FLT_REGION_RESETTING r

/-! ### Words and bytes -/

/-- `n` little-endian bytes of a number (R5). -/
def leBytes (n v : Nat) : List Byte :=
  match n with
  | 0 => []
  | n + 1 => BitVec.ofNat 8 v :: leBytes n (v / 256)

/-- A number from little-endian bytes. -/
def ofLe : List Byte → Nat
  | [] => 0
  | b :: bs => b.toNat + 256 * ofLe bs

/-- A number from big-endian bytes. -/
def ofBe (bs : List Byte) : Nat := bs.foldl (fun a b => a * 256 + b.toNat) 0

/-- `n` big-endian bytes of a number. -/
def beBytes (n v : Nat) : List Byte := (leBytes n v).reverse

/-- The bytes of 32-bit words, low byte first. -/
def wordBytes : List Nat → List Byte
  | [] => []
  | w :: ws => leBytes 4 w ++ wordBytes ws

/-- `n` words of a byte string, low byte first. -/
def bytesWords (n : Nat) (bs : List Byte) : List Nat :=
  match n with
  | 0 => []
  | n + 1 => ofLe (bs.take 4) :: bytesWords n (bs.drop 4)

/-- `n` bytes of `bs` from offset `o`, as a little-endian number. -/
def leAt (bs : List Byte) (o n : Nat) : Nat := ofLe ((bs.drop o).take n)

/-- One bit through the CRC-32C register (R111), reflected polynomial 0x82F6_3B78. -/
def crcBit (c : Nat) : Nat := if c % 2 = 1 then Nat.xor (c / 2) 0x82F63B78 else c / 2

/-- CRC-32C over bytes from register value `c`. -/
def crcFrom (c : Nat) (bs : List Byte) : Nat :=
  bs.foldl (fun c b => crcBit (crcBit (crcBit (crcBit (crcBit (crcBit (crcBit (crcBit (Nat.xor c b.toNat))))))))) c

/-- CRC-32C with the usual start and final inversion. -/
def crc32c (bs : List Byte) : Nat := Nat.xor (crcFrom 0xFFFFFFFF bs) 0xFFFFFFFF

/-! ### Memory (R301, R303) -/

/-- One byte of core memory. -/
def State.memByte (s : State) (a : Nat) : Byte := Map.get 0 a s.mem

/-- `n` bytes of core memory from address `a`. -/
def State.memRead (s : State) (a n : Nat) : List Byte :=
  match n with
  | 0 => []
  | n + 1 => s.memByte a :: s.memRead (a + 1) n

/-- The cells after bytes are written from address `a`. -/
def cellsWrite (m : List Host.Cell) (a : Nat) : List Byte → List Host.Cell
  | [] => m
  | b :: bs => cellsWrite (Map.set 0 a b m) (a + 1) bs

/-- `n` bytes of a cell list from address `a`. -/
def cellsRead (m : List Host.Cell) (a n : Nat) : List Byte :=
  match n with
  | 0 => []
  | n + 1 => Map.get 0 a m :: cellsRead m (a + 1) n

/-- Write bytes to core memory from address `a`; a whole line written is poisoned no more (R309). -/
def State.memWrite (s : State) (a : Nat) (bs : List Byte) : State :=
  ((s.withMem (cellsWrite s.mem a bs)).withPoison (s.poison.filter (fun l => decide (64 * l < a) || decide (a + bs.length < 64 * l + 64))))

/-- The number of stacks in a mask. -/
def stackCount (mask : Nat) : Nat := bits mask 0 1 + bits mask 1 1 + bits mask 2 1 + bits mask 3 1

/-- CORE_SIZE(m) in bytes (R305, R307): the stack less its fixed partitions and its share of the write cache. -/
def State.coreSize (s : State) (m : Nat) : Nat :=
  let mask := s.fld F.MX_HBM_PART_WC_STACKS
  let size := min (s.fld F.MX_HBM_PART_WC_SIZE) 16
  let share := if bit mask m then size * 2 ^ 30 / stackCount mask else 0
  let fixed := if m = 0 then 2704 * 2 ^ 20 else 0
  16 * 2 ^ 30 - fixed - share

/-- The stack whose core memory holds address `a` (R301). -/
def State.coreStack (s : State) (a : Nat) : Option Nat :=
  let base := 0x1000000000
  let m := (a - base) / 0x400000000
  if base ≤ a ∧ m < 4 ∧ (a - base) % 0x400000000 < s.coreSize m then some m else none

/-- The `n` bytes from `a` lie in core memory (R301). -/
def State.inCore (s : State) (a n : Nat) : Bool :=
  match s.coreStack a, s.coreStack (a + n - 1) with
  | some m, some m' => m == m'
  | _, _ => false

/-- The stack that holds core address `a` is off or powering on (R312, R317). -/
def State.stackOff (s : State) (a : Nat) : Bool :=
  match s.coreStack a with
  | some m => decide (2 ≤ s.fld F.MX_HBM_STACK_CTRL_STATE m)
  | none => false

/-- The `n` bytes of core memory from `a` can be read: they exist, their stack is on, and no line of them is poisoned (R301, R310, R312). -/
def State.coreGood (s : State) (a n : Nat) : Bool :=
  s.inCore a n && !s.stackOff a && !s.poison.any (fun l => decide (a / 64 ≤ l) && decide (64 * l < a + n))

/-! ### Functions (R320, R349, R351, R353, R686) -/

/-- Function index of the manager (R349): PF0 in SAFETY-NET. -/
def State.mgr (s : State) : Nat := if s.mode = .safetyNet then 0 else s.fld F.HX_FN_MGR_MGR_PF

/-- The PF of a function (R686): itself, or the PF that owns the VF. -/
def pfOf (fi : Nat) : Nat := if fi < 8 then fi else (fi - 8) / 256

/-- The host link of a function (R320). -/
def linkOf (fi : Nat) : Nat := pfOf fi / 4

/-- The sub-link that presents a function (R320). -/
def State.sublinkOf (s : State) (fi : Nat) : Nat :=
  if s.flag F.HX_PCIE_LINK_CFG_BIFUR (linkOf fi) then pfOf fi % 4 / 2 else 0

/-- Configuration space of a function. -/
def State.cfg (s : State) (fi : Nat) : FnCfg := Map.get {} fi s.cfgs
def State.setCfg (s : State) (fi : Nat) (c : FnCfg) : State := (s.withCfgs (Map.set {} fi c s.cfgs))

/-- A function is live (R352): a PF by Memory Space Enable or Bus Master Enable, a VF by VF Enable of its PF and NumVFs. -/
def State.live (s : State) (fi : Nat) : Bool :=
  if fi < 8 then (s.cfg fi).mse || (s.cfg fi).bme
  else let c := s.cfg (pfOf fi); c.vfEn && (fi - 8) % 256 < c.numVfs

/-- The record of a function or cluster is committed (R351). -/
def State.committed (s : State) (fi : Nat) : Bool := s.flag F.HX_FN_REC_COMMITTED fi

/-- The committed functions and clusters. -/
def State.holders (s : State) : List Nat := (s.listed F.HX_FN_REC_COMMITTED).filter s.committed

/-- `x` lies in the range of `n` from `b`. -/
def inRange (x b n : Nat) : Bool := decide (b ≤ x) && decide (x < b + n)

/-- The function or cluster whose committed record holds ring `r` (R363). -/
def State.ringOwner (s : State) (r : Nat) : Option Nat :=
  s.holders.find? (fun fi => inRange r (s.fld F.HX_FN_REC_RING_BASE fi) (s.fld F.HX_FN_REC_RING_COUNT fi))

/-- Function index of cluster `k`'s record (R351). -/
def clusterFi (k : Nat) : Nat := 2056 + k

/-- A ring is live when a committed record holds it and it is ACTIVE (R386). -/
def State.ringLive (s : State) (r : Nat) : Bool :=
  (s.ringOwner r).isSome && (let st := s.fld F.HX_RING_STATUS_STATE r; st == 1 || st == 2 || st == 3)

/-! ### Power domains (R58, R59, R525, R527) -/

/-- Conditions of a domain (R66). -/
def powGated : Nat := 0
def powWaking : Nat := 1
def powClock : Nat := 2
def powOn : Nat := 3

def State.power (s : State) (d : Nat) : Nat := s.fld F.AO_WAKE_STATUS_POWER d

/-- The domain runs, or leaves clock gating within 20 ns. -/
def State.awake (s : State) (d : Nat) : Bool := decide (2 ≤ s.power d)

/-- Domain of pipeline `q` (0 to 15) of region `r` (R525). -/
def halfDomain (r q : Nat) : Nat := 11 * (r - 1) + 8 + q % 8 / 4

/-- Domain of bank group `g`. -/
def bgDomain (g : Nat) : Nat := 44 + g

/-- Region of a domain (R525). -/
def domainRegion (d : Nat) : Nat :=
  if d < 44 then 1 + d / 11 else if d < 64 then 5 else if d < 76 then 6 else if d < 88 then 7 else 8

/-- An HBM stack shows the condition of its domains in its own register too (R317). -/
def State.showStack (s : State) (d v : Nat) : State :=
  if 88 ≤ d ∧ s.fld F.MX_HBM_STACK_CTRL_STATE ((d - 88) / 2) < 2 then s.setFld F.MX_HBM_STACK_CTRL_STATE ((d - 88) / 2) (if 2 ≤ v then 0 else 1)
  else s

/-- Set the condition of a domain; a bank group and an HBM stack show it in their own registers too (R243, R317). -/
def State.setPower (s : State) (d v : Nat) : State :=
  let s := s.setFld F.AO_WAKE_STATUS_POWER d v
  if 44 ≤ d ∧ d < 60 then s.setFld F.FX_BUF_BG_STATUS_POWER (d - 44) v else s.showStack d v

/-- A domain is switched off by FORCE_OFF (R526). -/
def State.forcedOff (s : State) (d : Nat) : Bool := s.flag F.AO_PD_CTRL_FORCE_OFF d

/-- A wake trigger reaches a domain, whose condition `set` shows (R58, R59): one wake at a time; a forced-off domain counts it in BLOCKED (R527).  WAKES counts the leaving of clock gating as a wake too (DESIGN CHOICE, log entry 58). -/
def State.wakeWith (s : State) (d : Nat) (set : State → Nat → State) : State :=
  if s.forcedOff d then s.bumpSat F.AO_PD_CTRL_BLOCKED d
  else if s.power d = powGated then (set s powWaking).bumpSat F.AO_WAKE_STATUS_WAKES d
  else if s.power d = powClock then (set s powOn).bumpSat F.AO_WAKE_STATUS_WAKES d
  else s

/-- A wake trigger reaches a domain. -/
def State.wake (s : State) (d : Nat) : State := s.wakeWith d (fun s v => s.setPower d v)

/-- An access to a domain that sleeps wakes it. -/
def State.rouse (s : State) (d : Nat) (set : State → Nat → State) : State :=
  if s.power d = powOn ∨ s.power d = powWaking then s else s.wakeWith d set

/-! ### Accesses that wake (R58, R300) -/

/-- An access to core memory wakes the two domains of its stack, where the stack sleeps (R58); a stack that is off does not wake (R312). -/
def State.stackTouch (s : State) (a : Nat) : State :=
  match s.coreStack a with
  | some m =>
    let one (s : State) (d : Nat) : State := s.rouse d (fun s v => (s.setFld F.AO_WAKE_STATUS_POWER d v).showStack d v)
    if s.fld F.MX_HBM_STACK_CTRL_STATE m < 2 then one (one s (88 + 2 * m)) (89 + 2 * m) else s
  | none => s

/-- Write bytes to core memory, past a line that was poisoned; the access wakes the stack. -/
def State.corePut (s : State) (a : Nat) (bs : List Byte) : State := (s.stackTouch a).memWrite a bs

/-- Hart `n`. -/
def State.hart (s : State) (n : Nat) : Hart := Map.get {} n s.harts

/-- A hart with an identity pending in its M-level (0) or S-level (1) IMSIC file, 1 to 255 (R300). -/
def Hart.pend (h : Hart) (file identity : Nat) : Hart :=
  let add (l : List Nat) : List Nat := if identity = 0 ∨ 255 < identity ∨ l.contains identity then l else l ++ [identity]
  if file = 0 then { h with pendM := add h.pendM } else { h with pendS := add h.pendS }

/-- The timer interrupts of hart `n` (R300): `mtime`, which reads the time base, has reached `mtimecmp`, and `stimecmp`. -/
def State.timersPend (s : State) (n : Nat) : Bool × Bool := (decide ((s.hart n).mtimecmp ≤ s.now), decide ((s.hart n).stimecmp ≤ s.now))

/-- An identity becomes pending in an IMSIC file of a core (R300); the interrupt wakes the core's cluster (R58). -/
def State.imsic (s : State) (core file identity : Nat) : State :=
  ((s.withHarts (Map.set {} core ((s.hart core).pend file identity) s.harts)).emit (.imsic core file identity)).rouse (76 + core / 4)
    (fun s v => s.setFld F.AO_WAKE_STATUS_POWER (76 + core / 4) v)

/-! ### Interrupts (R338, R632, R633) -/

/-- A vector's message may go: unmasked, its function unmasked, Bus Master Enable 1 (R338). -/
def State.vectorOpen (s : State) (fi vec : Nat) : Bool :=
  (s.cfg fi).bme && !(s.cfg fi).msixMask && !s.flag F.HX_FNV_MSIX_MASK (fi * 2048 + vec)

/-- Trigger a vector of a function: send its message, or set its PBA bit (R338).  A vector at or beyond VEC_COUNT has no entry (R681). -/
def State.vector (s : State) (fi vec : Nat) : State :=
  if s.fld F.HX_FN_REC_VEC_COUNT fi ≤ vec then s
  else if s.vectorOpen fi vec then
    s.emit (.msix fi vec (s.fld F.HX_FNV_MSIX_ADDR (fi * 2048 + vec)) (s.fld F.HX_FNV_MSIX_DATA (fi * 2048 + vec)))
  else s.setFld F.HX_FNV_PBA_PBA (fi * 64 + vec / 32) (Nat.lor (s.fld F.HX_FNV_PBA_PBA (fi * 64 + vec / 32)) (2 ^ (vec % 32)))

/-- The vector, or the core's file and identity, that an event source's interrupts go to (R629). -/
def State.irqTarget (s : State) (e : Nat) : Nat × Nat :=
  let kind := s.fld F.AO_EVT_ROUTE_IRQ_KIND e
  (kind, if kind = 0 then s.fld F.AO_EVT_ROUTE_VEC e else 256 * s.fld F.AO_EVT_ROUTE_CORE e + s.fld F.AO_EVT_ROUTE_IDENTITY e)

/-- The interrupts sent in this clock, each with its source and its target. -/
def State.irqsNow (s : State) : List (Nat × Nat × Nat) := if s.log.sentAt = s.now + 1 then s.log.sent else []

/-- Send the interrupt of an event source by its route (R629, R632) and note the time; one that another source has sent to the same target in this clock serves both. -/
def State.sendIrq (s : State) (e : Nat) : State :=
  let t := s.irqTarget e
  let sent := s.irqsNow
  let s := (s.withLog { s.log with irqAt := Map.set 0 e (s.now + 1) s.log.irqAt, sentAt := s.now + 1, sent := sent ++ [(e, t)] })
  if sent.any (fun x => x.1 != e && x.2 == t) then s.setFlag F.AO_EVT_ROUTE_PENDING e (t.1 == 0 && !s.vectorOpen s.mgr t.2)
  else if s.fld F.AO_EVT_ROUTE_IRQ_KIND e = 0 then
    (s.vector s.mgr (s.fld F.AO_EVT_ROUTE_VEC e)).setFlag F.AO_EVT_ROUTE_PENDING e (!s.vectorOpen s.mgr (s.fld F.AO_EVT_ROUTE_VEC e))
  else
    (s.imsic (s.fld F.AO_EVT_ROUTE_CORE e) (s.fld F.AO_EVT_ROUTE_IRQ_KIND e - 1) (s.fld F.AO_EVT_ROUTE_IDENTITY e)).setFlag
      F.AO_EVT_ROUTE_PENDING e false

/-- Deliver or hold the interrupt of an event source (R632): within HOLDOFF of the last one it is held as PENDING. -/
def State.irq (s : State) (e : Nat) : State :=
  let at' := Map.get 0 e s.log.irqAt
  if at' ≠ 0 ∧ s.now < at' - 1 + 1000 * s.fld F.AO_EVT_ROUTE_HOLDOFF e then s.setFlag F.AO_EVT_ROUTE_PENDING e true
  else s.sendIrq e

/-! ### Raising an event (R628 to R632) -/


def Item.words : Item → List Nat
  | .w v => [min v 0xFFFFFFFF]
  | .d v => [v % 2 ^ 32, v / 2 ^ 32 % 2 ^ 32]

/-- The twelve payload words P0 to P11. -/
def payloadWords (p : List Item) : List Nat :=
  let ws := p.flatMap Item.words
  (ws ++ List.replicate (12 - ws.length) 0).take 12

/-- Words 1 to 15 of an event record (R631). -/
def eventWords (seq time : Nat) (p : List Nat) : List Nat :=
  [seq % 2 ^ 32, time % 2 ^ 32, time / 2 ^ 32 % 2 ^ 32] ++ p

/-- Write one 64-byte trace message into a buffer of `size` bytes (R645). -/
def State.tracePut (s : State) (size e : Nat) (ws : List Nat) : State :=
  let p := s.fld F.CX_DBG_TRACE_WPTR
  (s.corePut (s.fld F.CX_DBG_TRACE_BASE + p) (wordBytes ((0x280000 + e) :: ws))).setFld F.CX_DBG_TRACE_WPTR 0
    (if s.flag F.CX_DBG_TRACE_WRAP ∧ p + 64 = size then 0 else p + 64)

/-- Write a trace message, or count it as lost; the first one written after a loss follows a message of what was lost (R645). -/
def State.traceMsg (s : State) (e : Nat) (ws : List Nat) : State :=
  if !s.flag F.CX_DBG_TRACE_EN then s
  else
    let size := 4096 * s.fld F.CX_DBG_TRACE_SIZE
    let need := if s.traceLost = 0 then 64 else 128
    if !s.flag F.CX_DBG_TRACE_WRAP ∧ size < s.fld F.CX_DBG_TRACE_WPTR + need then
      (s.bumpSat F.CX_DBG_TRACE_LOST).withTraceLost (s.traceLost + 1)
    else (if s.traceLost = 0 then s
      else (s.tracePut size 0x3FF (eventWords 0 s.now (payloadWords [.w s.traceLost]))).withTraceLost 0).tracePut size e ws

/-- Number a raise of a source (R631). -/
def State.numbered (s : State) (e : Nat) : State :=
  s.withLog { s.log with seqs := Map.set 0 e ((Map.get 0 e s.log.seqs + 1) % 2 ^ 32) s.log.seqs }

/-- Count a raise and show it to the supervisor (R628, R629). -/
def State.shown (s : State) (e seq : Nat) (p : List Item) : State :=
  (s.bumpSat F.AO_EVT_ROUTE_COUNT e).emit (.event e seq (payloadWords p))

/-- Copy an event to the trace where its route says so (R629, R645). -/
def State.traced (s : State) (e : Nat) (ws : List Nat) : State :=
  if s.flag F.AO_EVT_ROUTE_TRACE e then s.traceMsg e ws else s

/-- Route an event (R629): a record to its ring, with the interrupt behind it, or the interrupt alone. -/
def State.routed (s : State) (e : Nat) (ws : List Nat) : State :=
  let irq := s.flag F.AO_EVT_ROUTE_IRQ_EN e
  if s.flag F.AO_EVT_ROUTE_RING_EN e then
    s.withStaged (s.staged ++ [{ ring := s.fld F.AO_EVT_ROUTE_RING e, rtype := 0x28, low := e, words := ws, irq := if irq then some e else none }])
  else if irq then s.irq e
  else s

/-- Raise an event (R628): number it, count it, show it to the supervisor, trace and route it (R629). -/
def State.raise (s : State) (e : Nat) (p : List Item) : State :=
  let seq := Map.get 0 e s.log.seqs + 1
  let ws := eventWords seq s.now (payloadWords p)
  (((s.numbered e).shown e seq p).traced e ws).routed e ws

/-- Raise an event at most once per `period` ns for a key, with a payload made from the count since it was last raised; what is left over is reported when the period ends, where `rest` says so, and else with the next occurrence (log entry 10). -/
def State.limitedBy (s : State) (period ev key n : Nat) (p : Nat → List Item) (rest : Bool := true) : State :=
  let k := ev * 2 ^ 32 + key
  let l := Map.get {} k s.limits
  if l.at' = 0 ∨ l.at' - 1 + period ≤ s.now then
    (s.withLimits (Map.set {} k { at' := s.now + 1, n := 0 } s.limits)).raise ev (p (l.n + n))
  else (s.withLimits (Map.set {} k { l with n := l.n + n, due := if rest then l.at' + period else 0, pay := p (l.n + n) } s.limits))

/-- The same, at most once per 1 ms. -/
def State.limited (s : State) (ev key n : Nat) (p : Nat → List Item) : State := s.limitedBy 1000000 ev key n p

/-- Stage a record of another producer for a ring (R386). -/
def State.stage (s : State) (ring rtype low : Nat) (words : List Nat) : State :=
  (s.withStaged (s.staged ++ [{ ring := ring, rtype := rtype, low := low, words := words }]))

/-! ### The fault log (R607 to R610) -/

/-- Units of an entry by its TYPE (R608). -/
def unitsOf (type : Nat) : Nat := if type = 3 then 2 else if type = 6 then 66 else 1

/-- Mandatory types (R608). -/
def mandatory (type : Nat) : Bool := decide (2 ≤ type) && decide (type ≤ 0xA)

def unitsSum (l : List LogEntry) : Nat := l.foldl (fun a e => a + e.units) 0

/-- Keep the newest 131,072 units (R607). -/
def trimRing : List LogEntry → List LogEntry
  | [] => []
  | e :: l => if unitsSum (e :: l) ≤ 131072 then e :: l else trimRing l

/-- The newest entry of a list that meets a test, as a list of at most one. -/
def newestOf (p : LogEntry → Bool) (l : List LogEntry) : List LogEntry :=
  match l.reverse.find? p with
  | some e => [e]
  | none => []

/-- The entries R610 carries forward when the sector holding them is erased. -/
def carriedKeys (all : List LogEntry) : List Nat :=
  let lastRun := (newestOf (fun e => e.type == 3 && (e.detail.drop 10).head? == some 1) all).head?.map (·.seq)
  let att := all.filter (fun e => e.type == 3 && (match lastRun with | some q => decide (q < e.seq) | none => true))
  (newestOf (·.type == 6) all ++ newestOf (·.type == 9) all
    ++ (List.range 9).flatMap (fun r => newestOf (fun e => e.type == 8 && e.detail.head? == some r) all)
    ++ (List.range 2).flatMap (fun x => newestOf (fun e => e.type == 0xA && e.detail.head? == some x) all)
    ++ att).map (·.seq)

/-- Append an entry to the flash log; at the end of a sector the oldest of twelve is copied forward and erased (R609, R610). -/
def LogSt.flashPut (l : LogSt) (e : LogEntry) : LogSt × Nat :=
  match l.flash.reverse with
  | [] => ({ l with flash := [{ seq := 1, entries := [e] }] }, 0)
  | cur :: before =>
    if unitsSum cur.entries + e.units ≤ 1023 then
      ({ l with flash := (({ cur with entries := cur.entries ++ [e] }) :: before).reverse }, 0)
    else if l.flash.length < 12 then
      ({ l with flash := l.flash ++ [{ seq := cur.seq + 1, entries := [e] }] }, 0)
    else
      match l.flash with
      | [] => (l, 0)
      | oldest :: rest =>
        let keys := carriedKeys (l.flash.flatMap (·.entries))
        let kept := oldest.entries.filter (fun x => keys.contains x.seq)
        ({ l with flash := rest ++ [{ seq := cur.seq + 1, entries := kept ++ [e] }] }, kept.length)

/-- Write an entry to flash and count it (R609, R623). -/
def State.flashEntry (s : State) (e : LogEntry) : State :=
  let (l, kept) := s.log.flashPut e
  ((s.withLog { l with tokens := l.tokens - e.units }).bump F.AO_FLT_LOG_STAT_COUNT 1).bump F.AO_FLT_LOG_STAT_COUNT 3 kept

/-- M0 can be written (R28, R306): MX is powered. -/
def State.ringUp (s : State) : Bool :=
  match s.mode with
  | .boot | .run | .rideThrough | .vault => true
  | _ => false

/-- The entry as the next of the log (R608). -/
def State.newEntry (s : State) (type cond source count : Nat) (detail : List Nat) : LogEntry :=
  { type := type, units := unitsOf type, seq := (s.log.newest + 1) % 2 ^ 32, time := s.now, cond := cond,
    source := source, count := count, detail := detail }

/-- Number an entry, and count it (R607, R623). -/
def State.logNumber (s : State) (e : LogEntry) : State :=
  ((s.withLog { s.log with newest := e.seq }).setFld F.AO_FLT_LOG_NEWEST_NEWEST 0 e.seq).bump F.AO_FLT_LOG_STAT_COUNT 0

/-- Keep an entry in the HBM ring, or in AO while M0 cannot be written (R28, R607). -/
def State.logKeep (s : State) (e : LogEntry) : State :=
  if s.ringUp then s.withLog { s.log with entries := trimRing (s.log.entries ++ [e]) }
  else s.withLog { s.log with held := s.log.held ++ [e] }

/-- Write an entry to flash: later for a transition into VAULT (R28), else where it is mandatory or the budget holds a token (R609). -/
def State.logFlash (s : State) (late : Bool) (e : LogEntry) : State :=
  if late then s.withLog { s.log with late := s.log.late ++ [e] }
  else if mandatory e.type || decide (0 < s.log.tokens) then s.flashEntry e
  else s.bump F.AO_FLT_LOG_STAT_COUNT 2

/-- Put an entry into the log; `late` defers the flash write of a transition into VAULT (R28). -/
def State.logAs (s : State) (late : Bool) (type cond source count : Nat) (detail : List Nat) : State :=
  let e := s.newEntry type cond source count detail
  ((s.logNumber e).logKeep e).logFlash late e

/-- An entry of the log. -/
def State.logEntry (s : State) (type cond source count : Nat) (detail : List Nat) : State :=
  s.logAs false type cond source count detail

/-- Is a 1 ms interval of this condition and source open (R344)? -/
def State.interval? (s : State) (cond source : Nat) : Option Interval :=
  s.log.intervals.find? (fun v => v.cond == cond && v.source == source)

/-- Payload of the event of an entry under R344: condition, source, count; EV0073 names the address, EV0065 no source. -/
def violationPayload (ev cond source count : Nat) (detail : List Nat) : List Item :=
  if ev = 65 then [.w cond, .w count]
  else [.w cond, .w (if ev = 73 then detail.headD 0 else source), .w count]

/-- A condition logged under the interval rule of R344: at once after a quiet period, opening an interval; counted while one is open. The entry raises event `ev`, 0 for none. -/
def State.violate (s : State) (cond source ev : Nat) (detail : List Nat) : State :=
  match s.interval? cond source with
  | some _ =>
    (s.withLog { s.log with intervals := s.log.intervals.map (fun v =>
        if v.cond == cond && v.source == source then { v with count := v.count + 1, detail := detail } else v) })
  | none =>
    let s := s.logEntry 1 cond source 1 detail
    let s := if ev = 0 then s else s.raise ev (violationPayload ev cond source 1 detail)
    (s.withLog { s.log with intervals := s.log.intervals ++ [{ cond := cond, source := source, count := 0, event := ev, detail := detail }] })

/-- A condition with an entry of its own each time. -/
def State.condition (s : State) (cond source : Nat) (detail : List Nat) : State := s.logEntry 1 cond source 1 detail

/-! ### Writes by direct memory access (R329, R331, R358) -/

/-- Mark the bytes of one host page range in a slot's shadow of the active bitmap (R358). -/
def Dlog.markPages (d : Dlog) (p n : Nat) : Dlog :=
  match n with
  | 0 => d
  | n + 1 =>
    let b := Nat.lor (Map.get 0 (p / 8) d.bits) (2 ^ (p % 8))
    Dlog.markPages { d with bits := Map.set 0 (p / 8) b d.bits,
                            dirty := if d.dirty.contains (p / 512) then d.dirty else d.dirty ++ [p / 512] } (p + 1) n

/-- Mark a write of a function in every enabled logging slot of it (R358). -/
def State.dlogMark (s : State) (fi a n : Nat) : State :=
  (s.listed F.HX_FN_DLOG_EN).foldl (fun s k =>
    if s.flag F.HX_FN_DLOG_EN k ∧ s.fld F.HX_FN_DLOG_FUNC k = fi ∧ 0 < n then
      let base := s.fld F.HX_FN_DLOG_IOVA_BASE k
      let top := base + 4096 * s.fld F.HX_FN_DLOG_LENGTH k
      let d := Map.get {} k s.dlogs
      let lo := max a base
      let hi := min (a + n) top
      let d := if lo < hi then d.markPages ((lo - base) / 4096) ((hi - 1 - base) / 4096 + 1 - (lo - base) / 4096) else d
      let d := if a < base ∨ top < a + n then { d with outRange := true } else d
      (s.withDlogs (Map.set {} k d s.dlogs))
    else s) s

/-- Split a transfer of `n` bytes from `a` into requests of at most `mx` that cross no 4 KiB boundary (R329). -/
def splitReq (fuel a n mx : Nat) : List (Nat × Nat) :=
  match fuel with
  | 0 => []
  | fuel + 1 =>
    if n = 0 then []
    else
      let k := min (min n mx) (4096 - a % 4096)
      (a, k) :: splitReq fuel (a + k) (n - k) mx

/-- A function forms requests: its Bus Master Enable is 1 and it is not being reset (R335, R337). -/
def State.masters (s : State) (fi : Nat) : Bool := (s.cfg fi).bme && (s.cfg fi).resetting == 0

/-- The posted writes of a transfer to host memory (R329). -/
def State.hostPut (s : State) (fi a : Nat) (bs : List Byte) : State :=
  (splitReq (bs.length / 64 + 66) a bs.length (128 * 2 ^ min (s.cfg (pfOf fi)).mps 2)).foldl (fun s c =>
    s.emit (.hostWrite fi c.1 ((bs.drop (c.1 - a)).take c.2))) s

/-- A write on behalf of a function to host memory, or of a cluster to core memory (R363); a function that may form no request writes nothing (R335, R337). -/
def State.dmaWrite (s : State) (fi a : Nat) (bs : List Byte) : State :=
  if fi < 2056 then (if s.masters fi then (s.hostPut fi a bs).dlogMark fi a bs.length else s)
  else if !s.inCore a bs.length then s
  else if s.stackOff a then s.raise 903 []
  else s.corePut a bs

/-- An attempt of a function or cluster beyond its carving (R357). -/
def State.carve (s : State) (fi code : Nat) : State :=
  (s.bump F.HX_FN_VIOL_COUNT fi).violate (0x6200 + code) fi 769 []

/-- A record update of one ring. -/
def State.ring (s : State) (r : Nat) : RingSt := Map.get {} r s.rings
def State.setRing (s : State) (r : Nat) (x : RingSt) : State := (s.withRings (Map.set {} r x s.rings))

/-- A command whose event has not come about in this state leaves it as it is (log entry 2). -/
def State.when (s : State) (c : Bool) (f : State → State) : State := if c then f s else s

/-! ### Who writes a register, and the access codes (R8, R10, R31, R601, R685) -/

/-- Rank of a party, 1 highest (R31). -/
def State.rank (s : State) : Party → Nat
  | .faultLogic => 1
  | .supervisor => 2
  | .fn fi => if fi.val = s.mgr then 3 else 4
  | .core _ => 5
  | .sequencer _ => 6

/-- Index of a party within its rank (R32). -/
def partyIndex : Party → Nat
  | .fn fi => fi.val
  | .core k => k.val
  | .sequencer n => n.val
  | _ => 0

/-- The manager or above: the parties every management block admits (R678). -/
def State.manages (s : State) (p : Party) : Bool := decide (s.rank p ≤ 3)

/-- A write of a party reaches a management block of a region: the module has power, the region is not fenced (R600), and the block admits the party (R678): fault logic and the supervisor everywhere, sequencers but for AO_MODULE_CTRL's block (R25; log entry 24); the manager, in SAFETY-NET in AO blocks 0, 7 and 8 only (R580; that this holds for REF_SEL, which R52 calls writable in every state, is a DESIGN CHOICE, log entry 58); application cores where `cores` says that the block's chapter opens it to them. -/
def State.admits (s : State) (who : Party) (region block : Nat) (cores : Bool := false) : Bool :=
  s.powered && !s.fenced region &&
    (match who with
    | .faultLogic | .supervisor => true
    | .sequencer _ => !(region == 0 && block == 0)
    | .fn fi => fi.val == s.mgr && (s.mode != .safetyNet || (region == 0 && (block == 0 || block == 7 || block == 8)))
    | .core _ => cores)

/-- A write of a party to a management block: a fenced region ignores it and counts it (R600); a party that the block does not admit has no such write (log entry 2). -/
def State.writeTo (s : State) (who : Party) (region block : Nat) (cores : Bool) (f : State → State) : State :=
  if s.powered && s.fenced region then s.bumpSat F.AO_FLT_REGION_FENCED region
  else s.when (s.admits who region block cores) f

/-- The copy of an RWL field is locked (R10). -/
def State.lockHit (s : State) (f : Fld) (i : Nat) : Bool := f.acc == .rwl && Map.get false (f.region i) s.locks

/-- A write that reached a locked RWL field of the register at `addr` (R685). -/
def State.lockViolation (s : State) (who : Party) (addr : Nat) : State :=
  (s.bump F.AO_FLT_LOCKVIOL_COUNT).violate 0x0910 (s.rank who * 4096 + partyIndex who) 73 [addr]

/-- A field outside AO that only the supervisor writes: an RWL field, from its return to reset until it is locked again (R10). -/
def State.supOnly (s : State) (who : Party) (f : Fld) (i : Nat) : Bool := f.acc == .rwl && f.region i != 0 && who != .supervisor && !s.lockHit f i

/-- The bits of a word of an array that the spec does not reserve (R6): the address templates (R446), the entry image of a channel (R205). -/
def liveBits (f : Fld) (i v : Nat) : Nat :=
  if f.id = F.HX_RMA_TMPL_WORD.id then
    if i % 16 = 4 then Nat.land v 0x8000FFFF else if i % 16 = 5 then Nat.land v 0x80003FFF else if 10 ≤ i % 16 then 0 else v
  else if f.id = F.FX_TBE_STAGE_WORD.id then
    if i % 48 = 43 then Nat.land v 0x3F0000FF else if i % 48 = 45 then 0 else if i % 48 = 46 then Nat.land v 0x80FF0000 else v
  else v

/-- The journal takes this field (R601): an RW, RWL or RWS field of PA to PD, FX, HX or CX, from entry to BOOT. -/
def State.journals (s : State) (f : Fld) (i : Nat) : Bool :=
  (f.acc == .rw || f.acc == .rwl || f.acc == .rws) && decide (1 ≤ f.region i) && decide (f.region i ≤ 7)
    && (match s.mode with | .boot | .run | .rideThrough => true | _ => false)

/-- Record a field's new value in the journal; a later write of the field replaces the earlier record (R601). -/
def State.journal (s : State) (rank : Nat) (f : Fld) (i : Nat) : State :=
  if s.journals f i then
    (s.withLog { s.log with journal := s.log.journal.filter (fun j => !(j.fld == f.id && j.idx == i))
        ++ [{ fld := f.id, idx := i, value := Map.get 0 i (Map.get [] f.id s.regs), rank := rank }] })
  else s

/-- A party's write of a value to an RW, RWL or RWS field: stored unless locked (R8) or for the supervisor alone (R10; such a write is no violation, log entry 57), less its reserved bits (R6), and journalled. -/
def State.put (s : State) (who : Party) (f : Fld) (i v : Nat) : State :=
  if s.lockHit f i || s.supOnly who f i then s else (s.setFld f i (liveBits f i v)).journal (s.rank who) f i

/-- The effect of a write on a field by its access code alone (R8). -/
def State.write (s : State) (who : Party) (f : Fld) (i v : Nat) : State :=
  match f.acc with
  | .rw | .rwl | .rws => s.put who f i v
  | .w1c => s.setFld f i (Nat.land (s.fld f i) (2 ^ f.width - 1 - v % 2 ^ f.width))
  | .w1s => s.setFld f i (Nat.lor (s.fld f i) (v % 2 ^ f.width))
  | .ro | .wo | .rc | .ros => s

end Sys2Proof.Machine
end

