-- ==== Sys2Proof/Machine/Ports.lean ====
section
/-! DEFINITION. Front ports: logical ports, frame checks, landing buffers and MACsec (R62 to R64, R67 to R95, R689). -/

namespace Sys2Proof.Machine

/-! ### Names (R67, R68, R94) -/

/-- Region ID of a front logical port (R67). -/
def regionOfLp (lp : Nat) : Nat := 1 + lp / 128

/-- Event of a port region by its offset (R73). -/
def portEvent (region off : Nat) : Nat := 128 * region + off

/-- Count one in a MAC counter of a logical port (R94). -/
def State.macCount (s : State) (lp j : Nat) (n : Nat := 1) : State := s.bump F.PA_MAC_CNT_COUNT (lp * 31 + j) n

/-- Link states of R80. -/
def linkDisabled : Nat := 0
def linkAn : Nat := 1
def linkTraining : Nat := 2
def linkAligning : Nat := 3
def linkUp : Nat := 4
def linkFault : Nat := 5

/-- The port of a logical port is in stitch mode (R93). -/
def State.isStitch (s : State) (lp : Nat) : Bool :=
  decide (480 ≤ lp) && decide (lp < 512) && lp % 4 == 0 && s.flag F.PA_MAC_PORT_CFG_STITCH (lp / 4)

/-- Sub-port `sub` is in use under a BREAKOUT value (R68). -/
def subInUse (mode sub : Nat) : Bool :=
  match mode with
  | 0 => sub == 0
  | 1 => sub == 0 || sub == 2
  | _ => true

/-- Speeds R68 allows for a sub-port in use, by SPEED code. -/
def speedAllowed (mode speed : Nat) : Bool :=
  match mode with
  | 0 => speed == 0 || speed == 1 || speed == 2
  | 1 => speed == 1 || speed == 2
  | _ => decide (2 ≤ speed) && decide (speed ≤ 6)

/-- FEC values R69 allows at a speed and mode; 0xF is resolved by auto-negotiation or R689. -/
def fecAllowed (mode speed fec : Nat) : Bool :=
  fec == 0xF ||
  (match speed with
   | 0 => fec == 3
   | 1 => fec == 3
   | 2 => if mode = 0 then fec == 2 else fec == 3
   | 3 => fec == 3
   | 4 => decide (fec ≤ 2)
   | 5 => decide (fec ≤ 1)
   | _ => fec == 0)

/-- The FEC used with AN_EN = 0 and FEC = 0xF (R689). -/
def fecDefault (mode speed : Nat) : Nat :=
  match speed with
  | 0 => 3
  | 1 => 3
  | 2 => if mode = 0 then 2 else 3
  | 3 => 3
  | 4 => 2
  | _ => 0

/-- MAX_FRAME as used (R72), with the stitch header on a stitch port (R93). -/
def State.maxFrame (s : State) (lp : Nat) : Nat :=
  min (max (s.fld F.PA_MAC_SUBPORT_CFG_MAX_FRAME lp) 1518) 10240 + (if s.isStitch lp then 16 else 0)

/-- The link of a logical port is UP (R78). -/
def State.lpUp (s : State) (lp : Nat) : Bool := s.fld F.PA_MAC_LINK_STATUS_STATE lp == linkUp

/-! ### Pipeline halves that must stay awake (R61, R63, R66) -/

/-- Mb/s of a SPEED code (R72). -/
def speedMbps (code : Nat) : Nat :=
  match code with
  | 0 => 400000 | 1 => 200000 | 2 => 100000 | 3 => 50000 | 4 => 25000 | 5 => 10000 | _ => 1000

/-- The pipeline half of a front logical port. -/
def lpDomain (lp : Nat) : Nat := halfDomain (1 + lp / 128) (lp / 4 % 32 / 4)

/-- The front ports served by a half domain. -/
def halfPorts (d : Nat) : List Nat := (List.range 16).map (fun k => 32 * (d / 11) + 16 * (d % 11 - 8) + k)

def isHalf (d : Nat) : Bool := decide (d < 44) && (d % 11 == 8 || d % 11 == 9)

/-- Least SIZE for a port speed (R63); a sum of sub-port speeds between two rows takes the lower row (DESIGN CHOICE, log entry 58). -/
def minSize (mbps : Nat) : Nat := if 400000 ≤ mbps then 8 else if 200000 ≤ mbps then 4 else if 100000 ≤ mbps then 2 else 1

/-- Configured speed of a port: the sum of its enabled sub-ports' speeds. -/
def State.portSpeed (s : State) (p : Nat) : Nat :=
  (List.range 4).foldl (fun a k => if s.flag F.PA_MAC_SUBPORT_CFG_EN (4 * p + k) then a + speedMbps (s.fld F.PA_MAC_SUBPORT_CFG_SPEED (4 * p + k)) else a) 0

/-- SIZE in force: the old one while the new one waits for the reservation to empty (R64). -/
def State.lbSize (s : State) (port : Nat) : Nat :=
  match Map.get 0 port s.mac.lbOld with
  | 0 => s.fld F.PA_MAC_LB_CFG_SIZE port
  | n + 1 => n

/-- The ports with a window for classes 12 to 15 that is open, or that WAKE_LEAD has announced (R61). -/
def State.windows (s : State) : List Nat :=
  s.time.plan ++ (s.listed F.FX_TM_GATE_CFG_OPER_EN).filter (fun lp => s.flag F.FX_TM_GATE_CFG_OPER_EN lp && s.fld F.FX_TM_GATE_CFG_GATES_NOW lp != 0)

/-- A scheduled window holds a half awake (R61): as the egress half of the window's port, or as an ingress half of a port marked SCHED_SRC. -/
def State.planned (s : State) (d : Nat) : Bool :=
  let w := s.windows
  w.any (fun lp => lpDomain lp == d) || (!w.isEmpty && (halfPorts d).any (fun p => s.flag F.PA_MAC_LB_CFG_SCHED_SRC p))

/-- PINNED (R61, R63, R66).  A port with no enabled sub-port has no configured speed and pins nothing (DESIGN CHOICE, log entry 58). -/
def State.pinned (s : State) (d : Nat) : Bool :=
  s.fld F.AO_WAKE_POLICY_MODE d == 1
    || (isHalf d && (s.planned d || (halfPorts d).any (fun p => decide (0 < s.portSpeed p) && decide (s.lbSize p < minSize (s.portSpeed p)))))

/-- A domain that has become pinned while it sleeps is woken (R61, R63, R65). -/
def State.wakePin (s : State) (d : Nat) : State := if s.pinned d && !s.awake d && s.power d == powGated then s.wake d else s

/-- The same for the half of a front port. -/
def State.wakePort (s : State) (port : Nat) : State := s.when s.inService (·.wakePin (lpDomain (4 * port)))

/-- The same for every half. -/
def State.wakeHalves (s : State) : State := ((List.range 44).filter isHalf).foldl (fun s d => s.wakePin d) s

/-- A violation of the MAC or SerDes block (R82, R84). -/
def State.portViolation (s : State) (lp block code : Nat) : State :=
  s.violate (regionOfLp lp * 0x1000 + block * 0x100 + code) lp (portEvent (regionOfLp lp) 11) []

/-! ### MACsec (R87 to R92) -/

/-- EtherType at byte 12. -/
def etherType (bs : List Byte) : Nat := ofBe ((bs.drop 12).take 2)

/-- Bytes of the VLAN tags from an offset on, at most `n` of them. -/
def vlanTags (bs : List Byte) (o n : Nat) : Nat :=
  match n with
  | 0 => 0
  | n + 1 => let t := ofBe ((bs.drop o).take 2); if t = 0x8100 ∨ t = 0x88A8 then 4 + vlanTags bs (o + 4) n else 0

/-- Where the SecTAG of a logical port's frames stands: after the addresses, and after the VLAN tags where the port keeps them in the clear (R87). -/
def tagAt (lp : Nat) (bs : List Byte) : Nat := 12 + (if Config.tagsBefore lp then vlanTags bs 12 (bs.length / 4) else 0)

/-- Highest PN of a suite (R91). -/
def lastPn (suite : Nat) : Nat := if suite < 2 then 2 ^ 32 - 1 else 2 ^ 64 - 1

/-- PN threshold of a suite (R91). -/
def pnThreshold (suite : Nat) : Nat := if suite < 2 then 0xC0000000 else 0xC000000000000000

def State.findSa (s : State) (port : Nat) (tx : Bool) (sc an : Nat) : Option Sa :=
  s.mac.sas.find? (fun a => a.port == port && a.tx == tx && a.sc == sc && a.an == an)

/-- Replace one SA by another. -/
def State.setSa (s : State) (a : Sa) : State :=
  (s.withMac { s.mac with sas := s.mac.sas.map (fun b =>
      if b.port == a.port && b.tx == a.tx && b.sc == a.sc && b.an == a.an then a else b) })

/-- The full PN a receive SA takes a frame's PN for: itself, or under XPN the value recovered around the lowest acceptable PN (R87). -/
def Sa.fullPn (a : Sa) (pn : Nat) : Nat :=
  if a.suite < 2 then pn
  else a.pn / 2 ^ 32 * 2 ^ 32 + pn + (if pn < a.pn % 2 ^ 32 ∧ 2 ^ 31 < a.pn % 2 ^ 32 - pn then 2 ^ 32 else 0)

/-- The SecTAG at byte `o` of a frame (R90): TCI and AN byte, short length, PN, SCI; none where malformed. -/
def secTag (bs : List Byte) (o : Nat) : Option (Nat × Nat × Option Nat) :=
  let tci := leAt bs (o + 2) 1
  let sc := bit tci 5
  if bit tci 7 ∨ 48 ≤ leAt bs (o + 3) 1 ∨ bs.length < o + (if sc then 16 else 8) ∨ (sc ∧ (bit tci 6 ∨ bit tci 4)) then none
  else some (tci % 4, ofBe ((bs.drop (o + 4)).take 4), if sc then some (ofBe ((bs.drop (o + 8)).take 8)) else none)

/-- What an SA protects or validates a frame with (R87). -/
def Sa.args (a : Sa) (lp pn clear : Nat) : Config.MacsecArgs :=
  { suite := a.suite, key := a.key ++ a.salt, ssci := a.ssci, sci := if a.tx then Config.txSci lp else a.sci, an := a.an, pn := pn,
    offset := match Config.confOffset lp % 3 with | 0 => 0 | 1 => 30 | _ => 50, clear := clear }



/-- A receive violation of MACsec: counted, logged, the frame dropped (R90). -/
def State.macsecDrop (s : State) (lp counter code : Nat) : State × Option (List Byte) :=
  ((s.macCount lp counter).portViolation lp 1 code, none)

/-- Validation of a received frame on a protected logical port (R90, R92). -/
def State.macsecRx (s : State) (lp : Nat) (bs : List Byte) : State × Option (List Byte) :=
  let port := lp / 4
  let mine := s.mac.sas.filter (fun a => a.port == port && !a.tx)
  let o := tagAt lp bs
  let kind := ofBe ((bs.drop o).take 2)
  if kind = 0x888E then (s, some bs)
  else if Map.get false (regionOfLp lp) s.mac.saZero ∧ mine.isEmpty then (s.macCount lp 25, none)
  else if kind ≠ 0x88E5 then s.macsecDrop lp 26 0x13
  else match secTag bs o with
    | none => s.macsecDrop lp 27 0x14
    | some (an, pn, sci) =>
      match mine.find? (fun a => a.an == an && (match sci with | some x => a.sci == x | none => true)) with
      | none => s.macsecDrop lp 25 0x12
      | some a =>
        let pn := a.fullPn pn
        if pn < a.pn then s.macsecDrop lp 24 0x11
        else match Config.macsecOpen (a.args lp pn (o - 12)) bs with
          | none => s.macsecDrop lp 23 0x10
          | some out => (s.setSa { a with pn := max a.pn (pn + 1 - Config.replayWindow (port * 16 + a.sc) % 2 ^ 32) }, some out)

/-- Protection of a frame sent on a protected logical port (R91, R92); none where it is dropped: with no SA in use, counted in MACSEC_NO_SA without a log entry; where the next PN is the suite's last, which is used for no frame, counted in MACSEC_PN_EXHAUSTED (both DESIGN CHOICE, log entry 59). -/
def State.macsecTx (s : State) (lp : Nat) (bs : List Byte) : State × Option (List Byte) :=
  if !s.flag F.PA_MAC_SUBPORT_CFG_MACSEC_EN lp ∨ s.isStitch lp ∨ etherType bs = 0x888E then (s, some bs)
  else match s.mac.sas.find? (fun a => a.port == lp / 4 && a.tx && a.sc == lp % 4 && a.inUse) with
    | none => (s.macCount lp 25, none)
    | some a =>
      if lastPn a.suite ≤ a.pn then (s.macCount lp 28, none)
      else (s.setSa { a with pn := a.pn + 1 }, some (Config.macsec (a.args lp a.pn (tagAt lp bs - 12)) bs))

/-- Staging words of a region. -/
def State.stageWords (s : State) (rp : Nat) : List Nat := (List.range 16).map (fun n => Map.get 0 (rp * 16 + n) s.mac.stage)

/-- An SA command is taken, or refused with result 3 while one runs (R89). -/
def State.saCommand (s : State) (rp v : Nat) : State :=
  let op := bits v 30 2
  if op ≠ 1 ∧ op ≠ 2 then s
  else if Map.get 0 rp s.mac.saCmd ≠ 0 then
    s.raise (portEvent (rp + 1) 8) [.w (bits v 24 5), .w (bits v 29 1), .w (bits v 20 4), .w (bits v 18 2), .w 3]
  else (s.withMac { s.mac with saCmd := Map.set 0 rp (v + 1) s.mac.saCmd })

/-- MACSEC_SA_INSTALL (R88, R89): the command word of an install. -/
def execMacsecSaInstall (region : Fin 4) (v : Word) (s : State) : Host.Outcome State Fault Refusal :=
  .next (s.when (s.powered && !s.fenced (region.val + 1) && bits v.toNat 30 2 == 1) (·.saCommand region.val v.toNat))

/-- MACSEC_SA_ERASE (R88, R89): the command word of an erase. -/
def execMacsecSaErase (region : Fin 4) (v : Word) (s : State) : Host.Outcome State Fault Refusal :=
  .next (s.when (s.powered && !s.fenced (region.val + 1) && bits v.toNat 30 2 == 2) (·.saCommand region.val v.toNat))

/-- MACSEC_SA_DONE (R89): the command is carried out, the staging words are cleared and the result is raised.  They are cleared after an erase and after a command that failed too (DESIGN CHOICE, log entry 59). -/
def State.saDone (s : State) (rp : Nat) : State :=
  let w := Map.get 0 rp s.mac.saCmd
  if w = 0 then s
  else
    let v := w - 1
    let tx := bit v 29
    let port := 32 * rp + bits v 24 5
    let scf := bits v 20 4
    let sc := if tx then scf % 4 else scf
    let an := bits v 18 2
    let suite := bits v 16 2
    let ws := s.stageWords rp
    let w64 (i : Nat) : Nat := ws.getD i 0 + 2 ^ 32 * ws.getD (i + 1) 0
    let inUse := match s.findSa port tx sc an with | some a => a.inUse | none => false
    let result := if tx ∧ 4 ≤ scf then 1 else if inUse then 2 else 0
    let others := s.mac.sas.filter (fun a => !(a.port == port && a.tx == tx && a.sc == sc && a.an == an))
    let use := tx && bit v 0
    let sas :=
      if result ≠ 0 then s.mac.sas
      else if bits v 30 2 = 2 then others
      else (if use then others.map (fun a => if a.port == port && a.tx && a.sc == sc then { a with inUse := false } else a) else others)
        ++ [{ port := port, tx := tx, sc := sc, an := an, suite := suite, key := ws.take (if suite % 2 = 0 then 4 else 8),
              salt := (ws.drop 8).take 3, ssci := ws.getD 11 0, pn := w64 12, sci := w64 14, inUse := use }]
    let stage := s.mac.stage.filter (fun e => e.1 / 16 != rp)
    (s.withMac { s.mac with sas := sas, stage := stage, saCmd := Map.set 0 rp 0 s.mac.saCmd }).raise (portEvent (rp + 1) 8)
      [.w (bits v 24 5), .w (b2n tx), .w scf, .w an, .w result]

def execMacsecSaDone (region : Fin 4) (s : State) : Host.Outcome State Fault Refusal := .next (s.saDone region.val)

/-- MACSEC_PN_THRESHOLD (R91): raised once for the SA.  Port is the module's port number here and the local one in event offset 8 (DESIGN CHOICE, log entry 59). -/
def State.pnReached (s : State) (lp an : Nat) : State :=
  match s.findSa (lp / 4) true (lp % 4) an with
  | some a =>
    if a.told ∨ a.pn < pnThreshold a.suite then s
    else (s.setSa { a with told := true }).raise (portEvent (regionOfLp lp) 9) [.w (lp / 4), .w (lp % 4), .w an]
  | none => s

def execMacsecPnThreshold (lp : Fin 512) (an : Fin 4) (s : State) : Host.Outcome State Fault Refusal := .next (s.pnReached lp.val an.val)

/-- Every SAK, salt and staging word of every port region is zeroised, and an SA command in progress is discarded (R92). -/
def State.zeroMacsec (s : State) : State :=
  let s := (s.withMac { s.mac with sas := [], stage := [], saCmd := [],
                                        saZero := (List.range 4).foldl (fun m r => Map.set false (r + 1) true m) s.mac.saZero })
  (List.range 4).foldl (fun s r => s.raise (portEvent (r + 1) 10) [.w (r + 1)]) s

/-! ### Landing buffers (R62 to R64, R81) -/

/-- Bytes a frame takes in the landing buffer: to its FCS, rounded up to 16 (R81). -/
def lbBytes (f : LbFrame) : Nat := (f.bytes.length + 4 + 15) / 16 * 16

def State.lbHeld (s : State) (port : Nat) : List LbFrame := Map.get [] port s.mac.lb

/-- Put a frame into its port's reservation, or drop it whole and count it (R62). -/
def State.lbPut (s : State) (port : Nat) (f : LbFrame) : State :=
  let held := s.lbHeld port
  if s.lbSize port * 4096 < held.foldl (fun a g => a + lbBytes g) 0 + lbBytes f then
    (s.bump F.PA_MAC_LB_DROP_COUNT port).raise (portEvent (1 + port / 32) 2) []
  else (s.withMac { s.mac with lb := Map.set [] port (held ++ [f]) s.mac.lb })

/-- LB_CFG_WRITE (R64): refused where the region's total of SIZE would rise above 256. -/
def State.lbCfg (s : State) (who : Party) (port v : Nat) : State :=
  let size := bits v 0 9
  let old := s.fld F.PA_MAC_LB_CFG_SIZE port
  let total := (List.range 32).foldl (fun a p => a + s.fld F.PA_MAC_LB_CFG_SIZE (port / 32 * 32 + p)) 0
  if old < size ∧ 256 < total - old + size then s.raise (portEvent (1 + port / 32) 3) []
  else
    let s := if size ≠ old ∧ !(s.lbHeld port).isEmpty ∧ Map.get 0 port s.mac.lbOld = 0 then
      (s.withMac { s.mac with lbOld := Map.set 0 port (old + 1) s.mac.lbOld }) else s
    ((s.put who F.PA_MAC_LB_CFG_SCHED_SRC port (bits v 16 1)).put who F.PA_MAC_LB_CFG_SIZE port size).wakePort port

def execLbCfgWrite (who : Party) (port : Fin 128) (v : Word) (s : State) : Host.Outcome State Fault Refusal :=
  .next (s.writeTo who (1 + port.val / 32) 1 false (·.lbCfg who port.val v.toNat))

/-- LB_SIZE_APPLY (R64): the reservation is empty, so the written SIZE takes effect. -/
def State.lbApply (s : State) (port : Nat) : State :=
  s.when (s.lbHeld port).isEmpty (fun s => ((s.withMac { s.mac with lbOld := Map.set 0 port 0 s.mac.lbOld })).wakePort port)

def execLbSizeApply (port : Fin 128) (s : State) : Host.Outcome State Fault Refusal := .next (s.lbApply port.val)

/-! ### Frame checks (R70, R82, R83) -/

/-- Count a good frame (R94): length with FCS, and its kind by the destination address. -/
def State.countGood (s : State) (lp : Nat) (bs : List Byte) : State :=
  let da := bs.take 6
  let kind := if da.all (· == 255) then 4 else if (leAt da 0 1) % 2 = 1 then 3 else 2
  let s := ((s.macCount lp 0).macCount lp 1 (bs.length + 4)).macCount lp kind
  if 1518 < bs.length + 4 then s.macCount lp 15 else s

/-- The violation a frame's tail shows, as (block, code, counter); the first in the order the line shows them (log entry 9).  A frame that overlaps an uncorrectable codeword is dropped for it, and counter 31 stands for none: the codeword itself is counted (R82). -/
def tailViolation (f : WireFrame) (excess : Bool) : Option (Nat × Nat × Nat) :=
  if f.framing then some (1, 4, 8)
  else if f.codeErr then some (1, 5, 9)
  else if f.fecBad then some (0, 1, 31)
  else if excess then some (1, 3, 7)
  else if !f.fcsOk then some (1, 1, 5)
  else if f.bytes.length + 4 < 64 then some (1, 2, 6)
  else none

/-- FEC codewords that the line has shown (R82, R94): each uncorrectable one is a violation. -/
def State.fecCount (s : State) (lp corr uncorr : Nat) : State :=
  let s := if corr = 0 then s else s.macCount lp 11 corr
  (List.range uncorr).foldl (fun s _ => (s.macCount lp 12).portViolation lp 0 1) s

/-- The frame's head may be granted before its tail arrives: its port's CT_ING is 1 (R96, R235), and it need not be validated whole first (R87; DESIGN CHOICE, log entry 59). -/
def State.cutGrant (s : State) (lp : Nat) (f : WireFrame) : Bool :=
  f.cut && s.flag F.FX_ADM_PORT_CT_ING lp && (!s.flag F.PA_MAC_SUBPORT_CFG_MACSEC_EN lp || s.isStitch lp)

/-- A MAC control frame that the line brings whole (R70). -/
def macControl (f : WireFrame) : Bool := etherType f.bytes == 0x8808 && f.fcsOk && !f.framing && !f.codeErr && !f.fecBad

/-- The MAC's checks of a received frame (R70, R82, R90): the frame to pass on, or none where it is dropped and counted.  An oversize frame in cut-through has gone on up to byte MAX_FRAME + 1. -/
def State.macCheck (s : State) (lp : Nat) (f : WireFrame) : State × Option LbFrame :=
  let s := s.fecCount lp f.fecCorr.val f.fecUncorr.val
  let (s, body) := if s.flag F.PA_MAC_SUBPORT_CFG_MACSEC_EN lp ∧ !s.isStitch lp ∧ f.fcsOk ∧ !f.framing ∧ !f.codeErr ∧ !f.fecBad ∧ !macControl f
    then s.macsecRx lp f.bytes else (s, some f.bytes)
  match body with
  | none => (s, none)
  | some bs =>
    match tailViolation f (decide (s.maxFrame lp < bs.length + 4)) with
    | some (block, code, counter) =>
      let cut := s.cutGrant lp f
      let s := if counter = 31 then s else (s.macCount lp counter).portViolation lp block code
      (s, if cut then some { lp := lp, src := lp, bytes := if code = 3 then bs.take (s.maxFrame lp + 1) else bs, ts := s.now, bad := block * 0x100 + code, cut := true }
          else none)
    | none =>
      if etherType bs = 0x8808 ∧ !s.isStitch lp then ((s.macCount lp 10).portViolation lp 1 6, none)
      else (s.countGood lp bs, some { lp := lp, src := lp, bytes := bs, ts := s.now, cut := s.cutGrant lp f })

end Sys2Proof.Machine
end

