-- ==== Sys2Proof/Machine/Contexts.lean ====
section
/-! DEFINITION. Sequencer states, contexts and dispatch to them (R394, R395, R409). -/

namespace Sys2Proof.Machine

/-- Sequencer states of R410. -/
def sqReset : Nat := 0
def sqInit : Nat := 1
def sqReady : Nat := 2
def sqBusy : Nat := 3
def sqDraining : Nat := 4
def sqOffline : Nat := 5
def sqHalted : Nat := 6
def sqQuarantined : Nat := 7

def State.sqState (s : State) (n : Nat) : Nat := s.fld F.HX_SQ_STATUS_STATE n

/-- Change a sequencer's state; EV0784 reports every change (R409). -/
def State.sqGo (s : State) (n st : Nat) : State :=
  let old := s.sqState n
  if old = st then s else (s.setFld F.HX_SQ_STATUS_STATE n st).raise 784 [.w n, .w old, .w st]

def State.ctx (s : State) (n c : Nat) : SqCtx := Map.get {} (16 * n + c) s.sq.ctxs

def State.setCtx (s : State) (n c : Nat) (x : SqCtx) : State :=
  (s.withSq { s.sq with ctxs := Map.set {} (16 * n + c) x s.sq.ctxs })

/-- Contexts of a sequencer that hold a descriptor: BUSY_CTX (R410). -/
def State.busyCtx (s : State) (n : Nat) : Nat :=
  ((List.range 16).filter (fun c => (s.ctx n c).job.isSome)).length

/-- The lowest free context of a sequencer. -/
def State.freeCtx (s : State) (n : Nat) : Option Nat := (List.range 16).find? (fun c => (s.ctx n c).job.isNone)

/-- Dispatch class of a DTYPE (R395); none for the DTYPEs of the ring engine and the table engine. -/
def dtypeClass (t : Nat) : Option Nat :=
  if t = 0x10 then some 0
  else if 0x40 ≤ t ∧ t < 0x50 then some 1
  else if 0x50 ≤ t ∧ t < 0x60 then some 2
  else if 0x60 ≤ t ∧ t < 0x70 then some 3
  else none

/-- Dispatch is held while a patch load quiesces or writes (R402). -/
def State.sqHeld (s : State) : Bool := decide (2 ≤ s.fld F.AO_UCODE_STATUS_STATE)

/-- A sequencer may take work of a class (R395): CLASS_MASK, READY or BUSY, a free context. -/
def State.sqCandidate (s : State) (cls n : Nat) : Bool :=
  bit (s.fld F.HX_SQ_CTRL_CLASS_MASK n) cls && (s.sqState n == sqReady || s.sqState n == sqBusy) && (s.freeCtx n).isSome && !s.sqHeld

/-- Some sequencer may take work of a class. -/
def State.served (s : State) (cls : Nat) : Bool := (List.range 16).any (s.sqCandidate cls)

/-- The sequencer chosen by rotating-priority round robin, and its free context. -/
def State.sqPick (s : State) (cls : Nat) : Option (Nat × Nat) :=
  match ((List.range 16).map (fun k => (s.sq.next + k) % 16)).find? (s.sqCandidate cls) with
  | some n => (s.freeCtx n).map (fun c => (n, c))
  | none => none

/-- Load a context with a descriptor; where its micro-PC starts is not stated (an open value). -/
def State.sqLoad (s : State) (n c r p : Nat) : State :=
  let x : SqCtx := { job := some (r, p), upc := s.free % 32768 }
  let s := s.drawn.setCtx n c x
  (s.withSq { s.sq with next := (n + 1) % 16 }).sqGo n sqBusy

/-- Free the contexts whose descriptors meet a test; a BUSY sequencer with none left is READY (R409). -/
def State.sqFree (s : State) (p : Nat × Nat → Bool) : State :=
  let hit := s.sq.ctxs.filter (fun e => match e.2.job with | some j => p j | none => false)
  hit.foldl (fun s e =>
    let s := s.setCtx (e.1 / 16) (e.1 % 16) {}
    if s.sqState (e.1 / 16) = sqBusy ∧ s.busyCtx (e.1 / 16) = 0 then s.sqGo (e.1 / 16) sqReady else s) s

/-- Post an interrupt to a context (R403). -/
def State.sqIrq (s : State) (n c cause : Nat) : State :=
  let x := s.ctx n c
  if x.job.isNone ∨ x.irqs.contains cause then s else s.setCtx n c { x with irqs := x.irqs ++ [cause] }

/-- The wait of every context whose descriptor meets a test ends with an interrupt (R394, R404). -/
def State.sqSignal (s : State) (p : Nat × Nat → Bool) (cause : Nat) : State :=
  (s.sq.ctxs.filter (fun e => match e.2.job with | some j => p j | none => false)).foldl (fun s e =>
    let s := s.sqIrq (e.1 / 16) (e.1 % 16) cause
    s.setCtx (e.1 / 16) (e.1 % 16) { s.ctx (e.1 / 16) (e.1 % 16) with waiting := false }) s

/-- DMA_DONE for the contexts that hold a descriptor of a ring (R404). -/
def State.dmaDone (s : State) (r : Nat) : State := s.sqSignal (·.1 == r) 2

/-- ENGINE for the context of one descriptor (R404). -/
def State.engineSignal (s : State) (r p : Nat) : State := s.sqSignal (· == (r, p)) 3

end Sys2Proof.Machine
end

