-- ==== Sys2Proof/Machine/Rings.lean ====
section
/-! DEFINITION. Descriptor rings, doorbells, head records and event rings (R363 to R393, R687). -/

namespace Sys2Proof.Machine

/-! ### Positions (R366) -/

/-- Entries of ring `r`: N = 2^(SIZE + 3) (R365). -/
def State.ringN (s : State) (r : Nat) : Nat := 2 ^ (s.fld F.HX_RING_CFG_SIZE r + 3)

/-- The position after `p`, modulo 2N. -/
def posNext (n p : Nat) : Nat := (p + 1) % (2 * n)

/-- (a - b) modulo 2N. -/
def posDiff (n a b : Nat) : Nat := (a + (2 * n - b % (2 * n))) % (2 * n)

/-- A position as registers and records show it: INDEX in [15:0], LAP in [16] (R370, R382). -/
def posWord (n p : Nat) : Nat := p % n + (if n ≤ p then 65536 else 0)

/-- The OWN bit the producer writes at a position: NOT LAP (R367). -/
def ownBit (n p : Nat) : Nat := if n ≤ p then 0 else 1

/-- Ring states of R392. -/
def ringDisabled : Nat := 0
def ringActive : Nat := 1
def ringStopping : Nat := 2
def ringStopped : Nat := 3
def ringError : Nat := 4

/-- Ring kinds of R364. -/
def kindSubmit : Nat := 0
def kindEvent : Nat := 1
def kindReceive : Nat := 2

/-- RESULT values of R377. -/
def resOk : Nat := 0
def resNotOwned : Nat := 1
def resBadDesc : Nat := 2
def resDataError : Nat := 3
def resStringTimeout : Nat := 4
def resStringTarget : Nat := 5
def resBadLength : Nat := 6

def State.ringState (s : State) (r : Nat) : Nat := s.fld F.HX_RING_STATUS_STATE r
def State.ringKind (s : State) (r : Nat) : Nat := s.fld F.HX_RING_CFG_KIND r

/-- Owner of a ring as a function index; 4095 where none. -/
def State.ownerOf (s : State) (r : Nat) : Nat := (s.ringOwner r).getD 4095

/-- Address of the entry at a position. -/
def State.entryAddr (s : State) (r p : Nat) : Nat := s.fld F.HX_RING_BASE_BASE r + 64 * (p % s.ringN r)

/-- HX_RING_STATUS.POS: H of a SUBMIT ring, T of the others (R392). -/
def State.ringPos (s : State) (r : Nat) : Nat :=
  posWord (s.ringN r) (if s.ringKind r = kindSubmit then (s.ring r).h else (s.ring r).t)

/-! ### Interrupts of a ring (R383, R633) -/

/-- The ring's vector, or the IMSIC identity of a cluster-owned ring. -/
def State.ringIrq (s : State) (r : Nat) : State :=
  let vec := s.fld F.HX_RING_CFG_VEC r
  let fi := s.ownerOf r
  if !s.flag F.HX_RING_CFG_IRQ_EN r then s
  else if fi < 2056 then s.vector fi vec
  else if fi < 2064 then s.imsic (4 * (fi - 2056) + bits vec 9 2) (bits vec 8 1) (bits vec 0 8)
  else s

/-! ### Head records (R382, R383) -/

/-- The eight bytes of a head record. -/
def State.headBytes (s : State) (r : Nat) : List Byte :=
  let n := s.ringN r
  let x := s.ring r
  leBytes 4 (posWord n x.h + (if x.err then 2 ^ 17 else 0) + s.ringState r * 2 ^ 18)
    ++ leBytes 4 (s.fld F.HX_RING_CCOUNT_CCOUNT r)

/-- Issue a head record and its vector. -/
def State.headRecord (s : State) (r : Nat) : State :=
  let s := s.dmaWrite (s.ownerOf r) (s.fld F.HX_RING_HEAD_ADDR_HEAD_ADDR r) (s.headBytes r)
  let s := s.setRing r { s.ring r with unpub := 0, err := false, pubCount := s.fld F.HX_RING_CCOUNT_CCOUNT r }
  s.ringIrq r

/-- Pass H over contiguous completed descriptors (R380), at most `n` of them. -/
def State.advance (s : State) (r n : Nat) : State :=
  match n with
  | 0 => s
  | n + 1 =>
    let x := s.ring r
    if x.ended.contains x.h then
      let s := s.setRing r { x with h := posNext (s.ringN r) x.h, ended := x.ended.filter (· != x.h), unpub := x.unpub + 1 }
      (s.bump F.HX_RING_CCOUNT_CCOUNT r).advance r n
    else s

/-- A head record is due (R383): a count, an age of 0, an error covered, or nothing left in hand. -/
def State.headDue (s : State) (r : Nat) : Bool :=
  let x := s.ring r
  decide (0 < x.unpub) && (decide (2 ^ s.fld F.HX_RING_CFG_HEAD_MOD r ≤ x.unpub) || s.fld F.HX_RING_CFG_HEAD_TIME r == 0
    || x.err || (x.cache.isEmpty && x.work.isEmpty && x.waiting.isNone && x.fence.isNone))

def State.publish (s : State) (r : Nat) : State := if s.headDue r then s.headRecord r else s

/-- Complete the descriptor at position `p`: its status word (R375), then H and the head record.  DTYPE 0x30 leaves its status word alone and counts `result` as an error only for ERR (R382). -/
def State.finish (s : State) (r p : Nat) (result info : Nat) (status : Bool := true) : State :=
  let s := if status then s.dmaWrite (s.ownerOf r) (s.entryAddr r p + 56) (leBytes 4 (result % 256) ++ leBytes 4 info) else s
  let x := s.ring r
  let covered := x.h == p
  let s := s.sqFree (fun j => j.1 == r && j.2 == p)
  let s := s.setRing r { x with work := x.work.filter (·.pos != p), cache := x.cache.filter (·.pos != p),
                                ended := x.ended ++ [p], err := x.err || result != resOk }
  if covered then ((s.advance r (2 * s.ringN r)).publish r) else s

/-! ### Ring states (R388) -/

/-- Change a ring's state, with its cause; EV0780 reports it. A SUBMIT ring publishes what it has passed (R383). -/
def State.ringGo (s : State) (r st cause : Nat) : State :=
  let old := s.ringState r
  let s := (s.setFld F.HX_RING_STATUS_STATE r st).setFld F.HX_RING_STATUS_CAUSE r cause
  let s := if s.ringKind r = kindSubmit ∧ 0 < (s.ring r).unpub then s.headRecord r else s
  s.raise 780 [.w r, .w old, .w st, .w cause]

/-- STRINGs that wait on a ring which leaves ACTIVE, STOPPING and STOPPED end with STRING_TARGET, and their rings stop (R381). -/
def State.endStrings (s : State) (target : Nat) : State :=
  (s.rings.filter (fun e => match e.2.waiting with | some w => w.2.1 == target | none => false)).foldl (fun s e =>
    match e.2.waiting with
    | some w =>
      let s := s.setRing e.1 { s.ring e.1 with waiting := none }
      let s := s.finish e.1 w.1 resStringTarget 0
      let s := if 0 < (s.ring e.1).unpub then s.headRecord e.1 else s
      if s.ringState e.1 = ringActive then s.ringGo e.1 ringStopped 4 else s
    | none => s) s

/-- Move a ring to ERROR or DISABLED, ending what waits on it. -/
def State.ringDown (s : State) (r st cause : Nat) : State := (s.ringGo r st cause).endStrings r

/-- The FENCE or STRING that a ring waits on may complete now (R381). -/
def State.waitMet (s : State) (x : RingSt) : Option Nat :=
  match x.fence, x.waiting with
  | some p, _ => if x.h = p ∧ x.unpub = 0 then some p else none
  | none, some w =>
    let have' := (s.ring w.2.1).pubCount
    if (have' + 2 ^ 32 - w.2.2.1) % 2 ^ 32 < 2 ^ 31 then some w.1 else none
  | none, none => none

/-- Complete every FENCE and STRING whose condition has come to hold, at most `n` of them. -/
def State.settle (s : State) (n : Nat) : State :=
  match n with
  | 0 => s
  | n + 1 =>
    match s.rings.find? (fun e => (s.waitMet e.2).isSome && (s.ringState e.1 == ringActive || s.ringState e.1 == ringStopping)) with
    | some e =>
      match s.waitMet e.2 with
      | some p => ((s.setRing e.1 { s.ring e.1 with fence := none, waiting := none }).finish e.1 p resOk 0).settle n
      | none => s
    | none => s

/-- Complete a descriptor and let whatever waited on it go on. -/
def State.complete (s : State) (r p result info : Nat) : State := (s.finish r p result info).settle 64

/-! ### Reads from host memory (R329, R330) -/

/-- The Completion Timeout of a function's reads in ns: its PF's value (R332). -/
def State.ctoNs (s : State) (fi : Nat) : Nat :=
  match (s.cfg (pfOf fi)).cto with
  | 1 => 80000
  | 2 => 8000000
  | 5 => 40000000
  | 6 => 160000000
  | 9 => 700000000
  | 10 => 3000000000
  | 13 => 10000000000
  | 14 => 50000000000
  | _ => 40000000

/-- The tag of a read goes out of use for twice the timer value (R334). -/
def State.deadTag (s : State) (r : HostRead) (abandoned : Bool) : DeadTag :=
  { tag := r.tag, abandoned := abandoned, expires := r.expires, until' := s.now + 2 * s.ctoNs r.fi }

/-- The lowest tag at or above `t` that is in neither list. -/
def freeTag (fuel t : Nat) (l : HostLink) : Option Nat :=
  match fuel with
  | 0 => none
  | fuel + 1 =>
    if l.reads.any (·.tag == t) || l.dead.any (·.tag == t) then freeTag fuel (t + 1) l
    else if t < 768 then some t else none

def State.host (s : State) (h : Nat) : HostLink := Map.get {} h s.hosts
def State.setHost (s : State) (h : Nat) (l : HostLink) : State := (s.withHosts (Map.set {} h l s.hosts))

/-- Take the oldest waiting read of the sub-link whose turn it is, or of the other (R330). -/
def State.nextRead (s : State) (l : HostLink) : Option ((Nat × Nat × Nat × Nat) × List (Nat × Nat × Nat × Nat)) :=
  let mine (n : Nat) : Option (Nat × Nat × Nat × Nat) := l.queue.find? (fun e => s.sublinkOf e.1 == n)
  match mine l.turn with
  | some e => some (e, l.queue.erase e)
  | none => match mine (1 - l.turn) with
    | some e => some (e, l.queue.erase e)
    | none => none

/-- Issue waiting reads of a link while a tag and buffer space are free (R330). -/
def State.pumpReads (s : State) (h n : Nat) : State :=
  match n with
  | 0 => s
  | n + 1 =>
    let l := s.host h
    match s.nextRead l with
    | none => s
    | some ((fi, ring, a, len), q) =>
      if (l.reads.foldl (fun x e => x + e.len) 0) + len ≤ 384 * 1024 then
        match freeTag 769 0 l with
        | some t =>
          let l' : HostLink :=
            { l with queue := q, turn := 1 - s.sublinkOf fi,
                     reads := l.reads ++ [{ tag := t, fi := fi, ring := ring, left := len, len := len, expires := s.now + s.ctoNs fi }] }
          ((s.setHost h l').emit (.hostRead fi t a len)).pumpReads h n
        | none => s
      else s

/-- Ask for `n` bytes of host memory for a ring of function `fi` (R329, R330). -/
def State.askHost (s : State) (fi ring a n : Nat) : State :=
  let h := linkOf fi
  let mx := 128 * 2 ^ min (s.cfg (pfOf fi)).mrrs 5
  let l := s.host h
  (s.setHost h { l with queue := l.queue ++ (splitReq (n / 64 + 66) a n mx).map (fun c => (fi, ring, c.1, c.2)) }).pumpReads h 64

/-- Every read of a ring has returned: its tags are free (R329). -/
def State.readsBack (s : State) (fi ring : Nat) : State :=
  if fi < 2056 then
    let h := linkOf fi
    let l := s.host h
    (s.setHost h { l with reads := l.reads.filter (·.ring != ring), queue := l.queue.filter (·.2.1 != ring) }).pumpReads h 64
  else s

/-! ### Records of event and receive rings (R369, R384, R385) -/

/-- The ring takes records: EVENT kind, a live owner, not DISABLED or ERROR (R386). -/
def State.takesRecords (s : State) (r : Nat) : Bool := s.ringLive r && s.ringKind r == kindEvent

/-- No entry for a new record: STOPPING, STOPPED, or N entries not yet returned (R384). -/
def State.ringFull (s : State) (r : Nat) : Bool :=
  s.ringState r != ringActive || posDiff (s.ringN r) (s.ring r).t (s.ring r).h == s.ringN r

/-- Write a 64-byte record at T: bytes 4 to 63, then bytes 0 to 3 with OWN (R367, R369). -/
def State.writeRecord (s : State) (r rtype low : Nat) (ws : List Nat) : State :=
  let x := s.ring r
  let n := s.ringN r
  let a := s.entryAddr r x.t
  let fi := s.ownerOf r
  let s := s.dmaWrite fi (a + 4) ((wordBytes ws ++ List.replicate 60 0).take 60)
  let s := s.dmaWrite fi a (leBytes 4 (ownBit n x.t * 2 ^ 31 + rtype * 65536 + low % 65536))
  s.setRing r { x with t := posNext n x.t, unpub := x.unpub + 1 }

/-- The interrupt of records written, by the counts and times of R383. -/
def State.recordIrq (s : State) (r : Nat) : State :=
  if 2 ^ s.fld F.HX_RING_CFG_HEAD_MOD r ≤ (s.ring r).unpub ∨ s.fld F.HX_RING_CFG_HEAD_TIME r = 0 then
    (s.setRing r { s.ring r with unpub := 0 }).ringIrq r
  else s

/-- The overflow record of a COALESCE episode (R385). -/
def State.overflowRecord (s : State) (r : Nat) : State :=
  let x := s.ring r
  let s := s.writeRecord r 0x24 (x.lostType * 256)
    [x.lostN, x.lostT0 % 2 ^ 32, x.lostT0 / 2 ^ 32, x.lostT1 % 2 ^ 32, x.lostT1 / 2 ^ 32]
  s.setRing r { s.ring r with lostType := 0, lostN := 0, lostT0 := 0, lostT1 := 0 }

/-- A COALESCE ring that has lost items writes their overflow record as soon as an entry is free (R384). -/
def State.coalesce (s : State) (r : Nat) : State :=
  if s.fld F.HX_RING_CFG_POLICY r = 2 ∧ s.ringKind r ≠ kindSubmit ∧ 0 < (s.ring r).lostType ∧ !s.ringFull r then (s.overflowRecord r).recordIrq r else s

/-! ### Doorbells and fetching (R370 to R373) -/

/-- A party may touch a ring's words (R363, "Registers" of the rings chapter). -/
def State.mayTouch (s : State) (who : Party) (r : Nat) : Bool :=
  match who with
  | .fn fi => decide (fi.val = s.mgr) || s.ringOwner r == some fi.val
  | .core k => s.ringOwner r == some (clusterFi (k.val / 4))
  | .sequencer _ => false
  | _ => true

/-- A ring condition of R393, logged under R344. -/
def State.ringViolation (s : State) (code r : Nat) : State := s.violate (0x6300 + code) r 782 []

/-- The prefetch cache of a ring (R372): its host link's, or 2, the one for core memory. -/
def State.cacheOf (s : State) (r : Nat) : Nat := if s.ownerOf r < 2056 then linkOf (s.ownerOf r) else 2

/-- Descriptors a prefetch cache holds. -/
def cacheSize (c : Nat) : Nat := if c < 2 then 4096 else 1024

/-- Entries a ring would fetch now, 0 where it has none pending, may not, or has a fetch under way (R371, R372). -/
def State.fetchWant (s : State) (r : Nat) : Nat :=
  let x := s.ring r
  let pre := min (max (s.fld F.HX_RING_AUX_PREFETCH r) 1) 32
  if s.ringState r ≠ ringActive ∨ s.ringKind r ≠ kindSubmit ∨ x.stuck ∨ x.asked ≠ 0 ∨ (s.ownerOf r < 2056 ∧ !(s.cfg (s.ownerOf r)).bme) then 0
  else min (posDiff (s.ringN r) x.t x.f) (pre - x.cache.length)

/-- Places of a cache that are free: neither filled nor kept for a fetch under way. -/
def State.cacheRoom (s : State) (c : Nat) : Nat :=
  cacheSize c - (s.rings.filter (fun e => s.cacheOf e.1 == c)).foldl (fun n e => n + e.2.cache.length + e.2.asked) 0

/-- The ring a cache serves next: the first with a fetch pending at or above its pointer, else the first (R372). -/
def State.fetchNext (s : State) (c : Nat) : Option Nat :=
  let ready := (s.rings.map (·.1)).filter (fun r => s.cacheOf r == c && s.fetchWant r != 0)
  match ready.find? (fun r => decide (Map.get 0 c s.sq.fetchTurn ≤ r)) with
  | some r => some r
  | none => ready.head?

/-- Grant a ring a fetch of `n` consecutive entries; the pointer moves to the next ring ID above it (R372). -/
def State.grantFetch (s : State) (c r n : Nat) : State :=
  let x := s.ring r
  let s := (s.setRing r { x with asked := n }).withSq { s.sq with fetchTurn := Map.set 0 c ((r + 1) % 65536) s.sq.fetchTurn }
  let fi := s.ownerOf r
  let first := min n (s.ringN r - x.f % s.ringN r)
  if fi < 2056 then
    let s := s.askHost fi r (s.entryAddr r x.f) (64 * first)
    if first < n then s.askHost fi r (s.entryAddr r 0) (64 * (n - first)) else s
  else s

/-- Serve the rings of a cache in rotating order while it has room (R372), at most `k` of them. -/
def State.pumpFetch (s : State) (c k : Nat) : State :=
  match k with
  | 0 => s
  | k + 1 =>
    match s.fetchNext c with
    | none => s
    | some r =>
      let n := min (s.fetchWant r) (s.cacheRoom c)
      if n = 0 then s else (s.grantFetch c r n).pumpFetch c k

/-- Ask for the descriptors that the rings of a ring's cache may still fetch (R371, R372). -/
def State.startFetch (s : State) (r : Nat) : State := s.pumpFetch (s.cacheOf r) s.rings.length

/-- A write of a ring's register: while HX is fenced it is ignored and counted (R600). -/
def State.ringWrite (s : State) (f : State → State) : State :=
  if s.powered && s.fenced 6 then s.bumpSat F.AO_FLT_REGION_FENCED 6 else s.when s.powered f

/-- DOORBELL (R370). -/
def State.doorbell (s : State) (who : Party) (r v : Nat) : State :=
  let n := s.ringN r
  let idx := v % 65536
  let p := (idx + (if bit v 16 then n else 0)) % (2 * n)
  let x := s.ring r
  let st := s.ringState r
  if !s.mayTouch who r then s.ringViolation 4 r
  else if (s.ringOwner r).isNone then s
  else if st = ringDisabled ∨ st = ringError then s.bumpSat F.HX_RING_DBERR_DB_BAD r
  else if s.ringKind r = kindSubmit then
    let a := posDiff n p x.h
    if n ≤ idx ∨ n < a then (s.bumpSat F.HX_RING_DBERR_DB_BAD r).ringViolation 1 r
    else
      let s := s.setRing r { x with stuck := false, t := if a ≤ posDiff n x.t x.h then x.t else p }
      s.startFetch r
  else
    if n ≤ idx ∨ posDiff n x.t x.h < posDiff n p x.h then (s.bumpSat F.HX_RING_DBERR_DB_BAD r).ringViolation 2 r
    else (s.setRing r { x with h := p }).coalesce r

def execDoorbell (who : Party) (ring : Fin 65536) (v : Word) (s : State) : Host.Outcome State Fault Refusal :=
  .next (s.ringWrite (·.doorbell who ring.val v.toNat))

/-- Take fetched entries in order into the cache; one not owned by the consumer stops the fetch (R371). -/
def State.takeEntries (s : State) (r : Nat) : List (List Byte) → State
  | [] => s
  | b :: bs =>
    let x := s.ring r
    let n := s.ringN r
    if x.f = x.t then s
    else if leAt b 3 1 / 128 = ownBit n x.f then
      (s.setRing r { x with f := posNext n x.f, cache := if x.ended.contains x.f then x.cache else x.cache ++ [{ pos := x.f, bytes := b }] }).takeEntries r bs
    else ((s.setRing r { x with stuck := true }).bumpSat F.HX_RING_DBERR_DB_EARLY r).ringViolation 3 r

/-- Entries of a core-memory ring from the fetch pointer. -/
def State.coreEntries (s : State) (r p n : Nat) : List (List Byte) :=
  match n with
  | 0 => []
  | n + 1 => s.memRead (s.entryAddr r p) 64 :: s.coreEntries r (posNext (s.ringN r) p) n

/-- DESC_FETCH: the fetch under way returns (R371 to R373), or fails (R388); what it brings a ring that has stopped is dropped (R388). -/
def State.descFetch (s : State) (r : Nat) (ok : Bool) (es : List (List Byte)) : State :=
  let st := s.ringState r
  let fi := s.ownerOf r
  let x := s.ring r
  if x.asked = 0 then s
  else
    let s := (s.readsBack fi r).setRing r { x with asked := 0 }
    if st ≠ ringActive ∧ st ≠ ringStopping then s
    else if !ok then s.ringDown r ringError 6
    else (s.takeEntries r ((if fi < 2056 then es else s.coreEntries r x.f x.asked).take x.asked)).startFetch r

def execDescFetch (ring : Fin 65536) (ok : Bool) (entries : List (List Byte)) (s : State) : Host.Outcome State Fault Refusal :=
  .next (s.descFetch ring.val ok entries)

/-! ### Commands (R374, R388, R391) -/

/-- A command or configuration write refused: EV0783 with the ring and the register offset. -/
def State.ringRefuse (s : State) (r off : Nat) : State := s.raise 783 [.w r, .w off]

/-- The configuration ENABLE would find valid (R391, R633). -/
def State.ringValid (s : State) (r : Nat) : Bool :=
  let fi := s.ownerOf r
  let kind := s.ringKind r
  let vec := s.fld F.HX_RING_CFG_VEC r
  let base := s.fld F.HX_RING_BASE_BASE r
  let head := s.fld F.HX_RING_HEAD_ADDR_HEAD_ADDR r
  decide (kind < 3) && decide (s.fld F.HX_RING_CFG_SIZE r ≤ 13)
    && (kind == kindSubmit || decide (s.fld F.HX_RING_CFG_POLICY r < 3))
    && base % 64 == 0 && head % 8 == 0
    && (decide (fi < 2056) || (s.inCore base (64 * s.ringN r) && (kind != kindSubmit || s.inCore head 8)))
    && (!s.flag F.HX_RING_CFG_IRQ_EN r || (if fi < 2056 then decide (vec < s.fld F.HX_FN_REC_VEC_COUNT fi) else bits vec 0 8 != 0))
    && (kind != kindReceive || (decide (r < 65535) && s.ringOwner (r + 1) == s.ringOwner r && s.ringKind (r + 1) == kindSubmit))

/-- A ring command reaches the ring: the party may touch it and a committed record holds it (R363). -/
def State.ringCmd (s : State) (who : Party) (r : Nat) (f : State → State) : State :=
  if !s.mayTouch who r then s.ringViolation 4 r
  else if (s.ringOwner r).isNone then s
  else f s

/-- RING_ENABLE (R388, R391). -/
def State.ringEnable (s : State) (r : Nat) : State :=
  if s.ringState r ≠ ringDisabled then s.ringRefuse r 0x1C
  else if !s.ringValid r then (s.setFld F.HX_RING_STATUS_CAUSE r 9).ringRefuse r 0x1C
  else
    let s := (s.sqFree (·.1 == r)).setRing r {}
    (s.setFld F.HX_RING_CCOUNT_CCOUNT r 0).ringGo r ringActive 0

def execRingEnable (who : Party) (ring : Fin 65536) (s : State) : Host.Outcome State Fault Refusal :=
  .next (s.ringWrite (·.ringCmd who ring.val (·.ringEnable ring.val)))

/-- RING_STOP (R388); an EVENT or RECEIVE ring passes to STOPPED at once (R384). -/
def State.ringStop (s : State) (r : Nat) : State :=
  if s.ringState r ≠ ringActive then s.ringRefuse r 0x1C
  else if s.ringKind r = kindSubmit then s.ringGo r ringStopping (s.fld F.HX_RING_STATUS_CAUSE r)
  else (s.ringGo r ringStopping (s.fld F.HX_RING_STATUS_CAUSE r)).ringGo r ringStopped 1

def execRingStop (who : Party) (ring : Fin 65536) (s : State) : Host.Outcome State Fault Refusal :=
  .next (s.ringWrite (·.ringCmd who ring.val (·.ringStop ring.val)))

/-- RING_STOPPED: every dispatched descriptor is complete and published (R388). -/
def State.ringStopDone (s : State) (r : Nat) : State :=
  s.when (s.ringState r == ringStopping && (s.ring r).work.isEmpty) (·.ringGo r ringStopped 1)

def execRingStopped (ring : Fin 65536) (s : State) : Host.Outcome State Fault Refusal := .next (s.ringStopDone ring.val)

/-- The owner's Bus Master Enable; a cluster has none to clear. -/
def State.ringMaster (s : State) (r : Nat) : Bool :=
  let fi := s.ownerOf r
  decide (2056 ≤ fi) || (s.cfg fi).bme

/-- RING_RESUME (R388, R389): the cache is dropped, a head record written, and dispatch restarts at H. -/
def State.ringResume (s : State) (r : Nat) : State :=
  if s.ringState r ≠ ringStopped ∨ !s.ringMaster r then s.ringRefuse r 0x1C
  else
    let x := s.ring r
    let s := (s.sqFree (·.1 == r)).setRing r { x with cache := [], work := [], f := x.h, d := x.h, asked := 0, waiting := none, fence := none, stuck := false }
    let s := (s.setFld F.HX_RING_STATUS_STATE r ringActive).setFld F.HX_RING_STATUS_CAUSE r 0
    let s := if s.ringKind r = kindSubmit then s.headRecord r else s
    ((s.raise 780 [.w r, .w ringStopped, .w ringActive, .w 0]).startFetch r).coalesce r

def execRingResume (who : Party) (ring : Fin 65536) (s : State) : Host.Outcome State Fault Refusal :=
  .next (s.ringWrite (·.ringCmd who ring.val (·.ringResume ring.val)))

/-- RING_RESET (R388): the cache is dropped and no record is written. -/
def State.ringReset (s : State) (r : Nat) : State :=
  let st := s.ringState r
  if st ≠ ringStopped ∧ st ≠ ringError then s.ringRefuse r 0x1C
  else
    let x := s.ring r
    (((s.sqFree (·.1 == r)).setRing r { x with cache := [], work := [], asked := 0, ended := [], unpub := 0, waiting := none, fence := none }).ringDown r ringDisabled 0).startFetch r

def execRingReset (who : Party) (ring : Fin 65536) (s : State) : Host.Outcome State Fault Refusal :=
  .next (s.ringWrite (·.ringCmd who ring.val (·.ringReset ring.val)))

/-- RING_INVALIDATE (R374): what is cached and not dispatched is dropped, and D is recorded. -/
def State.ringInvalidate (s : State) (r : Nat) : State :=
  let st := s.ringState r
  if s.ringKind r ≠ kindSubmit ∨ (st ≠ ringActive ∧ st ≠ ringStopping ∧ st ≠ ringStopped) then s.ringRefuse r 0x1C
  else
    let x := s.ring r
    let s := s.setRing r { x with cache := [], f := x.d, asked := 0, stuck := false }
    ((s.setFld F.HX_RING_DISP_D r (posWord (s.ringN r) x.d)).setFlag F.HX_RING_DISP_VALID r true).startFetch r

def execRingInvalidate (who : Party) (ring : Fin 65536) (s : State) : Host.Outcome State Fault Refusal :=
  .next (s.ringWrite (·.ringCmd who ring.val (·.ringInvalidate ring.val)))

/-- Stop every ring of a function whose Bus Master Enable is cleared (R335, R388). -/
def State.masterOff (s : State) (fi : Nat) : State :=
  (s.listed F.HX_RING_STATUS_STATE).foldl (fun s r =>
    if s.ringOwner r = some fi ∧ (s.ringState r = ringActive ∨ s.ringState r = ringStopping) then
      (s.setRing r { s.ring r with asked := 0, waiting := none, fence := none }).ringGo r ringStopped 2
    else s) s

/-- Return every register of a ring to its reset value and drop its journal records (R388), DISABLED with a cause. -/
def State.ringWipe (s : State) (r cause : Nat) : State :=
  let old := s.ringState r
  let fs := [F.HX_RING_CFG_KIND, F.HX_RING_CFG_POLICY, F.HX_RING_CFG_SIZE, F.HX_RING_CFG_IRQ_EN, F.HX_RING_CFG_VEC,
    F.HX_RING_CFG_HEAD_MOD, F.HX_RING_CFG_HEAD_TIME, F.HX_RING_AUX_HOLD_LIMIT, F.HX_RING_AUX_PREFETCH, F.HX_RING_AUX_BUF_SIZE,
    F.HX_RING_BASE_BASE, F.HX_RING_HEAD_ADDR_HEAD_ADDR, F.HX_RING_STATUS_STATE, F.HX_RING_STATUS_CAUSE, F.HX_RING_CCOUNT_CCOUNT,
    F.HX_RING_DISP_VALID, F.HX_RING_DISP_D, F.HX_RING_LOST_LOST, F.HX_RING_DBERR_DB_EARLY, F.HX_RING_DBERR_DB_BAD]
  let s := fs.foldl (fun s f => s.resetFld f r) s
  let s := (s.withLog { s.log with journal := s.log.journal.filter (fun j => !(j.idx == r && fs.any (·.id == j.fld))) })
  let s := ((s.sqFree (·.1 == r)).setRing r {}).setFld F.HX_RING_STATUS_CAUSE r cause
  let s := if old = ringDisabled then s else s.raise 780 [.w r, .w old, .w ringDisabled, .w cause]
  s.endStrings r

/-- The rings of a function's record. -/
def State.ringsOf (s : State) (fi : Nat) : List Nat :=
  (List.range (s.fld F.HX_FN_REC_RING_COUNT fi)).map (s.fld F.HX_FN_REC_RING_BASE fi + ·)

/-- Every ring a function holds returns to reset (R337, R356). -/
def State.wipeRings (s : State) (fi cause : Nat) : State :=
  (s.ringsOf fi).foldl (fun s r => s.ringWipe r cause) s

/-! ### Dispatch within a ring (R380, R381) -/

def Desc.dtype (d : Desc) : Nat := leAt d.bytes 2 1

/-- Skip positions whose descriptors completed before a stop (R388). -/
def skipEnded (n fuel d : Nat) (ended : List Nat) : Nat :=
  match fuel with
  | 0 => d
  | fuel + 1 => if ended.contains d then skipEnded n fuel (posNext n d) ended else d

/-- The next descriptor to dispatch: cached, at the dispatch pointer, with no FENCE or STRING in wait. -/
def State.nextDesc (s : State) (r : Nat) : Option Desc :=
  let x := s.ring r
  if s.ringState r ≠ ringActive ∨ x.fence.isSome ∨ x.waiting.isSome then none
  else x.cache.find? (·.pos == skipEnded (s.ringN r) 16 x.d x.ended)

/-- DTYPEs that have a meaning (R376, R421, R432, R454, R456, R486). -/
def dtypeKnown (t : Nat) : Bool :=
  decide (t ≤ 3) || t == 0x10 || t == 0x30 || (decide (0x40 ≤ t) && decide (t ≤ 0x43)) || t == 0x50 || t == 0x51
    || (decide (0x60 ≤ t) && decide (t ≤ 0x62))

/-- Ring `r` is the buffer ring of a receive ring of the same record (R364). -/
def State.isBufferRing (s : State) (r : Nat) : Bool :=
  decide (0 < r) && s.ringKind (r - 1) == kindReceive && s.ringOwner (r - 1) == s.ringOwner r && (s.ringOwner r).isSome

/-- The ring may carry this DTYPE (R376). -/
def State.mayCarry (s : State) (r t : Nat) : Bool := if s.isBufferRing r then t == 3 else t != 3 && dtypeKnown t

/-- Move a descriptor from the cache into work; the dispatch pointer passes it. -/
def State.takeDesc (s : State) (r : Nat) (d : Desc) : State :=
  let x := s.ring r
  (s.setRing r { x with cache := x.cache.filter (·.pos != d.pos), work := x.work ++ [d], d := posNext (s.ringN r) d.pos }).startFetch r

/-- A function in PS2 has its storage work on two contexts already (R478). -/
def State.psHolds (s : State) (r c : Nat) : Bool :=
  let fi := s.ownerOf r
  c == 2 && s.fld F.HX_STOR_FN_PS_PS fi == 2
    && decide (2 ≤ (s.sq.ctxs.filter (fun e => match e.2.job with
      | some j => s.ownerOf j.1 == fi && (s.ring j.1).work.any (fun d => d.pos == j.2 && dtypeClass d.dtype == some 2)
      | none => false)).length)

/-- Dispatch a descriptor (R395): to a sequencer's free context where its DTYPE has a class, else to the ring engine or the table engine itself; none while no sequencer can take it. -/
def State.dispatch (s : State) (r : Nat) (d : Desc) : Option State :=
  match dtypeClass d.dtype with
  | none => some (s.takeDesc r d)
  | some c =>
    if !s.mayCarry r d.dtype then some (s.takeDesc r d)
    else if s.psHolds r c then none
    else (s.sqPick c).map (fun g => (s.sqLoad g.1 g.2 r d.pos).takeDesc r d)

/-- The descriptor a step of type `p` works on: the oldest in work of that type, else the next to dispatch if it has it. -/
def State.pickDesc (s : State) (r : Nat) (p : Nat → Bool) : Option (Desc × State) :=
  match (s.ring r).work.find? (fun d => p d.dtype) with
  | some d => some (d, s)
  | none =>
    match s.nextDesc r with
    | some d => if p d.dtype then (s.dispatch r d).map (fun s => (d, s)) else none
    | none => none

/-- The same, complete: run a descriptor's meaning where the ring has one of that type ready. -/
def State.withDesc (s : State) (r : Nat) (p : Nat → Bool) (f : State → Desc → State) : State :=
  match s.pickDesc r p with
  | some (d, s) => f s d
  | none => s

/-- The oldest descriptor in work that `p` picks, else the next to dispatch if it does; `p` leaves out those whose work has begun. -/
def State.withNew (s : State) (r : Nat) (p : Desc → Bool) (f : State → Desc → State) : State :=
  match (s.ring r).work.find? p with
  | some d => f s d
  | none =>
    match s.nextDesc r with
    | some d =>
      if p d then
        match s.dispatch r d with
        | some s => f s d
        | none => s
      else s
    | none => s

/-- Complete a descriptor that is still in work. -/
def State.completeLive (s : State) (r p result info : Nat) : State :=
  if (s.ring r).work.any (·.pos == p) then s.complete r p result info else s

/-- The `n` bytes at `a` in the memory of a ring's owner: what the host returned (`data`, none where `ok` is false), or core memory. -/
def State.sourceBytes (s : State) (fi a n : Nat) (ok : Bool) (data : List Byte) : Option (List Byte) :=
  if fi < 2056 then (if ok then some ((data ++ List.replicate n 0).take n) else none)
  else if s.coreGood a n then some (s.memRead a n) else none

/-- Bytes `a` up to `b` of a descriptor are zero. -/
def Desc.zero (d : Desc) (a b : Nat) : Bool := ((d.bytes.drop a).take (b - a)).all (· == 0)

/-- NOP_DESC (R376): completes with OK. -/
def State.nopDesc (s : State) (r : Nat) : State :=
  s.withDesc r (fun t => t == 0 || !s.mayCarry r t) (fun s d =>
    if s.mayCarry r d.dtype then s.complete r d.pos resOk 0 else s.complete r d.pos resBadDesc 0)

def execNopDesc (ring : Fin 65536) (s : State) : Host.Outcome State Fault Refusal := .next (s.nopDesc ring.val)

/-- FENCE (R381): completes once every earlier descriptor is complete and covered by a head record. -/
def State.fenceDesc (s : State) (r : Nat) : State :=
  s.withDesc r (· == 1) (fun s d =>
    if !s.mayCarry r 1 ∨ !d.zero 4 56 ∨ leAt d.bytes 0 2 ≠ 0 then s.complete r d.pos resBadDesc 0
    else (s.setRing r { s.ring r with fence := some d.pos }).settle 64)

def execFence (ring : Fin 65536) (s : State) : Host.Outcome State Fault Refusal := .next (s.fenceDesc ring.val)

/-- End a STRING with an error: its own head record, then the ring stops (R381). -/
def State.stringEnd (s : State) (r p result cause : Nat) : State :=
  let s := (s.setRing r { s.ring r with waiting := none }).finish r p result 0
  let s := if 0 < (s.ring r).unpub then s.headRecord r else s
  if s.ringState r = ringActive then s.ringGo r ringStopped cause else s

/-- STRING (R381). -/
def State.stringDesc (s : State) (r : Nat) : State :=
  s.withDesc r (· == 2) (fun s d =>
    let target := leAt d.bytes 4 2
    let value := leAt d.bytes 8 4
    let tst := s.ringState target
    if !s.mayCarry r 2 ∨ leAt d.bytes 0 2 ≠ 0 ∨ leAt d.bytes 6 2 ≠ 0 ∨ !d.zero 16 56 then s.complete r d.pos resBadDesc 0
    else if s.ownerOf r ≠ s.mgr ∧ s.ringOwner target ≠ s.ringOwner r then (s.carve (s.ownerOf r) 1).complete r d.pos resNotOwned 0
    else
      let s := s.setRing r { s.ring r with waiting := some (d.pos, target, value, leAt d.bytes 12 4) }
      if (s.waitMet (s.ring r)).isSome then s.settle 64
      else if tst ≠ ringActive ∧ tst ≠ ringStopping ∧ tst ≠ ringStopped then s.stringEnd r d.pos resStringTarget 4
      else s)

def execString (ring : Fin 65536) (s : State) : Host.Outcome State Fault Refusal := .next (s.stringDesc ring.val)

/-- STRING_TIMEOUT (R381): a condition met in the same clock counts as met. -/
def State.stringTimeout (s : State) (r : Nat) : State :=
  match (s.ring r).waiting with
  | some w =>
    if w.2.2.2 = 0 ∨ (s.ringState r ≠ ringActive ∧ s.ringState r ≠ ringStopping) then s
    else if (s.waitMet (s.ring r)).isSome then s.settle 64
    else s.stringEnd r w.1 resStringTimeout 3
  | none => s

def execStringTimeout (ring : Fin 65536) (s : State) : Host.Outcome State Fault Refusal := .next (s.stringTimeout ring.val)

/-- RX_BUF (R379): a buffer ring's next descriptor becomes a posted buffer; one that breaks its layout ends with BAD_DESC. -/
def State.rxBuf (s : State) (r : Nat) : State :=
  match s.nextDesc r with
  | some d =>
    if d.dtype ≠ 3 then s
    else
      let s' := s.takeDesc r d
      if !s.mayCarry r 3 ∨ leAt d.bytes 0 2 ≠ 0 ∨ !d.zero 4 8 ∨ !d.zero 16 56 ∨ leAt d.bytes 8 8 % 64 ≠ 0 then s'.complete r d.pos resBadDesc 0
      else s'
  | none => s

def execRxBuf (ring : Fin 65536) (s : State) : Host.Outcome State Fault Refusal := .next (s.rxBuf ring.val)

/-- DESC_COMPLETE (R380): a dispatched descriptor ends with a result and its status data. -/
def State.descComplete (s : State) (r pos result info : Nat) : State :=
  s.when ((s.ring r).work.any (·.pos == pos) && (s.ringState r == ringActive || s.ringState r == ringStopping)) (·.complete r pos result info)

def execDescComplete (ring : Fin 65536) (pos : Fin 131072) (result : Byte) (info : Word) (s : State) : Host.Outcome State Fault Refusal :=
  .next (s.descComplete ring.val pos.val result.toNat info.toNat)

/-- HEAD_TIME_EXPIRY (R383): the oldest unpublished completion, or record, is HEAD_TIME old. -/
def State.headTime (s : State) (r : Nat) : State :=
  if (s.ring r).unpub = 0 then s
  else if s.ringKind r = kindSubmit then (s.headRecord r).settle 64
  else (s.setRing r { s.ring r with unpub := 0 }).ringIrq r

def execHeadTimeExpiry (ring : Fin 65536) (s : State) : Host.Outcome State Fault Refusal := .next (s.headTime ring.val)

/-! ### Event rings (R384 to R386, R631, R687) -/

/-- Count one item lost; the first of an episode raises EV0781 (R384). -/
def State.loseItem (s : State) (r rtype : Nat) : State :=
  let x := s.ring r
  let s := s.bumpSat F.HX_RING_LOST_LOST r
  if x.lostType = 0 then
    (s.setRing r { x with lostType := rtype, lostN := 1, lostT0 := s.now, lostT1 := s.now }).raise 781
      [.w r, .w (s.fld F.HX_RING_CFG_POLICY r), .w rtype]
  else s.setRing r { x with lostN := min (x.lostN + 1) 0xFFFFFFFF, lostT1 := s.now }

/-- A frame that needs more than 15 buffers is lost with its event, in no episode (R387). -/
def State.loseLong (s : State) (r : Nat) : State :=
  (s.bumpSat F.HX_RING_LOST_LOST r).raise 781 [.w r, .w (s.fld F.HX_RING_CFG_POLICY r), .w 0x23]

/-- A record for a ring that is not a live EVENT ring is discarded and counted (R386, R687). -/
def State.discardRecord (s : State) (g : Staged) : State :=
  let s := s.bump F.HX_RING_DISCARD_COUNT (g.rtype % 256 - 0x20)
  if g.rtype = 0x28 then s.bumpSat F.AO_EVT_ROUTE_NO_RING g.low else s

/-- The first record staged for a ring, and the rest. -/
def stagedFor (r : Nat) : List Staged → Option (Staged × List Staged)
  | [] => none
  | g :: gs =>
    if g.ring = r then some (g, gs)
    else match stagedFor r gs with
      | some (h, rest) => some (h, g :: rest)
      | none => none

/-- EVENT_RECORD_PLACE: the oldest record staged for the ring is placed, or its POLICY applies (R384). -/
def State.placeRecord (s : State) (r : Nat) : State :=
  match stagedFor r s.staged with
  | none => s
  | some (g, rest) =>
    let done (s : State) : State := match g.irq with | some e => s.irq e | none => s
    let policy := s.fld F.HX_RING_CFG_POLICY r
    if !s.takesRecords r then done ((s.withStaged rest).discardRecord g)
    else if s.ringFull r then
      if policy = 0 ∧ !(s.ring r).holdOver then s
      else done ((s.withStaged rest).loseItem r (g.rtype % 256))
    else
      let s := if policy = 2 ∧ 0 < (s.ring r).lostType then (s.overflowRecord r).recordIrq r else s
      if s.ringFull r then done ((s.withStaged rest).loseItem r (g.rtype % 256))
      else
        let s := (s.withStaged rest).writeRecord r g.rtype g.low g.words
        let s := s.setRing r { s.ring r with lostType := 0, lostN := 0, lostT0 := 0, lostT1 := 0, holdOver := false }
        done (s.recordIrq r)

def execEventRecordPlace (ring : Fin 65536) (s : State) : Host.Outcome State Fault Refusal := .next (s.placeRecord ring.val)

/-- HOLD_LIMIT_EXPIRY (R384): under HOLD, the waiting item and every later one drop until the ring accepts an entry.  Frames of a RECEIVE ring drop at their delivery. -/
def State.holdLimit (s : State) (r : Nat) : State :=
  if s.fld F.HX_RING_CFG_POLICY r ≠ 0 ∨ !s.ringLive r then s
  else if s.ringKind r = kindEvent ∧ !s.ringFull r then s
  else
    let mine := s.staged.filter (·.ring == r)
    let s := (s.withStaged (s.staged.filter (·.ring != r)))
    let s := s.setRing r { s.ring r with holdOver := true }
    mine.foldl (fun s g => let s := s.loseItem r (g.rtype % 256); match g.irq with | some e => s.irq e | none => s) s

def execHoldLimitExpiry (ring : Fin 65536) (s : State) : Host.Outcome State Fault Refusal := .next (s.holdLimit ring.val)

end Sys2Proof.Machine
end

