-- ==== Sys2Proof/Machine/Cipher.lean ====
section
/-! DEFINITION. The cipher engine: key slots, jobs, inline storage encryption, alarms and zeroisation (R486 to R507). -/

namespace Sys2Proof.Machine

/-! ### Key slots (R486 to R490) -/

/-- Modes of R486. -/
def modeGcm : Nat := 0
def modeXts : Nat := 1
def modeCtr : Nat := 2
def modeCmac : Nat := 3
def modeChacha : Nat := 4
def modeKw : Nat := 5

/-- Results of R493. -/
def resAuthFail : Nat := 0x40
def resKeyEmpty : Nat := 0x41
def resKeyUsage : Nat := 0x42
def resZeroised : Nat := 0x43
def resCiphFault : Nat := 0x44
def resBadKey : Nat := 0x45
def resUnwrapFail : Nat := 0x46

/-- Key bytes of a mode and KLEN; none where the pair is not allowed (R486, R489). -/
def keyBytes (mode klen : Nat) : Option Nat :=
  match mode, klen with
  | 1, 0 => some 32
  | 1, 1 => some 64
  | 4, 1 => some 32
  | 4, _ => none
  | m, 0 => if m < 6 then some 16 else none
  | m, 1 => if m < 6 then some 32 else none
  | _, _ => none

def State.loaded (s : State) (slot : Nat) : Bool := s.flag F.HX_CIPH_SLOT_LOADED slot
def State.keyOf (s : State) (slot : Nat) : List Byte := Map.get [] slot s.ciph.keys

/-- The slot lies in the function's committed record (R487). -/
def State.ownsSlot (s : State) (fi slot : Nat) : Bool := inRange slot (s.fld F.HX_FN_REC_KEY_BASE fi) (s.fld F.HX_FN_REC_KEY_COUNT fi)

/-- Zero a slot. -/
def State.eraseSlot (s : State) (slot : Nat) : State :=
  [F.HX_CIPH_SLOT_LOADED, F.HX_CIPH_SLOT_MODE, F.HX_CIPH_SLOT_ENC, F.HX_CIPH_SLOT_DEC, F.HX_CIPH_SLOT_KLEN].foldl
    (fun s f => s.setFld f slot 0) (s.withCiph { s.ciph with keys := Map.set [] slot [] s.ciph.keys })

/-- Load a key into a slot. -/
def State.fillSlot (s : State) (slot mode klen : Nat) (enc dec : Bool) (key : List Byte) : State :=
  ((((((s.withCiph { s.ciph with keys := Map.set [] slot key s.ciph.keys }).setFlag F.HX_CIPH_SLOT_LOADED slot true).setFld
    F.HX_CIPH_SLOT_MODE slot mode).setFlag F.HX_CIPH_SLOT_ENC slot enc).setFlag F.HX_CIPH_SLOT_DEC slot dec).setFld F.HX_CIPH_SLOT_KLEN slot klen)

/-- A key change takes effect: it waits for the jobs that run under the previous key (R490). -/
def State.changing (s : State) (r pos slot : Nat) : State :=
  let jobs := (s.ciph.jobs.filter (·.slot == slot)).map (fun j => (j.ring, j.pos))
  (s.withCiph { s.ciph with changes := s.ciph.changes ++ [{ ring := r, pos := pos, slot := slot, jobs := jobs }] })

/-- The descriptor at a position has a key change in hand. -/
def State.changingAt (s : State) (r pos : Nat) : Bool := s.ciph.changes.any (fun c => c.ring == r && c.pos == pos)

/-- The material a KEY_LOAD would put into its slot, or the result it fails with (R489). -/
def State.material (s : State) (mode klen wrap : Nat) (wrapped : Bool) (n : Nat) (read : Option (List Byte)) : Nat ⊕ List Byte :=
  let equalHalves (k : List Byte) : Bool := mode == modeXts && k.take (n / 2) == k.drop (n / 2)
  let badWrap := wrapped && !(s.loaded wrap && s.fld F.HX_CIPH_SLOT_MODE wrap == modeKw && s.flag F.HX_CIPH_SLOT_DEC wrap)
  if (keyBytes mode klen).isNone then .inl resBadKey
  else if badWrap then .inl resKeyUsage
  else match read with
    | none => .inl resDataError
    | some bs =>
      if !wrapped then (if equalHalves bs then .inl resBadKey else .inr bs)
      else match Config.keyUnwrap (s.keyOf wrap) bs with
        | none => .inl resUnwrapFail
        | some k => if equalHalves k then .inl resBadKey else .inr k

/-- KEY_LOAD (R489, R490). -/
def State.keyLoad (s : State) (r : Nat) (ok : Bool) (data : List Byte) : State :=
  s.withNew r (fun d => d.dtype == 0x60 && !s.changingAt r d.pos) (fun s d =>
    let fi := s.ownerOf r
    let w0 := leAt d.bytes 0 4
    let w1 := leAt d.bytes 4 4
    let addr := leAt d.bytes 8 8
    let mode := bits w0 12 4
    let klen := bits w0 6 2
    let wrapped := bit w0 9
    let slot := bits w1 0 14
    let wrap := bits w1 14 14
    let n := (keyBytes mode klen).getD 16
    let len := if wrapped then n + 8 else n
    if !s.mayCarry r 0x60 ∨ bits w0 24 7 ≠ 0 ∨ bits w0 0 6 ≠ 0 ∨ bits w1 28 4 ≠ 0 ∨ addr % 8 ≠ 0 ∨ !d.zero 16 56 then s.complete r d.pos resBadDesc 0
    else if !s.ownsSlot fi slot ∨ (wrapped ∧ !s.ownsSlot fi wrap) then (s.carve fi 1).complete r d.pos resNotOwned 0
    else
      let read := s.sourceBytes fi addr len ok data
      let s := if bit w0 8 ∧ read.isSome ∧ (keyBytes mode klen).isSome then s.dmaWrite fi addr (List.replicate len 0) else s
      match s.material mode klen wrap wrapped n read with
      | .inl e => s.complete r d.pos e 0
      | .inr key => ((s.changing r d.pos slot).fillSlot slot mode klen (bit w0 11) (bit w0 10) key).bump F.HX_CIPH_STAT_COUNT 4)

def execKeyLoad (ring : Fin 65536) (ok : Bool) (data : List Byte) (s : State) : Host.Outcome State Fault Refusal := .next (s.keyLoad ring.val ok data)

/-- KEY_ERASE (R489, R490). -/
def State.keyErase (s : State) (r : Nat) : State :=
  s.withNew r (fun d => d.dtype == 0x61 && !s.changingAt r d.pos) (fun s d =>
    let fi := s.ownerOf r
    let slot := bits (leAt d.bytes 4 4) 0 14
    if !s.mayCarry r 0x61 ∨ bits (leAt d.bytes 0 4) 24 7 ≠ 0 ∨ leAt d.bytes 0 2 ≠ 0 ∨ bits (leAt d.bytes 4 4) 14 18 ≠ 0 ∨ !d.zero 8 56 then
      s.complete r d.pos resBadDesc 0
    else if !s.ownsSlot fi slot then (s.carve fi 1).complete r d.pos resNotOwned 0
    else (s.changing r d.pos slot).eraseSlot slot)

def execKeyErase (ring : Fin 65536) (s : State) : Host.Outcome State Fault Refusal := .next (s.keyErase ring.val)

/-- KEY_CHANGE_DONE: the oldest change of a slot completes once the jobs under its previous key have ended (R490). -/
def State.keyChangeDone (s : State) (slot : Nat) : State :=
  match s.ciph.changes.find? (·.slot == slot) with
  | none => s
  | some c =>
    if c.jobs.any (fun j => s.ciph.jobs.any (fun x => x.ring == j.1 && x.pos == j.2)) then s
    else ((s.withCiph { s.ciph with changes := s.ciph.changes.filter (fun x => !(x.ring == c.ring && x.pos == c.pos)) })).completeLive
      c.ring c.pos resOk 0

def execKeyChangeDone (slot : Fin 16384) (s : State) : Host.Outcome State Fault Refusal := .next (s.keyChangeDone slot.val)

/-! ### Jobs (R491 to R494, R499) -/

/-- First lane that jobs may take (R502). -/
def State.jobLanes (s : State) : Nat := min (s.fld F.HX_CIPH_CFG_STOR_LANES) 15

/-- The free lane next in turn for a job. -/
def State.freeLane (s : State) : Option Nat :=
  ((List.range 16).map (fun i => (s.ciph.lane + i) % 16)).find? (fun l => decide (s.jobLanes ≤ l) && !s.ciph.jobs.any (·.lane == l))

/-- Storage units through the engine: each takes the free lane next in turn, counted in STOR_UNITS (R499, R506). -/
def State.storUnits (s : State) (n : Nat) : State :=
  let free := ((List.range 16).map (fun i => (s.ciph.lane + i) % 16)).filter (fun l => !s.ciph.jobs.any (·.lane == l))
  let s := s.bump F.HX_CIPH_STAT_COUNT 5 n
  if n = 0 ∨ free.isEmpty then s else s.withCiph { s.ciph with lane := (free.getD ((n - 1) % free.length) 0 + 1) % 16 }

/-- The tag a job reads: in decrypting GCM or CHACHA, or verifying CMAC. -/
def readsTag (mode : Nat) (decrypt : Bool) : Bool := decrypt && (mode == modeGcm || mode == modeChacha || mode == modeCmac)

/-- Why a CIPH_JOB is refused (R492); none where it runs. -/
def State.jobRefused (s : State) (r : Nat) (d : Desc) : Option Nat :=
  let w0 := leAt d.bytes 0 4
  let mode := bits w0 12 4
  let decrypt := bit w0 11
  let slot := bits (leAt d.bytes 4 4) 0 14
  let src := leAt d.bytes 8 8
  let dst := leAt d.bytes 16 8
  let len := leAt d.bytes 24 4
  let aad := leAt d.bytes 28 2
  let unit' := if bit w0 10 then 4096 else 512
  let auth := mode == modeGcm || mode == modeChacha
  if 16777216 < len ∨ len < aad ∨ (aad ≠ 0 ∧ (mode = modeXts ∨ mode = modeCtr ∨ mode = modeCmac)) ∨ (mode = modeXts ∧ (len = 0 ∨ len % unit' ≠ 0)) then
    some resBadLength
  else if !s.mayCarry r 0x62 ∨ bits w0 24 7 ≠ 0 ∨ bits w0 0 10 ≠ 0 ∨ bits (leAt d.bytes 4 4) 14 18 ≠ 0 ∨ leAt d.bytes 30 2 ≠ 0 ∨ 6 ≤ mode
      ∨ (auth ∧ leAt d.bytes 44 4 ≠ 0) ∨ (mode ≠ modeCmac ∧ src ≠ dst ∧ src < dst + len ∧ dst < src + len) then some resBadDesc
  else if !s.ownsSlot (s.ownerOf r) slot then some resNotOwned
  else if !s.loaded slot then some resKeyEmpty
  else if s.fld F.HX_CIPH_SLOT_MODE slot ≠ mode ∨ mode = modeKw ∨ !(if decrypt then s.flag F.HX_CIPH_SLOT_DEC slot else s.flag F.HX_CIPH_SLOT_ENC slot) then
    some resKeyUsage
  else none

/-- CIPH_JOB: checked and dispatched to a lane, which keeps the slot's key (R490).  `data` is LENGTH bytes of the source and, where the job reads one, the tag. -/
def State.ciphJob (s : State) (r : Nat) (ok : Bool) (data : List Byte) : State :=
  s.withNew r (fun d => d.dtype == 0x62 && !s.ciph.jobs.any (fun j => j.ring == r && j.pos == d.pos)) (fun s d =>
    let fi := s.ownerOf r
    match s.jobRefused r d with
    | some e => (if e = resNotOwned then s.carve fi 1 else s).complete r d.pos e 0
    | none =>
      let w0 := leAt d.bytes 0 4
      let mode := bits w0 12 4
      let decrypt := bit w0 11
      let slot := bits (leAt d.bytes 4 4) 0 14
      let len := leAt d.bytes 24 4
      let tagAddr := leAt d.bytes 48 8
      let tagRead := if readsTag mode decrypt then s.sourceBytes fi tagAddr 16 ok (data.drop len) else some []
      match s.sourceBytes fi (leAt d.bytes 8 8) len ok data, tagRead, s.freeLane with
      | some src, some tag, some lane =>
        (s.withCiph { s.ciph with lane := (lane + 1) % 16, jobs := s.ciph.jobs ++
          [{ ring := r, pos := d.pos, lane := lane, slot := slot, mode := mode, decrypt := decrypt, key := s.keyOf slot,
             iv := (if bit w0 10 then [1] else [0]) ++ ((d.bytes.drop 32).take 16), aad := leAt d.bytes 28 2, src := src,
             dst := leAt d.bytes 16 8, tagAddr := tagAddr, tag := tag }] })
      | _, _, none => s
      | _, _, _ => s.complete r d.pos resDataError 0)

def execCiphJob (ring : Fin 65536) (ok : Bool) (data : List Byte) (s : State) : Host.Outcome State Fault Refusal := .next (s.ciphJob ring.val ok data)

/-- A job leaves its destination with the AAD copy and zeros (R494). -/
def State.zeroDst (s : State) (j : CiphJob) : State :=
  if j.mode = modeCmac then s
  else s.dmaWrite (s.ownerOf j.ring) j.dst (j.src.take j.aad ++ List.replicate (j.src.length - j.aad) 0)

/-- Take a job out of its lane. -/
def State.endJob (s : State) (j : CiphJob) : State := (s.withCiph { s.ciph with jobs := s.ciph.jobs.filter (·.lane != j.lane) })

/-- A job that ends without its result; a job already cut off writes nothing. -/
def State.failJob (s : State) (j : CiphJob) (result : Nat) : State :=
  let s := s.endJob j
  if (s.ring j.ring).work.any (·.pos == j.pos) then (s.zeroDst j).complete j.ring j.pos result 0 else s

/-- A finished job (R491, R494). -/
def State.passJob (s : State) (j : CiphJob) : State :=
  let x := Config.cipher j.mode j.decrypt j.key j.iv (j.src.take j.aad) (j.src.drop j.aad)
  let fi := s.ownerOf j.ring
  let s := (s.bump F.HX_CIPH_STAT_COUNT 0).bump F.HX_CIPH_STAT_COUNT 1 j.src.length
  if readsTag j.mode j.decrypt ∧ x.2 ≠ j.tag then (s.bump F.HX_CIPH_STAT_COUNT 2).failJob j resAuthFail
  else
    let s := s.endJob j
    if !(s.ring j.ring).work.any (·.pos == j.pos) then s
    else
      let out := j.src.take j.aad ++ x.1
      let s := if j.mode = modeCmac then s else s.dmaWrite fi j.dst out
      let s := if !j.decrypt ∧ (j.mode = modeGcm ∨ j.mode = modeChacha ∨ j.mode = modeCmac) then s.dmaWrite fi j.tagAddr x.2 else s
      s.complete j.ring j.pos resOk (if j.mode = modeCmac then 0 else out.length)

/-! ### Zeroisation (R488, R497, R498) -/

/-- Zeroise the slots a test picks: jobs under their keys and changes of them in progress end with ZEROISED (R488, R498). -/
def State.zeroiseSlots (s : State) (p : Nat → Bool) : State :=
  let s := ((s.listed F.HX_CIPH_SLOT_LOADED).filter p).foldl State.eraseSlot (s.withLed { s.led with zeroed := true })
  let jobs := s.ciph.jobs.filter (fun j => p j.slot)
  let changes := s.ciph.changes.filter (fun c => p c.slot)
  let s := (s.withCiph { s.ciph with changes := s.ciph.changes.filter (fun c => !p c.slot) })
  let s := jobs.foldl (fun s j => s.failJob j resZeroised) s
  changes.foldl (fun s c => s.completeLive c.ring c.pos resZeroised 0) s

/-- An alarm zeroises every key slot and every MAC key (R498). -/
def State.alarm (s : State) (cause : Nat) : State :=
  let s := (s.zeroiseSlots (fun _ => true)).zeroMacsec
  let s := ((s.setFld F.HX_CIPH_ZSTATUS_CAUSE 0 cause).bumpSat F.HX_CIPH_ZSTATUS_COUNT).setFld F.HX_CIPH_ZTS_ZTS 0 s.now
  (((s.bump F.HX_CIPH_STAT_COUNT 7).condition (0x6A20 + cause) 0 [])).raise 797 [.w cause]

/-- CAUSE codes of the alarms (R497). -/
def alarmCode : AlarmCause → Nat
  | .voltageGlitch => 1
  | .clockGlitch => 2
  | .temperature => 3
  | .faultInjection => 5

def execAlarmZeroise (cause : AlarmCause) (s : State) : Host.Outcome State Fault Refusal := .next (s.when s.powered (·.alarm (alarmCode cause)))

/-- A countermeasure detects a fault (R496): the fourth within any 1 s is an alarm. -/
def State.faultDetected (s : State) : State :=
  let recent := s.ciph.faults.filter (fun t => decide (s.now < t + 1000000000)) ++ [s.now]
  let s := (s.withCiph { s.ciph with faults := recent })
  let s := ((s.bump F.HX_CIPH_STAT_COUNT 3).violate 0x6A10 0 0 []).limited 798 0 1 (fun n => [.w n])
  if 4 ≤ recent.length then (s.withCiph { s.ciph with faults := [] }).alarm 5 else s

/-- CIPH_JOB_DONE: the job in a lane finishes, or a duplicated round differed (`fault`). -/
def State.ciphJobDone (s : State) (lane : Nat) (fault : Bool) : State :=
  match s.ciph.jobs.find? (·.lane == lane) with
  | none => s
  | some j => if fault then (s.failJob j resCiphFault).faultDetected else s.passJob j

def execCiphJobDone (lane : Fin 16) (fault : Bool) (s : State) : Host.Outcome State Fault Refusal := .next (s.ciphJobDone lane.val fault)

/-! ### Inline storage encryption (R500) -/

/-- The slot bound to a namespace serves it: loaded, XTS, ENC and DEC. -/
def State.nsKeyReady (s : State) (h : Nat) : Bool :=
  let slot := s.fld F.HX_CIPH_NS_SLOT h
  !s.flag F.HX_CIPH_NS_EN h || (s.loaded slot && s.fld F.HX_CIPH_SLOT_MODE slot == modeXts && s.flag F.HX_CIPH_SLOT_ENC slot && s.flag F.HX_CIPH_SLOT_DEC slot)

/-- Data of a namespace through its key, LBA by LBA from `lba` on. -/
def State.nsCrypt (s : State) (h : Nat) (decrypt : Bool) (lbaSize lba n : Nat) (bs : List Byte) : List Byte :=
  if !s.flag F.HX_CIPH_NS_EN h then bs
  else match n with
    | 0 => []
    | n + 1 =>
      (Config.cipher modeXts decrypt (s.keyOf (s.fld F.HX_CIPH_NS_SLOT h)) ((if lbaSize = 4096 then [1] else [0]) ++ leBytes 16 lba) [] (bs.take lbaSize)).1
        ++ s.nsCrypt h decrypt lbaSize (lba + 1) n (bs.drop lbaSize)

end Sys2Proof.Machine
end

