-- ==== Sys2Proof/Machine/Domains.lean ====
section
/-! DEFINITION. Power domains: their conditions, wakes and forced-off state (R58, R59, R525, R527). -/

namespace Sys2Proof.Machine

/-! ### Account settings in force (R542, R544, R559) -/

/-- A setting of the ledger as it stood at the last planner run. -/
def State.oper (s : State) (f : Fld) (i : Nat) : Nat := Nat.xor (Map.get 0 i (Map.get [] f.id s.led.oper)) (f.rst i)

/-- Throttle level on a class of a logical port (R544, R545). -/
def State.throttle (s : State) (lp cls : Nat) : Nat :=
  let a := s.oper F.AO_LED_LP_EA_EA lp
  if cls < 12 ∧ bit (s.oper F.AO_LED_EA_BE_CLASSES a) cls then s.fld F.AO_LED_EA_THR a else 0

/-! ### Output pins (R520, R664, R669) -/

def pinAlarmN : Nat := 0
def pinPwrGood : Nat := 1
def pinPpsOut : Nat := 2
def pinXspiRstN : Nat := 3
def pinSmbAlertN : Nat := 4
/-- Ss_PERST_Nn is pin 8 + 4 s + n. -/
def pinDrivePerst (slot : Nat) : Nat := 8 + slot
/-- GPIOn. -/
def pinGpio (n : Nat) : Nat := 16 + n

/-- The causes that assert ALARM_N. -/
def State.alarmCause (s : State) : Bool :=
  s.mode == .rideThrough || s.mode == .vault || s.flag F.AO_SUP_STATUS_OV || s.flag F.AO_SUP_STATUS_BACKSTOP
    || (s.flag F.AO_SUP_STATUS_BELOW_VHOLD && (s.mode == .standby || s.mode == .safetyNet || s.mode == .halt))
    || s.flag F.AO_PKG_THERM_WARNING

/-- Drive ALARM_N and PWR_GOOD as the state asks; SMB_ALERT_N follows ALARM_N. -/
def State.pins (s : State) : State :=
  let a := s.alarmCause
  let s := if s.flag F.AO_SUP_STATUS_ALARM = a then s else
    let s := ((s.setFlag F.AO_SUP_STATUS_ALARM 0 a).emit (.pin pinAlarmN (b2n (!a)))).emit (.pin pinSmbAlertN (b2n (!a)))
    (s.withPkg { s.pkg with alert := a })
  let g := s.mode == .run
  if s.pkg.good = g then s else ((s.emit (.pin pinPwrGood (b2n g))).withPkg { s.pkg with good := g })

/-! ### Clock ceilings (R511, R544, R614) -/

/-- The clock ceiling of a region, or of cluster `u - 16`, in 1/512 of its clock in R42: CEIL, halved in CX and HX by the backstop, and for a cluster lowered by the throttle level of its record's account. -/
def State.clockOf (s : State) (u : Nat) : Nat :=
  let r := if u < 16 then u else 7
  let fi := clusterFi (u - 16)
  let thr := if 16 ≤ u ∧ s.committed fi then s.fld F.AO_LED_EA_THR (s.fld F.HX_FN_REC_EA fi) else 0
  s.fld F.AO_TR_REGION_CEIL r * (16 - thr) * (if (r = 6 ∨ r = 7) ∧ s.flag F.AO_SUP_STATUS_BACKSTOP then 1 else 2)

/-- Tell the clock ceilings that have changed. -/
def State.showClocks (s : State) : State :=
  ([0, 1, 2, 3, 4, 5, 6, 8] ++ (List.range 8).map (· + 16)).foldl (fun (s : State) u =>
    let n := s.clockOf u
    if Map.get 0 u s.led.clocks = 512 - n then s
    else (s.withLed { s.led with clocks := Map.set 0 u (512 - n) s.led.clocks }).emit (.clock u n)) s

/-! ### Locked writes of registers that have a command of their own (R685) -/

/-- Count a write that reaches a locked field. -/
def State.lockCheck (s : State) (who : Party) (addr : Nat) (f : Fld) (i : Nat := 0) : State :=
  if s.lockHit f i then s.lockViolation who addr else s

end Sys2Proof.Machine
end

