-- ==== Sys2Proof/Machine/Tables.lean ====
section
/-! DEFINITION. Forwarding tables, the table engine, learning and ageing (R196 to R220). -/

namespace Sys2Proof.Machine

/-! ### Kinds, widths and pools (R196) -/

/-- Key width K in bits of a kind and KW code; none for a reserved code. -/
def keyWidth (kind kw : Nat) : Option Nat :=
  match kind with
  | 0 => if kw < 8 then some (32 * (kw + 1)) else none
  | 1 => if kw = 0 then some 12 else if kw = 1 then some 16 else none
  | 2 => if kw = 0 then some 32 else if kw = 1 then some 128 else none
  | _ => if kw < 3 then some (160 * 2 ^ kw) else none

/-- Cost of an entry in units of its pool. -/
def entryCost (kind kw : Nat) : Nat :=
  match kind with
  | 0 => if kw < 4 then 1 else 2
  | 1 => 1
  | 2 => kw % 2 + 1
  | _ => 2 ^ kw

/-- Pool of a kind, in units per region. -/
def poolUnits (kind : Nat) : Nat :=
  match kind with
  | 0 => 1048576
  | 1 => 262144
  | 2 => 524288
  | _ => 65536

/-- SIZE as a table of this kind uses it. -/
def sizeOf' (kind kw size : Nat) : Nat := if kind = 1 then (if kw = 0 then 4096 else 65536) else size

/-- SIZE is allowed for the kind. -/
def sizeAllowed (kind size : Nat) : Bool :=
  match kind with
  | 0 => decide (4096 ≤ size) && size % 4096 == 0
  | 1 => true
  | _ => decide (1 ≤ size)

def State.tblEn (s : State) (t : Nat) : Bool := s.flag F.FX_TBE_TBL_CFG_EN t
def State.tblKind (s : State) (t : Nat) : Nat := s.fld F.FX_TBE_TBL_CFG_KIND t
def State.tblLocal (s : State) (t : Nat) : Bool := s.flag F.FX_TBE_TBL_CFG_SCOPE t
def State.tblK (s : State) (t : Nat) : Nat := (keyWidth (s.tblKind t) (s.fld F.FX_TBE_TBL_CFG_KW t)).getD 0
def State.tblSize (s : State) (t : Nat) : Nat := sizeOf' (s.tblKind t) (s.fld F.FX_TBE_TBL_CFG_KW t) (s.fld F.FX_TBE_TBL_CFG_SIZE t)

/-- Units of its pool an enabled table takes. -/
def State.tblUnits (s : State) (t : Nat) : Nat :=
  if s.tblEn t then s.tblSize t * entryCost (s.tblKind t) (s.fld F.FX_TBE_TBL_CFG_KW t) else 0

/-- Units of a kind's pool that the other tables take. -/
def State.poolUsed (s : State) (kind t : Nat) : Nat :=
  (List.range 64).foldl (fun a u => if u ≠ t ∧ s.tblKind u = kind then a + s.tblUnits u else a) 0

/-! ### Entries -/

def State.entries (s : State) (t : Nat) : List TEntry := Map.get [] t s.tbl.tabs

/-- A commit to a local table is written to its shadow as well (R218). -/
def State.spill (s : State) (t : Nat) : State :=
  if s.tblLocal t then s.withTbl { s.tbl with shadow := Map.set [] t (s.entries t) s.tbl.shadow } else s

/-- Replace a table's entries; ENTRIES counts them (R219). -/
def State.setEntries (s : State) (t : Nat) (es : List TEntry) : State :=
  ((s.withTbl { s.tbl with tabs := Map.set [] t es s.tbl.tabs }).spill t).setFld F.FX_TBE_TBL_STAT_COUNT (8 * t) es.length

/-- The entry belongs to the replica of region `r`. -/
def TEntry.inReplica (e : TEntry) (r : Nat) : Bool := e.region == 0 || e.region == r

/-- Key bits that a route of length `plen` compares in a key of `k` bits. -/
def topBits (k plen key : Nat) : Nat := key / 2 ^ (k - plen)

/-- The longer route of two, or the lower index of two rules. -/
def better (kind : Nat) (a b : TEntry) : TEntry :=
  if kind = 2 then (if a.plen < b.plen then b else a) else (if b.index < a.index then b else a)

/-- The entry a lookup of a table in region `r` finds (R116, R198). -/
def State.findEntry (s : State) (t r key : Nat) : Option TEntry :=
  let kind := s.tblKind t
  let k := s.tblK t
  let key := key % 2 ^ k
  let hit (e : TEntry) : Bool := e.inReplica r && (match kind with
    | 0 => e.key == key
    | 1 => e.index == key
    | 2 => topBits k e.plen e.key == topBits k e.plen key
    | _ => Nat.land e.key e.mask == Nat.land key e.mask)
  match (s.entries t).filter hit with
  | [] => none
  | e :: es => some (es.foldl (better kind) e)

/-- Write an entry back in place. -/
def State.putEntry (s : State) (t : Nat) (e : TEntry) : State :=
  (s.withTbl { s.tbl with tabs := Map.set [] t ((s.entries t).map (fun x => if x.region = e.region ∧ x.index = e.index then e else x)) s.tbl.tabs })

/-- Commit a changed entry in its place (R204). -/
def State.commitEntry (s : State) (t : Nat) (e : TEntry) : State := (s.putEntry t e).spill t

/-- Set the hit bit of an entry in the replica of region `r` (R152). -/
def State.hitEntry (s : State) (t r : Nat) (e : TEntry) : State := s.putEntry t { e with hits := Nat.lor e.hits (2 ^ (r - 1)) }

/-! ### Placement (R199) -/

/-- The four candidate buckets of a key. -/
def State.buckets (s : State) (t key : Nat) : List Nat :=
  (List.range 4).map (fun h => Config.bucketHash h [t, key, s.tblSize t / 8] % (s.tblSize t / 8))

/-- Entries of a replica in a bucket. -/
def State.occupancy (s : State) (t r b : Nat) : Nat := ((s.entries t).filter (fun e => e.inReplica r && e.index / 8 == b)).length

/-- The least occupied of the candidates, the first of equals; none where all are full. -/
def State.bucketFor (s : State) (t r key : Nat) : Option Nat :=
  match (s.buckets t key).filter (fun b => decide (s.occupancy t r b < 8)) with
  | [] => none
  | b :: bs => some (bs.foldl (fun x y => if s.occupancy t r y < s.occupancy t r x then y else x) b)

/-- The lowest index from `i` on that no entry of the replica takes. -/
def freeIndex (fuel i r : Nat) (es : List TEntry) : Nat :=
  match fuel with
  | 0 => i
  | fuel + 1 => if es.any (fun e => e.inReplica r && e.index == i) then freeIndex fuel (i + 1) r es else i

/-- Where a new entry goes in a replica; none for want of room (R199, R206). -/
def State.placeFor (s : State) (t r key index : Nat) : Option Nat :=
  match s.tblKind t with
  | 0 => (s.bucketFor t r key).map (fun b => freeIndex 8 (8 * b) r (s.entries t))
  | 2 => if s.tblSize t ≤ ((s.entries t).filter (·.inReplica r)).length then none
         else some (freeIndex (s.entries t).length 0 r (s.entries t))
  | _ => some index

/-- A LEARN of this key in region `r` would find room (R207). -/
def State.learnRoom (s : State) (t r key : Nat) : Bool := (s.bucketFor t r (key % 2 ^ s.tblK t)).isSome

/-! ### Learning messages (R210, R215, R289) -/

/-- The header of a stitch frame other than DATA, in front of its payload (R276). -/
def State.stitchFrame (s : State) (k type : Nat) (payload : List Byte) : List Byte :=
  beBytes 1 (0x10 + type) ++ beBytes 1 (s.fld F.AO_DEVICE_ID_DEVID * 64 + s.fld F.PD_STC_LINK_NB_DEVID k * 16) ++ List.replicate 6 0 ++ beBytes 8 s.now ++ payload

/-- Words 1 to 15 of a learning message. -/
def LearnMsg.words (m : LearnMsg) : List Nat :=
  [m.seq, m.stamp % 2 ^ 32, m.stamp / 2 ^ 32 % 2 ^ 32, m.data, m.old, m.kw, 0] ++ (List.range 8).map (fun i => bits m.key (32 * i) 32)

/-- Deliver a message to LEARN_RING. -/
def State.learnRing (s : State) (m : LearnMsg) : State :=
  if s.flag F.FX_TBE_TBL_CFG_LRING_EN m.table then
    s.stage (s.fld F.FX_TBE_TBL_CFG_LEARN_RING m.table) (0x21 + 0x100 * m.op) (m.origin * 2 ^ 14 + m.region * 2 ^ 11 + m.table) m.words
  else s

/-- Link states of R292. -/
def stcDown : Nat := 0
def stcHello : Nat := 1
def stcJoined : Nat := 2
def stcDup : Nat := 3

/-- DEVID of the module (R2). -/
def State.devid (s : State) : Nat := s.fld F.AO_DEVICE_ID_DEVID

/-- The lowest-numbered JOINED link to a neighbour. -/
def State.linkTo (s : State) (d : Nat) : Option Nat :=
  (List.range 8).find? (fun k => s.fld F.PD_STC_LINK_STATE k == stcJoined && s.fld F.PD_STC_LINK_NB_DEVID k == d)

/-- The payload of a LEARN frame, every field in network byte order (R277). -/
def LearnMsg.bytes (m : LearnMsg) : List Byte :=
  beBytes 4 (m.op * 2 ^ 24 + 0x210000 + m.origin * 2 ^ 14 + m.region * 2 ^ 11 + m.table) ++ beBytes 4 m.seq ++ beBytes 8 m.stamp
    ++ beBytes 4 m.data ++ beBytes 4 m.old ++ beBytes 4 m.kw ++ beBytes 4 0 ++ (List.range 8).flatMap (fun i => beBytes 4 (bits m.key (32 * i) 32))

/-- Send a LEARN frame to every JOINED neighbour (R289). -/
def State.learnStitch (s : State) (m : LearnMsg) : State :=
  ((List.range 4).filter (· != s.devid)).foldl (fun s d =>
    match s.linkTo d with
    | some k => s.emit (.stitch k (s.stitchFrame k 2 m.bytes))
    | none => s) s

/-- Originate a learning message of a replicated exact-match table (R200, R215). -/
def State.learnMsg (s : State) (op t region key data old : Nat) : State :=
  if s.tblLocal t ∨ s.tblKind t ≠ 0 then s
  else
    let m : LearnMsg := { op := op, origin := s.devid, region := region, table := t, seq := s.tbl.msgSeq, stamp := s.now, data := data,
                          old := old, kw := s.fld F.FX_TBE_TBL_CFG_KW t, key := key }
    let s := (s.withTbl { s.tbl with msgSeq := (s.tbl.msgSeq + 1) % 2 ^ 32 }).learnRing m
    if s.flag F.FX_TBE_TBL_CFG_STITCH_SHARE t then s.learnStitch m else s

/-- Operations of R215. -/
def msgInsert : Nat := 1
def msgMove : Nat := 2
def msgAged : Nat := 3
def msgRemove : Nat := 4
def msgFull : Nat := 5

/-! ### Commits (R204) -/

/-- UPD_TS of a commit now (R205). -/
def State.stampNow (s : State) : Nat := bits s.now 16 32

/-- Count an insertion of a LEARN that found no room (R207, R212). -/
def State.noRoom (s : State) (t : Nat) : State :=
  (s.bump F.FX_TBE_TBL_STAT_COUNT (8 * t + 2)).limited 652 t 1 (fun n => [.w t, .w n])

/-- Add entries, one per region slot. -/
def State.addEntries (s : State) (t : Nat) (es : List TEntry) : State := s.setEntries t (s.entries t ++ es)

/-- Remove the entries a test picks. -/
def State.dropEntries (s : State) (t : Nat) (p : TEntry → Bool) : State := s.setEntries t ((s.entries t).filter (fun e => !p e))

/-! ### Commands (R205, R206) -/

/-- Result codes of R206. -/
def tblDone : Nat := 0
def tblBusy : Nat := 1
def tblNoTable : Nat := 2
def tblBadField : Nat := 3
def tblExists : Nat := 4
def tblNotFound : Nat := 5
def tblNoRoom : Nat := 6
def tblRegionDown : Nat := 7
def tblDmaError : Nat := 8

/-- A number from 32-bit words, the first least significant. -/
def ofWords : List Nat → Nat
  | [] => 0
  | w :: ws => w % 2 ^ 32 + 2 ^ 32 * ofWords ws

/-- `n` 32-bit words of a number. -/
def toWords (n v : Nat) : List Nat :=
  match n with
  | 0 => []
  | n + 1 => v % 2 ^ 32 :: toWords n (v / 2 ^ 32)

/-- Key, mask and prefix length of an entry image. -/
def imageKey (ws : List Nat) : Nat := ofWords (ws.take 20)
def imageMask (ws : List Nat) : Nat := ofWords ((ws.drop 20).take 20)
def imagePlen (ws : List Nat) : Nat := bits (ws.getD 20 0) 0 8

/-- The image of an entry, words 0 to 47 (R205). -/
def entryImage (kind : Nat) (e : TEntry) : List Nat :=
  toWords 20 e.key ++ (if kind = 3 then toWords 20 e.mask else if kind = 2 then e.plen :: List.replicate 19 0 else List.replicate 20 0)
    ++ [e.data, e.action / 2 ^ 32, e.action % 2 ^ 32,
        e.origin * 2 ^ 28 + (if e.hits = 0 then 0 else 2 ^ 27) + b2n e.aged1 * 2 ^ 26 + b2n e.stat * 2 ^ 25 + b2n e.nbValid * 2 ^ 24 + e.nb,
        e.upd, 0, 0, 0]

/-- The region slots a command applies to: 0 for a replicated table, else the regions named. -/
def State.scopeOf (s : State) (t regions : Nat) : List Nat :=
  if s.tblLocal t then ((List.range 4).filter (fun i => bit regions i)).map (· + 1) else [0]

/-- The entry a command addresses in a region slot. -/
def State.addressed (s : State) (t r index : Nat) (ws : List Nat) : Option TEntry :=
  (s.entries t).find? (fun e => e.region == r && (match s.tblKind t with
    | 0 => e.key == imageKey ws
    | 2 => e.plen == imagePlen ws && topBits (s.tblK t) e.plen e.key == topBits (s.tblK t) e.plen (imageKey ws)
    | _ => e.index == index))

/-- The entry an image describes, with what its kind stores (R197). -/
def State.imageEntry (s : State) (t r index : Nat) (ws : List Nat) : TEntry :=
  let kind := s.tblKind t
  let w := ws.getD 43 0
  { region := r, index := index, key := imageKey ws, mask := if kind = 3 then imageMask ws else 0,
    plen := if kind = 2 then imagePlen ws else 0, data := ws.getD 40 0,
    action := if kind = 2 then 0 else ws.getD 41 0 * 2 ^ 32 + ws.getD 42 0,
    nb := w % 256, nbValid := bit w 24, stat := bit w 25, origin := s.devid, upd := s.stampNow }

/-- A command is malformed (R206). -/
def State.badCommand (s : State) (t op regions index : Nat) (ws : List Nat) : Bool :=
  let kind := s.tblKind t
  let k := s.tblK t
  op == 0 || decide (6 < op) || (s.tblLocal t && regions == 0)
    || decide (2 ^ k ≤ imageKey ws)
    || (op != 6 && (((kind == 1 || kind == 3) && decide (s.tblSize t ≤ index)) || (kind == 2 && decide (k < imagePlen ws))))

/-- Insert an image into every region slot, or into none. -/
def State.tblInsert (s : State) (t index : Nat) (rs ws : List Nat) : State × Nat :=
  match rs.mapM (fun r => s.placeFor t r (imageKey ws) index) with
  | none => (s, tblNoRoom)
  | some places =>
    let s := s.addEntries t ((rs.zip places).map (fun x => s.imageEntry t x.1 x.2 ws))
    ((s.bump F.FX_TBE_TBL_STAT_COUNT (8 * t + 1)).learnMsg msgInsert t 0 (imageKey ws) (ws.getD 40 0) 0, tblDone)

/-- Overwrite the entries an image addresses in every region slot. -/
def State.tblReplace (s : State) (t index : Nat) (rs ws : List Nat) : State × Nat :=
  let olds := rs.filterMap (fun r => s.addressed t r index ws)
  let old := (olds.head?.map (·.data)).getD 0
  let s := olds.foldl (fun s e => s.commitEntry t (s.imageEntry t e.region e.index ws)) s
  (s.learnMsg msgMove t 0 (imageKey ws) (ws.getD 40 0) old, tblDone)

/-- The entries a FLUSH still has to remove (R206). -/
def State.flushHits (s : State) (t regions : Nat) (ws : List Nat) : List TEntry :=
  let mask := ws.getD 20 0
  (s.entries t).filter (fun e => s.tblKind t == 0 && (s.scopeOf t regions).contains e.region
    && Nat.land e.data mask == Nat.land (ws.getD 40 0) mask && (!e.stat || bit (ws.getD 43 0) 25))

/-- A FLUSH goes on after the commit of one removal (R206). -/
def State.flushMore (s : State) (t op regions : Nat) (ws : List Nat) : Bool := op == 6 && s.tblEn t && decide (1 < (s.flushHits t regions ws).length)

/-- Run one command of the table engine: the new state, the result, and the image that READ writes (R206). A command that holds in only some of the regions named changes none of them (log entry 11).  FLUSH makes one removal. -/
def State.tblCommand (s : State) (t op regions index : Nat) (ws : List Nat) : State × Nat × Option (List Nat) :=
  let rs := s.scopeOf t regions
  let found := rs.filter (fun r => (s.addressed t r index ws).isSome)
  let out (x : State × Nat) : State × Nat × Option (List Nat) := (x.1, x.2, none)
  if !s.tblEn t then (s, tblNoTable, none)
  else if s.badCommand t op regions index ws then (s, tblBadField, none)
  else if s.tblLocal t ∧ rs.any s.fenced then (s, tblRegionDown, none)
  else match op with
    | 1 => if found.isEmpty then out (s.tblInsert t index rs ws) else (s, tblExists, none)
    | 2 => if found.length = rs.length then out (s.tblReplace t index rs ws) else (s, tblNotFound, none)
    | 3 => if found.isEmpty then out (s.tblInsert t index rs ws)
           else
             let absent := rs.filter (fun r => (s.addressed t r index ws).isNone)
             if absent.isEmpty then out (s.tblReplace t index rs ws)
             else match s.tblInsert t index absent ws with
               | (s', 0) => out (s'.tblReplace t index found ws)
               | (s', c) => (s', c, none)
    | 4 => if found.length = rs.length then
             let old := ((s.addressed t (rs.headD 0) index ws).map (·.data)).getD 0
             let hit (e : TEntry) : Bool := rs.contains e.region && s.addressed t e.region index ws == some e
             out ((s.dropEntries t hit).learnMsg msgRemove t 0 (imageKey ws) old 0, tblDone)
           else (s, tblNotFound, none)
    | 5 => match s.addressed t (rs.headD 0) index ws with
           | some e => (s, tblDone, some (entryImage (s.tblKind t) e))
           | none => (s, tblNotFound, none)
    | _ =>
      match s.flushHits t regions ws with
      | [] => (s, tblDone, none)
      | e :: _ => ((s.dropEntries t (fun x => x.region == e.region && x.index == e.index)).learnMsg msgRemove t 0 e.key e.data 0, tblDone, none)

/-! ### Register channels (R208) -/

/-- Staging words of a channel. -/
def State.chanWords (s : State) (ch : Nat) : List Nat := (List.range 48).map (fun i => s.fld F.FX_TBE_STAGE_WORD (48 * ch + i))

/-- A write of FX_TBE_CMD: the channel takes the command, or answers BUSY. -/
def State.tblTake (s : State) (ch v : Nat) : State :=
  if s.flag F.FX_TBE_RESULT_BUSY ch then s.setFld F.FX_TBE_RESULT_CODE ch tblBusy
  else (s.withTbl { s.tbl with chan := Map.set none ch (some (v, s.fld F.FX_TBE_CMD_INDEX_INDEX ch)) s.tbl.chan }).setFlag
    F.FX_TBE_RESULT_BUSY ch true

/-- The word of FX_TBE_CMD. -/
def tblWord (op regions t : Nat) : Nat := op * 2 ^ 28 + regions * 2 ^ 24 + t

def execTableInsert (ch : Fin 4) (regions : Fin 16) (table : Fin 64) (s : State) : Host.Outcome State Fault Refusal :=
  .next (s.tblTake ch.val (tblWord 1 regions.val table.val))
def execTableReplace (ch : Fin 4) (regions : Fin 16) (table : Fin 64) (s : State) : Host.Outcome State Fault Refusal :=
  .next (s.tblTake ch.val (tblWord 2 regions.val table.val))
def execTableWrite (ch : Fin 4) (regions : Fin 16) (table : Fin 64) (s : State) : Host.Outcome State Fault Refusal :=
  .next (s.tblTake ch.val (tblWord 3 regions.val table.val))
def execTableDelete (ch : Fin 4) (regions : Fin 16) (table : Fin 64) (s : State) : Host.Outcome State Fault Refusal :=
  .next (s.tblTake ch.val (tblWord 4 regions.val table.val))
def execTableRead (ch : Fin 4) (regions : Fin 16) (table : Fin 64) (s : State) : Host.Outcome State Fault Refusal :=
  .next (s.tblTake ch.val (tblWord 5 regions.val table.val))
def execTableFlush (ch : Fin 4) (regions : Fin 16) (table : Fin 64) (s : State) : Host.Outcome State Fault Refusal :=
  .next (s.tblTake ch.val (tblWord 6 regions.val table.val))

/-- Write an image into a channel's staging words. -/
def State.stageImage (s : State) (ch i : Nat) : List Nat → State
  | [] => s
  | w :: ws => (s.setFld F.FX_TBE_STAGE_WORD (48 * ch + i) w).stageImage ch (i + 1) ws

/-- The engine commits the command a channel holds. -/
def State.chanCommit (s : State) (half ch : Nat) : State :=
  match Map.get none ch s.tbl.chan with
  | none => s
  | some (v, index) =>
    if bits v 0 6 % 2 ≠ half then s
    else
      let r := s.tblCommand (bits v 0 6) (bits v 28 4) (bits v 24 4) index (s.chanWords ch)
      if s.flushMore (bits v 0 6) (bits v 28 4) (bits v 24 4) (s.chanWords ch) then r.1 else
      let s := match r.2.2 with | some ws => r.1.stageImage ch 0 ws | none => r.1
      let s := (s.withTbl { s.tbl with chan := Map.set none ch none s.tbl.chan })
      ((s.setFlag F.FX_TBE_RESULT_BUSY ch false).setFld F.FX_TBE_RESULT_CODE ch r.2.1).bump F.FX_TBE_RESULT_SEQ ch

/-! ### Learned insertions (R210 to R212) -/

/-- Post the insertion of a LEARN that missed in region `r` and found room (R210, R211). -/
def State.postLearn (s : State) (t r key data : Nat) : State :=
  let key := key % 2 ^ s.tblK t
  let recent := (Map.get [] r s.tbl.recent).filter (fun l => decide (s.now ≤ l.time + 2000))
  let q := Map.get [] r s.tbl.learnq
  if recent.any (fun l => l.table == t && l.key == key && decide (l.time < s.now)) then
    s.bump F.FX_TBE_TBL_STAT2_COUNT (3 * t + 1)
  else if 4096 ≤ q.length then
    (s.bump F.FX_TBE_TBL_STAT_COUNT (8 * t + 3)).limited (128 * r + 20) 0 1 (fun _ => [])
  else
    let l : Learn := { table := t, key := key, data := data, time := s.now }
    (s.withTbl { s.tbl with learnq := Map.set [] r (q ++ [l]) s.tbl.learnq, recent := Map.set [] r (recent ++ [l]) s.tbl.recent })

/-- Commit an insertion posted in region `r` (R212).  Where the table is no longer an enabled exact-match table, it is dropped. -/
def State.learnInsert (s : State) (r : Nat) (l : Learn) : State :=
  let t := l.table
  let slot := if s.tblLocal t then r else 0
  if !s.tblEn t ∨ s.tblKind t ≠ 0 then s
  else match (s.entries t).find? (fun e => e.region == slot && e.key == l.key) with
    | some e =>
      if e.stat then s.bump F.FX_TBE_TBL_STAT2_COUNT (3 * t + 2)
      else if e.data = l.data then
        (s.commitEntry t { e with hits := 0, aged1 := false }).bump F.FX_TBE_TBL_STAT_COUNT (8 * t + 6)
      else if !s.flag F.FX_TBE_TBL_CFG_ON_EXIST t then s.bump F.FX_TBE_TBL_STAT_COUNT (8 * t + 6)
      else
        ((s.commitEntry t { e with data := l.data, origin := s.devid, upd := s.stampNow, hits := 0, aged1 := false }).bump
          F.FX_TBE_TBL_STAT_COUNT (8 * t + 5)).learnMsg msgMove t r l.key l.data e.data
    | none =>
      match s.placeFor t slot l.key 0 with
      | none =>
        let s := (s.noRoom t).bump F.FX_TBE_TBL_STAT2_COUNT (3 * t)
        s.learnMsg msgFull t r l.key l.data 0
      | some i =>
        let s := s.addEntries t [{ region := slot, index := i, key := l.key, data := l.data, origin := s.devid, upd := s.stampNow }]
        (s.bump F.FX_TBE_TBL_STAT_COUNT (8 * t + 1)).learnMsg msgInsert t r l.key l.data 0

/-- The first insertion of a queue that a half serves, and the rest. -/
def takeLearn (half : Nat) : List Learn → Option (Learn × List Learn)
  | [] => none
  | l :: ls => if l.table % 2 = half then some (l, ls) else (takeLearn half ls).map (fun x => (x.1, l :: x.2))

/-- The engine commits the oldest insertion of a region's learn queue. -/
def State.learnCommit (s : State) (half r : Nat) : State :=
  match takeLearn half (Map.get [] r s.tbl.learnq) with
  | none => s
  | some (l, rest) => (s.withTbl { s.tbl with learnq := Map.set [] r rest s.tbl.learnq }).learnInsert r l

/-! ### The arbiter of an engine half (R203) -/

/-- Places of the sources in a half's rotation: channels 0 to 3, table-update rings from 4, the learn queues of the regions from 20, the sweeper, the stitch receivers. -/
def srcRing : Nat := 4
def srcLearn : Nat := 20
def srcSweep : Nat := 24
def srcStitch : Nat := 25

/-- The source at a place was granted: the pointer moves to the one after it. -/
def State.granted (s : State) (half k : Nat) : State := s.withTbl { s.tbl with turn := Map.set 0 half ((k + 1) % 26) s.tbl.turn }

/-- The channel or learn queue at a place holds an update of a table that the half serves. -/
def State.srcWaits (s : State) (half k : Nat) : Bool :=
  if k < srcRing then (match Map.get none k s.tbl.chan with | some (v, _) => bits v 0 6 % 2 == half | none => false)
  else if srcLearn ≤ k ∧ k < srcSweep then (takeLearn half (Map.get [] (k - srcLearn + 1) s.tbl.learnq)).isSome
  else false

/-- ENGINE_COMMIT (R203, R204): an engine half grants the next channel or learn queue in its rotation that has an update.  Rings, the sweeper and the stitch receivers are granted by the commands that bring their updates, which move the pointer too (log entry 64). -/
def State.engineCommit (s : State) (half : Nat) : State :=
  s.when (!s.fenced 5) (fun s =>
    match ((List.range 26).map (fun i => (Map.get 0 half s.tbl.turn + i) % 26)).find? (s.srcWaits half) with
    | none => s
    | some k => if k < srcRing then (s.granted half k).chanCommit half k else (s.granted half k).learnCommit half (k - srcLearn + 1))

def execEngineCommit (half : Fin 2) (_ : Unit) (s : State) : Host.Outcome State Fault Refusal := .next (s.engineCommit half.val)

/-! ### Table-update rings (R209) -/

/-- The place of a table-update ring among the 16 that the engine serves: its own, or the first that no live ring holds (R203). -/
def State.tblPlace (s : State) (r : Nat) : Option Nat :=
  match (List.range 16).find? (fun i => Map.get 0 i s.tbl.rings == r + 1) with
  | some i => some i
  | none => (List.range 16).find? (fun i => let x := Map.get 0 i s.tbl.rings; x == 0 || !s.ringLive (x - 1))

/-- A TABLE_UPDATE descriptor is malformed, or its ring is neither the manager's nor a cluster's (R209, R376). -/
def State.badUpdate (s : State) (r : Nat) (d : Desc) : Bool :=
  let w0 := leAt d.bytes 0 4
  let fi := s.ownerOf r
  !s.mayCarry r 0x30 || !(fi == s.mgr || decide (2056 ≤ fi)) || bits w0 6 2 != 0 || bits w0 24 7 != 0
    || bits (leAt d.bytes 4 4) 20 12 != 0 || leAt d.bytes 8 8 % 64 != 0 || !d.zero 20 56

/-- The end of a TABLE_UPDATE: words 0 to 45 for a READ, words 46 and 47, and the descriptor. -/
def State.updateEnd (s : State) (r : Nat) (d : Desc) (put : Bool) (code : Nat) (out : Option (List Nat)) : State :=
  let fi := s.ownerOf r
  let addr := leAt d.bytes 8 8
  let s := match out with | some ws => if put then s.dmaWrite fi addr (wordBytes (ws.take 46)) else s | none => s
  let s := if put then s.dmaWrite fi (addr + 184) (wordBytes [2 ^ 31 + code * 2 ^ 16, leAt d.bytes 16 4]) else s
  (s.finish r d.pos (if put then code else tblDmaError) 0 false).settle 64

/-- TABLE_UPDATE: the ring is granted; its image is read, the command committed, and words 46 and 47 (all words for READ) written back. `got` says whether the image could be read, `put` whether it could be written.  A FLUSH makes one removal at each grant. -/
def State.tableUpdate (s : State) (r : Nat) (got put : Bool) (image : List Byte) : State :=
  match if s.fenced 5 then none else s.tblPlace r with
  | none => s
  | some i => s.withDesc r (· == 0x30) (fun s d =>
    let s := s.withTbl { s.tbl with rings := Map.set 0 i (r + 1) s.tbl.rings }
    let w0 := leAt d.bytes 0 4
    let addr := leAt d.bytes 8 8
    let fi := s.ownerOf r
    let t := bits w0 0 6
    if s.badUpdate r d then s.complete r d.pos resBadDesc 0
    else if !(if fi < 2056 then got else s.coreGood addr 192) then s.updateEnd r d false tblDmaError none
    else
      let ws := bytesWords 48 (if fi < 2056 then image else s.memRead addr 192)
      let s := s.granted (t % 2) (srcRing + i)
      let x := s.tblCommand t (bits w0 12 4) (bits w0 8 4) (bits (leAt d.bytes 4 4) 0 20) ws
      if s.flushMore t (bits w0 12 4) (bits w0 8 4) ws then x.1 else x.1.updateEnd r d put x.2.1 x.2.2)

def execTableUpdate (ring : Fin 65536) (got : Bool) (image : List Byte) (s : State) (put : Bool := true) : Host.Outcome State Fault Refusal :=
  .next (s.tableUpdate ring.val got put image)

/-! ### Ageing (R213, R214) -/

/-- One visit of the sweeper to an entry. -/
def State.sweepEntry (s : State) (t : Nat) (e : TEntry) : State :=
  if e.stat ∨ e.origin ≠ s.devid then s
  else if e.hits ≠ 0 then s.commitEntry t { e with hits := 0, aged1 := false }
  else if !e.aged1 then s.commitEntry t { e with aged1 := true }
  else
    let s := s.dropEntries t (fun x => x.region == e.region && x.index == e.index)
    (s.bump F.FX_TBE_TBL_STAT_COUNT (8 * t + 4)).learnMsg msgAged t 0 e.key e.data 0

/-- The lowest place from `p` on that an entry of a table takes. -/
def State.nextEntry (s : State) (t p : Nat) : Option Nat :=
  (s.entries t).foldl (fun a e => if e.index < p then a else match a with | some b => some (min b e.index) | none => some e.index) none

/-- The sweep of a table that is under way, or the one that begins now: AGE_PERIOD after the one before, with AGE_EN and AGE_PERIOD as they stand then (R202, R213). -/
def State.sweepNow (s : State) (t : Nat) : Option Sweep :=
  let w := Map.get {} t s.tbl.sweeps
  if w.since ≠ 0 ∧ (s.nextEntry t w.pos).isSome then some w
  else if w.since ≠ 0 ∧ s.now + 1 < w.since + max w.period 10 * 1000000 then none
  else some { since := s.now + 1, ages := s.flag F.FX_TBE_TBL_CFG_AGE_EN t, period := s.fld F.FX_TBE_TBL_CFG_AGE_PERIOD t, pos := 0 }

/-- AGE_SWEEP: the sweeper visits the next entry of an exact-match table in index order (R213). -/
def State.ageSweep (s : State) (t : Nat) : State :=
  s.when (s.tblEn t && s.tblKind t == 0 && !s.fenced 5) (fun s =>
    match s.sweepNow t with
    | none => s
    | some w =>
      match if w.ages then s.nextEntry t w.pos else none with
      | none => s.withTbl { s.tbl with sweeps := Map.set {} t { w with pos := s.tblSize t } s.tbl.sweeps }
      | some i =>
        let s := (s.withTbl { s.tbl with sweeps := Map.set {} t { w with pos := i + 1 } s.tbl.sweeps }).granted (t % 2) srcSweep
        ((s.entries t).filter (·.index == i)).foldl (fun s e => s.sweepEntry t e) s)

def execAgeSweep (table : Fin 64) (_ : Unit) (s : State) : Host.Outcome State Fault Refusal := .next (s.ageSweep table.val)

/-! ### Faults of entries (R217) -/

/-- A lookup of region `r` meets an uncorrectable error in an entry: it misses there until the rewrite. -/
def State.entryBad (s : State) (t r : Nat) (e : TEntry) : State :=
  (s.putEntry t { e with bad := Nat.lor e.bad (2 ^ (r - 1)) }).raise 653 [.w t, .w r, .w e.index]

/-- ENTRY_REWRITE: the engine rewrites the entry in the replica of a region. -/
def State.entryRewrite (s : State) (t r index : Nat) : State :=
  match (s.entries t).find? (fun e => e.inReplica r && e.index == index && bit e.bad (r - 1)) with
  | some e => s.putEntry t { e with bad := e.bad - 2 ^ (r - 1) }
  | none => s

def execEntryRewrite (table : Fin 64) (region : Fin 4) (index : Fin 1048576) (s : State) : Host.Outcome State Fault Refusal :=
  .next (s.entryRewrite table.val (region.val + 1) index.val)

/-! ### Messages from stitched neighbours (R216, R289, R290) -/

/-- Remove every entry of an origin from the shared tables (R290, R291). -/
def State.flushOrigin (s : State) (o : Nat) : State :=
  (List.range 64).foldl (fun s t =>
    if s.tblEn t ∧ s.tblKind t = 0 ∧ !s.tblLocal t ∧ s.flag F.FX_TBE_TBL_CFG_STITCH_SHARE t then
      let n := ((s.entries t).filter (·.origin == o)).length
      if n = 0 then s else (s.dropEntries t (·.origin == o)).bump F.FX_STC_STAT_COUNT 4 n
    else s) s

/-- A message that is not applied (R216). -/
def State.staleMsg (s : State) (t : Nat) : State :=
  (s.bump F.FX_TBE_TBL_STAT_COUNT (8 * t + 7)).limited 654 t 1 (fun n => [.w t, .w n])

/-- Apply a neighbour's message (R216). -/
def State.applyMsg (s : State) (m : LearnMsg) : State :=
  let t := m.table
  let stamp := bits m.stamp 16 32
  if !s.tblEn t ∨ s.tblKind t ≠ 0 ∨ s.tblLocal t ∨ !s.flag F.FX_TBE_TBL_CFG_STITCH_SHARE t then s.staleMsg t
  else if m.op = msgFull then s.learnRing m
  else if m.op = 0 ∨ msgFull < m.op then s.staleMsg t
  else
    let have' := (s.entries t).find? (fun e => e.key == m.key)
    if m.op = msgInsert ∨ m.op = msgMove then
      match have' with
      | some e =>
        if !e.stat ∧ (e.upd < stamp ∨ (e.upd = stamp ∧ e.origin < m.origin)) then
          s.commitEntry t { e with data := m.data, origin := m.origin, upd := stamp, hits := 0, aged1 := false, nb := 0, nbValid := false, action := 0 }
        else s.staleMsg t
      | none =>
        match s.placeFor t 0 m.key 0 with
        | some i => s.addEntries t [{ region := 0, index := i, key := m.key, data := m.data, origin := m.origin, upd := stamp }]
        | none => s.staleMsg t
    else
      match have' with
      | some e => if e.origin = m.origin ∧ e.upd ≤ stamp then s.dropEntries t (fun x => x.key == m.key) else s.staleMsg t
      | none => s.staleMsg t

end Sys2Proof.Machine
end

