-- ==== Sys2Proof/Machine/Parser.lean ====
section
/-! DEFINITION. The parser, the symmetric hash and the combination of rule actions (R96 to R127). -/

namespace Sys2Proof.Machine

/-- What a packet carries through a pipeline: containers, bindings, DIRTY marks and the one edit (R131, R135, R160). -/
structure Ctx where
  region : Nat                    -- 1 to 4
  egress : Bool
  cell : Nat := 0                 -- the cell it is in
  phv : Map Nat := []
  binds : List Bind := []
  dirty : List Nat := []
  edit : Option (Nat × Nat × List Byte) := none  -- offset, bytes removed, bytes put in
  mirs : List Nat := []           -- mirror sessions in force, for the copies
  deriving DecidableEq, Repr

/-- A container's value. -/
def Ctx.c (x : Ctx) (n : Nat) : Nat := Map.get 0 n x.phv

/-- Set a container without marking it. -/
def Ctx.set (x : Ctx) (n v : Nat) : Ctx := { x with phv := Map.set 0 n (v % 2 ^ 32) x.phv }

/-- Replace bits `lo` up, `w` of them, of a number. -/
def putBits (x lo w v : Nat) : Nat := x - bits x lo w * 2 ^ lo + v % 2 ^ w * 2 ^ lo

/-- Replace bits of a container. -/
def Ctx.setBits (x : Ctx) (n lo w v : Nat) : Ctx := x.set n (putBits (x.c n) lo w v)

/-- Count one in a parser counter of a region (R126). -/
def State.prsCount (s : State) (region j : Nat) (n : Nat := 1) : State := s.bump F.PA_PRS_CNT_COUNT (11 * (region - 1) + j) n

/-! ### The walk (R99 to R102) -/

/-- A banked parser field: the current graph, or the other one (R173, R175). -/
def State.gfld (s : State) (alt : Bool) (f : Fld) (i : Nat) : Nat :=
  if alt then Nat.xor (Map.get 0 i (Map.get [] f.id s.prog.alt)) (f.rst i) else s.fld f i

/-- The parse window: its length in bytes, and its bytes as one number. -/
structure Window where
  len : Nat
  num : Nat

def window (bs : List Byte) : Window := { len := min 256 bs.length, num := ofBe (bs.take 256) }

/-- The bits of a field, or the flag bit it raises: 4 PARSE_SHORT, 2 PARSE_TRUNC. -/
def Window.field (w : Window) (cursor off width : Nat) : Except Nat Nat :=
  let stop := 8 * cursor + off + width
  if 2048 < stop then .error 2 else if 8 * w.len < stop then .error 4 else .ok (bits w.num (8 * w.len - stop) width)

/-- A parser instance part way through a frame. -/
structure Walk where
  cursor : Nat := 0
  state : Nat
  visited : Nat := 0
  flags : Nat := 0                -- bits [3:1] of PARSE_STATUS
  hdr : Nat := 0
  phv : Map Nat := []
  binds : List Bind := []
  ended : Bool := false

/-- One extraction into a walk (R100, R135); `v` is its field. -/
def Walk.extract (k : Walk) (dst mode pos width v : Nat) : Walk :=
  let others := k.binds.filter (·.cont != dst)
  if mode = 0 then { k with phv := Map.set 0 dst v k.phv, binds := others ++ [{ cont := dst, pos := pos, width := width }] }
  else { k with phv := Map.set 0 dst (Nat.lor (Map.get 0 dst k.phv) v) k.phv, binds := others }

/-- Extractions 0 to 3 of a state, in order; one that names a container beyond C95 writes none (R98, log entry 62). -/
def State.extractions (s : State) (alt : Bool) (w : Window) (base : Nat) (k : Walk) : Walk :=
  (List.range 4).foldl (fun k i =>
    let j := 4 * base + i
    if s.gfld alt F.PA_PRS_ST_EXT_EN j = 0 then k
    else
      let off := s.gfld alt F.PA_PRS_ST_EXT_OFF j
      let width := s.gfld alt F.PA_PRS_ST_EXT_W j + 1
      match w.field k.cursor off width with
      | .ok v => if 95 < s.gfld alt F.PA_PRS_ST_EXT_DST j then k
        else k.extract (s.gfld alt F.PA_PRS_ST_EXT_DST j) (s.gfld alt F.PA_PRS_ST_EXT_MODE j) (8 * k.cursor + off) width v
      | .error fl => { k with flags := Nat.lor k.flags fl }) k

/-- The next state: `none` ends parsing (R99 step 4).  An unread selector matches nothing. -/
def State.transition (s : State) (alt : Bool) (base : Nat) (sel : Option Nat) : Option Nat :=
  let hit (j : Nat) : Bool := match sel with
    | none => false
    | some v =>
      let t := 16 * base + j
      let mask := s.gfld alt F.PA_PRS_ST_TR_MATCH_MASK t
      s.gfld alt F.PA_PRS_ST_TR_NEXT_VALID t == 1 && Nat.land v mask == Nat.land (s.gfld alt F.PA_PRS_ST_TR_MATCH_VALUE t) mask
  match (List.range 16).find? hit with
  | some j =>
    let t := 16 * base + j
    if s.gfld alt F.PA_PRS_ST_TR_NEXT_END t = 1 then none else some (s.gfld alt F.PA_PRS_ST_TR_NEXT_NEXT t)
  | none => if s.gfld alt F.PA_PRS_ST_CTL_DEF_END base = 1 then none else some (s.gfld alt F.PA_PRS_ST_CTL_DEFAULT_NEXT base)

/-- One visited state: the five steps of R99; parsing ends at the first condition of R101. -/
def State.visit (s : State) (alt : Bool) (region : Nat) (w : Window) (k : Walk) : Walk :=
  let base := 64 * (region - 1) + k.state
  let k := { k with visited := k.visited + 1 }
  let before := k.flags
  let sel := w.field k.cursor (s.gfld alt F.PA_PRS_ST_CTL_SEL_OFF base) (s.gfld alt F.PA_PRS_ST_CTL_SEL_W base + 1)
  let k := match sel with | .error fl => { k with flags := Nat.lor k.flags fl } | .ok _ => k
  let k := s.extractions alt w base k
  let const := s.gfld alt F.PA_PRS_ST_ADV_ADV_CONST base
  let adv := if s.gfld alt F.PA_PRS_ST_ADV_ADV_FIELD_EN base = 0 then Except.ok 0
    else w.field k.cursor (s.gfld alt F.PA_PRS_ST_ADV_ADV_FIELD_OFF base) (s.gfld alt F.PA_PRS_ST_ADV_ADV_FIELD_W base + 1)
  let k := match adv with | .error fl => { k with flags := Nat.lor k.flags fl } | .ok _ => k
  let step := const + (match adv with | .ok v => v * 2 ^ s.gfld alt F.PA_PRS_ST_ADV_ADV_SCALE base | .error _ => 0)
  let next := if k.flags ≠ before ∨ s.gfld alt F.PA_PRS_ST_CTL_END base = 1 then none
    else s.transition alt base (match sel with | .ok v => some v | .error _ => none)
  let k := if s.gfld alt F.PA_PRS_ST_CTL_HDR_EN base = 1 then { k with hdr := Nat.lor k.hdr (2 ^ s.gfld alt F.PA_PRS_ST_CTL_HDR_BIT base) } else k
  let k : Walk := { k with cursor := k.cursor + step }
  match next with
  | none => { k with ended := true }
  | some n =>
    if k.visited = 16 then { k with flags := Nat.lor k.flags 8, ended := true }
    else if 256 < k.cursor then { k with flags := Nat.lor k.flags 2, ended := true }
    else { k with state := n }

/-- Visit states until parsing ends, at most `n` of them. -/
def State.walk (s : State) (alt : Bool) (region : Nat) (w : Window) (n : Nat) (k : Walk) : Walk :=
  match n with
  | 0 => k
  | n + 1 => if k.ended then k else s.walk alt region w n (s.visit alt region w k)

/-! ### Symmetric hash (R110 to R112) -/

/-- Four big-endian bytes of each of `n` containers from `a`; beyond C127 nothing is held. -/
def contBytes (phv : Map Nat) (a n : Nat) : List Byte :=
  match n with
  | 0 => []
  | n + 1 => beBytes 4 (Map.get 0 a phv) ++ contBytes phv (a + 1) n

/-- The lower, then the higher, of two byte strings of one length. -/
def ordered (a b : List Byte) : List Byte := if ofBe a ≤ ofBe b then a ++ b else b ++ a

/-- The bytes profile `i` feeds to the hash. -/
def State.hashInput (s : State) (alt : Bool) (i : Nat) (phv : Map Nat) : List Byte :=
  let n := s.gfld alt F.PA_PRS_HASH_FIELDS_ADDR_N i + 1
  let ports := Map.get 0 (s.gfld alt F.PA_PRS_HASH_FIELDS_PORTS i) phv
  ordered (contBytes phv (s.gfld alt F.PA_PRS_HASH_FIELDS_ADDR_A i) n) (contBytes phv (s.gfld alt F.PA_PRS_HASH_FIELDS_ADDR_B i) n)
    ++ (if s.gfld alt F.PA_PRS_HASH_FIELDS_PORT_EN i = 1 then ordered (beBytes 2 (ports / 65536)) (beBytes 2 ports) else [])
    ++ (if s.gfld alt F.PA_PRS_HASH_PROTO_PROTO_EN i = 1 then beBytes 1 (Map.get 0 (s.gfld alt F.PA_PRS_HASH_PROTO_PROTO i) phv) else [])

/-- HASH and HASH_SEL of a parsed frame; none where no profile matches. -/
def State.hash (s : State) (alt : Bool) (region hdr : Nat) (phv : Map Nat) : Option (Nat × Nat) :=
  let b := 8 * (region - 1)
  let hit (k : Nat) : Bool :=
    let m := s.gfld alt F.PA_PRS_HASH_HDR_MASK_MASK (b + k)
    s.gfld alt F.PA_PRS_HASH_FIELDS_EN (b + k) == 1 && Nat.land hdr m == Nat.land (s.gfld alt F.PA_PRS_HASH_HDR_VAL_VAL (b + k)) m
  match (List.range 8).find? hit with
  | none => none
  | some k =>
    let h := Nat.xor (crcFrom (s.gfld alt F.PA_PRS_HASH_SEED_SEED (region - 1)) (s.hashInput alt (b + k) phv)) 0xFFFFFFFF
    let e := h % 512
    let i := 4096 * (region - 1) + 256 * s.gfld alt F.PA_PRS_HASH_PROTO_TABLE (b + k) + e / 2
    some (h, if e % 2 = 1 then s.fld F.PA_PRS_IND_ODD i else s.fld F.PA_PRS_IND_EVEN i)

/-- Count what parsing came to (R126). -/
def State.countParse (s : State) (region flags : Nat) (hashed : Bool) : State :=
  let s := s.prsCount region 0
  let s := if bit flags 1 then s.prsCount region 1 else s
  let s := if bit flags 2 then s.prsCount region 2 else s
  let s := if bit flags 3 then s.prsCount region 3 else s
  if hashed then s else s.prsCount region 4

/-- Parse a frame (R97 to R102, R110): the containers of C0 to C102 with their bindings.  `info` is C96.  A hash profile sees C96 to C100 as written, PARSE_STATUS without HASH_NONE (DEDUCED, log entry 31). -/
def State.parse (s : State) (alt : Bool) (region start info ts : Nat) (bs : List Byte) : State × Ctx :=
  let w := window bs
  let k := s.walk alt region w 16 { state := start }
  let status := k.state * 2 ^ 26 + k.visited * 2 ^ 21 + min k.cursor 256 * 2 ^ 12 + k.flags
  let x : Ctx := { region := region, egress := false, phv := k.phv, binds := k.binds }
  let x := ((((x.set 96 info).set 97 ts).set 98 (ts / 2 ^ 32)).set 99 k.hdr).set 100 status
  let h := s.hash alt region k.hdr x.phv
  (s.countParse region k.flags h.isSome, match h with | some (v, e) => (x.set 101 v).set 102 e | none => x.set 100 (status + 16))

/-! ### Rule actions (R118, R119, R155, R156) -/

/-- Action state in C104: FWD_LP [31:22], CLASS [21:18], FWD_SET [17], DROP [16], DROP_REASON [15:8] (R133). -/
def Ctx.dropped (x : Ctx) : Bool := bit (x.c 104) 16

/-- DROP is sticky; the first reason is kept (R119, R164). -/
def Ctx.drop (x : Ctx) (reason : Nat) : Ctx :=
  if x.dropped then x else (x.setBits 104 16 1 1).setBits 104 8 8 reason

/-- A logical port FWD may name (R119). -/
def fwdPort (lp : Nat) : Bool := decide (lp ≤ 540) || lp == 1023

/-- FWD: the latest replaces earlier ones unless DROP is set; a bad port acts as DROP (R119, R164). -/
def Ctx.fwd (x : Ctx) (lp : Nat) (cls : Option Nat) : Ctx :=
  if !fwdPort lp then x.drop 4
  else if x.dropped then x
  else
    let x := (x.setBits 104 22 10 lp).setBits 104 17 1 1
    match cls with | some c => x.setBits 104 18 4 c | none => x

/-- COPY_CPU: the latest replaces earlier ones. -/
def Ctx.copyCpu (x : Ctx) (target reason : Nat) : Ctx := x.set 105 (2 ^ 31 + target % 256 * 2 ^ 23 + reason % 256 * 2 ^ 15)

/-- MIRROR: up to 2 sessions in ingress and 1 in egress, one session once; more are counted in MIR_OVER (R119, R120). -/
def State.mirror (s : State) (x : Ctx) (session : Nat) : State × Ctx :=
  let w := x.c 106
  if (bit w 31 && bits w 25 6 == session) || (bit w 24 && bits w 18 6 == session) then (s, x)
  else if !bit w 31 then (s, x.setBits 106 25 7 (64 + session))
  else if !bit w 24 ∧ !x.egress then (s, x.setBits 106 18 7 (64 + session))
  else (s.prsCount x.region 6, x)

/-- EXTRACT: up to 2 profiles; more are counted in XTR_OVER. -/
def State.extractAct (s : State) (x : Ctx) (prof : Nat) : State × Ctx :=
  let w := x.c 106
  if !bit w 17 then (s, x.setBits 106 11 7 (64 + prof))
  else if !bit w 10 then (s, x.setBits 106 4 7 (64 + prof))
  else (s.prsCount x.region 7, x)

/-- Count an action that egress ignores, in both of its counters (R156, R171). -/
def State.egrIgnore (s : State) (x : Ctx) : State := (s.bump F.PA_LVC_EGR_IGN_COUNT (x.region - 1)).prsCount x.region 10

/-- Apply an action word (R118, R119); in egress only DROP and MIRROR act (R156). -/
def State.actWord (s : State) (x : Ctx) (w : Nat) : State × Ctx :=
  let primary := bits w 61 3
  let x1 := if primary = 1 then x.drop 6
    else if primary = 2 ∧ !x.egress then x.fwd (bits w 51 10) (if bit w 46 then none else some (bits w 47 4)) else x
  let x2 := if bit w 45 ∧ !x.egress then x1.copyCpu (bits w 37 8) (bits w 29 8) else x1
  let (s, x3) := if bit w 28 then s.mirror x2 (bits w 22 6) else (s, x2)
  let (s, x4) := if bit w 21 ∧ !x.egress then s.extractAct x3 (bits w 15 6) else (s, x3)
  (if x.egress ∧ (primary = 2 ∨ bit w 45 ∨ bit w 21) then s.egrIgnore x4 else s, x4)

/-! ### Sample records (R123 to R125) -/

/-- The container of field `j` of an extraction profile. -/
def State.xprofField (s : State) (i j : Nat) : Nat :=
  match j with
  | 0 => s.fld F.PA_PRS_XPROF_F0 i | 1 => s.fld F.PA_PRS_XPROF_F1 i | 2 => s.fld F.PA_PRS_XPROF_F2 i | 3 => s.fld F.PA_PRS_XPROF_F3 i
  | 4 => s.fld F.PA_PRS_XPROF_F4 i | 5 => s.fld F.PA_PRS_XPROF_F5 i | 6 => s.fld F.PA_PRS_XPROF_F6 i | 7 => s.fld F.PA_PRS_XPROF_F7 i
  | 8 => s.fld F.PA_PRS_XPROF_F8 i | _ => s.fld F.PA_PRS_XPROF_F9 i

/-- Form one record of a profile (R124); `excess` says that the region's sample path carries no more just now (R125). -/
def State.sampleRecord (s : State) (x : Ctx) (prof : Nat) (excess : Bool) : State :=
  let i := 64 * (x.region - 1) + prof
  if !s.flag F.PA_PRS_XPROF_VALID i then s
  else
    let seq := Map.get 0 i s.tm.xprofSeq
    let s := (s.withTm { s.tm with xprofSeq := Map.set 0 i ((seq + 1) % 65536) s.tm.xprofSeq })
    if excess then (s.prsCount x.region 9).limited (128 * x.region + 17) 0 1 (fun n => [.w n])
    else
      let n := min (s.fld F.PA_PRS_XPROF_NFIELDS i) 10
      let ps := x.c 100
      let w1 := bits (x.c 96) 22 10 * 2 ^ 22 + b2n x.dropped * 2 ^ 21 + bits ps 1 1 * 2 ^ 20 + bits ps 2 1 * 2 ^ 19 + seq
      let fs := (List.range 10).map (fun j => if j < n then x.c (s.xprofField i j) else 0)
      (s.prsCount x.region 8).stage (s.fld F.PA_PRS_XPROF_RING i) (0x20 + 0x100 * n) (s.fld F.PA_PRS_XPROF_SAMPLE_ID i)
        ([w1, x.c 97, x.c 98, x.c 101, bits (x.c 96) 0 14] ++ fs)

/-- The records of a packet's EXTRACTs, after C19. -/
def State.sampleRecords (s : State) (x : Ctx) (excess : Bool) : State :=
  let w := x.c 106
  let s := if bit w 17 then s.sampleRecord x (bits w 11 6) excess else s
  if bit w 10 then s.sampleRecord x (bits w 4 6) excess else s

/-! ### Profile commit (R123) -/

/-- A write of one word of an extraction profile: words 0 to 2 are held. -/
def State.xprofHold (s : State) (i w v : Nat) : State :=
  (s.withTm { s.tm with xprofHeld := Map.set 0 (4 * i + w) (v + 1) s.tm.xprofHeld })

/-- XPROF_COMMIT: the write of word 3 commits all four words. -/
def State.xprofCommit (s : State) (who : Party) (i v : Nat) : State :=
  let held (w : Nat) : Option Nat := match Map.get 0 (4 * i + w) s.tm.xprofHeld with | 0 => none | n + 1 => some n
  let s := match held 0 with
    | some a => (s.put who F.PA_PRS_XPROF_RING i (bits a 16 16)).put who F.PA_PRS_XPROF_SAMPLE_ID i (bits a 0 16)
    | none => s
  let s := match held 1 with
    | some a => ((((s.put who F.PA_PRS_XPROF_F0 i (bits a 0 7)).put who F.PA_PRS_XPROF_F1 i (bits a 7 7)).put who F.PA_PRS_XPROF_F2 i (bits a 14 7)).put who
        F.PA_PRS_XPROF_F3 i (bits a 21 7))
    | none => s
  let s := match held 2 with
    | some a => ((((s.put who F.PA_PRS_XPROF_F4 i (bits a 0 7)).put who F.PA_PRS_XPROF_F5 i (bits a 7 7)).put who F.PA_PRS_XPROF_F6 i (bits a 14 7)).put who
        F.PA_PRS_XPROF_F7 i (bits a 21 7))
    | none => s
  let s := (((s.put who F.PA_PRS_XPROF_VALID i (bits v 31 1)).put who F.PA_PRS_XPROF_NFIELDS i (bits v 14 4)).put who F.PA_PRS_XPROF_F8 i (bits v 0 7)).put who
    F.PA_PRS_XPROF_F9 i (bits v 7 7)
  (s.withTm { s.tm with xprofHeld := s.tm.xprofHeld.filter (fun e => e.1 / 4 != i) })

def execXprofCommit (who : Party) (region : Fin 4) (prof : Fin 64) (v : Word) (s : State) : Host.Outcome State Fault Refusal :=
  .next (s.writeTo who (1 + region.val) 2 true (·.xprofCommit who (64 * region.val + prof.val) v.toNat))

end Sys2Proof.Machine
end

