-- ==== Sys2Proof/Machine/Luavy.lean ====
section
/-! DEFINITION. The Luavy instruction set: bundles, slots, cells, meters, counters, write-back and pipeline exit (R128 to R171, R190, R191, R266, R267). -/

namespace Sys2Proof.Machine

/-! ### Cells and banks (R167, R172, R173) -/

/-- Page of cell `c` of pipeline `q` of a region: ingress 20 n + c, egress 160 + 12 n + c. -/
def cellPage (q c : Nat) : Nat := if q < 8 then 20 * q + c else 160 + 12 * (q - 8) + c

/-- Cells of a pipeline. -/
def cellCount (q : Nat) : Nat := if q < 8 then 20 else 12

/-- Index of pipeline `q` of region `r` in the module. -/
def pipeIx (region q : Nat) : Nat := 16 * (region - 1) + q

/-- Index of a cell bank in `ProgSt.cells`. -/
def bankIx (region q c bank : Nat) : Nat := 2 * (256 * (region - 1) + cellPage q c) + bank

def State.cellBank (s : State) (region q c bank : Nat) : CellBank := Map.get {} (bankIx region q c bank) s.prog.cells
def State.pipeBank (s : State) (p bank : Nat) : PipeBank := Map.get {} (2 * p + bank) s.prog.pipes

/-- Current epoch of a pipeline. -/
def State.epoch (s : State) (p : Nat) : Nat := s.fld F.PA_LVC_PROG_STATUS_EPOCH p

/-! ### Containers (R131, R133) -/

/-- A slot may write the container. -/
def slotWritable (n : Nat) : Bool :=
  decide (n < 96) || n == 99 || n == 101 || n == 102 || n == 103 || n == 107 || (decide (120 ≤ n) && decide (n < 128))

/-- Exception codes of R162. -/
def excIllegal : Nat := 1
def excWrongSlot : Nat := 2
def excRoWrite : Nat := 3
def excRange : Nat := 4
def excUnbound : Nat := 5
def excKeyProfile : Nat := 6
def excLearnKind : Nat := 7
def excRecirc : Nat := 8
def excEditLimit : Nat := 9
def excEditRange : Nat := 10
def excReserved : Nat := 11

/-- The code of a region with the highest count since the last event, the lowest of equals. -/
def topCode (m : Map Nat) (region : Nat) : Nat :=
  (List.range 16).foldl (fun b c => if Map.get 0 (16 * region + b) m < Map.get 0 (16 * region + c) m then c else b) 0

/-- Event offset 18, at most once per 1 ms per region, with the total since the last and the code with the highest count (R166). -/
def State.excEvent (s : State) (region code : Nat) : State :=
  let k := 16 * region + code
  let m := Map.set 0 k (Map.get 0 k s.prog.excAt + 1) s.prog.excAt
  let s := (s.withProg { s.prog with excAt := m })
  let e := 128 * region + 18
  let s' := s.limited e 0 1 (fun n => [.w n, .w (topCode m region)])
  if (Map.get ({} : Limit) (e * 2 ^ 32) s'.limits).n = 0 then
    (s'.withProg { s'.prog with excAt := m.filter (fun x => x.1 / 16 != region) })
  else s'

/-- An exception in a cell (R163). -/
def State.exception (s : State) (x : Ctx) (q code : Nat) : State × Ctx :=
  let gc := 256 * (x.region - 1) + cellPage q x.cell
  let s := (s.bumpSat F.PA_LV_CELL_EXC_COUNT gc).setFld F.PA_LV_CELL_EXC_LAST_CODE gc code
  let s := (s.bump F.PA_LVC_EXC_CNT_COUNT (16 * (x.region - 1) + code)).excEvent x.region code
  (s, if bit (x.c 108) 31 then x else x.set 108 (2 ^ 31 + code * 2 ^ 24 + x.cell * 2 ^ 19 + b2n x.egress * 2 ^ 18))

/-- A slot's write of a container: DIRTY is marked; a container it may not write raises RO_WRITE (R131, R135). -/
def State.slotWrite (s : State) (x : Ctx) (q n v : Nat) : State × Ctx :=
  if slotWritable n then (s, { (x.set n (if n = 107 then v % 8 else v)) with dirty := if x.dirty.contains n then x.dirty else x.dirty ++ [n] })
  else s.exception x q excRoWrite

/-! ### A slots (R140, R141, R146, R147) -/

/-- Fields every slot carries (R140). -/
def slotOp (w : Nat) : Nat := bits w 25 7
def slotRd (w : Nat) : Nat := bits w 18 7
def slotRs (w : Nat) : Nat := bits w 11 7
def slotRt (w : Nat) : Nat := bits w 4 7
def slotSub (w : Nat) : Nat := bits w 0 4
def slotImm (w : Nat) : Nat := bits w 0 11

/-- Sign-extension of imm11 to 32 bits. -/
def sext11 (i : Nat) : Nat := if i < 1024 then i else i + 0xFFFFF800

/-- The ones'-complement 16-bit sum of R146. -/
def s16 (x : Nat) : Nat := if 0xFFFF < x then x % 65536 + 1 else x

def rol32 (x n : Nat) : Nat := (x * 2 ^ n + x * 2 ^ n / 2 ^ 32) % 2 ^ 32

/-- What an A slot does. -/
inductive AOut where
  | nop
  | write (rd v : Nat)
  | compare (n : Nat) (v : Bool)
  | exc (code : Nat)

/-- The reserved opcodes (R146, R152, R155, R141). -/
def opReserved (op : Nat) : Bool :=
  (decide (0x1D ≤ op) && decide (op ≤ 0x1F)) || (decide (0x29 ≤ op) && decide (op ≤ 0x3F)) || (decide (0x43 ≤ op) && decide (op ≤ 0x4F))
    || decide (0x5E ≤ op)

/-- Class of an opcode: 0 A, 1 T, 2 X (R141). -/
def opClass (op : Nat) : Nat := if op < 0x40 then 0 else if op < 0x50 then 1 else 2

/-- Unused fields of an A slot that are not zero, or a reserved value (R132, R140, R146). -/
def aReserved (w : Nat) : Bool :=
  let rs := slotRs w
  let rt := slotRt w
  let imm := slotImm w
  let rr := slotSub w != 0
  match slotOp w with
  | 0x01 => rr || rt != 0
  | 0x02 => rs != 0
  | 0x03 => rs != 0 || bits imm 4 7 != 0
  | 0x05 => false
  | 0x0A => false
  | 0x0C => false
  | 0x0E => false
  | 0x0F => rr || rt != 0
  | 0x11 => bits imm 5 6 != 0
  | 0x13 => bits imm 5 6 != 0
  | 0x14 => bits imm 5 6 != 0
  | 0x15 => bit imm 10
  | 0x16 => bit imm 10
  | 0x19 => false
  | 0x1B => false
  | 0x1C => rs != 0 || bits imm 1 10 != 0
  | 0x20 => rr || bits w 23 2 == 3
  | 0x21 => bits w 23 2 == 3
  | 0x22 => rr || bits w 23 2 == 3
  | 0x23 => bits w 23 2 == 3
  | 0x24 => rr || bits w 23 2 == 3
  | 0x25 => bits w 23 2 == 3
  | 0x26 => bits w 23 2 == 3
  | 0x27 => bits w 23 2 == 3 || bits imm 5 6 != 0
  | 0x28 => rr || bits w 23 2 == 3
  | _ => rr

/-- A compare's flag, by COMB and the flag at cell entry (R147). -/
def combine (w pred : Nat) (r : Bool) : AOut :=
  let n := bits w 18 5
  match bits w 23 2 with
  | 0 => .compare n r
  | 1 => .compare n (bit pred n && r)
  | _ => .compare n (bit pred n || r)

/-- An A slot over the containers at cell entry; `konst` is the cell's constants (R146). -/
def aSlot (phv konst : Map Nat) (now w : Nat) : AOut :=
  let op := slotOp w
  let rs := Map.get 0 (slotRs w) phv
  let rt := Map.get 0 (slotRt w) phv
  let rd := slotRd w
  let imm := slotImm w
  let pred := Map.get 0 103 phv
  let full := 2 ^ 32
  let len := bits imm 5 5 + 1
  let pos := bits imm 0 5
  if op = 0 then (if w = 0 then .nop else .exc excReserved)
  else if opReserved op then .exc excIllegal
  else if opClass op ≠ 0 then .exc excWrongSlot
  else if aReserved w then .exc excReserved
  else match op with
    | 0x01 => .write rd rs
    | 0x02 => .write rd imm
    | 0x03 => .write rd (Map.get 0 (bits imm 0 4) konst)
    | 0x04 => .write rd ((rs + rt) % full)
    | 0x05 => .write rd ((rs + sext11 imm) % full)
    | 0x06 => .write rd ((rs + full - rt) % full)
    | 0x07 => .write rd (min (rs + rt) 0xFFFFFFFF)
    | 0x08 => .write rd (rs - rt)
    | 0x09 => .write rd (Nat.land rs rt)
    | 0x0A => .write rd (Nat.land rs (sext11 imm))
    | 0x0B => .write rd (Nat.lor rs rt)
    | 0x0C => .write rd (Nat.lor rs imm)
    | 0x0D => .write rd (Nat.xor rs rt)
    | 0x0E => .write rd (Nat.xor rs imm)
    | 0x0F => .write rd (0xFFFFFFFF - rs)
    | 0x10 => .write rd (rs * 2 ^ (rt % 32) % full)
    | 0x11 => .write rd (rs * 2 ^ pos % full)
    | 0x12 => .write rd (rs / 2 ^ (rt % 32))
    | 0x13 => .write rd (rs / 2 ^ pos)
    | 0x14 => .write rd (rol32 rs pos)
    | 0x15 => .write rd (bits rs pos len)
    | 0x16 => .write rd (putBits (Map.get 0 rd phv) pos len rs % full)
    | 0x17 => .write rd (min rs rt)
    | 0x18 => .write rd (max rs rt)
    | 0x19 => .write rd (if bit pred (slotSub w) then rs else rt)
    | 0x1A => .write rd (s16 (rs % 65536 + rt % 65536))
    | 0x1B => .write rd (s16 (rs % 65536 + imm))
    | 0x1C => .write rd (if imm % 2 = 0 then now % full else now / full % full)
    | 0x20 => combine w pred (rs == rt)
    | 0x21 => combine w pred (rs == imm)
    | 0x22 => combine w pred (rs != rt)
    | 0x23 => combine w pred (rs != imm)
    | 0x24 => combine w pred (decide (rs < rt))
    | 0x25 => combine w pred (decide (rs < imm))
    | 0x26 => combine w pred (decide (imm < rs))
    | 0x27 => combine w pred (bit rs pos)
    | _ => combine w pred (Nat.land rs rt != 0)

/-- The effect of an A slot on the packet (R142). -/
def State.runA (s : State) (x : Ctx) (q : Nat) (phv konst : Map Nat) (now w : Nat) : State × Ctx :=
  match aSlot phv konst now w with
  | .nop => (s, x)
  | .write rd v => s.slotWrite x q rd v
  | .compare n v => (s, x.setBits 103 n 1 (b2n v))
  | .exc c => s.exception x q c

/-! ### The T slot (R148 to R154, R207) -/

/-- The key a profile builds from the containers at cell entry (R148). -/
def buildKey (phv prof : Map Nat) (j : Nat) : Nat :=
  let n := min (bits (Map.get 0 (8 * j) prof) 27 5) 20
  (List.range n).foldl (fun a i => a * 2 ^ 32 + Map.get 0 (bits (Map.get 0 (8 * j + 1 + i / 4) prof) (8 * (i % 4)) 7) phv) 0

/-- RES0 to RES3 of a hit (R150). -/
def resultWords (t : Nat) (e : TEntry) : List Nat :=
  [2 ^ 31 + b2n e.nbValid * 2 ^ 30 + e.nb * 2 ^ 22 + t * 2 ^ 16, e.data, e.action / 2 ^ 32, e.action % 2 ^ 32]

/-- Write result words to containers from `d` on; one a slot may not write is discarded with RO_WRITE. -/
def State.writeRes (s : State) (x : Ctx) (q d : Nat) : List Nat → State × Ctx
  | [] => (s, x)
  | v :: vs =>
    let r := s.slotWrite x q d v
    r.1.writeRes r.2 q (d + 1) vs

/-- The words RES writes (R151). -/
def resWords (res : Nat) (ws : List Nat) : List Nat :=
  match res with
  | 0 => []
  | 1 => (ws.drop 1).take 1
  | 2 => ws.take 2
  | _ => ws

/-- The lookup of a T slot: the entry it hits, set as hit (R152), or none. -/
def State.lookup (s : State) (x : Ctx) (t key : Nat) (bad : Bool) : State × Option TEntry :=
  match s.findEntry t x.region key with
  | none => (s, none)
  | some e =>
    if bit e.bad (x.region - 1) then (s, none)
    else if bad then (s.entryBad t x.region e, none)
    else (s.hitEntry t x.region e, some e)

/-- FULL_PRED after a LEARN on a table (R207). -/
def State.fullPred (s : State) (x : Ctx) (t : Nat) (full : Bool) : Ctx :=
  if s.tblEn t ∧ s.tblKind t = 0 ∧ s.flag F.FX_TBE_TBL_CFG_FULL_PRED_EN t then x.setBits 103 (s.fld F.FX_TBE_TBL_CFG_FULL_PRED t) 1 (b2n full) else x

/-- A LEARN's end (R154, R207): an insertion posted, or NOROOM applied; FULL_PRED is written either way. -/
def State.learnEnd (s : State) (x : Ctx) (t key data : Nat) (hit : Bool) : State × Ctx :=
  let full := !hit && !s.learnRoom t x.region key
  let x := s.fullPred x t full
  if hit then (s, x)
  else if full then
    let s := s.noRoom t
    let w := s.fld F.FX_TBE_TBL_CFG_NOROOM_HI t * 2 ^ 32 + s.fld F.FX_TBE_TBL_CFG_NOROOM_LO t
    if w = 0 then (s, x) else s.actWord x w
  else (s.postLearn t x.region key data, x)

/-- A T slot; answers the next bundle index where the result names one (R144). -/
def State.runT (s : State) (x : Ctx) (q : Nat) (b : CellBank) (phv : Map Nat) (bad : Bool) (w : Nat) : State × Ctx × Option Nat :=
  let op := slotOp w
  let d := slotRd w
  let t := bits w 5 6
  let j := bits w 2 3
  let res := bits w 0 2
  let only (r : State × Ctx) : State × Ctx × Option Nat := (r.1, r.2, none)
  -- a LEARN that ends without an insertion for want of room or of a key writes 0 to FULL_PRED (R207)
  let learnless (r : State × Ctx) : State × Ctx := (r.1, if op = 0x42 then r.1.fullPred r.2 t false else r.2)
  if op = 0 then (if w = 0 then (s, x, none) else only (s.exception x q excReserved))
  else if opReserved op then only (s.exception x q excIllegal)
  else if opClass op ≠ 1 then only (s.exception x q excWrongSlot)
  else if (op ≠ 0x42 ∧ slotRs w ≠ 0) ∨ (res = 0 ∧ d ≠ 0) then only (s.exception x q excReserved)
  else if 127 < d + (if res = 3 then 3 else if res = 2 then 1 else 0) then only (s.exception x q excRange)
  else if !(b.binds.any (·.2 == t)) ∨ !s.tblEn t then
    let r := s.exception x q excUnbound
    only (learnless (r.1.writeRes r.2 q d (resWords res [0, 0, 0, 0])))
  else if bits (Map.get 0 (8 * j) b.keyprof) 27 5 = 0 then
    let r := s.exception x q excKeyProfile
    only (learnless (r.1.writeRes r.2 q d (resWords res [0, 0, 0, 0])))
  else
    let key := buildKey phv b.keyprof j
    let r0 := if op = 0x42 ∧ s.tblKind t ≠ 0 then s.exception x q excLearnKind else (s, x)
    let (s, hit) := r0.1.lookup r0.2 t key bad
    let x := r0.2
    let ws := match hit with | some e => resultWords t e | none => [0, 0, 0, 0]
    let (s, x) := s.writeRes x q d (resWords res ws)
    let (s, x) := match hit with | some e => if op = 0x41 then (s, x) else s.actWord x e.action | none => (s, x)
    let (s, x) := if op = 0x42 ∧ s.tblKind t = 0 then s.learnEnd x t key (Map.get 0 (slotRs w) phv) hit.isSome else (s, x)
    (s, x, match hit with | some e => if e.nbValid then some e.nb else none | none => none)

/-! ### Meters (R158, R266, R267) -/

/-- Millibits a bucket gains: Mb/s over ns is 1/1000 bit. -/
def fill (have' rate cap dt : Nat) : Nat := min (have' + rate * dt) cap

/-- Meter `b` bytes in meter `m` of a region: 0 green, 1 yellow, 2 red (R266). -/
def State.meterMark (s : State) (i b pre : Nat) (aware : Bool) : State × Nat :=
  let pre := if aware then (if pre = 3 then 2 else pre) else 0
  if !s.flag F.PA_MTR_CFG_EN i then (s, pre)
  else
    let cbs := max (s.fld F.PA_MTR_CFG_CBS i) 1 * 64 * 8000
    let pbs := max (s.fld F.PA_MTR_CFG_PBS i) 1 * 64 * 8000
    let m := Map.get (0, 0, 0) i s.tm.meters
    let dt := s.now - m.2.2
    let tc := fill m.1 (s.fld F.PA_MTR_CFG_CIR i) cbs dt
    let tp := fill m.2.1 (s.fld F.PA_MTR_CFG_PIR i) pbs dt
    let n := b * 8000
    let out := if pre = 2 ∨ tp < n then (2, tc, tp) else if pre = 1 ∨ tc < n then (1, tc, tp - n) else (0, tc - n, tp - n)
    ((s.withTm { s.tm with meters := Map.set (0, 0, 0) i (out.2.1, out.2.2, s.now) s.tm.meters }), out.1)

/-- The same, counted in PA_MTR_STAT. -/
def State.meter (s : State) (i b pre : Nat) (aware : Bool) : State × Nat :=
  let r := s.meterMark i b pre aware
  (r.1.bump F.PA_MTR_STAT_COUNT (3 * (i / 16384) + r.2), r.2)

/-- METER_COMMIT (R267): the write of word 3 commits the meter and refills both buckets, or is refused. -/
def State.meterCommit (s : State) (who : Party) (i v : Nat) : State :=
  let held (w : Nat) (d : Nat) : Nat := match Map.get 0 (4 * i + w) s.tm.meterHeld with | 0 => d | n + 1 => n
  let cir := held 0 (s.fld F.PA_MTR_CFG_CIR i) % 2 ^ 19
  let pir := held 1 (s.fld F.PA_MTR_CFG_PIR i) % 2 ^ 19
  let cbs := held 2 (s.fld F.PA_MTR_CFG_CBS i) % 2 ^ 18
  let pbs := v % 2 ^ 18
  let s := (s.withTm { s.tm with meterHeld := s.tm.meterHeld.filter (fun e => e.1 / 4 != i) })
  if pir < cir then s.raise (128 * (i / 16384 + 1) + 21) [.w (i % 16384)]
  else
    let s := (((s.put who F.PA_MTR_CFG_CIR i cir).put who F.PA_MTR_CFG_PIR i pir).put who F.PA_MTR_CFG_CBS i cbs)
    let s := (s.put who F.PA_MTR_CFG_PBS i pbs).put who F.PA_MTR_CFG_EN i (bits v 31 1)
    (s.withTm { s.tm with meters := Map.set (0, 0, 0) i (max cbs 1 * 64 * 8000, max pbs 1 * 64 * 8000, s.now) s.tm.meters })

/-- A write of words 0 to 2 is held. -/
def State.meterHold (s : State) (i w v : Nat) : State := (s.withTm { s.tm with meterHeld := Map.set 0 (4 * i + w) (v + 1) s.tm.meterHeld })

def execMeterCommit (who : Party) (region : Fin 4) (meter : Fin 16384) (v : Word) (s : State) : Host.Outcome State Fault Refusal :=
  .next (s.writeTo who (1 + region.val) 5 false (·.meterCommit who (16384 * region.val + meter.val) v.toNat))

/-! ### The X slot (R155 to R161) -/

def frameLen (x : Ctx) : Nat := bits (x.c 96) 0 14

/-- An insertion or deletion recorded for the pipeline's exit, or refused (R160). -/
def State.editAct (s : State) (x : Ctx) (q off del : Nat) (ins : List Byte) : State × Ctx :=
  let len := frameLen x
  if bit (x.c 106) 3 then s.exception x q excEditLimit
  else if min 256 len < off + del ∨ (del ≠ 0 ∧ len < del + 14) then s.exception x q excEditRange
  else if 10240 < len + ins.length then (s, x.drop 5)
  else (s, { (x.setBits 106 3 1 1) with edit := some (off, del, ins) })

/-- Unused fields of an X slot that are not zero (R140, R155). -/
def xReserved (w : Nat) : Bool :=
  let rs := slotRs w
  let imm := slotImm w
  slotRd w != 0 || (match slotOp w with
    | 0x50 => imm != 0
    | 0x51 => rs != 0 || bits imm 8 3 != 0
    | 0x52 => bits imm 5 6 != 0
    | 0x53 => rs != 0 || bit imm 10
    | 0x54 => bits imm 5 6 != 0 || (if bit imm 4 then bits imm 0 4 != 0 else rs != 0)
    | 0x55 => bits imm 8 3 != 0
    | 0x56 => rs != 0 || bits imm 6 5 != 0
    | 0x57 => rs != 0 || bits imm 6 5 != 0
    | 0x5A => rs != 0 || bits imm 4 7 != 0
    | 0x5B => bits imm 8 3 != 0
    | 0x5C => bits imm 8 3 != 0
    | 0x5D => rs != 0
    | _ => false)

/-- X-slot operations that egress ignores (R156). -/
def xIngressOnly (op : Nat) : Bool :=
  op == 0x52 || op == 0x53 || op == 0x54 || op == 0x55 || op == 0x57 || op == 0x58 || op == 0x5A

/-- COUNT (R157). -/
def State.countAct (s : State) (region entry len : Nat) : State :=
  let i := 131072 * (region - 1) + entry % 131072
  let v := Map.get (0, 0) i s.tm.counters
  (s.withTm { s.tm with counters := Map.set (0, 0) i ((v.1 + 1) % 2 ^ 64, (v.2 + len) % 2 ^ 64) s.tm.counters })

/-- An X slot. -/
def State.runX (s : State) (x : Ctx) (q : Nat) (phv : Map Nat) (w : Nat) : State × Ctx :=
  let op := slotOp w
  let c (n : Nat) : Nat := Map.get 0 n phv
  let r := slotRs w
  let rs := c r
  let imm := slotImm w
  let info := c 96
  if op = 0 then (if w = 0 then (s, x) else s.exception x q excReserved)
  else if opReserved op then s.exception x q excIllegal
  else if opClass op ≠ 2 then s.exception x q excWrongSlot
  else if xReserved w then s.exception x q excReserved
  else if x.egress ∧ xIngressOnly op then (s.egrIgnore x, x)
  else match op with
    | 0x50 => if r = 127 then s.exception x q excRange else s.actWord x (rs * 2 ^ 32 + c (r + 1))
    | 0x51 => (s, x.drop (if imm < 0x40 then 6 else imm))
    | 0x52 => (s, x.fwd (rs % 1024) (if bit imm 4 then none else some (bits imm 0 4)))
    | 0x53 => (s, x.fwd (imm % 1024) none)
    | 0x54 => (s, x.setBits 104 18 4 (if bit imm 4 then rs else imm))
    | 0x55 => (s, x.copyCpu imm rs)
    | 0x56 => s.mirror x imm
    | 0x57 => s.extractAct x imm
    | 0x58 =>
      let m := s.meter (16384 * (x.region - 1) + (rs % 16384 + bits imm 0 10) % 16384) (bits info 0 14) (bits (c 107) 0 2) (bit imm 10)
      (m.1, x.set 107 (m.2 + 4))
    | 0x59 => (s.countAct x.region (rs % 131072 + imm) (bits info 0 14), x)
    | 0x5A =>
      if bits info 18 3 < 7 then (s, x.fwd (536 + x.region) (some (bits imm 0 4)))
      else s.exception (x.drop 3) q excRecirc
    | 0x5B => s.editAct x q (bits imm 0 8) 0 (beBytes 4 rs)
    | 0x5C => if r = 127 then s.exception x q excRange else s.editAct x q (bits imm 0 8) 0 (beBytes 4 rs ++ beBytes 4 (c (r + 1)))
    | _ => s.editAct x q (bits imm 0 8) (4 * (bits imm 8 3 + 1)) []

/-! ### Cells (R137 to R145, R190) -/

/-- A slot executes under SEM (R139): A slots, then T and X. -/
def slotsRun (header pred : Nat) : Bool × Bool :=
  let p := bit pred (bits header 0 5)
  match bits header 6 2 with
  | 0 => (true, true)
  | 1 => (p, p)
  | 2 => (true, p)
  | _ => (true, !p)

/-- One bundle for one packet (R142); answers the next bundle index (R144). -/
def State.runBundle (s : State) (x : Ctx) (q : Nat) (b : CellBank) (bad : Bool) (w : Nat) : State × Ctx × Nat :=
  let header := bits w 128 16
  let phv := x.phv
  let run := slotsRun header (x.c 103)
  let now := s.now
  let (s, x) := if run.1 then s.runA x q phv b.konst now (bits w 96 32) else (s, x)
  let (s, x) := if run.1 then s.runA x q phv b.konst now (bits w 64 32) else (s, x)
  let (s, x, nb) := if run.2 then s.runT x q b phv bad (bits w 32 32) else (s, x, none)
  let (s, x) := if run.2 then s.runX x q phv (bits w 0 32) else (s, x)
  (s, x, match nb with | some n => if bit header 5 then n else bits header 8 8 | none => bits header 8 8)

/-- The cells of a pipeline from its current one on; `none` where the packet met an uncorrectable or bad bundle, with the cell and the bundle (R190). -/
def State.runCells (s : State) (x : Ctx) (q bank idx : Nat) (ecc : List EccHit) (n : Nat) : State × Ctx × Option (Nat × Nat × Bool) :=
  match n with
  | 0 => (s, x, none)
  | n + 1 =>
    let at' (k : EccKind) : Bool := ecc.any (fun e => e.cell.val == x.cell && decide (e.kind = k))
    let ix := bankIx x.region q x.cell bank
    if Map.get false (256 * ix + idx) s.prog.bad then (s, x, some (x.cell, idx, false))
    else if at' .uncorrectable then (s, x, some (x.cell, idx, true))
    else
      let b := Map.get {} ix s.prog.cells
      let (s, x, next) := s.runBundle x q b (at' .entry) (Map.get 0 idx b.bundles)
      s.runCells { x with cell := x.cell + 1 } q bank next ecc n

/-- The corrected errors that a packet met in cells up to `last` of its pipeline, each counted (R190, R217); they stand also where the packet is discarded.  The spec names no register for those of table storage (log entry 65). -/
def State.countCorr (s : State) (region q : Nat) (ecc : List EccHit) (last : Nat) : State :=
  (ecc.filter (fun e => decide (e.cell.val ≤ last))).foldl (fun s e =>
    match e.kind with
    | .corrected => s.bumpSat F.PA_LV_CELL_ECC_CORR (256 * (region - 1) + cellPage q e.cell.val)
    | .entryCorrected => s.withTbl { s.tbl with corrected := Map.set 0 region (Map.get 0 region s.tbl.corrected + 1) s.tbl.corrected }
    | _ => s) s

/-- A packet that read an uncorrectable or bad bundle is discarded (R190); a third new error of its pipeline in one hour is a region fault (R191). -/
def State.cellFault (s : State) (region q bank cell idx : Nat) (fresh : Bool) : State :=
  let gc := 256 * (region - 1) + cellPage q cell
  let s := (s.bump F.PA_LVC_FAULT_DISC_COUNT (region - 1)).raise (128 * region + 19) [.w (cellPage q cell), .w idx]
  if !fresh then s
  else
    let s := (s.bumpSat F.PA_LV_CELL_ECC_UNCORR gc).setFld F.PA_LV_CELL_ECC_LAST_BAD gc idx
    let p := pipeIx region q
    let times := ((Map.get [] p s.prog.faults).filter (fun t => decide (s.now < t + 3600000000000))) ++ [s.now]
    let due := decide (3 ≤ times.length)
    ((s.withProg { s.prog with bad := Map.set false (256 * bankIx region q cell bank + idx) true s.prog.bad,
                                   faults := Map.set [] p (if due then [] else times) s.prog.faults }).withFaultsDue (if due then s.faultsDue ++ [(region, region * 0x1000 + 0x300, [])] else s.faultsDue))

/-- BUNDLE_REWRITE (R190): the supervisor rewrites a bad position from its copy. -/
def State.bundleRewrite (s : State) (ix idx : Nat) : State :=
  (s.withProg { s.prog with bad := Map.set false (256 * ix + idx) false s.prog.bad })

def execBundleRewrite (region : Fin 4) (page : Fin 256) (bank : Fin 2) (index : Fin 256) (s : State) : Host.Outcome State Fault Refusal :=
  .next (s.bundleRewrite (2 * (256 * region.val + page.val) + bank.val) index.val)

/-! ### Write-back and exit (R135, R136, R160, R161, R163, R165) -/

/-- Write `w` bits of a value at a bit position of the frame's front. -/
def putField (bs : List Byte) (pos w v : Nat) : List Byte :=
  let n := min bs.length 272
  let stop := pos + w
  if 8 * n < stop then bs
  else beBytes n (putBits (ofBe (bs.take n)) (8 * n - stop) w v) ++ bs.drop n

/-- Apply an edit to the frame. -/
def applyEdit (bs : List Byte) : Option (Nat × Nat × List Byte) → List Byte
  | none => bs
  | some (off, del, ins) => bs.take off ++ ins ++ bs.drop (off + del)

/-- Pad to 60 bytes (R136). -/
def padFrame (bs : List Byte) : List Byte := bs ++ List.replicate (60 - bs.length) 0

/-- The write-back stage: dirty bound containers in rising order, then the edit. -/
def Ctx.writeBack (x : Ctx) (bs : List Byte) : List Byte :=
  let bs := (List.range 96).foldl (fun bs n =>
    match x.binds.find? (·.cont == n) with
    | some b => if x.dirty.contains n then putField bs b.pos b.width (x.c n) else bs
    | none => bs) bs
  if x.edit.isNone then bs else padFrame (applyEdit bs x.edit)

/-- A binding after the ingress edit (R161); none where it overlapped removed bytes. -/
def moveBind (e : Option (Nat × Nat × List Byte)) (b : Bind) : Option Bind :=
  match e with
  | none => some b
  | some (off, del, ins) =>
    if del = 0 then (if 8 * off ≤ b.pos then some { b with pos := b.pos + 8 * ins.length } else some b)
    else if 8 * (off + del) ≤ b.pos then some { b with pos := b.pos - 8 * del }
    else if b.pos + b.width ≤ 8 * off then some b
    else none

/-- Pipeline exit: NO_DEST in ingress, the EXC_DROP policy, and the drop counted (R119, R163, R165). -/
def State.pipeExit (s : State) (x : Ctx) (q : Nat) : State × Ctx :=
  let noDest := !x.egress && !x.dropped && !bit (x.c 104) 17
  let s := if noDest then s.prsCount x.region 5 else s
  let x := if noDest then x.drop 1 else x
  let x := if s.flag F.PA_LVC_PIPE_CFG_EXC_DROP (pipeIx x.region q) ∧ bit (x.c 108) 31 then x.drop 2 else x
  (if x.dropped then s.bump F.PA_LVC_DROP_CNT_COUNT (256 * (x.region - 1) + bits (x.c 104) 8 8) else s, x)

/-! ### Counter channels (R170) -/

/-- COUNTER_LATCH: a write of INDEX starts a latch of that entry. -/
def State.counterLatch (s : State) (who : Party) (i v : Nat) : State :=
  let s := (s.put who F.PA_LVC_CNT_CTL_INDEX i v).setFlag F.PA_LVC_CNT_CTL_BUSY i true
  (s.withTm { s.tm with latches := Map.set 0 i (v % 131072 + 1) s.tm.latches })

def execCounterLatch (who : Party) (region ch : Fin 4) (index : Fin 131072) (s : State) : Host.Outcome State Fault Refusal :=
  .next (s.writeTo who (1 + region.val) 4 true (·.counterLatch who (4 * region.val + ch.val) index.val))

/-- COUNTER_LATCH_DONE: PKTS and BYTES show the entry. -/
def State.latchDone (s : State) (i : Nat) : State :=
  match Map.get 0 i s.tm.latches with
  | 0 => s
  | n + 1 =>
    let v := Map.get (0, 0) (131072 * (i / 4) + n) s.tm.counters
    let s := ((s.setFld F.PA_LVC_CNT_PKTS_PKTS i v.1).setFld F.PA_LVC_CNT_BYTES_BYTES i v.2).setFlag F.PA_LVC_CNT_CTL_BUSY i false
    (s.withTm { s.tm with latches := Map.set 0 i 0 s.tm.latches })

def execCounterLatchDone (region ch : Fin 4) (s : State) : Host.Outcome State Fault Refusal := .next (s.latchDone (4 * region.val + ch.val))

end Sys2Proof.Machine
end

