-- ==== Sys2Proof/Machine/Buffer.lean ====
section
/-! DEFINITION. From the landing buffer through the ingress pipeline to the shared buffer: grants, admission, thresholds, segments and bank groups (R81, R96, R120, R221 to R248). -/

namespace Sys2Proof.Machine

/-! ### Segments and bank groups (R221 to R223, R241) -/

def State.bgUsed (s : State) (g : Nat) : Nat := s.fld F.FX_BUF_BG_STATUS_USED g

/-- How many segments of a list lie in a bank group. -/
def segsIn (g : Nat) (l : List Nat) : Nat := (l.filter (fun x => x / 65536 == g)).length

def State.bgQuar (s : State) (g : Nat) : Nat := segsIn g s.fx.quar

/-- Quarantined segments that a frame still holds. -/
def State.bgQuarHeld (s : State) (g : Nat) : Nat :=
  s.fx.frames.foldl (fun a e => match e.2 with | some f => a + segsIn g f.quar | none => a) 0

/-- Segments physically free: neither held by a frame nor out of the free pool (R226, R244). -/
def State.bgFree (s : State) (g : Nat) : Nat := 65536 + s.bgQuarHeld g - s.bgUsed g - s.bgQuar g
def State.bgDraining (s : State) (g : Nat) : Bool := s.flag F.FX_BUF_BG_STATUS_DRAINING g

/-- The group runs, or leaves clock gating on request (R58). -/
def State.bgAwake (s : State) (g : Nat) : Bool := decide (2 ≤ s.fld F.FX_BUF_BG_STATUS_POWER g)

/-- The group is in the rotation: awake and not draining. -/
def State.bgReady (s : State) (g : Nat) : Bool := s.bgAwake g && !s.bgDraining g

/-- The group may give a segment: in the rotation, with one free. -/
def State.bgOpen (s : State) (g : Nat) : Bool := s.bgReady g && decide (0 < s.bgFree g)

/-- The first group from `g` on, wrapping, that meets a test. -/
def nextGroup (p : Nat → Bool) (g : Nat) : Option Nat := ((List.range 16).map (fun i => (g + i) % 16)).find? p

/-- A group gives one segment, and the pointer moves to the next group in the rotation (R223). -/
def State.takeSeg (s : State) (g : Nat) : State :=
  let s := if s.power (bgDomain g) = powClock then s.wake (bgDomain g) else s
  let s := s.bump F.FX_BUF_BG_STATUS_USED g
  s.withFx { s.fx with rot := (nextGroup s.bgReady ((g + 1) % 16)).getD ((g + 1) % 16) }

/-- One segment for a frame: an awake group in rotation, else a draining group, which then stops draining (R223, R241). -/
def State.allocOne (s : State) : Option (State × Nat) :=
  match nextGroup s.bgOpen s.fx.rot with
  | some g => some (s.takeSeg g, g)
  | none =>
    match nextGroup (fun g => s.bgAwake g && s.bgDraining g && decide (0 < s.bgFree g)) s.fx.rot with
    | some g => some ((s.setFlag F.FX_BUF_BG_STATUS_DRAINING g (decide (64 < s.bgQuar g))).takeSeg g, g)
    | none => none

/-- Allocate up to `n` segments; answers what each group gave and how many are still wanted. -/
def State.alloc (s : State) (n : Nat) (segs : Map Nat) : State × Map Nat × Nat :=
  match n with
  | 0 => (s, segs, 0)
  | n + 1 =>
    match s.allocOne with
    | some (s', g) => s'.alloc n (Map.set 0 g (Map.get 0 g segs + 1) segs)
    | none => (s, segs, n + 1)

/-- Give a frame's segments back. -/
def State.freeSegs (s : State) (segs : Map Nat) : State :=
  segs.foldl (fun s e => s.setFld F.FX_BUF_BG_STATUS_USED e.1 (s.bgUsed e.1 - e.2)) s

/-- Bank groups that count as awake: powered or waking, not draining, not forced off (R241, R527). -/
def State.bgCount (s : State) : Nat :=
  ((List.range 16).filter (fun g => s.fld F.FX_BUF_BG_STATUS_POWER g != powGated && !s.bgDraining g && !s.forcedOff (bgDomain g))).length

/-- MIN_AWAKE as used (R242). -/
def State.minAwake (s : State) : Nat := min (max (s.fld F.FX_BUF_CFG_MIN_AWAKE) 1) 16

/-- Bank groups the last 10 us of admission call for (R241): 1.64 TB/s is 1,640 bytes per ns. -/
def State.bwGroups (s : State) : Nat :=
  let bytes := s.fx.bw.foldl (fun a e => if s.now ≤ e.1 + 10000 then a + e.2 else a) 0
  (2 * bytes + 16400000 - 1) / 16400000 + 1

/-- Free segments of the groups that count as awake. -/
def State.awakeFree (s : State) : Nat :=
  (List.range 16).foldl (fun a g => if s.fld F.FX_BUF_BG_STATUS_POWER g ≠ powGated ∧ !s.bgDraining g then a + s.bgFree g else a) 0

/-- The rule of R241 is broken with the groups counted now. -/
def State.bgShort (s : State) : Bool :=
  decide (s.bgCount < max s.minAwake s.bwGroups) || decide (s.awakeFree < 256 * s.fld F.FX_BUF_CFG_WAKE_RESERVE)

/-- FX wakes the lowest-numbered gated group while the count falls short, up to `n` of them (R241). -/
def State.bgWake (s : State) (n : Nat) : State :=
  match n with
  | 0 => s
  | n + 1 =>
    if s.bgShort then
      match (List.range 16).find? (fun g => s.fld F.FX_BUF_BG_STATUS_POWER g == powGated && !s.forcedOff (bgDomain g)) with
      | some g => (s.wake (bgDomain g)).bgWake n
      | none => s
    else s

/-- The count of R241 is kept up. -/
def State.bgKeep (s : State) : State := s.bgWake 16

/-! ### Frames in FX -/

def State.frame? (s : State) (fid : Nat) : Option FxFrame := Map.get none fid s.fx.frames
def State.setFrame (s : State) (fid : Nat) (f : Option FxFrame) : State := (s.withFx { s.fx with frames := Map.set none fid f s.fx.frames })

/-- Segments of a frame (R222). -/
def Pkt.segments (p : Pkt) : Nat := (p.bytes.length + 255) / 256

/-- Bring a frame into FX. -/
def State.newFrame (s : State) (f : FxFrame) : State × Nat :=
  let fid := s.fx.nextFid
  ((s.withFx { s.fx with nextFid := fid + 1, frames := Map.set none fid (some f) s.fx.frames }), fid)

/-- A frame with no copy left is done with: its segments are free (R231). -/
def State.reap (s : State) (fid : Nat) : State :=
  match s.frame? fid with
  | some f =>
    let held := (s.fx.mainq ++ s.fx.express).any (fun e => e.2.any (·.fid == fid))
    let out := s.fx.cuts.any (·.fid == fid)
    if f.live = 0 ∧ !held ∧ !out then (s.freeSegs f.segs).setFrame fid none else s
  | none => s

/-! ### Queues and thresholds (R226, R227) -/

/-- Queue index of Q(lp, c). -/
def queueIx (lp c : Nat) : Nat := 16 * lp + c

def State.queue (s : State) (qi : Nat) : List Copy := Map.get [] qi s.fx.queues
def State.setQueue (s : State) (qi : Nat) (q : List Copy) : State := (s.withFx { s.fx with queues := Map.set [] qi q s.fx.queues })
def State.charged (s : State) (qi : Nat) : Nat := Map.get 0 qi s.fx.charge
def State.setCharge (s : State) (qi n : Nat) : State := (s.withFx { s.fx with charge := Map.set 0 qi n s.fx.charge })
def State.minOf (s : State) (qi : Nat) : Nat := s.fld F.FX_ADM_QCFG_MIN qi

/-- G: the guaranteed minima together. -/
def State.guarantee (s : State) : Nat := (s.listed F.FX_ADM_QCFG_MIN).foldl (fun a q => a + s.minOf q) 0

/-- Segments that frames have taken and not yet been given (R231, R241). -/
def State.wanted (s : State) : Nat := s.fx.frames.foldl (fun a e => match e.2 with | some f => a + f.want | none => a) 0

/-- F: segments free, less those taken and not yet given and the unused guarantees (R226, R231).  It falls below 0 where MIN is raised over a full buffer. -/
def State.freeF (s : State) : Int :=
  let phys := (List.range 16).foldl (fun a g => a + s.bgFree g) 0
  (phys : Int) - s.wanted - (s.listed F.FX_ADM_QCFG_MIN).foldl (fun a q => a + (s.minOf q - min (s.charged q) (s.minOf q))) 0

/-- limit(q), rounded down: alpha is 2^K, K from -7 to +3. -/
def State.limitOf (s : State) (qi : Nat) : Int :=
  let k := s.fld F.FX_ADM_QCFG_K qi
  if k < 8 then s.freeF * 2 ^ k else s.freeF / 2 ^ (16 - k)

/-- Region that owns a logical port; 6 for the host ports, 7 for the compute ports, 0 for the supervisor port. -/
def lpRegion (lp : Nat) : Nat :=
  if lp < 512 then 1 + lp / 128 else if lp < 528 then 6 else if lp < 536 then 7 else if lp = 536 then 0 else lp - 536

/-- Count a copy dropped at admission, and report drops at most once per 1 ms (R245, R248). -/
def State.dropCopy (s : State) (qi why : Nat) : State :=
  let s := s.bump F.FX_ADM_QSTAT_COUNT (7 * qi + 2 + why)
  let m := Map.set 0 qi (Map.get 0 qi s.fx.dropQ + 1) s.fx.dropQ
  let t := Map.set 0 why (Map.get 0 why s.fx.dropT + 1) s.fx.dropT
  let s := (s.withFx { s.fx with dropQ := m, dropT := t })
  let worst := m.foldl (fun (b : Nat × Nat) e => if b.2 < e.2 then e else b) (0, 0)
  let s' := s.limited 664 0 1 (fun _ => [.w (Map.get 0 0 t), .w (Map.get 0 1 t), .w (Map.get 0 2 t), .w worst.1])
  if (Map.get ({} : Limit) (664 * 2 ^ 32) s'.limits).n = 0 then (s'.withFx { s'.fx with dropQ := [], dropT := [] }) else s'

/-- Count in a global admission counter (R247). -/
def State.admCount (s : State) (j : Nat) : State := s.bump F.FX_ADM_GSTAT_COUNT j

/-! ### ECN (R238, R239) -/

/-- A copy admitted to a queue is marked: the conditions of R238, and the bindings of R239.  The random test draws an open value. -/
def State.ecnMark (s : State) (p : Pkt) (qi : Nat) : State × Bool :=
  let src := p.region - 1
  let u := s.charged qi / 16
  let lo := s.fld F.FX_ADM_QCFG_ECN_LO qi
  let hi := s.fld F.FX_ADM_QCFG_ECN_HI qi
  let ect := p.tos % 4 == 1 || p.tos % 4 == 2
  if p.region = 0 ∨ !s.flag F.FX_ADM_QCFG_ECN_EN qi ∨ !s.flag F.FX_ADM_SRC_ECN_EN src ∨ !ect ∨ u < lo then (s, false)
  else
    let sure := decide (hi ≤ lo) || decide (hi - lo + 1 ≤ u - lo + 1)
    let pass := sure || decide (s.free % 256 < 256 * (u - lo + 1) / (hi - lo + 1))
    let s := if sure then s else s.drawn
    let v4 := bit (Map.get 0 99 p.phv) (s.fld F.FX_ADM_SRC_V4_BIT src)
    if !pass then (s, false)
    else if p.ecn.isNone ∨ (v4 ∧ s.flag F.FX_ADM_SRC_CSUM_EN src ∧ p.csum.isNone) then (s.admCount 2, false)
    else (s.bump F.FX_ADM_QSTAT_COUNT (7 * qi + 5), true)

/-- 16-bit bits of a frame at a bit position. -/
def getField (bs : List Byte) (pos w : Nat) : Nat :=
  let n := min bs.length 272
  if 8 * n < pos + w then 0 else bits (ofBe (bs.take n)) (8 * n - pos - w) w

/-- Fold a ones'-complement sum to 16 bits. -/
def fold16 (x : Nat) : Nat := s16 (s16 x)

/-- The frame with CE set, and its checksum under RFC 1624, equation 3 (R239). -/
def State.markBytes (s : State) (p : Pkt) : List Byte :=
  match p.ecn with
  | none => p.bytes
  | some b =>
    let src := p.region - 1
    let old := getField p.bytes b.pos 8
    let new := Nat.lor old 3
    let bs := putField p.bytes b.pos 8 new
    match p.csum with
    | some c =>
      if s.flag F.FX_ADM_SRC_CSUM_EN src ∧ bit (Map.get 0 99 p.phv) (s.fld F.FX_ADM_SRC_V4_BIT src) then
        let hc := getField p.bytes c.pos 16
        putField bs c.pos 16 (0xFFFF - fold16 (fold16 ((0xFFFF - hc) + (0xFFFF - old)) + new))
      else bs
    | none => bs

/-! ### Admission of one copy (R227, R231, R234) -/

/-- The copy that a logical port sends cut-through now. -/
def State.sending (s : State) (lp : Nat) : Option CutTx := s.fx.cuts.find? (fun x => x.lp == lp && x.bytes.isSome)

/-- The copy is admitted cut-through (R234): a frame that no pipeline brought, such as one from a stitch port, is not. -/
def State.cutOk (s : State) (p : Pkt) (c : Copy) : Bool :=
  let qi := queueIx c.lp c.cls
  c.kind == 0 && c.group == 0 && c.remote.isNone && p.region != 0 && decide (p.ingress < 512) && decide (c.lp < 512)
    && !s.flag F.PA_MAC_PORT_CFG_STITCH (p.ingress / 4) && !s.flag F.PA_MAC_PORT_CFG_STITCH (c.lp / 4)
    && s.flag F.FX_ADM_PORT_CT_ING p.ingress && s.flag F.FX_ADM_QCFG_CT_EN qi
    && (s.queue qi).isEmpty && (match s.sending c.lp with | some x => x.cls != c.cls | none => true)
    && decide (s.fld F.PA_MAC_LINK_STATUS_SPEED_RES p.ingress ≤ s.fld F.PA_MAC_LINK_STATUS_SPEED_RES c.lp)

/-- Store an admitted copy: segments for the frame where it still wants them, the queue charged, the copy at the queue's tail, marked as it is written (R239). -/
def State.enqueue (s : State) (fid : Nat) (f : FxFrame) (c : Copy) (n : Nat) : State :=
  let qi := queueIx c.lp c.cls
  let len := f.pkt.bytes.length
  let cut := s.cutOk f.pkt c
  let x := s.alloc f.want f.segs
  let s := x.1.setCharge qi (s.charged qi + n)
  let s := (s.bump F.FX_ADM_QSTAT_COUNT (7 * qi)).bump F.FX_ADM_QSTAT_COUNT (7 * qi + 1) len
  let s := if cut then s.bump F.FX_ADM_QSTAT_COUNT (7 * qi + 6) else s
  let m := if c.kind = 0 ∧ c.group = 0 then s.ecnMark f.pkt qi else (s, false)
  let mark := if m.2 then some (m.1.markBytes f.pkt) else none
  let s := m.1.setQueue qi (s.queue qi ++ [{ c with fid := fid, ts := s.now, cut := cut, mark := mark, eligible := f.tail && decide (x.2.2 = 0) }])
  let s := s.setFrame fid (some { f with segs := x.2.1, want := x.2.2, live := f.live + 1 })
  let s := (s.withFx { s.fx with bw := s.fx.bw.filter (fun (e : Nat × Nat) => decide (s.now ≤ e.1 + 10000)) ++ [(s.now, len)] })
  s.bgKeep

/-- A logical port is a stitch logical port (R274). -/
def State.stitchLp (s : State) (lp : Nat) : Bool := decide (480 ≤ lp) && decide (lp < 512) && lp % 4 == 0 && s.isStitch lp

/-- Admit or drop one copy of a frame (R227, R245); with the first copy that is tested, the frame's segments come out of F (R231).  A stitch link takes no copy of a frame that came from one (R275): it counts as a copy without a route (DEDUCED, log entry 66). -/
def State.admitCopy (s : State) (fid : Nat) (c : Copy) : State :=
  match s.frame? fid with
  | none => s
  | some f =>
    let qi := queueIx c.lp c.cls
    let n := f.pkt.segments
    let u := s.charged qi
    let mn := s.minOf qi
    let us := u - mn
    let ns := (u + n - mn) - us
    let g := if f.segs.isEmpty ∧ f.want = 0 then { f with want := n } else f
    if c.lp = 1023 then s.admCount 7
    else if f.pkt.stitched ∧ s.stitchLp c.lp then s.bump F.FX_STC_STAT_COUNT 0
    else if s.fenced (lpRegion c.lp) then (s.setFrame fid (some g)).dropCopy qi 2
    else if ns ≠ 0 ∧ s.limitOf qi < us + ns then (s.setFrame fid (some g)).dropCopy qi 0
    else if s.freeF < ns then (s.setFrame fid (some g)).dropCopy qi 1
    else s.enqueue fid g c n

/-- Admit a frame of an internal source, whose place in the order of R225 is that of its command (DESIGN CHOICE, log entry 60; R315). -/
def State.admitDirect (s : State) (p : Pkt) (c : Copy) : State :=
  let (s, fid) := s.newFrame { pkt := p, tail := true }
  (s.admitCopy fid c).reap fid

/-! ### Replication and routes (R232, R233, R280, R281) -/

/-- Member `i` of the member list; none where it is invalid. -/
def State.replMember (s : State) (i : Nat) : Option Nat :=
  let j := i / 2
  let v := if i % 2 = 1 then s.flag F.FX_REPL_MEMBER_ODD_VALID j else s.flag F.FX_REPL_MEMBER_EVEN_VALID j
  let lp := if i % 2 = 1 then s.fld F.FX_REPL_MEMBER_ODD_LP j else s.fld F.FX_REPL_MEMBER_EVEN_LP j
  if v ∧ lp ≤ 540 then some lp else none

/-- The logical ports a group copies to (R232, R283); none where it drops the frame. -/
def State.groupLps (s : State) (g : Nat) (p : Pkt) : Option (List Nat) :=
  let n := min (s.fld F.FX_REPL_GROUP_COUNT g) 541
  if !s.flag F.FX_REPL_GROUP_VALID g ∨ n = 0 then none
  else
    let base := s.fld F.FX_REPL_GROUP_BASE g
    let lps := (List.range n).filterMap (fun i => s.replMember ((base + i) % 262144))
    some (lps.filter (fun lp => !(p.stitched && s.stitchLp lp) && (p.noPrune || !(s.flag F.FX_REPL_GROUP_PRUNE_SRC g && lp == p.ingress))))

/-- The copies a group stands for. -/
def State.expand (s : State) (p : Pkt) (c : Copy) : State × List Copy :=
  match s.groupLps c.group p with
  | none => (s.admCount 1, [])
  | some lps => (s, lps.map (fun lp => { c with kind := 1, lp := lp }))

/-- The active members of a route, in rising order. -/
def State.activeMembers (s : State) (d : Nat) : List Nat := (List.range 8).filter (fun k => bit (s.fld F.FX_STC_ROUTE_ACTIVE d) k)

/-- The stitch logical port of a remote frame (R281); none where the route has no active member. -/
def State.stitchPort (s : State) (d ing dest cls : Nat) : Option Nat :=
  match s.activeMembers d with
  | [] => none
  | ms => some (480 + 4 * ms.getD ((5 * ing + 3 * dest + cls) % ms.length) 0)

/-! ### Mirror and CPU copies (R120 to R122) -/

/-- This hit of a session is one to copy: one in ONE_IN, at an open place in each group (R122). -/
def State.oneIn (s : State) (region session : Nat) : State × Bool :=
  let n := s.fld F.FX_REPL_MIR_SESSION_ONE_IN session
  if n < 2 then (s, true)
  else
    let k := 64 * region + session
    let v := Map.get 0 k s.fx.oneIn
    let (s, v) := if v % 2 ^ 32 = 0 then (s.drawn, s.free % n * 2 ^ 32) else (s, v)
    let i := v % 2 ^ 32
    let v' := if n ≤ i + 1 then 0 else v + 1
    ((s.withFx { s.fx with oneIn := Map.set 0 k v' s.fx.oneIn }), i == v / 2 ^ 32)

/-- The copy of a mirror session, if this hit makes one. -/
def State.mirrorCopy (s : State) (region session : Nat) : State × List Copy :=
  let (s, hit) := s.oneIn region session
  if !hit then (s, [])
  else
    let t := s.fld F.FX_REPL_MIR_SESSION_TRUNC session
    (s, [{ fid := 0, lp := s.fld F.FX_REPL_MIR_SESSION_DEST_LP session, cls := s.fld F.FX_REPL_MIR_SESSION_CLASS session, kind := 2,
           trunc := if t = 0 then 0 else max t 64 }])

/-- The copies C106 and C105 ask for. -/
def State.sideCopies (s : State) (x : Ctx) : State × List Copy :=
  let w := x.c 106
  let (s, a) := if bit w 31 then s.mirrorCopy x.region (bits w 25 6) else (s, [])
  let (s, b) := if bit w 24 then s.mirrorCopy x.region (bits w 18 6) else (s, [])
  let cpu := x.c 105
  let i := 256 * (x.region - 1) + bits cpu 23 8
  let c : List Copy := if bit cpu 31 then
      [{ fid := 0, lp := s.fld F.PA_PRS_CPU_TGT_LP i, cls := s.fld F.PA_PRS_CPU_TGT_CLASS i, kind := 3,
         trunc := match s.fld F.PA_PRS_CPU_TGT_TRUNC i with | 0 => 0 | 1 => 64 | 2 => 128 | _ => 256,
         ring := s.fld F.PA_PRS_CPU_TGT_RING i, reason := bits cpu 15 8 }] else []
  (s, a ++ b ++ c)

/-! ### Ingress exit (R120, R134, R232, R238, R280) -/

/-- The replication group a packet selects (R232). -/
def State.groupOf (s : State) (x : Ctx) : Option Nat :=
  let i := x.region - 1
  let v := x.c (s.fld F.FX_ADM_SRC_REPL_CONT i)
  if s.flag F.FX_ADM_SRC_REPL_EN i ∧ bit v 31 then some (bits v 0 14) else none

/-- The stitch container where it is acted on (R280). -/
def State.remoteOf (s : State) (x : Ctx) : Option Nat :=
  let i := x.region - 1
  let v := x.c (s.fld F.FX_STC_SRC_CONT i)
  if s.flag F.FX_STC_SRC_EN i ∧ bit v 31 ∧ bits v 28 2 ≠ s.devid then some v else none

/-- The primary frame's copies: none where it is dropped.  A remote copy finds its stitch port when its turn at the admission stage comes. -/
def State.primaryCopies (s : State) (x : Ctx) : State × List Copy :=
  let w := x.c 104
  let cls := bits w 18 4
  if x.dropped then (s, [])
  else match s.groupOf x with
    | some g => (s, [{ fid := 0, lp := 0, cls := cls, kind := 4, group := g }])
    | none =>
      match s.remoteOf x with
      | some v => (s, [{ fid := 0, lp := 1023, cls := cls, kind := 0, remote := some v }])
      | none => (s, [{ fid := 0, lp := bits w 22 10, cls := cls, kind := 0 }])

/-- The containers a bridge list names, without repeats. -/
def bridged (sel : List Nat) : List Nat := ((sel.filter (fun b => bit b 7 && decide (b % 128 < 96))).map (· % 128)).eraseDups

/-- The linked generation of an ingress pipeline's program of epoch `e` (R174, R185). -/
def State.genOf (s : State) (p e : Nat) : Nat := if Map.get false p s.prog.linked ∧ e ≠ s.epoch p then 1 - s.prog.gen else s.prog.gen

/-- The bridge record of a packet at ingress exit (R134, R174, R238, R276). -/
def State.bridge (s : State) (x : Ctx) (p : Nat) (stitched : Bool) (bytes orig : List Byte) : Pkt :=
  let i := x.region - 1
  let sel := (s.pipeBank p (bits (x.c 96) 17 1)).bridge
  let keep := bridged sel
  let phv := x.phv.filter (fun e => keep.contains e.1 || (decide (96 ≤ e.1) && decide (e.1 ≤ 108)) || (decide (120 ≤ e.1) && decide (e.1 < 128)))
  let info := putBits (x.c 96) 0 14 bytes.length
  let bind (c w : Nat) : Option Bind := match x.binds.find? (fun b => b.cont == c && b.width == w) with
    | some b => moveBind x.edit b
    | none => none
  { bytes := bytes, orig := orig, phv := Map.set 0 96 info phv,
    binds := (x.binds.filter (fun b => keep.contains b.cont)).filterMap (moveBind x.edit),
    tos := x.c (s.fld F.FX_ADM_SRC_ECN_CONT i), ecn := bind (s.fld F.FX_ADM_SRC_ECN_CONT i) 8, csum := bind (s.fld F.FX_ADM_SRC_CSUM_CONT i) 16,
    lgen := s.genOf p (bits (x.c 96) 17 1), region := x.region, ingress := bits (x.c 96) 22 10, stitched := stitched,
    stitchExt := if s.flag F.FX_STC_SRC_BRIDGE_EXT i then sel ++ sel.map (fun b => x.c (b % 128)) else [] }

/-- Frames of classes 12 to 15 in a FIFO. -/
def holdsExpress (q : List AdmItem) : Bool := q.any (fun a => decide (12 ≤ a.cls))

/-- Put a frame with its copies into the admission stage of pipeline `n` (R224). -/
def State.toStage (s : State) (n cls : Nat) (single : Bool) (f : FxFrame) (copies : List Copy) : State :=
  if copies.isEmpty then s
  else
    let mq := Map.get [] n s.fx.mainq
    let eq := Map.get [] n s.fx.express
    if 12 ≤ cls ∧ single ∧ !holdsExpress mq then
      let (s, fid) := s.newFrame f
      (s.withFx { s.fx with express := Map.set [] n (eq ++ [{ fid := fid, cls := cls, copies := copies }]) s.fx.express })
    else if 64 ≤ mq.length then s.admCount 6
    else
      let (s, fid) := s.newFrame f
      (s.withFx { s.fx with mainq := Map.set [] n (mq ++ [{ fid := fid, cls := cls, copies := copies }]) s.fx.mainq })

/-! ### LB_GRANT (R81, R96, R173) -/

/-- The port whose turn it is: the first of the pipeline's four from its pointer on that holds a frame and may be taken (R81, R224). -/
def State.grantPort (s : State) (n : Nat) : Option Nat :=
  let full := decide (64 ≤ (Map.get [] n s.fx.mainq).length)
  ((List.range 4).map (fun i => 4 * n + (Map.get 0 n s.mac.grant + i) % 4)).find? (fun p =>
    !(s.lbHeld p).isEmpty && (!full || s.flag F.PA_MAC_LB_CFG_SCHED_SRC p))

/-- Run a granted frame through parser, cells and exit, and hand its copies to admission. -/
def State.ingress (s : State) (n : Nat) (g : LbFrame) (ecc : List EccHit) (excess : Bool) : State :=
  let region := n / 8 + 1
  let q := n % 8
  let p := pipeIx region q
  let cur := s.epoch p
  let epoch := if g.recircIn then g.epoch else cur
  let alt := epoch ≠ s.epoch (pipeIx region 0)
  let info := g.src * 2 ^ 22 + b2n (g.recircIn) * 2 ^ 21 + g.recirc * 2 ^ 18 + epoch * 2 ^ 17 + g.bytes.length
  let start := s.gfld alt F.PA_PRS_START_STATE (129 * (region - 1) + (if g.recircIn then 128 else g.lp % 128))
  let (s, x) := s.parse alt region start info g.ts g.bytes
  let x := (List.range 8).foldl (fun x i => x.set (120 + i) (g.user.getD i 0)) x
  let pb := s.pipeBank p epoch
  let (s', x, bad) := s.runCells x q epoch (if g.recircIn then pb.recirc else pb.entry) ecc 20
  match bad with
  | some (cell, idx, fresh) => (s.countCorr region q ecc cell).cellFault region q epoch cell idx fresh
  | none =>
    let (s, x) := (s'.countCorr region q ecc 19).pipeExit x q
    let bytes := x.writeBack g.bytes
    let s := s.sampleRecords x excess
    let (s, prim) := s.primaryCopies x
    let (s, side) := s.sideCopies x
    let pkt := s.bridge x p g.stitched bytes g.bytes
    let single := match prim with | [c] => c.kind == 0 | _ => false
    s.toStage n (bits (x.c 104) 18 4) single { pkt := pkt, tail := false, bad := g.bad } (prim ++ side)

/-- LB_GRANT: pipeline `n` (8 per region); while FX is being reset, frames stay where they are (R15); a half forced off drops recirculated frames (R527). Otherwise it takes the next frame of its ports, or of its region's recirculation port. -/
def State.lbGrant (s : State) (n : Nat) (recirc : Bool) (ecc : List EccHit) (excess : Bool) : State :=
  let region := n / 8 + 1
  let dom := halfDomain region (n % 8)
  if !s.inService ∨ s.fenced region ∨ s.fenced 5 then s
  else if recirc ∧ s.forcedOff dom ∧ !(s.lbHeld (128 + region)).isEmpty then
    ((s.withMac { s.mac with lb := Map.set [] (128 + region) (s.lbHeld (128 + region)).tail s.mac.lb })).bumpSat F.AO_PD_CTRL_BLOCKED dom
  else if !s.awake dom then s
  else if recirc then
    match s.lbHeld (128 + region) with
    | g :: rest =>
      if 64 ≤ (Map.get [] n s.fx.mainq).length then s
      else ((s.withMac { s.mac with lb := Map.set [] (128 + region) rest s.mac.lb })).ingress n g ecc excess
    | [] => s
  else match s.grantPort n with
    | none => s
    | some port =>
      match s.lbHeld port with
      | g :: rest =>
        ((s.withMac { s.mac with lb := Map.set [] port rest s.mac.lb, grant := Map.set 0 n ((port + 1) % 4) s.mac.grant })).ingress n g ecc excess
      | [] => s

/-! ### ADMISSION_ENQUEUE (R224, R225) -/

/-- The first item of a stage: express first. -/
def State.stageHead (s : State) (n : Nat) : Option (Bool × AdmItem × List AdmItem) :=
  match Map.get [] n s.fx.express, Map.get [] n s.fx.mainq with
  | a :: as, _ => some (true, a, as)
  | [], a :: as => some (false, a, as)
  | [], [] => none

def State.setStage (s : State) (n : Nat) (ex : Bool) (q : List AdmItem) : State :=
  if ex then (s.withFx { s.fx with express := Map.set [] n q s.fx.express })
  else (s.withFx { s.fx with mainq := Map.set [] n q s.fx.mainq })

/-- A frame waits for segments that an admitted copy of it needs (R241). -/
def State.stageStalled (s : State) (fid : Nat) : Bool :=
  match s.frame? fid with | some f => f.want != 0 && f.live != 0 | none => false

/-- The stage has a frame that does not wait for segments. -/
def State.stageReady (s : State) (n : Nat) : Bool :=
  match s.stageHead n with | some (_, a, _) => !s.stageStalled a.fid | none => false

/-- The copies a list stands for when the turn of its first comes: a group is expanded (R232), and a route followed; without an active member the copy is dropped and counted (R245, R280). -/
def State.unfold (s : State) (p : Pkt) : List Copy → State × List Copy
  | [] => (s, [])
  | c :: cs =>
    if c.kind = 4 then (let e := s.expand p c; (e.1, e.2 ++ cs))
    else match c.remote with
      | none => (s, c :: cs)
      | some v =>
        match s.stitchPort (bits v 28 2) p.ingress (bits v 16 10) c.cls with
        | some lp => (s, { c with lp := lp } :: cs)
        | none => (s.bump F.FX_STC_STAT_COUNT 0, cs)

/-- One copy of the head frame of a stage is enqueued; the frame stays at the head while a segment of it is to come (R224, R241). -/
def State.serveStage (s : State) (n : Nat) : State :=
  match s.stageHead n with
  | none => s
  | some (ex, a, rest) =>
    match s.frame? a.fid with
    | none => s.setStage n ex rest
    | some f =>
      let x := s.unfold f.pkt a.copies
      match x.2 with
      | [] => (x.1.setStage n ex rest).reap a.fid
      | c :: cs =>
        let s := x.1.admitCopy a.fid c
        (s.setStage n ex (if cs.isEmpty && !s.stageStalled a.fid then rest else { a with copies := cs } :: rest)).reap a.fid

/-- The next place of a clock's order, from place `k` on, whose stage has a copy to enqueue (R225). -/
def State.nextPlace (s : State) (first k : Nat) : Option Nat := ((List.range 32).drop k).find? (fun i => s.stageReady ((first + i) % 32))

/-- The stage whose turn it is (R225): each stage has one turn in a clock, and the stage after the one that came first in the last clock comes first in the next. -/
def State.admTurn (s : State) : Option (State × Nat) :=
  let x := s.fx
  match s.nextPlace x.admFirst x.admPos with
  | some i =>
    let n := (x.admFirst + i) % 32
    some (s.withFx { x with admPos := i + 1, admCame := if x.admPos = 0 then n else x.admCame }, n)
  | none =>
    let first := if x.admPos = 0 then x.admFirst else (x.admCame + 1) % 32
    match s.nextPlace first 0 with
    | some i => some (s.withFx { x with admFirst := first, admPos := i + 1, admCame := (first + i) % 32 }, (first + i) % 32)
    | none => none

/-- ADMISSION_ENQUEUE: the stage whose turn it is enqueues one copy. -/
def State.admissionEnqueue (s : State) : State :=
  if s.fenced 5 then s
  else match s.admTurn with
    | some (s, n) => s.serveStage n
    | none => s

def execAdmissionEnqueue (_ : Unit) (s : State) : Host.Outcome State Fault Refusal := .next s.admissionEnqueue

/-- A frame whose copies are all enqueued leaves its admission stage. -/
def State.stagesLeave (s : State) (fid : Nat) : State :=
  let cut (m : Map (List AdmItem)) : Map (List AdmItem) :=
    (m.map (fun e => (e.1, e.2.filter (fun a => a.fid != fid || !a.copies.isEmpty)))).filter (fun e => !e.2.isEmpty)
  s.withFx { s.fx with mainq := cut s.fx.mainq, express := cut s.fx.express }

/-- `q` quarters of a nanosecond pass for the main FIFOs that are full: STALL_CLOCKS counts FX clocks, two fifths of one in each (R247). -/
def State.stallTick (s : State) (q : Nat) : State :=
  let n := ((List.range 32).filter (fun p => decide (64 ≤ (Map.get [] p s.fx.mainq).length))).length
  if n = 0 ∨ s.fenced 5 then s
  else
    let t := s.fx.stallRest + 2 * q * n
    (s.withFx { s.fx with stallRest := t % 5 }).bump F.FX_ADM_GSTAT_COUNT 5 (t / 5)

/-! ### Queue configuration (R228, R229) -/

/-- QCFG_WRITE of word 0 or 1 of a queue. -/
def State.qcfgWrite (s : State) (who : Party) (qi word v : Nat) : State :=
  if word = 1 then (s.put who F.FX_ADM_QCFG_ECN_HI qi (bits v 16 16)).put who F.FX_ADM_QCFG_ECN_LO qi (bits v 0 16)
  else
    let k := bits v 26 4
    let mn := bits v 0 20
    if (4 ≤ k ∧ k ≤ 8) ∨ 524288 < s.guarantee - s.minOf qi + mn then s.raise 660 [.w qi]
    else
      let s := ((s.put who F.FX_ADM_QCFG_CT_EN qi (bits v 31 1)).put who F.FX_ADM_QCFG_ECN_EN qi (bits v 30 1)).put who F.FX_ADM_QCFG_K qi k
      s.put who F.FX_ADM_QCFG_MIN qi mn

def execQcfgWrite (who : Party) (qi : Fin 8656) (word : Fin 2) (v : Word) (s : State) : Host.Outcome State Fault Refusal :=
  .next (s.writeTo who 5 1 false (·.qcfgWrite who qi.val word.val v.toNat))

/-! ### Eligibility and tails (R234, R235) -/

/-- Mark every copy of a frame in the queues that meets a test eligible. -/
def State.makeEligible (s : State) (fid : Nat) (p : Copy → Bool) : State :=
  (s.withFx { s.fx with queues := s.fx.queues.map (fun e => (e.1, e.2.map (fun c => if c.fid = fid ∧ p c then { c with eligible := true } else c))) })

/-- CUT_THROUGH_ELIGIBLE: the first 256 bytes of a queue's cut-through head are written. -/
def State.cutEligible (s : State) (qi : Nat) : State :=
  match s.queue qi with
  | c :: cs => if c.cut then s.setQueue qi ({ c with eligible := true } :: cs) else s
  | [] => s

def execCutThroughEligible (qi : Fin 8656) (s : State) : Host.Outcome State Fault Refusal := .next (s.cutEligible qi.val)

/-- A copy of a frame whose tail has brought a violation stays in its queue: one in cut-through that was eligible before (R83, R235). -/
def Copy.leaves (c : Copy) : Bool := c.cut && c.eligible

/-- How many copies of a frame in the queues meet a test. -/
def State.copies (s : State) (fid : Nat) (p : Copy → Bool) : Nat :=
  s.fx.queues.foldl (fun a e => a + (e.2.filter (fun c => c.fid == fid && p c)).length) 0

/-- Take the copies of a frame out of the queues, with their charge, but for those that leave all the same. -/
def State.discardCopies (s : State) (fid n : Nat) : State :=
  let gone (c : Copy) : Bool := c.fid == fid && !c.leaves
  let s := (s.fx.queues.filter (fun e => e.2.any gone)).foldl (fun s e =>
    (s.setQueue e.1 (e.2.filter (fun c => !gone c))).setCharge e.1 (s.charged e.1 - (e.2.filter gone).length * n)) s
  match s.frame? fid with
  | some f => s.setFrame fid (some { f with live := s.copies fid (fun _ => true) })
  | none => s

/-- Copies of a frame are still to be made. -/
def State.staged' (s : State) (fid : Nat) : Bool := (s.fx.mainq ++ s.fx.express).any (fun e => e.2.any (fun a => a.fid == fid && !a.copies.isEmpty))

/-- Drop the copies of a frame still to be made. -/
def State.dropStaged (s : State) (fid : Nat) : State :=
  let cut (m : Map (List AdmItem)) : Map (List AdmItem) :=
    (m.map (fun e => (e.1, e.2.filter (·.fid != fid)))).filter (fun e => !e.2.isEmpty)
  (s.withFx { s.fx with mainq := cut s.fx.mainq, express := cut s.fx.express })

/-- The bytes a copy leaves FX with: the mirror copy as it entered the parser, truncated as its target states. -/
def Pkt.copyBytes (p : Pkt) (c : Copy) : List Byte :=
  let bs := if c.kind = 2 then p.orig else c.mark.getD p.bytes
  if c.trunc = 0 then bs else bs.take c.trunc

end Sys2Proof.Machine
end

