-- ==== Sys2Proof/Machine/Sched.lean ====
section
/-! DEFINITION. Scheduling: gate control lists, express classes, Carousel, shapers, the egress pipeline, tails and queue sampling (R234 to R236, R241, R244, R249 to R273). -/

namespace Sys2Proof.Machine

/-! ### Speeds and wire time (R253) -/

/-- A frame of `len` bytes sent from `t` ends no later than `stop`, at a speed in Mb/s. -/
def endsBy (len mbps t stop : Nat) : Bool := decide ((len + 24) * 8000 ≤ (stop - t) * mbps)

/-! ### Gate lists (R252, R255 to R257) -/

/-- A gate list: bank, entries, cycle in ns, start. -/
structure GateList where
  lp : Nat
  bank : Nat
  len : Nat
  cycle : Nat
  base : Nat
  deriving DecidableEq, Repr

/-- ADMIN_LEN and ADMIN_CYCLE as used (R257). -/
def gateLen (v : Nat) : Nat := min (max v 1) 256
def gateCycle (v : Nat) : Nat := min (max (v / 8 * 8) 256) 1000000000

/-- The operative list of a logical port, where it has one. -/
def State.operList (s : State) (lp : Nat) : Option GateList :=
  if lp < 512 ∧ s.flag F.FX_TM_GATE_CFG_OPER_EN lp then
    some { lp := lp, bank := s.fld F.FX_TM_GATE_CFG_OPER_BANK lp, len := gateLen (Map.get 0 lp s.tm.operLen),
           cycle := gateCycle (Map.get 0 lp s.tm.operCycle), base := s.fld F.FX_TM_GATE_CFG_OPER_CHANGE_TIME lp }
  else none

/-- The list that a pending change will make operative at T. -/
def State.nextList (s : State) (lp t : Nat) : Option GateList :=
  if s.flag F.FX_TM_GATE_CFG_ADMIN_EN lp then
    some { lp := lp, bank := 1 - s.fld F.FX_TM_GATE_CFG_OPER_BANK lp, len := gateLen (s.fld F.FX_TM_GATE_CFG_ADMIN_LEN lp),
           cycle := gateCycle (s.fld F.FX_TM_GATE_CFG_ADMIN_CYCLE lp), base := t }
  else none

/-- Index of an entry in FX_GCL_ENTRY. -/
def GateList.entry (g : GateList) (e : Nat) : Nat := 512 * g.lp + 256 * g.bank + e

/-- The entry in force `t` ns into a cycle, from entry `e`, and when it ends. -/
def State.gateSeek (s : State) (g : GateList) (n e start t : Nat) : Nat × Nat :=
  match n with
  | 0 => (e, g.cycle)
  | n + 1 =>
    let stop := start + 8 * max (s.fld F.FX_GCL_ENTRY_INTERVAL (g.entry e)) 1
    if g.len ≤ e + 1 then (e, g.cycle)
    else if t < stop then (e, min stop g.cycle)
    else s.gateSeek g n (e + 1) stop t

/-- The gates of classes 12 to 15 (bits 0 to 3), CLOSE_OTHERS and the entry at an instant, and when they may next change. -/
structure GateSpan where
  gates : Nat
  others : Bool
  entry : Nat
  stop : Nat
  deriving DecidableEq, Repr

def State.spanOf (s : State) (g : GateList) (t : Nat) : GateSpan :=
  let k := (t - g.base) % g.cycle
  let x := s.gateSeek g 256 0 0 k
  { gates := s.fld F.FX_GCL_ENTRY_GATES (g.entry x.1), others := s.flag F.FX_GCL_ENTRY_CLOSE_OTHERS (g.entry x.1), entry := x.1, stop := t - k + x.2 }

/-- The span of a logical port at instant `t`, a pending change cutting it at T; none where no list is operative then. -/
def State.gateAt (s : State) (lp t : Nat) : Option GateSpan :=
  let pend := Map.get 0 lp s.tm.pending
  if pend ≠ 0 ∧ pend ≤ t then (s.nextList lp pend).map (fun g => s.spanOf g t)
  else match s.operList lp with
    | some g => let x := s.spanOf g t; some (if pend ≠ 0 then { x with stop := min x.stop pend } else x)
    | none => if pend ≠ 0 then some { gates := 15, others := false, entry := 0, stop := pend } else none

/-- The instant at which a condition on the gates next ends, from `t`, looking `n` spans ahead; none where it holds for good. -/
def State.gateUntil (s : State) (lp t n : Nat) (p : GateSpan → Bool) : Option Nat :=
  match n with
  | 0 => none
  | n + 1 =>
    match s.gateAt lp t with
    | none => none
    | some x => if p x then (if x.stop ≤ t then none else s.gateUntil lp x.stop n p) else some t

/-- The gate of class 12 + `k` is open in a span. -/
def GateSpan.open' (x : GateSpan) (k : Nat) : Bool := bit x.gates k

/-- The next transition that opens a gate of classes 12 to 15 or sets CLOSE_OTHERS (R254); where no list is operative any more, every gate is open. -/
def State.nextOpening (s : State) (lp t n : Nat) : Option Nat :=
  match n with
  | 0 => none
  | n + 1 =>
    match s.gateAt lp t with
    | none => none
    | some x =>
      if x.stop ≤ t then none
      else match s.gateAt lp x.stop with
        | none => if x.gates = 15 then none else some x.stop
        | some y => if Nat.land y.gates (15 - x.gates) ≠ 0 ∨ (y.others ∧ !x.others) then some x.stop else s.nextOpening lp x.stop n

/-- The spans of a list from instant `t` up to `stop`, each with its length: whether the gate of class 12 + `k` is open in it. -/
def State.openSpans (s : State) (g : GateList) (k t stop n : Nat) : List (Bool × Nat) :=
  match n with
  | 0 => []
  | n + 1 =>
    let x := s.spanOf g t
    if stop ≤ t ∨ x.stop ≤ t then [] else (x.open' k, x.stop - t) :: s.openSpans g k x.stop stop n

/-- The longest run of open spans, with the run in hand. -/
def longestRun (run best : Nat) : List (Bool × Nat) → Nat
  | [] => max run best
  | (true, n) :: xs => longestRun (run + n) best xs
  | (false, _) :: xs => longestRun 0 (max run best) xs

/-- The longest open interval of a class in the operative list, joined around the cycle (R253); none where its gate never closes. -/
def State.longestOpen (s : State) (g : GateList) (k : Nat) : Option Nat :=
  let xs := s.openSpans g k g.base (g.base + g.cycle) 257
  if xs.all (·.1) then none else some (longestRun 0 0 (xs ++ xs))

/-- When the next window for classes 12 to 15 of a logical port opens, from `t`: now, where one is open; none where none is to come (R61, R86). -/
def State.firstWindow (s : State) (lp t n : Nat) : Option Nat :=
  let pend := Map.get 0 lp s.tm.pending
  if (s.operList lp).isSome then s.gateUntil lp t n (·.gates == 0)
  else if pend = 0 then none
  else s.gateUntil lp (max t pend) n (·.gates == 0)

/-! ### Shapers (R260) -/

/-- The head copy of a queue that may be sent. -/
def State.head (s : State) (lp c : Nat) : Option Copy :=
  match s.queue (queueIx lp c) with
  | h :: _ => if h.eligible then some h else none
  | [] => none

def State.lpSpeed (s : State) (lp : Nat) : Nat :=
  if lp < 512 then (if s.lpUp lp then speedMbps (s.fld F.PA_MAC_LINK_STATUS_SPEED_RES lp) else speedMbps (s.fld F.PA_MAC_SUBPORT_CFG_SPEED lp))
  else if lp < 528 then 400000 else if lp < 536 then 200000 else if lp = 536 then 10000 else 800000

/-- Credit cap of a BURST field, in 1/16,000 bit. -/
def burstBits (v : Nat) : Nat := (v + 1) * 1024 * 8 * 16000

/-- RATE as used. -/
def rateOf (v : Nat) : Nat := min (max v 1) 400000

/-- Credit of a shaper now, at a rate in 1/16 Mb/s; key: queue index, or 8656 + logical port. -/
def State.credit (s : State) (key rate burst : Nat) : Int :=
  match Map.get (0, 0) key s.tm.credit with
  | (_, 0) => burst
  | (c, t + 1) => min (c + rate * (s.now - t)) burst

def State.setCredit (s : State) (key : Nat) (c : Int) : State :=
  (s.withTm { s.tm with credit := Map.set (0, 0) key (c, s.now + 1) s.tm.credit })

/-- Rate of a queue's shaper in 1/16 Mb/s: RATE, or the port's speed with SHAPE_EN = 0, under the planner's throttle (R544). -/
def State.queueRate (s : State) (qi : Nat) : Nat :=
  (16 - s.throttle (qi / 16) (qi % 16)) *
    (if s.flag F.FX_TM_QSCHED_SHAPE_EN qi then rateOf (s.fld F.FX_TM_QSCHED_RATE qi) else s.lpSpeed (qi / 16))

/-- The queue is shaped: by SHAPE_EN, or by the planner (R260, R544). -/
def State.shaped (s : State) (qi : Nat) : Bool :=
  decide (qi % 16 < 12) && (s.flag F.FX_TM_QSCHED_SHAPE_EN qi || decide (0 < s.throttle (qi / 16) (qi % 16)))

def State.queueCredit (s : State) (qi : Nat) : Int :=
  s.credit qi (s.queueRate qi) (burstBits (s.fld F.FX_TM_QSCHED_BURST qi))
def State.portCredit (s : State) (lp : Nat) : Int :=
  s.credit (8656 + lp) (16 * rateOf (s.fld F.FX_TM_PORT_CFG_RATE lp)) (burstBits (s.fld F.FX_TM_PORT_CFG_BURST lp))

/-- The queue's shaper lets it send. -/
def State.queueShape (s : State) (qi : Nat) : Bool := !s.shaped qi || decide (0 ≤ s.queueCredit qi)
/-- The port's shaper lets classes 0 to 11 send. -/
def State.portShape (s : State) (lp : Nat) : Bool := !s.flag F.FX_TM_PORT_CFG_SHAPE_EN lp || decide (0 ≤ s.portCredit lp)

/-- Charge shapers with `n` bytes: a queue's where `q` says so, its port's where `p` does. -/
def State.chargeShapers (s : State) (lp cls : Nat) (q p : Bool) (n : Int) : State :=
  let qi := queueIx lp cls
  let s := if q then s.setCredit qi (s.queueCredit qi - n * 128000) else s
  if p then s.setCredit (8656 + lp) (s.portCredit lp - n * 128000) else s

/-- A write that enables a shaper, or changes its RATE or BURST, fills its credit (R260); `before` and `after` are SHAPE_EN, RATE and BURST. -/
def State.shapeWritten (s : State) (key : Nat) (before after : Bool × Nat × Nat) : State :=
  if (after.1 && !before.1) || before.2 != after.2 then s.setCredit key (burstBits after.2.2) else s

/-- SHAPE_EN, RATE and BURST of a queue, and of a port. -/
def State.queueShaper (s : State) (qi : Nat) : Bool × Nat × Nat :=
  (s.flag F.FX_TM_QSCHED_SHAPE_EN qi, s.fld F.FX_TM_QSCHED_RATE qi, s.fld F.FX_TM_QSCHED_BURST qi)
def State.portShaper (s : State) (lp : Nat) : Bool × Nat × Nat :=
  (s.flag F.FX_TM_PORT_CFG_SHAPE_EN lp, s.fld F.FX_TM_PORT_CFG_RATE lp, s.fld F.FX_TM_PORT_CFG_BURST lp)

/-- `q` quarters of a nanosecond pass for the queues that hold a frame and whose credit is below 0: SHAPER_WAIT_US (R272). -/
def State.waitTick (s : State) (q : Nat) : State :=
  (s.fx.queues.filter (fun e => !e.2.isEmpty && s.shaped e.1 && decide (s.queueCredit e.1 < 0))).foldl (fun s e =>
    let t := Map.get 0 e.1 s.tm.waitRest + q
    (s.withTm { s.tm with waitRest := Map.set 0 e.1 (t % 4000) s.tm.waitRest }).bump F.FX_TM_QSTAT_COUNT (7 * e.1 + 5) (t / 4000)) s

/-! ### Head frames -/

/-- The length a copy is charged and timed by: MAX_FRAME for a cut-through copy whose tail is not written (R253, R259). -/
def State.copyLen (s : State) (c : Copy) : Nat :=
  match s.frame? c.fid with
  | some f => if c.cut ∧ !f.tail then s.maxFrame c.lp else f.pkt.bytes.length
  | none => 0

/-- The gate of a class is open now. -/
def State.gateOpen (s : State) (lp cls : Nat) : Bool :=
  match s.gateAt lp s.now with | some x => x.open' (cls - 12) | none => true

/-- The fit test of R253. -/
def State.fits (s : State) (lp cls : Nat) (c : Copy) : Bool :=
  match s.gateUntil lp s.now 520 (·.open' (cls - 12)) with
  | some stop => endsBy (s.copyLen c) (s.lpSpeed lp) s.now stop
  | none => true

/-- The guard test of R254; it always passes while no list is operative. -/
def State.guards (s : State) (lp : Nat) (c : Copy) : Bool :=
  (s.operList lp).isNone ||
    ((match s.gateAt lp s.now with | some x => !x.others | none => true)
      && (match s.nextOpening lp s.now 520 with | some stop => endsBy (s.copyLen c) (s.lpSpeed lp) s.now stop | none => true))

/-- A class 0 to 11 head may be sent by guard and shapers. -/
def State.mayGo (s : State) (lp c : Nat) : Bool :=
  match s.head lp c with
  | some h => s.guards lp h && s.queueShape (queueIx lp c) && s.portShape lp
  | none => false

/-! ### Carousel (R259) -/

def State.quantum (s : State) (qi : Nat) : Nat := min (max (s.fld F.FX_TM_QSCHED_QUANTUM qi) 1) 16384 * 64
def State.deficitOf (s : State) (qi : Nat) : Int := Map.get 0 qi s.tm.deficit
def State.setDeficit (s : State) (qi : Nat) (n : Int) : State := (s.withTm { s.tm with deficit := Map.set 0 qi n s.tm.deficit })

/-- A class that Carousel serves. -/
def State.drr (s : State) (lp c : Nat) : Bool := decide (c < 12) && !bit (s.fld F.FX_TM_PORT_CFG_EXPRESS lp) c

/-- Express queues hold no deficit (R259). -/
def State.expressHold (s : State) (lp : Nat) : State :=
  (List.range 12).foldl (fun s c => if bit (s.fld F.FX_TM_PORT_CFG_EXPRESS lp) c then s.setDeficit (queueIx lp c) 0 else s) s

/-- The charge of the head of a queue. -/
def State.headCharge (s : State) (lp c : Nat) : Nat := match s.head lp c with | some h => s.copyLen h + 24 | none => 0

/-- The visit in hand may send one more frame. -/
def State.visitGoes (s : State) (lp c : Nat) : Bool := s.drr lp c && s.mayGo lp c && decide ((s.headCharge lp c : Int) ≤ s.deficitOf (queueIx lp c))

/-- Close a visit: an empty queue loses its deficit. -/
def State.endVisit (s : State) (lp c : Nat) : State :=
  let s := (s.withTm { s.tm with visit := Map.set 0 lp 0 s.tm.visit, last := Map.set 0 lp (c + 1) s.tm.last })
  if (s.queue (queueIx lp c)).isEmpty then s.setDeficit (queueIx lp c) 0 else s

/-- Visit queues in turn until one sends, at most `n` of them: the class to send. -/
def State.carousel (s : State) (lp n : Nat) : State × Option Nat :=
  match n with
  | 0 => (s, none)
  | n + 1 =>
    match Map.get 0 lp s.tm.visit with
    | c + 1 => if s.visitGoes lp c then (s, some c) else (s.endVisit lp c).carousel lp n
    | 0 =>
      match ((List.range 12).map (fun i => (Map.get 0 lp s.tm.last + i) % 12)).find? (fun c => s.drr lp c && s.mayGo lp c) with
      | none => (s, none)
      | some c =>
        let qi := queueIx lp c
        let s := s.setDeficit qi (s.deficitOf qi + s.quantum qi)
        (s.withTm { s.tm with visit := Map.set 0 lp (c + 1) s.tm.visit }).carousel lp n

/-! ### Selection (R249) -/

/-- The head of a gated class fits no open interval of the operative list (R253). -/
def State.oversize (s : State) (lp cls : Nat) : Bool :=
  match s.operList lp, s.head lp cls with
  | some g, some h => match s.longestOpen g (cls - 12) with
    | some longest => !endsBy (s.copyLen h) (s.lpSpeed lp) 0 longest
    | none => false
  | _, _ => false

/-- Count the first failure of a head's fit test, be its gate closed or its wire time too long (R253). -/
def State.defer (s : State) (lp cls : Nat) : State :=
  let qi := queueIx lp cls
  match s.queue qi with
  | h :: rest =>
    if h.eligible ∧ !h.deferred ∧ !(s.gateOpen lp cls && s.fits lp cls h) then
      (s.setQueue qi ({ h with deferred := true } :: rest)).bump F.FX_TM_QSTAT_COUNT (7 * qi + 2)
    else s
  | [] => s

/-- Step 1: the highest of classes 12 to 15 that may go. -/
def State.gatedClass (s : State) (lp : Nat) : Option Nat :=
  [15, 14, 13, 12].find? (fun c => match s.head lp c with | some h => s.gateOpen lp c && s.fits lp c h | none => false)

/-- Step 2: the highest express class. -/
def State.expressClass (s : State) (lp : Nat) : Option Nat :=
  [11, 10, 9, 8, 7, 6, 5, 4, 3, 2, 1, 0].find? (fun c => bit (s.fld F.FX_TM_PORT_CFG_EXPRESS lp) c && s.mayGo lp c)

/-- The class to send, by the rules of R249. -/
def State.select (s : State) (lp : Nat) : State × Option Nat :=
  match s.gatedClass lp with
  | some c => (s, some c)
  | none =>
    match s.expressClass lp with
    | some c => (s, some c)
    | none => s.carousel lp 2100

/-- A class 0 to 11 queue of the port holds a frame. -/
def State.backlogged (s : State) (lp : Nat) : Bool := (List.range 12).any (fun c => !(s.queue (queueIx lp c)).isEmpty)

/-- The yield of R261, at most once per 1 ms per port. -/
def State.yieldEvent (s : State) (lp : Nat) : State := s.limited 674 lp 1 (fun _ => [.w 0x529E, .w lp])

/-! ### Leaving a queue -/

/-- Take the head copy of a queue: its charge is returned. -/
def State.popCopy (s : State) (qi : Nat) : State :=
  match s.queue qi with
  | [] => s
  | h :: rest =>
    match s.frame? h.fid with
    | some f =>
      ((s.setQueue qi rest).setCharge qi (s.charged qi - f.pkt.segments)).setFrame h.fid (some { f with live := f.live - 1 })
    | none => s.setQueue qi rest

/-- Discard the head of a queue, counted at index `j` of its counters. -/
def State.discardHead (s : State) (qi j : Nat) : State :=
  match s.queue qi with
  | [] => s
  | h :: _ => ((s.popCopy qi).bump F.FX_TM_QSTAT_COUNT (7 * qi + j)).reap h.fid

/-- Discard heads beyond every window of their class. -/
def State.dropOversize (s : State) (lp cls n : Nat) : State :=
  match n with
  | 0 => s
  | n + 1 =>
    if s.oversize lp cls then ((s.discardHead (queueIx lp cls) 3).limited 672 lp 1 (fun k => [.w lp, .w k])).dropOversize lp cls n else s

/-! ### The egress pipeline (R134, R174, R284) -/

/-- The egress PHV FX rebuilds from the bridge record. -/
def State.egressPhv (s : State) (p : Pkt) (c : Copy) (epoch len depth : Nat) : Map Nat :=
  let info := putBits (putBits (putBits (Map.get 0 96 p.phv) 0 14 len) 16 1 1) 17 1 epoch
  let act := putBits (putBits (Map.get 0 104 p.phv) 16 1 0) 8 8 0
  let set (k v : Nat) (m : Map Nat) : Map Nat := Map.set 0 k v m
  set 96 info (set 103 0 (set 104 act (set 106 0 (set 109 (c.lp * 2 ^ 22 + c.cls * 2 ^ 18)
    (set 110 (min (s.now - c.ts) 0xFFFFFFFF) (set 111 (min depth 0xFFFFFFFF) p.phv))))))

/-- The bank an egress pipeline runs for a packet (R174). -/
def State.egressBank (s : State) (p : Nat) (pkt : Pkt) : Nat :=
  let e := s.epoch p
  if Map.get false p s.prog.linked ∧ s.flag F.PA_LVC_PROG_STATUS_OLD_BUSY p ∧ pkt.lgen ≠ s.prog.gen then 1 - e else e

/-- Run the egress pipeline; answers the frame to send, none where it is dropped. -/
def State.egress (s : State) (pkt : Pkt) (c : Copy) (bytes : List Byte) (depth : Nat) (ecc : List EccHit) : State × Option (List Byte) :=
  let region := 1 + c.lp / 128
  let q := 8 + c.lp / 4 % 32 / 4
  let p := pipeIx region q
  let bank := s.egressBank p pkt
  let x : Ctx := { region := region, egress := true, phv := s.egressPhv pkt c bank bytes.length depth, binds := pkt.binds }
  let (s', x, bad) := s.runCells x q bank (s.pipeBank p bank).entry ecc 12
  match bad with
  | some (cell, idx, fresh) => ((s.countCorr region q ecc cell).cellFault region q bank cell idx fresh, none)
  | none =>
    let (s, x) := (s'.countCorr region q ecc 11).pipeExit x q
    let w := x.c 106
    let (s, side) := if bit w 31 then s.mirrorCopy region (bits w 25 6) else (s, [])
    let mir : Pkt := { bytes := bytes, orig := bytes, phv := x.phv.filter (fun e => e.1 != 106), region := 0, ingress := pkt.ingress, lgen := pkt.lgen, stitched := pkt.stitched }
    let s := side.foldl (fun s c => s.admitDirect mir c) s
    if x.dropped then (s, none) else (s, some (padFrame (x.writeBack bytes)))

/-- The stitch header and extension in front of a frame (R276, R284). -/
def State.stitchHead (s : State) (pkt : Pkt) (c : Copy) : List Byte :=
  let v := c.remote.getD 0
  let k := (c.lp - 480) / 4
  let dst := if c.remote.isSome then bits v 28 2 else s.fld F.PD_STC_LINK_NB_DEVID k
  let grp := decide (c.kind = 1)
  let ext := !pkt.stitchExt.isEmpty
  let dest := if grp then 0 else bits v 16 10
  let ge := grp || bit v 15
  let group := if grp then c.group % 2 ^ 14 else bits v 0 14
  let sel := (List.range 8).map (fun i => pkt.stitchExt.getD i 0)
  let head := beBytes 1 0x11 ++ beBytes 1 (s.devid * 64 + dst * 16 + c.cls)
    ++ beBytes 2 (dest * 64 + b2n ge * 32 + b2n ext * 16) ++ beBytes 2 (pkt.ingress * 64) ++ beBytes 2 group
    ++ beBytes 4 (Map.get 0 98 pkt.phv) ++ beBytes 4 (Map.get 0 97 pkt.phv)
  let body := (List.range 8).flatMap (fun i => beBytes 4 (Map.get 0 (120 + i) pkt.phv)) ++ sel.flatMap (fun b => beBytes 1 b)
    ++ (List.range 8).flatMap (fun i => beBytes 4 (pkt.stitchExt.getD (8 + i) 0))
  if ext then head ++ body else head

/-! ### Transmission -/

/-- What the MAC makes of a frame as it begins to send it (R70, R74, R89): protected under the SA in use then; none where it is dropped, a MAC control frame counted in TX_DISCARD (DESIGN CHOICE, log entry 59). -/
def State.macStart (s : State) (lp : Nat) (bytes : List Byte) : State × Option (List Byte) :=
  if etherType bytes = 0x8808 ∧ !s.isStitch lp then (s.macCount lp 18, none) else s.macsecTx lp bytes

/-- A frame goes out on the wire (R83, R94, R136): counted, and busy for its wire time (R79, R253). -/
def State.wireOut (s : State) (lp : Nat) (out : List Byte) (good : Bool) : State :=
  let s := (s.macCount lp 16).macCount lp 17 (out.length + 4)
  let stop := s.now + ((out.length + 24) * 8000 + s.lpSpeed lp - 1) / s.lpSpeed lp
  let s := s.withFx { s.fx with txEnd := Map.set 0 lp (stop + 1) s.fx.txEnd }
  (if good then s else s.macCount lp 20).emit (.frame lp out good)

/-- The MAC sends a whole frame. -/
def State.transmit (s : State) (lp : Nat) (bytes : List Byte) (good : Bool) : State :=
  match s.macStart lp bytes with
  | (s, none) => s
  | (s, some out) => s.wireOut lp out good

/-- A frame for an internal port reaches its receiver (R264, R315, R159). -/
def State.deliver (s : State) (pkt : Pkt) (c : Copy) (bytes : List Byte) (truncated : Bool) : State :=
  let info := Map.get 0 96 pkt.phv
  if c.lp = 536 then s.emit (.supFrame bytes (Map.get 0 97 pkt.phv + 2 ^ 32 * Map.get 0 98 pkt.phv))
  else if c.lp < 536 then
    let item : RxItem := { copy := c, bytes := bytes, info := info, ts := Map.get 0 97 pkt.phv + 2 ^ 32 * Map.get 0 98 pkt.phv,
                           hash := Map.get 0 101 pkt.phv, hashSel := Map.get 0 102 pkt.phv, cut := truncated }
    (s.withFx { s.fx with rx := Map.set [] c.lp (Map.get [] c.lp s.fx.rx ++ [item]) s.fx.rx })
  else
    let region := c.lp - 536
    let cnt := if pkt.region = 0 then 0 else min (bits info 18 3 + 1) 7
    let f : LbFrame := { lp := c.lp, bytes := bytes, ts := Map.get 0 97 pkt.phv + 2 ^ 32 * Map.get 0 98 pkt.phv, recirc := cnt, recircIn := true,
                         src := bits info 22 10, user := (List.range 8).map (fun i => Map.get 0 (120 + i) pkt.phv), epoch := bits info 17 1,
                         stitched := pkt.stitched }
    (s.withMac { s.mac with lb := Map.set [] (128 + region) (s.lbHeld (128 + region) ++ [f]) s.mac.lb })

/-! ### Segment errors (R244) -/

/-- A segment may be one of a frame's: one of its quarantined ones, or another of its bank group that is not quarantined. -/
def State.segOf (s : State) (f : FxFrame) (seg : Nat) : Bool :=
  f.quar.contains seg || (!s.fx.quar.contains seg && decide (segsIn (seg / 65536) f.quar < Map.get 0 (seg / 65536) f.segs))

/-- A segment of a frame is quarantined, once; the 65th of its bank group keeps the group DRAINING. -/
def State.quarantine (s : State) (fid seg : Nat) : State :=
  if s.fx.quar.contains seg then s
  else
    let g := seg / 65536
    let s := s.withFx { s.fx with quar := s.fx.quar ++ [seg] }
    let s := match s.frame? fid with | some f => s.setFrame fid (some { f with quar := f.quar ++ [seg] }) | none => s
    let s := s.setFld F.FX_BUF_BG_STATUS_QUAR g (min (s.bgQuar g) 255)
    if s.bgQuar g = 65 then (s.setFlag F.FX_BUF_BG_STATUS_DRAINING g true).raise 663 [.w g] else s

/-- An ECC event in a segment of a frame: corrected and counted, or the segment is quarantined, the error counted and reported. -/
def State.segmentError (s : State) (fid : Nat) (e : SegError) : State :=
  if e.corrected then s.admCount 3
  else ((s.admCount 4).raise 662 [.w (e.segment.val / 65536), .w e.segment.val]).quarantine fid e.segment.val

/-! ### DEQUEUE_SELECT -/

/-- A front port that is down discards its frame (R79, R265, R282). -/
def State.portDown (s : State) (lp : Nat) : Bool :=
  decide (lp < 512) && (!s.lpUp lp || (s.stitchLp lp && s.fld F.PD_STC_LINK_STATE ((lp - 480) / 4) != stcJoined))

/-- The port can accept a frame, or drains while it is down (R264, R265). -/
def State.accepts (s : State) (lp : Nat) : Bool :=
  if lp < 512 then
    if s.portDown lp then s.stitchLp lp || !s.flag F.FX_TM_PORT_CFG_DOWN_HOLD lp
    else (s.sending lp).isNone && !s.flag F.PA_MAC_LINK_STATUS_TX_LPI lp && !s.fenced (lpRegion lp)
  else if lp < 536 then (Map.get [] lp s.fx.rx).isEmpty && !s.fenced (lpRegion lp) && (decide (lp < 528) || !s.forcedOff (76 + (lp - 528)))
  else decide (lp = 536) || (!s.fenced (lp - 536) && !s.forcedOff (11 * (lp - 537) + 10))

/-- The copy `c` of frame `f` at the head of a class is taken up: shapers and deficit are charged, and a copy in cut-through is noted until its tail is written (R259, R260). -/
def State.takeUp (s : State) (lp cls : Nat) (c : Copy) (f : FxFrame) : State :=
  let qi := queueIx lp cls
  let n := s.copyLen c
  let shaped := s.flag F.FX_TM_PORT_CFG_SHAPE_EN lp
  let x : CutTx := { lp := lp, cls := cls, fid := c.fid, charged := n, drr := s.drr lp cls, queueShaped := s.shaped qi, portShaped := shaped, bytes := none }
  let s := s.chargeShapers lp cls (s.shaped qi) shaped (n + 24)
  let s := if x.drr then s.setDeficit qi (s.deficitOf qi - (n + 24)) else s
  if c.cut && !f.tail then s.withFx { s.fx with cuts := s.fx.cuts ++ [x] } else s

/-- A frame that leaves by the egress pipeline: whole, or with its tail to come (R83, R236). -/
def State.handOver (s : State) (lp : Nat) (c : Copy) (f : FxFrame) (out : List Byte) (bad : Bool) : State :=
  if c.cut && !f.tail then
    let x := s.macStart lp out
    x.1.withFx { x.1.fx with cuts := x.1.fx.cuts.map (fun t => if t.lp = lp ∧ t.fid = c.fid then { t with bytes := x.2, stomp := bad } else t) }
  else s.transmit lp out (!bad && f.bad == 0)

/-- Send the head of a selected class (R244, R249, R259 to R261, R265). -/
def State.sendHead (s : State) (lp cls : Nat) (ecc : List EccHit) (seg : Option SegError) : State :=
  let qi := queueIx lp cls
  match s.head lp cls with
  | none => s
  | some c =>
    match s.frame? c.fid with
    | none => s
    | some f =>
      let seg := seg.filter (fun e => e.corrected || s.segOf f e.segment.val)
      let depth := s.charged qi
      let yielded := decide (12 ≤ cls) && decide (lp < 512) && (s.operList lp).isSome && s.backlogged lp
      let s := s.takeUp lp cls c f
      let s := if yielded ∨ (12 ≤ cls ∧ s.flag F.FX_TM_PORT_CFG_SHAPE_EN lp ∧ s.portCredit lp < 0) then s.yieldEvent lp else s
      let s := match seg with | some e => s.segmentError c.fid e | none => s
      let bad : Bool := match seg with | some e => !e.corrected | none => false
      let started : Bool := match seg with | some e => e.started | none => false
      if bad ∧ !started then s.discardHead qi 6
      else if s.portDown lp then
        let s := s.discardHead qi 4
        if s.fenced (lpRegion lp) then s else s.macCount lp 18
      else
        let bytes := f.pkt.copyBytes c
        let truncated := decide (c.kind = 3) && decide (bytes.length < f.pkt.bytes.length)
        let s := ((s.popCopy qi).bump F.FX_TM_QSTAT_COUNT (7 * qi)).bump F.FX_TM_QSTAT_COUNT (7 * qi + 1) f.pkt.bytes.length
        if 512 ≤ lp then (s.deliver f.pkt c bytes truncated).reap c.fid
        else
          let x := if s.stitchLp lp then (s, some (s.stitchHead f.pkt c ++ bytes)) else s.egress f.pkt c bytes depth ecc
          match x with
          | (s, none) => s.reap c.fid
          | (s, some out) => (s.handOver lp c f out bad).reap c.fid

/-- A head of classes 0 to 11 is kept back by the gates: the guard test of R254 fails (R261). -/
def State.heldBack (s : State) (lp : Nat) : Bool :=
  (s.operList lp).isSome && (List.range 12).any (fun c => match s.head lp c with | some h => !s.guards lp h | none => false)

/-- A port takes a frame, if it can accept one and one may be sent; answers whether it did. -/
def State.servePort (s : State) (lp : Nat) (ecc : List EccHit) (seg : Option SegError) : State × Bool :=
  if !s.accepts lp then (s, false)
  else
    let s := [15, 14, 13, 12].foldl (fun s c => (s.dropOversize lp c 64).defer lp c) s
    let s := if s.heldBack lp then s.yieldEvent lp else s
    match s.select lp with
    | (s', none) => (s', false)
    | (s', some c) =>
      let dom := if lp < 512 then halfDomain (1 + lp / 128) (lp / 4 % 32 / 4) else 76 + (lp - 528)
      if ((lp < 512 ∧ !s.portDown lp) ∨ (528 ≤ lp ∧ lp < 536)) ∧ !s.awake dom then (s.wake dom, false)
      else (s'.sendHead lp c ecc seg, true)

/-- The logical ports that share a rate (R251, R264): those of an egress pipeline (0 to 31, eight per region), the host virtual ports (32), and each other internal port by itself. -/
def serverPorts (n : Nat) : List Nat :=
  if n < 32 then (List.range 16).map (16 * n + ·)
  else if n = 32 then (List.range 16).map (512 + ·)
  else if n < 41 then [528 + (n - 33)]
  else [536 + (n - 41)]

/-- The first port of a list, each with its place, that takes a frame. -/
def State.serveFirst (s : State) (ecc : List EccHit) (seg : Option SegError) : List (Nat × Nat) → State × Option Nat
  | [] => (s, none)
  | (i, lp) :: rest =>
    match s.servePort lp ecc seg with
    | (s, true) => (s, some i)
    | (s, false) => s.serveFirst ecc seg rest

/-- The ports of a server in the order of their turns, less those whose receiver is not ready: bit i of `ready` stands for the port in place i. -/
def State.turns (s : State) (server ready : Nat) : List (Nat × Nat) :=
  let ps := serverPorts server
  let first := Map.get 0 server s.tm.turn
  ((List.range ps.length).map (fun i => let k := (first + i) % ps.length; (k, ps.getD k 0))).filter (fun x => bit ready x.1)

/-- DEQUEUE_SELECT: one port of a server takes a frame, by rotating-priority round robin among those that can (R249, R251, R264); the pointer moves to the port after it. -/
def State.dequeue (s : State) (server ready : Nat) (ecc : List EccHit) (seg : Option SegError) : State :=
  if !s.inService ∨ s.fenced 5 then s
  else match s.serveFirst ecc seg (s.turns server ready) with
    | (s, none) => s
    | (s, some i) => s.withTm { s.tm with turn := Map.set 0 server ((i + 1) % (serverPorts server).length) s.tm.turn }

/-! ### Tails (R235, R83, R259) -/

/-- The tail of a copy in cut-through is written: its charge is corrected from MAX_FRAME, where it was made, and its port ends the frame, stomped after a violation or a segment error. -/
def State.tailOut (s : State) (f : FxFrame) (x : CutTx) : State :=
  let back : Int := (x.charged : Int) - f.pkt.bytes.length
  let qi := queueIx x.lp x.cls
  let s := if x.drr && s.drr x.lp x.cls then s.setDeficit qi (s.deficitOf qi + back) else s
  let s := s.chargeShapers x.lp x.cls x.queueShaped x.portShaped (-back)
  match x.bytes with
  | some out => s.wireOut x.lp out (f.bad == 0 && !x.stomp)
  | none => s

/-- A tail violation (R235): the copies that wait, in a queue or in an admission stage, are discarded, and the frame is counted; a copy in cut-through that was eligible stays, to leave stomped (R83). -/
def State.tailBad (s : State) (fid : Nat) (f : FxFrame) : State :=
  let some' := decide (0 < s.copies fid (fun c => !c.leaves)) || s.staged' fid
  let s := (s.discardCopies fid f.pkt.segments).dropStaged fid
  if some' then s.admCount 0 else s

/-- TAIL_WRITTEN: a frame's last segment is written; it becomes eligible, or its tail violation discards or stomps its copies. -/
def State.tailWritten (s : State) (fid : Nat) : State :=
  match s.frame? fid with
  | none => s
  | some f =>
    if f.tail then s
    else
      let s := s.setFrame fid (some { f with tail := true })
      let s := (s.fx.cuts.filter (·.fid == fid)).foldl (fun s x => s.tailOut f x) s
      let s := s.withFx { s.fx with cuts := s.fx.cuts.filter (·.fid != fid) }
      let s := if f.bad ≠ 0 then s.tailBad fid f else if f.want = 0 then s.makeEligible fid (fun _ => true) else s
      s.reap fid

def execTailWritten (fid : Nat) (s : State) : Host.Outcome State Fault Refusal := .next (s.tailWritten fid)

/-- SEGMENT_ALLOC_RESUME (R241): a waiting allocation finds free segments again; with the last of them the frame leaves its admission stage, if none of its copies is still to be made. -/
def State.allocResume (s : State) (fid : Nat) : State :=
  match s.frame? fid with
  | none => s
  | some f =>
    if f.want = 0 ∨ f.live = 0 then s
    else
      let x := s.alloc f.want f.segs
      let s := x.1.setFrame fid (some { f with segs := x.2.1, want := x.2.2 })
      if x.2.2 = 0 then
        let s := if f.tail then s.makeEligible fid (fun _ => true) else s
        (s.stagesLeave fid).reap fid
      else s

def execSegmentAllocResume (fid : Nat) (s : State) : Host.Outcome State Fault Refusal := .next (s.allocResume fid)

/-- BG_DRAINED (R241, R244): an empty draining group is power-gated under the wake policy of its domain, unless the groups awake would then be too few; its quarantine may keep it DRAINING. -/
def State.bgDrained (s : State) (g : Nat) : State :=
  s.when (s.bgDraining g && s.bgUsed g == 0 && (s.forcedOff (bgDomain g) || (!s.bgShort && s.fld F.AO_WAKE_POLICY_MODE (bgDomain g) == 0))) (fun s =>
    let s := s.setPower (bgDomain g) powGated
    s.setFlag F.FX_BUF_BG_STATUS_DRAINING g (decide (64 < s.bgQuar g)))

def execBgDrained (g : Fin 16) (s : State) : Host.Outcome State Fault Refusal := .next (s.bgDrained g.val)

/-! ### Gate commands (R255, R256) -/

/-- Show the gate states of the present instant.  A window that opens holds its halves by itself from now on, and one that no list is to bring holds none (R61). -/
def State.showGates (s : State) (lp : Nat) : State :=
  let x : GateSpan := (s.gateAt lp s.now).getD { gates := 15, others := false, entry := 0, stop := 0 }
  let s := ((s.setFld F.FX_TM_GATE_CFG_GATES_NOW lp x.gates).setFlag F.FX_TM_GATE_CFG_OTHERS_CLOSED lp x.others).setFld F.FX_TM_GATE_CFG_ENTRY_NOW lp x.entry
  if x.gates ≠ 0 then (s.withTime { s.time with plan := s.time.plan.filter (· != lp) }).wakeHalves else s

/-- GATE_TRANSITION: an entry of the operative list begins. Where it closes others or opens a gate over a backlog, the port reports the yield (R261). -/
def State.gateTransition (s : State) (lp : Nat) : State :=
  s.when (s.operList lp).isSome (fun s =>
    let s := s.showGates lp
    if s.flag F.FX_TM_GATE_CFG_OTHERS_CLOSED lp ∧ s.backlogged lp then s.yieldEvent lp else s)

def execGateTransition (lp : Fin 512) (s : State) : Host.Outcome State Fault Refusal := .next (s.gateTransition lp.val)

/-- A gate write refused (R252, R256). -/
def State.gateRefuse (s : State) (lp off : Nat) : State := s.raise 670 [.w lp, .w off]

/-- The least base + n cycle, n at least 1, that is at least `t`. -/
def firstAfter (base cycle t : Nat) : Nat := base + max ((t - base + cycle - 1) / cycle) 1 * cycle

/-- GATE_CHANGE: CHANGE written 1. -/
def State.gateChange (s : State) (lp : Nat) : State :=
  if s.flag F.FX_TM_GATE_CFG_PEND lp then s.gateRefuse lp (32 * lp)
  else
    let base := s.fld F.FX_TM_GATE_CFG_ADMIN_BASE lp
    let t := if s.now + 2000 ≤ base then base else firstAfter base (gateCycle (s.fld F.FX_TM_GATE_CFG_ADMIN_CYCLE lp)) (s.now + 2000)
    ((s.setFlag F.FX_TM_GATE_CFG_PEND lp true).withTm { s.tm with pending := Map.set 0 lp t s.tm.pending })

def execGateChange (lp : Fin 512) (s : State) : Host.Outcome State Fault Refusal := .next (s.gateChange lp.val)

/-- GATE_CANCEL: CANCEL written 1 before T. -/
def State.gateCancel (s : State) (lp : Nat) : State :=
  s.when (s.flag F.FX_TM_GATE_CFG_PEND lp && decide (s.now < Map.get 0 lp s.tm.pending)) (fun s =>
    let s := (s.setFlag F.FX_TM_GATE_CFG_PEND lp false).withTm { s.tm with pending := Map.set 0 lp 0 s.tm.pending }
    if (s.operList lp).isSome then s else s.withTime { s.time with plan := s.time.plan.filter (· != lp) })

def execGateCancel (lp : Fin 512) (s : State) : Host.Outcome State Fault Refusal := .next (s.gateCancel lp.val)

/-- GATE_LIST_SWAP: the time base reaches T. -/
def State.gateSwap (s : State) (lp : Nat) : State :=
  let t := Map.get 0 lp s.tm.pending
  s.when (s.flag F.FX_TM_GATE_CFG_PEND lp && decide (t ≤ s.now)) (fun s =>
    let s := (s.withTm { s.tm with pending := Map.set 0 lp 0 s.tm.pending,
                                        operLen := Map.set 0 lp (gateLen (s.fld F.FX_TM_GATE_CFG_ADMIN_LEN lp)) s.tm.operLen,
                                        operCycle := Map.set 0 lp (gateCycle (s.fld F.FX_TM_GATE_CFG_ADMIN_CYCLE lp)) s.tm.operCycle })
    let s := ((s.setFlag F.FX_TM_GATE_CFG_PEND lp false).setFld F.FX_TM_GATE_CFG_OPER_BANK lp (1 - s.fld F.FX_TM_GATE_CFG_OPER_BANK lp)).setFld
      F.FX_TM_GATE_CFG_OPER_CHANGE_TIME lp t
    let s := s.setFld F.FX_TM_GATE_CFG_OPER_EN lp (s.fld F.FX_TM_GATE_CFG_ADMIN_EN lp)
    (s.showGates lp).raise 671 [.w lp, .d t])

def execGateListSwap (lp : Fin 512) (s : State) : Host.Outcome State Fault Refusal := .next (s.gateSwap lp.val)

/-! ### Queue sampling (R268 to R271) -/

/-- The queue indexes of a group, six to a record; indexes above 8,655 stand for no queue. -/
def State.sampleQueues (s : State) (g : Nat) : List (List Nat) :=
  let n := min (max (s.fld F.FX_TM_QDEPTH_SAMPLE_COUNT g) 1) 96
  let qi (i : Nat) : Nat := s.fld F.FX_TM_QDEPTH_SAMPLE_BASE_QI g + i * max (s.fld F.FX_TM_QDEPTH_SAMPLE_STRIDE g) 1
  (List.range ((n + 5) / 6)).map (fun j => (List.range (min 6 (n - 6 * j))).map (fun i => qi (6 * j + i)))

/-- The two words of a queue's entry. -/
def State.sampleEntry (s : State) (qi : Nat) : List Nat :=
  let delay := match s.queue qi with | h :: _ => min (s.now - h.ts) 0x3FFFFFFF | [] => 0
  toWords 2 (qi * 2 ^ 50 + min (s.charged qi) 0xFFFFF * 2 ^ 30 + delay)

/-- Form the records of a group, one for every six of its queues (R268); a record whose queues are all skipped has NQ 0 (DESIGN CHOICE, log entry 60).  `excess` says that the rate of R270 is spent. -/
def State.sampleForm (s : State) (g : Nat) (excess : Bool) : List (List Nat) → State
  | [] => s
  | qs :: rest =>
    let seq := Map.get 0 g s.tm.sampleSeq
    let s := s.withTm { s.tm with sampleSeq := Map.set 0 g ((seq + 1) % 2 ^ 32) s.tm.sampleSeq }
    let mine := qs.filter (fun q => decide (q < 8656))
    let s := if excess then (s.bump F.FX_TM_GSTAT_COUNT).limited 673 0 1 (fun k => [.w k])
      else s.stage (s.fld F.FX_TM_QDEPTH_SAMPLE_RING g) (0x22 + 0x100 * mine.length) g
        ([seq, s.now % 2 ^ 32, s.now / 2 ^ 32] ++ mine.flatMap s.sampleEntry)
    s.sampleForm g excess rest

/-- A word of a group held in a map of words, each plus 1. -/
def sampleWord (m : Map Nat) (g w : Nat) : Option Nat := match Map.get 0 (4 * g + w) m with | 0 => none | n + 1 => some n

/-- Apply the words of a group that its next boundary commits. -/
def State.sampleApply (s : State) (who : Party) (g : Nat) : State :=
  let m := s.tm.sampleNext
  let s := match sampleWord m g 0 with
    | some w => (s.put who F.FX_TM_QDEPTH_SAMPLE_EN g (bits w 31 1)).put who F.FX_TM_QDEPTH_SAMPLE_PERIOD g (bits w 0 10)
    | none => s
  let s := match sampleWord m g 1 with | some w => s.put who F.FX_TM_QDEPTH_SAMPLE_RING g (bits w 16 16) | none => s
  let s := match sampleWord m g 2 with
    | some w => ((s.put who F.FX_TM_QDEPTH_SAMPLE_BASE_QI g (bits w 18 14)).put who F.FX_TM_QDEPTH_SAMPLE_COUNT g (bits w 11 7)).put who
        F.FX_TM_QDEPTH_SAMPLE_STRIDE g (bits w 0 11)
    | none => s
  s.withTm { s.tm with sampleNext := s.tm.sampleNext.filter (fun e => e.1 / 4 != g) }

/-- A write of word 1 or 2 is held until word 0 is written (R271). -/
def State.sampleHold (s : State) (g w v : Nat) : State := (s.withTm { s.tm with sampleHeld := Map.set 0 (4 * g + w) (v + 1) s.tm.sampleHeld })

/-- SAMPLE_GROUP_COMMIT: the write of word 0 commits the words held, at once where the group is disabled, else at its next period boundary. -/
def State.sampleCommit (s : State) (who : Party) (g v : Nat) : State :=
  let next := (s.tm.sampleHeld.filter (fun e => e.1 / 4 == g)).foldl (fun m e => Map.set 0 e.1 e.2 m) (Map.set 0 (4 * g) (v + 1) s.tm.sampleNext)
  let s := s.withTm { s.tm with sampleNext := next, sampleHeld := s.tm.sampleHeld.filter (fun e => e.1 / 4 != g) }
  if s.flag F.FX_TM_QDEPTH_SAMPLE_EN g then s else s.sampleApply who g

def execSampleGroupCommit (who : Party) (group : Fin 64) (v : Word) (s : State) : Host.Outcome State Fault Refusal :=
  .next (s.writeTo who 5 2 false (·.sampleCommit who group.val v.toNat))

/-- QDEPTH_SAMPLE: a group's period expires. -/
def State.qdepthSample (s : State) (g : Nat) (excess : Bool) : State :=
  s.when (s.flag F.FX_TM_QDEPTH_SAMPLE_EN g && !s.fenced 5) (fun s => (s.sampleForm g excess (s.sampleQueues g)).sampleApply .supervisor g)

def execQdepthSample (group : Fin 64) (excess : Bool) (s : State) : Host.Outcome State Fault Refusal := .next (s.qdepthSample group.val excess)

end Sys2Proof.Machine
end

