-- ==== Sys2Proof/Machine/Delivery.lean ====
section
/-! DEFINITION. Frames between FX and the rings: SEND, and delivery to host virtual ports and compute ports (R314, R315, R378, R387, R688). -/

namespace Sys2Proof.Machine

/-! ### Sending (R315, R378) -/

/-- The internal logical port a function or cluster sends from. -/
def State.sourceLp (s : State) (fi : Nat) : Nat :=
  if fi < 2056 then 512 + s.fld F.HX_FN_REC_HVP fi else 528 + (fi - 2056)

/-- The packet of a frame that no ingress pipeline brings: its egress PHV is built as R283 builds one from a stitch header (log entry 12). -/
def sourcePkt (src dest cls now gen : Nat) (bytes : List Byte) : Pkt :=
  { bytes := bytes, orig := bytes, ingress := src, lgen := gen,
    phv := Map.set 0 96 (src * 2 ^ 22 + bytes.length) (Map.set 0 97 (now % 2 ^ 32) (Map.set 0 98 (now / 2 ^ 32 % 2 ^ 32)
      (Map.set 0 104 (dest * 2 ^ 22 + cls * 2 ^ 18 + 2 ^ 17) []))) }

/-- Admit a frame of a function or cluster at FX (R225, R315); answers whether it was admitted. -/
def State.sendFrame (s : State) (fi dest cls : Nat) (bytes : List Byte) : State × Bool :=
  let qi := queueIx dest cls
  let before := (s.queue qi).length
  let s := s.admitDirect (sourcePkt (s.sourceLp fi) dest cls s.now s.prog.gen bytes) { fid := 0, lp := dest, cls := cls, kind := 0 }
  (s, decide (before < (s.queue qi).length))

/-- SEND (R378); it waits while FX is being reset (R15).  For a function's ring `data` is what the read of the buffer returned, `ok` false where it failed. -/
def State.send (s : State) (r : Nat) (ok : Bool) (data : List Byte) : State :=
  if s.fenced 5 then s else
  s.withDesc r (· == 0x10) (fun s d =>
    let fi := s.ownerOf r
    let w0 := leAt d.bytes 0 4
    let w1 := leAt d.bytes 4 4
    let addr := leAt d.bytes 8 8
    let dest := bits w0 0 10
    let cls := bits w0 10 4
    let len := bits w1 0 14
    if !s.mayCarry r 0x10 ∨ bits w0 14 2 ≠ 0 ∨ bits w0 24 7 ≠ 0 ∨ bits w1 14 18 ≠ 0 ∨ !d.zero 16 56 ∨ 541 ≤ dest then s.complete r d.pos resBadDesc 0
    else if !bit (s.fld F.HX_FN_REC_CLASS_MASK fi) cls then (s.carve fi 2).complete r d.pos resNotOwned 0
    else if len < 14 ∨ 10240 < len then s.complete r d.pos resBadLength 0
    else match s.sourceBytes fi addr len ok data with
      | none => s.complete r d.pos resDataError 0
      | some bytes =>
        let x := s.sendFrame fi dest cls bytes
        x.1.complete r d.pos resOk (b2n x.2))

def execSend (ring : Fin 65536) (ok : Bool) (data : List Byte) (s : State) : Host.Outcome State Fault Refusal := .next (s.send ring.val ok data)

/-! ### Outer headers (R415, R416) -/

/-- A frame's UDP datagram: IPv6, source and destination address, ECN of the IP header, the UDP header with its payload. -/
structure Udp where
  v6 : Bool
  src : List Byte
  dst : List Byte
  ecn : Nat
  body : List Byte
  deriving DecidableEq, Repr

/-- The outer UDP datagram of a frame: Ethernet, an optional VLAN tag, IPv4 without options or IPv6 without extension headers. -/
def udpOf (bs : List Byte) : Option Udp :=
  let o := if etherType bs = 0x8100 then 18 else 14
  let et := ofBe ((bs.drop (o - 2)).take 2)
  let ip := bs.drop o
  if et = 0x0800 then
    if leAt ip 0 1 = 0x45 ∧ leAt ip 9 1 = 17 ∧ ofBe ((ip.drop 6).take 2) % 2 ^ 14 = 0 ∧ 28 ≤ ip.length then
      some { v6 := false, src := (ip.drop 12).take 4, dst := (ip.drop 16).take 4, ecn := leAt ip 1 1 % 4,
             body := (ip.drop 20).take (ofBe ((ip.drop 2).take 2) - 20) }
    else none
  else if et = 0x86DD then
    if leAt ip 0 1 / 16 = 6 ∧ leAt ip 6 1 = 17 ∧ 48 ≤ ip.length then
      some { v6 := true, src := (ip.drop 8).take 16, dst := (ip.drop 24).take 16, ecn := leAt ip 1 1 / 16 % 4,
             body := (ip.drop 40).take (ofBe ((ip.drop 4).take 2)) }
    else none
  else none

/-- Destination port of a datagram. -/
def Udp.dport (u : Udp) : Nat := ofBe ((u.body.drop 2).take 2)

/-- HX passes this frame to the RMA transport (R415). -/
def State.isRma (s : State) (bs : List Byte) : Bool :=
  match udpOf bs with
  | some u => u.dport == s.fld F.HX_RMA_CFG_PORT
  | none => false

/-! ### Delivery into receive rings (R314, R387, R688) -/

/-- Rings of a port: NRINGS with its limits. -/
def nrings (v : Nat) : Nat := min (max v 1) 64

/-- The receive ring of a frame at an internal port. -/
def State.rxRing (s : State) (lp : Nat) (g : RxItem) : Nat :=
  if g.copy.kind = 3 then g.copy.ring
  else if lp < 528 then (s.fld F.HX_HVP_CFG_BASE_RING (lp - 512) + g.hashSel % nrings (s.fld F.HX_HVP_CFG_NRINGS (lp - 512))) % 65536
  else (s.fld F.CX_CPORT_CFG_BASE_RING (lp - 528) + g.hashSel % nrings (s.fld F.CX_CPORT_CFG_NRINGS (lp - 528))) % 65536

/-- BUF_SIZE of a receive ring in bytes (R391). -/
def State.bufSize (s : State) (r : Nat) : Nat := 2048 * 2 ^ s.fld F.HX_RING_AUX_BUF_SIZE r

/-- Buffers posted in the buffer ring of receive ring `r`, oldest first (R379); a buffer ring in STOPPED, ERROR or DISABLED gives none. -/
def State.posted (s : State) (r : Nat) : List Desc :=
  if s.ringState (r + 1) = ringActive ∨ s.ringState (r + 1) = ringStopping then (s.ring (r + 1)).work.filter (·.dtype == 3) else []

/-- Write a frame into consecutive buffers. -/
def State.fillBuffers (s : State) (fi size : Nat) : List Desc → List Byte → State
  | [], _ => s
  | d :: ds, bs => (s.dmaWrite fi (leAt d.bytes 8 8) (bs.take size)).fillBuffers fi size ds (bs.drop size)

/-- Complete the buffers a frame has filled, and write the buffer ring's head record (R387). -/
def State.passBuffers (s : State) (r : Nat) (ds : List Desc) : State :=
  let s := ds.foldl (fun s d => s.complete r d.pos resOk 0) s
  if 0 < (s.ring r).unpub then (s.headRecord r).settle 64 else s

/-- Write a frame and its receive record (R387). -/
def State.rxWrite (s : State) (r : Nat) (g : RxItem) : State :=
  let fi := s.ownerOf r
  let size := s.bufSize r
  let n := (g.bytes.length + size - 1) / size
  let bufs := (s.posted r).take n
  let s := s.fillBuffers fi size bufs g.bytes
  let s := if s.fld F.HX_RING_CFG_POLICY r = 2 ∧ 0 < (s.ring r).lostType then (s.overflowRecord r).recordIrq r else s
  if posDiff (s.ringN r) (s.ring r).t (s.ring r).h = s.ringN r then s.loseItem r 0x23
  else
    let low := g.copy.reason % 256 * 256 + b2n (decide (g.copy.kind = 3)) * 128 + b2n g.cut * 64
    let index := (bufs.head?.map (·.pos)).getD 0 % s.ringN (r + 1)
    let s := s.writeRecord r (0x23 + 256 * n) low
      [bits g.info 22 10 * 2 ^ 22 + g.copy.cls * 2 ^ 18 + g.bytes.length, g.ts % 2 ^ 32, g.ts / 2 ^ 32, g.hash, index * 65536 + g.hashSel % 65536]
    let s := s.setRing r { s.ring r with lostType := 0, lostN := 0, lostT0 := 0, lostT1 := 0, holdOver := false }
    (s.passBuffers (r + 1) bufs).recordIrq r

/-- The ring counts as full for this frame (R384). -/
def State.rxFull (s : State) (r : Nat) (g : RxItem) : Bool :=
  s.ringFull r || decide ((s.posted r).length * s.bufSize r < g.bytes.length)

/-- Deliver the frame that waits at an internal port, if its ring takes it; the answer says whether it is gone. -/
def State.rxOne (s : State) (lp : Nat) (g : RxItem) : State × Bool :=
  let r := s.rxRing lp g
  let mine := match s.ringOwner r with
    | some fi => if lp < 528 then decide (fi < 2056) && s.fld F.HX_FN_REC_HVP fi == lp - 512 else fi == clusterFi (lp - 528)
    | none => false
  if !s.ringLive r ∨ s.ringKind r ≠ kindReceive ∨ !mine then
    let s := s.bump F.HX_RING_DISCARD_COUNT 3
    (if lp < 528 then s else (s.bump F.CX_CPORT_NO_RING_COUNT (lp - 528)).limited 896 (lp - 528) 1 (fun _ => []), true)
  else if 15 * s.bufSize r < g.bytes.length then (s.loseLong r, true)
  else if s.rxFull r g then
    if s.fld F.HX_RING_CFG_POLICY r = 0 ∧ !(s.ring r).holdOver then (s, false) else (s.loseItem r 0x23, true)
  else (s.rxWrite r g, true)

/-- The first frame waiting at an internal port. -/
def State.rxHead (s : State) (lp : Nat) : Option RxItem := (Map.get [] lp s.fx.rx).head?

/-- Remove the first frame waiting at an internal port. -/
def State.rxPop (s : State) (lp : Nat) : State := (s.withFx { s.fx with rx := Map.set [] lp (Map.get [] lp s.fx.rx).tail s.fx.rx })

/-- RX_FRAME_DELIVER: the frame dequeued to a host virtual port or compute port that the RMA transport does not take. -/
def State.rxDeliver (s : State) (lp : Nat) : State :=
  match s.rxHead lp with
  | none => s
  | some g =>
    if (lp < 528 ∧ s.isRma g.bytes) ∨ s.fenced (lpRegion lp) then s
    else
      let x := s.rxOne lp g
      if x.2 then x.1.rxPop lp else x.1

def execRxFrameDeliver (port : Fin 24) (s : State) : Host.Outcome State Fault Refusal := .next (s.when (decide (16 ≤ port.val) || s.served 0) (·.rxDeliver (512 + port.val)))

end Sys2Proof.Machine
end

