-- ==== Sys2Proof/Machine/Storage.lean ====
section
/-! DEFINITION. Storage namespaces, the write cache, destaging and the NVMe commands (R449 to R485, R500). -/

namespace Sys2Proof.Machine

/-! ### Namespaces (R449 to R453) -/

/-- States of R453. -/
def nsDisabled : Nat := 0
def nsWait : Nat := 1
def nsReady : Nat := 2
def nsHeld : Nat := 3
def nsFailed : Nat := 4
def nsDraining : Nat := 5

def State.nsState (s : State) (h : Nat) : Nat := s.fld F.HX_STOR_NS_STATE h
def State.storCount (s : State) (j : Nat) (n : Nat := 1) : State := s.bump F.HX_STOR_STAT_COUNT j n
def State.lbaSize (s : State) (h : Nat) : Nat := if s.flag F.HX_STOR_NS_LBA4K h then 4096 else 512
/-- 512-byte sectors in an LBA. -/
def State.secPer (s : State) (h : Nat) : Nat := s.lbaSize h / 512
def State.nlba (s : State) (h : Nat) : Nat := s.fld F.HX_STOR_NS_NLBA h
def State.remote (s : State) (h : Nat) : Bool := s.flag F.HX_STOR_NS_BACKEND h

/-- Move a namespace; EV0790 reports every change (R452). -/
def State.nsGo (s : State) (h st : Nat) : State :=
  if s.nsState h = st then s
  else (s.setFld F.HX_STOR_NS_STATE h st).raise 790 [.w h, .w (s.nsState h), .w st, .w (s.fld F.HX_STOR_NS_FAIL_CODE h)]

/-- The connection state READY (R445) and the drive sub-link state ENABLED (R347). -/
def connReady : Nat := 1
def rpEnabled : Nat := 3

/-- The backend of a namespace is present (R451). -/
def State.backend (s : State) (h : Nat) : Bool :=
  if s.remote h then s.fld F.HX_RMA_CONN_STATE (bits (s.fld F.HX_STOR_NS_BK_ID h) 0 14) == connReady
  else s.fld F.HX_RP_SUBLINK_STATUS_STATE (s.fld F.HX_STOR_NS_DRIVE h) == rpEnabled

/-- Namespaces that are attached. -/
def State.attached (s : State) : List Nat := (s.listed F.HX_STOR_NS_STATE).filter (fun h => s.nsState h != nsDisabled)

/-- The lost-block list has no room (R473). -/
def State.lostFull (s : State) : Bool := decide (1024 ≤ s.stor.lost.length)

/-- The backend check of R451: 0 where it passes, else its code. -/
def State.backendCheck (s : State) (h : Nat) : Nat :=
  let base := s.fld F.HX_STOR_NS_BASE_LBA h
  let id := s.fld F.HX_STOR_NS_BK_ID h
  let clash := s.attached.any (fun g => g != h && !s.remote g && s.fld F.HX_STOR_NS_DRIVE g == s.fld F.HX_STOR_NS_DRIVE h
    && s.fld F.HX_STOR_NS_BK_ID g == id && decide (s.fld F.HX_STOR_NS_BASE_LBA g < base + s.nlba h)
    && decide (base < s.fld F.HX_STOR_NS_BASE_LBA g + s.nlba g))
  if s.remote h then 0
  else match (Map.get {} (s.fld F.HX_STOR_NS_DRIVE h) s.stor.drives).spaces.find? (·.1 == id) with
    | none => 3
    | some (_, size, meta', cap) => if size ≠ s.lbaSize h ∨ meta' then 1 else if cap < base + s.nlba h then 2 else if clash then 4 else 0

/-- A namespace in WAIT whose backend is present is checked (R451, R452). -/
def State.nsCheck (s : State) (h : Nat) : State :=
  if s.nsState h ≠ nsWait ∨ !s.backend h then s
  else
    let c := s.backendCheck h
    if c = 0 then s.nsGo h nsReady else (s.setFld F.HX_STOR_NS_FAIL_CODE h c).nsGo h nsFailed

/-! ### Spans of sectors -/

def Span.hits (x : Span) (h sec n : Nat) : Bool := x.handle == h && decide (x.sec < sec + n) && decide (sec < x.sec + x.n)

/-- A span without the sectors from `sec`, `n` of them. -/
def Span.cut (x : Span) (h sec n : Nat) : List Span :=
  if !x.hits h sec n then [x]
  else (if x.sec < sec then [{ x with n := sec - x.sec }] else [])
    ++ (if sec + n < x.sec + x.n then [{ x with sec := sec + n, n := x.sec + x.n - (sec + n) }] else [])

def cutSpans (l : List Span) (h sec n : Nat) : List Span := l.flatMap (fun x => x.cut h sec n)

def inSpans (l : List Span) (h sec : Nat) : Bool := l.any (fun x => x.hits h sec 1)

/-! ### Versions (R464, R466) -/

def Ver.isCert (v : Ver) : Bool := v.st == .cert || v.st == .destagingCert
def Ver.isVb (v : Ver) : Bool := v.st == .vb || v.st == .destagingVb

/-- N_CERT (R549): CERT versions, and DESTAGING versions that came from CERT. -/
def State.nCert (s : State) : Nat := (s.stor.vers.filter Ver.isCert).length

/-- Blocks of the write cache (R464). -/
def State.cacheBlocks (s : State) : Nat := min (s.fld F.MX_HBM_PART_WC_SIZE) 16 * 262144

/-- DIRTY_REQ for a number of certified blocks (R549). -/
def State.dirtyReq (s : State) (n : Nat) : Nat := s.fld F.AO_LED_VMODEL_VAULT_BASE + (s.fld F.AO_LED_VMODEL_E_REC * n + 99) / 100

def State.region (s : State) (r : Nat) : Region := Map.get {} r s.stor.regions
def State.setRegion (s : State) (r : Nat) (x : Region) : State := (s.withStor { s.stor with regions := Map.set {} r x s.stor.regions })
def State.bothHeld (s : State) : Bool := (s.region 0).held && (s.region 1).held

/-- Show CERT_HOLD (R551). -/
def State.certHold (s : State) : State :=
  let n := s.nCert
  let lim := s.fld F.AO_LED_STATUS_CERT_LIMIT
  let hold := decide (lim < n)
  if s.flag F.AO_LED_STATUS_CERT_HOLD = hold then s else (s.setFlag F.AO_LED_STATUS_CERT_HOLD 0 hold).raise 52 [.w lim, .w n]

/-- Bring the status registers and the ledger's figures up to date with the cache (R481, R549, R551). -/
def State.storShow (s : State) : State :=
  let count (p : VerState → Bool) : Nat := (s.stor.vers.filter (fun v => p v.st)).length
  let s := s.setFld F.HX_STOR_STATUS_CERT_BLOCKS 0 (count (· == .cert))
  let s := s.setFld F.HX_STOR_STATUS_UNCERT_BLOCKS 0 (count (· == .uncert))
  let s := s.setFld F.HX_STOR_STATUS_VB_BLOCKS 0 (count (· == .vb))
  let s := (s.setFlag F.HX_STOR_STATUS_CERT_STOP 0 s.bothHeld).setFld F.HX_STOR_STATUS_HELD 0 (b2n (s.region 0).held + 2 * b2n (s.region 1).held)
  (s.setFld F.AO_LED_STATUS_DIRTY_REQ 0 (s.dirtyReq s.nCert)).certHold

/-- Versions of a block, newest first. -/
def State.versionsOf (s : State) (h blk : Nat) : List Ver := (s.stor.vers.filter (fun v => v.handle == h && v.blk == blk)).reverse

/-- Sector by sector, `new` where the mask has it and `old` elsewhere. -/
def mergeBlock (mask : Nat) (new old : List Byte) : List Byte :=
  (List.range 8).flatMap (fun i => if bit mask i then (new.drop (512 * i)).take 512 else (old.drop (512 * i)).take 512)

/-- Cut sectors of a write into cache blocks: block, mask, and 4,096 bytes. -/
def cutBlocks (fuel sec n : Nat) (bs : List Byte) : List (Nat × Nat × List Byte) :=
  match fuel with
  | 0 => []
  | fuel + 1 =>
    if n = 0 then []
    else
      let o := sec % 8
      let k := min n (8 - o)
      let mask := (2 ^ k - 1) * 2 ^ o
      let body := List.replicate (512 * o) 0 ++ bs.take (512 * k) ++ List.replicate (512 * (8 - o - k)) 0
      (sec / 8, mask, body) :: cutBlocks fuel (sec + k) (n - k) (bs.drop (512 * k))

/-- Split a write into groups of at most 1 MiB counted from its start (R461). -/
def cutGroups (fuel sec n : Nat) (bs : List Byte) : List (List (Nat × Nat × List Byte)) :=
  match fuel with
  | 0 => []
  | fuel + 1 =>
    if n = 0 then []
    else
      let k := min n 2048
      cutBlocks 257 sec k (bs.take (512 * k)) :: cutGroups fuel (sec + k) (n - k) (bs.drop (512 * k))

/-- Admit one block of a group: it takes the sectors it does not write from the newest version of its range (R464). -/
def State.addVer (s : State) (gid seq h : Nat) (ordered : Bool) (b : Nat × Nat × List Byte) : State :=
  let v : Ver := match (s.versionsOf h b.1).head? with
    | some o => { id := s.stor.nextId, gid := gid, seq := seq, handle := h, blk := b.1, mask := Nat.lor b.2.1 o.mask, data := mergeBlock b.2.1 b.2.2 o.data,
                  st := .uncert, ordered := ordered }
    | none => { id := s.stor.nextId, gid := gid, seq := seq, handle := h, blk := b.1, mask := b.2.1, data := b.2.2, st := .uncert, ordered := ordered }
  let sec := 8 * b.1 + (List.range 8).findIdx (fun i => bit b.2.1 i)
  let n := ((List.range 8).filter (fun i => bit b.2.1 i)).length
  (s.withStor { s.stor with vers := s.stor.vers ++ [v], nextId := s.stor.nextId + 1, lost := cutSpans s.stor.lost h sec n,
                                 dealloc := cutSpans s.stor.dealloc h sec n })

/-! ### Completion of writes and Flushes (R463, R464) -/

/-- A group is admitted. -/
def State.admitted (s : State) (g : Nat) : Bool := !s.stor.waitq.any (·.gid == g)

/-- A group is certified or clean. -/
def State.settled (s : State) (g : Nat) : Bool :=
  s.admitted g && !s.stor.open'.contains g && !s.stor.vers.any (fun v => v.gid == g && v.st == .uncert)

/-- The command may complete. -/
def State.cmdDone (s : State) (c : StorCmd) : Bool := c.gids.all (fun g => if c.cert then s.settled g else s.admitted g)

/-- Complete every command whose condition has come to hold. -/
def State.storSettle (s : State) : State :=
  let done := s.stor.cmds.filter s.cmdDone
  let s := (s.withStor { s.stor with cmds := s.stor.cmds.filter (fun c => !done.any (fun d => d.ring == c.ring && d.pos == c.pos)) })
  (done.foldl (fun s c => s.completeLive c.ring c.pos resOk 0) s).storShow

/-- Put a command in progress. -/
def State.addCmd (s : State) (c : StorCmd) : State := (s.withStor { s.stor with cmds := s.stor.cmds ++ [c] })

/-- The function's effective volatile write cache for a namespace (R464). -/
def State.volatileFor (s : State) (fi h : Nat) : Bool := s.flag F.HX_STOR_NS_VWC h && s.flag F.HX_STOR_FN_PS_WCE fi

/-! ### Admission and certification (R461, R465) -/

/-- GROUP_ADMIT: the first group that waits is admitted if the cache has a version for each of its blocks. -/
def State.groupAdmit (s : State) : State :=
  match s.stor.waitq with
  | [] => s
  | g :: rest =>
    if !s.inService ∨ s.cacheBlocks < s.stor.vers.length + g.blocks.length then s
    else
      let seq := s.stor.seq + 1
      let s := (s.withStor { s.stor with waitq := rest, seq := seq })
      (g.blocks.foldl (fun s b => s.addVer g.gid seq g.handle g.ordered b) s).storSettle

def execGroupAdmit (s : State) : Host.Outcome State Fault Refusal := .next s.groupAdmit

/-- The lowest SEQ among UNCERT versions. -/
def State.lowestUncert (s : State) : Option Nat :=
  (s.stor.vers.filter (·.st == .uncert)).foldl (fun a v => match a with | none => some v.seq | some q => some (min q v.seq)) none

/-- A version is dropped when a newer one of its range is certified or cleaned (R466). -/
def State.dropOlder (s : State) (v : Ver) : State :=
  (s.withStor { s.stor with vers := s.stor.vers.filter (fun x =>
      !(x.handle == v.handle && x.blk == v.blk && decide (x.id < v.id) && (x.st == .uncert || x.st == .cert))) })

/-- Certify the group in turn, if it fits the certified limit (R465, R471, R550). -/
def State.certify (s : State) : State :=
  match s.lowestUncert with
  | none => s
  | some q =>
    let mine := s.stor.vers.filter (fun v => v.seq == q && v.st == .uncert)
    if !s.inService ∨ s.bothHeld ∨ mine.any (fun v => s.stor.open'.contains v.gid)
        ∨ s.fld F.AO_LED_STATUS_CERT_LIMIT < s.nCert + mine.length then s
    else
      let s := (s.withStor { s.stor with vers := s.stor.vers.map (fun v => if v.seq = q ∧ v.st = .uncert then { v with st := .cert } else v) })
      (mine.foldl State.dropOlder s).storSettle

/-- CERT_WAIT_WARN: a group has waited over 100 ms for certification (R465). -/
def State.certWarn (s : State) : State :=
  match s.lowestUncert with
  | some q => s.limitedBy 1000000000 793 0 1 (fun _ => [.d q]) false
  | none => s

def execCertWaitWarn (s : State) : Host.Outcome State Fault Refusal := .next s.certWarn

/-! ### Regions (R471) -/

/-- A held region records this range. -/
def State.recorded (s : State) (h blk : Nat) : Bool :=
  (List.range 2).any (fun r => (s.region r).held && (s.region r).recs.any (fun x => x.handle == h && x.blk == blk))

/-- Free a region with no record left. -/
def State.regionKeep (s : State) (r : Nat) : State :=
  if (s.region r).held ∧ (s.region r).recs.isEmpty then s.setRegion r {} else s

/-- A VB version is clean: its record is done with. -/
def State.regionDone (s : State) (v : Ver) : State :=
  let x := s.region v.region
  (s.setRegion v.region { x with recs := x.recs.filter (fun e => !(e.handle == v.handle && e.blk == v.blk && e.seq == v.seq)) }).regionKeep v.region

/-- A namespace in DRAINING with no dirty or vault-backed block is DISABLED (R452). -/
def State.drainKeep (s : State) (h : Nat) : State :=
  if s.nsState h = nsDraining ∧ !s.stor.vers.any (·.handle == h) ∧ !(List.range 2).any (fun r => (s.region r).recs.any (·.handle == h)) then
    s.nsGo h nsDisabled
  else s

/-! ### Destaging (R466 to R468, R472) -/

/-- The version may be destaged now. -/
def State.mayDestage (s : State) (v : Ver) : Bool :=
  let ok := v.st == .vb || (v.st == .cert && !s.recorded v.handle v.blk)
  let older := s.stor.vers.any (fun x => x.handle == v.handle && x.blk == v.blk && decide (x.id < v.id) && (x.isVb || x.st == .destagingCert))
  let st := s.nsState v.handle
  ok && !older && s.backend v.handle && ((st == nsReady && !v.failed) || st == nsDraining || (st == nsHeld && !v.failed))

/-- Insert by SEQ, then block. -/
def insertVer (v : Ver) : List Ver → List Ver
  | [] => [v]
  | x :: xs => if v.seq < x.seq ∨ (v.seq = x.seq ∧ v.blk < x.blk) then v :: x :: xs else x :: insertVer v xs

/-- The versions of one backend write: whole blocks next to one another, at most 32. -/
def joinVers (n : Nat) (v : Ver) : List Ver → List Ver
  | [] => [v]
  | x :: xs =>
    if 1 < n ∧ v.mask = 255 ∧ x.mask = 255 ∧ x.handle = v.handle ∧ x.blk = v.blk + 1 then v :: joinVers (n - 1) x xs else [v]

/-- The runs of sectors that a mask has, from sector `i` of the block on. -/
def runs (mask i fuel : Nat) : List (Nat × Nat) :=
  match fuel with
  | 0 => []
  | fuel + 1 =>
    if 8 ≤ i then []
    else
      let k := ((List.range (8 - i)).takeWhile (fun j => bit mask (i + j))).length
      if k = 0 then runs mask (i + 1) fuel else (i, k) :: runs mask (i + k) fuel

/-- Move a drive to the power state that suits the functions on it: 3 or 4 as they are, 0 awake (R478). -/
def State.drivePower (s : State) (slot ps : Nat) : State :=
  let x := Map.get {} slot s.stor.drives
  if x.low = ps then s
  else (s.withStor { s.stor with drives := Map.set {} slot { x with low := ps } s.stor.drives }).emit (.drive slot 5 0 ps 0)

/-- Destage wakes a lowered drive, which returns to its lower state after it (R478): told to the drive without a change of what suits it. -/
def State.driveNudge (s : State) (h : Nat) (wake : Bool) : State :=
  let slot := s.fld F.HX_STOR_NS_DRIVE h
  let low := (Map.get {} slot s.stor.drives).low
  let open' := (s.stor.destages.filter (fun d => !s.remote d.handle && s.fld F.HX_STOR_NS_DRIVE d.handle == slot)).length
  if s.remote h ∨ low = 0 then s
  else if wake then (if open' ≤ 1 then s.emit (.drive slot 5 0 0 0) else s)
  else if open' = 0 then s.emit (.drive slot 5 0 low 0) else s

/-- Send the backend writes of a destage to its drive (R467, R468). -/
def State.sendDestage (s : State) (d : Destage) : State :=
  if s.remote d.handle then s
  else
    let s := s.driveNudge d.handle true
    let k := s.secPer d.handle
    d.spans.foldl (fun s x => s.emit (.drive (s.fld F.HX_STOR_NS_DRIVE d.handle) 1 (s.fld F.HX_STOR_NS_BK_ID d.handle)
      (s.fld F.HX_STOR_NS_BASE_LBA d.handle + x.1 / k) (x.2 / k))) s

/-- Issue the next backend write in SEQ order. -/
def State.destageNext (s : State) : State × Option Destage :=
  match (s.stor.vers.filter s.mayDestage).foldl (fun a v => insertVer v a) [] with
  | [] => (s, none)
  | v :: rest =>
    let vs := joinVers 32 v rest
    let ids := vs.map (·.id)
    let spans := if v.mask = 255 then [(8 * v.blk, 8 * vs.length)] else (runs v.mask 0 9).map (fun x => (8 * v.blk + x.1, x.2))
    let d : Destage := { id := s.stor.nextId, handle := v.handle, vers := ids, spans := spans }
    let vers := s.stor.vers.map (fun x => if ids.contains x.id then { x with st := if x.st = .vb then .destagingVb else .destagingCert } else x)
    let s := (s.withStor { s.stor with nextId := s.stor.nextId + 1, destages := s.stor.destages ++ [d], vers := vers })
    ((s.sendDestage d).storShow, some d)

def State.dropDestage (s : State) (id : Nat) : State := (s.withStor { s.stor with destages := s.stor.destages.filter (·.id != id) })

/-- A backend write is complete: its versions are clean (R466, R468). -/
def State.destaged (s : State) (d : Destage) : State :=
  let s := s.dropDestage d.id
  let mine := s.stor.vers.filter (fun v => d.vers.contains v.id)
  let bytes := d.spans.foldl (fun a x => a + 512 * x.2) 0
  let s := (s.withStor { s.stor with vers := s.stor.vers.filter (fun v => !d.vers.contains v.id) })
  let s := mine.foldl (fun s v => let s := s.dropOlder v; if v.isVb then s.regionDone v else s) s
  (((s.storCount 4 bytes).driveNudge d.handle false).drainKeep d.handle).storSettle

/-- The versions of a destage go back to CERT or VB. -/
def State.undestage (s : State) (d : Destage) (failed : Bool) : State :=
  let s := (s.dropDestage d.id).driveNudge d.handle false
  (s.withStor { s.stor with vers := s.stor.vers.map (fun v => if d.vers.contains v.id then
      { v with st := if v.isVb then .vb else .cert, failed := v.failed || failed } else v) })

/-- A destage has failed for good: the namespace is HELD (R472). -/
def State.destageFail (s : State) (d : Destage) : State :=
  let lba := s.fld F.HX_STOR_NS_BASE_LBA d.handle + ((d.spans.head?.map (·.1)).getD 0) / s.secPer d.handle
  let s := (s.undestage d true).violate 0x6902 d.handle 769 [lba % 2 ^ 32, lba / 2 ^ 32]
  let s := s.raise 792 [.w d.handle, .d (((d.spans.head?.map (·.1)).getD 0) / s.secPer d.handle)]
  (if s.nsState d.handle = nsReady then s.nsGo d.handle nsHeld else s).storShow

/-- Replace a destage in progress. -/
def State.setDestage (s : State) (d : Destage) : State :=
  (s.withStor { s.stor with destages := s.stor.destages.map (fun x => if x.id = d.id then d else x) })

/-- One attempt of a destage failed with a media error or under R470; it is retried twice (R472). -/
def State.destageRetry (s : State) (d : Destage) : State :=
  if 2 ≤ d.tries then s.destageFail d
  else
    let e := { d with tries := d.tries + 1, aborted := false, again := false }
    (s.setDestage e).sendDestage e

/-- The namespaces a test picks lose their backend: READY goes to HELD, and their destages stop (R452, R472). -/
def State.backendLost (s : State) (p : Nat → Bool) : State :=
  let ds := s.stor.destages.filter (fun d => p d.handle)
  let s := ds.foldl (fun s d => s.undestage d false) s
  ((s.attached.filter (fun h => p h && s.nsState h == nsReady)).foldl (fun s h => s.nsGo h nsHeld) s).storShow

/-- The namespaces a test picks have their backend again (R451, R452). -/
def State.backendBack (s : State) (p : Nat → Bool) : State :=
  (s.attached.filter p).foldl (fun s h =>
    if s.nsState h = nsHeld ∧ s.backend h ∧ !s.stor.vers.any (fun v => v.handle == h && v.failed) then s.nsGo h nsReady
    else s.nsCheck h) s

/-- The namespaces of a drive. -/
def State.onDrive (s : State) (slot h : Nat) : Bool := !s.remote h && s.fld F.HX_STOR_NS_DRIVE h == slot

/-- The namespaces of a connection. -/
def State.onConn (s : State) (c h : Nat) : Bool := s.remote h && bits (s.fld F.HX_STOR_NS_BK_ID h) 0 14 == c

/-! ### DESTAGE_DONE, DRV_TIMEOUT, DRV_ABORT_TIMEOUT (R468, R470, R472) -/

/-- The answer to a destage, by its place among those in progress. -/
def State.destageAnswer (s : State) (i : Nat) (r : BackendResult) : State :=
  match s.stor.destages[i]? with
  | none => s
  | some d =>
    match r with
    | .ok _ => s.destaged d
    | .media => (s.storCount 6).destageRetry d
    | .failed | .rejected => s.destageRetry d
    | .lost => s.backendLost (· == d.handle)

/-- DRV_TIMEOUT (R470): the command is aborted; a second timeout counts as a failed backend write. -/
def State.drvTimeout (s : State) (i : Nat) : State :=
  match s.stor.destages[i]? with
  | none => s
  | some d =>
    if s.remote d.handle then s
    else
      let s := s.storCount 5
      if d.again then s.destageRetry d
      else
        let slot := s.fld F.HX_STOR_NS_DRIVE d.handle
        (s.setDestage { d with aborted := true }).emit (.drive slot 3 (s.fld F.HX_STOR_NS_BK_ID d.handle) 0 0)

def execDrvTimeout (index : Nat) (s : State) : Host.Outcome State Fault Refusal := .next (s.drvTimeout index)

/-- DRV_ABORT_TIMEOUT (R470): the drive controller is reset and every open command issued again, once. -/
def State.drvAbort (s : State) (slot : Nat) : State :=
  if !s.stor.destages.any (fun d => s.onDrive slot d.handle && d.aborted) then s
  else
    let s := s.emit (.drive slot 4 0 0 0)
    (s.stor.destages.filter (fun d => s.onDrive slot d.handle)).foldl (fun s d =>
      if d.again then s.destageRetry d
      else
        let e := { d with aborted := false, again := true }
        (s.setDestage e).sendDestage e) s

def execDrvAbortTimeout (slot : Fin 8) (s : State) : Host.Outcome State Fault Refusal := .next (s.drvAbort slot.val)

/-! ### Configuration (R450, R474) -/

/-- The handle holds a dirty block or a vault-backed one. -/
def State.nsHolds (s : State) (h : Nat) : Bool :=
  s.stor.vers.any (·.handle == h) || (List.range 2).any (fun r => (s.region r).recs.any (·.handle == h))

/-- A write of HX_STOR_NS that is ignored. -/
def State.storRefuse (s : State) (off : Nat) : State := s.raise 794 [.w off]

/-- The Write Fault a command gets whose blocks are discarded (R474). -/
def nvmeStatus (sct sc : Nat) (dnr : Bool) : Nat := b2n dnr * 2 ^ 15 + sct * 2 ^ 9 + sc * 2

def resNvme : Nat := 0x40

/-- NS_DISABLE: EN is written 0 (R450, R452). -/
def State.nsDisable (s : State) (who : Party) (h : Nat) : State :=
  let s := s.put who F.HX_STOR_NS_EN h 0
  if s.nsState h = nsDisabled ∨ s.nsState h = nsDraining then s else (s.nsGo h nsDraining).drainKeep h

def execNsDisable (who : Party) (handle : Fin 4096) (s : State) : Host.Outcome State Fault Refusal :=
  .next (s.writeTo who 6 9 false (·.nsDisable who handle.val))

/-- Arriving messages that a test picks lose blocks before they were durable: they are never answered ACK_DURABLE (R434, R474). -/
def State.dropRx (s : State) (p : RxMsg → Bool) : State :=
  (s.rma.rx.filter p).foldl (fun (s : State) m =>
    let peers := if m.lastPsn.isSome then s.rma.peers.map (fun x => if x.key = m.key then { x with pend := x.pend - 1 } else x) else s.rma.peers
    s.withRma { s.rma with peers := peers }) (s.withRma { s.rma with rx := s.rma.rx.filter (fun m => !p m) })

/-- Commands that wait on dropped versions end with Write Fault (R474). -/
def State.faultCmds (s : State) (p : StorCmd → Bool) : State :=
  (s.stor.cmds.filter p).foldl (fun s c => (s.storCount 10).completeLive c.ring c.pos resNvme (nvmeStatus 2 0x80 true))
    (s.withStor { s.stor with cmds := s.stor.cmds.filter (fun c => !p c) })

/-- OP DISCARD (R474). -/
def State.nsDiscard (s : State) (h : Nat) : State :=
  if s.nsState h ≠ nsHeld ∧ s.nsState h ≠ nsDraining then s.storRefuse (32 * h + 28)
  else
    let gone := (s.stor.vers.filter (fun v => v.handle == h && v.st == .uncert)).map (·.gid)
      ++ (s.stor.waitq.filter (·.handle == h)).map (·.gid)
    let s := (s.withStor { s.stor with
      vers := s.stor.vers.filter (·.handle != h), lost := s.stor.lost.filter (·.handle != h), waitq := s.stor.waitq.filter (·.handle != h),
      destages := s.stor.destages.filter (·.handle != h) }).dropRx (·.handle == h)
    let s := (List.range 2).foldl (fun s r => let x := s.region r
      (s.setRegion r { x with recs := x.recs.filter (·.handle != h) }).regionKeep r) s
    let s := (s.condition 0x6903 h []).faultCmds (fun c => c.handle == h && c.gids.any gone.contains)
    ((s.nsGo h (if s.flag F.HX_STOR_NS_EN h then nsWait else nsDisabled)).nsCheck h).storSettle

def execNsDiscard (handle : Fin 4096) (s : State) (who : Party := .supervisor) : Host.Outcome State Fault Refusal :=
  .next (s.writeTo who 6 9 false (·.nsDiscard handle.val))

/-- A write of one word of HX_STOR_NS (R450). -/
def State.nsWrite (s : State) (who : Party) (h w v : Nat) : State :=
  let free := s.nsState h == nsDisabled && !s.nsHolds h
  if w = 7 then (if bits v 28 4 = 1 then s.nsDiscard h else s)
  else if w = 0 ∧ !bit v 31 then
    if free then
      let s := ((s.put who F.HX_STOR_NS_BACKEND h (bits v 30 1)).put who F.HX_STOR_NS_CACHE h (bits v 29 1)).put who F.HX_STOR_NS_VWC h (bits v 28 1)
      ((s.put who F.HX_STOR_NS_LBA4K h (bits v 27 1)).put who F.HX_STOR_NS_DRIVE h (bits v 16 3)).nsDisable who h
    else s.nsDisable who h
  else if !free then s.storRefuse (32 * h + 4 * w)
  else match w with
    | 0 =>
      let s := ((s.put who F.HX_STOR_NS_BACKEND h (bits v 30 1)).put who F.HX_STOR_NS_CACHE h (bits v 29 1)).put who F.HX_STOR_NS_VWC h (bits v 28 1)
      let s := ((s.put who F.HX_STOR_NS_LBA4K h (bits v 27 1)).put who F.HX_STOR_NS_DRIVE h (bits v 16 3)).put who F.HX_STOR_NS_EN h 1
      ((s.setFld F.HX_STOR_NS_FAIL_CODE h 0).nsGo h nsWait).nsCheck h
    | 1 => s.put who F.HX_STOR_NS_BASE_LBA h (s.fld F.HX_STOR_NS_BASE_LBA h / 2 ^ 32 * 2 ^ 32 + v)
    | 2 => s.put who F.HX_STOR_NS_BASE_LBA h (v * 2 ^ 32 + s.fld F.HX_STOR_NS_BASE_LBA h % 2 ^ 32)
    | 3 => s.put who F.HX_STOR_NS_NLBA h (s.fld F.HX_STOR_NS_NLBA h / 2 ^ 32 * 2 ^ 32 + v)
    | 4 => s.put who F.HX_STOR_NS_NLBA h (v * 2 ^ 32 + s.fld F.HX_STOR_NS_NLBA h % 2 ^ 32)
    | 5 => s.put who F.HX_STOR_NS_BK_ID h v
    | _ => s.put who F.HX_STOR_NS_KEY h v

def execNsConfigWrite (who : Party) (handle : Fin 4096) (word : Fin 8) (v : Word) (s : State) : Host.Outcome State Fault Refusal :=
  .next (s.writeTo who 6 9 false (·.nsWrite who handle.val word.val v.toNat))

/-! ### I/O commands (R454 to R464) -/

def State.fnStor (s : State) (fi : Nat) : FnStor := Map.get {} fi s.stor.fns
def State.setFnStor (s : State) (fi : Nat) (x : FnStor) : State := (s.withStor { s.stor with fns := Map.set {} fi x s.stor.fns })

/-- A storage descriptor's command word and operands. -/
def Desc.opc (d : Desc) : Nat := leAt d.bytes 0 1
def Desc.nsid (d : Desc) : Nat := leAt d.bytes 4 4
def Desc.dataAddr (d : Desc) : Nat := leAt d.bytes 8 8
def Desc.list (d : Desc) : Bool := bit (leAt d.bytes 0 4) 15
def Desc.nseg (d : Desc) : Nat := leAt d.bytes 16 2
def Desc.slba (d : Desc) : Nat := leAt d.bytes 24 8
def Desc.nlb (d : Desc) : Nat := leAt d.bytes 32 2 + 1
def Desc.fua (d : Desc) : Bool := bit (leAt d.bytes 32 4) 30

/-- The handle an NSID names for a function (R449). -/
def State.handleOf (s : State) (fi nsid : Nat) : Option Nat :=
  if 1 ≤ nsid ∧ nsid ≤ s.fld F.HX_FN_REC_NS_COUNT fi then some (s.fld F.HX_FN_REC_NS_BASE fi + nsid - 1) else none

/-- Namespaces of a function's record, as handles. -/
def State.fnSpaces (s : State) (fi : Nat) : List Nat :=
  (List.range (s.fld F.HX_FN_REC_NS_COUNT fi)).map (fun k => s.fld F.HX_FN_REC_NS_BASE fi + k)

/-- The lower state that suits a drive: none in RIDE-THROUGH (R548), nor while a function with a namespace on it is in PS0 to PS2, else the lowest of their states, whose bound all of them allow (R478). -/
def State.driveSuits (s : State) (slot : Nat) : Nat :=
  let users := s.holders.filter (fun g => decide (g < 2056) && (s.fnSpaces g).any (fun h => s.onDrive slot h && s.nsState h != nsDisabled))
  let ps := users.map (fun g => s.fld F.HX_STOR_FN_PS_PS g)
  if s.mode = .rideThrough ∨ ps.isEmpty ∨ ps.any (fun p => decide (p < 3)) then 0 else ps.foldl min 4

/-- The drives under a function follow the power states of the functions on them (R478). -/
def State.lowerDrives (s : State) (fi : Nat) : State :=
  let slots := ((s.fnSpaces fi).filter (fun h => !s.remote h && s.nsState h != nsDisabled)).map (fun h => s.fld F.HX_STOR_NS_DRIVE h)
  slots.eraseDups.foldl (fun s slot => s.drivePower slot (s.driveSuits slot)) s

/-- A storage function's command in its power state: PS3 and PS4 return to the last operational state (R479). -/
def State.fnWake (s : State) (fi : Nat) : State :=
  if 3 ≤ s.fld F.HX_STOR_FN_PS_PS fi then (s.setFld F.HX_STOR_FN_PS_PS fi (s.fnStor fi).lastOp).lowerDrives fi else s

/-- A failed command: counted, kept in the function's error log, completed (R457). -/
def State.cmdFail (s : State) (r fi : Nat) (d : Desc) (result status : Nat) : State :=
  let x := s.fnStor fi
  let n := x.errCount + 1
  let s := s.setFnStor fi { x with errCount := n, errors := ((n, status, d.slba, d.nsid) :: x.errors).take 16 }
  (s.storCount 10).complete r d.pos result status

/-- An invalid field of an I/O command (R454). -/
def Desc.ioInvalid (d : Desc) : Bool :=
  let w0 := leAt d.bytes 0 4
  let cdw12 := leAt d.bytes 32 4
  let dsm := leAt d.bytes 40 4
  let moves := d.opc != 0x00 && d.opc != 0x08
  bits w0 24 7 != 0 || bits w0 8 7 != 0 || !d.zero 18 24 || bits cdw12 16 9 != 0 || bits cdw12 26 4 != 0 || !d.zero 44 56
    || (if d.opc = 0x09 then dsm / 512 != 0 else dsm != 0)
    || (if moves then d.dataAddr % 4 != 0 || (if d.list then d.nseg == 0 || decide (256 < d.nseg) else d.nseg != 0)
        else d.list || d.dataAddr != 0 || d.nseg != 0)

/-- Answers of the namespace's state (R457): none where the command may run. -/
def State.nsAnswer (s : State) (h : Nat) (write : Bool) : Option Nat :=
  let st := s.nsState h
  if st = nsFailed ∨ st = nsDraining ∨ st = nsDisabled then some (nvmeStatus 0 0x82 true)
  else if st = nsWait then some (nvmeStatus 0 0x82 false)
  else if st = nsHeld ∧ !s.backend h then some (nvmeStatus 0 0x82 false)
  else if st = nsHeld ∧ write then some (nvmeStatus 2 0x80 true)
  else none

/-- Segment list entries: address and length; an address that is not 4-byte aligned or a reserved field makes the list invalid. -/
def segList (n : Nat) (bs : List Byte) : List (Nat × Nat × Bool) :=
  match n with
  | 0 => []
  | n + 1 => (leAt bs 0 8, leAt bs 8 4, leAt bs 0 8 % 4 == 0 && leAt bs 12 4 == 0) :: segList n (bs.drop 16)

/-- The segment list of a command: none where it could not be read. -/
def State.segments (s : State) (fi : Nat) (d : Desc) (ok : Bool) (data : List Byte) : Option (List (Nat × Nat × Bool)) :=
  if d.list then (s.sourceBytes fi d.dataAddr (16 * d.nseg) ok data).map (segList d.nseg) else some []

/-- The data of a write from its buffers. -/
def State.gather (s : State) (fi : Nat) (ok : Bool) (data : List Byte) : List (Nat × Nat × Bool) → Option (List Byte)
  | [] => some []
  | (a, n, _) :: rest =>
    match s.sourceBytes fi a n ok data, s.gather fi ok (data.drop n) rest with
    | some x, some y => some (x ++ y)
    | _, _ => none

/-- Write a read's data into its buffers. -/
def State.scatter (s : State) (fi : Nat) (bs : List Byte) : List (Nat × Nat × Bool) → State
  | [] => s
  | (a, n, _) :: rest => (s.dmaWrite fi a (bs.take n)).scatter fi (bs.drop n) rest

/-- The checks of an I/O command up to its range, in the order of R457: the handle, or the failure it ends with. -/
def State.ioCheck (s : State) (fi : Nat) (d : Desc) (write : Bool) : (Nat × Nat) ⊕ Nat :=
  if d.ioInvalid then .inl (resNvme, nvmeStatus 0 0x02 true)
  else match s.handleOf fi d.nsid with
    | none => .inl (resNotOwned, nvmeStatus 0 0x0B true)
    | some h =>
      let ranged := d.opc != 0x00 && d.opc != 0x09
      match s.nsAnswer h write with
      | some st => .inl (resNvme, st)
      | none =>
        if ranged ∧ 4194304 < d.nlb * s.lbaSize h then .inl (resNvme, nvmeStatus 0 0x02 true)
        else if ranged ∧ s.nlba h < d.slba + d.nlb then .inl (resNvme, nvmeStatus 0 0x80 true)
        else if d.opc ≠ 0x00 ∧ d.opc ≠ 0x09 ∧ !s.nsKeyReady h then .inl (resNvme, nvmeStatus 0 0x82 false)
        else .inr h

/-- Answer a command's failure; a wrong NSID counts as a violation (R357), a missing key is reported (R500). -/
def State.ioFail (s : State) (r fi : Nat) (d : Desc) (e : Nat × Nat) : State :=
  let s := if e.1 = resNotOwned then s.carve fi 1 else s
  let s := match s.handleOf fi d.nsid with
    | some h => if e = (resNvme, nvmeStatus 0 0x82 false) ∧ s.nsAnswer h true = none ∧ !s.nsKeyReady h then
        (s.bump F.HX_CIPH_STAT_COUNT 6).limitedBy 1000000000 799 0 1 (fun _ => [.w h]) false else s
    | none => s
  s.cmdFail r fi d e.1 e.2

/-- The status of a backend result that is not a success (R457). -/
def backendStatus (r : BackendResult) (write : Bool) : Nat :=
  match r with
  | .media => if write then nvmeStatus 2 0x80 true else nvmeStatus 2 0x81 true
  | .lost => nvmeStatus 0 0x82 false
  | _ => if write then nvmeStatus 2 0x80 false else nvmeStatus 2 0x81 false

/-- Run a command with buffers through the checks of R457 in their order: a misaligned or reserved segment counts with the other invalid fields, a segment list that could not be read with the failures met while it runs. -/
def State.ioBuffers (s : State) (r fi : Nat) (d : Desc) (write : Bool) (ok : Bool) (data : List Byte) (len : Nat → Nat)
    (f : State → Nat → List (Nat × Nat × Bool) → State) : State :=
  let segs := if d.ioInvalid then some [] else s.segments fi d ok data
  if (segs.getD []).any (fun x => !x.2.2) then s.cmdFail r fi d resNvme (nvmeStatus 0 0x02 true)
  else match s.ioCheck fi d write with
    | .inl e => s.ioFail r fi d e
    | .inr h =>
      match segs with
      | none => s.cmdFail r fi d resDataError (nvmeStatus 0 0x04 false)
      | some l =>
        let l := if d.list then l else [(d.dataAddr, len h, true)]
        if l.any (fun x => x.2.1 == 0) ∨ l.foldl (fun a x => a + x.2.1) 0 ≠ len h then s.cmdFail r fi d resNvme (nvmeStatus 0 0x0F true)
        else f s h l

/-- Put a write or read of a REMOTE backend in hand. -/
def State.addFar (s : State) (x : Far) : State :=
  s.withStor { s.stor with nextId := s.stor.nextId + 1, far := s.stor.far ++ [{ x with id := s.stor.nextId }] }

/-- Queue a write's groups for admission (R461). -/
def State.queueGroups (s : State) (h : Nat) (ordered : Bool) : List (List (Nat × Nat × List Byte)) → State × List Nat
  | [] => (s, [])
  | g :: gs =>
    let gid := s.stor.nextGid
    let w : Group := { gid := gid, handle := h, blocks := g, ordered := ordered }
    let s := (s.withStor { s.stor with nextGid := gid + 1, waitq := s.stor.waitq ++ [w] })
    let x := s.queueGroups h ordered gs
    (x.1, gid :: x.2)

/-- Send a write that does not pass the cache to its backend; an Ordered Write to a drive with a volatile cache follows a Flush of it (R462). -/
def State.direct (s : State) (h sec n : Nat) (ordered : Bool) : State :=
  if s.remote h then s
  else
    let slot := s.fld F.HX_STOR_NS_DRIVE h
    let id := s.fld F.HX_STOR_NS_BK_ID h
    let s := if ordered ∧ (Map.get {} slot s.stor.drives).vwc then s.emit (.drive slot 2 id 0 0) else s
    s.emit (.drive slot 1 id (s.fld F.HX_STOR_NS_BASE_LBA h + sec / s.secPer h) (n / s.secPer h))

/-- Count a write command that moves data (R456, R484). -/
def State.countWrite (s : State) (fi bytes : Nat) : State :=
  let x := s.fnStor fi
  ((s.storCount 1).storCount 3 bytes).setFnStor fi { x with writes := x.writes + 1, writeUnits := x.writeUnits + bytes / 512 }

/-- The backend has answered a write that does not pass the cache (R457, R464). -/
def State.directDone (s : State) (r fi h : Nat) (d : Desc) (back : BackendResult) : State :=
  let sec := d.slba * s.secPer h
  let n := d.nlb * s.secPer h
  match back with
  | .ok _ => (s.withStor { s.stor with lost := cutSpans s.stor.lost h sec n, dealloc := cutSpans s.stor.dealloc h sec n }).complete r d.pos resOk 0
  | e => s.cmdFail r fi d resNvme (backendStatus e true)

/-- A storage unit rejected by a countermeasure: the fault is counted and may be the alarm, and the command fails (R496, R500); its DNR bit is free. -/
def State.unitFault (s : State) (r fi : Nat) (d : Desc) (sc : Nat) : State :=
  (s.drawn.cmdFail r fi d resNvme (nvmeStatus 2 sc (s.free % 2 == 1))).faultDetected

/-- Run a write whose data is at hand (R459 to R464). -/
def State.storWrite (s : State) (r fi h : Nat) (d : Desc) (ordered : Bool) (plain : List Byte) (back : BackendResult) : State :=
  let k := s.secPer h
  let sec := d.slba * k
  let n := d.nlb * k
  let units := if s.flag F.HX_CIPH_NS_EN h then d.nlb else 0
  let bs := s.nsCrypt h false (s.lbaSize h) d.slba d.nlb plain
  let s := (s.countWrite fi (512 * n)).storUnits units
  if back = .rejected ∧ units ≠ 0 then s.unitFault r fi d 0x80
  else if !s.flag F.HX_STOR_NS_CACHE h then
    if s.remote h then s.addFar { id := 0, ring := r, pos := d.pos, handle := h, write := true, ordered := ordered, sec := sec, n := n, data := bs }
    else (s.direct h sec n ordered).directDone r fi h d back
  else
    let x := s.queueGroups h ordered (cutGroups 9 sec n bs)
    x.1.addCmd { ring := r, pos := d.pos, handle := h, gids := x.2, cert := d.fua || !s.volatileFor fi h, bytes := 512 * n }

/-- A storage command has begun. -/
def State.begun (s : State) (r p : Nat) : Bool := s.stor.cmds.any (fun c => c.ring == r && c.pos == p) || s.stor.far.any (fun c => c.ring == r && c.pos == p)

/-- Commands that write (R455). -/
def Desc.writes (d : Desc) : Bool := d.dtype == 0x50 && (d.opc == 0x01 || d.opc == 0x08 || d.opc == 0x81)

/-- A write must wait for one dispatched before it in its ring and namespace: an Ordered Write for every write that is not admitted, any write for an Ordered Write that is not (R462). -/
def State.orderWaits (s : State) (r : Nat) (d : Desc) : Bool :=
  let ahead := ((s.ring r).work.takeWhile (·.pos != d.pos)).filter (fun x => x.writes && x.nsid == d.nsid
    && (!s.begun r x.pos || s.stor.far.any (fun c => c.ring == r && c.pos == x.pos)))
  d.writes && (if d.opc = 0x81 then !ahead.isEmpty else ahead.any (·.opc == 0x81))

/-- The descriptor is a command of this opcode that has not begun and need not wait. -/
def State.isIo (s : State) (r opc : Nat) (d : Desc) : Bool :=
  d.dtype == 0x50 && d.opc == opc && !s.begun r d.pos && !s.orderWaits r d

/-- Run a storage command of a ring's function: commands wait while the module is not in service (R518). -/
def State.io (s : State) (r opc : Nat) (f : State → Nat → Desc → State) : State :=
  s.when s.inService (·.withNew r (s.isIo r opc) (fun s d => f (s.fnWake (s.ownerOf r)) (s.ownerOf r) d))

/-- A Write or Ordered Write with its buffers. -/
def State.writeCmd (s : State) (r opc : Nat) (ok : Bool) (data : List Byte) (back : BackendResult) : State :=
  s.io r opc (fun s fi d =>
    s.ioBuffers r fi d true ok data (fun h => d.nlb * s.lbaSize h) (fun s h segs =>
      match s.gather fi ok (if d.list then data.drop (16 * d.nseg) else data) segs with
      | none => s.cmdFail r fi d resDataError (nvmeStatus 0 0x04 false)
      | some bs => s.storWrite r fi h d (opc == 0x81) bs back))

/-- WRITE_ZEROES: a Write of zeros with no buffer (R455). -/
def State.writeZeroes (s : State) (r : Nat) (back : BackendResult) : State :=
  s.io r 0x08 (fun s fi d =>
    match s.ioCheck fi d true with
    | .inl e => s.ioFail r fi d e
    | .inr h => s.storWrite r fi h d false (List.replicate (d.nlb * s.lbaSize h) 0) back)


/-- Commands that no other step runs: an unsupported opcode is refused (R457). -/
def ioKnown (opc : Nat) : Bool := opc == 0 || opc == 1 || opc == 2 || opc == 8 || opc == 9 || opc == 0x81

/-- NVM_FLUSH (R463), and the refusal of an unsupported opcode. -/
def State.nvmFlush (s : State) (r : Nat) : State :=
  s.when s.inService (·.withNew r (fun d => d.dtype == 0x50 && (d.opc == 0 || !ioKnown d.opc) && !s.begun r d.pos)
    (fun s d =>
      let fi := s.ownerOf r
      let s := s.fnWake fi
      if !ioKnown d.opc then s.cmdFail r fi d resNvme (nvmeStatus 0 0x01 true)
      else match s.ioCheck fi d false with
        | .inl e => s.ioFail r fi d e
        | .inr h =>
          let wait := if s.volatileFor fi h then ((s.stor.vers.filter (fun v => v.handle == h && v.st == .uncert)).map (·.gid)).eraseDups else []
          let mine := wait.filter (fun g => !s.stor.cmds.any (fun c => c.gids.contains g))
          (s.addCmd { ring := r, pos := d.pos, handle := h, gids := mine, cert := true, bytes := 0 }).storSettle))

def execNvmFlush (ring : Fin 65536) (s : State) : Host.Outcome State Fault Refusal := .next (s.nvmFlush ring.val)

/-- One sector as a Read sees it: zeros where deallocated, the newest version, else the backend; with whether it came from the backend. -/
def State.readSector (s : State) (h sec : Nat) (back : List Byte) : List Byte × Bool × Bool :=
  if inSpans s.stor.dealloc h sec then (List.replicate 512 0, false, true)
  else match (s.versionsOf h (sec / 8)).head? with
    | some v => if bit v.mask (sec % 8) then ((v.data.drop (512 * (sec % 8))).take 512, false, false) else (back, true, false)
    | none => (back, true, false)

/-- The sectors of a Read: bytes, whether any came from the backend, and which are deallocated. -/
def State.readSectors (s : State) (h sec n : Nat) (back : List Byte) : List (List Byte × Bool × Bool) :=
  match n with
  | 0 => []
  | n + 1 => s.readSector h sec ((back ++ List.replicate 512 0).take 512) :: s.readSectors h (sec + 1) n (back.drop 512)

/-- The plain data of a Read, LBA by LBA: deallocated LBAs are zeros without decryption (R500). -/
def State.plainRead (s : State) (h lba n : Nat) (xs : List (List Byte × Bool × Bool)) : List Byte :=
  match n with
  | 0 => []
  | n + 1 =>
    let k := s.secPer h
    let mine := xs.take k
    let bs := mine.flatMap (·.1)
    (if mine.all (·.2.2) then bs else s.nsCrypt h true (s.lbaSize h) lba 1 bs) ++ s.plainRead h (lba + 1) n (xs.drop k)

/-- LBAs of a Read that are not deallocated as a whole. -/
def liveLbas (k n : Nat) (xs : List (List Byte × Bool × Bool)) : Nat :=
  match n with
  | 0 => 0
  | n + 1 => (if (xs.take k).all (·.2.2) then 0 else 1) + liveLbas k n (xs.drop k)

/-- A Read with the answer of its backend, where it needs one (R457, R467). -/
def State.readDone (s : State) (r fi h : Nat) (d : Desc) (segs : List (Nat × Nat × Bool)) (back : BackendResult) : State :=
  let k := s.secPer h
  let len := d.nlb * s.lbaSize h
  let xs := s.readSectors h (d.slba * k) (d.nlb * k) (match back with | .ok bs => bs | _ => [])
  let x := s.fnStor fi
  let units := if s.flag F.HX_CIPH_NS_EN h then liveLbas k d.nlb xs else 0
  if s.stor.lost.any (fun x => x.hits h (d.slba * k) (d.nlb * k)) then s.cmdFail r fi d resNvme (nvmeStatus 2 0x81 true)
  else if back = .rejected ∧ units ≠ 0 then s.unitFault r fi d 0x81
  else if (match back with | .ok _ => false | _ => xs.any (·.2.1)) then
    let s := if back = .media then (s.storCount 6).setFnStor fi { x with media := x.media + 1 } else s
    s.cmdFail r fi d resNvme (backendStatus back false)
  else
    let s := ((s.storCount 0).storCount 2 len).setFnStor fi { x with reads := x.reads + 1, readUnits := x.readUnits + len / 512 }
    let s := s.storUnits units
    (s.scatter fi (s.plainRead h d.slba d.nlb xs) segs).complete r d.pos resOk 0

/-- NVM_READ (R467): `back` is what a drive answers for the range; a REMOTE backend is read over its connection. -/
def State.nvmRead (s : State) (r : Nat) (ok : Bool) (data : List Byte) (back : BackendResult) : State :=
  s.io r 0x02 (fun s fi d =>
    s.ioBuffers r fi d false ok data (fun h => d.nlb * s.lbaSize h) (fun s h segs =>
      let sec := d.slba * s.secPer h
      let n := d.nlb * s.secPer h
      if s.remote h ∧ !s.stor.lost.any (fun x => x.hits h sec n) ∧ (s.readSectors h sec n []).any (·.2.1) then
        s.addFar { id := 0, ring := r, pos := d.pos, handle := h, write := false, sec := sec, n := n, segs := segs, reject := back == .rejected }
      else s.readDone r fi h d segs back))

/-- A write or read of a REMOTE backend has its answer. -/
def State.farDone (s : State) (x : Far) (back : BackendResult) : State :=
  let s := s.withStor { s.stor with far := s.stor.far.filter (·.id != x.id) }
  match (s.ring x.ring).work.find? (·.pos == x.pos) with
  | none => s
  | some d => if x.write then s.directDone x.ring (s.ownerOf x.ring) x.handle d back else s.readDone x.ring (s.ownerOf x.ring) x.handle d x.segs (if x.reject ∧ back matches .ok _ then .rejected else back)

/-- Ranges of Dataset Management: first LBA and length. -/
def dsmRanges (n : Nat) (bs : List Byte) : List (Nat × Nat) :=
  match n with
  | 0 => []
  | n + 1 => (leAt bs 8 8, leAt bs 4 4) :: dsmRanges n (bs.drop 16)

/-- DATASET_MANAGEMENT (R455): with AD the ranges are deallocated. -/
def State.datasetMgmt (s : State) (r : Nat) (ok : Bool) (data : List Byte) : State :=
  s.io r 0x09 (fun s fi d =>
    let dsm := leAt d.bytes 40 4
    let nr := dsm % 256 + 1
    s.ioBuffers r fi d true ok data (fun _ => 16 * nr) (fun s h segs =>
      match s.gather fi ok (if d.list then data.drop (16 * d.nseg) else data) segs with
      | none => s.cmdFail r fi d resDataError (nvmeStatus 0 0x04 false)
      | some bs =>
        let rs := dsmRanges nr bs
        let k := s.secPer h
        if rs.any (fun x => decide (s.nlba h < x.1 + x.2)) then s.cmdFail r fi d resNvme (nvmeStatus 0 0x80 true)
        else if !bit dsm 8 then s.complete r d.pos resOk 0
        else
          let add (l : List Span) (x : Nat × Nat) : List Span :=
            if x.2 = 0 then l else cutSpans l h (x.1 * k) (x.2 * k) ++ [{ handle := h, sec := x.1 * k, n := x.2 * k }]
          let lost := rs.foldl (fun l x => cutSpans l h (x.1 * k) (x.2 * k)) s.stor.lost
          (s.withStor { s.stor with dealloc := rs.foldl add s.stor.dealloc, lost := lost }).complete r d.pos resOk 0))

def execDatasetManagement (ring : Fin 65536) (ok : Bool) (data : List Byte) (s : State) : Host.Outcome State Fault Refusal :=
  .next (s.datasetMgmt ring.val ok data)

/-! ### Admin commands (R456, R458, R477 to R479) -/

def Desc.cdw10 (d : Desc) : Nat := leAt d.bytes 40 4
def Desc.cdw11 (d : Desc) : Nat := leAt d.bytes 44 4

/-- An invalid field of an admin command (R456). -/
def Desc.adminInvalid (d : Desc) : Bool :=
  bits (leAt d.bytes 0 4) 24 7 != 0 || bits (leAt d.bytes 0 4) 8 8 != 0 || d.dataAddr % 4 != 0 || !d.zero 16 40

/-- Run an admin command of this opcode. -/
def State.admin (s : State) (r : Nat) (p : Nat → Bool) (f : State → Nat → Desc → State) : State :=
  s.when s.inService (·.withNew r (fun d => d.dtype == 0x51 && p d.opc) (fun s d => f (s.fnWake (s.ownerOf r)) (s.ownerOf r) d))

/-- Complete an admin command with its Dword 0. -/
def State.adminOk (s : State) (r fi : Nat) (d : Desc) (dw0 : Nat) : State :=
  (s.dmaWrite fi (s.entryAddr r d.pos + 52) (leBytes 4 dw0)).complete r d.pos resOk 0

/-- Bytes placed at offsets of a zero-filled page of `n` bytes. -/
def page (n : Nat) (parts : List (Nat × List Byte)) : List Byte :=
  parts.foldl (fun pg x => pg.take x.1 ++ x.2 ++ pg.drop (x.1 + x.2.length)) (List.replicate n 0)

/-- The power state descriptors of R478: MP in 0.01 W, non-operational, ENLAT and EXLAT in microseconds. -/
def powerStates : List (Nat × Bool × Nat × Nat) :=
  [(2500, false, 0, 0), (1200, false, 10, 10), (400, false, 20, 20), (80, true, 1000, 6000), (30, true, 1000, 55000)]

/-- Identify Controller (R458); field offsets are those of the NVMe standard (log entry 13). -/
def State.identifyCtrl (s : State) (fi : Nat) : List Byte :=
  let hs := s.fnSpaces fi
  let small := if hs.any (fun h => s.lbaSize h == 512) then 512 else 4096
  page 4096 ([(77, [10]), (263, [4]), (265, [1]), (516, leBytes 4 (s.fld F.HX_FN_REC_NS_COUNT fi)), (520, leBytes 2 12),
    (525, leBytes 1 (b2n (hs.any (fun h => s.flag F.HX_STOR_NS_VWC h)))), (528, leBytes 2 (1048576 / small - 1))]
    ++ powerStates.zipIdx.map (fun x => (2048 + 32 * x.2, leBytes 2 x.1.1 ++ [0, BitVec.ofNat 8 (2 * b2n x.1.2.1)] ++ leBytes 4 x.1.2.2.1 ++ leBytes 4 x.1.2.2.2)))

/-- Identify Namespace (R458). -/
def State.identifyNs (s : State) (h : Nat) : List Byte :=
  let n := leBytes 8 (s.nlba h)
  let awupf := if s.flag F.HX_STOR_NS_CACHE h then 1048576 / s.lbaSize h - 1 else 0
  page 4096 [(0, n), (8, n), (16, n), (24, [2]), (36, leBytes 2 awupf), (130, [if s.lbaSize h = 4096 then 12 else 9])]

/-- The list of a function's active namespaces above an NSID (CNS 0x02). -/
def State.identifyList (s : State) (fi nsid : Nat) : List Byte :=
  let ids := ((List.range (s.fld F.HX_FN_REC_NS_COUNT fi)).map (· + 1)).filter (fun k =>
    decide (nsid < k) && s.nsState (s.fld F.HX_FN_REC_NS_BASE fi + k - 1) != nsDisabled)
  page 4096 [(0, (ids.take 1024).flatMap (leBytes 4))]

/-- IDENTIFY (R456, R458), and the refusal of an unsupported admin opcode. -/
def State.identify (s : State) (r : Nat) : State :=
  s.admin r (fun o => o != 0x02 && o != 0x09 && o != 0x0A) (fun s fi d =>
    let cns := d.cdw10 % 256
    if d.opc ≠ 0x06 then s.cmdFail r fi d resNvme (nvmeStatus 0 0x01 true)
    else if 2 < cns ∨ d.adminInvalid then s.cmdFail r fi d resNvme (nvmeStatus 0 0x02 true)
    else if cns = 0 then
      match s.handleOf fi d.nsid with
      | none => s.ioFail r fi d (resNotOwned, nvmeStatus 0 0x0B true)
      | some h => (s.dmaWrite fi d.dataAddr (s.identifyNs h)).adminOk r fi d 0
    else (s.dmaWrite fi d.dataAddr (if cns = 1 then s.identifyCtrl fi else s.identifyList fi d.nsid)).adminOk r fi d 0)

def execIdentify (ring : Fin 65536) (s : State) : Host.Outcome State Fault Refusal := .next (s.identify ring.val)

/-- One entry of the error log; the queue and command identifiers of the NVMe layout are open values, since the module has no NVMe queues. -/
def errorEntry (free : Nat) (e : Nat × Nat × Nat × Nat) : List Byte :=
  page 64 [(0, leBytes 8 e.1), (8, leBytes 4 free), (12, leBytes 2 e.2.1), (16, leBytes 8 e.2.2.1), (24, leBytes 4 e.2.2.2)]

/-- GET_LOG_PAGE (R456). -/
def State.getLogPage (s : State) (r : Nat) : State :=
  s.admin r (· == 0x02) (fun s fi d =>
    let lid := d.cdw10 % 256
    let len := min (4 * (d.cdw10 / 65536 + 1)) 4096
    let x := s.fnStor fi
    if lid ≠ 1 ∧ lid ≠ 2 ∨ d.adminInvalid then s.cmdFail r fi d resNvme (nvmeStatus 0 0x02 true)
    else
      let bs := if lid = 1 then page 4096 (x.errors.zipIdx.map (fun e => (64 * e.2, errorEntry s.free e.1)))
        else page 4096 [(32, leBytes 16 ((x.readUnits + 999) / 1000)), (48, leBytes 16 ((x.writeUnits + 999) / 1000)), (64, leBytes 16 x.reads),
          (80, leBytes 16 x.writes), (160, leBytes 16 x.media), (176, leBytes 16 x.errCount)]
      ((if lid = 1 then s.drawn else s).dmaWrite fi d.dataAddr (bs.take len)).adminOk r fi d 0)

def execGetLogPage (ring : Fin 65536) (s : State) : Host.Outcome State Fault Refusal := .next (s.getLogPage ring.val)

/-- The 32 entries of an APST table; none where one is malformed (R477). -/
def apstTable (n i : Nat) (bs : List Byte) : Option (List (Nat × Nat)) :=
  match n with
  | 0 => some []
  | n + 1 =>
    let e := leAt bs 0 8
    let itps := bits e 3 5
    let good := itps == 0 || ((itps == 3 || itps == 4) && decide (i < itps))
    if good then (apstTable n (i + 1) (bs.drop 8)).map (fun l => (itps, bits e 8 24) :: l) else none

/-- A function's power state is set (R479). -/
def State.setPs (s : State) (fi ps : Nat) : State :=
  let x := s.fnStor fi
  (s.setFld F.HX_STOR_FN_PS_PS fi ps).setFnStor fi { x with lastOp := if ps < 3 then ps else x.lastOp }


/-- SET_FEATURES (R456, R477). -/
def State.setFeatures (s : State) (r : Nat) (ok : Bool) (data : List Byte) : State :=
  s.admin r (· == 0x09) (fun s fi d =>
    let fid := d.cdw10 % 256
    let v := d.cdw11
    if d.adminInvalid then s.cmdFail r fi d resNvme (nvmeStatus 0 0x02 true)
    else match fid with
      | 0x02 => if 4 < v % 32 then s.cmdFail r fi d resNvme (nvmeStatus 0 0x02 true) else ((s.setPs fi (v % 32)).lowerDrives fi).adminOk r fi d 0
      | 0x06 => (s.setFlag F.HX_STOR_FN_PS_WCE fi (bit v 0)).adminOk r fi d 0
      | 0x0C =>
        match s.sourceBytes fi d.dataAddr 256 ok data with
        | none => s.cmdFail r fi d resDataError (nvmeStatus 0 0x04 false)
        | some bs =>
          match apstTable 32 0 bs with
          | none => s.cmdFail r fi d resNvme (nvmeStatus 0 0x02 true)
          | some t => ((s.setFnStor fi { s.fnStor fi with apst := t }).setFlag F.HX_STOR_FN_PS_APST_EN fi (bit v 0)).adminOk r fi d 0
      | _ => s.cmdFail r fi d resNvme (nvmeStatus 0 0x02 true))

def execSetFeatures (ring : Fin 65536) (ok : Bool) (data : List Byte) (s : State) : Host.Outcome State Fault Refusal :=
  .next (s.setFeatures ring.val ok data)

/-- GET_FEATURES (R456). -/
def State.getFeatures (s : State) (r : Nat) : State :=
  s.admin r (· == 0x0A) (fun s fi d =>
    let fid := d.cdw10 % 256
    if d.adminInvalid then s.cmdFail r fi d resNvme (nvmeStatus 0 0x02 true)
    else match fid with
      | 0x02 => s.adminOk r fi d (s.fld F.HX_STOR_FN_PS_PS fi)
      | 0x06 => s.adminOk r fi d (s.fld F.HX_STOR_FN_PS_WCE fi)
      | 0x0C =>
        let t := (s.fnStor fi).apst
        let bs := (List.range 32).flatMap (fun i => let e := t.getD i (0, 0); leBytes 8 (e.1 * 8 + e.2 * 256))
        (s.dmaWrite fi d.dataAddr bs).adminOk r fi d (s.fld F.HX_STOR_FN_PS_APST_EN fi)
      | _ => s.cmdFail r fi d resNvme (nvmeStatus 0 0x02 true))

def execGetFeatures (ring : Fin 65536) (s : State) : Host.Outcome State Fault Refusal := .next (s.getFeatures ring.val)

/-- APST_IDLE (R479): idle for the ITPT of the current entry. -/
def State.apstIdle (s : State) (fi : Nat) : State :=
  let ps := s.fld F.HX_STOR_FN_PS_PS fi
  let e := (s.fnStor fi).apst.getD ps (0, 0)
  let busy := s.rings.any (fun x => s.ownerOf x.1 == fi && x.2.work.any (fun d => dtypeClass d.dtype == some 2))
  if !s.flag F.HX_STOR_FN_PS_APST_EN fi ∨ 4 ≤ ps ∨ e.1 = 0 ∨ busy then s
  else (s.setPs fi e.1).lowerDrives fi

def execApstIdle (fi : Fin 2056) (s : State) : Host.Outcome State Fault Refusal := .next (s.apstIdle fi.val)

/-- A function reset or destruction returns its storage settings to reset and cuts off its commands (R337, R479). -/
def State.storReset (s : State) (fi : Nat) : State :=
  let s := (s.withStor { s.stor with cmds := s.stor.cmds.filter (fun c => s.ownerOf c.ring != fi), far := s.stor.far.filter (fun c => s.ownerOf c.ring != fi),
                                     fns := Map.set {} fi {} s.stor.fns })
  ((s.resetFld F.HX_STOR_FN_PS_PS fi).resetFld F.HX_STOR_FN_PS_APST_EN fi).resetFld F.HX_STOR_FN_PS_WCE fi

/-! ### Lost blocks (R473) -/

/-- A poisoned line of the write cache: the versions of a block are lost. -/
def State.loseBlock (s : State) (h blk : Nat) : State :=
  if !s.stor.vers.any (fun v => v.handle == h && v.blk == blk) then s
  else
    let mine := s.stor.vers.filter (fun v => v.handle == h && v.blk == blk)
    let gids := (mine.filter (·.st == .uncert)).map (·.gid)
    let s := (s.withStor { s.stor with vers := s.stor.vers.filter (fun v => !(v.handle == h && v.blk == blk)) })
    -- what was in a region is done with; what was not certified yet is never acknowledged
    let s := ((mine.filter Ver.isVb).foldl State.regionDone s).dropRx (fun m => m.groups.any (fun g => gids.contains g.2.1))
    let s := s.faultCmds (fun c => c.cert && c.gids.any gids.contains)
    let s := (s.raise 795 [.w h, .d (8 * blk / s.secPer h)]).storCount 7
    let s := if s.lostFull then (s.setFld F.HX_STOR_NS_FAIL_CODE h 5).nsGo h nsFailed
      else (s.withStor { s.stor with lost := s.stor.lost ++ [{ handle := h, sec := 8 * blk, n := 8 }] })
    (s.drainKeep h).storSettle

end Sys2Proof.Machine
end

