-- ==== Sys2Proof/Machine/RmaWire.lean ====
section
/-! DEFINITION. Remote memory access on the wire: frames, keys, windows, endpoint and peer state (R414 to R431, R440 to R447). -/

namespace Sys2Proof.Machine

/-! ### Configuration (R443 to R446) -/

def State.rmaCount (s : State) (j : Nat) (n : Nat := 1) : State := s.bump F.HX_RMA_STAT_COUNT j n

/-- H in ns. -/
def State.horizon (s : State) : Nat := max (s.fld F.HX_RMA_CFG_H) 1 * 1000000
/-- TIME_TOL in ns. -/
def State.timeTol (s : State) : Nat := s.fld F.HX_RMA_CFG_TIME_TOL * 1000
def State.pmtu (s : State) : Nat := 1024 * 2 ^ s.fld F.HX_RMA_CFG_PMTU

/-- SYNC codes of R55. -/
def syncFree : Nat := 0
def syncLocking : Nat := 1
def syncLocked : Nat := 2
def syncHoldover : Nat := 3

/-- IN_SYNC (R425). -/
def State.inSync (s : State) : Bool :=
  let y := s.fld F.AO_TB_STATUS_SYNC
  (y == syncLocked || y == syncHoldover) && decide (s.fld F.AO_TB_STATUS_ERR_EST ≤ s.timeTol)

/-- Endpoint and connection states (R444, R445). -/
def epDisabled : Nat := 0
def epHoldoff : Nat := 1
def epActive : Nat := 2
def epNoSync : Nat := 3
def connReset : Nat := 0
def connError : Nat := 2

def State.epState (s : State) (e : Nat) : Nat := s.fld F.HX_RMA_EP_STATE e
def State.connState (s : State) (c : Nat) : Nat := s.fld F.HX_RMA_CONN_STATE c

/-- Owner, egress, class and template of an endpoint or connection. -/
def State.rmaOwner (s : State) (k : PeerKey) : Nat := if k.conn then s.fld F.HX_RMA_CONN_OWNER k.id else s.fld F.HX_RMA_EP_OWNER k.id
def State.rmaTxLp (s : State) (k : PeerKey) : Nat := if k.conn then s.fld F.HX_RMA_CONN_TX_LP k.id else s.fld F.HX_RMA_EP_TX_LP k.id
def State.rmaClass (s : State) (k : PeerKey) : Nat := if k.conn then s.fld F.HX_RMA_CONN_CLASS k.id else s.fld F.HX_RMA_EP_CLASS k.id
def State.rmaTmpl (s : State) (k : PeerKey) : Nat := if k.conn then s.fld F.HX_RMA_CONN_TMPL k.id else s.fld F.HX_RMA_EP_TMPL k.id
def State.rmaMaxRate (s : State) (k : PeerKey) : Nat := if k.conn then 400000 else min (max (s.fld F.HX_RMA_EP_MAX_RATE k.id) 100) 400000

/-- Address and number of the peer. -/
def State.peerAddr (s : State) (k : PeerKey) : Nat :=
  if k.conn then ofBe (leBytes 16 (s.fld F.HX_RMA_CONN_PEER_ADDR k.id)) else k.addr
def State.peerId (s : State) (k : PeerKey) : Nat := if k.conn then s.fld F.HX_RMA_CONN_REMOTE_CONN k.id else k.peer

/-- The number by which events and logs name an endpoint or connection (R416). -/
def PeerKey.num (k : PeerKey) : Nat := if k.conn then 4096 + k.id else k.id

/-! ### The RMA header (R417 to R419) -/

/-- An RMA header, field by field. -/
structure RmaHdr where
  version : Nat := 1
  op : Nat
  durable : Bool := false
  notify : Bool := false
  first : Bool := false
  last : Bool := false
  conn : Bool
  ece : Bool := false
  resv : Nat := 0
  dst : Nat
  src : Nat
  plen : Nat := 0
  psn : Nat
  msn : Nat := 0
  sendTs : Nat
  key : Nat := 0
  aux : Nat := 0
  offset : Nat := 0
  msgLen : Nat := 0
  tail : Nat := 0
  deriving DecidableEq, Repr

def opWrite : Nat := 1
def opReadReq : Nat := 2
def opReadResp : Nat := 3
def opAck : Nat := 4

/-- The 48 bytes of a header. -/
def RmaHdr.bytes (h : RmaHdr) : List Byte :=
  beBytes 1 (h.version * 16 + h.op)
    ++ beBytes 1 (b2n h.durable * 128 + b2n h.notify * 64 + b2n h.first * 32 + b2n h.last * 16 + b2n h.conn * 8 + b2n h.ece * 4 + h.resv)
    ++ beBytes 2 h.dst ++ beBytes 2 h.src ++ beBytes 2 h.plen ++ beBytes 4 h.psn ++ beBytes 4 h.msn ++ beBytes 8 h.sendTs ++ beBytes 4 h.key
    ++ beBytes 4 h.aux ++ beBytes 8 h.offset ++ beBytes 4 h.msgLen ++ beBytes 4 h.tail

/-- A big-endian field. -/
def beAt (bs : List Byte) (o n : Nat) : Nat := ofBe ((bs.drop o).take n)

/-- The header at the start of a UDP payload. -/
def rmaHdr (bs : List Byte) : RmaHdr :=
  let b0 := beAt bs 0 1
  let b1 := beAt bs 1 1
  { version := b0 / 16, op := b0 % 16, durable := bit b1 7, notify := bit b1 6, first := bit b1 5, last := bit b1 4, conn := bit b1 3, ece := bit b1 2,
    resv := b1 % 4, dst := beAt bs 2 2, src := beAt bs 4 2, plen := beAt bs 6 2, psn := beAt bs 8 4, msn := beAt bs 12 4, sendTs := beAt bs 16 8,
    key := beAt bs 24 4, aux := beAt bs 28 4, offset := beAt bs 32 8, msgLen := beAt bs 40 4, tail := beAt bs 44 4 }

/-- Ones' complement sum of 16-bit words, an odd last byte padded. -/
def onesSum (acc : Nat) : List Byte → Nat
  | [] => acc
  | [a] => acc + a.toNat * 256
  | a :: b :: r => onesSum (acc + a.toNat * 256 + b.toNat) r

/-- Fold a ones' complement sum to 16 bits. -/
def foldSum (x : Nat) : Nat :=
  let y := x % 65536 + x / 65536
  let z := y % 65536 + y / 65536
  z % 65536 + z / 65536

/-- The UDP checksum over pseudo-header and datagram: 0xFFFF where it is right. -/
def udpSum (src dst body : List Byte) : Nat := foldSum (onesSum (17 + body.length) (src ++ dst ++ body))

/-- Syndromes of R419. -/
def synAck : Nat := 0x00
def synDurable : Nat := 0x01
def synPending : Nat := 0x02
def synRevoked : Nat := 0x10
def synNoWindow : Nat := 0x11
def synAccess : Nat := 0x12
def synBounds : Nat := 0x13
def synNotDurable : Nat := 0x14
def synMedia : Nat := 0x15
def synRefused : Nat := 0x18
def synPeerFull : Nat := 0x20
def synNoSync : Nat := 0x21
def synBusy : Nat := 0x22

/-! ### Frames (R415, R416, R446) -/

/-- A frame built from a template: the identification of an IPv4 header and the flow label of an IPv6 one are open values. -/
def State.rmaFrame (s : State) (k : PeerKey) (dst : Nat) (payload : List Byte) : List Byte :=
  let w (n : Nat) : Nat := s.fld F.HX_RMA_TMPL_WORD (16 * s.rmaTmpl k + n)
  let v6 := bit (w 5) 31
  let tos := bits (w 5) 8 6 * 4 + 2
  let addr := [w 6, w 7, w 8, w 9].flatMap (leBytes 4)
  let dest := beBytes 16 dst
  let udpLen := 8 + payload.length
  let head := beBytes 2 (0xC000 + k.num % 16384) ++ beBytes 2 (s.fld F.HX_RMA_CFG_PORT) ++ beBytes 2 udpLen
  let a := if v6 then addr else addr.take 4
  let b := if v6 then dest else dest.drop 12
  let sum := 65535 - udpSum a b (head ++ [0, 0] ++ payload)
  let udp := head ++ beBytes 2 (if sum = 0 then 65535 else sum) ++ payload
  let vlan := if bit (w 4) 31 then beBytes 2 0x8100 ++ beBytes 2 (bits (w 4) 0 16) else []
  let eth := beBytes 6 (bits (w 1) 0 16 * 2 ^ 32 + w 0) ++ beBytes 6 (bits (w 3) 0 16 * 2 ^ 32 + w 2) ++ vlan
  if v6 then
    eth ++ beBytes 2 0x86DD ++ beBytes 4 (6 * 2 ^ 28 + tos * 2 ^ 20 + s.free % 2 ^ 20) ++ beBytes 2 udpLen ++ beBytes 1 17 ++ beBytes 1 (w 5 % 256) ++ a ++ b ++ udp
  else
    let ip0 := beBytes 1 0x45 ++ beBytes 1 tos ++ beBytes 2 (20 + udpLen) ++ beBytes 2 (s.free % 65536) ++ beBytes 2 (s.free / 65536 % 2 * 16384)
      ++ beBytes 1 (w 5 % 256) ++ beBytes 1 17
    eth ++ beBytes 2 0x0800 ++ ip0 ++ beBytes 2 (65535 - foldSum (onesSum 0 (ip0 ++ a ++ b))) ++ a ++ b ++ udp

/-- Send an RMA packet as R378 states for SEND. -/
def State.rmaSend (s : State) (k : PeerKey) (h : RmaHdr) (payload : List Byte) : State :=
  let f := s.rmaFrame k (s.peerAddr k) (h.bytes ++ payload)
  let s := (s.rmaCount 0).drawn
  if s.rmaTxLp k < 541 then (s.sendFrame (s.rmaOwner k) (s.rmaTxLp k) (s.rmaClass k) f).1 else s

/-! ### Arrivals (R415, R442) -/

/-- An RMA packet as it arrives: its header and payload, the sender's address, CE in its IP header, and whether UDP length and checksum hold. -/
structure RmaIn where
  h : RmaHdr
  payload : List Byte
  addr : Nat
  ce : Bool
  good : Bool
  deriving DecidableEq, Repr

/-- The RMA packet of a frame. -/
def rmaIn (u : Udp) : RmaIn :=
  let n := beAt u.body 4 2
  let body := u.body.drop 8
  let csum := beAt u.body 6 2
  let addr := if u.v6 then ofBe u.src else 0xFFFF00000000 + ofBe u.src
  let ok := (csum == 0 && !u.v6) || udpSum u.src u.dst u.body == 0xFFFF
  { h := rmaHdr body, payload := body.drop 48, addr := addr, ce := u.ecn == 3, good := n == u.body.length && decide (56 ≤ n) && ok }

/-- The state of a packet's peer is named by this key. -/
def RmaIn.key (p : RmaIn) : PeerKey :=
  if p.h.conn then { conn := true, id := p.h.dst, addr := 0, peer := 0 } else { conn := false, id := p.h.dst, addr := p.addr, peer := p.h.src }

/-- The violation that a packet's header shows (R442): code, or none. -/
def State.rmaBad (s : State) (p : RmaIn) : Option Nat :=
  let h := p.h
  let w := h.op == opWrite
  let flags := (h.durable && !(w || h.op == opReadReq)) || (h.notify && !w) || (h.first && !w) || (h.last && !w) || (h.ece && h.op != opAck)
  let range := (w && (decide (h.msgLen < h.plen) || (h.first && h.last && h.plen != h.msgLen) || (h.last && decide (h.offset + h.plen < h.msgLen))))
    || (h.op == opReadResp && decide (h.msgLen < h.offset + h.plen))
  if h.version ≠ 1 ∨ h.op = 0 ∨ 4 < h.op ∨ h.resv ≠ 0 ∨ h.tail ≠ 0 ∨ flags then some 1
  else if s.pmtu < h.plen ∨ h.plen ≠ p.payload.length ∨ !p.good then some 2
  else if h.conn ∧ (16384 ≤ h.dst ∨ s.peerAddr p.key ≠ p.addr ∨ s.peerId p.key ≠ h.src) then some 3
  else if !h.conn ∧ (4096 ≤ h.dst ∨ s.epState h.dst = epDisabled) then some 3
  else if range then some 6
  else none

/-! ### Peers (R427) -/

def State.peer? (s : State) (k : PeerKey) : Option Peer := s.rma.peers.find? (·.key == k)
def State.setPeer (s : State) (p : Peer) : State := (s.withRma { s.rma with peers := s.rma.peers.map (fun x => if x.key = p.key then p else x) })

/-- Packets of a peer that no answer has come for. -/
def State.unacked (s : State) (k : PeerKey) : List TxPkt :=
  ((s.rma.tx.filter (·.key == k)).flatMap (·.pkts)).filter (fun p => p.answer.isNone && !p.dead)

/-- The entry is idle and may be evicted. -/
def State.idlePeer (s : State) (p : Peer) : Bool :=
  !p.key.conn && decide (p.lastTs + s.horizon ≤ s.now) && (s.unacked p.key).isEmpty && p.pend == 0

/-- A new entry: the first PSN and MSN of a sender are open values. -/
def State.freshPeer (s : State) (k : PeerKey) : Peer :=
  { key := k, nextPsn := s.free % 2 ^ 32, nextMsn := s.free / 2 ^ 32 % 2 ^ 32, rate := s.rmaMaxRate k, lastTs := s.now }

/-- PEER_FULL is answered, or begins a wait (R427, R448). -/
def State.peerFull (s : State) : State := (s.rmaCount 9).limited 788 0 1 (fun n => [.w n])

/-- The entry of a peer, made where there is none: the least recently used idle entry gives way when all 262,144 are taken. -/
def State.needPeer (s : State) (k : PeerKey) : State × Option Peer :=
  match s.peer? k with
  | some p => (s, some p)
  | none =>
    let p := s.freshPeer k
    let dat := s.rma.peers.filter (!·.key.conn)
    if dat.length < 262144 then ((s.withRma { s.rma with peers := s.rma.peers ++ [p] }).drawn, some p)
    else match dat.filter s.idlePeer with
      | [] => (s, none)
      | q :: qs =>
        let old := qs.foldl (fun a b => if b.lastTs < a.lastTs then b else a) q
        (((s.withRma { s.rma with peers := s.rma.peers.filter (fun (x : Peer) => x.key != old.key) ++ [p] }).drawn).rmaCount 14, some p)

/-- A packet of a peer came with CE: ECE is owed in the next ACK to it (R439). -/
def State.markCe (s : State) (k : PeerKey) (ce : Bool) : State :=
  match s.peer? k with
  | some p => if ce then s.setPeer { p with ecn := true } else s
  | none => s

/-- The entry has processed a packet that was not a duplicate (R427). -/
def State.touchPeer (s : State) (k : PeerKey) (ts : Nat) : State :=
  match s.peer? k with
  | some p => s.setPeer { p with lastTs := max p.lastTs (max s.now ts) }
  | none => s

/-! ### Windows (R420 to R423) -/

def State.win (s : State) (i : Nat) : RmaWin := Map.get {} i s.rma.wins
def State.setWin (s : State) (i : Nat) (w : RmaWin) : State := (s.withRma { s.rma with wins := Map.set {} i w s.rma.wins })

/-- KEY of a window: index and generation. -/
def State.winKey (s : State) (i : Nat) : Nat := i * 4096 + (s.win i).gen

/-- The window lies in the function's committed record. -/
def State.ownsWin (s : State) (fi i : Nat) : Bool := s.committed fi && inRange i (s.fld F.HX_FN_REC_WIN_BASE fi) (s.fld F.HX_FN_REC_WIN_COUNT fi)

/-- Close the groups of the arriving messages a test picks with the blocks already placed, and forget those messages (R475). -/
def State.closeRx (s : State) (p : RxMsg → Bool) : State :=
  let gids := (s.rma.rx.filter p).flatMap (fun m => m.groups.map (·.2.1))
  (((s.withRma { s.rma with rx := s.rma.rx.filter (fun (m : RxMsg) => !p m) }).withStor { s.stor with open' := s.stor.open'.filter (fun (g : Nat) => !gids.contains g) })).storSettle

/-- Detach a window under its next generation (R421, R423); a message in it that has not all been placed is cut short (R424). -/
def State.bumpWin (s : State) (i : Nat) : State :=
  (s.setWin i { gen := ((s.win i).gen + 1) % 4096 }).closeRx (fun m => m.win == i && m.groups.foldl (fun a g => a + g.2.2.2) 0 != m.len)

/-- The memory range of a MEMORY window lies in the owner's memory: core memory for a cluster; a function's memory is its 64-bit address space. -/
def State.memRange (s : State) (fi base len : Nat) : Bool := if fi < 2056 then decide (base + len ≤ 2 ^ 64) else s.inCore base len

/-- RESULT values of R433. -/
def resPartial : Nat := 0x40
def resRevoked : Nat := 0x41
def resRemoteAccess : Nat := 0x42
def resNotDurable : Nat := 0x43
def resTimeout : Nat := 0x44
def resDurTimeout : Nat := 0x45
def resNoSync : Nat := 0x46
def resRemoteMedia : Nat := 0x47
def resRefused : Nat := 0x48
def resPeerFull : Nat := 0x49
def resEpState : Nat := 0x4A
def resWinBusy : Nat := 0x4B

/-- WIN_SET (R421). -/
def State.winSet (s : State) (r : Nat) : State :=
  s.withDesc r (· == 0x42) (fun s d =>
    let fi := s.ownerOf r
    let w6 := leAt d.bytes 24 4
    let w7 := leAt d.bytes 28 4
    let i := bits (leAt d.bytes 4 4) 0 20
    let base := leAt d.bytes 8 8
    let len := leAt d.bytes 16 8
    let persist := bit w6 31
    let ns := bits w7 0 12
    let ring := bits w6 0 16
    let nsOk := inRange ns (s.fld F.HX_FN_REC_NS_BASE fi) (s.fld F.HX_FN_REC_NS_COUNT fi)
    let range := if persist then decide (base + len ≤ s.nlba ns * s.lbaSize ns) else s.memRange fi base len
    let ringOk := s.ringOwner ring == s.ringOwner r && s.ringKind ring == kindEvent
    if !s.mayCarry r d.dtype ∨ leAt d.bytes 0 2 ≠ 0 ∨ bits (leAt d.bytes 0 4) 24 7 ≠ 0 ∨ bits (leAt d.bytes 4 4) 20 12 ≠ 0
        ∨ bits w6 16 12 ≠ 0 ∨ bits w7 12 20 ≠ 0 ∨ !d.zero 32 56 then s.complete r d.pos resBadDesc 0
    else if !s.ownsWin fi i then (s.carve fi 1).complete r d.pos resNotOwned 0
    else if (s.win i).attached then s.complete r d.pos resWinBusy 0
    else if len = 0 ∨ 2 ^ 40 < len then s.complete r d.pos resBadLength 0
    else if (persist ∧ !nsOk) ∨ !range ∨ !ringOk then s.complete r d.pos resBadDesc 0
    else
      let w : RmaWin := { gen := (s.win i).gen, attached := true, base := base, len := len, persist := persist, rd := bit w6 30, wr := bit w6 29,
                          notify := bit w6 28, ring := ring, ns := ns }
      (s.setWin i w).complete r d.pos resOk (s.winKey i))

def execWinSet (ring : Fin 65536) (s : State) : Host.Outcome State Fault Refusal := .next (s.winSet ring.val)

/-- WIN_REVOKE (R421, R423): the generation rises at once; the descriptor waits for the fence. -/
def State.winRevoke (s : State) (r : Nat) : State :=
  s.withNew r (fun d => d.dtype == 0x43 && !s.rma.revoking.any (fun x => x.2.1 == r && x.2.2 == d.pos)) (fun s d =>
    let fi := s.ownerOf r
    let i := bits (leAt d.bytes 4 4) 0 20
    if !s.mayCarry r 0x43 ∨ leAt d.bytes 0 2 ≠ 0 ∨ bits (leAt d.bytes 0 4) 24 7 ≠ 0 ∨ bits (leAt d.bytes 4 4) 20 12 ≠ 0 ∨ !d.zero 8 56 then
      s.complete r d.pos resBadDesc 0
    else if !s.ownsWin fi i then (s.carve fi 1).complete r d.pos resNotOwned 0
    else
      let s := s.bumpWin i
      (s.withRma { s.rma with revoking := s.rma.revoking ++ [(i, r, d.pos)] }))

def execWinRevoke (ring : Fin 65536) (s : State) : Host.Outcome State Fault Refusal := .next (s.winRevoke ring.val)

/-- REVOKE_DRAINED: every packet that passed under the old key is placed, so the REVOKE completes (R423). -/
def State.revokeDrained (s : State) (i : Nat) : State :=
  match s.rma.revoking.find? (·.1 == i) with
  | none => s
  | some x =>
    ((s.withRma { s.rma with revoking := s.rma.revoking.filter (fun y => !(y.2.1 == x.2.1 && y.2.2 == x.2.2)) })).completeLive
      x.2.1 x.2.2 resOk (s.winKey i)

def execRevokeDrained (window : Fin 1048576) (s : State) : Host.Outcome State Fault Refusal := .next (s.revokeDrained window.val)

end Sys2Proof.Machine
end

