-- ==== Sys2Proof/Machine/Rma.lean ====
section
/-! DEFINITION. Remote memory access: initiator, target, endpoints and connections (R422 to R442); with destaging to REMOTE backends. -/

namespace Sys2Proof.Machine

/-! ### Messages at the initiator (R432 to R435, R438) -/

def TxMsg.same (a b : TxMsg) : Bool := a.key == b.key && a.msn == b.msn
def State.setTx (s : State) (m : TxMsg) : State := (s.withRma { s.rma with tx := s.rma.tx.map (fun x => if x.same m then m else x) })
def State.dropTx (s : State) (m : TxMsg) : State := (s.withRma { s.rma with tx := s.rma.tx.filter (fun x => !x.same m) })

/-- The header of a packet; a retransmission repeats it. -/
def State.txHdr (s : State) (m : TxMsg) (p : TxPkt) : RmaHdr :=
  { op := if m.read then opReadReq else opWrite, durable := m.durable, notify := m.notify, first := !m.read && p.first, last := !m.read && p.last,
    conn := m.key.conn, dst := s.peerId m.key, src := m.key.id, plen := if m.read then 0 else p.len, psn := p.psn, msn := m.msn, sendTs := p.sendTs,
    key := m.wkey, aux := if p.last && !m.read then m.imm else 0, offset := m.roff + p.off, msgLen := if m.read then p.len else m.len }

def State.sendPkt (s : State) (m : TxMsg) (p : TxPkt) : State :=
  s.rmaSend m.key (s.txHdr m p) (if m.read then [] else (m.data.drop p.off).take p.len)

/-- A SYNDROME that ends its packet: a refusal that is not retryable. -/
def refusal (syn : Nat) : Bool := decide (0x10 ≤ syn) && decide (syn < 0x20)

/-- The packet was placed at the target. -/
def TxPkt.wasPlaced (p : TxPkt) : Bool := p.placed || p.answer == some synAck || p.answer == some synDurable

/-- Nothing more comes for the packet. -/
def TxPkt.finished (p : TxPkt) : Bool := p.dead || p.answer.isSome

/-- A packet of the message was refused or has timed out: no further packet is cut from it. -/
def TxMsg.stopped (m : TxMsg) : Bool := m.pkts.any (fun p => p.dead || (match p.answer with | some y => refusal y | none => false))

def TxMsg.received (m : TxMsg) : Nat := m.got.foldl (fun a x => a + x.2) 0

/-- The message is at its end (R433, R435). -/
def TxMsg.finished (m : TxMsg) : Bool :=
  (m.read && decide (m.len ≤ m.received)) || ((m.stopped || decide (m.len ≤ m.cut)) && m.pkts.all TxPkt.finished)

/-- Bytes placed or received. -/
def TxMsg.moved (m : TxMsg) : Nat :=
  if m.read then m.received else (m.pkts.filter TxPkt.wasPlaced).foldl (fun a p => a + p.len) 0

/-- RESULT of a finished message: the first row of R433 that applies. -/
def TxMsg.result (m : TxMsg) : Nat :=
  let has (y : Nat) : Bool := m.pkts.any (·.answer == some y)
  if m.moved = m.len then
    (if m.read ∨ !m.durable ∨ has synDurable then resOk else resDurTimeout)
  else if 0 < m.moved then resPartial
  else if has synRevoked then resRevoked
  else if has synNoWindow ∨ has synAccess ∨ has synBounds then resRemoteAccess
  else if has synNotDurable then resNotDurable
  else if m.pkts.any (·.dead) then resTimeout
  else if has synMedia then resRemoteMedia
  else resRefused

/-- What the result of a REMOTE destage says of its backend (R472). -/
def remoteOutcome (result : Nat) : BackendResult :=
  if result = resOk then .ok [] else if result = resRemoteMedia then .media
  else if result = resTimeout ∨ result = resNoSync ∨ result = resEpState ∨ result = resPartial ∨ result = resDurTimeout then .lost else .failed

/-- A REMOTE destage has its answer, once every message of it has ended. -/
def State.destageEnd (s : State) (id result : Nat) : State :=
  let more := s.rma.tx.any (fun x => x.ring == 65536 && x.destage == id)
  match s.stor.destages.findIdx? (·.id == id) with
  | none => s
  | some i =>
    if result = resOk ∧ more then s
    else ((s.withRma { s.rma with tx := s.rma.tx.filter (fun (x : TxMsg) => !(x.ring == 65536 && x.destage == id)) })).destageAnswer i (remoteOutcome result)

/-- What the result of a message says of a REMOTE backend to a command that does not pass the cache (R457). -/
def farOutcome (result : Nat) (data : List Byte) : BackendResult :=
  if result = resOk then .ok data else if result = resRemoteMedia then .media
  else if result = resTimeout ∨ result = resEpState then .lost else .failed

/-- A write or read of a REMOTE backend has ended. -/
def State.farEnd (s : State) (id result : Nat) (data : List Byte) : State :=
  match s.stor.far.find? (·.id == id) with
  | some x => s.farDone x (farOutcome result data)
  | none => s

/-- End a message with a result. -/
def State.endMsg (s : State) (m : TxMsg) (result : Nat) : State :=
  let s := s.dropTx m
  if m.ring = 65536 then s.destageEnd m.destage result
  else if m.ring = 65537 then s.farEnd m.destage result m.data
  else s.completeLive m.ring m.pos result m.moved

/-- End a message from outside: EP_STATE as it stands; TIMEOUT and NO_SYNC only where nothing was placed. -/
def State.cutMsg (s : State) (m : TxMsg) (result : Nat) : State :=
  s.endMsg m (if result ≠ resEpState ∧ 0 < m.moved then resPartial else result)

/-- The sender may use this PSN: at most 512 unanswered, and every PSN up to p - 512 answered (R429, R440). -/
def State.psnFree (s : State) (k : PeerKey) (psn : Nat) : Bool :=
  (s.unacked k).all (fun p => decide ((psn + 2 ^ 32 - p.psn) % 2 ^ 32 < 512))

/-- Cut and send the packets of a message that may go now. -/
def State.pumpMsg (s : State) (m : TxMsg) (n : Nat) : State :=
  match n with
  | 0 => s
  | n + 1 =>
    match s.peer? m.key with
    | none => s
    | some q =>
      let k := if m.read then m.len else min s.pmtu (m.len - m.cut)
      let last := decide (m.cut + k = m.len)
      let wait := last && (m.notify || m.durable) && !m.read && m.pkts.any (fun p => !p.finished)
      if m.len ≤ m.cut ∨ m.stopped ∨ wait ∨ !s.psnFree m.key q.nextPsn then s
      else
        let p : TxPkt := { psn := q.nextPsn, off := m.cut, len := k, first := m.cut == 0, last := last, sendTs := s.now }
        let m := { m with cut := m.cut + k, pkts := m.pkts ++ [p] }
        let s := ((s.setPeer { q with nextPsn := (q.nextPsn + 1) % 2 ^ 32 }).setTx m).sendPkt m p
        s.pumpMsg m n

/-- Complete what is finished and send what may go, for the messages of a peer. -/
def State.pumpPeer (s : State) (k : PeerKey) : State :=
  let s := ((s.rma.tx.filter (·.key == k)).filter TxMsg.finished).foldl (fun s m => s.endMsg m m.result) s
  (s.rma.tx.filter (·.key == k)).foldl (fun s m => s.pumpMsg m 512) s

/-- Start a message to a peer whose entry is at hand. -/
def State.startMsg (s : State) (q : Peer) (m : TxMsg) : State :=
  let s := s.setPeer { q with nextMsn := (q.nextMsn + 1) % 2 ^ 32 }
  (s.withRma { s.rma with tx := s.rma.tx ++ [{ m with msn := q.nextMsn }] }).pumpPeer q.key

/-- The descriptor waits for a peer entry no more. -/
def State.unwait (s : State) (r p : Nat) : State := (s.withRma { s.rma with waits := s.rma.waits.filter (fun x => !(x.1 == r && x.2 == p)) })

/-- WRITE and READ descriptors (R432): checks, the peer's entry, the first packets. -/
def State.rmaPost (s : State) (r dtype : Nat) (ok : Bool) (data : List Byte) : State :=
  s.withNew r (fun d => d.dtype == dtype && !s.rma.tx.any (fun m => m.ring == r && m.pos == d.pos)) (fun s d =>
    let fi := s.ownerOf r
    let w0 := leAt d.bytes 0 4
    let w7 := leAt d.bytes 28 4
    let read := dtype == 0x41
    let conn := bit w0 15
    let id := bits w0 0 14
    let len := leAt d.bytes 24 4
    let addr := beAt d.bytes 32 16
    let mapped := addr / 2 ^ 32 == 0xFFFF
    let k : PeerKey := if conn then { conn := true, id := id, addr := 0, peer := 0 } else { conn := false, id := id, addr := addr, peer := bits w7 0 16 }
    let v6 := bit (s.fld F.HX_RMA_TMPL_WORD (16 * s.rmaTmpl k + 5)) 31
    let st := if conn then s.connState id else s.epState id
    if !s.mayCarry r dtype ∨ bits w0 24 7 ≠ 0 ∨ bits w7 16 15 ≠ 0 ∨ !d.zero 52 56 ∨ (read ∧ (bit w7 31 ∨ !d.zero 48 52)) then s.complete r d.pos resBadDesc 0
    else if len = 0 ∨ 16777216 < len ∨ (!conn ∧ mapped = v6) then s.complete r d.pos resBadDesc 0
    else if (!conn ∧ 4096 ≤ id) ∨ s.rmaOwner k ≠ fi then (s.carve fi 1).complete r d.pos resNotOwned 0
    else if (if conn then st ≠ connReady else st = epDisabled) then s.complete r d.pos resEpState 0
    else if (!conn ∧ st = epNoSync) ∨ (conn ∧ bit w0 14 ∧ !s.inSync) then s.complete r d.pos resNoSync 0
    else if !conn ∧ st = epHoldoff then s
    else
      let src := if read then some [] else s.sourceBytes fi (leAt d.bytes 8 8) len ok data
      match src with
      | none => s.complete r d.pos resDataError 0
      | some bs =>
        match s.needPeer k with
        | (s, none) => if s.rma.waits.contains (r, d.pos) then s else s.peerFull.withRma { s.peerFull.rma with waits := s.rma.waits ++ [(r, d.pos)] }
        | (s, some q) =>
          let m : TxMsg :=
            { ring := r, pos := d.pos, key := k, read := read, durable := bit w0 14, notify := !read && bit w7 31,
              imm := leAt d.bytes 48 4, wkey := leAt d.bytes 4 4, laddr := leAt d.bytes 8 8, roff := leAt d.bytes 16 8, len := len, msn := 0, data := bs }
          (s.unwait r d.pos).startMsg q m)

/-- RMA_WRITE: `data` is what the read of the source buffer returned. -/
def execRmaWrite (ring : Fin 65536) (ok : Bool) (data : List Byte) (s : State) : Host.Outcome State Fault Refusal := .next (s.rmaPost ring.val 0x40 ok data)

def execRmaRead (ring : Fin 65536) (s : State) : Host.Outcome State Fault Refusal := .next (s.rmaPost ring.val 0x41 true [])

/-- PEER_WAIT_TIMEOUT: a descriptor has waited H for a peer entry (R427). -/
def State.peerWait (s : State) (r : Nat) : State :=
  match s.rma.waits.find? (·.1 == r) with
  | some x => (s.unwait r x.2).completeLive r x.2 resPeerFull 0
  | none => s

def execPeerWaitTimeout (ring : Fin 65536) (s : State) : Host.Outcome State Fault Refusal := .next (s.peerWait ring.val)

/-! ### States of endpoints and connections (R431, R441) -/

def State.rmaRefuse (s : State) (off : Nat) : State := s.raise 789 [.w off]

/-- Move an endpoint; every change raises EV0786. -/
def State.epGo (s : State) (e st : Nat) : State := (s.setFld F.HX_RMA_EP_STATE e st).raise 786 [.w e, .w (s.epState e), .w st, .w 0]

/-- Messages of an endpoint or connection in progress end with a result. -/
def State.cutMsgs (s : State) (conn : Bool) (id result : Nat) : State :=
  (s.rma.tx.filter (fun m => m.key.conn == conn && m.key.id == id)).foldl (fun s m => s.cutMsg m result) s

/-- The peer entries of an endpoint or connection are invalidated. -/
def State.dropPeers (s : State) (conn : Bool) (id : Nat) : State :=
  ((s.withRma { s.rma with peers := s.rma.peers.filter (fun (p : Peer) => !(p.key.conn == conn && p.key.id == id)) })).closeRx
    (fun m => m.key.conn == conn && m.key.id == id)

/-- The module stops or resumes being IN_SYNC: endpoints follow (R431). -/
def State.syncKeep (s : State) : State :=
  if s.inSync = s.rma.synced then s
  else (s.listed F.HX_RMA_EP_STATE).foldl (fun s e =>
    let st := s.epState e
    if !s.inSync ∧ (st = epHoldoff ∨ st = epActive) then (s.cutMsgs false e resNoSync).epGo e epNoSync
    else if s.inSync ∧ st = epNoSync then s.epGo e epHoldoff
    else s) ((s.withRma { s.rma with synced := s.inSync }).when s.inSync (fun s => s.backendBack s.remote))

/-- An endpoint is disabled. -/
def State.epDown (s : State) (e : Nat) : State :=
  if s.epState e = epDisabled then s else ((s.cutMsgs false e resEpState).dropPeers false e).epGo e epDisabled

/-- A write of one word of HX_RMA_EP (R444). -/
def State.epWrite (s : State) (who : Party) (e w v : Nat) : State :=
  let off := 0x1000 + 16 * e + 4 * w
  let idle := s.epState e == epDisabled
  match w with
  | 0 =>
    let owner := bits v 16 12
    let tx := bits v 0 10
    let s := if idle then (s.put who F.HX_RMA_EP_OWNER e owner).put who F.HX_RMA_EP_TX_LP e tx
      else if owner ≠ s.fld F.HX_RMA_EP_OWNER e ∨ tx ≠ s.fld F.HX_RMA_EP_TX_LP e then s.rmaRefuse off else s
    if !bit v 31 then (s.put who F.HX_RMA_EP_EN e 0).epDown e
    else if !idle then s
    else if !s.committed (s.fld F.HX_RMA_EP_OWNER e) then s.rmaRefuse off
    else ((s.put who F.HX_RMA_EP_EN e 1).dropPeers false e).epGo e epHoldoff
  | 1 => if idle then (s.put who F.HX_RMA_EP_CLASS e (bits v 28 4)).put who F.HX_RMA_EP_MAX_RATE e (bits v 0 19) else s.rmaRefuse off
  | 2 => if idle then s.put who F.HX_RMA_EP_TMPL e (bits v 0 8) else s.rmaRefuse off
  | _ => s

/-- EP_ENABLE and EP_DISABLE: word 0 written with EN 1 or 0. -/
def execEpEnable (who : Party) (ep : Fin 4096) (v : Word) (s : State) : Host.Outcome State Fault Refusal :=
  .next (s.writeTo who 6 8 false (fun s => s.when (bit v.toNat 31) (·.epWrite who ep.val 0 v.toNat)))

def execEpDisable (who : Party) (ep : Fin 4096) (v : Word) (s : State) : Host.Outcome State Fault Refusal :=
  .next (s.writeTo who 6 8 false (fun s => s.when (!bit v.toNat 31) (·.epWrite who ep.val 0 v.toNat)))

/-- EP_HOLDOFF_EXPIRY: H has passed in HOLDOFF while IN_SYNC. -/
def execEpHoldoffExpiry (ep : Fin 4096) (s : State) : Host.Outcome State Fault Refusal :=
  .next (s.when (s.epState ep.val == epHoldoff && s.inSync) (·.epGo ep.val epActive))

/-- Move a connection: a record to EVENT_RING, EV0786, and its namespaces told (R441, R452). -/
def State.connGo (s : State) (c st cause : Nat) : State :=
  let old := s.connState c
  let s := (s.setFld F.HX_RMA_CONN_STATE c st).raise 786 [.w (4096 + c), .w old, .w st, .w cause]
  let s := s.stage (s.fld F.HX_RMA_CONN_EVENT_RING c) 0x26 c [cause * 256 + st, s.now % 2 ^ 32, s.now / 2 ^ 32 % 2 ^ 32]
  if st = connReady then s.backendBack (s.onConn c) else if old = connReady then s.backendLost (s.onConn c) else s

/-- A READY connection fails (R441). -/
def State.connFail (s : State) (c result cause : Nat) : State :=
  if s.connState c = connReady then (s.cutMsgs true c result).connGo c connError cause else s

/-- A connection returns to RESET. -/
def State.connDown (s : State) (c : Nat) : State :=
  if s.connState c = connReset then s else ((s.cutMsgs true c resEpState).dropPeers true c).connGo c connReset 3

/-- CONNECT: OP CONNECT in RESET with OWNER committed. -/
def State.connect (s : State) (c : Nat) : State :=
  if s.connState c ≠ connReset ∨ !s.committed (s.fld F.HX_RMA_CONN_OWNER c) then s.rmaRefuse (0x40000 + 32 * c + 28)
  else
    let k : PeerKey := { conn := true, id := c, addr := 0, peer := 0 }
    let p : Peer := { s.freshPeer k with nextPsn := 0, expected := 0 }
    ((s.withRma { s.rma with peers := s.rma.peers.filter (fun (x : Peer) => x.key != k) ++ [p] }).drawn).connGo c connReady 0

def execConnect (who : Party) (conn : Fin 16384) (s : State) : Host.Outcome State Fault Refusal := .next (s.writeTo who 6 8 false (·.connect conn.val))

def execConnReset (who : Party) (conn : Fin 16384) (s : State) : Host.Outcome State Fault Refusal := .next (s.writeTo who 6 8 false (·.connDown conn.val))

/-- A write of one word of HX_RMA_CONN (R445). -/
def State.connWrite (s : State) (who : Party) (c w v : Nat) : State :=
  let addr (i : Nat) : Nat := let a := s.fld F.HX_RMA_CONN_PEER_ADDR c; a - bits a (32 * i) 32 * 2 ^ (32 * i) + v * 2 ^ (32 * i)
  if w = 7 then (if bits v 28 4 = 1 then s.connect c else if bits v 28 4 = 2 then s.connDown c else s)
  else if s.connState c ≠ connReset then s.rmaRefuse (0x40000 + 32 * c + 4 * w)
  else match w with
    | 0 => (s.put who F.HX_RMA_CONN_OWNER c (bits v 16 12)).put who F.HX_RMA_CONN_TX_LP c (bits v 0 10)
    | 1 => ((s.put who F.HX_RMA_CONN_CLASS c (bits v 28 4)).put who F.HX_RMA_CONN_REMOTE_CONN c (bits v 14 14)).put who F.HX_RMA_CONN_TMPL c (bits v 0 8)
    | 6 => s.put who F.HX_RMA_CONN_EVENT_RING c (bits v 16 16)
    | _ => s.put who F.HX_RMA_CONN_PEER_ADDR c (addr (w - 2))

/-- Endpoints and connections of an owner that is reset or destroyed (R337, R356, R431, R441). -/
def State.rmaOwnerGone (s : State) (fi : Nat) : State :=
  let s := ((s.listed F.HX_RMA_EP_STATE).filter (fun e => s.fld F.HX_RMA_EP_OWNER e == fi)).foldl (fun s e => (s.setFld F.HX_RMA_EP_EN e 0).epDown e) s
  ((s.listed F.HX_RMA_CONN_STATE).filter (fun c => s.fld F.HX_RMA_CONN_OWNER c == fi)).foldl State.connDown s

/-- Every window of a destroyed owner has its generation bumped (R356): those that have ever been used stand in the list; the others are DETACHED and their generation rises too. -/
def State.winsGone (s : State) (fi : Nat) : State :=
  let b := s.fld F.HX_FN_REC_WIN_BASE fi
  (List.range (s.fld F.HX_FN_REC_WIN_COUNT fi)).foldl (fun s i => s.bumpWin (b + i)) s

/-! ### Answers (R418, R419, R428, R439) -/

/-- Answer a packet. -/
def State.rmaAck (s : State) (k : PeerKey) (psn syn : Nat) : State :=
  let ece := match s.peer? k with | some p => p.ecn | none => false
  let s := match s.peer? k with | some p => if p.ecn then s.setPeer { p with ecn := false } else s | none => s
  let s := if 0x10 ≤ syn then s.rmaCount 12 else s
  s.rmaSend k { op := opAck, conn := k.conn, ece := ece, dst := s.peerId k, src := k.id, psn := psn, sendTs := s.now, aux := syn * 2 ^ 24 } []

/-- Mark a PSN in the receive state. -/
def State.mark (s : State) (k : PeerKey) (psn m : Nat) : State :=
  match s.peer? k with
  | some p => s.setPeer { p with marks := Map.set 0 psn m p.marks }
  | none => s

/-- The signed distance of a PSN from another. -/
def psnDist (a b : Nat) : Int := signed 32 ((a + 2 ^ 32 - b) % 2 ^ 32)

/-- HIGHEST moves up and the window slides. -/
def Peer.slide (p : Peer) (psn : Nat) : Peer :=
  { p with highest := some psn, marks := p.marks.filter (fun e => decide (-512 < psnDist e.1 psn)) }

/-- A packet discarded under R442. -/
def State.rmaViolation (s : State) (p : RmaIn) (code : Nat) : State :=
  let s := (s.rmaCount 10).violate (0x6800 + code) p.key.num 787 []
  if p.h.conn ∧ p.h.dst < 16384 ∧ code ≠ 3 ∧ s.peerAddr p.key = p.addr ∧ s.peerId p.key = p.h.src then s.connFail p.h.dst resEpState 2 else s

/-- The age of a datagram packet (R426): acceptable, or the state after it is discarded. -/
def State.rmaAge (s : State) (p : RmaIn) : Option State :=
  if p.h.conn then none
  else if p.h.sendTs + s.horizon ≤ s.now then some (s.rmaCount 4)
  else if s.now + 2 * s.timeTol < p.h.sendTs then some ((s.rmaCount 5).rmaViolation p 4)
  else none

/-! ### Durable messages and notifications (R434, R436, R475) -/

/-- The words of a notification record after the first. -/
def noteWords (w ts start len imm addr src dst : Nat) : List Nat :=
  [w, ts % 2 ^ 32, ts / 2 ^ 32 % 2 ^ 32, start % 2 ^ 32, start / 2 ^ 32 % 2 ^ 32, len, imm] ++ bytesWords 4 (beBytes 16 addr) ++ [src * 65536 + dst % 65536]

/-- Every byte of the message is placed and certified or on media. -/
def State.rxDurable (s : State) (m : RxMsg) : Bool :=
  m.groups.foldl (fun a g => a + g.2.2.2) 0 == m.len && m.groups.all (fun g => s.settled g.2.1)

/-- Answer the durable messages that have become durable, and write their notifications. -/
def State.rmaSettle (s : State) : State :=
  let ready (m : RxMsg) : Bool := m.durable && m.lastPsn.isSome && s.rxDurable m
  let done := s.rma.rx.filter ready
  let s := (s.withRma { s.rma with rx := s.rma.rx.filter (fun m => !ready m) })
  done.foldl (fun s m =>
    let psn := m.lastPsn.getD 0
    let s := s.mark m.key psn 1
    let s := match s.peer? m.key with | some p => s.setPeer { p with pend := p.pend - 1 } | none => s
    let s := s.rmaAck m.key psn synDurable
    match m.note with
    | some ws => s.stage (s.win m.win).ring 0x25 (0x8000 + b2n m.key.conn * 0x4000) ws
    | none => s) s

/-! ### Placement (R422, R434, R475) -/

/-- Step 5 and 6 of R422: the window a packet may use, or the syndrome. -/
def State.winCheck (s : State) (p : RmaIn) (len : Nat) : State × (Nat ⊕ RmaWin) :=
  let owner := s.rmaOwner p.key
  let i := p.h.key / 4096
  let w := s.win i
  let live := decide (2056 ≤ owner) || s.live owner
  if !s.ownsWin owner i then (s.carve owner 3, .inl synNoWindow)
  else if !live then (s, .inl synNoWindow)
  else if p.h.key % 4096 ≠ w.gen then (s, .inl synRevoked)
  else if !w.attached then (s, .inl synNoWindow)
  else if !(if p.h.op = opWrite then w.wr else w.rd) then (s, .inl synAccess)
  else if w.len < p.h.offset + len then (s, .inl synBounds)
  else if p.h.durable ∧ !w.persist then (s, .inl synNotDurable)
  else (s, .inr w)

/-- The start of a packet's message in its window, where the packet or one before it shows it. -/
def State.msgStart (s : State) (p : RmaIn) : Option Nat :=
  if p.h.first then some p.h.offset
  else if p.h.last then some (p.h.offset + p.h.plen - p.h.msgLen)
  else (s.rma.rx.find? (fun m => m.key == p.key && m.msn == p.h.msn)).map (·.woff)

/-- Put bytes of a message into the cache as part of group number `g`, which opens where it has to (R461, R475). -/
def State.placeGroup (s : State) (m : RxMsg) (g sec : Nat) (bs : List Byte) : State × RxMsg :=
  let total := min 1048576 (m.len - g * 1048576)
  let (s, m) := match m.groups.find? (·.1 == g) with
    | some _ => (s, m)
    | none =>
      let gid := s.stor.nextGid
      let seq := s.stor.seq + 1
      ((s.withStor { s.stor with nextGid := gid + 1, seq := seq, open' := s.stor.open' ++ [gid] }), { m with groups := m.groups ++ [(g, gid, seq, 0)] })
  match m.groups.find? (·.1 == g) with
  | none => (s, m)
  | some (_, gid, seq, n) =>
    let s := (cutBlocks 257 sec (bs.length / 512) bs).foldl (fun s b => s.addVer gid seq m.handle false b) s
    let n := n + bs.length
    let s := if total ≤ n then (s.withStor { s.stor with open' := s.stor.open'.filter (· != gid) }) else s
    (s, { m with groups := m.groups.map (fun x => if x.1 = g then (g, gid, seq, n) else x) })

/-- Place a WRITE packet in a PERSIST window (R475). -/
def State.placePersist (s : State) (p : RmaIn) (w : RmaWin) (back : BackendResult) : State × Nat :=
  let h := w.ns
  let size := s.lbaSize h
  let at' := w.base + p.h.offset
  match s.msgStart p with
  | none => (s, synBusy)
  | some woff =>
    let need := (at' % 4096 + p.h.plen + 4095) / 4096
    if at' % size ≠ 0 ∨ (at' + p.h.plen) % size ≠ 0 ∨ (w.base + woff) % size ≠ 0 ∨ p.h.msgLen % size ≠ 0 ∨ w.len < woff + p.h.msgLen then (s, synBounds)
    else if !s.inService then (s, synBusy)
    else if s.nsState h = nsWait ∨ (s.nsState h = nsHeld ∧ !s.backend h) then (s, synBusy)
    else if s.nsState h ≠ nsReady then (s, synMedia)
    else if !s.nsKeyReady h then ((s.bump F.HX_CIPH_STAT_COUNT 6).limitedBy 1000000000 799 0 1 (fun _ => [.w h]) false, synBusy)
    else
      let lba := at' / size
      let n := p.h.plen / size
      let bs := s.nsCrypt h false size lba n p.payload
      let units := if s.flag F.HX_CIPH_NS_EN h then n else 0
      let s := s.storUnits units
      if back = .rejected ∧ units ≠ 0 then (s.faultDetected, synMedia)
      else if !s.flag F.HX_STOR_NS_CACHE h then
        let s := s.direct h (lba * s.secPer h) (n * s.secPer h) false
        match back with
        | .ok _ => (s, if p.h.durable ∧ p.h.last then synDurable else synAck)
        | .media => (s, synMedia)
        | _ => (s, synBusy)
      else if !s.stor.waitq.isEmpty ∨ s.cacheBlocks < s.stor.vers.length + need then (s, synBusy)
      else
        let m := match s.rma.rx.find? (fun m => m.key == p.key && m.msn == p.h.msn) with
          | some m => m
          | none => { key := p.key, msn := p.h.msn, handle := h, win := p.h.key / 4096, start := w.base + woff, woff := woff, len := p.h.msgLen,
                      groups := [], durable := p.h.durable }
        let x := s.placeGroup m ((at' - m.start) / 1048576) (at' / 512) bs
        let note := if p.h.last && p.h.notify && w.notify && p.h.durable then
          some (noteWords (p.h.key / 4096) s.now woff p.h.msgLen p.h.aux p.addr p.h.src p.h.dst) else x.2.note
        let m := { x.2 with lastPsn := if p.h.last then some p.h.psn else x.2.lastPsn, note := note }
        let whole := m.groups.foldl (fun a g => a + g.2.2.2) 0 == m.len
        let rest := x.1.rma.rx.filter (fun y => !(y.key == m.key && y.msn == m.msn))
        let s := (x.1.withRma { x.1.rma with rx := if whole && !m.durable then rest else rest ++ [m] })
        let s := if p.h.last && m.durable then match s.peer? p.key with | some q => s.setPeer { q with pend := q.pend + 1 } | none => s else s
        (s.storSettle, if p.h.last && m.durable then synPending else synAck)

/-- Steps 5 to 7 of R422 for a WRITE: the syndrome, and the notification of a message that is not durable. -/
def State.placeWrite (s : State) (p : RmaIn) (back : BackendResult) : State × Nat :=
  match s.winCheck p p.h.plen with
  | (s, .inl y) => (s, y)
  | (s, .inr w) =>
    let x := if w.persist then s.placePersist p w back else (s.dmaWrite (s.rmaOwner p.key) (w.base + p.h.offset) p.payload, synAck)
    let tell := p.h.last && p.h.notify && w.notify && (x.2 == synAck || x.2 == synDurable)
    if tell then
      (x.1.stage w.ring 0x25 (b2n p.h.durable * 0x8000 + b2n p.h.conn * 0x4000)
        (noteWords (p.h.key / 4096) s.now (p.h.offset + p.h.plen - p.h.msgLen) p.h.msgLen p.h.aux p.addr p.h.src p.h.dst), x.2)
    else x

/-- Send the READ_RESP packets of a read. -/
def State.respond (s : State) (p : RmaIn) (n i off : Nat) (bs : List Byte) : State :=
  match n with
  | 0 => s
  | n + 1 =>
    if bs.isEmpty then s
    else
      let k := min s.pmtu bs.length
      let h : RmaHdr := { op := opReadResp, conn := p.h.conn, dst := s.peerId p.key, src := p.h.dst, plen := k, psn := p.h.psn, msn := i, sendTs := s.now,
                          offset := off, msgLen := p.h.msgLen }
      (s.rmaSend p.key h (bs.take k)).respond p n (i + 1) (off + k) (bs.drop k)

/-- Steps 5 to 7 of R422 for a READ_REQ: the responses, or the syndrome. -/
def State.placeRead (s : State) (p : RmaIn) (ok : Bool) (data : List Byte) (back : BackendResult) : State × Option Nat :=
  match s.winCheck p p.h.msgLen with
  | (s, .inl y) => (s, some y)
  | (s, .inr w) =>
    let at' := w.base + p.h.offset
    let len := p.h.msgLen
    let send (s : State) (bs : List Byte) : State × Option Nat := (s.respond p (len / 1024 + 1) 0 0 bs, none)
    if len = 0 ∨ 16777216 < len then (s, some synBounds)
    else if !w.persist then
      match s.sourceBytes (s.rmaOwner p.key) at' len ok data with
      | some bs => send s bs
      | none => (s, some synBusy)
    else
      let h := w.ns
      let size := s.lbaSize h
      let k := s.secPer h
      if at' % size ≠ 0 ∨ len % size ≠ 0 then (s, some synBounds)
      else if s.nsState h ≠ nsReady ∧ s.nsState h ≠ nsHeld then (s, some synMedia)
      else if !s.nsKeyReady h then ((s.bump F.HX_CIPH_STAT_COUNT 6).limitedBy 1000000000 799 0 1 (fun _ => [.w h]) false, some synBusy)
      else if s.stor.lost.any (fun x => x.hits h (at' / 512) (len / 512)) then (s, some synMedia)
      else
        let xs := s.readSectors h (at' / 512) (len / 512) (match back with | .ok bs => bs | _ => [])
        let units := if s.flag F.HX_CIPH_NS_EN h then liveLbas k (len / size) xs else 0
        match back, xs.any (·.2.1) with
        | .media, true => (s.storCount 6, some synMedia)
        | .failed, true => (s, some synBusy)
        | .lost, true => (s, some synBusy)
        | b, m =>
          let s := s.storUnits units
          if b = .rejected ∧ units ≠ 0 then (s.faultDetected, some synMedia)
          else if b = .rejected ∧ m then (s, some synBusy)
          else send s (s.plainRead h (at' / size) (len / size) (xs.take (len / size * k)))

/-! ### Requests (R422, R428, R440) -/

/-- A datagram request by its distance from HIGHEST (R428). -/
def State.rxDatagram (s : State) (p : RmaIn) (place : State → State × Option Nat) : State :=
  let k := p.key
  match s.needPeer k with
  | (s, none) => s.peerFull.rmaAck k p.h.psn synPeerFull
  | (s, some q) =>
    let s := s.markCe k p.ce
    let q := { q with ecn := q.ecn || p.ce }
    let hi := q.highest.getD p.h.psn
    let d := psnDist p.h.psn hi
    let m := Map.get 0 p.h.psn q.marks
    let read := p.h.op == opReadReq
    if 512 < d then s.rmaViolation p 5
    else if d ≤ -512 then
      let s := s.rmaCount 6
      if read then s else s.rmaAck k p.h.psn synAck
    else if q.highest.isSome ∧ d ≤ 0 ∧ m ≠ 0 then
      let s := s.rmaCount 6
      if m = 3 then s.rmaAck k p.h.psn synRefused
      else if read then s
      else if m = 2 then s.rmaAck k p.h.psn synPending
      else s.rmaAck k p.h.psn (if p.h.durable && p.h.last then synDurable else synAck)
    else
      let s := if d ≤ 0 ∧ q.highest.isSome then s else s.setPeer (q.slide p.h.psn)
      let s := s.touchPeer k p.h.sendTs
      match place s with
      | (s, none) => s.mark k p.h.psn 1
      | (s, some y) =>
        let s := if refusal y then s.mark k p.h.psn 3 else if y = synPending then s.mark k p.h.psn 2 else if y < 0x10 then s.mark k p.h.psn 1 else s
        (s.rmaAck k p.h.psn y).rmaSettle

/-- A connection request by the expected PSN (R440). -/
def State.rxConn (s : State) (p : RmaIn) (place : State → State × Option Nat) : State :=
  let k := p.key
  match s.peer? k with
  | none => s.rmaCount 11
  | some q =>
    let s := s.markCe k p.ce
    let prev := (q.expected + 2 ^ 32 - 1) % 2 ^ 32
    if p.h.psn ≠ q.expected then
      let dup := decide (psnDist p.h.psn q.expected < 0)
      let s := if dup then s.rmaCount 6 else s
      let pending := s.rma.rx.any (fun m => m.key == k && m.lastPsn == some p.h.psn)
      if dup ∧ p.h.durable ∧ p.h.last ∧ p.h.op = opWrite then s.rmaAck k p.h.psn (if pending then synPending else synDurable)
      else s.rmaAck k prev synAck
    else
      match place s with
      | (s, none) => match s.peer? k with | some q => s.setPeer { q with expected := (q.expected + 1) % 2 ^ 32 } | none => s
      | (s, some y) =>
        let s := if y < 0x20 then match s.peer? k with | some q => s.setPeer { q with expected := (q.expected + 1) % 2 ^ 32 } | none => s else s
        (s.rmaAck k p.h.psn y).rmaSettle

/-- Steps 2 to 4 of R422. -/
def State.rxRequest (s : State) (p : RmaIn) (place : State → State × Option Nat) : State :=
  if p.h.conn then
    if s.connState p.h.dst ≠ connReady then s.rmaCount 11
    else if p.h.durable ∧ !s.inSync then s.rmaAck p.key p.h.psn synNoSync
    else s.rxConn p place
  else if s.epState p.h.dst ≠ epActive then s.rmaAck p.key p.h.psn synNoSync
  else match s.rmaAge p with
    | some s => s
    | none => s.rxDatagram p place

/-- Take the RMA packet that waits first at a host virtual port, where its opcode is one of these. -/
def State.rmaTake (s : State) (lp : Nat) (ops : Nat → Bool) (f : State → RmaIn → State) : State :=
  match s.rxHead lp with
  | none => s
  | some g =>
    match udpOf g.bytes with
    | none => s
    | some u =>
      let p := rmaIn u
      if !s.isRma g.bytes ∨ s.fenced 6 ∨ !ops p.h.op then s
      else
        let s := (s.rxPop lp).rmaCount 1
        match s.rmaBad p with
        | some code => s.rmaViolation p code
        | none => f s p

/-- WRITE_PKT_RX (R422), and the packets whose opcode is reserved; `back` is the backend's answer where the namespace bypasses the cache. -/
def State.writePkt (s : State) (lp : Nat) (back : BackendResult) : State :=
  s.rmaTake lp (fun o => o != opReadReq && o != opReadResp && o != opAck) (fun s p =>
    s.rxRequest p (fun s => let x := s.placeWrite p back; (x.1, some x.2)))

def execWritePktRx (port : Fin 16) (back : BackendResult) (s : State) : Host.Outcome State Fault Refusal := .next (s.when (s.served 1) (·.writePkt (512 + port.val) back))

/-- A durable read waits until every write already placed in its range is durable (R435). -/
def State.readWaits (s : State) (lp : Nat) : Bool :=
  match s.rxHead lp with
  | none => false
  | some g =>
    match udpOf g.bytes with
    | none => false
    | some u =>
      let p := rmaIn u
      let w := s.win (p.h.key / 4096)
      (s.rmaBad p).isNone && p.h.durable && w.persist && s.stor.vers.any (fun v => v.handle == w.ns && v.st == .uncert
        && decide (4096 * v.blk < w.base + p.h.offset + p.h.msgLen) && decide (w.base + p.h.offset < 4096 * v.blk + 4096))

/-- READ_REQ_RX (R435): `data` is what the read of a function's memory returned, `back` what a backend returned. -/
def State.readReq (s : State) (lp : Nat) (ok : Bool) (data : List Byte) (back : BackendResult) : State :=
  if s.readWaits lp then s
  else s.rmaTake lp (· == opReadReq) (fun s p => s.rxRequest p (fun s => s.placeRead p ok data back))

def execReadReqRx (port : Fin 16) (ok : Bool) (data : List Byte) (back : BackendResult) (s : State) : Host.Outcome State Fault Refusal :=
  .next (s.when (s.served 1) (·.readReq (512 + port.val) ok data back))

/-! ### Responses and answers (R433, R435, R438 to R440) -/

/-- The parts of a read received, with one more where it brings new bytes. -/
def addPart (l : List (Nat × Nat)) (off n : Nat) : List (Nat × Nat) :=
  if l.any (fun x => decide (x.1 < off + n) && decide (off < x.1 + x.2)) then l else l ++ [(off, n)]

/-- READ_RESP_RX. -/
def State.readResp (s : State) (lp : Nat) : State :=
  s.rmaTake lp (· == opReadResp) (fun s p =>
    if p.h.conn ∧ s.connState p.h.dst ≠ connReady then s.rmaCount 11
    else match s.rmaAge p with
    | some s => s
    | none =>
      let k := p.key
      let s := s.markCe k p.ce
      match s.rma.tx.find? (fun m => m.read && m.key == k && m.pkts.any (fun x => x.psn == p.h.psn && !x.finished)) with
      | none => s.rmaCount 8
      | some m =>
        match m.pkts.find? (fun x => x.psn == p.h.psn && !x.finished) with
        | none => s.rmaCount 8
        | some x =>
          if x.len < p.h.offset + p.h.plen then s.rmaViolation p 6
          else
            let o := x.off + p.h.offset
            let s := if m.ring = 65537 then s else s.dmaWrite (s.rmaOwner k) (m.laddr + o) p.payload
            let m := if m.ring = 65537 then { m with data := m.data.take o ++ p.payload ++ m.data.drop (o + p.h.plen) } else m
            let m := { m with got := addPart m.got (x.off + p.h.offset) p.h.plen }
            (((s.setTx m).touchPeer k p.h.sendTs).engineSignal m.ring m.pos).pumpPeer k)

def execReadRespRx (port : Fin 16) (s : State) : Host.Outcome State Fault Refusal := .next (s.when (s.served 1) (·.readResp (512 + port.val)))

/-- The decrease of RC for an ACK with ECE, at most once per 50 us (R439). -/
def State.rateCut (s : State) (k : PeerKey) : State :=
  match s.peer? k with
  | none => s
  | some q =>
    let s := s.rmaCount 13
    if q.cutAt ≠ 0 ∧ s.now < q.cutAt - 1 + 50000 then s
    else s.setPeer { q with rate := max 100 (q.rate - q.rate / 2 ^ min (max (s.fld F.HX_RMA_CFG_MD_SHIFT) 1) 8), cutAt := s.now + 1 }

/-- The answer falls on this packet: on a connection an ACK answers every WRITE packet up to its PSN. -/
def answers (conn : Bool) (psn syn : Nat) (read : Bool) (x : TxPkt) : Bool :=
  !x.finished && (if conn && syn == synAck then !read && decide (psnDist x.psn psn ≤ 0) else x.psn == psn && (!read || refusal syn))

/-- What the answer makes of a packet: a retryable one leaves it for RTO, ACK_PENDING and a plain ACK of a durable LAST leave it unanswered. -/
def TxPkt.take (x : TxPkt) (durableLast : Bool) (syn : Nat) : TxPkt :=
  if 0x20 ≤ syn then x
  else if syn = synPending ∨ (durableLast ∧ syn = synAck) then { x with placed := true }
  else { x with answer := some syn }

/-- Go back to the first packet that no answer has come for (R440); a packet that has had its retransmissions is not sent again (R438). -/
def State.goBack (s : State) (k : PeerKey) (psn : Nat) : State :=
  (s.rma.tx.filter (·.key == k)).foldl (fun s m =>
    let again (x : TxPkt) : Bool := !x.finished && decide (0 < psnDist x.psn psn) && decide (x.tries < s.fld F.HX_RMA_CFG_CONN_RETRY)
    let s := s.setTx { m with pkts := m.pkts.map (fun x => if again x then { x with tries := x.tries + 1 } else x) }
    (m.pkts.filter again).foldl (fun s x => (s.rmaCount 2).sendPkt m x) s) s

/-- ACK_RX. -/
def State.ackRx (s : State) (lp : Nat) : State :=
  s.rmaTake lp (· == opAck) (fun s p =>
    match s.rmaAge p with
    | some s => s
    | none =>
      let k := p.key
      let syn := p.h.aux / 2 ^ 24
      if k.conn ∧ s.connState k.id ≠ connReady then s.rmaCount 11
      else
        let s := s.markCe k p.ce
        let s := if p.h.ece then s.rateCut k else s
        let hits := s.rma.tx.any (fun m => m.key == k && m.pkts.any (answers k.conn p.h.psn syn m.read))
        if hits then
          let tx := s.rma.tx.map (fun m => if m.key = k then
            { m with pkts := m.pkts.map (fun x => if answers k.conn p.h.psn syn m.read x then x.take (m.durable && x.last) syn else x) } else m)
          let hit := s.rma.tx.filter (fun m => m.key == k && m.pkts.any (answers k.conn p.h.psn syn m.read))
          let s := (s.withRma { s.rma with tx := tx }).touchPeer k p.h.sendTs
          (hit.foldl (fun s m => s.engineSignal m.ring m.pos) s).pumpPeer k
        else if k.conn then (s.rmaCount 7).goBack k p.h.psn
        else s.rmaCount 7)

def execAckRx (port : Fin 16) (s : State) : Host.Outcome State Fault Refusal := .next (s.when (s.served 1) (·.ackRx (512 + port.val)))

/-- The first byte of a read that has not come, and the end of the last. -/
def missing (got : List (Nat × Nat)) (len : Nat) : Nat × Nat :=
  let has (o : Nat) : Bool := got.any (fun x => decide (x.1 ≤ o) && decide (o < x.1 + x.2))
  let starts := (0 :: got.map (fun x => x.1 + x.2)).filter (fun o => decide (o < len) && !has o)
  let ends := (len :: got.map (·.1)).filter (fun o => decide (0 < o) && !has (o - 1))
  (starts.foldl min len, ends.foldl max 0)

/-- RTO_EXPIRY: packet `j` of message `i` is sent again, its rate halved; a READ asks anew for what is missing (R435, R438, R439). -/
def State.rto (s : State) (i j : Nat) : State :=
  match s.rma.tx[i]? with
  | none => s
  | some m =>
    match m.pkts[j]?, s.peer? m.key with
    | some x, some q =>
      if x.finished then s
      else if m.key.conn ∧ s.fld F.HX_RMA_CFG_CONN_RETRY ≤ x.tries then s.connFail m.key.id resTimeout 1
      else
        let q := { q with rate := max 100 (q.rate / 2) }
        let s := s.rmaCount 2
        if m.read then
          let r := missing m.got m.len
          let y : TxPkt := { x with psn := q.nextPsn, off := r.1, len := r.2 - r.1, sendTs := s.now, tries := x.tries + 1 }
          let m := { m with pkts := m.pkts.set j y }
          ((s.setPeer { q with nextPsn := (q.nextPsn + 1) % 2 ^ 32 }).setTx m).sendPkt m y
        else
          let y := { x with tries := x.tries + 1 }
          let m := { m with pkts := m.pkts.set j y }
          ((s.setPeer q).setTx m).sendPkt m y
    | _, _ => s

def execRtoExpiry (msg pkt : Nat) (s : State) : Host.Outcome State Fault Refusal := .next (s.rto msg pkt)

/-- PACKET_DEADLINE: a datagram packet reaches SEND_TS + H - M and counts as timed out (R429). -/
def State.deadline (s : State) (i j : Nat) : State :=
  match s.rma.tx[i]? with
  | none => s
  | some m =>
    match m.pkts[j]? with
    | none => s
    | some x =>
      if x.finished ∨ m.key.conn then s
      else ((s.rmaCount 3).setTx { m with pkts := m.pkts.set j { x with dead := true } }).pumpPeer m.key

def execPacketDeadline (msg pkt : Nat) (s : State) : Host.Outcome State Fault Refusal := .next (s.deadline msg pkt)

/-- RATE_INCREASE: 50 us without ECE (R439). -/
def State.rateUp (s : State) (i : Nat) : State :=
  match s.rma.peers[i]? with
  | some q => s.setPeer { q with rate := min (s.rmaMaxRate q.key) (q.rate + 10 * s.fld F.HX_RMA_CFG_AI) }
  | none => s

def execRateIncrease (peer : Nat) (s : State) : Host.Outcome State Fault Refusal := .next (s.rateUp peer)

/-! ### Steps of the storage functions that end RMA messages or send them -/

/-- Send a destage to its REMOTE backend as durable WRITEs (R468). -/
def State.remoteDestage (s : State) (d : Destage) : State :=
  let k : PeerKey := { conn := true, id := bits (s.fld F.HX_STOR_NS_BK_ID d.handle) 0 14, addr := 0, peer := 0 }
  let size := s.lbaSize d.handle
  d.spans.foldl (fun s x =>
    let bytes := (s.readSectors d.handle x.1 x.2 []).flatMap (·.1)
    match s.peer? k with
    | none => s
    | some q =>
      let m : TxMsg :=
        { ring := 65536, pos := 0, destage := d.id, key := k, read := false, durable := true, notify := false, imm := 0,
          wkey := s.fld F.HX_STOR_NS_KEY d.handle, laddr := 0, roff := s.fld F.HX_STOR_NS_BASE_LBA d.handle * size + 512 * x.1,
          len := bytes.length, msn := 0, data := bytes }
      s.startMsg q m) s

/-- Send the writes and reads that commands have for REMOTE backends: a durable WRITE, a READ (R462, R468). -/
def State.sendFar (s : State) : State :=
  (s.stor.far.filter (!·.sent)).foldl (fun (s : State) x =>
    let s := s.withStor { s.stor with far := s.stor.far.map (fun y => if y.id = x.id then { y with sent := true } else y) }
    let k : PeerKey := { conn := true, id := bits (s.fld F.HX_STOR_NS_BK_ID x.handle) 0 14, addr := 0, peer := 0 }
    match s.peer? k with
    | none => s.farDone x .lost
    | some q =>
      s.startMsg q
        { ring := 65537, pos := 0, destage := x.id, key := k, read := !x.write, durable := x.write, notify := false, imm := 0,
          wkey := s.fld F.HX_STOR_NS_KEY x.handle, laddr := 0, roff := s.fld F.HX_STOR_NS_BASE_LBA x.handle * s.lbaSize x.handle + 512 * x.sec,
          len := 512 * x.n, msn := 0, data := if x.write then x.data else List.replicate (512 * x.n) 0 }) s

/-- NVM_WRITE, ORDERED_WRITE and WRITE_ZEROES (R455, R459 to R464): `back` is what a drive answers where the namespace bypasses the cache. -/
def execNvmWrite (ring : Fin 65536) (ok : Bool) (data : List Byte) (back : BackendResult) (s : State) : Host.Outcome State Fault Refusal :=
  .next (s.writeCmd ring.val 0x01 ok data back).sendFar

def execOrderedWrite (ring : Fin 65536) (ok : Bool) (data : List Byte) (back : BackendResult) (s : State) : Host.Outcome State Fault Refusal :=
  .next (s.writeCmd ring.val 0x81 ok data back).sendFar

def execWriteZeroes (ring : Fin 65536) (back : BackendResult) (s : State) : Host.Outcome State Fault Refusal := .next (s.writeZeroes ring.val back).sendFar

def execNvmRead (ring : Fin 65536) (ok : Bool) (data : List Byte) (back : BackendResult) (s : State) : Host.Outcome State Fault Refusal :=
  .next (s.nvmRead ring.val ok data back).sendFar

/-- DESTAGE_ISSUE: the next backend write in SEQ order is issued (R466, R467). -/
def State.destageIssue (s : State) : State :=
  match s.destageNext with
  | (s, some d) => if s.remote d.handle then s.remoteDestage d else s
  | (s, none) => s

def execDestageIssue (s : State) : Host.Outcome State Fault Refusal := .next s.destageIssue

/-- DESTAGE_DONE: the drive's answer to the backend write at place `index` (R468, R472), served as STOR work (R395); a REMOTE one ends with its RMA messages. -/
def State.destageDone (s : State) (i : Nat) (r : BackendResult) : State :=
  match s.stor.destages[i]? with
  | some d => if s.remote d.handle ∨ !s.served 2 then s else (s.destageAnswer i r).rmaSettle
  | none => s

def execDestageDone (index : Nat) (result : BackendResult) (s : State) : Host.Outcome State Fault Refusal := .next (s.destageDone index result)

/-- GROUP_CERTIFY (R465): the group in turn is certified; the messages and notifications that waited for it follow. -/
def execGroupCertify (s : State) : Host.Outcome State Fault Refusal := .next s.certify.rmaSettle

end Sys2Proof.Machine
end

