-- ==== Sys2Proof/Machine/Functions.lean ====
section
/-! DEFINITION. Functions: their records, creation, reset and destruction, bus mastering, MSI-X, dirty-page logging (R328, R335 to R338, R349 to R362, R686). -/

namespace Sys2Proof.Machine

/-- Return the listed copies of a field that a test picks to reset. -/
def State.wipeFld (s : State) (f : Fld) (p : Nat → Bool) : State := ((s.listed f).filter p).foldl (fun s i => s.resetFld f i) s

/-- The VFs of a PF that NumVFs names (R686). -/
def State.vfsOf (s : State) (pf : Nat) : List Nat := (List.range (min (s.cfg pf).numVfs 256)).map (fun i => 8 + 256 * pf + i)

/-- The PFs and VFs that a sub-link presents (R320). -/
def State.onSublink (s : State) (h n : Nat) : List Nat :=
  ((List.range 8).filter (fun pf => linkOf pf == h && s.sublinkOf pf == n)).flatMap (fun pf =>
    pf :: (if (s.cfg pf).vfEn then s.vfsOf pf else []))

/-! ### MSI-X (R338) -/

/-- Send the pending messages of a function whose vectors are open now; an event route held by them is held no more (R632). -/
def State.flushPba (s : State) (fi : Nat) : State :=
  ((s.listed F.HX_FNV_PBA_PBA).filter (fun i => i / 64 == fi)).foldl (fun s i =>
    (List.range 32).foldl (fun s b =>
      let vec := i % 64 * 32 + b
      if bit (s.fld F.HX_FNV_PBA_PBA i) b ∧ s.vectorOpen fi vec then
        let s := s.setFld F.HX_FNV_PBA_PBA i (s.fld F.HX_FNV_PBA_PBA i - 2 ^ b)
        let s := s.emit (.msix fi vec (s.fld F.HX_FNV_MSIX_ADDR (fi * 2048 + vec)) (s.fld F.HX_FNV_MSIX_DATA (fi * 2048 + vec)))
        ((s.listed F.AO_EVT_ROUTE_PENDING).filter (fun e => fi == s.mgr && s.fld F.AO_EVT_ROUTE_IRQ_KIND e == 0
          && s.fld F.AO_EVT_ROUTE_VEC e == vec && decide (Map.get 0 e s.log.irqAt - 1 + 1000 * s.fld F.AO_EVT_ROUTE_HOLDOFF e ≤ s.now))).foldl
          (fun s e => s.setFlag F.AO_EVT_ROUTE_PENDING e false) s
      else s) s) s

/-- Write the mask of a vector; a vector beyond VEC_COUNT has no entry (R681). -/
def State.msixMask (s : State) (fi vec : Nat) (m : Bool) : State :=
  if s.fld F.HX_FN_REC_VEC_COUNT fi ≤ vec then s
  else
    let s := s.setFlag F.HX_FNV_MSIX_MASK (fi * 2048 + vec) m
    if m then s else s.flushPba fi

def execMsixUnmask (fi : Fin 2056) (vec : Fin 2048) (s : State) : Host.Outcome State Fault Refusal := .next (s.msixMask fi.val vec.val false)

/-- The MSI-X table and PBA of a function cleared, every vector masked (R337, R355). -/
def State.clearVectors (s : State) (fi : Nat) : State :=
  let mine (i : Nat) : Bool := i / 2048 == fi
  (((s.wipeFld F.HX_FNV_MSIX_MASK mine).wipeFld F.HX_FNV_MSIX_DATA mine).wipeFld F.HX_FNV_MSIX_ADDR mine).wipeFld F.HX_FNV_PBA_PBA (fun i => i / 64 == fi)

/-! ### Dirty-page logging (R358 to R362) -/

def State.dlog (s : State) (k : Nat) : Dlog := Map.get {} k s.dlogs
def State.setDlog (s : State) (k : Nat) (d : Dlog) : State := (s.withDlogs (Map.set {} k d s.dlogs))

/-- Host address of bitmap `b` of a slot. -/
def State.bitmapAddr (s : State) (k b : Nat) : Nat :=
  if b = 0 then s.fld F.HX_FN_DLOG_BITMAP0 k else s.fld F.HX_FN_DLOG_BITMAP1 k

/-- Write 64-byte blocks of a shadow to the host, as the manager's requests (R359). -/
def State.writeBlocks (s : State) (base : Nat) (bs : Map Nat) : List Nat → State
  | [] => s
  | b :: rest =>
    let bytes := (List.range 64).map (fun i => BitVec.ofNat 8 (Map.get 0 (64 * b + i) bs))
    (s.dmaWrite s.mgr (base + 64 * b) bytes).writeBlocks base bs rest

/-- Write out the changed blocks of a slot's active bitmap. -/
def State.flushActive (s : State) (k : Nat) : State :=
  let d := s.dlog k
  (s.setDlog k { d with dirty := [] }).writeBlocks (s.bitmapAddr k (s.fld F.HX_FN_DLOG_ACTIVE k)) d.bits d.dirty

/-- Write out the changed blocks of a slot's retired bitmap. -/
def State.flushRetired (s : State) (k : Nat) : State :=
  let d := s.dlog k
  (s.setDlog k { d with oldDirty := [] }).writeBlocks (s.bitmapAddr k (1 - s.fld F.HX_FN_DLOG_ACTIVE k)) d.oldBits d.oldDirty

/-- BITMAP_FLUSH (R359). -/
def State.bitmapFlush (s : State) (k : Nat) : State :=
  s.when (s.flag F.HX_FN_DLOG_EN k && (s.cfg s.mgr).bme) (fun s => (s.flushRetired k).flushActive k)

def execBitmapFlush (slot : Fin 64) (s : State) : Host.Outcome State Fault Refusal := .next (s.bitmapFlush slot.val)

/-- Write a harvest record (R360). -/
def State.harvestRecord (s : State) (k bitmap : Nat) (out ended : Bool) : State :=
  let d := s.dlog k
  let s := s.setDlog k { d with seq := (d.seq + 1) % 2 ^ 32 }
  s.dmaWrite s.mgr (s.fld F.HX_FN_DLOG_RECORD k)
    (leBytes 8 ((d.seq + 1) % 2 ^ 32 + bitmap * 2 ^ 32 + b2n out * 2 ^ 33 + b2n ended * 2 ^ 34))

/-- HARVEST (R360): the other bitmap becomes active. -/
def State.harvest (s : State) (k : Nat) : State :=
  if !s.flag F.HX_FN_DLOG_EN k then s
  else if s.flag F.HX_FN_DLOG_BUSY k then s.raise 779 [.w k]
  else
    let d := s.dlog k
    let s := (s.setFlag F.HX_FN_DLOG_BUSY k true).setFld F.HX_FN_DLOG_ACTIVE k (1 - s.fld F.HX_FN_DLOG_ACTIVE k)
    s.setDlog k { d with bits := [], dirty := [], outRange := false, oldBits := d.bits, oldDirty := d.dirty, oldOut := d.outRange }

def execHarvest (who : Party) (slot : Fin 64) (s : State) : Host.Outcome State Fault Refusal := .next (s.writeTo who 6 2 false (·.harvest slot.val))

/-- HARVEST_DONE (R360): the retired bitmap is out, and its record follows. -/
def State.harvestDone (s : State) (k : Nat) : State :=
  let out := (s.dlog k).oldOut
  let s := (s.flushRetired k).harvestRecord k (1 - s.fld F.HX_FN_DLOG_ACTIVE k) out false
  (s.setDlog k { s.dlog k with oldBits := [], oldOut := false }).setFlag F.HX_FN_DLOG_BUSY k false

def execHarvestDone (slot : Fin 64) (s : State) : Host.Outcome State Fault Refusal :=
  .next (s.when (s.flag F.HX_FN_DLOG_BUSY slot.val && (s.cfg s.mgr).bme) (·.harvestDone slot.val))

/-- Logging of a slot ends, with nothing written. -/
def State.dlogOff (s : State) (k : Nat) : State :=
  (((s.setFlag F.HX_FN_DLOG_EN k false).setFlag F.HX_FN_DLOG_BUSY k false).setFld F.HX_FN_DLOG_ACTIVE k 0).setDlog k {}

/-- The final harvest of every slot that logs a function (R361). -/
def State.dlogEnd (s : State) (fi : Nat) : State :=
  ((s.listed F.HX_FN_DLOG_EN).filter (fun k => s.fld F.HX_FN_DLOG_FUNC k == fi)).foldl (fun s k =>
    let s := if s.flag F.HX_FN_DLOG_BUSY k then s.harvestDone k else s
    let out := (s.dlog k).outRange
    ((s.flushActive k).harvestRecord k (s.fld F.HX_FN_DLOG_ACTIVE k) out true).dlogOff k) s

/-- A reset of the manager's link or sub-link ends every logging slot without a record (R361). -/
def State.dlogDrop (s : State) : State :=
  (s.listed F.HX_FN_DLOG_EN).foldl (fun s k => (s.dlogOff k).raise 779 [.w k]) s

/-- Bytes of the shadow of a slot (R359). -/
def State.shadowBytes (s : State) (k : Nat) : Nat := (s.fld F.HX_FN_DLOG_LENGTH k + 7) / 8

/-- A write of word 0 of HX_FN_DLOG (R362). -/
def State.dlogCtrl (s : State) (who : Party) (k v : Nat) : State :=
  let on := bit v 31
  let was := s.flag F.HX_FN_DLOG_EN k
  let s := s.put who F.HX_FN_DLOG_FUNC k (bits v 0 12)
  let s :=
    if on && !was then
      let total := ((s.listed F.HX_FN_DLOG_EN).foldl (fun a j => a + s.shadowBytes j) 0) + s.shadowBytes k
      let fi := s.fld F.HX_FN_DLOG_FUNC k
      if 64 * 2 ^ 20 < total ∨ 2056 ≤ fi ∨ !s.live fi then (s.setFlag F.HX_FN_DLOG_ERR k true).raise 779 [.w k]
      else (((s.dlogOff k).put who F.HX_FN_DLOG_EN k 1).setFlag F.HX_FN_DLOG_ERR k false)
    else if !on && was then (s.dlogOff k).put who F.HX_FN_DLOG_EN k 0
    else s
  if bit v 30 then s.harvest k else s

def execDlogEnable (who : Party) (slot : Fin 64) (v : Word) (s : State) : Host.Outcome State Fault Refusal :=
  .next (s.writeTo who 6 2 false (fun s => s.when (bit v.toNat 31) (·.dlogCtrl who slot.val v.toNat)))

/-- A write of one word of HX_FN_DLOG (R362). -/
def State.dlogWrite (s : State) (who : Party) (k w v : Nat) : State :=
  let half (f : Fld) (hi : Bool) : State :=
    let x := s.fld f k
    s.put who f k (if hi then v * 2 ^ 32 + x % 2 ^ 32 else x / 2 ^ 32 * 2 ^ 32 + v)
  if w = 0 then s.dlogCtrl who k v
  else if s.flag F.HX_FN_DLOG_EN k then s.raise 777 [.w k]
  else match w with
    | 1 => half F.HX_FN_DLOG_BITMAP0 false | 2 => half F.HX_FN_DLOG_BITMAP0 true
    | 3 => half F.HX_FN_DLOG_BITMAP1 false | 4 => half F.HX_FN_DLOG_BITMAP1 true
    | 5 => half F.HX_FN_DLOG_IOVA_BASE false | 6 => half F.HX_FN_DLOG_IOVA_BASE true
    | 7 => s.put who F.HX_FN_DLOG_LENGTH k v
    | 8 => half F.HX_FN_DLOG_RECORD false | 9 => half F.HX_FN_DLOG_RECORD true
    | _ => s

/-! ### Records (R351 to R353) -/

/-- The record's ranges: base, count, pool, greatest count, by kind: rings, windows, namespaces, key slots, vectors. -/
def State.recRanges (s : State) (fi : Nat) : List (Nat × Nat × Nat × Nat) :=
  [(s.fld F.HX_FN_REC_RING_BASE fi, s.fld F.HX_FN_REC_RING_COUNT fi, 65536, 4096),
   (s.fld F.HX_FN_REC_WIN_BASE fi, s.fld F.HX_FN_REC_WIN_COUNT fi, 1048576, 1048576),
   (s.fld F.HX_FN_REC_NS_BASE fi, s.fld F.HX_FN_REC_NS_COUNT fi, 4096, 4096),
   (s.fld F.HX_FN_REC_KEY_BASE fi, s.fld F.HX_FN_REC_KEY_COUNT fi, 16384, 16384)]
  ++ (if fi < 2056 then [(s.fld F.HX_FN_REC_VEC_BASE fi, s.fld F.HX_FN_REC_VEC_COUNT fi, 2048, 2048)] else [])

/-- Two ranges share a resource. -/
def rangesMeet (a b : Nat × Nat × Nat × Nat) : Bool :=
  decide (0 < a.2.1) && decide (0 < b.2.1) && decide (a.1 < b.1 + b.2.1) && decide (b.1 < a.1 + a.2.1)

/-- The records overlap: vectors count among the functions of one host link only (R353). -/
def State.recsMeet (s : State) (a b : Nat) : Bool :=
  let pairs := (s.recRanges a).zip (s.recRanges b)
  let pairs := if a < 2056 ∧ b < 2056 ∧ linkOf a = linkOf b then pairs else pairs.take 4
  pairs.any (fun p => rangesMeet p.1 p.2)

/-- The commit result of a record (R353); BAD_FIELD goes before RANGE, RANGE before OVERLAP. -/
def State.commitCode (s : State) (fi : Nat) : Nat :=
  let rs := s.recRanges fi
  if rs.any (fun r => decide (r.2.2.2 < r.2.1)) then 3
  else if rs.any (fun r => decide (r.2.2.1 < r.1 + r.2.1)) then 1
  else if s.holders.any (fun g => g != fi && s.recsMeet fi g) then 2
  else 0

/-- RECORD_COMMIT (R353). -/
def State.commitRec (s : State) (fi : Nat) : State :=
  let c := s.commitCode fi
  let s := ((s.setFlag F.HX_FN_REC_COMMITTED fi (c == 0)).setFlag F.HX_FN_REC_ERR fi (c != 0)).setFld F.HX_FN_REC_ERR_CODE fi c
  if c = 0 then s.setFld F.HX_FN_VIOL_COUNT fi 0 else s.raise 776 [.w fi, .w c]

/-- A party may write a record now (R352). -/
def State.recOpen (s : State) (who : Party) (fi : Nat) : Bool :=
  if 2056 ≤ fi ∨ fi = s.fld F.HX_FN_MGR_MGR_PF then who == .supervisor && s.mode == .boot && !s.live fi
  else s.manages who && !s.live fi

/-- FN_REC_WRITE: a write of one word of HX_FN_REC (R351, R352). -/
def State.recWrite (s : State) (who : Party) (fi w v : Nat) : State :=
  if !s.recOpen who fi then s.raise 777 [.w fi]
  else
    let two (f g : Fld) (lo : Nat) : State := (s.put who f fi (v / 2 ^ lo)).put who g fi v
    match w with
    | 0 => two F.HX_FN_REC_RING_BASE F.HX_FN_REC_RING_COUNT 16
    | 1 => two F.HX_FN_REC_VEC_BASE F.HX_FN_REC_VEC_COUNT 16
    | 2 => s.put who F.HX_FN_REC_WIN_BASE fi v
    | 3 => s.put who F.HX_FN_REC_WIN_COUNT fi v
    | 4 => two F.HX_FN_REC_NS_BASE F.HX_FN_REC_NS_COUNT 16
    | 5 => two F.HX_FN_REC_KEY_BASE F.HX_FN_REC_KEY_COUNT 16
    | 6 => ((s.put who F.HX_FN_REC_CLASS_MASK fi (v / 2 ^ 16)).put who F.HX_FN_REC_HVP fi (v / 2 ^ 8)).put who F.HX_FN_REC_EA fi v
    | _ => s

def execFnRecWrite (who : Party) (fi : Fin 2064) (word : Fin 8) (v : Word) (s : State) : Host.Outcome State Fault Refusal :=
  .next (s.writeTo who 6 2 false (·.recWrite who fi.val word.val v.toNat))

/-! ### Translation of BARs (R326 to R328) -/

/-- EV0775: a configuration write of block 0 (HX_PCIE) or 1 (HX_RP) is ignored. -/
def State.linkRefuse (s : State) (block off : Nat) : State := s.raise 775 [.w block, .w off]

/-- Entry ranges of the functions of a host link. -/
def State.xlateRanges (s : State) (h : Nat) : List (Nat × Nat × Nat × Nat) :=
  (List.range 4).flatMap (fun i =>
    let k := 4 * h + i
    [(s.fld F.HX_PCIE_FN_XLATE_TT_BASE k, max (s.fld F.HX_PCIE_FN_XLATE_NPAGES k) 1, 0, 0),
     (s.fld F.HX_PCIE_FN_XLATE_VF_TT_BASE k, max (s.fld F.HX_PCIE_FN_XLATE_VF_NPAGES k) 1 * (s.cfg k).numVfs, 0, 0)])

/-- No two of the ranges meet and none passes entry 8,191. -/
def rangesApart : List (Nat × Nat × Nat × Nat) → Bool
  | [] => true
  | r :: rs => decide (r.1 + r.2.1 ≤ 8192) && !rs.any (rangesMeet r) && rangesApart rs

/-- A write of a word of HX_PCIE_FN_XLATE (R328). -/
def State.xlateWrite (s : State) (who : Party) (h i w v : Nat) : State :=
  let k := 4 * h + i
  let off := 0x100 + 0x10 * i + 4 * w + h * 0x80000
  let t := if w = 0 then
      ((s.put who F.HX_PCIE_FN_XLATE_TT_BASE k (v / 2 ^ 19)).put who F.HX_PCIE_FN_XLATE_PSIZE k (v / 2 ^ 17)).put who F.HX_PCIE_FN_XLATE_NPAGES k v
    else
      ((s.put who F.HX_PCIE_FN_XLATE_VF_TT_BASE k (v / 2 ^ 19)).put who F.HX_PCIE_FN_XLATE_VF_PSIZE k (v / 2 ^ 17)).put who F.HX_PCIE_FN_XLATE_VF_NPAGES k v
  let busy := if w = 0 then (s.cfg k).mse else (s.cfg k).vfEn
  if busy ∨ !rangesApart (t.xlateRanges h) then s.linkRefuse 0 off else t

/-- First entry and page size of a function's BAR0, and its pages (R326). -/
def State.barOf (s : State) (fi : Nat) : Nat × Nat × Nat :=
  let k := pfOf fi
  let size (p : Nat) : Nat := if p = 0 then 12 else if p = 1 then 16 else 21
  if fi < 8 then (s.fld F.HX_PCIE_FN_XLATE_TT_BASE k, size (s.fld F.HX_PCIE_FN_XLATE_PSIZE k), max (s.fld F.HX_PCIE_FN_XLATE_NPAGES k) 1)
  else
    let n := max (s.fld F.HX_PCIE_FN_XLATE_VF_NPAGES k) 1
    (s.fld F.HX_PCIE_FN_XLATE_VF_TT_BASE k + (fi - 8) % 256 * n, size (s.fld F.HX_PCIE_FN_XLATE_VF_PSIZE k), n)

/-- The smallest power of two that is at least `n`, from `p`. -/
def powerAtLeast (fuel p n : Nat) : Nat :=
  match fuel with
  | 0 => p
  | fuel + 1 => if n ≤ p then p else powerAtLeast fuel (2 * p) n

/-- Size of a function's BAR0 (R325). -/
def State.barSize (s : State) (fi : Nat) : Nat := let b := s.barOf fi; powerAtLeast 64 1 (b.2.2 * 2 ^ b.2.1)

/-! ### Bus mastering (R335) -/

/-- Abandon a function's outstanding reads, and drop those not transmitted (R335). -/
def State.abandonReads (s : State) (fi : Nat) : State :=
  let l := s.host (linkOf fi)
  let l' : HostLink :=
    { l with reads := l.reads.filter (·.fi != fi), queue := l.queue.filter (·.1 != fi),
             dead := l.dead ++ (l.reads.filter (·.fi == fi)).map (s.deadTag · true) }
  (s.setHost (linkOf fi) l').pumpReads (linkOf fi) 64

/-- A function stops mastering: its rings stop and its reads are abandoned. -/
def State.silence (s : State) (fi : Nat) : State := (s.masterOff fi).abandonReads fi

/-! ### Reset and destruction (R336, R337, R356) -/

/-- Steps 1 to 4 of R337. -/
def State.fnClear (s : State) (fi : Nat) : State :=
  let s := (s.abandonReads fi).rmaOwnerGone fi
  let s := ((s.dlogEnd fi).wipeRings fi 7).clearVectors fi
  (s.zeroiseSlots (fun k => inRange k (s.fld F.HX_FN_REC_KEY_BASE fi) (s.fld F.HX_FN_REC_KEY_COUNT fi))).storReset fi

/-- A function reset begins: 1 FLR, 2 hot reset or link down, 3 fundamental. One in progress goes on; a wider one decides the configuration space. -/
def State.fnReset (s : State) (fi kind : Nat) : State :=
  let c := s.cfg fi
  if c.resetting = 4 then s
  else if c.resetting ≠ 0 then s.setCfg fi { c with resetting := max c.resetting kind }
  else (s.fnClear fi).setCfg fi { s.cfg fi with resetting := kind }

/-- Destruction begins (R356): silence, windows revoked, namespaces detached. -/
def State.fnDestroy (s : State) (fi : Nat) : State :=
  if (s.cfg fi).resetting = 4 then s
  else
    let s := (s.fnClear fi).winsGone fi
    let s := (s.attached.filter (fun h => inRange h (s.fld F.HX_FN_REC_NS_BASE fi) (s.fld F.HX_FN_REC_NS_COUNT fi))).foldl
      (fun s h => s.nsDisable .supervisor h) s
    s.setCfg fi { s.cfg fi with resetting := 4 }

/-- Clear VF Enable of a PF: its VFs are destroyed (R356). -/
def State.vfDisable (s : State) (pf : Nat) : State :=
  if !(s.cfg pf).vfEn then s
  else
    let s := (s.vfsOf pf).foldl State.fnDestroy s
    s.setCfg pf { s.cfg pf with vfEn := false }

/-- Create a VF (R355). -/
def State.vfCreate (s : State) (fi : Nat) : State := ((s.setCfg fi {}).clearVectors fi).commitRec fi

/-- Set VF Enable of a PF; a VF still in destruction waits for its end (R355, R356). -/
def State.vfEnable (s : State) (pf : Nat) : State :=
  if (s.cfg pf).vfEn then s
  else
    let s := s.setCfg pf { s.cfg pf with vfEn := true }
    (s.vfsOf pf).foldl (fun s fi =>
      if (s.cfg fi).resetting = 4 then s.setCfg fi { s.cfg fi with vfPend := true } else s.vfCreate fi) s

/-- FUNCTION_DESTROY_DONE: the record is released (R356). -/
def State.destroyDone (s : State) (fi : Nat) : State :=
  let c := s.cfg fi
  if c.resetting ≠ 4 then s
  else
    let s := (s.setFlag F.HX_FN_REC_COMMITTED fi false).raise 778 [.w fi]
    let s := s.setCfg fi (if fi < 8 then { c with resetting := 0 } else {})
    if c.vfPend ∧ (s.cfg (pfOf fi)).vfEn then s.vfCreate fi
    else if fi < 8 ∧ s.live fi then s.commitRec fi
    else s

def execFunctionDestroyDone (fi : Fin 2056) (s : State) : Host.Outcome State Fault Refusal := .next (s.destroyDone fi.val)

/-- FUNCTION_RESET_DONE: configuration space is reset as its kind states; a PF that is live no more is destroyed (R336, R337, R356). -/
def State.resetDone (s : State) (fi : Nat) : State :=
  let c := s.cfg fi
  if c.resetting = 0 ∨ c.resetting = 4 then s
  else
    let was := s.live fi
    let s := if fi < 8 then s.vfDisable fi else s
    let s := s.setCfg fi { aer := if c.resetting = 3 then 0 else c.aer }
    let s := if c.resetting = 1 then (s.bump F.HX_PCIE_STAT_COUNT (11 * linkOf fi + 8)).raise 770 [.w fi] else s
    if fi < 8 ∧ was then s.fnDestroy fi else s

def execFunctionResetDone (fi : Fin 2056) (s : State) : Host.Outcome State Fault Refusal := .next (s.resetDone fi.val)

/-! ### Configuration requests (R18, R324, R337, R355, R686) -/

/-- PF becomes live, or is live no more (R352, R353, R356). -/
def State.liveChange (s : State) (fi : Nat) (was : Bool) : State :=
  if 8 ≤ fi ∨ was = s.live fi then s
  else if was then s.fnDestroy fi
  else s.commitRec fi

/-- Apply a configuration write to a named field. -/
def State.cfgWrite (s : State) (fi v : Nat) : CfgField → State
  | .memSpace =>
    if 8 ≤ fi then s else (s.setCfg fi { s.cfg fi with mse := bit v 0 }).liveChange fi (s.live fi)
  | .busMaster =>
    let was := s.live fi
    let c := s.cfg fi
    let s' := s.setCfg fi { c with bme := bit v 0 }
    if bit v 0 then (s'.flushPba fi).liveChange fi was
    else if c.bme then (s'.silence fi).liveChange fi was
    else s
  | .maxPayload => s.setCfg fi { s.cfg fi with mps := min (v % 8) 2 }
  | .maxReadReq => s.setCfg fi { s.cfg fi with mrrs := min (v % 8) 5 }
  | .cplTimeout => s.setCfg fi { s.cfg fi with cto := v % 16 }
  | .initiateFlr =>
    if bit v 0 ∧ (s.cfg fi).resetting = 0 then (if fi < 8 then s.vfDisable fi else s).fnReset fi 1 else s
  | .vfEnable => if 8 ≤ fi then s else if bit v 0 then s.vfEnable fi else s.vfDisable fi
  | .numVfs => if 8 ≤ fi ∨ (s.cfg fi).vfEn ∨ 256 < v then s else s.setCfg fi { s.cfg fi with numVfs := v }
  | .msixMask =>
    let s := s.setCfg fi { s.cfg fi with msixMask := bit v 0 }
    if bit v 0 then s else s.flushPba fi
  | .aerStatus => s.setCfg fi { s.cfg fi with aer := Nat.land (s.cfg fi).aer (2 ^ 32 - 1 - v) }
  | _ => s

/-- What a configuration read of a named field returns. -/
def State.cfgRead (s : State) (fi : Nat) : CfgField → State × Nat
  | .memSpace => (s, b2n (s.cfg fi).mse)
  | .busMaster => (s, b2n (s.cfg fi).bme)
  | .maxPayload => (s, (s.cfg fi).mps)
  | .maxReadReq => (s, (s.cfg fi).mrrs)
  | .cplTimeout => (s, (s.cfg fi).cto)
  | .initiateFlr => (s, 0)
  | .vfEnable => (s, b2n (s.cfg fi).vfEn)
  | .numVfs => (s, (s.cfg fi).numVfs)
  | .msixMask => (s, b2n (s.cfg fi).msixMask)
  | .aerStatus => (s, (s.cfg fi).aer)
  | .totalVfs | .initialVfs => (s, 256)
  | .vfStride => (s, 1)
  | .vfOffset => (s, let f := if s.flag F.HX_PCIE_LINK_CFG_BIFUR (linkOf fi) then fi % 2 else fi % 4; 256 * (f + 1) - f)
  | .cplRanges => (s, 15)
  | .maxPayloadSup => (s, 2)
  | .barSize => (s, s.barSize fi)
  | .vfBarSize => (s, s.barSize (8 + 256 * pfOf fi))
  | .otherBar => (s, 0)
  | .resetTime => (s, 100)
  | .flrTime => (s, 10)
  | .other _ => (s.drawn, s.free)

/-- Completion statuses of an answer. -/
def cplSc : Nat := 0
def cplUr : Nat := 1
def cplCrs : Nat := 2

/-- CONFIG_REQUEST: a host's configuration request to a function. -/
def State.config (s : State) (fi : Nat) (op : CfgOp) : State :=
  let st := s.fld F.HX_PCIE_LINK_STATUS_STATE (2 * linkOf fi + s.sublinkOf fi)
  let c := s.cfg fi
  if st ≠ 2 ∧ st ≠ 3 then s
  else if (s.mode = .safetyNet ∧ fi ≠ 0) ∨ (8 ≤ fi ∧ !s.live fi ∧ c.resetting = 0) then s.emit (.cfgCpl fi cplUr 0)
  else if st = 2 ∨ c.resetting ≠ 0 then s.emit (.cfgCpl fi cplCrs 0)
  else match op with
    | .read f => let r := s.cfgRead fi f; r.1.emit (.cfgCpl fi cplSc r.2)
    | .write f v => (s.cfgWrite fi v.toNat f).emit (.cfgCpl fi cplSc 0)

def execConfigRequest (fi : Fin 2056) (op : CfgOp) (s : State) : Host.Outcome State Fault Refusal := .next (s.config fi.val op)

/-- BME_CLEAR (R335). -/
def execBmeClear (fi : Fin 2056) (s : State) : Host.Outcome State Fault Refusal := .next (s.config fi.val (.write .busMaster 0))

/-- FLR (R336, R337). -/
def execFlr (fi : Fin 2056) (s : State) : Host.Outcome State Fault Refusal := .next (s.config fi.val (.write .initiateFlr 1))

/-- VF_ENABLE (R355). -/
def execVfEnable (pf : Fin 8) (s : State) : Host.Outcome State Fault Refusal := .next (s.config pf.val (.write .vfEnable 1))

/-- VF_DISABLE (R356). -/
def execVfDisable (pf : Fin 8) (s : State) : Host.Outcome State Fault Refusal := .next (s.config pf.val (.write .vfEnable 0))

end Sys2Proof.Machine
end

