-- ==== Sys2Proof/Machine/Image.lean ====
section
/-! DEFINITION. The boot flash, Drulys images and their signatures, image commands, fuses, sealing and attestation (R561 to R595). -/

namespace Sys2Proof.Machine

/-! ### Flash (R561, R568) -/

def State.flashPart (s : State) (k : Nat) : Map Byte := Map.get [] k s.boot.flash

/-- `n` bytes of part `k` from offset `a`; an erased byte reads 0xFF. -/
def flashBytes (m : Map Byte) (a n : Nat) : List Byte :=
  match n with
  | 0 => []
  | n + 1 => Map.get 255 a m :: flashBytes m (a + 1) n

/-- Program bytes into a part. -/
def flashPut (m : Map Byte) (a : Nat) : List Byte → Map Byte
  | [] => m
  | b :: bs => flashPut (Map.set 255 a b m) (a + 1) bs

def State.setFlash (s : State) (k : Nat) (m : Map Byte) : State := (s.withBoot { s.boot with flash := Map.set [] k m s.boot.flash })

/-- Pages of a slot's image area, and the offset of its commit sector. -/
def slotPages : Nat := 14320
def commitOff : Nat := 0x037F0000

/-- A flash condition (R590). -/
def State.flashFault (s : State) (code : Nat) (detail : List Nat) : State := s.violate (0x0700 + code) 0 65 detail

/-! ### Images (R564 to R567) -/

/-- A section of an image. -/
structure Sect where
  type : Nat
  off : Nat
  len : Nat

/-- A well-formed image header. -/
structure ImgHdr where
  len : Nat
  seq : Nat
  svn : Nat
  root : Nat
  advance : Bool
  runLoad : Bool
  sects : List Sect

/-- Two sections share a byte. -/
def Sect.meets (a b : Sect) : Bool := decide (a.off < b.off + b.len) && decide (b.off < a.off + a.len)

/-- No two sections of a list meet. -/
def sectsApart : List Sect → Bool
  | [] => true
  | x :: xs => !xs.any x.meets && sectsApart xs

/-- The header of an image, where R564 and R565 find it well formed. -/
def parseHdr (bs : List Byte) : Option ImgHdr :=
  let n := leAt bs 18 1
  let len := leAt bs 8 4
  let sect (i : Nat) : Sect := { type := leAt bs (64 + 12 * i) 1, off := leAt bs (68 + 12 * i) 4, len := leAt bs (72 + 12 * i) 4 }
  let ss := (List.range n).map sect
  let count (t : Nat) : Nat := (ss.filter (·.type == t)).length
  let runLoad := bit (leAt bs 19 1) 1
  if leAt bs 0 4 ≠ 0x4D494C44 ∨ leAt bs 4 2 ≠ 1 ∨ leAt bs 6 2 ≠ 256 ∨ len % 8 ≠ 0 ∨ leAt bs 12 4 = 0 ∨ 64 < leAt bs 16 1
    ∨ 3 < leAt bs 17 1 ∨ n = 0 ∨ 16 < n then none
  else if !((bs.drop (64 + 12 * n)).take (192 - 12 * n)).all (· == 0) then none
  else if ss.any (fun x => x.type == 0 || decide (5 < x.type) || x.off % 8 != 0 || decide (len < x.off + x.len)) ∨ !sectsApart ss then none
  else if [1, 2, 3, 4, 5].any (fun t => decide (1 < count t)) ∨ (!runLoad ∧ (count 1 ≠ 1 ∨ count 2 ≠ 1)) then none
  else some { len := len, seq := leAt bs 12 4, svn := leAt bs 16 1, root := leAt bs 17 1, advance := bit (leAt bs 19 1) 0,
              runLoad := runLoad, sects := ss }

/-- The bytes of the section of a type, where the image has one. -/
def ImgHdr.section? (h : ImgHdr) (bs : List Byte) (t : Nat) : Option (List Byte) :=
  (h.sects.find? (·.type == t)).map (fun x => (bs.drop x.off).take x.len)

/-- M of R566: SHAKE256-512 of the header and sections. -/
def imageM (bs : List Byte) (len : Nat) : List Byte := Config.shake256 (bs.take len) 64

/-- Bytes of the signature block (R566). -/
def sigBlock : Nat := 3080

/-- The limits of an unverified image are in force (R571). -/
def State.unverified (s : State) : Bool := s.flag F.AO_BOOT_STATUS_UNVERIFIED || s.boot.limited

/-- The signature check of R570: 0 OK, 1 ROOT_MISMATCH, 2 ROOT_REVOKED, 3 SIG_FAIL. -/
def State.verifyImage (s : State) (h : ImgHdr) (bs : List Byte) : Nat :=
  let key := (bs.drop h.len).take 1793
  let sig := (bs.drop (h.len + 1800)).take 1280
  let digest := Config.rootDigest h.root
  if digest = [] ∨ digest ≠ Config.shake256 key 32 then 1
  else if bit s.boot.revoked h.root then 2
  else if !Config.falconVerify key (imageM bs h.len) sig then 3
  else 0

/-! ### Commit records and slots (R568, R569) -/

/-- A commit record: SEQ, length, DIGEST. -/
structure Commit where
  seq : Nat
  len : Nat
  digest : List Byte

/-- The commit record of a slot, where condition 1 of R569 holds. -/
def State.commitOf (s : State) (slot : Nat) : Option Commit :=
  let r := flashBytes (s.flashPart slot) commitOff 64
  if leAt r 0 4 ≠ 0x544D4F43 ∨ leAt r 4 2 ≠ 1 ∨ leAt r 6 1 ≠ slot ∨ leAt r 60 4 ≠ crc32c (r.take 60) then none
  else some { seq := leAt r 8 4, len := leAt r 12 4, digest := (r.drop 16).take 32 }

/-- The slot image as the commit record sizes it. -/
def State.slotImage (s : State) (slot : Nat) (c : Commit) : List Byte := flashBytes (s.flashPart slot) 0 (min c.len commitOff)

/-- Record and header of a slot, where conditions 1 and 2 of R569 hold. -/
def State.slotHead (s : State) (slot : Nat) : Option (Commit × ImgHdr) :=
  match s.commitOf slot with
  | none => none
  | some c =>
    match parseHdr (flashBytes (s.flashPart slot) 0 256) with
    | none => none
    | some h => if h.runLoad ∨ h.seq ≠ c.seq ∨ h.len + sigBlock ≠ c.len ∨ commitOff < c.len then none else some (c, h)

/-- A commit record as COMMIT programs it (R568). -/
def commitRecord (slot seq len : Nat) (digest : List Byte) : List Byte :=
  let r := leBytes 4 0x544D4F43 ++ leBytes 2 1 ++ leBytes 1 slot ++ leBytes 1 0 ++ leBytes 4 seq ++ leBytes 4 len
    ++ (digest ++ List.replicate 32 0).take 32 ++ List.replicate 12 0
  r ++ leBytes 4 (crc32c r)

/-! ### Boot configuration (R563, R567) -/

/-- A list of entries: address and value. -/
def configEntries (bs : List Byte) (n : Nat) : List (Nat × Nat) :=
  match n with
  | 0 => []
  | n + 1 => (leAt bs 0 4, leAt bs 4 4) :: configEntries (bs.drop 8) n

/-- A valid boot configuration copy: SEQ and entries. -/
def State.bcfg (s : State) (copy : Nat) : Option (Nat × List (Nat × Nat)) :=
  let m := s.flashPart (2 + copy)
  let h := flashBytes m 0 16
  let n := leAt h 8 2
  let es := flashBytes m 16 (8 * min n 4094)
  if leAt h 0 4 ≠ 0x41464342 ∨ 4094 < n ∨ leAt h 12 4 ≠ crc32c (h.take 12 ++ es) then none
  else some (leAt h 4 4, configEntries es n)

/-- The copy in use: the valid one with the higher SEQ. -/
def State.bcfgUsed (s : State) : Option (Nat × Nat × List (Nat × Nat)) :=
  match s.bcfg 0, s.bcfg 1 with
  | some a, some b => if a.1 < b.1 then some (1, b) else some (0, a)
  | some a, none => some (0, a)
  | none, some b => some (1, b)
  | none, none => none

/-! ### Image commands (R581, R582) -/

/-- A command ends: RESULT, EV0062. -/
def State.imgEnd (s : State) (result : Nat) : State :=
  (s.setFld F.AO_IMG_STATUS_RESULT 0 result).raise 62 [.w result, .w (s.fld F.AO_IMG_STATUS_SEQ)]

/-- A write of AO_IMG_CMD. ERASE takes the commit sector at once (R583). -/
def State.imgCmd (s : State) (op slot pages : Nat) : State :=
  let offset := s.fld F.AO_IMG_ARG_OFFSET
  if op = 0 ∨ 4 < op then s
  else if s.fld F.AO_IMG_STATUS_STATE ≠ 0 then s.imgEnd 1
  else if s.mode ≠ .run ∧ s.mode ≠ .safetyNet then s.imgEnd 2
  else if s.mode = .run ∧ op < 4 ∧ slot = s.fld F.AO_BOOT_STATUS_SLOT then s.imgEnd 3
  else if s.fld F.AO_PROG_STATUS_STATE ≠ 0 ∨ s.fld F.AO_UCODE_STATUS_STATE ≠ 0 then s.imgEnd 4
  else if (op = 2 ∧ (pages = 0 ∨ 4096 < pages ∨ slotPages < offset + pages)) ∨ (op = 4 ∧ (pages = 0 ∨ 8 < pages)) then s.imgEnd 5
  else
    let s := (s.bump F.AO_IMG_STATUS_SEQ).setFld F.AO_IMG_STATUS_STATE 0 (if op = 4 then 2 else op)
    let s := if op = 1 then s.setFlash slot ((s.flashPart slot).filter (fun e => decide (e.1 < commitOff))) else s
    (s.withBoot { s.boot with img := some { op := op, slot := slot, pages := pages, offset := offset } })

/-- A command of the slot registers by a party that may reach them. -/
def State.imgBy (s : State) (who : Party) (op slot pages : Nat) : State := s.when (s.admits who 0 7) (·.imgCmd op slot pages)

def execImgErase (who : Party) (slot : Fin 2) (s : State) : Host.Outcome State Fault Refusal := .next (s.imgBy who 1 slot.val 0)
def execImgWrite (who : Party) (slot : Fin 2) (pages : Fin 8192) (s : State) : Host.Outcome State Fault Refusal := .next (s.imgBy who 2 slot.val pages.val)
def execImgCommit (who : Party) (slot : Fin 2) (s : State) : Host.Outcome State Fault Refusal := .next (s.imgBy who 3 slot.val 0)
def execWriteBcfg (who : Party) (pages : Fin 8192) (s : State) : Host.Outcome State Fault Refusal := .next (s.imgBy who 4 0 pages.val)

/-- Clear a slot's DEMOTED mark, recorded first in the log (R574, R592). -/
def State.undemote (s : State) (slot : Nat) : State :=
  if !Map.get false slot s.boot.demoted then s
  else
    let s := s.logEntry 0xA 0 0 1 [slot, 0]
    let s := (s.withBoot { s.boot with demoted := Map.set false slot false s.boot.demoted })
    s.setFlag (if slot = 0 then F.AO_BOOT_STATUS_A_DEMOTED else F.AO_BOOT_STATUS_B_DEMOTED) 0 false

/-- COMMIT reaches its end (R581). -/
def State.commitEnd (s : State) (slot : Nat) (r : FlashResult) : State × Nat :=
  let m := s.flashPart slot
  match parseHdr (flashBytes m 0 256) with
  | none => (s, 7)
  | some h =>
    let n := h.len + sigBlock
    if h.runLoad ∨ h.svn < s.boot.floor ∨ commitOff < n then (s, 7)
    else
      let bs := flashBytes m 0 n
      let s := s.setFlag F.AO_IMG_STATUS_SIG_OK 0 (s.verifyImage h bs == 0)
      if (flashBytes m commitOff 64).any (· != 255) then (s, 6)
      else match r with
        | .error => (s.flashFault 2 [], 8)
        | .mismatch => (s.flashFault 3 [], 8)
        | .done =>
          let s := s.setFlash slot (flashPut m commitOff (commitRecord slot h.seq n (Config.shake256 bs 32)))
          let s := s.undemote slot
          ((s.withBoot { s.boot with uploaded := s.boot.uploaded || s.mode == .safetyNet }), 0)

/-- What a command does by its end, and its result. -/
def State.imgWork (s : State) (c : ImgCmd) (r : FlashResult) : State × Nat :=
  let flashEnd (s : State) (bad : Nat) : State × Nat :=
    match r with
    | .error => (s.flashFault 2 [], 8)
    | .mismatch => (s.flashFault 3 [], bad)
    | .done => (s, 0)
  match c.op with
  | 1 => if r = .done then (s.setFlash c.slot [], 0) else (s.flashFault 2 [], 8)
  | 2 =>
    let m := s.flashPart c.slot
    let a := 4096 * c.offset
    if m.any (fun e => inRange e.1 a (4096 * c.pages)) then (s, 6)
    else flashEnd (s.setFlash c.slot (flashPut m a (cellsRead s.staging 0 (4096 * c.pages)))) 6
  | 3 => s.commitEnd c.slot r
  | _ =>
    let target := match s.bcfg 0, s.bcfg 1 with
      | none, _ => 2
      | some _, none => 3
      | some a, some b => if a.1 < b.1 then 2 else 3
    flashEnd (s.setFlash target (flashPut [] 0 (cellsRead s.staging 0 (4096 * c.pages)))) 6

/-- A power cut in an image command (R583): an open part of the sectors is erased, of the bytes programmed. -/
def State.imgCut (s : State) : State :=
  match s.boot.img with
  | none => s
  | some c =>
    let w := s.imgWork c .done
    let k := if c.op = 4 then (if w.1.flashPart 2 = s.flashPart 2 then 3 else 2) else c.slot
    let new := w.1.flashPart k
    let old := s.flashPart k
    let n := s.free % (commitOff + 65536)
    let s := s.drawn
    if w.2 ≠ 0 then s
    else if c.op = 1 then s.setFlash k (old.filter (fun e => decide (65536 * (n % 880) ≤ e.1)))
    else if c.op = 4 then s.setFlash k (new.filter (fun e => decide (e.1 < n % 32769)))
    else if c.op = 3 then s.setFlash k (new.filter (fun e => decide (e.1 < commitOff + n % 65)))
    else s.setFlash k (new.filter (fun e => decide (e.1 < 4096 * c.offset + n % (4096 * c.pages + 1)) || decide (4096 * (c.offset + c.pages) ≤ e.1)))

/-- IMG_CMD_DONE. -/
def State.imgDone (s : State) (r : FlashResult) : State :=
  match s.boot.img with
  | none => s
  | some c =>
    let w := s.imgWork c r
    (((w.1.setFld F.AO_IMG_STATUS_STATE 0 0).withBoot { w.1.boot with img := none })).imgEnd w.2

def execImgCmdDone (flash : FlashResult) (s : State) : Host.Outcome State Fault Refusal := .next (s.imgDone flash)

/-! ### AO_BOOT_CTRL (R577, R592) -/

/-- CLR_DEMOTE (R592). -/
def execClrDemoteA (who : Party) (s : State) : Host.Outcome State Fault Refusal := .next (s.when (s.admits who 0 7) (·.undemote 0))
def execClrDemoteB (who : Party) (s : State) : Host.Outcome State Fault Refusal := .next (s.when (s.admits who 0 7) (·.undemote 1))

/-! ### Fuses (R584, R585, R595) -/

/-- Roots whose digests are programmed: ROOTS_SET. -/
def rootsSet : Nat := (List.range 4).foldl (fun a r => if Config.rootDigest r = [] then a else a + 2 ^ r) 0

/-- FLOOR_ADVANCE (R584): bits are blown in ascending order, as far as bit `to` - 1; EV0063 once FLOOR has reached the SVN. -/
def State.floorAdvance (s : State) (upTo : Nat) : State :=
  let b := s.boot
  if s.mode ≠ .run ∨ s.unverified ∨ !b.advance ∨ b.svn ≤ b.floor then s
  else
    let n := max b.floor (min upTo b.svn)
    let s := (s.withBoot { b with floor := n })
    if n = b.svn then s.raise 63 [.w n, .w 1] else s

def execFloorAdvance (upTo : Fin 65) (s : State) : Host.Outcome State Fault Refusal := .next (s.floorAdvance upTo.val)

/-- ROOT_REVOKE (R585): `blown` is whether the fuse took. -/
def State.rootRevoke (s : State) (root : Nat) (blown : Bool) : State :=
  let left := (List.range 4).any (fun r => r != root && bit rootsSet r && !bit s.boot.revoked r)
  if s.mode ≠ .run ∨ s.unverified ∨ root = s.boot.root ∨ !left then s.setFld F.AO_FUSE_STATUS_RESULT 0 2
  else if !blown then (s.setFld F.AO_FUSE_STATUS_RESULT 0 3).raise 63 [.w root, .w 3]
  else
    let s := (s.withBoot { s.boot with revoked := Nat.lor s.boot.revoked (2 ^ root) })
    (s.setFld F.AO_FUSE_STATUS_RESULT 0 1).raise 63 [.w root, .w 1]

/-- A write of AO_FUSE_CMD. -/
def State.fuseCmd (s : State) (v : Nat) (blown : Bool) : State :=
  s.when (bits v 16 16 == 0xC1A0 && bits v 12 4 == 1) (·.rootRevoke (bits v 0 2) blown)

def execRootRevoke (who : Party) (v : Word) (blown : Bool) (s : State) : Host.Outcome State Fault Refusal :=
  .next (s.when (s.admits who 0 8) (·.fuseCmd v.toNat blown))

/-! ### Sealing and attestation (R586 to R589) -/

/-- SEAL_DERIVE (R587); a SUPERVISOR debug session has locked it as UNVERIFIED does (R650). -/
def State.seal (s : State) (who : Party) (mode slot : Nat) : State :=
  let holder := (s.holders.filter (fun fi => inRange slot (s.fld F.HX_FN_REC_KEY_BASE fi) (s.fld F.HX_FN_REC_KEY_COUNT fi)))
  let allowed := if s.rank who ≤ 2 then !holder.isEmpty else holder.contains s.mgr
  if s.unverified ∨ s.flag F.AO_DBG_STATUS_SUPV_LOCK ∨ 4 < mode ∨ !allowed then s.setFld F.AO_ATT_STATUS_SEAL_RESULT 0 1
  else
    let seed := Config.identitySecret ++ Config.rootDigest s.boot.root ++ leBytes 4 (s.fld F.AO_SEAL_LABEL_LABEL)
    (s.fillSlot slot mode 1 true true (Config.shake256 seed (if mode = 1 then 64 else 32))).setFld F.AO_ATT_STATUS_SEAL_RESULT 0 0

/-- A write of AO_SEAL_CMD. -/
def State.sealCmd (s : State) (who : Party) (v : Nat) : State := s.when (bits v 28 4 == 1) (·.seal who (bits v 24 4) (bits v 0 14))

def execSealDerive (who : Party) (v : Word) (s : State) : Host.Outcome State Fault Refusal := .next (s.when (s.admits who 0 8) (·.sealCmd who v.toNat))

/-- KEY_PAIR_DERIVED (R586). -/
def execKeyPairDerived (s : State) : Host.Outcome State Fault Refusal :=
  .next (s.when (s.mode != .off && s.mode != .standby) (·.setFlag F.AO_ATT_STATUS_READY 0 true))

/-- A write of OP REPORT (R589). -/
def State.attReport (s : State) : State :=
  if s.flag F.AO_ATT_STATUS_BUSY then (s.setFld F.AO_ATT_STATUS_RESULT 0 1).raise 64 []
  else
    let s := s.setFlag F.AO_ATT_STATUS_BUSY 0 true
    (s.withBoot { s.boot with attIn := (List.range 24).map (fun i => s.fld F.AO_ATT_IN_WORD i) })

def execAttReport (who : Party) (s : State) : Host.Outcome State Fault Refusal := .next (s.when (s.admits who 0 8) State.attReport)

/-- The identity public key (R586). -/
def identityKey : List Byte := Config.falconPublic (Config.shake256 Config.identitySecret 32)

/-- A byte string of exactly `n` bytes. -/
def sized (n : Nat) (bs : List Byte) : List Byte := (bs ++ List.replicate n 0).take n

/-- Bytes 0 to 255 of a report (R588). -/
def State.reportBody (s : State) : List Byte :=
  let b := s.boot
  let flags := b2n (s.unverified) + 2 * s.fld F.AO_BOOT_STATUS_SLOT + 4 * s.fld F.AO_BOOT_STATUS_SLOT_TIE
    + 8 * s.fld F.AO_BOOT_STATUS_FALLBACK + 16 * b2n b.debugged
  leBytes 4 0x50525441 ++ leBytes 2 1 ++ leBytes 2 flags
    ++ leBytes 4 (s.fld F.AO_DEVICE_ID_PART * 2 ^ 16 + s.fld F.AO_DEVICE_ID_REV * 2 ^ 8 + s.fld F.AO_DEVICE_ID_DEVID)
    ++ leBytes 4 b.seq ++ leBytes 1 b.svn ++ leBytes 1 b.floor ++ leBytes 1 b.root ++ leBytes 1 b.revoked
    ++ leBytes 1 s.mode.code ++ List.replicate 3 0 ++ leBytes 8 s.now
    ++ sized 32 (Config.shake256 identityKey 32) ++ sized 32 b.digest ++ sized 32 b.meas
    ++ leBytes 4 (s.fld F.HX_SQ_UCODE_VERSION_ROM_REV * 2 ^ 24 + s.fld F.HX_SQ_UCODE_VERSION_PATCH_LEVEL * 2 ^ 8 + s.fld F.HX_SQ_UCODE_VERSION_NMATCH)
    ++ leBytes 4 b.loads ++ sized 96 (wordBytes b.attIn) ++ List.replicate 24 0

/-- REPORT_DONE (R588, R589). -/
def State.reportDone (s : State) : State :=
  if !s.flag F.AO_ATT_STATUS_BUSY ∨ !s.flag F.AO_ATT_STATUS_READY then s
  else
    let body := s.reportBody
    let sig := Config.falconSign (Config.shake256 Config.identitySecret 32) (Config.shake256 body 64)
    let s := (s.setFlag F.AO_ATT_STATUS_BUSY 0 false).setFld F.AO_ATT_STATUS_RESULT 0 0
    (s.withBoot { s.boot with report := body ++ sized 1280 sig })

def execReportDone (s : State) : Host.Outcome State Fault Refusal := .next s.reportDone

/-- A load of image M completes with DONE (R588). -/
def State.measure (s : State) (m : List Byte) : State :=
  (s.withBoot { s.boot with meas := Config.shake256 (sized 32 s.boot.meas ++ m) 32, loads := s.boot.loads + 1 })

/-! ### Application cores (R578) -/

/-- Power domain of cluster `k` (R525). -/
def clusterDomain (k : Nat) : Nat := 76 + k

/-- CORE_RELEASE (R353, R578): each bit newly written starts its core; the first of a cluster commits its record. -/
def State.coreRelease (s : State) (v : Nat) : State :=
  (List.range 32).foldl (fun s n =>
    if bit v n ∧ !bit (s.fld F.CX_CORE_RELEASE_REL) n then
      let k := n / 4
      let s := if s.committed (clusterFi k) ∨ s.flag F.HX_FN_REC_ERR (clusterFi k) then s else s.commitRec (clusterFi k)
      let s := s.wake (clusterDomain k)
      let s := s.setFld F.CX_CORE_RELEASE_REL 0 (s.fld F.CX_CORE_RELEASE_REL + 2 ^ n)
      (s.withHarts (Map.set {} n { s.hart n with pc := s.fld F.CX_CORE_ENTRY_ENTRY, priv := 3 } s.harts)).emit (.coreStart n (s.fld F.CX_CORE_ENTRY_ENTRY))
    else s) s

def execCoreRelease (who : Party) (v : Word) (s : State) : Host.Outcome State Fault Refusal :=
  .next (s.writeTo who 7 0 false (fun s => s.when (who == .supervisor) (·.coreRelease v.toNat)))

end Sys2Proof.Machine
end

