-- ==== Sys2Proof/Machine/Sequencers.lean ====
section
/-! DEFINITION. Queue sequencers: dispatch, microwords, micro-traps, machine checks, release (R394 to R410). -/

namespace Sys2Proof.Machine

/-- DESC_DISPATCH (R395): the ring's next cached descriptor goes to a sequencer with a free context; while no candidate exists it waits. -/
def State.descDispatch (s : State) (r : Nat) : State :=
  match s.nextDesc r with
  | some d =>
    if (dtypeClass d.dtype).isNone ∨ !s.mayCarry r d.dtype then s
    else match s.dispatch r d with
      | some s => s
      | none => s
  | none => s

def execDescDispatch (ring : Fin 65536) (s : State) : Host.Outcome State Fault Refusal := .next (s.descDispatch ring.val)

/-! ### The control store (R396 to R398) -/

/-- Ones among the low `n` bits of a number. -/
def popCount (n v : Nat) : Nat :=
  match n with
  | 0 => 0
  | n + 1 => v % 2 + popCount n (v / 2)

/-- Bytes whose parity fails in a 144-bit word, as a mask of 16 (R396). -/
def paritySyndrome (w : Nat) : Nat :=
  (List.range 16).foldl (fun a n =>
    if (popCount 8 (bits w (8 * n) 8) + bits w (128 + n) 1) % 2 = 1 then a else a + 2 ^ n) 0

/-- A microword with its parity bits (R396). -/
def withParity (w : Nat) : Nat :=
  let m := w % 2 ^ 128
  (List.range 16).foldl (fun a n => if popCount 8 (bits m (8 * n) 8) % 2 = 0 then a + 2 ^ (128 + n) else a) m

/-- The word at a control-store address, without redirection. -/
def State.storeWord (s : State) (patch : Bool) (a : Nat) : Nat :=
  if patch then Map.get 0 (a % 1024) s.sq.patch else withParity (Config.romWord (a % 32768))

/-- Where a fetch is taken from: a match register redirects a ROM address to the patch RAM (R398). -/
def State.fetchAt (s : State) (patch : Bool) (a : Nat) : Bool × Nat :=
  if patch then (true, a % 1024)
  else match (List.range 64).find? (fun i => s.flag F.HX_SQ_PMATCH_VALID i && s.fld F.HX_SQ_PMATCH_ROM_ADDR i == a) with
    | some i => (true, s.fld F.HX_SQ_PMATCH_PATCH_ADDR i)
    | none => (false, a)

/-! ### Trap records (R407, R410) -/

/-- What a trap record says of the control store: cause, KIND, saved micro-PC, word concerned, its parity syndrome and the word as read. -/
structure TrapInfo where
  kind : Nat
  cause : Nat
  nspace : Bool
  upc : Nat
  fspace : Bool
  faddr : Nat
  word : Nat
  syn : Nat

/-- The 32 words of a trap record. -/
def State.trapWords (s : State) (n c : Nat) (x : SqCtx) (t : TrapInfo) : List Nat :=
  let ring := match x.job with | some j => 2 ^ 31 + j.1 | none => 0
  let pos := match x.job with | some j => posWord (s.ringN j.1) j.2 | none => 0
  [t.kind * 2 ^ 28 + t.cause * 2 ^ 20 + n * 2 ^ 16 + b2n t.nspace * 2 ^ 15 + t.upc % 2 ^ 15,
   x.flags * 2 ^ 16 + t.syn, s.now % 2 ^ 32, s.now / 2 ^ 32,
   c * 2 ^ 16 + b2n t.fspace * 2 ^ 15 + t.faddr % 2 ^ 15,
   s.fld F.HX_SQ_UCODE_VERSION_ROM_REV * 2 ^ 24 + s.fld F.HX_SQ_UCODE_VERSION_PATCH_LEVEL * 2 ^ 8, ring, pos]
  ++ bytesWords 5 (leBytes 20 t.word) ++ [0, 0, 0]
  ++ (List.range 8).flatMap (fun i => let v := (x.regs[i]?).getD 0; [v % 2 ^ 32, v / 2 ^ 32 % 2 ^ 32])

/-- Write a trap record into the next slot of HX_SQ_TRAPLOG, the first into slot 0. -/
def State.trapLog (s : State) (n : Nat) (ws : List Nat) : State :=
  let slot := if Map.get false n s.sq.logged then (s.fld F.HX_SQ_TRAPLOG_IDX_IDX n + 1) % 4 else 0
  let s := (ws.zip (List.range 32)).foldl (fun s e => s.setFld F.HX_SQ_TRAPLOG_WORD ((n * 4 + slot) * 32 + e.2) e.1) s
  ((s.setFld F.HX_SQ_TRAPLOG_IDX_IDX n slot).withSq { s.sq with logged := Map.set false n true s.sq.logged })

/-! ### Machine checks (R405, R406) -/

/-- Sequencers that hold a class in CLASS_MASK. -/
def State.sqsOf (s : State) (cls : Nat) : List Nat := (List.range 16).filter (fun n => bit (s.fld F.HX_SQ_CTRL_CLASS_MASK n) cls)

/-- A class has no sequencer left that is neither quarantined nor set OFFLINE, and one of its sequencers is quarantined (R406). -/
def State.classLost (s : State) (cls : Nat) : Bool :=
  let l := s.sqsOf cls
  l.any (fun n => s.sqState n == sqQuarantined)
    && l.all (fun n => s.sqState n == sqQuarantined || s.flag F.HX_SQ_CTRL_OFFLINE n)

/-- The classes of sequencer `n` that were served and are lost make one region fault of HX, CLASS_LOST. -/
def State.lossOf (s : State) (n : Nat) (before : State) : State :=
  match (List.range 4).find? (fun c => bit (s.fld F.HX_SQ_CTRL_CLASS_MASK n) c && s.classLost c && !before.classLost c) with
  | some c =>
    let cause := match (s.sqsOf c).find? (fun m => s.sqState m == sqQuarantined && (s.sqState n != sqQuarantined || m == n)) with
      | some m => Map.get 0 m s.sq.last
      | none => 0
    (s.withFaultsDue (s.faultsDue ++ [(6, 0x6730, [c, cause])]))
  | none => s

/-- Machine checks of a sequencer in the last hour: MCHECKS (R410). -/
def State.mchecks (s : State) (n : Nat) : Nat :=
  min ((Map.get [] n s.sq.checks).filter (fun t => decide (s.now < t + 3600000000000))).length 15

/-- Clear every context of a sequencer. -/
def State.clearCtxs (s : State) (n : Nat) : State :=
  (((List.range 16).foldl (fun s c => s.setCtx n c {}) s).withSq { ((List.range 16).foldl (fun s c => s.setCtx n c {}) s).sq with cur := Map.set 0 n 0 s.sq.cur })

/-- The release of a sequencer (R408): contexts cleared, micro-PC at ROM 0, INIT. -/
def State.sqStart (s : State) (n : Nat) : State := (s.clearCtxs n).sqGo n sqInit

/-- A machine check (R405): HALTED, the record, the log, the rings of its descriptors to ERROR, then the release, or quarantine at the second within an hour (R406). -/
def State.machineCheck (s : State) (n c : Nat) (t : TrapInfo) : State :=
  let s0 := s
  let s := s.sqGo n sqHalted
  let s := s.trapLog n (s.trapWords n c (s.ctx n c) t)
  let s := (s.violate (0x6700 + t.cause) n 0 [t.cause]).raise 785 [.w n, .w t.cause, .w t.faddr]
  let rings := (((List.range 16).filterMap (fun k => (s.ctx n k).job)).map (·.1)).eraseDups
  let s := rings.foldl (fun s r => if s.ringState r = ringActive ∨ s.ringState r = ringStopping then s.ringDown r ringError 5 else s) s
  let old := (Map.get [] n s.sq.checks).filter (fun x => decide (s.now < x + 3600000000000))
  let s := s.clearCtxs n
  let s := (s.withSq { s.sq with checks := Map.set [] n (old ++ [s.now]) s.sq.checks, last := Map.set 0 n t.cause s.sq.last })
  let s := s.setFld F.HX_SQ_STATUS_MCHECKS n (s.mchecks n)
  if old.isEmpty then s.sqStart n
  else ((s.sqGo n sqQuarantined).lossOf n s0).settle 64

/-- A machine check that no fetched word causes: it names the word that would have run next (R407). -/
def State.checkAt (s : State) (n c cause : Nat) (patch : Bool) (a : Nat) : State :=
  let f := s.fetchAt patch a
  s.machineCheck n c { kind := 3, cause := cause, nspace := f.1, upc := f.2, fspace := f.1, faddr := f.2,
                       word := s.storeWord f.1 f.2, syn := 0 }

/-! ### Microwords and micro-traps (R394, R396, R397, R403, R404) -/

def trapCode : TrapFault → Nat
  | .dmaError => 0x10 | .poison => 0x11 | .notOwned => 0x12 | .desc => 0x13

/-- Context `c` is the one the sequencer runs now (R394): the current one, or, while that waits or holds nothing, the next in rotating order that does not wait. -/
def State.runs (s : State) (n c : Nat) : Bool :=
  let cur := Map.get 0 n s.sq.cur
  let ready (k : Nat) : Bool := let x := s.ctx n k; x.job.isSome && !x.waiting
  (s.ctx n c).job.isSome &&
    (if ready cur then c == cur
     else (List.range 16).all (fun d => !(decide (0 < d) && decide (d < (c + 16 - cur) % 16) && ready ((cur + d) % 16))))

/-- Enter a micro-trap: save, and fetch from ROM address 0x0040 + 4 x CAUSE (R403). -/
def SqCtx.enter (x : SqCtx) (cause : Nat) : SqCtx :=
  { x with trap := some { upc := x.upc, nspace := x.nspace, flags := x.flags, regs := x.regs }, upc := 0x40 + 4 * cause, nspace := false }

/-- The lowest waiting interrupt of a context. -/
def SqCtx.nextIrq (x : SqCtx) : Option Nat := [1, 2, 3].find? (fun c => x.irqs.contains c)

/-- What follows a word that was executed: the trap return, a fault, an interrupt, or its successor alone (R403). -/
def State.afterWord (s : State) (n c : Nat) (f : Bool × Nat) (w : Nat) (o : MicroStep) : State :=
  let x := s.ctx n c
  let brw := bits w 108 2
  let next := bits w 113 15 - bits w 113 15 % 2 ^ brw + o.cond.val % 2 ^ brw
  let x : SqCtx := { x with upc := next, nspace := bit w 112, flags := o.flags.val, regs := (o.scratch.map (·.toNat)).take 8, waiting := o.waits }
  let x : SqCtx := match o.trapReturn, x.trap with
    | true, some v => { x with upc := v.upc, nspace := v.nspace, flags := v.flags, regs := v.regs, trap := none }
    | _, _ => x
  match o.fault with
  | some fault =>
    if x.trap.isSome then (s.setCtx n c x).checkAt n c 0x22 x.nspace x.upc
    else
      let t : TrapInfo := { kind := 2, cause := trapCode fault, nspace := x.nspace, upc := x.upc, fspace := f.1, faddr := f.2, word := w, syn := 0 }
      (s.trapLog n (s.trapWords n c x t)).setCtx n c (x.enter (trapCode fault))
  | none =>
    if bit w 100 then
      match x.job with
      | some j => (s.setCtx n c x).completeLive j.1 j.2 o.result.toNat o.info.toNat |>.sqFree (· == j)
      | none => s.setCtx n c x
    else match x.nextIrq with
      | some i => if bit w 101 ∧ x.trap.isNone then s.setCtx n c ({ x with irqs := x.irqs.filter (· != i) }.enter i) else s.setCtx n c x
      | none => s.setCtx n c x

/-- MICROWORD (R396, R397): the context's next word is fetched, checked and executed; an uncorrectable error of context storage names its own context (R407). -/
def State.microword (s : State) (n c : Nat) (o : MicroStep) : State :=
  let st := s.sqState n
  let x := s.ctx n c
  if o.ecc ∧ (st = sqInit ∨ st = sqReady ∨ st = sqBusy ∨ st = sqDraining) then s.checkAt n c 0x23 x.nspace x.upc
  else if o.ecc ∨ !((st == sqInit && c == 0) || ((st == sqBusy || st == sqDraining) && s.runs n c)) then s
  else
    let s := (s.withSq { s.sq with cur := Map.set 0 n c s.sq.cur })
    let f := s.fetchAt x.nspace x.upc
    let w := Nat.xor (s.storeWord f.1 f.2) o.readErr.toNat
    let syn := paritySyndrome w
    if syn ≠ 0 then
      s.machineCheck n c { kind := 3, cause := if f.1 then 0x21 else 0x20, nspace := f.1, upc := f.2, fspace := f.1, faddr := f.2, word := w, syn := syn }
    else s.afterWord n c f w o

/-- SQ_WATCHDOG (R404): a context that neither waits nor ends its job. -/
def State.sqWatchdog (s : State) (n c : Nat) : State :=
  let x := s.ctx n c
  s.when ((s.sqState n == sqBusy || s.sqState n == sqDraining) && x.job.isSome && !x.waiting) (·.checkAt n c 0x24 x.nspace x.upc)


/-- CONTEXT_TIMER (R404): the TIMER interrupt. -/
def execContextTimer (sq : Fin 16) (ctx : Fin 16) (s : State) : Host.Outcome State Fault Refusal := .next (s.sqIrq sq.val ctx.val 1)


/-! ### Release, OFFLINE (R408, R409, R412) -/

/-- SQ_RELEASE (R408, R412): the supervisor's write of HX_SQ_RELEASE; each bit starts a sequencer that is in RESET. -/
def State.sqRelease (s : State) (who : Party) (v : Nat) : State :=
  if who ≠ .supervisor then s
  else (List.range 16).foldl (fun s n => if bit v n ∧ s.sqState n = sqReset then s.sqStart n else s)
    (s.setFld F.HX_SQ_RELEASE_REL 0 (Nat.lor (s.fld F.HX_SQ_RELEASE_REL) (v % 65536)))

def execSqRelease (who : Party) (v : Word) (s : State) : Host.Outcome State Fault Refusal := .next (s.writeTo who 6 7 false (·.sqRelease who v.toNat))

/-- An OFFLINE bit of 1 is taken up in READY and BUSY, one of 0 in OFFLINE (R409). -/
def State.sqOfflineSeen (s : State) (n : Nat) : State :=
  let st := s.sqState n
  if s.flag F.HX_SQ_CTRL_OFFLINE n ∧ (st = sqReady ∨ st = sqBusy) then s.sqGo n sqDraining
  else if !s.flag F.HX_SQ_CTRL_OFFLINE n ∧ st = sqOffline then s.sqGo n sqReady
  else s

/-- SQ_INIT_DONE (R408): the scan ends; a parity error it met is a machine check. -/
def State.sqInitDone (s : State) (n : Nat) (err : Option ScanError) : State :=
  if s.sqState n ≠ sqInit then s
  else match err with
    | none => (s.sqGo n sqReady).sqOfflineSeen n
    | some e =>
      let w := Nat.xor (s.storeWord e.patch e.addr.val) e.bits.toNat
      let syn := paritySyndrome w
      let a := if e.patch then e.addr.val % 1024 else e.addr.val
      if syn = 0 then (s.sqGo n sqReady).sqOfflineSeen n
      else s.machineCheck n 0 { kind := 3, cause := if e.patch then 0x21 else 0x20, nspace := e.patch, upc := a, fspace := e.patch, faddr := a, word := w, syn := syn }

/-- A write of HX_SQ_CTRL.OFFLINE (R409, R410). -/
def State.sqOfflineWrite (s : State) (who : Party) (n : Nat) (b : Bool) : State :=
  if !s.manages who then s
  else
    let s1 := (s.put who F.HX_SQ_CTRL_OFFLINE n (b2n b)).sqOfflineSeen n
    if b then s1.lossOf n s else s1

def execSqOnline (who : Party) (sq : Fin 16) (s : State) : Host.Outcome State Fault Refusal :=
  .next (s.writeTo who 6 7 false (·.sqOfflineWrite who sq.val false))

/-- SQ_DRAINED (R409): no context is busy. -/
def execSqDrained (sq : Fin 16) (s : State) : Host.Outcome State Fault Refusal :=
  .next (s.when (s.sqState sq.val == sqDraining && s.busyCtx sq.val == 0) (·.sqGo sq.val sqOffline))

end Sys2Proof.Machine
end

