-- ==== Sys2Proof/Machine/Patches.lean ====
section
/-! DEFINITION. Microcode patch sets: their checks, loading at BOOT and in RUN (R398 to R402, R411 to R413). -/

namespace Sys2Proof.Machine

/-- RESULT values of R413. -/
def ucDone : Nat := 0
def ucBusy : Nat := 1
def ucState : Nat := 2
def ucSignature : Nat := 3
def ucFormat : Nat := 4
def ucRomMismatch : Nat := 5
def ucLevel : Nat := 6
def ucDrainTimeout : Nat := 7
def ucParity : Nat := 8

/-- A patch section read (R400): the set, or why it is refused; `none` where it is refused for a reserved field, for which no RESULT is stated. -/
def patchSection (rev : Nat) (bs : List Byte) : Except (Option Nat) PatchSet :=
  let nw := leAt bs 10 2
  let nm := leAt bs 12 1
  let entry (i : Nat) : Nat := leAt bs (64 + 8 * i) 4
  let es := (List.range nm).map entry
  let at' := 64 + 8 * nm
  let word (i : Nat) : Nat := leAt bs (at' + 32 * i) 18
  let ws := (List.range nw).map word
  if leAt bs 0 4 ≠ 0x54504355 ∨ leAt bs 4 2 ≠ 1 ∨ leAt bs 8 2 = 0 ∨ nw = 0 ∨ 1024 < nw ∨ 64 < nm ∨ bs.length < at' + 32 * nw then .error (some ucFormat)
  else if es.any (fun e => bits e 31 1 == 0 || decide (nw ≤ bits e 16 10)) ∨ (es.map (fun e => bits e 0 15)).eraseDups.length ≠ nm then .error (some ucFormat)
  else if ws.any (fun w => paritySyndrome w != 0) then .error (some ucFormat)
  else if !((bs.drop 13).take 51).all (· == 0) ∨ es.any (fun e => bits e 26 5 != 0 || bit e 15)
      ∨ (List.range nm).any (fun i => leAt bs (68 + 8 * i) 4 != 0) ∨ (List.range nw).any (fun i => leAt bs (at' + 32 * i + 18) 14 != 0) then .error none
  else if leAt bs 6 2 ≠ rev then .error (some ucRomMismatch)
  else .ok { level := leAt bs 8 2, words := ws, matches' := es }

/-- Put a patch set into the patch RAM and match registers of both halves (R398, R402). -/
def State.patchInstall (s : State) (p : PatchSet) : State :=
  let s := (s.withSq { s.sq with copy := p, patch := (p.words.zip (List.range 1024)).foldl (fun (m : Map Nat) (e : Nat × Nat) => Map.set 0 e.2 e.1 m) [] })
  let s := (List.range 64).foldl (fun s i =>
    let e := p.matches'.getD i 0
    ((s.setFld F.HX_SQ_PMATCH_VALID i (bits e 31 1)).setFld F.HX_SQ_PMATCH_PATCH_ADDR i (bits e 16 10)).setFld F.HX_SQ_PMATCH_ROM_ADDR i (bits e 0 15)) s
  (s.setFld F.HX_SQ_UCODE_VERSION_PATCH_LEVEL 0 p.level).setFld F.HX_SQ_UCODE_VERSION_NMATCH 0 p.matches'.length

/-- The patch section of a booted image is loaded before any sequencer is released (R402); with UNVERIFIED none is (R399). -/
def State.patchBoot (s : State) (bs : List Byte) : State :=
  if s.unverified then s
  else match patchSection (s.fld F.HX_SQ_UCODE_VERSION_ROM_REV) bs with
    | .ok p => s.patchInstall p
    | .error _ => s

/-- A patch load ends: RESULT, EV0031, IDLE. -/
def State.ucodeEnd (s : State) (result : Nat) : State :=
  let s := (s.setFld F.AO_UCODE_STATUS_RESULT 0 result).setFld F.AO_UCODE_STATUS_STATE 0 0
  (s.withSq { s.sq with load := none, loadM := [], loadPages := 0, writeBad := false }).raise 31 [.w result, .w (s.fld F.AO_UCODE_STATUS_SEQ)]

/-- STATE values of AO_UCODE_STATUS (R413). -/
def ucIdle : Nat := 0
def ucVerify : Nat := 1
def ucQuiesce : Nat := 2
def ucWrite : Nat := 3

/-- An image in the staging area whose header and signature hold (R182 SIGNATURE): its header and bytes. -/
def State.stagedImage (s : State) (pages : Nat) : Option (ImgHdr × List Byte) :=
  let bs := cellsRead s.staging 0 (4096 * pages)
  match parseHdr bs with
  | none => none
  | some h =>
    if bs.length < h.len + sigBlock ∨ s.unverified ∨ s.verifyImage h bs ≠ 0 then none else some (h, bs)

/-- UCODE_LOAD (R402 step 1). -/
def State.ucodeLoad (s : State) (pages : Nat) : State :=
  if s.fld F.AO_UCODE_STATUS_STATE ≠ ucIdle then
    (s.setFld F.AO_UCODE_STATUS_RESULT 0 ucBusy).raise 31 [.w ucBusy, .w (s.fld F.AO_UCODE_STATUS_SEQ)]
  else if s.mode ≠ .run then s.ucodeEnd ucState
  else ((s.bump F.AO_UCODE_STATUS_SEQ).setFld F.AO_UCODE_STATUS_STATE 0 ucVerify).withSq { s.sq with loadPages := pages }

/-- The image is verified and its patch section checked (R401, R402 step 2); dispatch is then held (step 3). -/
def State.ucodeVerify (s : State) (pages : Nat) : State :=
  if pages = 0 ∨ 4096 < pages then s.ucodeEnd ucFormat
  else match s.stagedImage pages with
    | none => s.ucodeEnd ucSignature
    | some (h, bs) =>
      match h.section? bs 3 with
      | none => s.ucodeEnd ucFormat
      | some sec =>
        match patchSection (s.fld F.HX_SQ_UCODE_VERSION_ROM_REV) sec with
        | .error (some r) => s.ucodeEnd r
        | .error none => s.drawn.ucodeEnd (1 + s.free % 255)
        | .ok p =>
          if p.level ≤ s.fld F.HX_SQ_UCODE_VERSION_PATCH_LEVEL then s.ucodeEnd ucLevel
          else ((s.setFld F.AO_UCODE_STATUS_STATE 0 ucQuiesce).withSq { s.sq with load := some p, loadM := imageM bs h.len })

def execUcodeLoad (who : Party) (pages : Fin 8192) (s : State) : Host.Outcome State Fault Refusal :=
  .next (s.when (s.admits who 0 3) (·.ucodeLoad pages.val))

/-- Every context of every sequencer has reached JOB_END, with no trap in progress (R402 step 4). -/
def State.sqQuiet (s : State) : Bool := s.sq.ctxs.all (fun e => e.2.job.isNone && e.2.trap.isNone)

/-- UCODE_QUIESCED (R402 steps 4 and 5): the copies are being written; `bad`: a word fails its read-back twice.  A fenced HX takes no write. -/
def State.ucodeQuiesced (s : State) (bad : Bool) : State :=
  if s.fld F.AO_UCODE_STATUS_STATE ≠ ucQuiesce ∨ !s.sqQuiet ∨ s.fenced 6 then s
  else (s.setFld F.AO_UCODE_STATUS_STATE 0 ucWrite).withSq { s.sq with writeBad := bad }

/-- Step 5 ends, and the load with step 6 (R402): the new set, or, after a second failure, the old one. -/
def State.ucodeWritten (s : State) : State :=
  match s.sq.load with
  | none => s
  | some p => if s.sq.writeBad then s.ucodeEnd ucParity else ((s.patchInstall p).measure s.sq.loadM).ucodeEnd ucDone

/-- What time does for a patch load (R402): an image in VERIFY is verified, a set in WRITE is written. -/
def State.ucodeTick (s : State) : State :=
  if s.fld F.AO_UCODE_STATUS_STATE = ucVerify then s.ucodeVerify s.sq.loadPages
  else if s.fld F.AO_UCODE_STATUS_STATE = ucWrite ∧ !s.fenced 6 then s.ucodeWritten
  else s

def execUcodeQuiesced (bad : Bool) (s : State) : Host.Outcome State Fault Refusal := .next (s.ucodeQuiesced bad)

/-- UCODE_DRAIN_TIMEOUT (R402 step 4). -/
def execUcodeDrainTimeout (s : State) : Host.Outcome State Fault Refusal :=
  .next (s.when (s.fld F.AO_UCODE_STATUS_STATE == 2) (·.ucodeEnd ucDrainTimeout))

/-- A module exit from RUN ends a patch load in steps 1 to 4 (R402); one in step 5 runs to its end. -/
def State.ucodeExit (s : State) : State :=
  if s.fld F.AO_UCODE_STATUS_STATE = ucIdle then s
  else if s.fld F.AO_UCODE_STATUS_STATE = ucWrite then s.ucodeWritten
  else s.ucodeEnd ucState

end Sys2Proof.Machine
end

