-- ==== Sys2Proof/Machine/Time.lean ====
section
/-! DEFINITION. The time base, its discipline, PPS, and the gating and waking of domains (R39 to R66). -/

namespace Sys2Proof.Machine

/-! ### Sync states (R48, R49) -/


def State.syncState (s : State) : Nat := s.fld F.AO_TB_STATUS_SYNC

/-- The stitch time master (R286): the lowest DEVID among the module and the MASTER values of its JOINED links' HELLOs. -/
def State.masterOf (s : State) : Nat :=
  ((List.range 8).filter (fun k => s.fld F.PD_STC_LINK_STATE k == stcJoined)).foldl (fun m k => min m (Map.get {} k s.stc.hellos).master) s.devid

/-- A link is JOINED. -/
def State.stitched (s : State) : Bool := (List.range 8).any (fun k => s.fld F.PD_STC_LINK_STATE k == stcJoined)

/-- MASTER_ELECTION, and the stitch time state shown (R286, R287): EV0016 on a change of either. -/
def State.masterShow (s : State) : State :=
  let m := s.masterOf
  let t := if s.stitched then s.fld F.AO_TB_STATUS_SYNC else 0
  if s.fld F.PD_STC_CTRL_MASTER = m ∧ s.fld F.PD_STC_CTRL_TIME_STATE = t then s
  else
    -- the count of close exchanges begins again under a new master (R287)
    let s := if s.fld F.PD_STC_CTRL_MASTER = m then s else s.withStc { s.stc with close := 0, waiting := false, missed := 0 }
    ((s.setFld F.PD_STC_CTRL_MASTER 0 m).setFld F.PD_STC_CTRL_TIME_STATE 0 t).raise 16 [.w m, .w t]

/-- MASTER as PD shows it after a reset: the module itself (R293). -/
def State.masterReset (s : State) : State := s.setFld F.PD_STC_CTRL_MASTER 0 (s.fld F.AO_DEVICE_ID_DEVID)

/-- The module disciplines its time base from a stitched master (R286). -/
def State.timeSlave (s : State) : Bool := s.flag F.AO_TB_CTRL_SERVO_EN && s.stitched && s.masterOf != s.devid

/-- Enter a sync state. -/
def State.syncGo (s : State) (st : Nat) : State := (((s.setFld F.AO_TB_STATUS_SYNC 0 st).raise 11 []).syncKeep).masterShow

/-- The answer to a REF_SEL change or a positive step over 1 ms (R48); the servo counts as active while SERVO_EN is 1 (DESIGN CHOICE, log entry 58). -/
def State.syncDrop (s : State) : State := s.syncGo (if s.flag F.AO_TB_CTRL_SERVO_EN then syncLocking else syncFree)

/-- REFCLK_LOST (R40). -/
def State.refclkLost (s : State) : State :=
  s.when (s.powered && s.fld F.AO_TB_CTRL_REF_SEL == 2 && s.fld F.AO_TB_STATUS_REF_ACTIVE == 1) (fun s =>
    (s.setFld F.AO_TB_STATUS_REF_ACTIVE 0 0).raise 10 [])

def execRefclkLost (s : State) : Host.Outcome State Fault Refusal := .next s.refclkLost

/-- A write of AO_TB_CTRL (R39, R40, R46, R52): the servo starts when it is given the time base.  The same REF_SEL written again returns to REFCLK_IN after a fall-back and is no REF_SEL change of R48 (DESIGN CHOICE, log entry 58). -/
def State.tbCtrlWrite (s : State) (who : Party) (v : Nat) : State :=
  let servo := s.flag F.AO_TB_CTRL_SERVO_EN
  let s := (s.lockCheck who 0x100008 F.AO_TB_CTRL_SERVO_EN).put who F.AO_TB_CTRL_SERVO_EN 0 (bits v 4 1)
  let s := if !servo ∧ s.flag F.AO_TB_CTRL_SERVO_EN ∧ s.syncState = syncFree then s.syncGo syncLocking else s
  let sel := bits v 0 2
  if sel = 3 then s
  else
    let changed := s.fld F.AO_TB_CTRL_REF_SEL ≠ sel
    let s := (s.put who F.AO_TB_CTRL_REF_SEL 0 sel).setFld F.AO_TB_STATUS_REF_ACTIVE 0 (if sel = 0 then 0 else 1)
    if changed then s.syncDrop else s

def execTbCtrlWrite (who : Party) (v : Word) (s : State) : Host.Outcome State Fault Refusal :=
  .next (s.when (s.admits who 0 1) (·.tbCtrlWrite who v.toNat))

/-- The party may discipline the time base (R46). -/
def State.disciplines (s : State) (who : Party) : Bool :=
  if s.flag F.AO_TB_CTRL_SERVO_EN then who == .supervisor else s.manages who

/-- One nanosecond in the unit of `TimeSt.frac`. -/
def nsUnit : Nat := 4096000000000

/-- The write of the high word of AO_TB_OFFSET applies the offset (R45, R54). -/
def State.tbOffset (s : State) (who : Party) (v : Nat) : State :=
  if !s.disciplines who then s
  else if v = 0 then
    if s.flag F.AO_TB_STATUS_SLEWING then ((s.setFld F.AO_TB_STATUS_SLEWING 0 0).withTime { s.time with slew := 0 }) else s
  else if v < 2 ^ 63 then
    let s := ((s.setFld F.AO_TB_STATUS_SLEWING 0 0).withTime { s.time with slew := 0, step := s.time.step + v })
    let s := s.raise 12 []
    if 1000000 < v then s.syncDrop else s
  else
    let m := 2 ^ 64 - v
    if 100000000 < m then s.raise 13 []
    else ((s.setFld F.AO_TB_STATUS_SLEWING 0 1).withTime { s.time with slew := m * nsUnit })

def execTbOffsetWrite (who : Party) (v : Dword) (s : State) : Host.Outcome State Fault Refusal :=
  .next (s.when (s.admits who 0 1) (·.tbOffset who v.toNat))

/-- SLEW_DONE: what was left of the offset has been absorbed. -/
def State.slewDone (s : State) : State :=
  s.when (s.flag F.AO_TB_STATUS_SLEWING) (fun s => ((s.setFld F.AO_TB_STATUS_SLEWING 0 0).withTime { s.time with slew := 0 }))

def execSlewDone (s : State) : Host.Outcome State Fault Refusal := .next s.slewDone

/-- A write of AO_TB_SYNC_SET (R48, R56).  Where the request is no transition of R48, its ERR_EST is taken for LOCKED written in LOCKED and dropped otherwise (DESIGN CHOICE, log entry 58). -/
def State.tbSyncSet (s : State) (who : Party) (v : Nat) : State :=
  let want := bits v 0 2
  let st := s.syncState
  if s.flag F.AO_TB_CTRL_SERVO_EN ∨ !s.manages who then s
  else if (want = syncLocking ∧ (st = syncFree ∨ st = syncHoldover)) ∨ (want = syncLocked ∧ st = syncLocking) then
    (s.setFld F.AO_TB_STATUS_ERR_EST 0 (bits v 12 20)).syncGo want
  else if want = syncLocked ∧ st = syncLocked then (s.setFld F.AO_TB_STATUS_ERR_EST 0 (bits v 12 20)).syncKeep
  else s

def execTbSyncSet (who : Party) (v : Word) (s : State) : Host.Outcome State Fault Refusal :=
  .next (s.when (s.admits who 0 1) (·.tbSyncSet who v.toNat))

/-- A PTP domain comes into use: up to four at once, and the first of them disciplines the time base (R47; which one is first is a DESIGN CHOICE, log entry 58). -/
def State.ptpDomain (s : State) (domain : Nat) : State :=
  if s.time.ptpDomains.contains domain ∨ 4 ≤ s.time.ptpDomains.length then s
  else s.withTime { s.time with ptpDomains := s.time.ptpDomains ++ [domain] }

/-- PTP_MESSAGE_RX: the servo has a message of its master in a domain; in the domain that disciplines the time base it starts, or sync resumes (R47, R48). -/
def State.ptpRx (s : State) (domain : Nat) : State :=
  s.when s.powered (fun s =>
    let s := s.ptpDomain domain
    s.when (s.flag F.AO_TB_CTRL_SERVO_EN && !s.timeSlave && s.time.ptpDomains.head? == some domain
      && (s.syncState == syncFree || s.syncState == syncHoldover)) (·.syncGo syncLocking))

def execPtpMessageRx (s : State) (domain : Fin 256 := 0) : Host.Outcome State Fault Refusal := .next (s.ptpRx domain.val)

/-- SYNC_LOCKED: the servo's offset has stayed within 100 ns; `err` is the bound it sets.  A stitch slave is disciplined by its master instead (R286). -/
def State.syncLock (s : State) (err : Nat) : State :=
  s.when (s.flag F.AO_TB_CTRL_SERVO_EN && !s.timeSlave && s.syncState == syncLocking) (fun s => (s.setFld F.AO_TB_STATUS_ERR_EST 0 err).syncGo syncLocked)

def execSyncLocked (err : Fin 1048576) (s : State) : Host.Outcome State Fault Refusal := .next (s.syncLock err.val)

/-- SYNC_HOLDOVER; a stitch slave loses sync by its unanswered exchanges only (R286, R287). -/
def State.syncHold (s : State) : State := s.when (s.syncState == syncLocked && !s.timeSlave) (·.syncGo syncHoldover)

def execSyncHoldover (s : State) : Host.Outcome State Fault Refusal := .next s.syncHold

/-- ERR_EST_TICK (R49). -/
def State.errTick (s : State) : State :=
  s.when (s.powered && (s.syncState == syncHoldover || s.syncState == syncFree)) (fun s => (s.bumpSat F.AO_TB_STATUS_ERR_EST).syncKeep)

def execErrEstTick (s : State) : Host.Outcome State Fault Refusal := .next s.errTick

def State.holdoverExpired (s : State) : State :=
  s.when (s.syncState == syncHoldover && decide (1000000 ≤ s.fld F.AO_TB_STATUS_ERR_EST)) (·.syncGo syncFree)

def execHoldoverExpired (s : State) : Host.Outcome State Fault Refusal := .next s.holdoverExpired

/-! ### PPS (R50, R51, R57) -/

/-- PPS_OUT rises; the level driven stands for the pulse's width in units of 10 us. -/
def State.ppsOut (s : State) : State :=
  s.when (s.powered && s.flag F.AO_PPS_CTRL_OUT_EN) (fun s => s.emit (.pin pinPpsOut (min (max (s.fld F.AO_PPS_CTRL_WIDTH) 1) 50000)))

def execPpsOutEdge (s : State) : Host.Outcome State Fault Refusal := .next s.ppsOut

def State.ppsIn (s : State) (rising : Bool) : State :=
  s.when (s.powered && s.flag F.AO_PPS_CTRL_IN_EN && rising != s.flag F.AO_PPS_CTRL_IN_POL) (fun s =>
    (s.setFld F.AO_PPS_IN_TS_TS 0 s.now).raise 14 [])

def execPpsInEdge (rising : Bool) (s : State) : Host.Outcome State Fault Refusal := .next (s.ppsIn rising)

def execPpsInMissing (s : State) : Host.Outcome State Fault Refusal :=
  .next (s.when (s.powered && s.flag F.AO_PPS_CTRL_IN_EN) (fun s => s.raise 15 []))

/-! ### The tick (R43, R45, R53) -/

/-- RATE as used: clamped to 500 ppm.  The field keeps and reads the value as written (DESIGN CHOICE, log entry 58). -/
def State.tbRate (s : State) : Int := max (-512000000) (min 512000000 (signed 32 (s.fld F.AO_TB_RATE_RATE)))

/-- The timing PLL runs (R41). -/
def State.tpll (s : State) : Bool :=
  match s.mode with | .boot | .run | .rideThrough | .safetyNet | .halt => true | _ => false

/-- The time base advances by `q` quarters of a nanosecond with the rate adjustment, 500 ppm slower while slewing, and by `step` ns (R43, R45). -/
def State.timePass (s : State) (q step : Nat) : State :=
  let spent := min s.time.slew (q * (nsUnit / 8000))
  let sum : Int := (s.time.frac + q * (nsUnit / 4) + step * nsUnit : Nat) + q * s.tbRate - spent
  let n := sum.toNat
  let s := (s.stallTick q).waitTick q
  let s := s.setFld F.AO_TB_NOW_NOW 0 (s.now + n / nsUnit)
  let s := if s.time.slew ≠ 0 ∧ s.time.slew = spent then s.setFld F.AO_TB_STATUS_SLEWING 0 0 else s
  (s.withTime { s.time with frac := n % nsUnit, slew := s.time.slew - spent })

/-- What an event has told of starts again: the drops of EV0664 (R248), a region's exceptions (R166). -/
def State.told (s : State) (ev : Nat) : State :=
  if ev = 664 then s.withFx { s.fx with dropQ := [], dropT := [] }
  else if ev % 128 = 18 ∧ 1 ≤ ev / 128 ∧ ev / 128 ≤ 4 then s.withProg { s.prog with excAt := s.prog.excAt.filter (fun x => x.1 / 16 != ev / 128) }
  else s

/-- The rests of limited events whose period has ended are reported (log entry 10). -/
def State.restsDue (s : State) : State :=
  (s.limits.filter (fun e => e.2.due != 0 && decide (e.2.due ≤ s.now + 1))).foldl (fun s e =>
    ((s.withLimits (Map.set {} e.1 { at' := s.now + 1 } s.limits)).raise (e.1 / 2 ^ 32) e.2.pay).told (e.1 / 2 ^ 32)) s

/-- 0.25 ns between two ticks (R35, R43). -/
def State.interpolate (s : State) : State :=
  let s := s.timePass 1 0
  (s.withTime { s.time with phase := s.time.phase + 1 })

/-- One 25 MHz tick: what is left of its 40 ns, and a step. -/
def State.tick (s : State) : State :=
  if !s.powered then s
  else
    let s := s.timePass (160 - s.time.phase) s.time.step
    (s.withTime { s.time with phase := 0, step := 0 }).restsDue

/-! ### Gating and waking (R58 to R65) -/

/-- WAKE_TRIGGER. -/
def execWakeTrigger (domain : Fin 96) (s : State) : Host.Outcome State Fault Refusal := .next (s.when s.inService (·.wake domain.val))

/-- WAKE_COMPLETE: `late` where the wake took longer than its figure. -/
def State.wakeComplete (s : State) (d : Nat) (late : Bool) : State :=
  s.when (s.power d == powWaking) (fun s =>
    let s := s.setPower d powOn
    if late then (s.setFlag F.AO_WAKE_STATUS_LATE d true).raise 20 [] else s)

def execWakeComplete (domain : Fin 96) (late : Bool) (s : State) : Host.Outcome State Fault Refusal := .next (s.wakeComplete domain.val late)

/-- Every link of a lane group's ports is down or in low-power idle. -/
def State.laneIdle (s : State) (d : Nat) : Bool :=
  (List.range 16).all (fun k =>
    let lp := 128 * (d / 11) + 16 * (d % 11) + k
    !s.lpUp lp || (s.flag F.PA_MAC_LINK_STATUS_TX_LPI lp && s.flag F.PA_MAC_LINK_STATUS_RX_LPI lp))

/-- The half's landing buffers and its region's recirculation port are empty, and no packet is in flight in it: none it has granted whose tail is still to come, none it sends whose tail is still to come (R58). -/
def State.halfIdle (s : State) (d : Nat) : Bool :=
  (halfPorts d).all (fun p => (s.lbHeld p).isEmpty) && (s.lbHeld (128 + 1 + d / 11)).isEmpty
    && s.fx.cuts.all (fun x => x.bytes.isNone || lpDomain x.lp != d)
    && s.fx.frames.all (fun e => match e.2 with | some f => f.tail || f.pkt.region == 0 || 512 ≤ f.pkt.ingress || lpDomain f.pkt.ingress != d | none => true)

/-- A domain other than a bank group may be power-gated now; the command says that it has been idle (R58). -/
def State.mayGate (s : State) (d : Nat) : Bool :=
  if d < 44 then
    if d % 11 < 8 then s.laneIdle d
    else if d % 11 < 10 then s.halfIdle d
    else (List.range 128).all (fun k => !s.lpUp (128 * (d / 11) + k))
  else decide (76 ≤ d ∧ d < 86) || decide (88 ≤ d)

/-- IDLE_GATE (R58, R65): power-gated where the class allows it and the policy is AUTO, else clock-gated; a bank group only once it drains (R241). -/
def State.idleGate (s : State) (d : Nat) : State :=
  s.when (s.inService && s.power d == powOn && !s.pinned d) (fun s =>
    if s.fld F.AO_WAKE_POLICY_MODE d = 0 ∧ 44 ≤ d ∧ d < 60 ∧ s.bgDraining (d - 44) then s.bgDrained (d - 44)
    else if s.fld F.AO_WAKE_POLICY_MODE d = 0 ∧ s.mayGate d then s.setPower d powGated
    else s.setPower d powClock)

def execIdleGate (domain : Fin 96) (s : State) : Host.Outcome State Fault Refusal := .next (s.idleGate domain.val)

/-- PLANNED_WAKE (R61): WAKE_LEAD before a window of a port's classes 12 to 15 opens, in the operative list or in one that is to become so, the halves it needs are woken and held. -/
def State.plannedWake (s : State) (lp : Nat) : State :=
  s.when (s.inService && ((s.operList lp).isSome || (s.flag F.FX_TM_GATE_CFG_PEND lp && s.flag F.FX_TM_GATE_CFG_ADMIN_EN lp)) && !s.windows.contains lp)
    (fun s => (s.withTime { s.time with plan := s.time.plan ++ [lp] }).wakeHalves)

def execPlannedWake (lp : Fin 512) (s : State) : Host.Outcome State Fault Refusal := .next (s.plannedWake lp.val)

end Sys2Proof.Machine
end

