-- ==== Sys2Proof/Machine/Energy.lean ====
section
/-! DEFINITION. The supply monitor, the hold-up reserve, held-off domains, and the energy ledger (R508 to R560). -/

namespace Sys2Proof.Machine

/-! ### The calibration set (R617) -/

/-- A value of the current calibration set. -/
def State.calVal (s : State) (sec ix : Nat) : Option Nat :=
  match Map.get 0 (65536 * sec + ix) s.cal.vals with
  | 0 => none
  | v + 1 => some v

/-! ### Thresholds and the reserve (R521, R529, R530) -/

/-- Millivolts of a threshold field. -/
def State.vHold (s : State) : Nat := 25 * s.fld F.AO_SUP_CFG_VHOLD
def State.vFloor (s : State) : Nat := 25 * s.fld F.AO_SUP_CFG_VFLOOR
def State.iCap (s : State) : Nat := min (max (s.fld F.AO_SUP_LIM_I_CAP) 20) 150

/-- RESERVE in uJ at a bank voltage in mV. -/
def State.reserveAt (s : State) (v : Nat) : Nat :=
  s.fld F.AO_SUP_CAP_C_USED * (32 - max (s.fld F.AO_SUP_LIM_DERATE) 1) * (v * v - s.vFloor * s.vFloor) / 64000000 - 5000

/-- V_BANK. -/
def State.vBank (s : State) : Nat := min (s.fld F.AO_SUP_VIN_VIN_MV) (s.fld F.AO_SUP_VIN_BANK_MV)

/-- CERT_FRAC as used (R555). -/
def State.certFrac (s : State) : Nat := let v := s.fld F.AO_LED_CFG_CERT_FRAC; if v = 0 then 64 else max v 8

/-- The ledger certifies and keeps its figures from BOOT until HALT or OFF; energy is counted while AO has power (R554). -/
def State.ledgerOn (s : State) : Bool := s.mode == .boot || s.inService || s.mode == .vault || s.mode == .safetyNet

/-- CERT_BASIS and CERT_LIMIT (R550); a capacitance test lowers the voltage they go by (R523). -/
def State.certLimit (s : State) : State :=
  let reserve := if s.flag F.AO_SUP_STATUS_TESTING then s.reserveAt (s.vBank - 600) else s.reserveAt s.vBank
  let basis := reserve * s.certFrac / 64
  let lim := (basis - s.fld F.AO_LED_VMODEL_VAULT_BASE) * 100 / max (s.fld F.AO_LED_VMODEL_E_REC) 1
  ((s.setFld F.AO_LED_STATUS_CERT_BASIS 0 basis).setFld F.AO_LED_STATUS_CERT_LIMIT 0 (min lim (min 4128768 s.cacheBlocks))).certHold

/-! ### Capacitance tests (R522, R523, R672) -/

/-- The level at which the module drives GPIOn, if it drives the pin (R672). -/
def State.gpioLevel (s : State) (n : Nat) : Option Bool :=
  let out := s.flag F.AO_PKG_GPIO_OUT n
  if s.fld F.AO_PKG_GPIO_FUNC n = 1 then some s.pkg.iso
  else if s.flag F.AO_PKG_GPIO_OE n && !(s.flag F.AO_PKG_GPIO_OD n && out) then some out else none

/-- The level at GPIOn: the one that the module drives, or else the one outside. -/
def State.gpioPin (s : State) (n : Nat) : Bool := (s.gpioLevel n).getD (s.flag F.AO_PKG_GPIO_IN n)

/-- What a change from `old` to `s` shows on GPIOn: a new driven level, and EV0100 where EDGE asks for the edge (R672). -/
def State.gpioSeen (s old : State) (n : Nat) : State :=
  let level := s.gpioPin n
  let edge := level != old.gpioPin n && bit (s.fld F.AO_PKG_GPIO_EDGE n) (if level then 0 else 1)
  let s := match s.gpioLevel n with
    | some b => if old.gpioLevel n = some b then s else s.emit (.pin (pinGpio n) (b2n b))
    | none => s
  if edge then s.limitedBy 1000 100 n 1 (fun _ => [.w n, .w (b2n level)]) false else s

/-- HOLDUP_ISO on GPIO15. -/
def State.setIso (s : State) (b : Bool) : State :=
  if s.pkg.iso = b then s
  else ((s.withPkg { s.pkg with iso := b }).setFlag F.AO_SUP_STATUS_ISO 0 b).gpioSeen s 15

/-- The end of a test, with its RESULT. -/
def State.capEnd (s : State) (result c : Nat) : State :=
  let s := ((s.setIso false).setFlag F.AO_SUP_STATUS_TESTING 0 false).setFld F.AO_SUP_CAPTEST_RESULT 0 result
  let s := if result = 2 then s.bump F.AO_SUP_STAT_COUNT 7 else s
  (if s.ledgerOn then s.certLimit else s).raise 41 [.w result, .w c]

/-- A sag, a low supply or a change of module state aborts a test in progress. -/
def State.capAbort (s : State) : State := if s.flag F.AO_SUP_STATUS_TESTING then s.capEnd 2 0 else s

/-- A test becomes due: it starts, is deferred, or ends at once where GPIO15 is not HOLDUP_ISO. -/
def State.capStart (s : State) : State :=
  if !s.flag F.AO_SUP_LIM_TEST_EN ∨ s.flag F.AO_SUP_STATUS_TESTING then s
  else if s.mode ≠ .run ∨ s.fld F.AO_SUP_VIN_VIN_MV < s.vHold + 1000 ∨ s.reserveAt (s.vBank - 600) < s.fld F.AO_LED_STATUS_DIRTY_REQ then
    s.setFld F.AO_SUP_CAPTEST_RESULT 0 4
  else
    let s := s.bump F.AO_SUP_STAT_COUNT 6
    if s.fld F.AO_PKG_GPIO_FUNC 15 ≠ 1 then s.capEnd 2 0
    else ((s.setFlag F.AO_SUP_STATUS_TESTING 0 true).setIso true).certLimit

def execCaptestStart (who : Party) (s : State) : Host.Outcome State Fault Refusal := .next (s.when (s.admits who 0 4) (·.capStart))
def execCaptestTimer (s : State) : Host.Outcome State Fault Refusal := .next (s.when s.powered (·.capStart))

/-- A measured capacitance replaces or raises C_USED (R522). -/
def State.capApply (s : State) (c : Nat) : State :=
  let used := s.fld F.AO_SUP_CAP_C_USED
  let s := (s.setFld F.AO_SUP_CAP_C_USED 0 (if c < used then c else min c (used * 102 / 100))).setFlag F.AO_SUP_STATUS_CAP_SRC 0 true
  match s.calVal 6 0 with
  | some v =>
    if c * 100 < 80 * v then
      ((s.setFlag F.AO_SUP_STATUS_BANK_LOW 0 true).condition 0x0403 0 []).raise 42 [.w (s.fld F.AO_SUP_CAP_C_USED), .w v]
    else s
  | none => s

/-- CAPTEST_DONE: the two voltages in mV and the energy in uJ. -/
def State.capDone (s : State) (v1 v2 e : Nat) : State :=
  s.when (s.flag F.AO_SUP_STATUS_TESTING) (fun s =>
    if v1 < v2 + 50 then s.capEnd 3 0
    else
      let c := 2000000 * e / (v1 * v1 - v2 * v2)
      (s.capApply c).capEnd 1 c)

def execCaptestDone (v1 v2 : Fin 65536) (energy : Word) (s : State) : Host.Outcome State Fault Refusal := .next (s.capDone v1.val v2.val energy.toNat)

/-! ### The 1 us sample (R510, R511, R513, R521, R537, R550) -/

/-- Input energy of a sample in pJ: mV x mA x 1 us. -/
def State.addEnergy (s : State) (pj : Nat) : State :=
  let sum := s.led.rest + pj
  ((s.bump F.AO_LED_STATUS_E_IN 0 (sum / 1000000)).withLed { s.led with rest := sum % 1000000, ms := s.led.ms + pj })

/-- The voltage, in mV, at which a sag ends once DWELL has passed (R517, R530). -/
def State.vBack (s : State) : Nat := s.vHold + 25 * max (s.fld F.AO_SUP_LIM_HYST) 4

/-- A reading with its gain of section 3, in 2^-20, at most `top`; as it is where the calibration set has none (R617). -/
def State.metered (s : State) (k top n : Nat) : Nat :=
  match s.calVal 3 k with
  | some g => min (n * g / 2 ^ 20) top
  | none => n

/-- The input current with its gain and offset (R617). -/
def State.meteredIin (s : State) (n : Nat) : Nat :=
  let off : Int := match s.calVal 3 3 with | some v => signed 32 v | none => 0
  min ((s.metered 2 262143 n : Int) + off).toNat 262143

/-- The sample, but for the thresholds that change the module state. -/
def State.sample (s : State) (vin bank iin : Nat) : State :=
  let s := ((s.setFld F.AO_SUP_VIN_VIN_MV 0 vin).setFld F.AO_SUP_VIN_BANK_MV 0 bank).setFld F.AO_SUP_IIN_IIN_MA 0 iin
  let s := s.setFlag F.AO_SUP_STATUS_BELOW_VHOLD 0 (decide (vin < s.vHold))
  let s := (s.withPkg { s.pkg with dwell := if s.vBack ≤ vin then some (s.pkg.dwell.getD s.now) else none,
                                        sagged := s.pkg.sagged && decide (vin < s.vHold),
                                        deep := s.pkg.deep && decide (vin < 25 * s.fld F.AO_SUP_CFG_VVAULT) })
  let s := if vin ≤ 18000 then s.setFlag F.AO_SUP_STATUS_OV 0 false else s
  let s := if s.flag F.AO_SUP_STATUS_BACKSTOP then s.bump F.AO_SUP_STAT_COUNT 5 else s
  let s := if vin < s.vHold + 500 then s.capAbort else s
  let s := s.setFld F.AO_SUP_RESERVE_RESERVE 0 (s.reserveAt s.vBank)
  let s := s.addEnergy (vin * iin)
  let s := if s.ledgerOn then s.certLimit else s
  s.pins

/-- RESERVE has fallen to the dirty requirement (R514). -/
def State.atDirty (s : State) : Bool :=
  s.inService && decide (0 < s.nCert) && decide (s.fld F.AO_SUP_RESERVE_RESERVE ≤ s.fld F.AO_LED_STATUS_DIRTY_REQ)

/-! ### Disturbances (R511, R513) -/

def State.backstop (s : State) (on : Bool) : State :=
  s.when (s.powered && s.flag F.AO_SUP_STATUS_BACKSTOP != on) (fun s =>
    ((s.setFlag F.AO_SUP_STATUS_BACKSTOP 0 on).raise 45 [.w (s.fld F.AO_SUP_IIN_IIN_MA), .w (b2n on)]).pins.showClocks)

def execBackstop (s : State) : Host.Outcome State Fault Refusal := .next (s.backstop true)
def execBackstopRelease (s : State) : Host.Outcome State Fault Refusal := .next (s.backstop false)

/-- OVERVOLTAGE; `duration` in us. -/
def State.overvoltage (s : State) (duration : Nat) : State :=
  s.when (s.powered && !s.flag F.AO_SUP_STATUS_OV) (fun s =>
    let s := (s.setFlag F.AO_SUP_STATUS_OV 0 true).bump F.AO_SUP_STAT_COUNT 4
    (s.raise 40 [.w 4, .w (s.fld F.AO_SUP_VIN_VIN_MV), .w duration]).pins)

def execOvervoltage (duration : Word) (s : State) : Host.Outcome State Fault Refusal := .next (s.overvoltage duration.toNat)

/-- FLICKER: a window ends; `lowest` is the lowest VIN of it in mV. -/
def State.flicker (s : State) (low : Nat) : State :=
  s.when (s.powered && decide (s.vHold ≤ low)) (fun s =>
    (s.bump F.AO_SUP_STAT_COUNT 0).limitedBy 1000000000 40 0 1 (fun _ => [.w 0, .w low, .w 10000]) false)

def execFlicker (lowest : Fin 65536) (s : State) : Host.Outcome State Fault Refusal := .next (s.flicker lowest.val)

/-! ### Held-off domains (R526, R527) -/

/-- No sub-port of front ports `p` to `p + n - 1` is enabled. -/
def State.portsOff (s : State) (p n : Nat) : Bool := (List.range (4 * n)).all (fun k => !s.flag F.PA_MAC_SUBPORT_CFG_EN (4 * p + k))

/-- The condition under which FORCE_OFF of a domain is accepted (R526). -/
def State.mayForce (s : State) (d : Nat) : Bool :=
  if d < 44 then
    let r := d / 11
    let g := d % 11
    if g < 8 then s.portsOff (32 * r + 4 * g) 4
    else if g < 10 then s.portsOff (32 * r + 16 * (g - 8)) 16 && !s.pinned d
    else s.portsOff (32 * r) 32 && s.forcedOff (11 * r + 8) && s.forcedOff (11 * r + 9)
  else if d < 60 then decide (((List.range 16).filter (fun g => s.forcedOff (bgDomain g))).length < 8)
  else if d = 65 then (List.range 2).all (fun k => s.fld F.HX_PCIE_LINK_STATUS_STATE (2 + k) == 0)
  else if d = 66 ∨ d = 67 then (List.range 4).all (fun k => s.fld F.HX_RP_SUBLINK_STATUS_STATE (4 * (d - 66) + k) == 0)
  else if 76 ≤ d ∧ d < 84 then
    let k := d - 76
    let fi := clusterFi k
    (bits (s.fld F.CX_CORE_RELEASE_REL) (4 * k) 4 == 0 || s.power d != powOn)
      && !(s.listed F.HX_RING_STATUS_STATE).any (fun r => s.committed fi && inRange r (s.fld F.HX_FN_REC_RING_BASE fi) (s.fld F.HX_FN_REC_RING_COUNT fi)
            && s.ringLive r)
  else d == 87 && s.fld F.AO_DBG_STATUS_SCOPE == 0

/-- FORCE_OFF written 1. -/
def State.forceOff (s : State) (who : Party) (d : Nat) : State :=
  if s.mayForce d then
    let s := s.put who F.AO_PD_CTRL_FORCE_OFF d 1
    if 44 ≤ d ∧ d < 60 then (s.setFlag F.FX_BUF_BG_STATUS_DRAINING (d - 44) true).bgDrained (d - 44)
    else s.setPower d powGated
  else (s.setFlag F.AO_PD_CTRL_REFUSED d true).raise 44 [.w d]

def execForceOff (who : Party) (domain : Fin 96) (s : State) : Host.Outcome State Fault Refusal :=
  .next (s.when (s.admits who 0 5) (·.forceOff who domain.val))

/-- FORCE_OFF written 0. -/
def State.forceRelease (s : State) (who : Party) (d : Nat) : State := s.put who F.AO_PD_CTRL_FORCE_OFF d 0

def execForceOffRelease (who : Party) (domain : Fin 96) (s : State) : Host.Outcome State Fault Refusal :=
  .next (s.when (s.admits who 0 5) (·.forceRelease who domain.val))

/-! ### Accounts (R539 to R542, R552) -/

/-- The account of a share (R540). -/
def State.accountOf (s : State) : EnergySource → Nat
  | .frame lp => s.oper F.AO_LED_LP_EA_EA lp.val
  | .record fi => if s.committed fi.val then s.fld F.HX_FN_REC_EA fi.val else 0
  | .domain d => s.oper F.AO_LED_PD_EA_EA d.val
  | .ao => 0

/-- A coefficient of a domain's energy model, 0 where the calibration set has none (R617). -/
def State.energyCoef (s : State) (d k : Nat) : Nat := (s.calVal 4 (16 * d + k)).getD 0

/-- The junction sensor nearest to a domain (R538, R668): a cluster and a stack have one of their own. -/
def nearestSensor (d : Nat) : Nat :=
  if d < 44 then 2 + 6 * (d / 11) + Config.nearSensor d % 6
  else if d < 64 then 26 + Config.nearSensor d % 6
  else if d < 76 then 32 + Config.nearSensor d % 4
  else if d < 84 then 36 + (d - 76)
  else if d < 88 then 36 + Config.nearSensor d % 8
  else 44 + (d - 88) / 2

/-- The static part of a domain's modelled energy (R538). -/
def State.staticPart (s : State) (d : Nat) : Nat :=
  Config.staticEnergy (s.energyCoef d 0) (s.energyCoef d 1) (s.power d) (s.fld F.AO_PKG_TEMP_TEMP (nearestSensor d)) (s.fld F.AO_TR_REGION_TRIM (domainRegion d))

/-- Counts times coefficients, from coefficient `k` on. -/
def State.activityPart (s : State) (d k : Nat) : List Nat → Nat
  | [] => 0
  | n :: ns => n * s.energyCoef d k + s.activityPart d (k + 1) ns

/-- The modelled energy of the millisecond, share by share (R538): the static part of every domain, AO's, and the activity that each domain has counted. -/
def State.energyModel (s : State) (acts : List EnergyShare) : List (EnergySource × Nat) :=
  (EnergySource.ao, Config.aoEnergy) :: ((List.finRange 96).map (fun d => (EnergySource.domain d, s.staticPart d.val)))
    ++ acts.map (fun x => (x.source, s.activityPart x.domain.val 2 (x.counts.take 8)))

/-- The accounts, each with its charge in pJ: the input energy `e` split in proportion to the model's shares, without remainder (R539). -/
def State.split (s : State) (e total : Nat) (before : Nat) : List (EnergySource × Nat) → List (Nat × Nat)
  | [] => []
  | x :: xs =>
    let upto := before + x.2
    (s.accountOf x.1, e * upto / total - e * before / total) :: s.split e total upto xs

/-- Charge of one account. -/
def chargeOf (a : Nat) (l : List (Nat × Nat)) : Nat := l.foldl (fun n x => if x.1 = a then n + x.2 else n) 0

/-- Mean power of an account over 10 ms, as its energy in pJ. -/
def State.mean10 (s : State) (a : Nat) : Nat := (Map.get [] a s.led.window).foldl (· + ·) 0

/-- The limits of an account in force (R541): 0 for none. -/
def State.ceiling (s : State) (a : Nat) : Nat := if s.oper F.AO_LED_EA_EN a = 1 then s.oper F.AO_LED_EA_CEIL a else 0
def State.budget (s : State) (a : Nat) : Nat := if s.oper F.AO_LED_EA_EN a = 1 then s.oper F.AO_LED_EA_BUDGET a else 0

/-- The 10 ms mean exceeds CEIL: 0.1 W for 10 ms is 10^9 pJ. -/
def State.overCeil (s : State) (a : Nat) : Bool := decide (s.ceiling a ≠ 0) && decide (s.ceiling a * 1000000000 < s.mean10 a)
def State.overBudget (s : State) (a : Nat) : Bool := decide (s.budget a ≠ 0) && decide (s.budget a ≤ s.fld F.AO_LED_EA_USED a)

/-- Show the flags of an account (R558, R560). -/
def State.showFlags (s : State) (a : Nat) : State :=
  let c := s.overCeil a
  let b := s.overBudget a
  if s.flag F.AO_LED_EA_OVER_CEIL a = c ∧ s.flag F.AO_LED_EA_OVER_BUDGET a = b then s
  else ((s.setFlag F.AO_LED_EA_OVER_CEIL a c).setFlag F.AO_LED_EA_OVER_BUDGET a b).raise 50 [.w a, .w (2 * b2n c + b2n b)]

/-- Why an account stays over its limit (R552). -/
def State.overCause (s : State) (a : Nat) : Nat :=
  let mine (p : Nat → Bool) : Bool := (List.range 96).any (fun d => decide (s.oper F.AO_LED_PD_EA_EA d = a) && p d)
  if mine (fun d => isHalf d && s.planned d) then 1
  else if a = 0 && s.led.zeroed then 3
  else if s.mode = .rideThrough ∧ 0 < s.nCert then 2
  else if mine (fun d => s.power d == powWaking) then 4
  else 5

/-- The yield code of a cause (R552), 0 for none. -/
def yieldOf (cause : Nat) : Nat := if cause = 1 then 0x9D else if cause = 2 then 0x95 else if cause = 3 then 0x8D else 0

/-- Report a yield of an account (R552, R553). -/
def State.ledYield (s : State) (a code cause uj : Nat) : State :=
  let s := if code = 0 then s else s.violate (0x0600 + code) a 0 []
  s.limited 53 (256 * a + if cause < 0xAE then 0 else cause) uj (fun n => [.w a, .w cause, .w n])

/-- The excess of an account that THR 15 does not hold (R545, R552); `pj` is its charge of the millisecond. -/
def State.overrun (s : State) (a pj : Nat) : State :=
  if s.fld F.AO_LED_EA_THR a < 15 ∨ !(s.overCeil a || s.overBudget a) then s
  else
    let byCeil := if s.overCeil a then pj - s.ceiling a * 100000000 else 0
    let byBudget := if s.overBudget a then min pj ((s.fld F.AO_LED_EA_USED a - s.budget a) * 1000000) else 0
    let sum := Map.get 0 a s.led.overs + max byCeil byBudget
    let cause := s.overCause a
    let s := (s.bump F.AO_LED_EA_OVERRUN a (sum / 1000000)).setFld F.AO_LED_EA_LAST_CAUSE a cause
    let s := (s.withLed { s.led with overs := Map.set 0 a (sum % 1000000) s.led.overs })
    s.ledYield a (yieldOf cause) cause (sum / 1000000)

/-- Charge an account for the millisecond. -/
def State.charge (s : State) (a pj : Nat) : State :=
  let sum := Map.get 0 a s.led.rests + pj
  let w := (pj :: Map.get [] a s.led.window).take 10
  let w := if w.all (· == 0) then [] else w
  let s := (s.bump F.AO_LED_EA_USED a (sum / 1000000)).bump F.AO_LED_EA_TOTAL a (sum / 1000000)
  let s := (s.withLed { s.led with rests := Map.set 0 a (sum % 1000000) s.led.rests, window := Map.set [] a w s.led.window })
  (s.showFlags a).overrun a pj

/-- Model drift (R539); `e` measured, `total` modelled. -/
def State.driftCheck (s : State) (e total : Nat) : State :=
  let out := decide (e * 100 < 80 * total) || decide (125 * total < e * 100)
  let close := decide (90 * total ≤ e * 100) && decide (e * 100 ≤ 110 * total)
  let s := (s.withLed { s.led with drift := if out then s.led.drift + 1 else 0, calm := if close then s.led.calm + 1 else 0 })
  if s.led.drift = 100 ∧ !s.flag F.AO_LED_STATUS_MODEL_DRIFT then
    ((s.setFlag F.AO_LED_STATUS_MODEL_DRIFT 0 true).condition 0x0601 0 []).raise 55 [.w (e * 1024 / total)]
  else if s.led.calm = 1000 then s.setFlag F.AO_LED_STATUS_MODEL_DRIFT 0 false
  else s

/-- LEDGER_MS_CLOSE (R538 to R540): `acts` is the activity of the millisecond. -/
def State.msClose (s : State) (acts : List EnergyShare) : State :=
  s.when s.powered (fun s =>
    let e := s.led.ms
    let model := s.energyModel acts
    let total := model.foldl (fun n x => n + x.2) 0
    let parts := if s.mode = .vault ∨ total = 0 then [(0, e)] else s.split e total 0 model
    let s := (s.withLed { s.led with ms := 0, last := e })
    let s := if total = 0 then s else s.driftCheck e total
    let s := (List.range 256).foldl (fun s a =>
      let c := chargeOf a parts
      if c = 0 ∧ (Map.get [] a s.led.window).isEmpty then s else s.charge a c) s
    (s.withLed { s.led with zeroed := false }))

def execLedgerMsClose (acts : List EnergyShare) (s : State) : Host.Outcome State Fault Refusal := .next (s.msClose acts)

/-- A new period of an account. -/
def State.newPeriod (s : State) (a : Nat) : State := (s.setFld F.AO_LED_EA_USED a 0).showFlags a

/-- When the period of an account ends: PERIOD seconds after it began, 0 acting as 1 (R541, R558). -/
def State.periodOver (s : State) (a : Nat) : Nat := Map.get 0 a s.led.since + max (s.oper F.AO_LED_EA_PERIOD a) 1 * 1000000000

/-- ACCOUNT_PERIOD_END (R541): the next period begins at the boundary. -/
def State.periodEnd (s : State) (a : Nat) : State :=
  s.when (s.powered && s.oper F.AO_LED_EA_EN a == 1 && decide (s.periodOver a ≤ s.now)) (fun s =>
    ((s.withLed { s.led with since := Map.set 0 a (s.periodOver a) s.led.since }).raise 51 [.w a, .d (s.fld F.AO_LED_EA_USED a)]).newPeriod a)

def execAccountPeriodEnd (account : Fin 256) (s : State) : Host.Outcome State Fault Refusal := .next (s.periodEnd account.val)

/-! ### The planner (R542 to R548, R553, R559) -/

/-- The settings taken over at a planner run. -/
def operFields : List Fld :=
  [F.AO_LED_EA_EN, F.AO_LED_EA_BE_CLASSES, F.AO_LED_EA_CEIL, F.AO_LED_EA_PERIOD, F.AO_LED_EA_BUDGET, F.AO_LED_LP_EA_EA, F.AO_LED_PD_EA_EA]

/-- Writes since the last run take effect; a changed PERIOD starts a new period, and the enable of an account its first boundary. -/
def State.takeOver (s : State) : State :=
  let changed := (List.range 256).filter (fun a => s.oper F.AO_LED_EA_PERIOD a != s.fld F.AO_LED_EA_PERIOD a)
  let begun := (List.range 256).filter (fun a => changed.contains a || (s.oper F.AO_LED_EA_EN a == 0 && s.flag F.AO_LED_EA_EN a))
  let s := (s.withLed { s.led with since := begun.foldl (fun m a => Map.set 0 a s.now m) s.led.since })
  let s := (s.withLed { s.led with oper := operFields.foldl (fun m f => Map.set [] f.id (Map.get [] f.id s.regs) m) s.led.oper })
  changed.foldl State.newPeriod s

/-- The account has queues that may be throttled. -/
def State.lpLever (s : State) (a : Nat) : Bool :=
  decide (s.oper F.AO_LED_EA_BE_CLASSES a ≠ 0) && (List.range 541).any (fun lp => s.oper F.AO_LED_LP_EA_EA lp == a)

/-- The account has a lever of R544. -/
def State.lever (s : State) (a : Nat) : Bool :=
  s.lpLever a || s.holders.any (fun fi => s.fld F.HX_FN_REC_EA fi == a)
    || (List.range 96).any (fun d => s.oper F.AO_LED_PD_EA_EA d == a && s.power d == powGated)

/-- The next level of R543. -/
def State.nextOwn (s : State) (a : Nat) : Nat :=
  let own := Map.get 0 a s.led.own
  if s.oper F.AO_LED_EA_EN a = 0 then 0
  else if s.overCeil a ∨ s.overBudget a then min (own + 1) 15
  else if (s.ceiling a = 0 ∨ s.mean10 a * 10 < s.ceiling a * 9000000000) ∧ !s.overBudget a then own - 1
  else own

/-- The next rise under R546: `p` is P_CAP for a millisecond in pJ. -/
def nextCap (cap last p : Nat) : Nat :=
  if 97 * p < 100 * last then min (cap + 1) 15
  else if cap ≠ 0 ∧ 90 * p ≤ 100 * last then min (cap + 1) 15
  else 0

/-- Set the throttle level of an account, with what it now holds back reported. -/
def State.setThr (s : State) (a : Nat) : State :=
  let own := s.nextOwn a
  let lever := s.lever a
  let thr := if lever then min (own + s.led.cap) 15 else own
  let thr := if s.mode = .rideThrough ∧ lever then max thr (s.fld F.AO_LED_CFG_RT_THR) else thr
  let s := (s.withLed { s.led with own := Map.set 0 a own s.led.own })
  let s := s.setFld F.AO_LED_EA_THR a thr
  let s := if 0 < thr ∧ s.lpLever a then s.ledYield a 0xAE 0xAE 0 else s
  if 0 < own ∧ s.ceiling a ≠ 0 then s.ledYield a 0xAF 0xAF 0 else s

/-- Settle every queue's credit at the rate in force before it changes. -/
def State.settleCredits (s : State) : State :=
  (s.tm.credit.map (·.1)).foldl (fun s k => if k < 8656 then s.setCredit k (s.queueCredit k) else s) s

/-- BANK_GROUP_DRAIN (R241, R547): the highest awake group drains where the rest still meet the rule. -/
def State.bankDrain (s : State) : State :=
  match ((List.range 16).filter (fun g => s.bgAwake g && !s.bgDraining g && !s.forcedOff (bgDomain g) && s.fld F.AO_WAKE_POLICY_MODE (bgDomain g) == 0)).getLast? with
  | some g =>
    let s' := s.setFlag F.FX_BUF_BG_STATUS_DRAINING g true
    if s'.bgShort then s else s'
  | none => s

/-- PLANNER_RUN.  A capacitance test freezes the plan (R523). -/
def State.plannerRun (s : State) : State :=
  s.when (s.mode == .boot || s.inService || s.mode == .safetyNet) (fun s =>
    let s := s.takeOver
    if s.flag F.AO_SUP_STATUS_TESTING then s
    else
      let s := s.settleCredits
      let s := (s.withLed { s.led with cap := nextCap s.led.cap s.led.last (s.fld F.AO_SUP_VIN_VIN_MV * s.iCap * 1000000) })
      let s := ((List.range 256).foldl State.setThr s).showClocks
      if s.inService then s.bankDrain else s)

def execPlannerRun (s : State) : Host.Outcome State Fault Refusal := .next s.plannerRun

/-! ### Keeping the totals (R554) -/

/-- LEDGER_COPY: E_IN, TOTAL and USED to AO-reserved HBM. -/
def State.ledgerCopy (s : State) : State :=
  s.when s.ringUp (fun s =>
    let c := s.fld F.AO_LED_STATUS_E_IN ::
      (List.range 256).flatMap (fun a => [s.fld F.AO_LED_EA_TOTAL a, s.fld F.AO_LED_EA_USED a])
    (s.withLed { s.led with copy := c }))

def execLedgerCopy (s : State) : Host.Outcome State Fault Refusal := .next s.ledgerCopy

/-- An ENERGY_SNAP entry from the copy (R554, R608). -/
def State.energySnap (s : State) : State :=
  let c := if s.led.copy.isEmpty then List.replicate 513 0 else s.led.copy
  s.logEntry 6 0 0 1 (c.flatMap (fun v => [v % 2 ^ 32, v / 2 ^ 32]))

def execEnergySnap (s : State) : Host.Outcome State Fault Refusal := .next (s.when s.ledgerOn (·.energySnap))

end Sys2Proof.Machine
end

