-- ==== Sys2Proof/Machine/Stitch.lean ====
section
/-! DEFINITION. Table definitions, and modules stitched together: links, neighbours, routes, data, learning and time (R201, R202, R274 to R297). -/

namespace Sys2Proof.Machine

/-! ### Table definitions (R201, R202) -/

/-- Region, pipeline and bank of a cell bank's index. -/
def bankPlace (b : Nat) : Nat × Nat × Nat :=
  let page := b / 2 % 256
  (1 + b / 512, (if page < 160 then page / 20 else 8 + (page - 160) / 12), b % 2)

/-- A table is bound by a current bank, or by a bank of a load in hand. -/
def State.tblBound (s : State) (t : Nat) : Bool :=
  s.prog.cells.any (fun e =>
    let (r, q, bank) := bankPlace e.1
    let p := pipeIx r q
    e.2.binds.any (·.2 == t)
      && (bank == s.epoch p || s.flag F.PA_LVC_PROG_STATUS_LOADED p))

/-- A write of one word of a table definition. -/
def State.tblCfg (s : State) (who : Party) (t w v : Nat) : State :=
  match w with
  | 0 =>
    let kind := bits v 28 2
    let kw := bits v 24 4
    let size := bits v 0 21
    let refused := !(s.entries t).isEmpty || s.tblBound t || !sizeAllowed kind size
      || (bit v 31 && decide (poolUnits kind < s.poolUsed kind t + sizeOf' kind kw size * entryCost kind kw))
    if (keyWidth kind kw).isNone then s
    else if refused then s.raise 650 [.w t, .w w]
    else
      ((((s.put who F.FX_TBE_TBL_CFG_EN t (bits v 31 1)).put who F.FX_TBE_TBL_CFG_SCOPE t (bits v 30 1)).put who F.FX_TBE_TBL_CFG_KIND t kind).put
        who F.FX_TBE_TBL_CFG_KW t kw).put who F.FX_TBE_TBL_CFG_SIZE t size
  | 1 =>
    ((((s.put who F.FX_TBE_TBL_CFG_AGE_EN t (bits v 31 1)).put who F.FX_TBE_TBL_CFG_ON_EXIST t (bits v 30 1)).put
      who F.FX_TBE_TBL_CFG_FULL_PRED_EN t (bits v 29 1)).put who F.FX_TBE_TBL_CFG_FULL_PRED t (bits v 24 5)).put
      who F.FX_TBE_TBL_CFG_AGE_PERIOD t (bits v 0 24)
  | 2 =>
    ((s.put who F.FX_TBE_TBL_CFG_LEARN_RING t (bits v 16 16)).put who F.FX_TBE_TBL_CFG_LRING_EN t (bits v 15 1)).put
      who F.FX_TBE_TBL_CFG_STITCH_SHARE t (bits v 14 1)
  | 3 => s.put who F.FX_TBE_TBL_CFG_NOROOM_HI t v
  | 4 => s.put who F.FX_TBE_TBL_CFG_NOROOM_LO t v
  | _ => s

def execTblCfgWrite (who : Party) (table : Fin 64) (word : Fin 5) (v : Word) (s : State) : Host.Outcome State Fault Refusal :=
  .next (s.writeTo who 5 6 true (·.tblCfg who table.val word.val v.toNat))

/-! ### Links and routes (R279 to R282) -/

def State.stcLink (s : State) (k : Nat) : Nat := s.fld F.PD_STC_LINK_STATE k
def State.nbDevid (s : State) (k : Nat) : Nat := s.fld F.PD_STC_LINK_NB_DEVID k

/-- A stitch link changes state, with event offset 24: to JOINED and from it (R279). -/
def State.stcGo (s : State) (k st : Nat) : State :=
  (s.setFld F.PD_STC_LINK_STATE k st).raise 536 [.w (120 + k), .w (s.stcLink k), .w st]

/-- A stitch link changes state where the table of R279 raises no offset 24. -/
def State.stcQuiet (s : State) (k st : Nat) : State := s.setFld F.PD_STC_LINK_STATE k st

/-- Bits of a mask without those of another. -/
def without (m x : Nat) : Nat := m - Nat.land m x

/-- A member whose link has become JOINED waits to rejoin its route. -/
def State.pendMember (s : State) (d k : Nat) : State :=
  if bit (s.fld F.FX_STC_ROUTE_MEMBERS d) k ∧ !bit (s.fld F.FX_STC_ROUTE_ACTIVE d) k then
    s.setFld F.FX_STC_ROUTE_REJOIN_PEND d (Nat.lor (s.fld F.FX_STC_ROUTE_REJOIN_PEND d) (2 ^ k))
  else s

/-- A member leaves its route at once. -/
def State.dropMember (s : State) (d k : Nat) : State :=
  let s := (s.setFld F.FX_STC_ROUTE_ACTIVE d (without (s.fld F.FX_STC_ROUTE_ACTIVE d) (2 ^ k))).setFld
    F.FX_STC_ROUTE_REJOIN_PEND d (without (s.fld F.FX_STC_ROUTE_REJOIN_PEND d) (2 ^ k))
  (s.withStc { s.stc with told := s.stc.told.filter (· != 8 * d + k) })

/-- A link leaves JOINED for another state. -/
def State.stcLeave (s : State) (k st : Nat) : State :=
  let d := s.nbDevid k
  let s := (s.withStc { s.stc with hellos := Map.set {} k {} s.stc.hellos, peer := Map.set (0, 0) k (0, 0) s.stc.peer })
  ((s.dropMember d k).stcGo k st).masterShow

/-- The port's link reaches UP. -/
def State.stcUp (s : State) (k : Nat) : State := if s.stcLink k = stcDown then s.stcQuiet k stcHello else s

/-- The port's link leaves UP. -/
def State.stcDrop (s : State) (k : Nat) : State :=
  let s := (s.withStc { s.stc with inbox := Map.set [] k [] s.stc.inbox })
  if s.stcLink k = stcJoined then s.stcLeave k stcDown
  else if s.stcLink k = stcDown then s
  else s.stcQuiet k stcDown

/-- Every queue of a stitch port is empty. -/
def State.stcIdle (s : State) (k : Nat) : Bool := (List.range 16).all (fun c => (s.queue (queueIx (480 + 4 * k) c)).isEmpty)

/-- REJOIN: pending members enter the active set of a route whose active members' queues, and their own, are empty. -/
def State.rejoin (s : State) (d : Nat) : State :=
  (List.range 8).foldl (fun s k =>
    if bit (s.fld F.FX_STC_ROUTE_REJOIN_PEND d) k ∧ s.stcIdle k ∧ (s.activeMembers d).all s.stcIdle then
      (s.dropMember d k).setFld F.FX_STC_ROUTE_ACTIVE d (Nat.lor (s.fld F.FX_STC_ROUTE_ACTIVE d) (2 ^ k))
    else s) s

def execRejoin (devid : Fin 4) (s : State) : Host.Outcome State Fault Refusal := .next (s.rejoin devid.val)

/-- REJOIN_PEND_TIMEOUT: the members of a route that have waited 100 ms are reported once. -/
def State.rejoinLate (s : State) (d : Nat) : State :=
  (List.range 8).foldl (fun s k =>
    if bit (s.fld F.FX_STC_ROUTE_REJOIN_PEND d) k ∧ !s.stc.told.contains (8 * d + k) then
      ((s.raise 680 [.w d, .w (120 + k)]).withStc { s.stc with told := s.stc.told ++ [8 * d + k] })
    else s) s

def execRejoinPendTimeout (devid : Fin 4) (s : State) : Host.Outcome State Fault Refusal := .next (s.rejoinLate devid.val)

/-- A write of FX_STC_ROUTE (R295). -/
def State.routeWrite (s : State) (who : Party) (d v : Nat) : State :=
  if d = s.devid then s.raise 682 [.w (0x10 + 4 * d)]
  else
    let old := s.fld F.FX_STC_ROUTE_MEMBERS d
    let s := s.put who F.FX_STC_ROUTE_MEMBERS d (bits v 0 8)
    (List.range 8).foldl (fun s k =>
      if bit old k ∧ !bit v k then s.dropMember d k
      else if !bit old k ∧ bit v k ∧ s.stcLink k = stcJoined ∧ s.nbDevid k = d then s.pendMember d k
      else s) s

def execRouteWrite (who : Party) (devid : Fin 4) (v : Word) (s : State) : Host.Outcome State Fault Refusal :=
  .next (s.writeTo who 5 7 false (·.routeWrite who devid.val v.toNat))

/-- A write of FX_STC_SRC (R294). -/
def State.stcSrcWrite (s : State) (who : Party) (i v : Nat) : State :=
  let c := bits v 24 7
  if 96 ≤ c ∧ c < 120 then s.raise 682 [.w (4 * i)]
  else ((s.put who F.FX_STC_SRC_EN i (bits v 31 1)).put who F.FX_STC_SRC_CONT i c).put who F.FX_STC_SRC_BRIDGE_EXT i (bits v 23 1)

/-! ### Frames (R276, R277, R285) -/

def stcTypeData : Nat := 1
def stcTypeLearn : Nat := 2
def stcTypeTime : Nat := 3
def stcTypeHello : Nat := 4

/-- A field of `n` bytes at offset `o`, in network byte order. -/
def beField (bs : List Byte) (o n : Nat) : Nat := ofBe ((bs.drop o).take n)

def stcType (bs : List Byte) : Nat := beField bs 0 1 % 16


/-- The first frame of a kind in a list, and the rest. -/
def takeKind (p : Nat → Bool) : List (Nat × List Byte) → Option ((Nat × List Byte) × List (Nat × List Byte))
  | [] => none
  | f :: fs => if p (stcType f.2) then some (f, fs) else (takeKind p fs).map (fun x => (x.1, f :: x.2))

/-- Take the first frame of a kind from a link's inbox. -/
def State.stcTake (s : State) (k : Nat) (p : Nat → Bool) : Option (State × Nat × List Byte) :=
  (takeKind p (Map.get [] k s.stc.inbox)).map (fun x =>
    ((s.withStc { s.stc with inbox := Map.set [] k x.2 s.stc.inbox }), x.1.1, x.1.2))

/-- Payload bytes of a type. -/
def stcPayload (type : Nat) : Nat := if type = stcTypeLearn then 64 else if type = stcTypeTime then 24 else 16

/-- Reserved payload fields of LEARN and HELLO that are not zero. -/
def stcBadPayload (type : Nat) (p : List Byte) : Bool :=
  if type = stcTypeLearn then
    let w := beField p 0 4
    bits w 28 4 != 0 || bits w 16 8 != 0x21 || bits w 6 5 != 0 || bits (beField p 24 4) 3 29 != 0 || beField p 28 4 != 0
  else if type = stcTypeHello then
    beField p 0 1 % 4 != 0 || beField p 1 1 / 16 != 0 || bits (beField p 5 3) 20 4 != 0 || beField p 8 8 != 0
  else false

/-- The code of R285 a frame earns, 0 for none.  HELLO is exempt from code 2: it is how neighbours get to know each other.  A short frame may be padded to 60 bytes. -/
def State.stcCheck (s : State) (k : Nat) (bs : List Byte) : Nat :=
  let type := stcType bs
  let ext := bit (beField bs 2 2) 4
  let dest := beField bs 2 2 / 64
  let n := bs.length
  if n < 16 then 5
  else if beField bs 0 1 / 16 ≠ 1 ∨ type = 0 ∨ 4 < type ∨ beField bs 2 2 % 16 ≠ 0 ∨ beField bs 4 2 % 64 ≠ 0 ∨ 0x4000 ≤ beField bs 6 2
    ∨ (type ≠ stcTypeData ∧ (beField bs 1 1 % 16 ≠ 0 ∨ beField bs 2 6 ≠ 0)) then 1
  else if type ≠ stcTypeHello ∧ (beField bs 1 1 / 16 % 4 ≠ s.devid ∨ beField bs 1 1 / 64 ≠ s.nbDevid k) then 2
  else if type = stcTypeData then
    if 541 ≤ dest ∨ s.stitchLp dest then 3
    else if n < 16 + (if ext then 72 else 0) + 14 then 5
    else 0
  else
    let m := 16 + stcPayload type
    if n ≠ m ∧ !(m < 60 ∧ n = 60) then 5
    else if stcBadPayload type (bs.drop 16) then 1
    else if type = stcTypeLearn ∧ beField bs 18 2 / 2 ^ 14 ≠ beField bs 1 1 / 64 then 4
    else 0

/-- Discard a frame with a code of R285. -/
def State.stcBad (s : State) (k code : Nat) : State :=
  (s.bump F.FX_STC_STAT_COUNT 1).violate (0x4600 + code) (480 + 4 * k) 523 []

/-- Take the first frame of a kind that may be used: checked, and on a JOINED link. -/
def State.stcWith (s : State) (k : Nat) (p : Nat → Bool) (f : State → Nat → List Byte → State) : State :=
  match s.stcTake k p with
  | none => s
  | some (s, at', bs) =>
    match s.stcCheck k bs with
    | 0 => if s.stcLink k ≠ stcJoined then s else f s at' bs
    | code => s.stcBad k code

/-! ### Data (R283) -/

/-- The egress PHV of a stitched frame. -/
def stcPhv (bs : List Byte) (n : Nat) : Map Nat :=
  let w := beField bs 2 2
  let base := Map.set 0 96 (beField bs 4 2 / 64 * 2 ^ 22 + n) (Map.set 0 97 (beField bs 12 4) (Map.set 0 98 (beField bs 8 4)
    (Map.set 0 104 (w / 64 * 2 ^ 22 + beField bs 1 1 % 16 * 2 ^ 18 + 2 ^ 17) [])))
  if bit w 4 then
    let user := (List.range 8).foldl (fun m i => Map.set 0 (120 + i) (beField bs (16 + 4 * i) 4) m) base
    (List.range 8).foldl (fun m i =>
      let sel := beField bs (48 + i) 1
      if bit sel 7 then Map.set 0 (sel % 128) (beField bs (56 + 4 * i) 4) m else m) user
  else base

/-- STITCH_DATA_RX: the frame goes to the admission stage of the pipeline that serves the port. -/
def State.stcData (s : State) (k : Nat) : State :=
  s.when (s.inService && !s.fenced 5) (fun s =>
    s.stcWith k (fun t => t == stcTypeData || t == 0 || decide (4 < t)) (fun s _ bs =>
      let w := beField bs 2 2
      let cls := beField bs 1 1 % 16
      let body := bs.drop (if bit w 4 then 88 else 16)
      let group := bit w 5
      let pkt : Pkt := { bytes := body, orig := body, phv := stcPhv bs body.length, lgen := s.prog.gen,
                         ingress := beField bs 4 2 / 64, noPrune := group, stitched := true }
      let copy : Copy := if group then { fid := 0, lp := 0, cls := cls, kind := 4, group := beField bs 6 2 }
        else { fid := 0, lp := w / 64, cls := cls, kind := 0 }
      s.toStage (30 + k / 4) cls (!group) { pkt := pkt } [copy]))

def execStitchDataRx (link : Fin 8) (s : State) : Host.Outcome State Fault Refusal := .next (s.stcData link.val)

/-! ### Learning (R289, R290) -/

/-- The message of a LEARN payload. -/
def learnOf (p : List Byte) : LearnMsg :=
  let w := beField p 0 4
  { op := bits w 24 4, origin := bits w 14 2, region := bits w 11 3, table := bits w 0 6, seq := beField p 4 4, stamp := beField p 8 8,
    data := beField p 16 4, old := beField p 20 4, kw := beField p 24 4 % 8, key := ofWords ((List.range 8).map (fun i => beField p (32 + 4 * i) 4)) }

/-- Ask an origin to send its entries again. -/
def State.askResync (s : State) (o : Nat) : State :=
  if s.stc.want.contains o then s else (s.withStc { s.stc with want := s.stc.want ++ [o] })

/-- LEARN_GAP: the origin's entries go, and a replay is asked for. -/
def State.learnGap (s : State) (o n : Nat) : State :=
  (((s.bump F.FX_STC_STAT_COUNT 2).raise 681 [.w o, .w n]).flushOrigin o).askResync o

/-- A LEARN frame arrives: checked, and on a JOINED link, it goes to its neighbour's receiver, unless its 4,096 places are taken (R285, R289). -/
def State.learnArrive (s : State) (k : Nat) (bs : List Byte) : State :=
  match s.stcCheck k bs with
  | 0 =>
    let d := s.nbDevid k
    let q := Map.get [] d s.tbl.inbox
    if s.stcLink k ≠ stcJoined ∨ s.fenced 5 then s
    else if 4096 ≤ q.length then s.bump F.FX_STC_STAT_COUNT 3
    else s.withTbl { s.tbl with inbox := Map.set [] d (q ++ [learnOf (bs.drop 16)]) s.tbl.inbox }
  | code => s.stcBad k code

/-- A stitch frame arrives. -/
def State.stcArrive (s : State) (k : Nat) (bs : List Byte) : State :=
  if stcType bs = stcTypeLearn then s.learnArrive k bs
  else s.withStc { s.stc with inbox := Map.set [] k (Map.get [] k s.stc.inbox ++ [(s.now, bs)]) s.stc.inbox }

/-- A message is applied in its turn, after its SEQ is checked.  The first message in sequence after a HELLO has carried the request is taken as its answer (log entry 14). -/
def State.learnRx (s : State) (m : LearnMsg) : State :=
  let prev := Map.get none m.origin s.tbl.rxSeq
  let gap := match prev with | some q => (m.seq + 2 ^ 32 - q - 1) % 2 ^ 32 | none => 0
  let s := (s.withTbl { s.tbl with rxSeq := Map.set none m.origin (some m.seq) s.tbl.rxSeq })
  let s := if gap ≠ 0 then s.learnGap m.origin gap
    else if s.stc.asked.contains m.origin then
      s.withStc { s.stc with want := s.stc.want.filter (· != m.origin), asked := s.stc.asked.filter (· != m.origin) }
    else s
  s.applyMsg m

/-- STITCH_LEARN_RX: the receiver of a neighbour is granted, and its oldest message applied. -/
def State.stcLearn (s : State) (d : Nat) : State :=
  s.when (s.inService && !s.fenced 5) (fun s =>
    match Map.get [] d s.tbl.inbox with
    | [] => s
    | m :: rest => ((s.withTbl { s.tbl with inbox := Map.set [] d rest s.tbl.inbox }).granted (m.table % 2) srcStitch).learnRx m)

def execStitchLearnRx (devid : Fin 4) (s : State) : Host.Outcome State Fault Refusal := .next (s.stcLearn devid.val)

/-- Send INSERT again for every entry this module originates in shared tables; answers how many. -/
def State.replayOwn (s : State) : State × Nat :=
  (List.range 64).foldl (fun (x : State × Nat) t =>
    if x.1.tblEn t ∧ x.1.tblKind t = 0 ∧ !x.1.tblLocal t ∧ x.1.flag F.FX_TBE_TBL_CFG_STITCH_SHARE t then
      ((x.1.entries t).filter (fun e => e.origin == x.1.devid)).foldl (fun (x : State × Nat) e =>
        let m : LearnMsg := { op := msgInsert, origin := x.1.devid, region := 0, table := t, seq := x.1.tbl.msgSeq,
                              stamp := x.1.now / 2 ^ 48 * 2 ^ 48 + e.upd * 2 ^ 16, data := e.data, old := 0, kw := x.1.fld F.FX_TBE_TBL_CFG_KW t, key := e.key }
        let s := (x.1.withTbl { x.1.tbl with msgSeq := (x.1.tbl.msgSeq + 1) % 2 ^ 32 })
        ((s.learnStitch m).bump F.FX_STC_STAT_COUNT 5, x.2 + 1)) x
    else x) (s, 0)

/-- A neighbour's HELLO asks for this module's entries. -/
def State.serveResync (s : State) (d : Nat) : State :=
  if s.stc.serving.any (·.1 == d) then s
  else
    let x := s.replayOwn
    (x.1.withStc { x.1.stc with serving := x.1.stc.serving ++ [(d, x.2)] })

/-- RESYNC_REPLAY_DONE: the re-sending to a neighbour ends, with EV0681. -/
def State.replayDone (s : State) (d : Nat) : State :=
  match s.stc.serving.find? (·.1 == d) with
  | some x => ((s.raise 681 [.w s.devid, .w x.2]).withStc { s.stc with serving := s.stc.serving.filter (·.1 != d) })
  | none => s

def execResyncReplayDone (devid : Fin 4) (s : State) : Host.Outcome State Fault Refusal := .next (s.replayDone devid.val)

/-! ### Neighbours (R279, R291) -/

/-- A neighbour is lost: its entries go, and the master is elected again. -/
def State.stcLost (s : State) (d : Nat) : State :=
  if !s.stc.known.contains d then s
  else
    let s := s.flushOrigin d
    ((s.withTbl { s.tbl with rxSeq := Map.set none d none s.tbl.rxSeq }).withStc { s.stc with known := s.stc.known.filter (· != d), serving := s.stc.serving.filter (·.1 != d) }).masterShow

/-- NEIGHBOUR_LOST: LOST_TIME has passed without a JOINED link to it. -/
def execNeighbourLost (devid : Fin 4) (s : State) : Host.Outcome State Fault Refusal :=
  .next (s.when (s.linkTo devid.val).isNone (·.stcLost devid.val))

/-- A link joins a neighbour.  One that shows a new BOOT_ID was lost; one that had no JOINED link is asked for its entries (R291). -/
def State.stcJoin (s : State) (k d boot : Nat) : State :=
  let s := if Map.get 0 d s.stc.bootIds ≠ 0 ∧ Map.get 0 d s.stc.bootIds ≠ boot + 1 then s.stcLost d else s
  let joins := (s.linkTo d).isNone
  let s := s.withStc { s.stc with known := if s.stc.known.contains d then s.stc.known else s.stc.known ++ [d],
                                  bootIds := Map.set 0 d (boot + 1) s.stc.bootIds }
  let s := ((s.setFld F.PD_STC_LINK_NB_DEVID k d).setFld F.PD_STC_LINK_NB_BOOT_ID k boot).stcGo k stcJoined
  (if joins then s.askResync d else s).pendMember d k

/-- A HELLO that its link's state takes. -/
def State.helloTake (s : State) (k : Nat) (p : List Byte) : State :=
  let b := beField p 0 1
  let d := b / 64
  let boot := beField p 2 2
  let h : Hello := { master := b / 16 % 4, timeState := b / 4 % 4, want := beField p 1 1 % 16, err := beField p 5 3 }
  let note (s : State) : State :=
    let s := (s.withStc { s.stc with hellos := Map.set {} k h s.stc.hellos }).masterShow
    if bit h.want s.devid then s.serveResync d else s
  if s.stcLink k = stcHello then
    if d = s.devid then (s.stcQuiet k stcDup).raise 537 [.w (120 + k)] else note (s.stcJoin k d boot)
  else if s.stcLink k = stcJoined then
    if d ≠ s.nbDevid k then s.stcLeave k stcHello
    else if boot ≠ s.fld F.PD_STC_LINK_NB_BOOT_ID k then (s.stcLeave k stcHello).stcLost d
    else note s
  else s

/-- HELLO_RX. -/
def State.helloRx (s : State) (k : Nat) : State :=
  match s.stcTake k (· == stcTypeHello) with
  | none => s
  | some (s, _, bs) =>
    match s.stcCheck k bs with
    | 0 => s.helloTake k (bs.drop 16)
    | code => s.stcBad k code

def execHelloRx (link : Fin 8) (s : State) : Host.Outcome State Fault Refusal := .next (s.helloRx link.val)

/-- HELLO_TIMEOUT: 100 us without a HELLO. -/
def State.helloTimeout (s : State) (k : Nat) : State :=
  s.when (s.stcLink k == stcJoined) (fun s => s.stcLeave k (if s.lpUp (480 + 4 * k) then stcHello else stcDown))

def execHelloTimeout (link : Fin 8) (s : State) : Host.Outcome State Fault Refusal := .next (s.helloTimeout link.val)

/-- HELLO_TX: an UP link sends its HELLO (R277). -/
def State.helloTx (s : State) (k : Nat) : State :=
  s.when (s.stcLink k != stcDown && s.lpUp (480 + 4 * k)) (fun s =>
    let want := s.stc.want.foldl (fun m o => Nat.lor m (2 ^ o)) 0
    let w0 := s.devid * 2 ^ 30 + s.masterOf * 2 ^ 28 + s.syncState * 2 ^ 26 + want * 2 ^ 16 + s.fld F.PD_STC_CTRL_BOOT_ID
    let d := s.nbDevid k
    let s := if s.stcLink k = stcJoined ∧ s.stc.want.contains d ∧ !s.stc.asked.contains d then s.withStc { s.stc with asked := s.stc.asked ++ [d] } else s
    s.emit (.stitch k (s.stitchFrame k stcTypeHello
      (beBytes 4 w0 ++ beBytes 4 (k * 2 ^ 24 + s.fld F.AO_TB_STATUS_ERR_EST) ++ List.replicate 8 0))))

def execHelloTx (link : Fin 8) (s : State) : Host.Outcome State Fault Refusal := .next (s.helloTx link.val)

/-! ### Time (R286, R287) -/

/-- Send a TIME frame on a link: TX_TS, and the last TIME frame's arrival and TX_TS. -/
def State.timeTx (s : State) (k : Nat) : State :=
  let p := Map.get (0, 0) k s.stc.peer
  s.emit (.stitch k (s.stitchFrame k stcTypeTime (beBytes 8 s.now ++ beBytes 8 (p.2 - 1) ++ beBytes 8 p.1)))

/-- TIME_EXCHANGE: a slave sends a TIME frame to the master, where a JOINED link leads to it; three exchanges in succession without an answer end in HOLDOVER, and each begins the count of close ones again. -/
def State.timeExchange (s : State) : State :=
  s.when (s.inService && s.timeSlave) (fun s =>
    let missed := if s.stc.waiting then s.stc.missed + 1 else s.stc.missed
    let s := s.withStc { s.stc with waiting := true, missed := missed, close := if s.stc.waiting then 0 else s.stc.close }
    let s := if 3 ≤ missed ∧ s.syncState = syncLocked then s.syncGo syncHoldover else s
    match s.linkTo s.masterOf with
    | none => s
    | some k => s.timeTx k)

def execTimeExchange (s : State) : Host.Outcome State Fault Refusal := .next s.timeExchange

/-- The slave's correction by an offset to the master (R286, R287). -/
def State.timeCorrect (s : State) (k : Nat) (off : Int) : State :=
  if off < -100000000 then
    let s := if s.syncState = syncFree then s else s.syncGo syncFree
    ((s.withStc { s.stc with close := 0 }).tbOffset .supervisor (unsigned 64 off)).raise 16 [.w s.masterOf, .w s.syncState]
  else
    let s := if s.syncState = syncFree ∨ s.syncState = syncHoldover then s.syncGo syncLocking else s
    let close := if -8 ≤ off ∧ off ≤ 8 then s.stc.close + 1 else 0
    let s := (s.withStc { s.stc with close := close })
    let s := if off = 0 then s else s.tbOffset .supervisor (unsigned 64 off)
    if 32 ≤ close ∧ s.syncState = syncLocking then
      (s.setFld F.AO_TB_STATUS_ERR_EST 0 (min ((Map.get {} k s.stc.hellos).err + 16) 0xFFFFF)).syncGo syncLocked
    else if s.syncState = syncLocked then s.setFld F.AO_TB_STATUS_ERR_EST 0 (min ((Map.get {} k s.stc.hellos).err + 16) 0xFFFFF)
    else s

/-- TIME_RX: from the master it gives the slave its offset; from any other it is answered. -/
def State.timeRx (s : State) (k : Nat) : State :=
  s.when s.inService (fun s => s.stcWith k (· == stcTypeTime) (fun s at' bs =>
    let p := bs.drop 16
    let s := (s.withStc { s.stc with peer := Map.set (0, 0) k (beField p 0 8, at' + 1) s.stc.peer })
    if s.timeSlave ∧ s.nbDevid k = s.masterOf then
      let t1 : Int := beField p 16 8
      let t2 : Int := beField p 8 8
      let t3 : Int := beField p 0 8
      let t4 : Int := at'
      let s := (s.withStc { s.stc with waiting := false, missed := 0 })
      if t1 = 0 then s else s.timeCorrect k (t2 - t1 - ((t4 - t1) - (t3 - t2)) / 2)
    else s.timeTx k))

def execTimeRx (link : Fin 8) (s : State) : Host.Outcome State Fault Refusal := .next (s.timeRx link.val)

end Sys2Proof.Machine
end

