-- ==== Sys2Proof/Machine/Link.lean ====
section
/-! DEFINITION. Link states of the front ports, their configuration, frames from the line, and low-power idle (R68 to R86, R93). -/

namespace Sys2Proof.Machine

/-! ### Lanes and speeds (R68, R69, R78, R689) -/

/-- Breakout mode of a port; a stitch port runs as one link on four lanes (R93). -/
def State.portMode (s : State) (p : Nat) : Nat := if s.flag F.PA_MAC_PORT_CFG_STITCH p then 0 else s.fld F.PA_MAC_PORT_CFG_BREAKOUT p

/-- The sub-port of a logical port is in use. -/
def State.lpUsed (s : State) (lp : Nat) : Bool := subInUse (s.portMode (lp / 4)) (lp % 4)

/-- Lanes of a logical port. -/
def State.lanesOf (s : State) (lp : Nat) : List Nat :=
  let m := s.portMode (lp / 4)
  (List.range (if m = 0 then 4 else if m = 1 then 2 else 1)).map (lp + ·)

/-- The logical port that uses a lane. -/
def State.laneLp (s : State) (lane : Nat) : Nat :=
  let m := s.portMode (lane / 4)
  if m = 0 then lane / 4 * 4 else if m = 1 then lane / 2 * 2 else lane

/-- The sub-port skips TRAINING: its speed in use is 1000BASE-X, or TRAIN_EN = 0 on every lane it uses (R78). -/
def State.skipsTraining (s : State) (lp : Nat) : Bool :=
  (!s.isStitch lp && s.fld F.PA_MAC_LINK_STATUS_SPEED_RES lp == 6) || (s.lanesOf lp).all (fun l => !s.flag F.PA_SERDES_LANE_EQ_TRAIN_EN l)

/-- The sub-port auto-negotiates. -/
def State.negotiates (s : State) (lp : Nat) : Bool := s.flag F.PA_MAC_SUBPORT_CFG_AN_EN lp && !s.isStitch lp

def State.linkState (s : State) (lp : Nat) : Nat := s.fld F.PA_MAC_LINK_STATUS_STATE lp

/-! ### Changes of state (R78 to R80) -/

/-- A frame in transmission is cut off (R79): a copy in cut-through whose tail is still to come, or a frame whose wire time has not passed. -/
def State.abortTx (s : State) (lp : Nat) : State :=
  if (s.sending lp).isSome || decide (s.now + 1 < Map.get 0 lp s.fx.txEnd) then
    ((s.withFx { s.fx with cuts := s.fx.cuts.map (fun x => if x.lp = lp then { x with bytes := none } else x), txEnd := Map.set 0 lp 0 s.fx.txEnd }).macCount lp 19).emit
      (.cutOff lp)
  else s

/-- What the transmitter of a sub-port does from now on (R78). -/
def State.lineSignal (s : State) (lp signal : Nat) : State := s.emit (.line lp signal)

/-- The end of a time in low-power idle, counted in whole microseconds (R94); `rx` for the partner's. -/
def State.lpiEnd (s : State) (lp : Nat) (rx : Bool) : State :=
  let m := if rx then s.mac.rxLpiAt else s.mac.lpiAt
  let f := if rx then F.PA_MAC_LINK_STATUS_RX_LPI else F.PA_MAC_LINK_STATUS_TX_LPI
  if s.flag f lp then
    let us := (s.now + 1 - Map.get 0 lp m) / 1000
    let s := s.withMac (if rx then { s.mac with rxLpiAt := Map.set 0 lp 0 m } else { s.mac with lpiAt := Map.set 0 lp 0 m })
    (s.setFld f lp 0).macCount lp (if rx then 22 else 21) us
  else s

/-- Set the state of a link, with what entering and leaving UP bring. -/
def State.linkSet (s : State) (lp st : Nat) : State :=
  let old := s.linkState lp
  let s := s.setFld F.PA_MAC_LINK_STATUS_STATE lp st
  if old = linkUp ∧ st ≠ linkUp then
    let s := ((s.bumpSat F.PA_MAC_LINK_STATUS_FLAPS lp).lpiEnd lp false).lpiEnd lp true
    let s := (s.lanesOf lp).foldl (fun s l => s.setFld F.PA_SERDES_LANE_EQ_RX_EYE l 0) s
    if s.isStitch lp then s.stcDrop ((lp - 480) / 4) else s
  else if old ≠ linkUp ∧ st = linkUp then
    let s := (s.lanesOf lp).foldl (fun s l => (s.setFld F.PA_SERDES_LANE_EQ_RX_EYE l s.free).drawn) s
    if s.isStitch lp then s.stcUp ((lp - 480) / 4) else s
  else s

/-- The same with event offset 4. -/
def State.linkGo (s : State) (lp st : Nat) : State :=
  (s.linkSet lp st).raise (portEvent (regionOfLp lp) 4) [.w lp, .w (s.linkState lp), .w st]

/-- Enter TRAINING, or ALIGNING where it is skipped; each lane takes up its preset (R75). -/
def State.toTraining (s : State) (lp : Nat) : State :=
  let ls := s.lanesOf lp
  let s := s.withMac { s.mac with
    trainSeen := ls.foldl (fun m l => Map.set false l false m) s.mac.trainSeen
    trainEnded := ls.foldl (fun m l => Map.set false l false m) s.mac.trainEnded
    txPreset := ls.foldl (fun m l => Map.set 0 l (s.fld F.PA_SERDES_LANE_EQ_PRESET l) m) s.mac.txPreset }
  s.linkSet lp (if s.skipsTraining lp then linkAligning else linkTraining)

/-- Speed and FEC in use without auto-negotiation (R93, R689). -/
def State.fixSpeed (s : State) (lp : Nat) : State :=
  let sp := if s.isStitch lp then 0 else s.fld F.PA_MAC_SUBPORT_CFG_SPEED lp
  let fec := if s.isStitch lp then 3 else s.fld F.PA_MAC_SUBPORT_CFG_FEC lp
  (s.setFld F.PA_MAC_LINK_STATUS_SPEED_RES lp sp).setFld F.PA_MAC_LINK_STATUS_FEC_RES lp
    (if fec = 0xF then fecDefault (s.portMode (lp / 4)) sp else fec)

/-- Enter AN, where LPI_EN is taken up and nothing is resolved yet (R74, R85). -/
def State.toAn (s : State) (lp : Nat) : State :=
  let s := s.withMac { s.mac with lpiOffer := Map.set false lp (s.flag F.PA_MAC_SUBPORT_CFG_LPI_EN lp) s.mac.lpiOffer, lpiRes := Map.set false lp false s.mac.lpiRes }
  s.linkSet lp linkAn

/-- Start again: AN, or TRAINING with AN_EN = 0 and SPEED and FEC as written. -/
def State.retrain (s : State) (lp : Nat) : State := if s.negotiates lp then s.toAn lp else (s.fixSpeed lp).toTraining lp

/-- A sub-port that may leave DISABLED does: EN = 1, in use, in RUN or RIDE-THROUGH, its lane group not held off (R78, R527). -/
def State.linkStart (s : State) (lp : Nat) : State :=
  if s.flag F.PA_MAC_SUBPORT_CFG_EN lp ∧ s.lpUsed lp ∧ s.inService ∧ !s.fenced (regionOfLp lp) ∧ s.linkState lp = linkDisabled
      ∧ !s.forcedOff (11 * (lp / 128) + lp % 128 / 16) then
    (s.lineSignal lp 1).retrain lp
  else s

/-- To DISABLED. -/
def State.linkStop (s : State) (lp : Nat) : State :=
  if s.linkState lp = linkDisabled then s
  else
    let s := (s.abortTx lp).linkSet lp linkDisabled
    ((s.setFld F.PA_MAC_LINK_STATUS_REMOTE_FAULT lp 0).setFld F.PA_MAC_LINK_STATUS_LOCAL_FAULT lp 0).lineSignal lp 0

/-- Every front link of a region goes to DISABLED, or starts. -/
def State.linksStop (s : State) (region : Nat) : State := (List.range 128).foldl (fun s k => s.linkStop (128 * (region - 1) + k)) s
def State.linksStart (s : State) (region : Nat) : State := (List.range 128).foldl (fun s k => s.linkStart (128 * (region - 1) + k)) s

/-! ### Configuration (R71 to R74, R93) -/

/-- SPEED and FEC of a sub-port hold under a mode. -/
def subAllowed (mode speed fec : Nat) : Bool := speedAllowed mode speed && fecAllowed mode speed fec

/-- A write of PA_MAC_PORT_CFG. -/
def State.portCfg (s : State) (who : Party) (p v : Nat) : State :=
  let mode := bits v 0 2
  let stitch := bit v 3
  let old := s.fld F.PA_MAC_PORT_CFG_BREAKOUT p
  let broken := mode != old && (List.range 4).any (fun k =>
    let lp := 4 * p + k
    if subInUse mode k then !subAllowed mode (s.fld F.PA_MAC_SUBPORT_CFG_SPEED lp) (s.fld F.PA_MAC_SUBPORT_CFG_FEC lp)
    else s.flag F.PA_MAC_SUBPORT_CFG_EN lp)
  if mode = 3 then s
  else if broken ∨ (stitch ∧ p < 120) then s.raise (portEvent (1 + p / 32) 7) [.w (0x40 * (p % 32))]
  else if mode = old ∧ stitch = s.flag F.PA_MAC_PORT_CFG_STITCH p then s
  else
    let s := (List.range 4).foldl (fun s k => s.linkStop (4 * p + k)) s
    let s := (s.put who F.PA_MAC_PORT_CFG_BREAKOUT p mode).put who F.PA_MAC_PORT_CFG_STITCH p (b2n stitch)
    ((List.range 4).foldl (fun s k => s.linkStart (4 * p + k)) s).wakePort p

def execPortCfgWrite (who : Party) (port : Fin 128) (v : Word) (s : State) : Host.Outcome State Fault Refusal :=
  .next (s.writeTo who (1 + port.val / 32) 1 false (·.portCfg who port.val v.toNat))

/-- A write of PA_MAC_SUBPORT_CFG. -/
def State.subportCfg (s : State) (who : Party) (lp v : Nat) : State :=
  let mode := s.fld F.PA_MAC_PORT_CFG_BREAKOUT (lp / 4)
  let used := subInUse mode (lp % 4)
  let sp := bits v 0 4
  let fec := bits v 8 4
  let en := bit v 31
  if (used ∧ !subAllowed mode sp fec) ∨ (en ∧ !used) then
    s.raise (portEvent (regionOfLp lp) 7) [.w (0x40 * (lp / 4 % 32) + 0x10 + 4 * (lp % 4))]
  else if en ∧ s.forcedOff (11 * (lp / 128) + lp % 128 / 16) then s
  else
    let restart := s.fld F.PA_MAC_SUBPORT_CFG_SPEED lp ≠ sp ∨ s.fld F.PA_MAC_SUBPORT_CFG_FEC lp ≠ fec
    let s := (s.put who F.PA_MAC_SUBPORT_CFG_EN lp (b2n en)).put who F.PA_MAC_SUBPORT_CFG_AN_EN lp (bits v 30 1)
    let s := (s.put who F.PA_MAC_SUBPORT_CFG_LPI_EN lp (bits v 29 1)).put who F.PA_MAC_SUBPORT_CFG_MACSEC_EN lp (bits v 28 1)
    let s := ((s.put who F.PA_MAC_SUBPORT_CFG_MAX_FRAME lp (bits v 14 14)).put who F.PA_MAC_SUBPORT_CFG_FEC lp fec).put
      who F.PA_MAC_SUBPORT_CFG_SPEED lp sp
    let s := s.wakePort (lp / 4)
    if !en then s.linkStop lp
    else if restart ∧ !s.isStitch lp then (s.linkStop lp).linkStart lp
    else s.linkStart lp

def execSubportCfgWrite (who : Party) (lp : Fin 512) (v : Word) (s : State) : Host.Outcome State Fault Refusal :=
  .next (s.writeTo who (regionOfLp lp.val) 1 false (·.subportCfg who lp.val v.toNat))

/-! ### Link events (R77, R78, R82) -/

/-- An event of a link in one of the states given. -/
def State.linkIn (s : State) (lp : Nat) (sts : List Nat) (f : State → State) : State :=
  s.when (s.inService && !s.fenced (regionOfLp lp) && sts.contains (s.linkState lp)) f

/-- AN_RESOLVED: the common ability found, one of R68 and R69; `eee` where the partner too offers low-power idle (R85). -/
def State.anResolved (s : State) (lp speed fec : Nat) (eee : Bool) : State :=
  s.linkIn lp [linkAn] (fun s =>
    s.when (subAllowed (s.portMode (lp / 4)) speed fec) (fun s =>
      let res := eee && Map.get false lp s.mac.lpiOffer && decide (4 ≤ speed)
      let s := s.withMac { s.mac with lpiRes := Map.set false lp res s.mac.lpiRes }
      ((s.setFld F.PA_MAC_LINK_STATUS_SPEED_RES lp speed).setFld F.PA_MAC_LINK_STATUS_FEC_RES lp fec).toTraining lp))

def execAnResolved (lp : Fin 512) (speed : Fin 7) (fec : Fin 4) (s : State) (eee : Bool := false) : Host.Outcome State Fault Refusal :=
  .next (s.anResolved lp.val speed.val fec.val eee)

/-- A failure of auto-negotiation or training, with event offset 6. -/
def State.anTrainFail (s : State) (lp counter : Nat) : State :=
  (s.macCount lp counter).raise (portEvent (regionOfLp lp) 6) [.w lp, .w counter]

def State.anFail (s : State) (lp : Nat) : State := s.linkIn lp [linkAn] (fun s => ((s.anTrainFail lp 13).portViolation lp 0 2).retrain lp)

def execAnFail (lp : Fin 512) (s : State) : Host.Outcome State Fault Refusal := .next (s.anFail lp.val)

/-- TRAIN_REQUEST: a training frame or request arrives on a lane; `bad` where it is malformed or out of range, which is counted and answered (R77). -/
def State.trainRequest (s : State) (lane : Nat) (bad : Bool) : State :=
  let lp := s.laneLp lane
  s.linkIn lp [linkTraining] (fun s =>
    let s := (s.withMac { s.mac with trainSeen := Map.set false lane true s.mac.trainSeen })
    if bad then ((s.macCount lp 29).portViolation lp 0 3).emit (.trainLimit lane) else s)

def execTrainRequest (lane : Fin 512) (bad : Bool) (s : State) : Host.Outcome State Fault Refusal := .next (s.trainRequest lane.val bad)

/-- Every lane of the sub-port has trained, but for those with TRAIN_EN = 0 and those that ended at their preset; the transmit settings reached are open values. -/
def State.trained (s : State) (lp : Nat) : State :=
  ((s.lanesOf lp).foldl (fun s l =>
    if s.flag F.PA_SERDES_LANE_EQ_TRAIN_EN l && !Map.get false l s.mac.trainEnded then (s.setFld F.PA_SERDES_LANE_EQ_TX_TAPS_IDX l s.free).drawn else s) s).linkSet
    lp linkAligning

/-- TRAINING_DONE. -/
def State.trainingDone (s : State) (lp : Nat) : State := s.linkIn lp [linkTraining] (·.trained lp)

def execTrainingDone (lp : Fin 512) (s : State) : Host.Outcome State Fault Refusal := .next (s.trainingDone lp.val)

/-- TRAIN_TIMEOUT on a lane; `othersDone` where every other lane of the sub-port has trained or ended. -/
def State.trainTimeout (s : State) (lane : Nat) (othersDone : Bool) : State :=
  let lp := s.laneLp lane
  s.linkIn lp [linkTraining] (fun s =>
    if Map.get false lane s.mac.trainSeen then ((s.anTrainFail lp 30).portViolation lp 0 4).retrain lp
    else
      let s := s.withMac { s.mac with trainEnded := Map.set false lane true s.mac.trainEnded }
      if othersDone then s.trained lp else s)

def execTrainTimeout (lane : Fin 512) (othersDone : Bool) (s : State) : Host.Outcome State Fault Refusal := .next (s.trainTimeout lane.val othersDone)

def execAlignLock (lp : Fin 512) (s : State) : Host.Outcome State Fault Refusal :=
  .next (s.linkIn lp.val [linkAligning] (fun s => (s.setFld F.PA_MAC_LINK_STATUS_LOCAL_FAULT lp.val 0).linkGo lp.val linkUp))

def State.alignTimeout (s : State) (lp : Nat) : State :=
  s.linkIn lp [linkAligning] (fun s => ((s.macCount lp 14).portViolation lp 0 4).retrain lp)

def execAlignTimeout (lp : Fin 512) (s : State) : Host.Outcome State Fault Refusal := .next (s.alignTimeout lp.val)

/-- LINK_LOSS: loss of lock, hi_ber or a local fault on a link that is UP or in FAULT. -/
def State.linkLoss (s : State) (lp : Nat) (localFault : Bool) : State :=
  s.linkIn lp [linkUp, linkFault] (fun s =>
    let up := s.linkState lp = linkUp
    let s := s.setFlag F.PA_MAC_LINK_STATUS_LOCAL_FAULT lp localFault
    let s := if up then s.abortTx lp else s
    let s := (s.setFld F.PA_MAC_LINK_STATUS_REMOTE_FAULT lp 0).lineSignal lp 2
    if up then s.linkGo lp linkAligning else s.linkSet lp linkAligning)

def execLinkLoss (lp : Fin 512) (localFault : Bool) (_ : Unit) (s : State) : Host.Outcome State Fault Refusal := .next (s.linkLoss lp.val localFault)

def State.remoteFault (s : State) (lp : Nat) : State :=
  s.linkIn lp [linkUp] (fun s =>
    let s := ((s.setFld F.PA_MAC_LINK_STATUS_REMOTE_FAULT lp 1).portViolation lp 1 7).abortTx lp
    (s.lineSignal lp 3).linkGo lp linkFault)

def execRemoteFaultRx (lp : Fin 512) (_ : Unit) (s : State) : Host.Outcome State Fault Refusal := .next (s.remoteFault lp.val)

def execRemoteFaultClear (lp : Fin 512) (s : State) : Host.Outcome State Fault Refusal :=
  .next (s.linkIn lp.val [linkFault] (fun s => (s.setFld F.PA_MAC_LINK_STATUS_REMOTE_FAULT lp.val 0).linkGo lp.val linkUp))

/-! ### Frames from the line (R62, R81 to R83, R93) -/

/-- MAC_RX_FRAME: a frame on a link that is UP; a stitch port hands it to the stitch logic. -/
def State.macRx (s : State) (lp : Nat) (f : WireFrame) : State :=
  s.linkIn lp [linkUp] (fun s =>
    match s.macCheck lp f with
    | (s, none) => s
    | (s, some g) =>
      if s.isStitch lp then (if g.bad = 0 then s.stcArrive ((lp - 480) / 4) g.bytes else s)
      else
        let s := s.lbPut (lp / 4) g
        if s.awake (lpDomain lp) then s else s.wake (lpDomain lp))

def execMacRxFrame (lp : Fin 512) (f : WireFrame) (s : State) : Host.Outcome State Fault Refusal := .next (s.macRx lp.val f)

/-! ### Low-power idle (R85, R86) -/

/-- A window for classes 12 to 15 of a logical port is open, or due to open within `lead` ns (R86). -/
def State.windowDue (s : State) (lp lead : Nat) : Bool :=
  ((s.operList lp).isSome && s.fld F.FX_TM_GATE_CFG_GATES_NOW lp != 0)
    || (((s.operList lp).isSome || s.flag F.FX_TM_GATE_CFG_PEND lp) &&
        (match s.firstWindow lp s.now 520 with | some t => decide (t ≤ s.now + lead) | none => false))

/-- Transmit LPI may begin (R85, R86): it was resolved, every egress queue is empty and no frame is being sent, and no window stands within Tw_sys_tx and WAKE_LEAD. -/
def State.lpiReady (s : State) (lp : Nat) : Bool :=
  let sp := s.fld F.PA_MAC_LINK_STATUS_SPEED_RES lp
  let lead := max (100 * s.fld F.AO_WAKE_POLICY_WAKE_LEAD (lpDomain lp)) 610
  s.flag F.PA_MAC_SUBPORT_CFG_LPI_EN lp && Map.get false lp s.mac.lpiRes && !s.isStitch lp && decide (4 ≤ sp) && decide (sp ≤ 6)
    && !s.flag F.PA_MAC_LINK_STATUS_TX_LPI lp && (List.range 16).all (fun c => (s.queue (queueIx lp c)).isEmpty)
    && (s.sending lp).isNone && !s.windowDue lp (Config.twSysTx sp + lead)

/-- LPI_ENTRY: the egress queues have been empty for 10 us, and the MAC sends low-power idle; with `rx`, the partner does. -/
def State.lpiEntry (s : State) (lp : Nat) (rx : Bool) : State :=
  s.linkIn lp [linkUp] (fun s =>
    if rx then
      if s.flag F.PA_MAC_LINK_STATUS_RX_LPI lp || !Map.get false lp s.mac.lpiRes then s
      else (s.setFld F.PA_MAC_LINK_STATUS_RX_LPI lp 1).withMac { s.mac with rxLpiAt := Map.set 0 lp (s.now + 1) s.mac.rxLpiAt }
    else if s.lpiReady lp then
      (s.setFld F.PA_MAC_LINK_STATUS_TX_LPI lp 1).withMac { s.mac with lpiAt := Map.set 0 lp (s.now + 1) s.mac.lpiAt }
    else s)

def execLpiEntry (lp : Fin 512) (s : State) (rx : Bool := false) : Host.Outcome State Fault Refusal := .next (s.lpiEntry lp.val rx)

/-- LPI_EXIT: Tw_sys_tx has passed, or with `rx` the partner is awake again. -/
def State.lpiExit (s : State) (lp : Nat) (rx : Bool) : State := s.linkIn lp [linkUp] (·.lpiEnd lp rx)

def execLpiExit (lp : Fin 512) (s : State) (rx : Bool := false) : Host.Outcome State Fault Refusal := .next (s.lpiExit lp.val rx)

end Sys2Proof.Machine
end

