-- ==== Sys2Proof/Machine/Compute.lean ====
section
/-! DEFINITION. HBM: its layout, scrubbing and errors, stack power; compute-port configuration (R305 to R319). -/

namespace Sys2Proof.Machine

/-! ### Layout (R305, R307, R308, R316) -/

/-- A write-cache layout is refused. -/
def partRefused (stackMask size : Nat) : Bool :=
  let size := min size 16
  let n := stackCount stackMask
  (stackMask == 0 && size != 0) || (n != 0 && size % n != 0) || (n != 0 && bit stackMask 0 && decide (13680 < size / n * 1024))

/-- A write of MX_HBM_PART. -/
def State.partWrite (s : State) (who : Party) (v : Nat) : State :=
  let stackMask := bits v 8 4
  let size := bits v 0 5
  let s := s.lockCheck who 0x80000000 F.MX_HBM_PART_WC_SIZE
  if s.lockHit F.MX_HBM_PART_WC_SIZE 0 then s
  else if partRefused stackMask size then s.raise 902 []
  else (s.put who F.MX_HBM_PART_WC_STACKS 0 stackMask).put who F.MX_HBM_PART_WC_SIZE 0 size

def execHbmPartWrite (who : Party) (v : Word) (s : State) : Host.Outcome State Fault Refusal :=
  .next (s.writeTo who 8 0 false (fun s => s.when (s.ringUp) (·.partWrite who v.toNat)))

/-! ### Errors (R309, R310) -/

/-- What an uncorrectable error does where it lies.  The partitions that the supervisor rewrites, and the shadows the table engine rebuilds, keep their contents. -/
def State.eccContain (s : State) (m addr : Nat) : ScrubResult → State
  | .core => if s.coreStack addr = some m then (s.withPoison (if s.poison.contains (addr / 64) then s.poison else s.poison ++ [addr / 64])) else s
  | .cache h blk => s.loseBlock h.val blk
  | .peer i => (s.withRma { s.rma with peers := s.rma.peers.eraseIdx i })
  | _ => s

/-- HBM_SCRUB of a powered stack. -/
def State.scrub (s : State) (m addr : Nat) (x : ScrubResult) : State :=
  s.when (s.ringUp && decide (s.fld F.MX_HBM_STACK_CTRL_STATE m < 2)) (fun s =>
    if x = .corrected then (s.bump F.MX_HBM_ECC_COUNT (2 * m)).limitedBy 1000000000 900 m 1 (fun n => [.w m, .w n])
    else ((s.bump F.MX_HBM_ECC_COUNT (2 * m + 1)).raise 901 [.w m, .d addr]).eccContain m addr x)

/-! ### Stack power (R311, R312, R317) -/

/-- Stack `m` holds a fixed partition or a write-cache share. -/
def State.stackHolds (s : State) (m : Nat) : Bool := m == 0 || (bit (s.fld F.MX_HBM_PART_WC_STACKS) m && s.fld F.MX_HBM_PART_WC_SIZE != 0)

/-- Drop what core memory on a stack holds. -/
def State.clearStack (s : State) (m : Nat) : State :=
  let lo := 0x1000000000 + 0x400000000 * m
  ((s.withMem (s.mem.filter (fun c => !inRange c.1 lo 0x400000000))).withPoison (s.poison.filter (fun l => !inRange (64 * l) lo 0x400000000)))

/-- OFF written 1. -/
def State.stackPowerOff (s : State) (who : Party) (m : Nat) : State :=
  if s.stackHolds m then s.raise 902 []
  else if 2 ≤ s.fld F.MX_HBM_STACK_CTRL_STATE m then s
  else
    let s := (s.put who F.MX_HBM_STACK_CTRL_OFF m 1).setFld F.MX_HBM_STACK_CTRL_STATE m 2
    (((s.clearStack m).setPower (88 + 2 * m) powGated).setPower (89 + 2 * m) powGated)

def execStackOff (who : Party) (stack : Fin 4) (s : State) : Host.Outcome State Fault Refusal :=
  .next (s.writeTo who 8 0 false (fun s => s.when (s.ringUp) (·.stackPowerOff who stack.val)))

/-- OFF written 0. -/
def State.stackPowerOn (s : State) (who : Party) (m : Nat) : State :=
  let s := s.put who F.MX_HBM_STACK_CTRL_OFF m 0
  if s.fld F.MX_HBM_STACK_CTRL_STATE m = 2 then s.setFld F.MX_HBM_STACK_CTRL_STATE m 3 else s

def execStackOn (who : Party) (stack : Fin 4) (s : State) : Host.Outcome State Fault Refusal :=
  .next (s.writeTo who 8 0 false (fun s => s.when (s.ringUp) (·.stackPowerOn who stack.val)))

/-- STACK_ON_DONE. -/
def State.stackReady (s : State) (m : Nat) : State :=
  s.when (s.fld F.MX_HBM_STACK_CTRL_STATE m == 3) (fun s =>
    ((s.setFld F.MX_HBM_STACK_CTRL_STATE m 0).setPower (88 + 2 * m) powOn).setPower (89 + 2 * m) powOn)

def execStackOnDone (stack : Fin 4) (s : State) : Host.Outcome State Fault Refusal := .next (s.stackReady stack.val)

/-! ### Compute ports (R319) -/

/-- A write of CX_CPORT_CFG: every ring it names must be carved to the cluster. -/
def State.cportWrite (s : State) (who : Party) (k v : Nat) : State :=
  let base := bits v 16 16
  let n := min (max (bits v 0 7) 1) 64
  let fi := clusterFi k
  if s.fld F.HX_FN_REC_RING_BASE fi ≤ base ∧ base + n ≤ s.fld F.HX_FN_REC_RING_BASE fi + s.fld F.HX_FN_REC_RING_COUNT fi then
    (s.put who F.CX_CPORT_CFG_BASE_RING k base).put who F.CX_CPORT_CFG_NRINGS k (bits v 0 7)
  else s.raise 896 []

end Sys2Proof.Machine
end

