-- ==== Sys2Proof/Machine/Ageing.lean ====
section
/-! DEFINITION. The fault log's reader and its intervals, Tightrope, ageing, and the calibration set (R344, R609 to R619, R623 to R626). -/

namespace Sys2Proof.Machine

/-! ### The fault log (R344, R608, R609, R623) -/

/-- An entry as its bytes lie in the log (R608). -/
def LogEntry.bytes (e : LogEntry) : List Byte :=
  let head := leBytes 4 (e.type * 2 ^ 24 + e.units * 2 ^ 16) ++ leBytes 4 e.seq ++ leBytes 8 e.time ++ leBytes 2 e.cond ++ leBytes 2 e.source
    ++ leBytes 4 e.count
  let n := 64 * e.units - 28
  let body := head ++ (wordBytes e.detail ++ List.replicate n 0).take n
  body ++ leBytes 4 (crc32c body)

/-- Show words in AO_FLT_LOG_DATA. -/
def State.logData (s : State) (ws : List Nat) : State := (List.range 16).foldl (fun s i => s.setFld F.AO_FLT_LOG_DATA_WORD i (ws.getD i 0)) s

/-- Show open values in AO_FLT_LOG_DATA: the unit asked for is beyond the entry's last (log entry 16). -/
def State.logFree (s : State) : State := (List.range 16).foldl (fun s i => (s.setFld F.AO_FLT_LOG_DATA_WORD i s.free).drawn) s

/-- LOG_SELECT (R623). -/
def State.logSelect (s : State) (who : Party) (seq : Nat) : State :=
  let s := s.put who F.AO_FLT_LOG_SEL_SEQ 0 seq
  match if s.ringUp then s.log.entries.find? (·.seq == seq) else none with
  | some e =>
    let s := s.setFlag F.AO_FLT_LOG_STATUS_HELD 0 true
    let u := s.fld F.AO_FLT_LOG_UNIT_UNIT
    if u < e.units then s.logData (bytesWords 16 (e.bytes.drop (64 * u))) else s.logFree
  | none => (s.setFlag F.AO_FLT_LOG_STATUS_HELD 0 false).logData []

def execLogSelect (who : Party) (v : Word) (s : State) : Host.Outcome State Fault Refusal :=
  .next (s.when (s.admits who 0 9) (·.logSelect who v.toNat))

/-- FLASH_TOKEN (R609). -/
def State.flashToken (s : State) : State := (s.withLog { s.log with tokens := min (s.log.tokens + 1) 64 })

def execFlashToken (s : State) : Host.Outcome State Fault Refusal := .next (s.when s.powered State.flashToken)

/-- Other intervals than one of a condition and source. -/
def otherIntervals (cond source : Nat) (l : List Interval) : List Interval := l.filter (fun v => !(v.cond == cond && v.source == source))

/-- VIOLATION_LOG_INTERVAL: with occurrences counted, an entry and a new interval; without, the period is quiet (R344). -/
def State.intervalEnd (s : State) (cond source : Nat) : State :=
  match s.interval? cond source with
  | none => s
  | some v =>
    let s := (s.withLog { s.log with intervals := otherIntervals cond source s.log.intervals })
    if v.count = 0 then s
    else
      let s := s.logEntry 1 cond source v.count v.detail
      let s := if v.event = 0 then s else s.raise v.event (violationPayload v.event cond source v.count v.detail)
      (s.withLog { s.log with intervals := s.log.intervals ++ [{ v with count := 0 }] })

def execViolationLogInterval (cond source : Fin 65536) (s : State) : Host.Outcome State Fault Refusal :=
  .next (s.when s.powered (·.intervalEnd cond.val source.val))

/-- A write of KICK restarts the watchdog; a write of another value or by another party does nothing (R604, R620). -/
def State.wdogKick (s : State) (who : Party) (v : Nat) : State :=
  s.when (who == .supervisor && v == 0x4B49434B) (fun s => s.withBoot { s.boot with kicked := s.now })

def execWdogKick (who : Party) (v : Word) (s : State) : Host.Outcome State Fault Refusal := .next (s.when s.powered (·.wdogKick who v.toNat))

/-! ### Sensors, monitors and weights (R611, R615, R668) -/

/-- First sensor of a region, and their number. -/
def regionSensors (r : Nat) : Nat × Nat :=
  if r = 0 then (0, 2) else if r ≤ 4 then (2 + 6 * (r - 1), 6) else if r = 5 then (26, 6) else if r = 6 then (32, 4)
  else if r = 7 then (36, 8) else (44, 4)

/-- First monitor of a region, and their number. -/
def regionMons (r : Nat) : Nat × Nat :=
  if r = 0 then (0, 8) else if r ≤ 5 then (8 + 32 * (r - 1), 32) else if r = 6 then (168, 24) else if r = 7 then (192, 32) else (224, 16)

/-- The domains of a region (R525); AO has none. -/
def regionDomains (r : Nat) : List Nat := if r = 0 then [] else (List.range 96).filter (fun d => domainRegion d == r)

/-- The hottest valid sensor of a region, in 1/16 C. -/
def State.hottestOf (s : State) (r : Nat) : Option Int :=
  let x := regionSensors r
  (List.range x.2).foldl (fun m k =>
    if s.flag F.AO_PKG_TEMP_VALID (x.1 + k) then
      let t := signed 16 (s.fld F.AO_PKG_TEMP_TEMP (x.1 + k))
      match m with
      | some u => some (max u t)
      | none => some t
    else m) none

/-- The greatest `w` below 2^n above `w0` with `w`^160 at most `top`. -/
def root160 (top : Nat) : Nat → Nat → Nat
  | 0, w => w
  | n + 1, w => root160 top n (if (w + 2 ^ n) ^ 160 ≤ top then w + 2 ^ n else w)

/-- 2^((T - 85)/10) in units of 2^-32, rounded down, for T in 1/16 C (R615; log entry 17). -/
def ageWeight (t : Int) : Nat := root160 (2 ^ (3760 + t).toNat) 64 0

/-- The weight of a region for a second; open where no sensor of it is valid. -/
def State.weight (s : State) (r : Nat) : State × Nat :=
  match s.hottestOf r with
  | none => (s.drawn, s.free)
  | some t =>
    let w := ageWeight t
    (s, if r = 0 ∨ (regionDomains r).any (fun d => s.power d != powGated) then w else w / 10)

/-- A second of a region's ageing. -/
def State.ageSecond (s : State) (r : Nat) : State :=
  let (s, w) := s.weight r
  let sum := Map.get 0 r s.tr.rest + w
  let h := (w :: Map.get [] r s.tr.hist).take 2592000
  ((s.bump F.AO_TR_AGE_AGE_EQ_H r (sum / 2 ^ 32)).withTr { s.tr with rest := Map.set 0 r (sum % 2 ^ 32) s.tr.rest, hist := Map.set [] r h s.tr.hist })

def execAgeTick (s : State) : Host.Outcome State Fault Refusal := .next (s.when s.powered (fun s => (List.range 9).foldl State.ageSecond s))

/-! ### Tightrope (R612 to R615) -/

/-- The delay growth of a monitor in 0.1 ps, and its LIMIT, where the calibration set holds both. -/
def State.growth (s : State) (m : Nat) : Option (Int × Nat) :=
  match s.calVal 5 (2 * m), s.calVal 5 (2 * m + 1) with
  | some d0, some l => some ((s.fld F.AO_TR_MON_D m : Int) - d0, l)
  | _, _ => none

/-- The growths of a region's monitors. -/
def State.growths (s : State) (r : Nat) : List (Option (Int × Nat)) :=
  let x := regionMons r
  (List.range x.2).map (fun k => s.growth (x.1 + k))

/-- Projected months of a monitor whose delay has grown (R615); `n` weights with sum `sum`. -/
def monthsOf (age n sum d l : Nat) : Nat := age * (l ^ 5 - d ^ 5) * 2 ^ 32 * n / (d ^ 5 * 2629800 * max sum 1)

/-- The least projection of a region, where some monitor has one. -/
def State.remain (s : State) (r : Nat) : Option Nat :=
  let h := Map.get [] r s.tr.hist
  let sum := h.foldl (· + ·) 0
  (s.growths r).foldl (fun m g =>
    match g with
    | some (d, l) =>
      if 0 < d then
        let v := monthsOf (s.fld F.AO_TR_AGE_AGE_EQ_H r) h.length sum d.toNat l
        match m with
        | some u => some (min u v)
        | none => some v
      else m
    | none => m) none

/-- VALID: 30 days of data, and every monitor's delay has grown. -/
def State.ageValid (s : State) (r : Nat) : Bool :=
  decide (2592000 ≤ (Map.get [] r s.tr.hist).length) && (s.growths r).all (fun g => match g with | some (d, _) => decide (0 < d) | none => false)

/-- Trim and ceiling step by step, one margin after another: the trim, the ceiling, the last margin. -/
def trimSteps (target : Int) (fixed : Bool) : List Nat → Int → Nat → Int → Int × Nat × Int
  | [], trim, ceil, m => (trim, ceil, m)
  | x :: xs, trim, ceil, m =>
    if target ≤ m then (trim, ceil, m)
    else if trim < 30 then trimSteps target fixed xs (trim + 1) ceil (signed 16 x)
    else if !fixed ∧ 4 < ceil then trimSteps target fixed xs trim (ceil - 1) (signed 16 x)
    else (trim, ceil, m)

/-- TARGET in 0.1 ps. -/
def State.trTarget (s : State) : Nat := 10 * min (max (s.fld F.AO_TR_CFG_TARGET) 5) 100

/-- Set a region's ceiling (R614). -/
def State.setCeil (s : State) (r c : Nat) : State :=
  let old := s.fld F.AO_TR_REGION_CEIL r
  if old = c then s else ((s.setFld F.AO_TR_REGION_CEIL r c).raise 81 [.w r, .w old, .w c]).showClocks

/-- The life projection of a region and its AGEING entry (R613 step 4, R615). -/
def State.project (s : State) (r : Nat) : State :=
  let was := s.flag F.AO_TR_REGION_VALID r && decide (s.fld F.AO_TR_REGION_REMAIN_MONTHS r < s.fld F.AO_TR_CFG_LIFE_WARN)
  let worst := (s.growths r).foldl (fun (a : Nat) g => match g with | some (d, _) => max a d.toNat | none => a) 0
  let s := (s.setFld F.AO_TR_REGION_WORST_DD r (min worst 65535)).setFlag F.AO_TR_REGION_VALID r (s.ageValid r)
  let s : State := match s.remain r with
    | some v => s.setFld F.AO_TR_REGION_REMAIN_MONTHS r (min v 1023)
    | none => (s.setFld F.AO_TR_REGION_REMAIN_MONTHS r s.free).drawn
  let rm := s.fld F.AO_TR_REGION_REMAIN_MONTHS r
  let s := if s.flag F.AO_TR_REGION_VALID r && decide (rm < s.fld F.AO_TR_CFG_LIFE_WARN) && !was then s.raise 82 [.w r, .w rm] else s
  let age := s.fld F.AO_TR_AGE_AGE_EQ_H r
  s.logEntry 8 0 0 1 [r, age % 2 ^ 32, age / 2 ^ 32, unsigned 32 (signed 6 (s.fld F.AO_TR_REGION_TRIM r)), s.fld F.AO_TR_REGION_CEIL r,
    s.fld F.AO_TR_REGION_WORST_DD r, rm,
    s.fld F.AO_TR_REGION_VALID r + 2 * s.fld F.AO_TR_REGION_END_OF_LIFE r + 4 * s.fld F.AO_TR_REGION_BASELINE_RESET r]

/-- A run over one region (R613). -/
def State.trimRegion (s : State) (r : Nat) (x : RegionTrim) : State :=
  match x.margins with
  | [] => s.project r
  | m :: ms =>
    let target : Int := s.trTarget
    let m0 := signed 16 m.val
    let out := trimSteps target (r == 0) (ms.map (·.val)) (signed 6 (s.fld F.AO_TR_REGION_TRIM r)) (s.fld F.AO_TR_REGION_CEIL r) m0
    let trim := if target + 150 < m0 then max (out.1 - 1) (-10) else out.1
    let ceil := if target ≤ out.2.2 ∧ x.room ∧ out.2.1 < 16 then out.2.1 + 1 else out.2.1
    let s := (s.setFld F.AO_TR_REGION_TRIM r (unsigned 6 trim)).setFld F.AO_TR_REGION_MARGIN r (unsigned 16 out.2.2)
    let s := s.setCeil r ceil
    let s := if out.2.2 < target ∧ trim = 30 ∧ ceil = 4 then
        ((s.setFlag F.AO_TR_REGION_END_OF_LIFE r true).condition 0x0A01 r []).raise 82 [.w r, .w (s.fld F.AO_TR_REGION_REMAIN_MONTHS r)]
      else s
    s.project r

/-- No run starts outside RUN, in a capacitance test, or in a calibration update; it is deferred (R612). -/
def State.trMay (s : State) : Bool := s.mode == .run && !s.flag F.AO_SUP_STATUS_TESTING && s.fld F.AO_CAL_STATUS_STATE == 0

/-- A run that is due begins, where none is under way (R612). -/
def State.trTick (s : State) : State :=
  if s.tr.due ∧ s.trMay ∧ !s.flag F.AO_TR_CFG_RUNNING then (s.withTr { s.tr with due := false }).setFlag F.AO_TR_CFG_RUNNING 0 true else s

/-- RUN_REQ asks for a run (R612, R624). -/
def State.trRequest (s : State) : State := (s.withTr { s.tr with due := true })

def execTightropeReq (who : Party) (s : State) : Host.Outcome State Fault Refusal := .next (s.when (s.admits who 0 10) State.trRequest)

/-- TIGHTROPE_TIMER: the run under way, or the one that is due, over the nine regions (R613); a trigger that came during a run leaves one further run due. -/
def State.tightrope (s : State) (mons : List MonReading) (trims : List RegionTrim) : State :=
  if !s.trMay ∧ !s.flag F.AO_TR_CFG_RUNNING then s.trRequest
  else
    let temps := (List.range 48).map (fun k => s.fld F.AO_PKG_TEMP_TEMP k)
    let s := (s.withTr { s.tr with due := s.tr.due && s.flag F.AO_TR_CFG_RUNNING, temps := temps }).setFlag F.AO_TR_CFG_RUNNING 0 false
    let s := mons.foldl (fun s x => (s.setFld F.AO_TR_MON_D x.mon.val x.delay.val).setFld F.AO_TR_MON_SLACK x.mon.val x.slack.val) s
    let s := (List.finRange 9).foldl (fun (s : State) r => s.trimRegion r.val ((trims.find? (·.region == r)).getD { region := r, margins := [], room := false })) s
    s.raise 80 [.w ((List.range 9).foldl (fun a r => min a (s.fld F.AO_TR_REGION_REMAIN_MONTHS r)) 1023)]

def execTightropeTimer (mons : List MonReading) (trims : List RegionTrim) (s : State) : Host.Outcome State Fault Refusal :=
  .next (s.when s.powered (·.tightrope mons trims))

/-! ### The calibration set (R616 to R619) -/

def State.calBank (s : State) (b : Nat) : CalBank := Map.get {} b s.cal.banks
def State.setCalBank (s : State) (b : Nat) (x : CalBank) : State := (s.withCal { s.cal with banks := Map.set {} b x s.cal.banks })

/-- The bank of the current set: valid, with the higher CAL_SEQ. -/
def State.calCurrent (s : State) : Option Nat :=
  match (s.calBank 0).valid, (s.calBank 1).valid with
  | true, true => some (if (s.calBank 0).seq < (s.calBank 1).seq then 1 else 0)
  | true, false => some 0
  | false, true => some 1
  | false, false => none

/-- The values of a section named by an index exist (R617). -/
def calIndex (sec ix : Nat) : Bool :=
  match sec with
  | 1 => decide (ix < 512)
  | 2 => decide (ix < 48)
  | 3 => decide (ix < 4)
  | 4 => decide (ix < 1536) && decide (ix % 16 < 10)
  | 5 => decide (ix < 480)
  | 6 => ix == 0
  | 7 => decide (ix < 2)
  | _ => false

/-- `n` records of an update list: section, index, value. -/
def calRecords (bs : List Byte) : Nat → List (Nat × Nat × Nat)
  | 0 => []
  | n + 1 => (leAt bs 0 1, leAt bs 2 2, leAt bs 4 4) :: calRecords (bs.drop 8) n

/-- The update list at its source; none where its format is refused. -/
def State.calList (s : State) (core : Bool) : Option (List (Nat × Nat × Nat)) :=
  let a := s.fld F.AO_CAL_ADDR_ADDR
  let read (o n : Nat) : List Byte := if core then s.memRead (a + o) n else cellsRead s.staging o n
  let h := read 0 16
  let n := leAt h 4 4
  if leAt h 0 4 ≠ 0x55504143 ∨ n = 0 ∨ 8192 < n ∨ (core ∧ !s.coreGood a (16 + 8 * n)) then none
  else
    let l := calRecords (read 16 (8 * n)) n
    if l.all (fun x => calIndex x.1 x.2.1) then some l else none

/-- An update ends: RESULT, IDLE, EV0083. -/
def State.calEnd (s : State) (result : Nat) : State :=
  let s := (s.setFld F.AO_CAL_STATUS_RESULT 0 result).setFld F.AO_CAL_STATUS_STATE 0 0
  (s.withCal { s.cal with upd := [] }).raise 83 [.w result, .w (s.fld F.AO_CAL_STATUS_CAL_SEQ)]

/-- CAL_UPDATE (R618 steps 1 and 2). -/
def State.calUpdate (s : State) (core : Bool) : State :=
  if s.fld F.AO_CAL_STATUS_STATE ≠ 0 then (s.setFld F.AO_CAL_STATUS_RESULT 0 1).raise 83 [.w 1, .w (s.fld F.AO_CAL_STATUS_CAL_SEQ)]
  else if s.mode ≠ .run ∧ s.mode ≠ .safetyNet then s.calEnd 2
  else match s.calList core with
    | none => s.calEnd 3
    | some l => ((s.setFld F.AO_CAL_STATUS_STATE 0 1).withCal { s.cal with upd := l })

def execCalUpdate (who : Party) (core : Bool) (s : State) : Host.Outcome State Fault Refusal := .next (s.when (s.admits who 0 11 true) (·.calUpdate core))

/-- Region of a monitor. -/
def monRegion (m : Nat) : Nat := (((List.range 9).filter (fun r => decide ((regionMons r).1 ≤ m))).getLast?).getD 0

/-- A changed ageing baseline of a region (R619). -/
def State.baseline (s : State) (r : Nat) : State :=
  let s := (((s.setFld F.AO_TR_AGE_AGE_EQ_H r 0).setFlag F.AO_TR_REGION_VALID r false).setFlag F.AO_TR_REGION_BASELINE_RESET r true)
  (s.withTr { s.tr with rest := Map.set 0 r 0 s.tr.rest, hist := Map.set [] r [] s.tr.hist })

/-- PRESET of the lanes a test picks, from the set (R76, R617). -/
def State.presets (s : State) (p : Nat → Bool) : State :=
  (List.range 512).foldl (fun s l =>
    if p l then match s.calVal 1 l with
      | some v => s.setFld F.PA_SERDES_LANE_EQ_PRESET l v
      | none => s
    else s) s

/-- What the new values do (R617). -/
def State.calEffects (s : State) (old : Map Nat) : State :=
  let changed (sec ix : Nat) : Bool := decide (Map.get 0 (65536 * sec + ix) old ≠ Map.get 0 (65536 * sec + ix) s.cal.vals)
  let s : State := match s.calVal 6 0 with
    | some v => if v < s.fld F.AO_SUP_CAP_C_USED then s.setFld F.AO_SUP_CAP_C_USED 0 v else s
    | none => s
  let s := if changed 7 0 ∨ changed 7 1 then s.setFlag F.AO_CAL_STATUS_CAL_PENDING 0 true else s
  let s := s.presets (fun l => changed 1 l)
  let rs := (List.range 9).filter (fun r => (List.range 480).any (fun i => monRegion (i / 2) == r && changed 5 i))
  let mask := rs.foldl (fun a r => a + 2 ^ r) 0
  let s := rs.foldl State.baseline s
  let secs := (List.range 8).foldl (fun a k => if s.cal.upd.any (fun x => x.1 == k && changed x.1 x.2.1) then a + 2 ^ k else a) 0
  let s := s.logEntry 9 0 0 1 [s.fld F.AO_CAL_STATUS_CAL_SEQ, secs, mask]
  if mask = 0 then s else s.raise 84 [.w mask]

/-- The update goes on (R618): building, the erase of the other bank, its programming, the erase of the old bank. -/
def State.calTick (s : State) : State :=
  let st := s.fld F.AO_CAL_STATUS_STATE
  if 0 < st ∧ st < 4 then s.setFld F.AO_CAL_STATUS_STATE 0 (st + 1) else s

/-- The new set of an update: the other bank, CAL_SEQ, the current set with the records applied in list order. -/
def State.calNew (s : State) : Nat × Nat × Map Nat :=
  let b := s.calCurrent
  let old := match b with | some b => (s.calBank b).vals | none => []
  (match b with | some b => 1 - b | none => 0, match b with | some b => (s.calBank b).seq + 1 | none => 1,
    s.cal.upd.foldl (fun (m : Map Nat) (x : Nat × Nat × Nat) => Map.set 0 (65536 * x.1 + x.2.1) (x.2.2 + 1) m) old)

/-- A power cut in an update (R618): a cut while the set is programmed leaves the header complete or not, one after it leaves the new set current. -/
def State.calCut (s : State) : State :=
  let st := s.fld F.AO_CAL_STATUS_STATE
  let n := s.calNew
  if st = 4 ∨ (st = 3 ∧ s.free % 2 = 1) then s.drawn.setCalBank n.1 { valid := true, seq := n.2.1, vals := n.2.2 } else s.drawn

/-- CAL_UPDATE_DONE (R618 steps 3 to 5). -/
def State.calDone (s : State) (r : FlashResult) : State :=
  if s.fld F.AO_CAL_STATUS_STATE = 0 then s
  else match r with
    | .error => (s.violate 0x0702 0 65 []).calEnd 4
    | .mismatch => (s.violate 0x0703 0 65 []).calEnd 4
    | .done =>
      let old := match s.calCurrent with | some b => (s.calBank b).vals | none => []
      let (other, seq, vals) := s.calNew
      let s := (s.setCalBank other { valid := true, seq := seq, vals := vals }).setCalBank (1 - other) {}
      let s := (s.withCal { s.cal with cur := other, vals := vals })
      let s := (s.setFld F.AO_CAL_STATUS_CAL_SEQ 0 seq).setFlag F.AO_CAL_STATUS_NO_CAL 0 false
      (s.calEffects old).calEnd 0

def execCalUpdateDone (flash : FlashResult) (s : State) : Host.Outcome State Fault Refusal := .next (s.calDone flash)

/-- An exit from RUN or SAFETY-NET ends an update in steps 1 to 3 of R618; after them it runs to its end. -/
def State.calExit (s : State) : State :=
  let st := s.fld F.AO_CAL_STATUS_STATE
  if st = 1 ∨ st = 2 then s.calEnd 2 else s

/-- The set is read at BOOT: any other bank is erased; with no valid bank, NO_CAL (R616). -/
def State.calBoot (s : State) : State :=
  match s.calCurrent with
  | some b =>
    let s := s.setCalBank (1 - b) {}
    let s := (s.withCal { s.cal with cur := b, vals := (s.calBank b).vals })
    (s.setFld F.AO_CAL_STATUS_CAL_SEQ 0 (s.calBank b).seq).setFlag F.AO_CAL_STATUS_NO_CAL 0 false
  | none =>
    let s := (s.withCal { s.cal with vals := [] })
    ((s.setFlag F.AO_CAL_STATUS_NO_CAL 0 true).condition 0x0B01 0 []).raise 83 [.w (s.fld F.AO_CAL_STATUS_RESULT), .w (s.fld F.AO_CAL_STATUS_CAL_SEQ)]

end Sys2Proof.Machine
end

