-- ==== Sys2Proof/Machine/Layout.lean ====
section
/-! DEFINITION. The register map (R676, R677): each register's name, internal address, copies and fields, as the chapters' own register tables place them. -/

namespace Sys2Proof.Machine

/-- The registers of the module, by the spec's names. -/
inductive Reg where

  | AO_DEVICE_ID | AO_MODULE_STATE | AO_MODULE_STATE_TS | AO_MODULE_CTRL | AO_TB_NOW | AO_TB_CTRL | AO_TB_RATE 
  | AO_TB_OFFSET | AO_TB_STATUS | AO_TB_SYNC_SET | AO_PPS_CTRL | AO_PPS_IN_TS | AO_WAKE_POLICY | AO_WAKE_STATUS 
  | AO_PROG_CMD | AO_PROG_TSWAP | AO_PROG_STATUS | AO_UCODE_CMD | AO_UCODE_STATUS | AO_SUP_CFG | AO_SUP_LIM | AO_SUP_STATUS 
  | AO_SUP_VIN | AO_SUP_IIN | AO_SUP_RESERVE | AO_SUP_CAP | AO_SUP_CAPTEST | AO_SUP_STAT | AO_PD_CTRL | AO_LED_CFG 
  | AO_LED_VMODEL | AO_LED_STATUS | AO_LED_EA | AO_LED_LP_EA | AO_LED_PD_EA | AO_BOOT_STATUS | AO_BOOT_SEQ_A | AO_BOOT_SEQ_B 
  | AO_BOOT_CTRL | AO_IMG_CMD | AO_IMG_ARG | AO_IMG_STATUS | AO_ATT_IN | AO_ATT_OUT | AO_ATT_PUBKEY | AO_SEAL_LABEL 
  | AO_ATT_CMD | AO_ATT_STATUS | AO_FUSE_STATUS | AO_FUSE_CMD | AO_SEAL_CMD | AO_FLT_CFG | AO_FLT_WDOG | AO_FLT_STATUS 
  | AO_FLT_LOCKVIOL | AO_FLT_REGION | AO_FLT_LOG_SEL | AO_FLT_LOG_UNIT | AO_FLT_LOG_DATA | AO_FLT_LOG_STATUS | AO_FLT_LOG_NEWEST 
  | AO_FLT_LOG_STAT | AO_TR_CFG | AO_TR_REGION | AO_TR_AGE | AO_TR_MON | AO_CAL_CMD | AO_CAL_STATUS | AO_CAL_ADDR 
  | AO_EVT_ROUTE | AO_DBG_CMD | AO_DBG_STATUS | AO_DBG_CHALLENGE | AO_CCR_CMD | AO_CCR_STATUS | AO_PKG_GPIO | AO_PKG_TEMP 
  | AO_PKG_THERM | AO_PKG_LID | AO_PKG_AUX | PA_SERDES_LANE_EQ | PA_MAC_PORT_CFG | PA_MAC_SUBPORT_CFG | PA_MAC_LINK_STATUS 
  | PA_MAC_LB_CFG | PA_MAC_LB_DROP | PA_MAC_CNT | PA_MACSEC_STAGE | PA_MACSEC_SA_CMD | PA_PRS_ST_CTL | PA_PRS_ST_ADV 
  | PA_PRS_ST_EXT | PA_PRS_ST_TR_MATCH | PA_PRS_ST_TR_NEXT | PA_PRS_START | PA_PRS_HASH_SEED | PA_PRS_HASH_HDR_VAL 
  | PA_PRS_HASH_HDR_MASK | PA_PRS_HASH_FIELDS | PA_PRS_HASH_PROTO | PA_PRS_IND | PA_PRS_CPU_TGT | PA_PRS_XPROF 
  | PA_PRS_CNT | FX_REPL_MIR_SESSION | FX_REPL_GROUP | FX_REPL_MEMBER | PA_LV_CELL_KONST | PA_LV_CELL_KEYPROF | PA_LV_CELL_EXC 
  | PA_LV_CELL_ECC | PA_LVC_PIPE_CFG | PA_LVC_PIPE_BR | PA_LVC_CNT_CTL | PA_LVC_CNT_PKTS | PA_LVC_CNT_BYTES | PA_LVC_DROP_CNT 
  | PA_LVC_EXC_CNT | PA_LVC_EGR_IGN | PA_LVC_PROG_STATUS | PA_LVC_FAULT_DISC | PA_MTR_CFG | PA_MTR_STAT | PD_STC_LINK 
  | PD_STC_CTRL | FX_BUF_CFG | FX_BUF_BG_STATUS | FX_ADM_STATUS | FX_ADM_FREE | FX_ADM_PORT | FX_ADM_SRC | FX_ADM_GSTAT 
  | FX_ADM_QCFG | FX_ADM_QSTAT | FX_TM_GATE_CFG | FX_TM_PORT_CFG | FX_TM_QDEPTH_SAMPLE | FX_TM_GSTAT | FX_TM_QSCHED 
  | FX_TM_QSTAT | FX_GCL_ENTRY | FX_TBE_TBL_CFG | FX_TBE_STAGE | FX_TBE_CMD_INDEX | FX_TBE_CMD | FX_TBE_RESULT 
  | FX_TBE_TBL_STAT | FX_TBE_TBL_STAT2 | FX_STC_SRC | FX_STC_ROUTE | FX_STC_STAT | MX_HBM_PART | MX_HBM_STACK_CTRL 
  | MX_HBM_ECC | CX_CPORT_CFG | CX_CPORT_NO_RING | CX_CORE_RELEASE | CX_CORE_ENTRY | CX_DBG_TRACE | HX_PCIE_LINK_CFG 
  | HX_PCIE_LINK_STATUS | HX_PCIE_FN_XLATE | HX_PCIE_TT | HX_PCIE_STAT | HX_RP_CFG | HX_RP_SUBLINK_CTRL | HX_RP_SUBLINK_STATUS 
  | HX_RP_STAT | HX_FN_REC | HX_FN_MGR | HX_FN_DLOG | HX_FN_VIOL | HX_RING_DISCARD | HX_HVP_CFG | HX_RING_CFG | HX_RING_AUX 
  | HX_RING_BASE | HX_RING_HEAD_ADDR | HX_RING_DB | HX_RING_CMD | HX_RING_STATUS | HX_RING_CCOUNT | HX_RING_DISP 
  | HX_RING_LOST | HX_RING_DBERR | HX_SQ_CTRL | HX_SQ_STATUS | HX_SQ_TRAPLOG | HX_SQ_TRAPLOG_IDX | HX_SQ_UCODE_VERSION 
  | HX_SQ_RELEASE | HX_SQ_PMATCH | HX_RMA_CFG | HX_RMA_STAT | HX_RMA_EP | HX_RMA_CONN | HX_RMA_TMPL | HX_STOR_NS 
  | HX_STOR_CFG | HX_STOR_STATUS | HX_STOR_REPLAY | HX_STOR_FN_PS | HX_STOR_STAT | HX_CIPH_CFG | HX_CIPH_ZSTATUS 
  | HX_CIPH_ZTS | HX_CIPH_NS | HX_CIPH_SLOT | HX_CIPH_STAT | HX_FNV_REC | HX_FNV_FI | HX_FNV_PBA | HX_FNV_MSIX 
  | PMU_CYCLE | PMU_PMC | PMU_PMC_EVT | PMU_PMC_OVF | PMU_UNIT_ID 
  deriving DecidableEq, Repr

/-- Where one field stands in its register: the least bit, counted from bit 0 of the register's first word. -/
structure Slot where
  lo : Nat
  fld : Fld

/-- One row of the register map.  `dims` gives the strides and counts of the copies, outermost first; `words` is the size of one copy in 32-bit words; `tenant` and `core` say which parties beside the supervisor and the manager reach it (R678). -/
structure RegRow where
  reg : Reg
  base : Nat
  dims : List (Nat × Nat)
  words : Nat
  tenant : Bool
  core : Bool
  slots : List Slot

/-- Part 0 of the register map. -/
def layout0 : List RegRow := [
  { reg := .AO_DEVICE_ID, base := 0x00000000, dims := [], words := 1, tenant := false, core := false,
    slots := [⟨16, F.AO_DEVICE_ID_PART⟩, ⟨8, F.AO_DEVICE_ID_REV⟩, ⟨0, F.AO_DEVICE_ID_DEVID⟩] },
  { reg := .AO_MODULE_STATE, base := 0x00000010, dims := [], words := 1, tenant := false, core := false,
    slots := [⟨24, F.AO_MODULE_STATE_CAUSE⟩, ⟨16, F.AO_MODULE_STATE_PENDING⟩, ⟨8, F.AO_MODULE_STATE_TRANSITIONS⟩, ⟨4, F.AO_MODULE_STATE_PREV⟩, ⟨0, F.AO_MODULE_STATE_STATE⟩] },
  { reg := .AO_MODULE_STATE_TS, base := 0x00000018, dims := [], words := 2, tenant := false, core := false,
    slots := [⟨0, F.AO_MODULE_STATE_TS_TS⟩] },
  { reg := .AO_MODULE_CTRL, base := 0x00000014, dims := [], words := 1, tenant := false, core := false,
    slots := [⟨16, F.AO_MODULE_CTRL_KEY⟩, ⟨2, F.AO_MODULE_CTRL_HALT_REQ⟩, ⟨1, F.AO_MODULE_CTRL_SNET_REQ⟩, ⟨0, F.AO_MODULE_CTRL_RESTART_REQ⟩] },
  { reg := .AO_TB_NOW, base := 0x00100000, dims := [], words := 2, tenant := false, core := false,
    slots := [⟨0, F.AO_TB_NOW_NOW⟩] },
  { reg := .AO_TB_CTRL, base := 0x00100008, dims := [], words := 1, tenant := false, core := false,
    slots := [⟨4, F.AO_TB_CTRL_SERVO_EN⟩, ⟨0, F.AO_TB_CTRL_REF_SEL⟩] },
  { reg := .AO_TB_RATE, base := 0x0010000C, dims := [], words := 1, tenant := false, core := false,
    slots := [⟨0, F.AO_TB_RATE_RATE⟩] },
  { reg := .AO_TB_OFFSET, base := 0x00100010, dims := [], words := 2, tenant := false, core := false,
    slots := [⟨0, F.AO_TB_OFFSET_OFFSET⟩] },
  { reg := .AO_TB_STATUS, base := 0x00100020, dims := [], words := 1, tenant := false, core := false,
    slots := [⟨12, F.AO_TB_STATUS_ERR_EST⟩, ⟨7, F.AO_TB_STATUS_SLEWING⟩, ⟨6, F.AO_TB_STATUS_TPLL_LOCK⟩, ⟨4, F.AO_TB_STATUS_REF_ACTIVE⟩, ⟨0, F.AO_TB_STATUS_SYNC⟩] },
  { reg := .AO_TB_SYNC_SET, base := 0x00100024, dims := [], words := 1, tenant := false, core := false,
    slots := [⟨12, F.AO_TB_SYNC_SET_ERR_EST⟩, ⟨0, F.AO_TB_SYNC_SET_SYNC⟩] },
  { reg := .AO_PPS_CTRL, base := 0x00100028, dims := [], words := 1, tenant := false, core := false,
    slots := [⟨16, F.AO_PPS_CTRL_WIDTH⟩, ⟨3, F.AO_PPS_CTRL_IN_POL⟩, ⟨2, F.AO_PPS_CTRL_IN_EN⟩, ⟨0, F.AO_PPS_CTRL_OUT_EN⟩] },
  { reg := .AO_PPS_IN_TS, base := 0x00100030, dims := [], words := 2, tenant := false, core := false,
    slots := [⟨0, F.AO_PPS_IN_TS_TS⟩] },
  { reg := .AO_WAKE_POLICY, base := 0x00200000, dims := [(0x4, 96)], words := 1, tenant := false, core := false,
    slots := [⟨16, F.AO_WAKE_POLICY_IDLE_TIME⟩, ⟨8, F.AO_WAKE_POLICY_WAKE_LEAD⟩, ⟨0, F.AO_WAKE_POLICY_MODE⟩] },
  { reg := .AO_WAKE_STATUS, base := 0x00200200, dims := [(0x4, 96)], words := 1, tenant := false, core := false,
    slots := [⟨16, F.AO_WAKE_STATUS_WAKES⟩, ⟨7, F.AO_WAKE_STATUS_LATE⟩, ⟨6, F.AO_WAKE_STATUS_PINNED⟩, ⟨0, F.AO_WAKE_STATUS_POWER⟩] },
  { reg := .AO_PROG_CMD, base := 0x00300000, dims := [], words := 1, tenant := false, core := false,
    slots := [⟨28, F.AO_PROG_CMD_OP⟩, ⟨0, F.AO_PROG_CMD_PAGES⟩] },
  { reg := .AO_PROG_TSWAP, base := 0x00300008, dims := [], words := 2, tenant := false, core := false,
    slots := [⟨0, F.AO_PROG_TSWAP_TSWAP⟩] },
  { reg := .AO_PROG_STATUS, base := 0x00300010, dims := [], words := 1, tenant := false, core := false,
    slots := [⟨29, F.AO_PROG_STATUS_STATE⟩, ⟨28, F.AO_PROG_STATUS_LGEN⟩, ⟨16, F.AO_PROG_STATUS_RESULT⟩, ⟨0, F.AO_PROG_STATUS_SEQ⟩] },
  { reg := .AO_UCODE_CMD, base := 0x00300020, dims := [], words := 1, tenant := false, core := false,
    slots := [⟨28, F.AO_UCODE_CMD_OP⟩, ⟨0, F.AO_UCODE_CMD_PAGES⟩] },
  { reg := .AO_UCODE_STATUS, base := 0x00300024, dims := [], words := 1, tenant := false, core := false,
    slots := [⟨29, F.AO_UCODE_STATUS_STATE⟩, ⟨16, F.AO_UCODE_STATUS_RESULT⟩, ⟨0, F.AO_UCODE_STATUS_SEQ⟩] },
  { reg := .AO_SUP_CFG, base := 0x00400000, dims := [], words := 1, tenant := false, core := false,
    slots := [⟨22, F.AO_SUP_CFG_VHOLD⟩, ⟨12, F.AO_SUP_CFG_VVAULT⟩, ⟨2, F.AO_SUP_CFG_VFLOOR⟩] },
  { reg := .AO_SUP_LIM, base := 0x00400004, dims := [], words := 1, tenant := false, core := false,
    slots := [⟨26, F.AO_SUP_LIM_HYST⟩, ⟨16, F.AO_SUP_LIM_DWELL⟩, ⟨8, F.AO_SUP_LIM_I_CAP⟩, ⟨7, F.AO_SUP_LIM_TEST_EN⟩, ⟨4, F.AO_SUP_LIM_DERATE⟩] },
  { reg := .AO_SUP_STATUS, base := 0x00400010, dims := [], words := 1, tenant := false, core := false,
    slots := [⟨7, F.AO_SUP_STATUS_OV⟩, ⟨6, F.AO_SUP_STATUS_BACKSTOP⟩, ⟨5, F.AO_SUP_STATUS_TESTING⟩, ⟨4, F.AO_SUP_STATUS_CAP_SRC⟩, ⟨3, F.AO_SUP_STATUS_BANK_LOW⟩, ⟨2, F.AO_SUP_STATUS_ISO⟩, ⟨1, F.AO_SUP_STATUS_ALARM⟩, ⟨0, F.AO_SUP_STATUS_BELOW_VHOLD⟩] },
  { reg := .AO_SUP_VIN, base := 0x00400014, dims := [], words := 1, tenant := false, core := false,
    slots := [⟨16, F.AO_SUP_VIN_VIN_MV⟩, ⟨0, F.AO_SUP_VIN_BANK_MV⟩] },
  { reg := .AO_SUP_IIN, base := 0x00400018, dims := [], words := 1, tenant := false, core := false,
    slots := [⟨0, F.AO_SUP_IIN_IIN_MA⟩] },
  { reg := .AO_SUP_RESERVE, base := 0x00400020, dims := [], words := 1, tenant := false, core := false,
    slots := [⟨0, F.AO_SUP_RESERVE_RESERVE⟩] }]

/-- Part 1 of the register map. -/
def layout1 : List RegRow := [
  { reg := .AO_SUP_CAP, base := 0x00400024, dims := [], words := 1, tenant := false, core := false,
    slots := [⟨0, F.AO_SUP_CAP_C_USED⟩] },
  { reg := .AO_SUP_CAPTEST, base := 0x00400028, dims := [], words := 1, tenant := false, core := false,
    slots := [⟨24, F.AO_SUP_CAPTEST_RESULT⟩, ⟨0, F.AO_SUP_CAPTEST_START⟩] },
  { reg := .AO_SUP_STAT, base := 0x00400100, dims := [(0x8, 8)], words := 2, tenant := false, core := false,
    slots := [⟨0, F.AO_SUP_STAT_COUNT⟩] },
  { reg := .AO_PD_CTRL, base := 0x00500000, dims := [(0x4, 96)], words := 1, tenant := false, core := false,
    slots := [⟨31, F.AO_PD_CTRL_FORCE_OFF⟩, ⟨30, F.AO_PD_CTRL_REFUSED⟩, ⟨0, F.AO_PD_CTRL_BLOCKED⟩] },
  { reg := .AO_LED_CFG, base := 0x00600000, dims := [], words := 1, tenant := false, core := false,
    slots := [⟨26, F.AO_LED_CFG_CERT_FRAC⟩, ⟨22, F.AO_LED_CFG_RT_THR⟩] },
  { reg := .AO_LED_VMODEL, base := 0x00600004, dims := [], words := 1, tenant := false, core := false,
    slots := [⟨16, F.AO_LED_VMODEL_VAULT_BASE⟩, ⟨0, F.AO_LED_VMODEL_E_REC⟩] },
  { reg := .AO_LED_STATUS, base := 0x00600010, dims := [], words := 6, tenant := false, core := false,
    slots := [⟨31, F.AO_LED_STATUS_CERT_HOLD⟩, ⟨30, F.AO_LED_STATUS_MODEL_DRIFT⟩, ⟨0, F.AO_LED_STATUS_CERT_LIMIT⟩, ⟨32, F.AO_LED_STATUS_DIRTY_REQ⟩, ⟨64, F.AO_LED_STATUS_CERT_BASIS⟩, ⟨96, F.AO_LED_STATUS_SNAP_AGE⟩, ⟨128, F.AO_LED_STATUS_E_IN⟩] },
  { reg := .AO_LED_EA, base := 0x00601000, dims := [(0x40, 256)], words := 11, tenant := false, core := false,
    slots := [⟨31, F.AO_LED_EA_EN⟩, ⟨16, F.AO_LED_EA_BE_CLASSES⟩, ⟨0, F.AO_LED_EA_CEIL⟩, ⟨48, F.AO_LED_EA_PERIOD⟩, ⟨64, F.AO_LED_EA_BUDGET⟩, ⟨128, F.AO_LED_EA_USED⟩, ⟨192, F.AO_LED_EA_TOTAL⟩, ⟨256, F.AO_LED_EA_OVERRUN⟩, ⟨348, F.AO_LED_EA_THR⟩, ⟨347, F.AO_LED_EA_OVER_CEIL⟩, ⟨346, F.AO_LED_EA_OVER_BUDGET⟩, ⟨320, F.AO_LED_EA_LAST_CAUSE⟩] },
  { reg := .AO_LED_LP_EA, base := 0x00605000, dims := [(0x4, 541)], words := 1, tenant := false, core := false,
    slots := [⟨0, F.AO_LED_LP_EA_EA⟩] },
  { reg := .AO_LED_PD_EA, base := 0x00606000, dims := [(0x4, 96)], words := 1, tenant := false, core := false,
    slots := [⟨0, F.AO_LED_PD_EA_EA⟩] },
  { reg := .AO_BOOT_STATUS, base := 0x00700000, dims := [], words := 1, tenant := false, core := false,
    slots := [⟨31, F.AO_BOOT_STATUS_UNVERIFIED⟩, ⟨30, F.AO_BOOT_STATUS_SLOT_TIE⟩, ⟨29, F.AO_BOOT_STATUS_FALLBACK⟩, ⟨28, F.AO_BOOT_STATUS_SLOT⟩, ⟨27, F.AO_BOOT_STATUS_A_VALID⟩, ⟨26, F.AO_BOOT_STATUS_B_VALID⟩, ⟨25, F.AO_BOOT_STATUS_A_DEMOTED⟩, ⟨24, F.AO_BOOT_STATUS_B_DEMOTED⟩, ⟨20, F.AO_BOOT_STATUS_VERIFY⟩, ⟨16, F.AO_BOOT_STATUS_FAILS⟩, ⟨8, F.AO_BOOT_STATUS_REASON⟩] },
  { reg := .AO_BOOT_SEQ_A, base := 0x00700008, dims := [], words := 1, tenant := false, core := false,
    slots := [⟨0, F.AO_BOOT_SEQ_A_SEQ⟩] },
  { reg := .AO_BOOT_SEQ_B, base := 0x0070000C, dims := [], words := 1, tenant := false, core := false,
    slots := [⟨0, F.AO_BOOT_SEQ_B_SEQ⟩] },
  { reg := .AO_BOOT_CTRL, base := 0x00700004, dims := [], words := 1, tenant := false, core := false,
    slots := [⟨31, F.AO_BOOT_CTRL_READY⟩, ⟨1, F.AO_BOOT_CTRL_CLR_DEMOTE_B⟩, ⟨0, F.AO_BOOT_CTRL_CLR_DEMOTE_A⟩] },
  { reg := .AO_IMG_CMD, base := 0x00700010, dims := [], words := 1, tenant := false, core := false,
    slots := [⟨28, F.AO_IMG_CMD_OP⟩, ⟨27, F.AO_IMG_CMD_SLOT⟩, ⟨0, F.AO_IMG_CMD_PAGES⟩] },
  { reg := .AO_IMG_ARG, base := 0x00700014, dims := [], words := 1, tenant := false, core := false,
    slots := [⟨0, F.AO_IMG_ARG_OFFSET⟩] },
  { reg := .AO_IMG_STATUS, base := 0x00700018, dims := [], words := 1, tenant := false, core := false,
    slots := [⟨29, F.AO_IMG_STATUS_STATE⟩, ⟨28, F.AO_IMG_STATUS_SIG_OK⟩, ⟨16, F.AO_IMG_STATUS_RESULT⟩, ⟨0, F.AO_IMG_STATUS_SEQ⟩] },
  { reg := .AO_ATT_IN, base := 0x00800100, dims := [(0x4, 24)], words := 1, tenant := false, core := false,
    slots := [⟨0, F.AO_ATT_IN_WORD⟩] },
  { reg := .AO_ATT_OUT, base := 0x00801000, dims := [(0x4, 384)], words := 1, tenant := false, core := false,
    slots := [⟨0, F.AO_ATT_OUT_WORD⟩] },
  { reg := .AO_ATT_PUBKEY, base := 0x00802000, dims := [(0x4, 449)], words := 1, tenant := false, core := false,
    slots := [⟨0, F.AO_ATT_PUBKEY_WORD⟩] },
  { reg := .AO_SEAL_LABEL, base := 0x00800020, dims := [], words := 1, tenant := false, core := false,
    slots := [⟨0, F.AO_SEAL_LABEL_LABEL⟩] },
  { reg := .AO_ATT_CMD, base := 0x00800000, dims := [], words := 1, tenant := false, core := false,
    slots := [⟨28, F.AO_ATT_CMD_OP⟩] },
  { reg := .AO_ATT_STATUS, base := 0x00800004, dims := [], words := 1, tenant := false, core := false,
    slots := [⟨31, F.AO_ATT_STATUS_BUSY⟩, ⟨30, F.AO_ATT_STATUS_READY⟩, ⟨16, F.AO_ATT_STATUS_RESULT⟩, ⟨8, F.AO_ATT_STATUS_SEAL_RESULT⟩] },
  { reg := .AO_FUSE_STATUS, base := 0x00800010, dims := [], words := 1, tenant := false, core := false,
    slots := [⟨16, F.AO_FUSE_STATUS_FLOOR⟩, ⟨12, F.AO_FUSE_STATUS_RESULT⟩, ⟨8, F.AO_FUSE_STATUS_REVOKED⟩, ⟨0, F.AO_FUSE_STATUS_ROOTS_SET⟩] },
  { reg := .AO_FUSE_CMD, base := 0x00800014, dims := [], words := 1, tenant := false, core := false,
    slots := [⟨16, F.AO_FUSE_CMD_KEY⟩, ⟨12, F.AO_FUSE_CMD_OP⟩, ⟨0, F.AO_FUSE_CMD_ROOT⟩] }]

/-- Part 2 of the register map. -/
def layout2 : List RegRow := [
  { reg := .AO_SEAL_CMD, base := 0x00800024, dims := [], words := 1, tenant := false, core := false,
    slots := [⟨28, F.AO_SEAL_CMD_OP⟩, ⟨24, F.AO_SEAL_CMD_MODE⟩, ⟨0, F.AO_SEAL_CMD_SLOT⟩] },
  { reg := .AO_FLT_CFG, base := 0x00900000, dims := [], words := 1, tenant := false, core := false,
    slots := [⟨16, F.AO_FLT_CFG_WD_PERIOD⟩, ⟨4, F.AO_FLT_CFG_RR_LIMIT⟩, ⟨0, F.AO_FLT_CFG_MF_LIMIT⟩] },
  { reg := .AO_FLT_WDOG, base := 0x00900004, dims := [], words := 1, tenant := false, core := false,
    slots := [⟨0, F.AO_FLT_WDOG_KICK⟩] },
  { reg := .AO_FLT_STATUS, base := 0x00900008, dims := [], words := 1, tenant := false, core := false,
    slots := [⟨28, F.AO_FLT_STATUS_MF_COUNT⟩, ⟨0, F.AO_FLT_STATUS_LAST_MF⟩] },
  { reg := .AO_FLT_LOCKVIOL, base := 0x00900040, dims := [(0x8, 1)], words := 2, tenant := false, core := false,
    slots := [⟨0, F.AO_FLT_LOCKVIOL_COUNT⟩] },
  { reg := .AO_FLT_REGION, base := 0x00900010, dims := [(0x4, 9)], words := 1, tenant := false, core := false,
    slots := [⟨31, F.AO_FLT_REGION_REQ⟩, ⟨30, F.AO_FLT_REGION_RESETTING⟩, ⟨26, F.AO_FLT_REGION_RESETS_HOUR⟩, ⟨16, F.AO_FLT_REGION_FENCED⟩, ⟨0, F.AO_FLT_REGION_LAST_CAUSE⟩] },
  { reg := .AO_FLT_LOG_SEL, base := 0x00900100, dims := [], words := 1, tenant := false, core := false,
    slots := [⟨0, F.AO_FLT_LOG_SEL_SEQ⟩] },
  { reg := .AO_FLT_LOG_UNIT, base := 0x00900104, dims := [], words := 1, tenant := false, core := false,
    slots := [⟨0, F.AO_FLT_LOG_UNIT_UNIT⟩] },
  { reg := .AO_FLT_LOG_DATA, base := 0x00900140, dims := [(0x4, 16)], words := 1, tenant := false, core := false,
    slots := [⟨0, F.AO_FLT_LOG_DATA_WORD⟩] },
  { reg := .AO_FLT_LOG_STATUS, base := 0x00900108, dims := [], words := 1, tenant := false, core := false,
    slots := [⟨31, F.AO_FLT_LOG_STATUS_HELD⟩] },
  { reg := .AO_FLT_LOG_NEWEST, base := 0x0090010C, dims := [], words := 1, tenant := false, core := false,
    slots := [⟨0, F.AO_FLT_LOG_NEWEST_NEWEST⟩] },
  { reg := .AO_FLT_LOG_STAT, base := 0x00900200, dims := [(0x8, 5)], words := 2, tenant := false, core := false,
    slots := [⟨0, F.AO_FLT_LOG_STAT_COUNT⟩] },
  { reg := .AO_TR_CFG, base := 0x00A00000, dims := [], words := 1, tenant := false, core := false,
    slots := [⟨31, F.AO_TR_CFG_RUN_REQ⟩, ⟨30, F.AO_TR_CFG_RUNNING⟩, ⟨16, F.AO_TR_CFG_TARGET⟩, ⟨0, F.AO_TR_CFG_LIFE_WARN⟩] },
  { reg := .AO_TR_REGION, base := 0x00A00010, dims := [(0x8, 9)], words := 2, tenant := false, core := false,
    slots := [⟨26, F.AO_TR_REGION_TRIM⟩, ⟨21, F.AO_TR_REGION_CEIL⟩, ⟨20, F.AO_TR_REGION_END_OF_LIFE⟩, ⟨19, F.AO_TR_REGION_BASELINE_RESET⟩, ⟨18, F.AO_TR_REGION_VALID⟩, ⟨0, F.AO_TR_REGION_REMAIN_MONTHS⟩, ⟨48, F.AO_TR_REGION_MARGIN⟩, ⟨32, F.AO_TR_REGION_WORST_DD⟩] },
  { reg := .AO_TR_AGE, base := 0x00A00100, dims := [(0x8, 9)], words := 2, tenant := false, core := false,
    slots := [⟨0, F.AO_TR_AGE_AGE_EQ_H⟩] },
  { reg := .AO_TR_MON, base := 0x00A00400, dims := [(0x4, 240)], words := 1, tenant := false, core := false,
    slots := [⟨16, F.AO_TR_MON_D⟩, ⟨0, F.AO_TR_MON_SLACK⟩] },
  { reg := .AO_CAL_CMD, base := 0x00B00000, dims := [], words := 1, tenant := false, core := true,
    slots := [⟨28, F.AO_CAL_CMD_OP⟩, ⟨27, F.AO_CAL_CMD_SRC⟩] },
  { reg := .AO_CAL_STATUS, base := 0x00B00004, dims := [], words := 1, tenant := false, core := true,
    slots := [⟨29, F.AO_CAL_STATUS_STATE⟩, ⟨28, F.AO_CAL_STATUS_NO_CAL⟩, ⟨27, F.AO_CAL_STATUS_CAL_PENDING⟩, ⟨16, F.AO_CAL_STATUS_RESULT⟩, ⟨0, F.AO_CAL_STATUS_CAL_SEQ⟩] },
  { reg := .AO_CAL_ADDR, base := 0x00B00008, dims := [], words := 2, tenant := false, core := true,
    slots := [⟨0, F.AO_CAL_ADDR_ADDR⟩] },
  { reg := .AO_EVT_ROUTE, base := 0x00C00000, dims := [(0x10, 1024)], words := 3, tenant := false, core := false,
    slots := [⟨31, F.AO_EVT_ROUTE_IRQ_EN⟩, ⟨30, F.AO_EVT_ROUTE_RING_EN⟩, ⟨28, F.AO_EVT_ROUTE_IRQ_KIND⟩, ⟨20, F.AO_EVT_ROUTE_HOLDOFF⟩, ⟨19, F.AO_EVT_ROUTE_TRACE⟩, ⟨0, F.AO_EVT_ROUTE_RING⟩, ⟨59, F.AO_EVT_ROUTE_CORE⟩, ⟨48, F.AO_EVT_ROUTE_VEC⟩, ⟨32, F.AO_EVT_ROUTE_IDENTITY⟩, ⟨80, F.AO_EVT_ROUTE_COUNT⟩, ⟨68, F.AO_EVT_ROUTE_NO_RING⟩, ⟨64, F.AO_EVT_ROUTE_PENDING⟩] },
  { reg := .AO_DBG_CMD, base := 0x00D00000, dims := [], words := 1, tenant := false, core := false,
    slots := [⟨28, F.AO_DBG_CMD_OP⟩, ⟨27, F.AO_DBG_CMD_SRC⟩] },
  { reg := .AO_DBG_STATUS, base := 0x00D00004, dims := [], words := 1, tenant := false, core := false,
    slots := [⟨31, F.AO_DBG_STATUS_STATE⟩, ⟨28, F.AO_DBG_STATUS_SCOPE⟩, ⟨27, F.AO_DBG_STATUS_DEBUG_SINCE_BOOT⟩, ⟨26, F.AO_DBG_STATUS_SUPV_LOCK⟩, ⟨16, F.AO_DBG_STATUS_RESULT⟩, ⟨0, F.AO_DBG_STATUS_SEQ⟩] },
  { reg := .AO_DBG_CHALLENGE, base := 0x00D00010, dims := [(0x4, 4)], words := 1, tenant := false, core := false,
    slots := [⟨0, F.AO_DBG_CHALLENGE_WORD⟩] },
  { reg := .AO_CCR_CMD, base := 0x00E00000, dims := [], words := 1, tenant := false, core := false,
    slots := [⟨28, F.AO_CCR_CMD_OP⟩, ⟨27, F.AO_CCR_CMD_DEST⟩, ⟨0, F.AO_CCR_CMD_REGIONS⟩] },
  { reg := .AO_CCR_STATUS, base := 0x00E00004, dims := [], words := 1, tenant := false, core := false,
    slots := [⟨31, F.AO_CCR_STATUS_STATE⟩, ⟨16, F.AO_CCR_STATUS_RESULT⟩, ⟨0, F.AO_CCR_STATUS_SEQ⟩] }]

/-- Part 3 of the register map. -/
def layout3 : List RegRow := [
  { reg := .AO_PKG_GPIO, base := 0x01000000, dims := [(0x4, 16)], words := 1, tenant := false, core := true,
    slots := [⟨6, F.AO_PKG_GPIO_EDGE⟩, ⟨4, F.AO_PKG_GPIO_FUNC⟩, ⟨3, F.AO_PKG_GPIO_OE⟩, ⟨2, F.AO_PKG_GPIO_OUT⟩, ⟨1, F.AO_PKG_GPIO_IN⟩, ⟨0, F.AO_PKG_GPIO_OD⟩] },
  { reg := .AO_PKG_TEMP, base := 0x01000100, dims := [(0x4, 48)], words := 1, tenant := false, core := true,
    slots := [⟨31, F.AO_PKG_TEMP_VALID⟩, ⟨0, F.AO_PKG_TEMP_TEMP⟩] },
  { reg := .AO_PKG_THERM, base := 0x01000200, dims := [], words := 1, tenant := false, core := false,
    slots := [⟨24, F.AO_PKG_THERM_WARN⟩, ⟨16, F.AO_PKG_THERM_HOTTEST⟩, ⟨1, F.AO_PKG_THERM_TRIPPED⟩, ⟨0, F.AO_PKG_THERM_WARNING⟩] },
  { reg := .AO_PKG_LID, base := 0x01000204, dims := [], words := 1, tenant := false, core := false,
    slots := [⟨31, F.AO_PKG_LID_BREACH⟩, ⟨30, F.AO_PKG_LID_INTACT⟩] },
  { reg := .AO_PKG_AUX, base := 0x01000208, dims := [], words := 1, tenant := false, core := false,
    slots := [⟨1, F.AO_PKG_AUX_V3P3_FAULT⟩, ⟨0, F.AO_PKG_AUX_V1P8_FAULT⟩] },
  { reg := .PA_SERDES_LANE_EQ, base := 0x10000000, dims := [(0x10000000, 4), (0x20, 128)], words := 1, tenant := false, core := false,
    slots := [⟨24, F.PA_SERDES_LANE_EQ_RX_EYE⟩, ⟨16, F.PA_SERDES_LANE_EQ_TX_TAPS_IDX⟩, ⟨8, F.PA_SERDES_LANE_EQ_TRAIN_EN⟩, ⟨0, F.PA_SERDES_LANE_EQ_PRESET⟩] },
  { reg := .PA_MAC_PORT_CFG, base := 0x10100000, dims := [(0x10000000, 4), (0x40, 32)], words := 1, tenant := false, core := false,
    slots := [⟨3, F.PA_MAC_PORT_CFG_STITCH⟩, ⟨0, F.PA_MAC_PORT_CFG_BREAKOUT⟩] },
  { reg := .PA_MAC_SUBPORT_CFG, base := 0x10100010, dims := [(0x10000000, 4), (0x40, 32), (0x4, 4)], words := 1, tenant := false, core := false,
    slots := [⟨31, F.PA_MAC_SUBPORT_CFG_EN⟩, ⟨30, F.PA_MAC_SUBPORT_CFG_AN_EN⟩, ⟨29, F.PA_MAC_SUBPORT_CFG_LPI_EN⟩, ⟨28, F.PA_MAC_SUBPORT_CFG_MACSEC_EN⟩, ⟨14, F.PA_MAC_SUBPORT_CFG_MAX_FRAME⟩, ⟨8, F.PA_MAC_SUBPORT_CFG_FEC⟩, ⟨0, F.PA_MAC_SUBPORT_CFG_SPEED⟩] },
  { reg := .PA_MAC_LINK_STATUS, base := 0x10100020, dims := [(0x10000000, 4), (0x40, 32), (0x4, 4)], words := 1, tenant := false, core := false,
    slots := [⟨24, F.PA_MAC_LINK_STATUS_FLAPS⟩, ⟨20, F.PA_MAC_LINK_STATUS_FEC_RES⟩, ⟨16, F.PA_MAC_LINK_STATUS_SPEED_RES⟩, ⟨7, F.PA_MAC_LINK_STATUS_TX_LPI⟩, ⟨6, F.PA_MAC_LINK_STATUS_RX_LPI⟩, ⟨5, F.PA_MAC_LINK_STATUS_REMOTE_FAULT⟩, ⟨4, F.PA_MAC_LINK_STATUS_LOCAL_FAULT⟩, ⟨0, F.PA_MAC_LINK_STATUS_STATE⟩] },
  { reg := .PA_MAC_LB_CFG, base := 0x10102000, dims := [(0x10000000, 4), (0x4, 32)], words := 1, tenant := false, core := false,
    slots := [⟨16, F.PA_MAC_LB_CFG_SCHED_SRC⟩, ⟨0, F.PA_MAC_LB_CFG_SIZE⟩] },
  { reg := .PA_MAC_LB_DROP, base := 0x10102100, dims := [(0x10000000, 4), (0x8, 32)], words := 2, tenant := false, core := false,
    slots := [⟨0, F.PA_MAC_LB_DROP_COUNT⟩] },
  { reg := .PA_MAC_CNT, base := 0x10104000, dims := [(0x10000000, 4), (0x100, 128), (0x8, 31)], words := 2, tenant := false, core := false,
    slots := [⟨0, F.PA_MAC_CNT_COUNT⟩] },
  { reg := .PA_MACSEC_STAGE, base := 0x1010C000, dims := [(0x10000000, 4), (0x4, 16)], words := 1, tenant := false, core := false,
    slots := [⟨0, F.PA_MACSEC_STAGE_WORD⟩] },
  { reg := .PA_MACSEC_SA_CMD, base := 0x1010C040, dims := [(0x10000000, 4)], words := 1, tenant := false, core := false,
    slots := [⟨30, F.PA_MACSEC_SA_CMD_OP⟩, ⟨29, F.PA_MACSEC_SA_CMD_DIR⟩, ⟨24, F.PA_MACSEC_SA_CMD_PORT⟩, ⟨20, F.PA_MACSEC_SA_CMD_SC⟩, ⟨18, F.PA_MACSEC_SA_CMD_AN⟩, ⟨16, F.PA_MACSEC_SA_CMD_SUITE⟩, ⟨0, F.PA_MACSEC_SA_CMD_TX_USE⟩] },
  { reg := .PA_PRS_ST_CTL, base := 0x10200000, dims := [(0x10000000, 4), (0x100, 64)], words := 1, tenant := false, core := true,
    slots := [⟨26, F.PA_PRS_ST_CTL_DEFAULT_NEXT⟩, ⟨25, F.PA_PRS_ST_CTL_END⟩, ⟨24, F.PA_PRS_ST_CTL_HDR_EN⟩, ⟨19, F.PA_PRS_ST_CTL_HDR_BIT⟩, ⟨15, F.PA_PRS_ST_CTL_SEL_W⟩, ⟨4, F.PA_PRS_ST_CTL_SEL_OFF⟩, ⟨3, F.PA_PRS_ST_CTL_DEF_END⟩] },
  { reg := .PA_PRS_ST_ADV, base := 0x10200004, dims := [(0x10000000, 4), (0x100, 64)], words := 1, tenant := false, core := true,
    slots := [⟨24, F.PA_PRS_ST_ADV_ADV_CONST⟩, ⟨22, F.PA_PRS_ST_ADV_ADV_SCALE⟩, ⟨21, F.PA_PRS_ST_ADV_ADV_FIELD_EN⟩, ⟨18, F.PA_PRS_ST_ADV_ADV_FIELD_W⟩, ⟨7, F.PA_PRS_ST_ADV_ADV_FIELD_OFF⟩] },
  { reg := .PA_PRS_ST_EXT, base := 0x10200010, dims := [(0x10000000, 4), (0x100, 64), (0x4, 4)], words := 1, tenant := false, core := true,
    slots := [⟨31, F.PA_PRS_ST_EXT_EN⟩, ⟨24, F.PA_PRS_ST_EXT_DST⟩, ⟨13, F.PA_PRS_ST_EXT_OFF⟩, ⟨8, F.PA_PRS_ST_EXT_W⟩, ⟨6, F.PA_PRS_ST_EXT_MODE⟩] },
  { reg := .PA_PRS_ST_TR_MATCH, base := 0x10200080, dims := [(0x10000000, 4), (0x100, 64), (0x8, 16)], words := 1, tenant := false, core := true,
    slots := [⟨16, F.PA_PRS_ST_TR_MATCH_VALUE⟩, ⟨0, F.PA_PRS_ST_TR_MATCH_MASK⟩] },
  { reg := .PA_PRS_ST_TR_NEXT, base := 0x10200084, dims := [(0x10000000, 4), (0x100, 64), (0x8, 16)], words := 1, tenant := false, core := true,
    slots := [⟨31, F.PA_PRS_ST_TR_NEXT_VALID⟩, ⟨30, F.PA_PRS_ST_TR_NEXT_END⟩, ⟨0, F.PA_PRS_ST_TR_NEXT_NEXT⟩] },
  { reg := .PA_PRS_START, base := 0x10204000, dims := [(0x10000000, 4), (0x4, 129)], words := 1, tenant := false, core := true,
    slots := [⟨0, F.PA_PRS_START_STATE⟩] },
  { reg := .PA_PRS_HASH_SEED, base := 0x10207FF0, dims := [(0x10000000, 4)], words := 1, tenant := false, core := true,
    slots := [⟨0, F.PA_PRS_HASH_SEED_SEED⟩] },
  { reg := .PA_PRS_HASH_HDR_VAL, base := 0x10208000, dims := [(0x10000000, 4), (0x10, 8)], words := 1, tenant := false, core := true,
    slots := [⟨0, F.PA_PRS_HASH_HDR_VAL_VAL⟩] },
  { reg := .PA_PRS_HASH_HDR_MASK, base := 0x10208004, dims := [(0x10000000, 4), (0x10, 8)], words := 1, tenant := false, core := true,
    slots := [⟨0, F.PA_PRS_HASH_HDR_MASK_MASK⟩] },
  { reg := .PA_PRS_HASH_FIELDS, base := 0x10208008, dims := [(0x10000000, 4), (0x10, 8)], words := 1, tenant := false, core := true,
    slots := [⟨31, F.PA_PRS_HASH_FIELDS_EN⟩, ⟨24, F.PA_PRS_HASH_FIELDS_ADDR_A⟩, ⟨17, F.PA_PRS_HASH_FIELDS_ADDR_B⟩, ⟨15, F.PA_PRS_HASH_FIELDS_ADDR_N⟩, ⟨14, F.PA_PRS_HASH_FIELDS_PORT_EN⟩, ⟨7, F.PA_PRS_HASH_FIELDS_PORTS⟩] },
  { reg := .PA_PRS_HASH_PROTO, base := 0x1020800C, dims := [(0x10000000, 4), (0x10, 8)], words := 1, tenant := false, core := true,
    slots := [⟨8, F.PA_PRS_HASH_PROTO_TABLE⟩, ⟨7, F.PA_PRS_HASH_PROTO_PROTO_EN⟩, ⟨0, F.PA_PRS_HASH_PROTO_PROTO⟩] }]

/-- Part 4 of the register map. -/
def layout4 : List RegRow := [
  { reg := .PA_PRS_IND, base := 0x1020A000, dims := [(0x10000000, 4), (0x400, 16), (0x4, 256)], words := 1, tenant := false, core := true,
    slots := [⟨16, F.PA_PRS_IND_ODD⟩, ⟨0, F.PA_PRS_IND_EVEN⟩] },
  { reg := .PA_PRS_CPU_TGT, base := 0x1020E000, dims := [(0x10000000, 4), (0x4, 256)], words := 1, tenant := false, core := true,
    slots := [⟨22, F.PA_PRS_CPU_TGT_LP⟩, ⟨18, F.PA_PRS_CPU_TGT_CLASS⟩, ⟨16, F.PA_PRS_CPU_TGT_TRUNC⟩, ⟨0, F.PA_PRS_CPU_TGT_RING⟩] },
  { reg := .PA_PRS_XPROF, base := 0x1020F000, dims := [(0x10000000, 4), (0x10, 64)], words := 4, tenant := false, core := true,
    slots := [⟨16, F.PA_PRS_XPROF_RING⟩, ⟨0, F.PA_PRS_XPROF_SAMPLE_ID⟩, ⟨32, F.PA_PRS_XPROF_F0⟩, ⟨39, F.PA_PRS_XPROF_F1⟩, ⟨46, F.PA_PRS_XPROF_F2⟩, ⟨53, F.PA_PRS_XPROF_F3⟩, ⟨64, F.PA_PRS_XPROF_F4⟩, ⟨71, F.PA_PRS_XPROF_F5⟩, ⟨78, F.PA_PRS_XPROF_F6⟩, ⟨85, F.PA_PRS_XPROF_F7⟩, ⟨127, F.PA_PRS_XPROF_VALID⟩, ⟨110, F.PA_PRS_XPROF_NFIELDS⟩, ⟨96, F.PA_PRS_XPROF_F8⟩, ⟨103, F.PA_PRS_XPROF_F9⟩] },
  { reg := .PA_PRS_CNT, base := 0x10204400, dims := [(0x10000000, 4), (0x8, 11)], words := 2, tenant := false, core := true,
    slots := [⟨0, F.PA_PRS_CNT_COUNT⟩] },
  { reg := .FX_REPL_MIR_SESSION, base := 0x50400000, dims := [(0x8, 64)], words := 2, tenant := false, core := false,
    slots := [⟨22, F.FX_REPL_MIR_SESSION_DEST_LP⟩, ⟨18, F.FX_REPL_MIR_SESSION_CLASS⟩, ⟨0, F.FX_REPL_MIR_SESSION_TRUNC⟩, ⟨32, F.FX_REPL_MIR_SESSION_ONE_IN⟩] },
  { reg := .FX_REPL_GROUP, base := 0x50401000, dims := [(0x4, 16384)], words := 1, tenant := false, core := false,
    slots := [⟨31, F.FX_REPL_GROUP_VALID⟩, ⟨30, F.FX_REPL_GROUP_PRUNE_SRC⟩, ⟨20, F.FX_REPL_GROUP_COUNT⟩, ⟨0, F.FX_REPL_GROUP_BASE⟩] },
  { reg := .FX_REPL_MEMBER, base := 0x50480000, dims := [(0x4, 131072)], words := 1, tenant := false, core := false,
    slots := [⟨31, F.FX_REPL_MEMBER_ODD_VALID⟩, ⟨16, F.FX_REPL_MEMBER_ODD_LP⟩, ⟨15, F.FX_REPL_MEMBER_EVEN_VALID⟩, ⟨0, F.FX_REPL_MEMBER_EVEN_LP⟩] },
  { reg := .PA_LV_CELL_KONST, base := 0x10300000, dims := [(0x10000000, 4), (0x1000, 256), (0x4, 16)], words := 1, tenant := false, core := true,
    slots := [⟨0, F.PA_LV_CELL_KONST_KONST⟩] },
  { reg := .PA_LV_CELL_KEYPROF, base := 0x10300100, dims := [(0x10000000, 4), (0x1000, 256), (0x20, 8), (0x4, 8)], words := 1, tenant := false, core := true,
    slots := [⟨0, F.PA_LV_CELL_KEYPROF_WORD⟩] },
  { reg := .PA_LV_CELL_EXC, base := 0x10300200, dims := [(0x10000000, 4), (0x1000, 256)], words := 1, tenant := false, core := true,
    slots := [⟨16, F.PA_LV_CELL_EXC_COUNT⟩, ⟨0, F.PA_LV_CELL_EXC_LAST_CODE⟩] },
  { reg := .PA_LV_CELL_ECC, base := 0x10300204, dims := [(0x10000000, 4), (0x1000, 256)], words := 1, tenant := false, core := true,
    slots := [⟨16, F.PA_LV_CELL_ECC_CORR⟩, ⟨8, F.PA_LV_CELL_ECC_UNCORR⟩, ⟨0, F.PA_LV_CELL_ECC_LAST_BAD⟩] },
  { reg := .PA_LVC_PIPE_CFG, base := 0x10400000, dims := [(0x10000000, 4), (0x10, 16)], words := 1, tenant := false, core := true,
    slots := [⟨24, F.PA_LVC_PIPE_CFG_ENTRY_BUNDLE⟩, ⟨16, F.PA_LVC_PIPE_CFG_RECIRC_BUNDLE⟩, ⟨1, F.PA_LVC_PIPE_CFG_EXC_DROP⟩] },
  { reg := .PA_LVC_PIPE_BR, base := 0x10400004, dims := [(0x10000000, 4), (0x10, 16), (0x4, 2)], words := 1, tenant := false, core := true,
    slots := [⟨31, F.PA_LVC_PIPE_BR_BR_VALID3⟩, ⟨24, F.PA_LVC_PIPE_BR_BR_CONT3⟩, ⟨23, F.PA_LVC_PIPE_BR_BR_VALID2⟩, ⟨16, F.PA_LVC_PIPE_BR_BR_CONT2⟩, ⟨15, F.PA_LVC_PIPE_BR_BR_VALID1⟩, ⟨8, F.PA_LVC_PIPE_BR_BR_CONT1⟩, ⟨7, F.PA_LVC_PIPE_BR_BR_VALID0⟩, ⟨0, F.PA_LVC_PIPE_BR_BR_CONT0⟩] },
  { reg := .PA_LVC_CNT_CTL, base := 0x10402000, dims := [(0x10000000, 4), (0x20, 4)], words := 1, tenant := false, core := true,
    slots := [⟨31, F.PA_LVC_CNT_CTL_BUSY⟩, ⟨0, F.PA_LVC_CNT_CTL_INDEX⟩] },
  { reg := .PA_LVC_CNT_PKTS, base := 0x10402008, dims := [(0x10000000, 4), (0x20, 4)], words := 2, tenant := false, core := true,
    slots := [⟨0, F.PA_LVC_CNT_PKTS_PKTS⟩] },
  { reg := .PA_LVC_CNT_BYTES, base := 0x10402010, dims := [(0x10000000, 4), (0x20, 4)], words := 2, tenant := false, core := true,
    slots := [⟨0, F.PA_LVC_CNT_BYTES_BYTES⟩] },
  { reg := .PA_LVC_DROP_CNT, base := 0x10401000, dims := [(0x10000000, 4), (0x8, 256)], words := 2, tenant := false, core := true,
    slots := [⟨0, F.PA_LVC_DROP_CNT_COUNT⟩] },
  { reg := .PA_LVC_EXC_CNT, base := 0x10403000, dims := [(0x10000000, 4), (0x8, 16)], words := 2, tenant := false, core := true,
    slots := [⟨0, F.PA_LVC_EXC_CNT_COUNT⟩] },
  { reg := .PA_LVC_EGR_IGN, base := 0x10403080, dims := [(0x10000000, 4), (0x8, 1)], words := 2, tenant := false, core := true,
    slots := [⟨0, F.PA_LVC_EGR_IGN_COUNT⟩] },
  { reg := .PA_LVC_PROG_STATUS, base := 0x10403100, dims := [(0x10000000, 4), (0x4, 16)], words := 1, tenant := false, core := true,
    slots := [⟨31, F.PA_LVC_PROG_STATUS_OLD_BUSY⟩, ⟨30, F.PA_LVC_PROG_STATUS_LOADED⟩, ⟨0, F.PA_LVC_PROG_STATUS_EPOCH⟩] },
  { reg := .PA_LVC_FAULT_DISC, base := 0x10403180, dims := [(0x10000000, 4), (0x8, 1)], words := 2, tenant := false, core := true,
    slots := [⟨0, F.PA_LVC_FAULT_DISC_COUNT⟩] },
  { reg := .PA_MTR_CFG, base := 0x10500000, dims := [(0x10000000, 4), (0x10, 16384)], words := 4, tenant := false, core := false,
    slots := [⟨0, F.PA_MTR_CFG_CIR⟩, ⟨32, F.PA_MTR_CFG_PIR⟩, ⟨64, F.PA_MTR_CFG_CBS⟩, ⟨127, F.PA_MTR_CFG_EN⟩, ⟨96, F.PA_MTR_CFG_PBS⟩] },
  { reg := .PA_MTR_STAT, base := 0x10540000, dims := [(0x10000000, 4), (0x8, 3)], words := 2, tenant := false, core := false,
    slots := [⟨0, F.PA_MTR_STAT_COUNT⟩] },
  { reg := .PD_STC_LINK, base := 0x40600000, dims := [(0x4, 8)], words := 1, tenant := false, core := false,
    slots := [⟨30, F.PD_STC_LINK_NB_DEVID⟩, ⟨28, F.PD_STC_LINK_STATE⟩, ⟨12, F.PD_STC_LINK_NB_BOOT_ID⟩] },
  { reg := .PD_STC_CTRL, base := 0x40600020, dims := [], words := 1, tenant := false, core := false,
    slots := [⟨28, F.PD_STC_CTRL_LOST_TIME⟩, ⟨26, F.PD_STC_CTRL_MASTER⟩, ⟨24, F.PD_STC_CTRL_TIME_STATE⟩, ⟨0, F.PD_STC_CTRL_BOOT_ID⟩] }]

/-- Part 5 of the register map. -/
def layout5 : List RegRow := [
  { reg := .FX_BUF_CFG, base := 0x50000000, dims := [], words := 1, tenant := false, core := false,
    slots := [⟨16, F.FX_BUF_CFG_WAKE_RESERVE⟩, ⟨0, F.FX_BUF_CFG_MIN_AWAKE⟩] },
  { reg := .FX_BUF_BG_STATUS, base := 0x50000100, dims := [(0x4, 16)], words := 1, tenant := false, core := false,
    slots := [⟨15, F.FX_BUF_BG_STATUS_USED⟩, ⟨4, F.FX_BUF_BG_STATUS_QUAR⟩, ⟨3, F.FX_BUF_BG_STATUS_DRAINING⟩, ⟨0, F.FX_BUF_BG_STATUS_POWER⟩] },
  { reg := .FX_ADM_STATUS, base := 0x50100000, dims := [], words := 1, tenant := false, core := false,
    slots := [⟨0, F.FX_ADM_STATUS_GUARANTEE⟩] },
  { reg := .FX_ADM_FREE, base := 0x50100004, dims := [], words := 1, tenant := false, core := false,
    slots := [⟨0, F.FX_ADM_FREE_F⟩] },
  { reg := .FX_ADM_PORT, base := 0x50101000, dims := [(0x4, 541)], words := 1, tenant := false, core := false,
    slots := [⟨0, F.FX_ADM_PORT_CT_ING⟩] },
  { reg := .FX_ADM_SRC, base := 0x50102000, dims := [(0x10, 4)], words := 2, tenant := false, core := false,
    slots := [⟨31, F.FX_ADM_SRC_ECN_EN⟩, ⟨24, F.FX_ADM_SRC_ECN_CONT⟩, ⟨23, F.FX_ADM_SRC_CSUM_EN⟩, ⟨16, F.FX_ADM_SRC_CSUM_CONT⟩, ⟨8, F.FX_ADM_SRC_V4_BIT⟩, ⟨63, F.FX_ADM_SRC_REPL_EN⟩, ⟨56, F.FX_ADM_SRC_REPL_CONT⟩] },
  { reg := .FX_ADM_GSTAT, base := 0x50103000, dims := [(0x8, 8)], words := 2, tenant := false, core := false,
    slots := [⟨0, F.FX_ADM_GSTAT_COUNT⟩] },
  { reg := .FX_ADM_QCFG, base := 0x50110000, dims := [(0x8, 8656)], words := 2, tenant := false, core := false,
    slots := [⟨31, F.FX_ADM_QCFG_CT_EN⟩, ⟨30, F.FX_ADM_QCFG_ECN_EN⟩, ⟨26, F.FX_ADM_QCFG_K⟩, ⟨0, F.FX_ADM_QCFG_MIN⟩, ⟨48, F.FX_ADM_QCFG_ECN_HI⟩, ⟨32, F.FX_ADM_QCFG_ECN_LO⟩] },
  { reg := .FX_ADM_QSTAT, base := 0x50140000, dims := [(0x40, 8656), (0x8, 7)], words := 2, tenant := false, core := false,
    slots := [⟨0, F.FX_ADM_QSTAT_COUNT⟩] },
  { reg := .FX_TM_GATE_CFG, base := 0x50200000, dims := [(0x20, 512)], words := 8, tenant := false, core := false,
    slots := [⟨31, F.FX_TM_GATE_CFG_ADMIN_EN⟩, ⟨30, F.FX_TM_GATE_CFG_CHANGE⟩, ⟨29, F.FX_TM_GATE_CFG_CANCEL⟩, ⟨28, F.FX_TM_GATE_CFG_PEND⟩, ⟨27, F.FX_TM_GATE_CFG_OPER_BANK⟩, ⟨26, F.FX_TM_GATE_CFG_OPER_EN⟩, ⟨0, F.FX_TM_GATE_CFG_ADMIN_LEN⟩, ⟨32, F.FX_TM_GATE_CFG_ADMIN_CYCLE⟩, ⟨64, F.FX_TM_GATE_CFG_ADMIN_BASE⟩, ⟨188, F.FX_TM_GATE_CFG_GATES_NOW⟩, ⟨187, F.FX_TM_GATE_CFG_OTHERS_CLOSED⟩, ⟨160, F.FX_TM_GATE_CFG_ENTRY_NOW⟩, ⟨192, F.FX_TM_GATE_CFG_OPER_CHANGE_TIME⟩] },
  { reg := .FX_TM_PORT_CFG, base := 0x50204000, dims := [(0x8, 541)], words := 2, tenant := false, core := false,
    slots := [⟨31, F.FX_TM_PORT_CFG_SHAPE_EN⟩, ⟨30, F.FX_TM_PORT_CFG_DOWN_HOLD⟩, ⟨15, F.FX_TM_PORT_CFG_BURST⟩, ⟨0, F.FX_TM_PORT_CFG_EXPRESS⟩, ⟨32, F.FX_TM_PORT_CFG_RATE⟩] },
  { reg := .FX_TM_QDEPTH_SAMPLE, base := 0x50206000, dims := [(0x10, 64)], words := 3, tenant := false, core := false,
    slots := [⟨31, F.FX_TM_QDEPTH_SAMPLE_EN⟩, ⟨0, F.FX_TM_QDEPTH_SAMPLE_PERIOD⟩, ⟨48, F.FX_TM_QDEPTH_SAMPLE_RING⟩, ⟨82, F.FX_TM_QDEPTH_SAMPLE_BASE_QI⟩, ⟨75, F.FX_TM_QDEPTH_SAMPLE_COUNT⟩, ⟨64, F.FX_TM_QDEPTH_SAMPLE_STRIDE⟩] },
  { reg := .FX_TM_GSTAT, base := 0x50207000, dims := [(0x8, 1)], words := 2, tenant := false, core := false,
    slots := [⟨0, F.FX_TM_GSTAT_COUNT⟩] },
  { reg := .FX_TM_QSCHED, base := 0x50210000, dims := [(0x8, 8656)], words := 2, tenant := false, core := false,
    slots := [⟨31, F.FX_TM_QSCHED_SHAPE_EN⟩, ⟨15, F.FX_TM_QSCHED_BURST⟩, ⟨0, F.FX_TM_QSCHED_QUANTUM⟩, ⟨32, F.FX_TM_QSCHED_RATE⟩] },
  { reg := .FX_TM_QSTAT, base := 0x50240000, dims := [(0x40, 8656), (0x8, 7)], words := 2, tenant := false, core := false,
    slots := [⟨0, F.FX_TM_QSTAT_COUNT⟩] },
  { reg := .FX_GCL_ENTRY, base := 0x50300000, dims := [(0x800, 512), (0x400, 2), (0x4, 256)], words := 1, tenant := false, core := false,
    slots := [⟨28, F.FX_GCL_ENTRY_GATES⟩, ⟨27, F.FX_GCL_ENTRY_CLOSE_OTHERS⟩, ⟨0, F.FX_GCL_ENTRY_INTERVAL⟩] },
  { reg := .FX_TBE_TBL_CFG, base := 0x50600000, dims := [(0x20, 64)], words := 5, tenant := false, core := true,
    slots := [⟨31, F.FX_TBE_TBL_CFG_EN⟩, ⟨30, F.FX_TBE_TBL_CFG_SCOPE⟩, ⟨28, F.FX_TBE_TBL_CFG_KIND⟩, ⟨24, F.FX_TBE_TBL_CFG_KW⟩, ⟨0, F.FX_TBE_TBL_CFG_SIZE⟩, ⟨63, F.FX_TBE_TBL_CFG_AGE_EN⟩, ⟨62, F.FX_TBE_TBL_CFG_ON_EXIST⟩, ⟨61, F.FX_TBE_TBL_CFG_FULL_PRED_EN⟩, ⟨56, F.FX_TBE_TBL_CFG_FULL_PRED⟩, ⟨32, F.FX_TBE_TBL_CFG_AGE_PERIOD⟩, ⟨80, F.FX_TBE_TBL_CFG_LEARN_RING⟩, ⟨79, F.FX_TBE_TBL_CFG_LRING_EN⟩, ⟨78, F.FX_TBE_TBL_CFG_STITCH_SHARE⟩, ⟨96, F.FX_TBE_TBL_CFG_NOROOM_HI⟩, ⟨128, F.FX_TBE_TBL_CFG_NOROOM_LO⟩] },
  { reg := .FX_TBE_STAGE, base := 0x50602000, dims := [(0x100, 4), (0x4, 48)], words := 1, tenant := false, core := true,
    slots := [⟨0, F.FX_TBE_STAGE_WORD⟩] },
  { reg := .FX_TBE_CMD_INDEX, base := 0x506020C0, dims := [(0x100, 4)], words := 1, tenant := false, core := true,
    slots := [⟨0, F.FX_TBE_CMD_INDEX_INDEX⟩] },
  { reg := .FX_TBE_CMD, base := 0x506020C4, dims := [(0x100, 4)], words := 1, tenant := false, core := true,
    slots := [⟨28, F.FX_TBE_CMD_OP⟩, ⟨24, F.FX_TBE_CMD_REGIONS⟩, ⟨0, F.FX_TBE_CMD_TABLE⟩] },
  { reg := .FX_TBE_RESULT, base := 0x506020C8, dims := [(0x100, 4)], words := 1, tenant := false, core := true,
    slots := [⟨31, F.FX_TBE_RESULT_BUSY⟩, ⟨16, F.FX_TBE_RESULT_CODE⟩, ⟨0, F.FX_TBE_RESULT_SEQ⟩] },
  { reg := .FX_TBE_TBL_STAT, base := 0x50604000, dims := [(0x40, 64), (0x8, 8)], words := 2, tenant := false, core := true,
    slots := [⟨0, F.FX_TBE_TBL_STAT_COUNT⟩] },
  { reg := .FX_TBE_TBL_STAT2, base := 0x50605000, dims := [(0x20, 64), (0x8, 3)], words := 2, tenant := false, core := true,
    slots := [⟨0, F.FX_TBE_TBL_STAT2_COUNT⟩] },
  { reg := .FX_STC_SRC, base := 0x50700000, dims := [(0x4, 4)], words := 1, tenant := false, core := false,
    slots := [⟨31, F.FX_STC_SRC_EN⟩, ⟨24, F.FX_STC_SRC_CONT⟩, ⟨23, F.FX_STC_SRC_BRIDGE_EXT⟩] },
  { reg := .FX_STC_ROUTE, base := 0x50700010, dims := [(0x4, 4)], words := 1, tenant := false, core := false,
    slots := [⟨16, F.FX_STC_ROUTE_ACTIVE⟩, ⟨8, F.FX_STC_ROUTE_REJOIN_PEND⟩, ⟨0, F.FX_STC_ROUTE_MEMBERS⟩] }]

/-- Part 6 of the register map. -/
def layout6 : List RegRow := [
  { reg := .FX_STC_STAT, base := 0x50700100, dims := [(0x8, 6)], words := 2, tenant := false, core := false,
    slots := [⟨0, F.FX_STC_STAT_COUNT⟩] },
  { reg := .MX_HBM_PART, base := 0x80000000, dims := [], words := 1, tenant := false, core := false,
    slots := [⟨8, F.MX_HBM_PART_WC_STACKS⟩, ⟨0, F.MX_HBM_PART_WC_SIZE⟩] },
  { reg := .MX_HBM_STACK_CTRL, base := 0x80000010, dims := [(0x4, 4)], words := 1, tenant := false, core := false,
    slots := [⟨30, F.MX_HBM_STACK_CTRL_STATE⟩, ⟨0, F.MX_HBM_STACK_CTRL_OFF⟩] },
  { reg := .MX_HBM_ECC, base := 0x80000100, dims := [(0x10, 4), (0x8, 2)], words := 2, tenant := false, core := false,
    slots := [⟨0, F.MX_HBM_ECC_COUNT⟩] },
  { reg := .CX_CPORT_CFG, base := 0x70200000, dims := [(0x4, 8)], words := 1, tenant := false, core := true,
    slots := [⟨16, F.CX_CPORT_CFG_BASE_RING⟩, ⟨0, F.CX_CPORT_CFG_NRINGS⟩] },
  { reg := .CX_CPORT_NO_RING, base := 0x70200100, dims := [(0x8, 8)], words := 2, tenant := false, core := true,
    slots := [⟨0, F.CX_CPORT_NO_RING_COUNT⟩] },
  { reg := .CX_CORE_RELEASE, base := 0x70000000, dims := [], words := 1, tenant := false, core := false,
    slots := [⟨0, F.CX_CORE_RELEASE_REL⟩] },
  { reg := .CX_CORE_ENTRY, base := 0x70000008, dims := [], words := 2, tenant := false, core := false,
    slots := [⟨0, F.CX_CORE_ENTRY_ENTRY⟩] },
  { reg := .CX_DBG_TRACE, base := 0x70300000, dims := [], words := 7, tenant := false, core := false,
    slots := [⟨31, F.CX_DBG_TRACE_EN⟩, ⟨30, F.CX_DBG_TRACE_WRAP⟩, ⟨32, F.CX_DBG_TRACE_CORE_MASK⟩, ⟨64, F.CX_DBG_TRACE_BASE⟩, ⟨144, F.CX_DBG_TRACE_SIZE⟩, ⟨160, F.CX_DBG_TRACE_WPTR⟩, ⟨192, F.CX_DBG_TRACE_LOST⟩] },
  { reg := .HX_PCIE_LINK_CFG, base := 0x60000000, dims := [(0x80000, 2)], words := 1, tenant := false, core := false,
    slots := [⟨0, F.HX_PCIE_LINK_CFG_BIFUR⟩] },
  { reg := .HX_PCIE_LINK_STATUS, base := 0x60000010, dims := [(0x80000, 2), (0x4, 2)], words := 1, tenant := false, core := false,
    slots := [⟨29, F.HX_PCIE_LINK_STATUS_STATE⟩, ⟨20, F.HX_PCIE_LINK_STATUS_RATE⟩, ⟨15, F.HX_PCIE_LINK_STATUS_WIDTH⟩, ⟨14, F.HX_PCIE_LINK_STATUS_FLIT⟩, ⟨12, F.HX_PCIE_LINK_STATUS_POWER⟩, ⟨0, F.HX_PCIE_LINK_STATUS_DOWNS⟩] },
  { reg := .HX_PCIE_FN_XLATE, base := 0x60000100, dims := [(0x80000, 2), (0x10, 4)], words := 2, tenant := false, core := false,
    slots := [⟨19, F.HX_PCIE_FN_XLATE_TT_BASE⟩, ⟨17, F.HX_PCIE_FN_XLATE_PSIZE⟩, ⟨0, F.HX_PCIE_FN_XLATE_NPAGES⟩, ⟨51, F.HX_PCIE_FN_XLATE_VF_TT_BASE⟩, ⟨49, F.HX_PCIE_FN_XLATE_VF_PSIZE⟩, ⟨32, F.HX_PCIE_FN_XLATE_VF_NPAGES⟩] },
  { reg := .HX_PCIE_TT, base := 0x60010000, dims := [(0x80000, 2), (0x8, 8192)], words := 2, tenant := false, core := false,
    slots := [⟨63, F.HX_PCIE_TT_VALID⟩, ⟨62, F.HX_PCIE_TT_RD⟩, ⟨61, F.HX_PCIE_TT_WR⟩, ⟨59, F.HX_PCIE_TT_TARGET⟩, ⟨0, F.HX_PCIE_TT_ADDR⟩] },
  { reg := .HX_PCIE_STAT, base := 0x60030000, dims := [(0x80000, 2), (0x8, 11)], words := 2, tenant := false, core := false,
    slots := [⟨0, F.HX_PCIE_STAT_COUNT⟩] },
  { reg := .HX_RP_CFG, base := 0x60100000, dims := [(0x80000, 2)], words := 1, tenant := false, core := false,
    slots := [⟨0, F.HX_RP_CFG_BIFUR⟩] },
  { reg := .HX_RP_SUBLINK_CTRL, base := 0x60100100, dims := [(0x80000, 2), (0x10, 4)], words := 1, tenant := false, core := false,
    slots := [⟨1, F.HX_RP_SUBLINK_CTRL_RELEASE⟩, ⟨0, F.HX_RP_SUBLINK_CTRL_EN⟩] },
  { reg := .HX_RP_SUBLINK_STATUS, base := 0x60100104, dims := [(0x80000, 2), (0x10, 4)], words := 1, tenant := false, core := false,
    slots := [⟨29, F.HX_RP_SUBLINK_STATUS_STATE⟩, ⟨20, F.HX_RP_SUBLINK_STATUS_RATE⟩, ⟨15, F.HX_RP_SUBLINK_STATUS_WIDTH⟩] },
  { reg := .HX_RP_STAT, base := 0x60101000, dims := [(0x80000, 2), (0x8, 6)], words := 2, tenant := false, core := false,
    slots := [⟨0, F.HX_RP_STAT_COUNT⟩] },
  { reg := .HX_FN_REC, base := 0x60200000, dims := [(0x40, 2064)], words := 8, tenant := false, core := false,
    slots := [⟨16, F.HX_FN_REC_RING_BASE⟩, ⟨0, F.HX_FN_REC_RING_COUNT⟩, ⟨48, F.HX_FN_REC_VEC_BASE⟩, ⟨32, F.HX_FN_REC_VEC_COUNT⟩, ⟨64, F.HX_FN_REC_WIN_BASE⟩, ⟨96, F.HX_FN_REC_WIN_COUNT⟩, ⟨144, F.HX_FN_REC_NS_BASE⟩, ⟨128, F.HX_FN_REC_NS_COUNT⟩, ⟨176, F.HX_FN_REC_KEY_BASE⟩, ⟨160, F.HX_FN_REC_KEY_COUNT⟩, ⟨208, F.HX_FN_REC_CLASS_MASK⟩, ⟨200, F.HX_FN_REC_HVP⟩, ⟨192, F.HX_FN_REC_EA⟩, ⟨255, F.HX_FN_REC_COMMITTED⟩, ⟨254, F.HX_FN_REC_ERR⟩, ⟨248, F.HX_FN_REC_ERR_CODE⟩] },
  { reg := .HX_FN_MGR, base := 0x60230000, dims := [], words := 1, tenant := false, core := false,
    slots := [⟨0, F.HX_FN_MGR_MGR_PF⟩] },
  { reg := .HX_FN_DLOG, base := 0x60231000, dims := [(0x40, 64)], words := 10, tenant := false, core := false,
    slots := [⟨31, F.HX_FN_DLOG_EN⟩, ⟨30, F.HX_FN_DLOG_HARVEST⟩, ⟨29, F.HX_FN_DLOG_ACTIVE⟩, ⟨28, F.HX_FN_DLOG_BUSY⟩, ⟨27, F.HX_FN_DLOG_ERR⟩, ⟨0, F.HX_FN_DLOG_FUNC⟩, ⟨32, F.HX_FN_DLOG_BITMAP0⟩, ⟨96, F.HX_FN_DLOG_BITMAP1⟩, ⟨160, F.HX_FN_DLOG_IOVA_BASE⟩, ⟨224, F.HX_FN_DLOG_LENGTH⟩, ⟨256, F.HX_FN_DLOG_RECORD⟩] },
  { reg := .HX_FN_VIOL, base := 0x60240000, dims := [(0x8, 2064)], words := 2, tenant := false, core := false,
    slots := [⟨0, F.HX_FN_VIOL_COUNT⟩] },
  { reg := .HX_RING_DISCARD, base := 0x60250000, dims := [(0x8, 9)], words := 2, tenant := false, core := false,
    slots := [⟨0, F.HX_RING_DISCARD_COUNT⟩] },
  { reg := .HX_HVP_CFG, base := 0x60251000, dims := [(0x4, 16)], words := 1, tenant := false, core := false,
    slots := [⟨16, F.HX_HVP_CFG_BASE_RING⟩, ⟨0, F.HX_HVP_CFG_NRINGS⟩] },
  { reg := .HX_RING_CFG, base := 0x60300000, dims := [(0x40, 65536)], words := 1, tenant := true, core := true,
    slots := [⟨30, F.HX_RING_CFG_KIND⟩, ⟨28, F.HX_RING_CFG_POLICY⟩, ⟨24, F.HX_RING_CFG_SIZE⟩, ⟨23, F.HX_RING_CFG_IRQ_EN⟩, ⟨12, F.HX_RING_CFG_VEC⟩, ⟨8, F.HX_RING_CFG_HEAD_MOD⟩, ⟨0, F.HX_RING_CFG_HEAD_TIME⟩] }]

/-- Part 7 of the register map. -/
def layout7 : List RegRow := [
  { reg := .HX_RING_AUX, base := 0x60300004, dims := [(0x40, 65536)], words := 1, tenant := true, core := true,
    slots := [⟨16, F.HX_RING_AUX_HOLD_LIMIT⟩, ⟨10, F.HX_RING_AUX_PREFETCH⟩, ⟨8, F.HX_RING_AUX_BUF_SIZE⟩] },
  { reg := .HX_RING_BASE, base := 0x60300008, dims := [(0x40, 65536)], words := 2, tenant := true, core := true,
    slots := [⟨0, F.HX_RING_BASE_BASE⟩] },
  { reg := .HX_RING_HEAD_ADDR, base := 0x60300010, dims := [(0x40, 65536)], words := 2, tenant := true, core := true,
    slots := [⟨0, F.HX_RING_HEAD_ADDR_HEAD_ADDR⟩] },
  { reg := .HX_RING_DB, base := 0x60300018, dims := [(0x40, 65536)], words := 1, tenant := true, core := true,
    slots := [⟨16, F.HX_RING_DB_LAP⟩, ⟨0, F.HX_RING_DB_INDEX⟩] },
  { reg := .HX_RING_CMD, base := 0x6030001C, dims := [(0x40, 65536)], words := 1, tenant := true, core := true,
    slots := [⟨28, F.HX_RING_CMD_OP⟩] },
  { reg := .HX_RING_STATUS, base := 0x60300020, dims := [(0x40, 65536)], words := 1, tenant := true, core := true,
    slots := [⟨29, F.HX_RING_STATUS_STATE⟩, ⟨24, F.HX_RING_STATUS_CAUSE⟩, ⟨0, F.HX_RING_STATUS_POS⟩] },
  { reg := .HX_RING_CCOUNT, base := 0x60300024, dims := [(0x40, 65536)], words := 1, tenant := true, core := true,
    slots := [⟨0, F.HX_RING_CCOUNT_CCOUNT⟩] },
  { reg := .HX_RING_DISP, base := 0x60300028, dims := [(0x40, 65536)], words := 1, tenant := true, core := true,
    slots := [⟨31, F.HX_RING_DISP_VALID⟩, ⟨0, F.HX_RING_DISP_D⟩] },
  { reg := .HX_RING_LOST, base := 0x6030002C, dims := [(0x40, 65536)], words := 1, tenant := true, core := true,
    slots := [⟨0, F.HX_RING_LOST_LOST⟩] },
  { reg := .HX_RING_DBERR, base := 0x60300030, dims := [(0x40, 65536)], words := 1, tenant := true, core := true,
    slots := [⟨16, F.HX_RING_DBERR_DB_EARLY⟩, ⟨0, F.HX_RING_DBERR_DB_BAD⟩] },
  { reg := .HX_SQ_CTRL, base := 0x60700000, dims := [(0x1000, 16)], words := 1, tenant := false, core := false,
    slots := [⟨8, F.HX_SQ_CTRL_OFFLINE⟩, ⟨0, F.HX_SQ_CTRL_CLASS_MASK⟩] },
  { reg := .HX_SQ_STATUS, base := 0x60700004, dims := [(0x1000, 16)], words := 1, tenant := false, core := false,
    slots := [⟨28, F.HX_SQ_STATUS_STATE⟩, ⟨23, F.HX_SQ_STATUS_BUSY_CTX⟩, ⟨16, F.HX_SQ_STATUS_MCHECKS⟩] },
  { reg := .HX_SQ_TRAPLOG, base := 0x60700800, dims := [(0x1000, 16), (0x80, 4), (0x4, 32)], words := 1, tenant := false, core := false,
    slots := [⟨0, F.HX_SQ_TRAPLOG_WORD⟩] },
  { reg := .HX_SQ_TRAPLOG_IDX, base := 0x60700008, dims := [(0x1000, 16)], words := 1, tenant := false, core := false,
    slots := [⟨0, F.HX_SQ_TRAPLOG_IDX_IDX⟩] },
  { reg := .HX_SQ_UCODE_VERSION, base := 0x60710000, dims := [], words := 1, tenant := false, core := false,
    slots := [⟨24, F.HX_SQ_UCODE_VERSION_ROM_REV⟩, ⟨8, F.HX_SQ_UCODE_VERSION_PATCH_LEVEL⟩, ⟨0, F.HX_SQ_UCODE_VERSION_NMATCH⟩] },
  { reg := .HX_SQ_RELEASE, base := 0x60710004, dims := [], words := 1, tenant := false, core := false,
    slots := [⟨0, F.HX_SQ_RELEASE_REL⟩] },
  { reg := .HX_SQ_PMATCH, base := 0x60710100, dims := [(0x4, 64)], words := 1, tenant := false, core := false,
    slots := [⟨31, F.HX_SQ_PMATCH_VALID⟩, ⟨16, F.HX_SQ_PMATCH_PATCH_ADDR⟩, ⟨0, F.HX_SQ_PMATCH_ROM_ADDR⟩] },
  { reg := .HX_RMA_CFG, base := 0x60800000, dims := [], words := 3, tenant := false, core := false,
    slots := [⟨16, F.HX_RMA_CFG_PORT⟩, ⟨8, F.HX_RMA_CFG_H⟩, ⟨0, F.HX_RMA_CFG_PMTU⟩, ⟨48, F.HX_RMA_CFG_M⟩, ⟨32, F.HX_RMA_CFG_TIME_TOL⟩, ⟨80, F.HX_RMA_CFG_RTO_MIN⟩, ⟨76, F.HX_RMA_CFG_MD_SHIFT⟩, ⟨68, F.HX_RMA_CFG_AI⟩, ⟨64, F.HX_RMA_CFG_CONN_RETRY⟩] },
  { reg := .HX_RMA_STAT, base := 0x60800100, dims := [(0x8, 15)], words := 2, tenant := false, core := false,
    slots := [⟨0, F.HX_RMA_STAT_COUNT⟩] },
  { reg := .HX_RMA_EP, base := 0x60801000, dims := [(0x10, 4096)], words := 3, tenant := false, core := false,
    slots := [⟨31, F.HX_RMA_EP_EN⟩, ⟨28, F.HX_RMA_EP_STATE⟩, ⟨16, F.HX_RMA_EP_OWNER⟩, ⟨0, F.HX_RMA_EP_TX_LP⟩, ⟨60, F.HX_RMA_EP_CLASS⟩, ⟨32, F.HX_RMA_EP_MAX_RATE⟩, ⟨64, F.HX_RMA_EP_TMPL⟩] },
  { reg := .HX_RMA_CONN, base := 0x60840000, dims := [(0x20, 16384)], words := 8, tenant := false, core := false,
    slots := [⟨29, F.HX_RMA_CONN_STATE⟩, ⟨16, F.HX_RMA_CONN_OWNER⟩, ⟨0, F.HX_RMA_CONN_TX_LP⟩, ⟨60, F.HX_RMA_CONN_CLASS⟩, ⟨46, F.HX_RMA_CONN_REMOTE_CONN⟩, ⟨32, F.HX_RMA_CONN_TMPL⟩, ⟨64, F.HX_RMA_CONN_PEER_ADDR⟩, ⟨208, F.HX_RMA_CONN_EVENT_RING⟩, ⟨252, F.HX_RMA_CONN_OP⟩] },
  { reg := .HX_RMA_TMPL, base := 0x608C0000, dims := [(0x40, 256), (0x4, 16)], words := 1, tenant := false, core := false,
    slots := [⟨0, F.HX_RMA_TMPL_WORD⟩] },
  { reg := .HX_STOR_NS, base := 0x60900000, dims := [(0x20, 4096)], words := 8, tenant := false, core := false,
    slots := [⟨31, F.HX_STOR_NS_EN⟩, ⟨30, F.HX_STOR_NS_BACKEND⟩, ⟨29, F.HX_STOR_NS_CACHE⟩, ⟨28, F.HX_STOR_NS_VWC⟩, ⟨27, F.HX_STOR_NS_LBA4K⟩, ⟨24, F.HX_STOR_NS_STATE⟩, ⟨16, F.HX_STOR_NS_DRIVE⟩, ⟨8, F.HX_STOR_NS_FAIL_CODE⟩, ⟨32, F.HX_STOR_NS_BASE_LBA⟩, ⟨96, F.HX_STOR_NS_NLBA⟩, ⟨160, F.HX_STOR_NS_BK_ID⟩, ⟨192, F.HX_STOR_NS_KEY⟩, ⟨252, F.HX_STOR_NS_OP⟩] },
  { reg := .HX_STOR_CFG, base := 0x60920000, dims := [], words := 1, tenant := false, core := false,
    slots := [⟨16, F.HX_STOR_CFG_DESTAGE_AGE⟩, ⟨8, F.HX_STOR_CFG_DRV_TIMEOUT⟩] },
  { reg := .HX_STOR_STATUS, base := 0x60920010, dims := [], words := 4, tenant := false, core := false,
    slots := [⟨0, F.HX_STOR_STATUS_CERT_BLOCKS⟩, ⟨32, F.HX_STOR_STATUS_UNCERT_BLOCKS⟩, ⟨64, F.HX_STOR_STATUS_VB_BLOCKS⟩, ⟨98, F.HX_STOR_STATUS_CERT_STOP⟩, ⟨96, F.HX_STOR_STATUS_HELD⟩] }]

/-- Part 8 of the register map. -/
def layout8 : List RegRow := [
  { reg := .HX_STOR_REPLAY, base := 0x60920100, dims := [], words := 6, tenant := false, core := false,
    slots := [⟨31, F.HX_STOR_REPLAY_VALID⟩, ⟨30, F.HX_STOR_REPLAY_INCOMPLETE⟩, ⟨29, F.HX_STOR_REPLAY_CERT_MISSING⟩, ⟨28, F.HX_STOR_REPLAY_LAYOUT_CHANGED⟩, ⟨26, F.HX_STOR_REPLAY_REGIONS⟩, ⟨32, F.HX_STOR_REPLAY_BLOCKS⟩, ⟨64, F.HX_STOR_REPLAY_GROUPS_DISCARDED⟩, ⟨96, F.HX_STOR_REPLAY_CRC_ERRORS⟩, ⟨128, F.HX_STOR_REPLAY_VAULT_TS⟩] },
  { reg := .HX_STOR_FN_PS, base := 0x60922000, dims := [(0x4, 2056)], words := 1, tenant := false, core := false,
    slots := [⟨4, F.HX_STOR_FN_PS_WCE⟩, ⟨3, F.HX_STOR_FN_PS_APST_EN⟩, ⟨0, F.HX_STOR_FN_PS_PS⟩] },
  { reg := .HX_STOR_STAT, base := 0x60921000, dims := [(0x8, 11)], words := 2, tenant := false, core := false,
    slots := [⟨0, F.HX_STOR_STAT_COUNT⟩] },
  { reg := .HX_CIPH_CFG, base := 0x60A00000, dims := [], words := 1, tenant := false, core := false,
    slots := [⟨0, F.HX_CIPH_CFG_STOR_LANES⟩] },
  { reg := .HX_CIPH_ZSTATUS, base := 0x60A00010, dims := [], words := 1, tenant := false, core := false,
    slots := [⟨24, F.HX_CIPH_ZSTATUS_CAUSE⟩, ⟨16, F.HX_CIPH_ZSTATUS_COUNT⟩] },
  { reg := .HX_CIPH_ZTS, base := 0x60A00018, dims := [], words := 2, tenant := false, core := false,
    slots := [⟨0, F.HX_CIPH_ZTS_ZTS⟩] },
  { reg := .HX_CIPH_NS, base := 0x60A01000, dims := [(0x4, 4096)], words := 1, tenant := false, core := false,
    slots := [⟨31, F.HX_CIPH_NS_EN⟩, ⟨16, F.HX_CIPH_NS_SLOT⟩] },
  { reg := .HX_CIPH_SLOT, base := 0x60A10000, dims := [(0x4, 16384)], words := 1, tenant := false, core := false,
    slots := [⟨31, F.HX_CIPH_SLOT_LOADED⟩, ⟨24, F.HX_CIPH_SLOT_MODE⟩, ⟨23, F.HX_CIPH_SLOT_ENC⟩, ⟨22, F.HX_CIPH_SLOT_DEC⟩, ⟨20, F.HX_CIPH_SLOT_KLEN⟩] },
  { reg := .HX_CIPH_STAT, base := 0x60A00100, dims := [(0x8, 8)], words := 2, tenant := false, core := false,
    slots := [⟨0, F.HX_CIPH_STAT_COUNT⟩] },
  { reg := .HX_FNV_REC, base := 0x61000000, dims := [(0x10000, 2056), (0x4, 8)], words := 1, tenant := true, core := false,
    slots := [⟨0, F.HX_FNV_REC_WORD⟩] },
  { reg := .HX_FNV_FI, base := 0x61000020, dims := [(0x10000, 2056)], words := 1, tenant := true, core := false,
    slots := [⟨0, F.HX_FNV_FI_FI⟩] },
  { reg := .HX_FNV_PBA, base := 0x61004000, dims := [(0x10000, 2056), (0x4, 64)], words := 1, tenant := true, core := false,
    slots := [⟨0, F.HX_FNV_PBA_PBA⟩] },
  { reg := .HX_FNV_MSIX, base := 0x61008000, dims := [(0x10000, 2056), (0x10, 2048)], words := 4, tenant := true, core := false,
    slots := [⟨97, F.HX_FNV_MSIX_CTRL_RSVD⟩, ⟨96, F.HX_FNV_MSIX_MASK⟩, ⟨64, F.HX_FNV_MSIX_DATA⟩, ⟨0, F.HX_FNV_MSIX_ADDR⟩] },
  { reg := .PMU_CYCLE, base := 0x00F00000, dims := [(0x10000000, 9), (0x100, 37)], words := 2, tenant := false, core := true,
    slots := [⟨0, F.PMU_CYCLE_CYCLE⟩] },
  { reg := .PMU_PMC, base := 0x00F00010, dims := [(0x10000000, 9), (0x100, 37), (0x8, 8)], words := 2, tenant := false, core := true,
    slots := [⟨0, F.PMU_PMC_COUNT⟩] },
  { reg := .PMU_PMC_EVT, base := 0x00F00050, dims := [(0x10000000, 9), (0x100, 37), (0x4, 8)], words := 1, tenant := false, core := true,
    slots := [⟨31, F.PMU_PMC_EVT_EN⟩, ⟨30, F.PMU_PMC_EVT_THR_EN⟩, ⟨29, F.PMU_PMC_EVT_OVF_EV⟩, ⟨16, F.PMU_PMC_EVT_THRESH⟩, ⟨0, F.PMU_PMC_EVT_EVENT⟩] },
  { reg := .PMU_PMC_OVF, base := 0x00F00070, dims := [(0x10000000, 9), (0x100, 37)], words := 1, tenant := false, core := true,
    slots := [⟨0, F.PMU_PMC_OVF_OVF⟩] },
  { reg := .PMU_UNIT_ID, base := 0x00F00074, dims := [(0x10000000, 9), (0x100, 37)], words := 1, tenant := false, core := true,
    slots := [⟨24, F.PMU_UNIT_ID_KIND⟩] }]

/-- The register map. -/
def layout : List RegRow :=
  layout0 ++ layout1 ++ layout2 ++ layout3 ++ layout4 ++ layout5 ++ layout6 ++ layout7 ++ layout8

end Sys2Proof.Machine
end

