-- ==== Sys2Proof/Machine/Events.lean ====
section
/-! DEFINITION. Event routes, performance counters, the central counter reader, trace, JTAG and debug sessions (R628 to R653). -/

namespace Sys2Proof.Machine

/-! ### Routes (R629, R630, R632) -/

/-- Ring `r` is an EVENT ring that the manager's committed record or a cluster record holds. -/
def State.routeRing (s : State) (r : Nat) : Bool :=
  s.ringKind r == kindEvent && (match s.ringOwner r with | some o => o == s.mgr || decide (2056 ≤ o) | none => false)

/-- Words 0 and 1 of a route are refused (R630). -/
def State.routeBad (s : State) (e : Nat) : Bool :=
  let kind := s.fld F.AO_EVT_ROUTE_IRQ_KIND e
  let irq := s.flag F.AO_EVT_ROUTE_IRQ_EN e
  (s.flag F.AO_EVT_ROUTE_RING_EN e && !s.routeRing (s.fld F.AO_EVT_ROUTE_RING e))
    || (irq && kind == 0 && decide (s.fld F.HX_FN_REC_VEC_COUNT s.mgr ≤ s.fld F.AO_EVT_ROUTE_VEC e))
    || (irq && (kind == 1 || kind == 2) && s.fld F.AO_EVT_ROUTE_IDENTITY e == 0)
    || kind == 3

/-- Check a route that has been written in word `w`; a refused write leaves it as it was in `before`. -/
def State.routeWritten (s before : State) (e w : Nat) : State := if s.routeBad e then before.raise 91 [.w e, .w w] else s

/-- IRQ_HOLDOFF_EXPIRY (R632). -/
def execIrqHoldoffExpiry (source : Fin 1024) (s : State) : Host.Outcome State Fault Refusal :=
  .next (s.when (s.powered && s.flag F.AO_EVT_ROUTE_PENDING source.val) (·.sendIrq source.val))

/-! ### Performance counters (R634 to R640) -/

/-- Unit `u` of region `r` exists (R634). -/
def unitExists (r u : Nat) : Bool := unitKindReset (37 * r + u) != 0

/-- Kind-specific events and occupancies of a kind (R638). -/
def kindEvents (kind : Nat) : Nat × Nat :=
  match kind with
  | 0x01 | 0x11 => (8, 1)
  | 0x02 => (7, 1)
  | 0x03 => (3, 1)
  | 0x04 => (3, 0)
  | 0x05 => (3, 0)
  | 0x06 => (4, 1)
  | 0x07 => (3, 1)
  | 0x08 => (3, 1)
  | 0x09 => (2, 1)
  | 0x0A => (4, 1)
  | 0x0B => (4, 1)
  | 0x0C | 0x0D => (5, 1)
  | 0x0E => (3, 1)
  | 0x0F => (3, 1)
  | 0x10 => (2, 1)
  | 0x12 => (3, 0)
  | 0x13 => (1, 1)
  | 0x14 => (3, 1)
  | _ => (0, 0)

/-- An event selector counts something (R636, R638). -/
def selectorKnown (kind e : Nat) : Bool :=
  let k := kindEvents kind
  decide (e < 2) || inRange e 0x100 k.1 || inRange e 0x180 k.2

/-- The overflow event of a region (R640). -/
def overflowEvent (r : Nat) : Nat :=
  if r = 0 then 90 else if r ≤ 4 then 30 + 128 * r else if r = 5 then 690 else if r = 6 then 800 else if r = 7 then 910 else 911

/-- The power domains of a counter unit (R525, R634; log entry 71). -/
def unitDomains (r u : Nat) : List Nat :=
  if r = 0 then []
  else if r ≤ 4 then
    let d := 11 * (r - 1)
    if u < 16 then [d + 8 + u % 8 / 4] else if u < 18 then [d + 10] else [d + 8, d + 9]
  else if r = 5 then (if u < 32 then [60 + u / 16] else if u < 36 then [60 + (u - 32)] else (List.range 16).map (· + 44))
  else if r = 6 then
    (if u < 16 then [69 + u / 8] else if u = 16 then [68] else if u < 21 then [64 + (u - 17)] else if u < 23 then [71 + (u - 21)] else [73, 74])
  else if r = 7 then (if u < 32 then [76 + u / 4] else if u < 34 then [84 + (u - 32)] else [86])
  else [88 + 2 * u]

/-- A unit's clock runs: it is neither power-gated nor clock-gated (R634). -/
def State.unitRuns (s : State) (r u : Nat) : Bool := r == 0 || (unitDomains r u).any (fun d => s.power d == powOn)

/-- Clocks of a region in 40 ns (R42). -/
def regionClocks (r : Nat) : Nat := if r = 0 then 1 else if r ≤ 5 then 64 else if r = 6 then 50 else if r = 7 then 88 else 72

/-- Clocks of a unit between the tick at `now` and the next one. -/
def State.unitClocks (s : State) (r u : Nat) : Nat :=
  let n := regionClocks r * s.clockOf (if r = 7 ∧ u < 32 then 16 + u / 4 else r)
  let k := s.now / 40
  n * (k + 1) / 512 - n * k / 512

/-- PMC_OVERFLOW: a counter that counts wraps; `after` is its count past 0. -/
def State.pmcWrap (s : State) (r u i after : Nat) : State :=
  let x := 8 * (37 * r + u) + i
  if !unitExists r u ∨ !s.unitRuns r u ∨ !s.flag F.PMU_PMC_EVT_EN x ∨ !selectorKnown (unitKindReset (37 * r + u)) (s.fld F.PMU_PMC_EVT_EVENT x) then s
  else
    let s := s.setFld F.PMU_PMC_COUNT x after
    let s := s.setFld F.PMU_PMC_OVF_OVF (37 * r + u) (Nat.lor (s.fld F.PMU_PMC_OVF_OVF (37 * r + u)) (2 ^ i))
    if s.flag F.PMU_PMC_EVT_OVF_EV x then s.raise (overflowEvent r) [.w u, .w i] else s

def execPmcOverflow (region : Fin 9) (unit : Fin 37) (counter : Fin 8) (after : Word) (s : State) : Host.Outcome State Fault Refusal :=
  .next (s.when s.powered (·.pmcWrap region.val unit.val counter.val after.toNat))

/-- A region is powered: AO, or some domain of it is (R642). -/
def State.regionRuns (s : State) (r : Nat) : Bool := r == 0 || (regionDomains r).any (fun d => s.power d == powOn || s.power d == powClock)

/-- An enabled counter of a running unit counts: by how much between two ticks is open, but at most 1 a clock with THR_EN (R637, log entry 19). -/
def State.pmcCount (s : State) (x : Nat) : State :=
  let r := x / 296
  let u := x / 8 % 37
  let old := s.fld F.PMU_PMC_COUNT x
  if s.flag F.PMU_PMC_EVT_EN x && s.unitRuns r u && selectorKnown (unitKindReset (x / 8)) (s.fld F.PMU_PMC_EVT_EVENT x) then
    let top := if s.flag F.PMU_PMC_EVT_THR_EN x then min (s.unitClocks r u + 1) (2 ^ 48 - old) else 2 ^ 48 - old
    (s.setFld F.PMU_PMC_COUNT x (old + s.free % top)).drawn
  else s

/-- CYCLE of a unit that runs (R634). -/
def State.cycleCount (s : State) (x : Nat) : State :=
  if unitExists (x / 37) (x % 37) ∧ s.unitRuns (x / 37) (x % 37) then s.bump F.PMU_CYCLE_CYCLE x (s.unitClocks (x / 37) (x % 37)) else s

/-- What 40 ns do to the counters: CYCLE of every unit, and the counters that are enabled. -/
def State.pmcTick (s : State) : State := (s.listed F.PMU_PMC_EVT_EN).foldl State.pmcCount ((List.range 333).foldl State.cycleCount s)

/-! ### The central counter reader (R642 to R644) -/

/-- Copies of a row. -/
def dimsSize : List (Nat × Nat) → Nat
  | [] => 1
  | x :: ds => x.2 * dimsSize ds

/-- Offset of copy `i` of a row. -/
def dimsAddr : List (Nat × Nat) → Nat → Nat
  | [], _ => 0
  | x :: ds, i => i / dimsSize ds * x.1 + dimsAddr ds (i % dimsSize ds)

/-- Rows with 64-bit read-only fields that count nothing, and the counter channels, which the reader leaves alone. -/
def notCounter (r : Reg) : Bool :=
  r == .AO_MODULE_STATE_TS || r == .AO_TB_NOW || r == .AO_PPS_IN_TS || r == .FX_TM_GATE_CFG || r == .HX_STOR_REPLAY
    || r == .PA_LVC_CNT_PKTS || r == .PA_LVC_CNT_BYTES || r == .PMU_CYCLE

/-- The counters of a row in a region: address and value. -/
def State.rowCounters (s : State) (r : Nat) (row : RegRow) : List (Nat × Nat) :=
  let slots := row.slots.filter (fun x => x.fld.width == 64 && x.fld.acc == .ro)
  if notCounter row.reg ∨ slots.isEmpty then []
  else ((List.range (dimsSize row.dims)).map (fun i => (i, row.base + dimsAddr row.dims i))).flatMap (fun x =>
    if x.2 / 2 ^ 28 = r then slots.map (fun y => (x.2 + y.lo / 8, s.fld y.fld x.1)) else [])


/-- The counter units of a region: CYCLE, then PMC0 to PMC7 of each. -/
def State.unitCounters (s : State) (r : Nat) : List (Nat × Nat) :=
  ((List.range 37).filter (unitExists r)).flatMap (fun u =>
    let a := r * 2 ^ 28 + 0xF00000 + 0x100 * u
    (a, s.fld F.PMU_CYCLE_CYCLE (37 * r + u)) :: (List.range 8).map (fun i => (a + 0x10 + 8 * i, s.fld F.PMU_PMC_COUNT (8 * (37 * r + u) + i))))

/-- The Luavy counter bank of a port region: packets and bytes of each entry.  The address its table entries show is not stated (log entry 20). -/
def State.bankCounters (s : State) (r : Nat) : List (Nat × Nat) :=
  if r = 0 ∨ 4 < r then []
  else (List.range 131072).flatMap (fun i =>
    let v := Map.get (0, 0) (131072 * (r - 1) + i) s.tm.counters
    [(Config.freeValue (s.draws + 2 * i) % 2 ^ 32, v.1), (Config.freeValue (s.draws + 2 * i + 1) % 2 ^ 32, v.2)])

/-- Every counter of a region, in ascending address. -/
def State.regionCounters (s : State) (r : Nat) : List (Nat × Nat) :=
  ((layout.flatMap (s.rowCounters r)) ++ s.unitCounters r ++ s.bankCounters r).mergeSort (fun x y => decide (x.1 ≤ y.1))

/-- Entries of the table from the `n`th on. -/
def sweepBytes : Nat → List (Nat × Nat) → List Byte
  | _, [] => []
  | n, x :: xs => leBytes 4 x.1 ++ leBytes 4 (min (10 * n) 0xFFFFFFFF) ++ leBytes 8 x.2 ++ sweepBytes (n + 1) xs

/-- A sweep ends. -/
def State.ccrEnd (s : State) (result n : Nat) : State := (s.setFld F.AO_CCR_STATUS_RESULT 0 result).raise 92 [.w result, .w n]

/-- CCR_SWEEP (R642). -/
def State.ccrSweep (s : State) (dest : Bool) (regions : Nat) : State :=
  let busy := s.fld F.AO_PROG_STATUS_STATE ≠ 0 ∨ s.fld F.AO_UCODE_STATUS_STATE ≠ 0 ∨ s.fld F.AO_IMG_STATUS_STATE ≠ 0 ∨ s.fld F.AO_CAL_STATUS_STATE ≠ 0
  if s.mode ≠ .boot ∧ s.mode ≠ .safetyNet then s.ccrEnd 2 0
  else if s.flag F.AO_CCR_STATUS_STATE then s.ccrEnd 1 0
  else if dest ∧ busy then s.ccrEnd 3 0
  else
    let n := s.ccr.seq + 1
    (((s.setFld F.AO_CCR_STATUS_SEQ 0 n).setFlag F.AO_CCR_STATUS_STATE 0 true).withCcr { s.ccr with regions := regions, dest := dest, since := s.now, seq := n })

def execCcrSweep (who : Party) (dest : Bool) (regions : Fin 512) (s : State) : Host.Outcome State Fault Refusal :=
  .next (s.when (s.admits who 0 14) (·.ccrSweep dest regions.val))

/-- SWEEP_DONE (R643); the values are those of its clock (log entry 20). -/
def State.sweepDone (s : State) : State :=
  if !s.flag F.AO_CCR_STATUS_STATE then s
  else
    let c := s.ccr
    let asked := (List.range 9).filter (bit c.regions)
    let up := asked.filter s.regionRuns
    let skipped := (asked.filter (fun r => !s.regionRuns r)).foldl (fun a r => a + 2 ^ r) 0
    let all := up.flatMap s.regionCounters
    let cap := if c.dest then 1048572 else 4194300
    let full := decide (cap < all.length)
    let es := all.take cap
    let head := leBytes 4 0x54524343 ++ leBytes 4 c.seq ++ leBytes 2 c.regions ++ leBytes 2 (skipped + 512 * b2n full) ++ leBytes 4 es.length
      ++ leBytes 8 c.since ++ leBytes 8 (c.since + 10 * (es.length - 1)) ++ List.replicate 32 0
    let bs := head ++ sweepBytes 0 es
    let s := if c.dest then (s.withStaging (cellsWrite s.staging 0 bs)) else (s.withCcr { c with table := cellsWrite c.table 0 bs })
    let s := (s.withDraws (s.draws + 262144))
    (s.setFlag F.AO_CCR_STATUS_STATE 0 false).ccrEnd (if full then 4 else 0) es.length

def execSweepDone (s : State) : Host.Outcome State Fault Refusal := .next s.sweepDone

/-! ### Trace (R645, R646) -/

/-- A debug session of scope CORES is open. -/
def State.coresOpen (s : State) : Bool := bit (s.fld F.AO_DBG_STATUS_SCOPE) 0
/-- A debug session of scope TEST is open. -/
def State.testOpen (s : State) : Bool := bit (s.fld F.AO_DBG_STATUS_SCOPE) 1

/-- Bits of a 32-bit mask that are set. -/
def maskCount (m : Nat) : Nat := ((List.range 32).filter (bit m)).length

/-- A write of word 0 of CX_DBG_TRACE. -/
def State.traceWrite (s : State) (who : Party) (v : Nat) : State :=
  if bit v 31 ∧ (!s.coresOpen ∨ 4 < maskCount (s.fld F.CX_DBG_TRACE_CORE_MASK)) then s.raise 913 [.w (s.fld F.CX_DBG_TRACE_CORE_MASK)]
  else (s.put who F.CX_DBG_TRACE_EN 0 (bits v 31 1)).put who F.CX_DBG_TRACE_WRAP 0 (bits v 30 1)

def execTraceEnable (who : Party) (v : Word) (s : State) : Host.Outcome State Fault Refusal :=
  .next (s.writeTo who 7 3 false (·.traceWrite who v.toNat))

/-- TRACE_BUFFER_END: with WRAP = 0 and no room for a message, the unit stops. -/
def State.traceEnd (s : State) : State :=
  s.when (s.flag F.CX_DBG_TRACE_EN && !s.flag F.CX_DBG_TRACE_WRAP && decide (4096 * s.fld F.CX_DBG_TRACE_SIZE < s.fld F.CX_DBG_TRACE_WPTR + 64))
    (fun s => (s.setFlag F.CX_DBG_TRACE_EN 0 false).raise 912 [.w (s.fld F.CX_DBG_TRACE_LOST)])

def execTraceBufferEnd (s : State) : Host.Outcome State Fault Refusal := .next s.traceEnd

/-! ### Debug sessions (R648 to R652) -/

/-- Close scopes.  No table gives the cause a value: it is open (log entry 21). -/
def State.dbgClose (s : State) (mask : Nat) : State :=
  let scope := s.fld F.AO_DBG_STATUS_SCOPE
  let left := Nat.land scope (7 - mask % 8)
  let s := if bit left 1 then s else s.withTap { s.tap with drive := 0 }
  if left = scope then s else (s.drawn.setFld F.AO_DBG_STATUS_SCOPE 0 left).raise 93 [.w left, .w s.free]

/-- A warm reset of any kind closes the session and spends the challenge (R649, R651). -/
def State.dbgReset (s : State) : State := (s.withDbg { s.dbg with valid := false }).dbgClose 7

/-- A command is accepted. -/
def State.dbgTake (s : State) : State := s.bump F.AO_DBG_STATUS_SEQ

/-- RESULT of a command that is refused. -/
def State.dbgFail (s : State) (result : Nat) : State := (s.setFld F.AO_DBG_STATUS_RESULT 0 result).raise 94 [.w result]

/-- DEBUG_CHALLENGE (R649). -/
def State.dbgChallenge (s : State) : State :=
  if s.flag F.AO_DBG_STATUS_STATE then s.setFld F.AO_DBG_STATUS_RESULT 0 1
  else
    let s := (List.range 4).foldl (fun s i => (s.setFld F.AO_DBG_CHALLENGE_WORD i s.free).drawn) s
    ((s.withDbg { s.dbg with valid := true, at' := s.now }).dbgTake).setFld F.AO_DBG_STATUS_RESULT 0 0

/-- Bytes of a token. -/
def tokenBytes : Nat := 3144

/-- DEBUG_OPEN: the token is taken and its verification starts (R650). -/
def State.dbgOpen (s : State) (mailbox : Bool) : State :=
  if s.flag F.AO_DBG_STATUS_STATE then s.dbgFail 1
  else
    let bs := if mailbox then wordBytes ((List.range 786).map (fun i => Map.get 0 i s.dbg.buf)) else cellsRead s.staging 0 tokenBytes
    (((s.dbgTake).setFlag F.AO_DBG_STATUS_STATE 0 true).withDbg { s.dbg with token := bs })

/-- A scope set is accepted in the module's state (R648). -/
def State.scopeOk (s : State) (scope : Nat) : Bool :=
  let net := s.mode == .safetyNet
  (!bit scope 0 || s.inService || net) && (!bit scope 1 || net) && (!bit scope 2 || net)

/-- The checks of a token in their order: the RESULT, 0 where all hold (R650). -/
def State.tokenCheck (s : State) (t : List Byte) : Nat :=
  let scope := leAt t 6 1
  let root := leAt t 7 1
  let digest := Config.rootDigest root
  let key := (t.drop 64).take 1793
  if leAt t 0 4 ≠ 0x54474244 ∨ leAt t 4 2 ≠ 1 ∨ scope = 0 ∨ 7 < scope ∨ 3 < root then 3
  else if digest = [] ∨ digest ≠ Config.shake256 key 32 ∨ bit s.boot.revoked root then 4
  else if !Config.falconVerify key (Config.shake256 (t.take 1864) 64) ((t.drop 1864).take 1280) then 5
  else if (t.drop 8).take 32 ≠ Config.shake256 identityKey 32 then 6
  else if !s.dbg.valid ∨ (t.drop 40).take 16 ≠ wordBytes ((List.range 4).map (fun i => s.fld F.AO_DBG_CHALLENGE_WORD i)) then 7
  else if !s.scopeOk scope then 2
  else 0

/-- DEBUG_OPEN_DONE (R650 steps 1 to 4). -/
def State.dbgOpened (s : State) : State :=
  if !s.flag F.AO_DBG_STATUS_STATE then s
  else
    let t := s.dbg.token
    let result := s.tokenCheck t
    let s := ((s.setFlag F.AO_DBG_STATUS_STATE 0 false).withDbg { s.dbg with valid := false, token := [] })
    if result ≠ 0 then s.dbgFail result
    else
      let scope := leAt t 6 1
      let s := if bit scope 1 ∨ bit scope 2 then (s.zeroiseSlots (fun _ => true)).zeroMacsec else s
      let s := s.setFlag F.AO_DBG_STATUS_DEBUG_SINCE_BOOT 0 true
      let s := (s.withBoot { s.boot with debugged := true })
      let s := if bit scope 2 then s.setFlag F.AO_DBG_STATUS_SUPV_LOCK 0 true else s
      let all := Nat.lor (s.fld F.AO_DBG_STATUS_SCOPE) scope
      ((s.drawn.setFld F.AO_DBG_STATUS_RESULT 0 0).setFld F.AO_DBG_STATUS_SCOPE 0 all).raise 93 [.w all, .w s.free]

/-- DEBUG_CLOSE (R651). -/
def State.dbgShut (s : State) : State :=
  if s.flag F.AO_DBG_STATUS_STATE then s.setFld F.AO_DBG_STATUS_RESULT 0 1 else (s.dbgTake.setFld F.AO_DBG_STATUS_RESULT 0 0).dbgClose 7

/-- A write of AO_DBG_CMD (R652). -/
def State.dbgCommand (s : State) (v : Nat) : State :=
  match bits v 28 4 with
  | 1 => s.dbgChallenge
  | 2 => s.dbgOpen (bit v 27)
  | 3 => s.dbgShut
  | _ => s

def execDebugChallenge (who : Party) (s : State) : Host.Outcome State Fault Refusal := .next (s.when (s.admits who 0 13) State.dbgChallenge)
def execDebugOpen (who : Party) (mailbox : Bool) (s : State) : Host.Outcome State Fault Refusal :=
  .next (s.when (s.admits who 0 13) (·.dbgOpen mailbox))
def execDebugOpenDone (s : State) : Host.Outcome State Fault Refusal := .next s.dbgOpened
def execDebugClose (who : Party) (s : State) : Host.Outcome State Fault Refusal := .next (s.when (s.admits who 0 13) State.dbgShut)
/-- CHALLENGE_EXPIRY: 10 minutes after the challenge was drawn (R649). -/
def execChallengeExpiry (s : State) : Host.Outcome State Fault Refusal :=
  .next (s.when (decide (s.dbg.at' + 600000000000 ≤ s.now)) (fun s => s.withDbg { s.dbg with valid := false }))

/-! ### JTAG (R647) -/

/-- An instruction is selected and bits are shifted out; the scanned outputs return to the module. -/
def State.shift (s : State) (ir out : Nat) : State := (s.withTap { s.tap with ir := ir, drive := 0 }).emit (.tdo out)

/-- In a TEST session the scanned outputs are held by the TAP. -/
def State.held (s : State) (drive : Nat) : State := if s.testOpen then s.withTap { s.tap with drive := drive } else s

/-- 64 bits through the one-bit bypass register. -/
def bypassed (din : Nat) : Nat := 2 * din % 2 ^ 64

/-- EXTEST: without a TEST session it acts as BYPASS. -/
def State.extest (s : State) (din pins : Nat) : State :=
  if s.testOpen then ((s.shift 0x00 pins).withTap { ir := 0x00, boundary := din, drive := 1 }) else s.shift 0x00 (bypassed din)

def execExtest (din pins : Dword) (s : State) : Host.Outcome State Fault Refusal := .next (s.when s.powered (·.extest din.toNat pins.toNat))

/-- SAMPLE/PRELOAD. -/
def execSamplePreload (din pins : Dword) (s : State) : Host.Outcome State Fault Refusal :=
  .next (s.when s.powered (fun s => ((s.shift 0x01 pins.toNat).withTap { ir := 0x01, boundary := din.toNat })))

/-- IDCODE: version 1, part 0x8128, manufacturer 0x4E5, and 1. -/
def execIdcode (s : State) : Host.Outcome State Fault Refusal := .next (s.when s.powered (·.shift 0x02 0x181289CB))
def execClamp (din : Dword) (s : State) : Host.Outcome State Fault Refusal := .next (s.when s.powered (fun s => (s.shift 0x03 (bypassed din.toNat)).held 1))
def execHighz (din : Dword) (s : State) : Host.Outcome State Fault Refusal := .next (s.when s.powered (fun s => (s.shift 0x04 (bypassed din.toNat)).held 2))
def execBypass (din : Dword) (s : State) : Host.Outcome State Fault Refusal := .next (s.when s.powered (·.shift 0xFF (bypassed din.toNat)))

/-- DTMCS and DMI read 0 and ignore writes without a CORES session; with one, the debug transport answers what its own standard says, which is open here (log entry 22). -/
def State.transport (s : State) (ir : Nat) : State := if s.coresOpen then s.drawn.shift ir s.free else s.shift ir 0

def execDtmcs (_v : Word) (s : State) : Host.Outcome State Fault Refusal := .next (s.when s.powered (·.transport 0x10))
def execDmi (_v : Dword) (s : State) : Host.Outcome State Fault Refusal := .next (s.when s.powered (·.transport 0x11))

/-- MAILBOX. -/
def State.mailbox (s : State) : MailboxOp → State
  | .write w v => ((s.shift 0x20 0).withDbg { s.dbg with buf := Map.set 0 w.val v.toNat s.dbg.buf })
  | .read w => s.shift 0x20 (Map.get 0 w.val s.dbg.buf)
  | .command v => (s.shift 0x20 0).dbgCommand v.toNat

def execMailbox (op : MailboxOp) (s : State) : Host.Outcome State Fault Refusal := .next (s.when s.powered (·.mailbox op))

end Sys2Proof.Machine
end

