-- ==== Sys2Proof/Machine/HostLinks.lean ====
section
/-! DEFINITION. Host links and drive links: their states, completions, drives and their errors (R320 to R324, R329 to R348). -/

namespace Sys2Proof.Machine

/-! ### Violations and counters (R343, R344, R346) -/

/-- Count on a host link. -/
def State.hostCount (s : State) (h j : Nat) : State := s.bump F.HX_PCIE_STAT_COUNT (11 * h + j)

/-- A host-link condition: its counter, its AER report where it has one, its log entry. -/
def State.hostViolation (s : State) (fi code : Nat) (aer : Bool) : State :=
  let s := if aer ∧ fi < 2056 then s.setCfg fi { s.cfg fi with aer := Nat.lor (s.cfg fi).aer (2 ^ code) } else s
  s.violate (0x6000 + code) fi 769 []

/-- Count on a root port. -/
def State.rpCount (s : State) (slot j : Nat) : State := s.bump F.HX_RP_STAT_COUNT (6 * (slot / 4) + j)

/-- A root-port condition. -/
def State.rpViolation (s : State) (slot code : Nat) : State := s.violate (0x6100 + code) slot 773 []

/-! ### Host sub-links (R324) -/

/-- Host sub-link states (R345). -/
def hlDown : Nat := 0
def hlTraining : Nat := 1
def hlRetry : Nat := 2
def hlActive : Nat := 3

def State.hlState (s : State) (h n : Nat) : Nat := s.fld F.HX_PCIE_LINK_STATUS_STATE (2 * h + n)

/-- Sub-links a host link's mode uses (R320). -/
def State.sublinks (s : State) (h : Nat) : List Nat := if s.flag F.HX_PCIE_LINK_CFG_BIFUR h then [0, 1] else [0]

/-- Move a host sub-link; DOWNS counts exits from ACTIVE and from RETRY to TRAINING; EV0768 reports the change. -/
def State.hlGo (s : State) (h n st : Nat) : State :=
  let i := 2 * h + n
  let old := s.hlState h n
  if old = st then s
  else
    let s := if old = hlActive ∨ (old = hlRetry ∧ st = hlTraining) then s.bumpSat F.HX_PCIE_LINK_STATUS_DOWNS i else s
    let s := if st < hlRetry then
        (((s.setFld F.HX_PCIE_LINK_STATUS_RATE i 0).setFld F.HX_PCIE_LINK_STATUS_WIDTH i 0).setFld F.HX_PCIE_LINK_STATUS_FLIT i 0).setFld
          F.HX_PCIE_LINK_STATUS_POWER i 0
      else s
    (s.setFld F.HX_PCIE_LINK_STATUS_STATE i st).raise 768 [.w h, .w n, .w old, .w st]

/-- The module state lets host link `h` train (R324), and HX is not being reset (R15). -/
def State.hlAllowed (s : State) (h : Nat) : Bool :=
  !s.fenced 6 && match s.mode with
  | .boot | .run | .rideThrough => true
  | .safetyNet => h == 0
  | _ => false

/-- Detect starts on the sub-links of a host link whose PERST_N is deasserted. -/
def State.hostStart (s : State) (h : Nat) : State :=
  if (s.host h).perst ∨ !s.hlAllowed h then s
  else (s.sublinks h).foldl (fun s n => if s.hlState h n = hlDown then s.hlGo h n hlTraining else s) s

/-- Every read of a link is abandoned (R324, R335). -/
def State.abandonLink (s : State) (h : Nat) : State :=
  let l := s.host h
  s.setHost h { l with reads := [], queue := [], dead := l.dead ++ l.reads.map (s.deadTag · true) }

/-- The module leaves the states in which host link `h` runs (R324). -/
def State.hostStop (s : State) (h : Nat) : State :=
  [0, 1].foldl (fun s n => s.hlGo h n hlDown) (s.abandonLink h)

/-- The module enters RUN: RETRY becomes ACTIVE (R324). -/
def State.hostRun (s : State) : State :=
  [0, 1].foldl (fun s h => [0, 1].foldl (fun s n => if s.hlState h n = hlRetry then s.hlGo h n hlActive else s) s) s

def execHostPerstDeassert (link : Fin 2) (s : State) : Host.Outcome State Fault Refusal :=
  .next ((s.setHost link.val { s.host link.val with perst := false }).hostStart link.val)

/-- A link width of R323. -/
def linkWidth (w : Nat) : Bool := w == 1 || w == 2 || w == 4 || w == 8 || w == 16

/-- What a host sub-link can train to (R323): 2.5 to 64 GT/s, flit mode at 64 GT/s, x1 up to the width of the mode; low power is L0p in flit mode, L1 else. -/
def State.hostFits (s : State) (h rate width power : Nat) (flit : Bool) : Bool :=
  decide (0 < rate) && linkWidth width && decide (width ≤ if s.flag F.HX_PCIE_LINK_CFG_BIFUR h then 8 else 16) && (rate != 6 || flit)
    && (power == 0 || power == (if flit then 1 else 2))

/-- HOST_DL_ACTIVE (R324): RETRY in BOOT, else ACTIVE, with what the link trained to; on a link that is up, what it now runs at (log entry 50). -/
def State.hostDl (s : State) (h n rate width power : Nat) (flit : Bool) : State :=
  if s.hlState h n < hlTraining ∨ !s.hostFits h rate width power flit then s
  else
    let s := if s.hlState h n = hlTraining then s.hlGo h n (if s.mode = .boot then hlRetry else hlActive) else s
    let i := 2 * h + n
    (((s.setFld F.HX_PCIE_LINK_STATUS_RATE i rate).setFld F.HX_PCIE_LINK_STATUS_WIDTH i width).setFlag F.HX_PCIE_LINK_STATUS_FLIT i flit).setFld
      F.HX_PCIE_LINK_STATUS_POWER i power

def execHostDlActive (link sub : Fin 2) (rate : Fin 7) (width : Fin 17) (flit : Bool) (s : State) (power : Fin 3 := 0) : Host.Outcome State Fault Refusal :=
  .next (s.hostDl link.val sub.val rate.val width.val power.val flit)

/-- HOST_TRAIN_TIMEOUT (R324). -/
def execHostTrainTimeout (link sub : Fin 2) (s : State) : Host.Outcome State Fault Refusal :=
  .next (s.when (s.hlState link.val sub.val == hlTraining) (·.hostCount link.val 10))

/-- Every function of a list is reset; a reset that takes in the manager ends dirty-page logging (R336, R361). -/
def State.resetFns (s : State) (fis : List Nat) (kind : Nat) : State :=
  let s := if fis.contains s.mgr then s.dlogDrop else s
  fis.foldl (fun s fi => s.fnReset fi kind) s

/-- A hot reset or DL_Down on a sub-link (R324, R336). -/
def State.sublinkReset (s : State) (h n : Nat) : State :=
  if s.hlState h n ≠ hlRetry ∧ s.hlState h n ≠ hlActive then s
  else (s.resetFns (s.onSublink h n) 2).hlGo h n hlTraining

def execHotReset (link sub : Fin 2) (s : State) : Host.Outcome State Fault Refusal := .next (s.sublinkReset link.val sub.val)

def execHostDlDown (link sub : Fin 2) (s : State) : Host.Outcome State Fault Refusal := .next (s.sublinkReset link.val sub.val)

/-- HOST_PERST_ASSERT: the fundamental reset of a link (R324, R336). -/
def State.perstAssert (s : State) (h : Nat) : State :=
  let s := s.setHost h { s.host h with perst := true }
  let s := s.resetFns ((s.sublinks h).flatMap (s.onSublink h)) 3
  [0, 1].foldl (fun s n => s.hlGo h n hlDown) s

def execHostPerstAssert (link : Fin 2) (s : State) : Host.Outcome State Fault Refusal := .next (s.perstAssert link.val)

/-- A write of HX_PCIE_LINK_CFG (R322). -/
def State.bifurWrite (s : State) (who : Party) (h v : Nat) : State :=
  if v % 2 = s.fld F.HX_PCIE_LINK_CFG_BIFUR h then s
  else if [0, 1].any (fun n => s.hlState h n != hlDown) then s.linkRefuse 0 (h * 0x80000)
  else s.put who F.HX_PCIE_LINK_CFG_BIFUR h v

/-! ### Completions (R329, R333, R334) -/

/-- A read has failed: its ring's fetch fails (R388), and the rest of its data is not used. -/
def State.readFailed (s : State) (r : HostRead) : State :=
  if s.ringKind r.ring = kindSubmit ∧ (s.ringState r.ring = ringActive ∨ s.ringState r.ring = ringStopping) then s.descFetch r.ring false []
  else s

/-- A read is over: its tag is free, and waiting reads go out (R330). -/
def State.readOver (s : State) (h tag : Nat) : State :=
  let l := s.host h
  (s.setHost h { l with reads := l.reads.filter (·.tag != tag) }).pumpReads h 64

/-- The function that answers for an unexpected completion: PF0 of the link. -/
def linkFn (h : Nat) : Nat := 4 * h

/-- COMPLETION_RX (R329, R334, R343). -/
def State.completionRx (s : State) (h tag : Nat) (st : CplStatus) : State :=
  let l := s.host h
  match l.reads.find? (·.tag == tag) with
  | some r =>
    match st with
    | .data n =>
      if n.val < r.left then
        s.setHost h { l with reads := l.reads.map (fun x => if x.tag == tag then { x with left := x.left - n.val } else x) }
      else
        let s := s.readOver h tag
        if (s.host h).reads.any (·.ring == r.ring) then s else s.dmaDone r.ring
    | .error => (((s.hostCount h 7).hostViolation r.fi 4 false).readOver h tag).readFailed r
    | .poisoned => (((s.hostCount h 6).hostViolation r.fi 3 true).readOver h tag).readFailed r
  | none =>
    match l.dead.find? (·.tag == tag) with
    | some d =>
      let s := if d.abandoned then s.hostCount h 3 else s
      (s.hostCount h 1).hostViolation (linkFn h) 6 true
    | none => (s.hostCount h 2).hostViolation (linkFn h) 6 true

def execCompletionRx (link : Fin 2) (tag : Fin 1024) (status : CplStatus) (s : State) : Host.Outcome State Fault Refusal :=
  .next (s.completionRx link.val tag.val status)

/-- COMPLETION_TIMEOUT (R332, R333, R335), no earlier than the timer's value; an abandoned request's expiry is counted once and not reported. -/
def State.completionLate (s : State) (h tag : Nat) : State :=
  let l := s.host h
  match l.reads.find? (·.tag == tag) with
  | some r =>
    if s.now < r.expires then s
    else
      let s := s.setHost h { l with reads := l.reads.filter (·.tag != tag), dead := l.dead ++ [s.deadTag r false] }
      (((s.hostCount h 0).hostViolation r.fi 5 true).pumpReads h 64).readFailed r
  | none => if l.dead.any (fun d => d.tag == tag && d.abandoned && decide (d.expires ≤ s.now)) then s.hostCount h 0 else s

def execCompletionTimeout (link : Fin 2) (tag : Fin 1024) (s : State) : Host.Outcome State Fault Refusal :=
  .next (s.completionLate link.val tag.val)

/-- TAG_RELEASE (R334): twice the timer value has passed. -/
def State.tagRelease (s : State) (h tag : Nat) : State :=
  let l := s.host h
  (s.setHost h { l with dead := l.dead.filter (fun d => !(d.tag == tag && decide (d.until' ≤ s.now))) }).pumpReads h 64

def execTagRelease (link : Fin 2) (tag : Fin 1024) (s : State) : Host.Outcome State Fault Refusal := .next (s.tagRelease link.val tag.val)

/-! ### Drive sub-links (R321, R339 to R342) -/

/-- Drive sub-link states (R347). -/
def dlDown : Nat := 0
def dlTraining : Nat := 1
def dlEnum : Nat := 2
def dlEnabled : Nat := 3
def dlRefused : Nat := 4
def dlContained : Nat := 5

def State.dlState (s : State) (d : Nat) : Nat := s.fld F.HX_RP_SUBLINK_STATUS_STATE d

/-- The mode of the root port uses drive slot `d` (R321). -/
def State.slotUsed (s : State) (d : Nat) : Bool :=
  let m := s.fld F.HX_RP_CFG_BIFUR (d / 4)
  m == 2 || (m == 1 && d % 2 == 0) || d % 4 == 0

/-- PERST_N is driven low in DOWN and CONTAINED. -/
def dlHolds (st : Nat) : Bool := st == dlDown || st == dlContained

/-- Move a drive sub-link: EV0772, its PERST_N, and the storage functions told where it leaves ENABLED (R339). -/
def State.dlGo (s : State) (d st : Nat) : State :=
  let old := s.dlState d
  if old = st then s
  else
    let s := if st < dlEnum then (s.setFld F.HX_RP_SUBLINK_STATUS_RATE d 0).setFld F.HX_RP_SUBLINK_STATUS_WIDTH d 0 else s
    let s := (s.setFld F.HX_RP_SUBLINK_STATUS_STATE d st).raise 772 [.w (d / 4), .w (d % 4), .w old, .w st]
    let s := if dlHolds old = dlHolds st then s else s.emit (.pin (pinDrivePerst d) (b2n (!dlHolds st)))
    if old = dlEnabled then s.backendLost (s.onDrive d) else s

/-- The module state lets drives run. -/
def State.drivesRun (s : State) : Bool := s.mode == .boot || s.mode == .run || s.mode == .rideThrough

/-- A drive sub-link starts where EN, its port's mode and the module's state let it. -/
def State.driveStart (s : State) (d : Nat) : State :=
  if s.dlState d = dlDown ∧ s.flag F.HX_RP_SUBLINK_CTRL_EN d ∧ s.slotUsed d ∧ s.drivesRun then s.dlGo d dlTraining else s

/-- A write of HX_RP_SUBLINK_CTRL (R339, R347). -/
def State.driveCtrl (s : State) (who : Party) (d v : Nat) : State :=
  let s := if s.slotUsed d then s.put who F.HX_RP_SUBLINK_CTRL_EN d v else s
  let s := if bit v 1 ∧ (s.dlState d = dlContained ∨ s.dlState d = dlRefused) then s.dlGo d dlTraining else s
  if !s.flag F.HX_RP_SUBLINK_CTRL_EN d then s.dlGo d dlDown else s.driveStart d

def execDriveEn (who : Party) (slot : Fin 8) (s : State) : Host.Outcome State Fault Refusal :=
  .next (s.writeTo who 6 1 false (·.driveCtrl who slot.val 1))

/-- DRIVE_RELEASE (R339, R342): EN keeps its value. -/
def execDriveRelease (who : Party) (slot : Fin 8) (s : State) : Host.Outcome State Fault Refusal :=
  .next (s.writeTo who 6 1 false (fun s => s.driveCtrl who slot.val (2 + s.fld F.HX_RP_SUBLINK_CTRL_EN slot.val)))

/-- A write of HX_RP_CFG (R322, R347). -/
def State.rpBifur (s : State) (who : Party) (p v : Nat) : State :=
  if v % 4 = 3 ∨ v % 4 = s.fld F.HX_RP_CFG_BIFUR p then s
  else if (List.range 4).any (fun n => s.dlState (4 * p + n) != dlDown) then s.linkRefuse 1 (p * 0x80000)
  else s.put who F.HX_RP_CFG_BIFUR p v

/-- Lanes of a drive sub-link in the mode of its root port (R321). -/
def State.slotLanes (s : State) (d : Nat) : Nat :=
  match s.fld F.HX_RP_CFG_BIFUR (d / 4) with | 0 => 16 | 1 => 8 | _ => 4

/-- DRIVE_DL_ACTIVE (R339), at a rate and a width of R323. -/
def State.driveDl (s : State) (d rate width : Nat) : State :=
  if s.dlState d ≠ dlTraining ∨ rate = 0 ∨ !linkWidth width ∨ s.slotLanes d < width then s
  else ((s.dlGo d dlEnum).setFld F.HX_RP_SUBLINK_STATUS_RATE d rate).setFld F.HX_RP_SUBLINK_STATUS_WIDTH d width

def execDriveDlActive (slot : Fin 8) (rate : Fin 6) (width : Fin 17) (s : State) : Host.Outcome State Fault Refusal :=
  .next (s.driveDl slot.val rate.val width.val)

/-- DRIVE_TRAIN_TIMEOUT (R339): PERST_N is asserted and released. -/
def execDriveTrainTimeout (slot : Fin 8) (s : State) : Host.Outcome State Fault Refusal :=
  .next (s.when (s.dlState slot.val == dlTraining) (fun s => (s.emit (.pin (pinDrivePerst slot.val) 0)).emit (.pin (pinDrivePerst slot.val) 1)))

/-- The device is refused (R339, R343). -/
def State.driveRefuse (s : State) (d : Nat) : State :=
  (((s.rpCount d 1).rpViolation d 2).dlGo d dlRefused).raise 774 [.w (d / 4), .w (d % 4), .w 0x6102]

/-- An NVMe drive is refused for its version or its namespaces: condition 0x6901 (R470). -/
def State.driveUnfit (s : State) (d : Nat) : State :=
  (((s.rpCount d 1).violate 0x6901 d 769 []).dlGo d dlRefused).raise 774 [.w (d / 4), .w (d % 4), .w 0x6901]

/-- DRIVE_ENUM (R339, R451). -/
def State.driveEnum (s : State) (d : Nat) (id : DriveId) : State :=
  if s.dlState d ≠ dlEnum then s
  else if !id.nvme then s.driveRefuse d
  else if !id.v14 ∨ !id.spaces.any (fun x => x.2.1 == 512 || x.2.1 == 4096) then s.driveUnfit d
  else
    let s := (s.withStor { s.stor with drives := Map.set {} d { mps := min id.mps.val 2, vwc := id.vwc, spaces := id.spaces } s.stor.drives })
    (s.dlGo d dlEnabled).backendBack (s.onDrive d)

def execDriveEnum (slot : Fin 8) (id : DriveId) (s : State) : Host.Outcome State Fault Refusal := .next (s.driveEnum slot.val id)

def execDriveEnumTimeout (slot : Fin 8) (s : State) : Host.Outcome State Fault Refusal :=
  .next (s.when (s.dlState slot.val == dlEnum) (·.driveRefuse slot.val))

/-- DPC (R342). -/
def State.dpc (s : State) (d code : Nat) : State :=
  if s.dlState d ≠ dlEnabled then s
  else (((s.rpCount d 2).rpViolation d code).dlGo d dlContained).raise 774 [.w (d / 4), .w (d % 4), .w (0x6100 + code)]

def execDriveError (slot : Fin 8) (s : State) : Host.Outcome State Fault Refusal := .next (s.dpc slot.val 3)

/-- MMIO_TIMEOUT (R343 code 0x04). -/
def execMmioTimeout (slot : Fin 8) (s : State) : Host.Outcome State Fault Refusal :=
  .next (s.when (s.dlState slot.val == dlEnabled) (fun s => (s.rpCount slot.val 4).dpc slot.val 4))

/-- SURPRISE_DOWN (R339, R343 code 0x05). -/
def execSurpriseDown (slot : Fin 8) (s : State) : Host.Outcome State Fault Refusal :=
  .next (s.when (s.dlState slot.val == dlEnabled) (fun s => ((s.rpCount slot.val 3).rpViolation slot.val 5).dlGo slot.val dlTraining))

/-- DRIVE_REQUEST (R341): the interrupt window takes 4-byte writes. -/
def State.driveRequest (s : State) (d : Nat) (q : DriveReq) : State :=
  let irq := q.write && q.len.val == 4 && decide (0xFEE00000 ≤ q.addr.toNat) && decide (q.addr.toNat + 4 ≤ 0xFEE01000)
  if s.dlState d ≠ dlEnabled then s
  -- a vector reaches the storage sequencer that serves the drive
  else if irq then (s.emit (.driveCpl d 0)).sqSignal (fun j => s.stor.cmds.any (fun c => c.ring == j.1 && c.pos == j.2 && s.onDrive d c.handle)) 3
  else if q.allowed then s.emit (.driveCpl d 0)
  else
    let s := (s.rpCount d 0).rpViolation d 1
    if q.write then s else s.emit (.driveCpl d 1)

def execDriveRequest (slot : Fin 8) (req : DriveReq) (s : State) : Host.Outcome State Fault Refusal := .next (s.driveRequest slot.val req)

/-- CORRECTABLE_ERROR on a host link (R343 code 0x08) or a drive link (R340). -/
def State.correctable (s : State) : LinkRef → State
  | .host h n =>
    if s.hlState h.val n.val < hlTraining then s
    else (s.hostCount h.val 9).hostViolation (4 * h.val + (if s.flag F.HX_PCIE_LINK_CFG_BIFUR h.val then 2 * n.val else 0)) 8 true
  | .drive d => if s.dlState d.val = dlEnabled then s.rpCount d.val 5 else s

def execCorrectableError (link : LinkRef) (s : State) : Host.Outcome State Fault Refusal := .next (s.correctable link)

end Sys2Proof.Machine
end

