-- ==== Sys2Proof/Machine/Package.lean ====
section
/-! DEFINITION. Sensors, pins and auxiliary rails (R660 to R675). -/

namespace Sys2Proof.Machine

/-! ### Temperature (R668, R669) -/

/-- The reading of a sensor in 1/16 C. -/
def State.temp (s : State) (k : Nat) : Int := signed 16 (s.fld F.AO_PKG_TEMP_TEMP k)
def State.tempValid (s : State) (k : Nat) : Bool := s.flag F.AO_PKG_TEMP_VALID k

/-- WARN in 1/16 C. -/
def State.warnAt (s : State) : Int := 16 * (min (max (s.fld F.AO_PKG_THERM_WARN) 60) 105 : Nat)

/-- Two or more sensors of some region are invalid: the region counts as at WARN. -/
def State.blindRegion (s : State) : Bool :=
  (List.range 9).any (fun r => let x := regionSensors r; decide (2 ≤ ((List.range x.2).filter (fun k => !s.tempValid (x.1 + k))).length))

/-- The sensor with the highest valid reading. -/
def State.hottest (s : State) : Option Nat :=
  (List.range 48).foldl (fun m k =>
    if !s.tempValid k then m
    else match m with
      | none => some k
      | some j => if s.temp j < s.temp k then some k else some j) none

/-- EV0101: sensor, TEMP, kind, whose encoding no table gives (log entry 21). -/
def State.thermEvent (s : State) (k : Nat) : State := s.drawn.raise 101 [.w k, .w (s.fld F.AO_PKG_TEMP_TEMP k), .w s.free]

/-- One sensor's reading. -/
def State.sense (s : State) (k : Nat) (x : SensorReading) : State :=
  let t := signed 16 x.temp.val + match s.calVal 2 k with | some v => signed 32 v * 16 / 100 | none => 0
  let s := (s.setFlag F.AO_PKG_TEMP_VALID k x.valid).setFld F.AO_PKG_TEMP_TEMP k (unsigned 16 (max (-32768) (min t 32767)))
  let n := if x.valid ∧ 1760 ≤ t then Map.get 0 k s.pkg.hot + 1 else 0
  (s.withPkg { s.pkg with hot := Map.set 0 k n s.pkg.hot })

/-- WARNING and its change (R669). -/
def State.warn (s : State) : State :=
  let excess := (List.range 48).any (fun k => s.tempValid k && decide (s.warnAt ≤ s.temp k)) || s.blindRegion
  let cool := (List.range 48).all (fun k => !s.tempValid k || decide (s.temp k < s.warnAt - 80)) && !s.blindRegion
  let w := s.flag F.AO_PKG_THERM_WARNING
  let w' := excess || (w && !cool)
  if w = w' then s else ((s.setFlag F.AO_PKG_THERM_WARNING 0 w').thermEvent (s.fld F.AO_PKG_THERM_HOTTEST)).pins

/-- Some sensor has moved 15 C or more from its reading at the last Tightrope run (R612). -/
def State.tempMoved (s : State) : Bool :=
  (s.tr.temps.zip (List.range 48)).any (fun e => s.tempValid e.2 && decide (240 ≤ (s.temp e.2 - signed 16 e.1).natAbs))

/-- TEMP_SAMPLE: a reading of every sensor; the offsets of the calibration set are applied (R617, R668). -/
def State.tempSample (s : State) (xs : List SensorReading) : State :=
  s.when (s.powered && xs.length == 48) (fun s =>
    let s := (xs.zip (List.range 48)).foldl (fun (s : State) (e : SensorReading × Nat) => s.sense e.2 e.1) s
    let s := match s.hottest with
      | some k => s.setFld F.AO_PKG_THERM_HOTTEST 0 k
      | none => s
    (if s.tempMoved ∧ !s.tr.due then s.trRequest else s).warn)

def execTempSample (readings : List SensorReading) (s : State) : Host.Outcome State Fault Refusal := .next (s.tempSample readings)

/-! ### GPIO (R672) -/


/-- A write of AO_PKG_GPIO. -/
def State.gpioWrite (s : State) (who : Party) (n v : Nat) : State :=
  let old := s
  let s := (((s.put who F.AO_PKG_GPIO_EDGE n (bits v 6 2)).put who F.AO_PKG_GPIO_OE n (bits v 3 1)).put who F.AO_PKG_GPIO_OUT n (bits v 2 1)).put
    who F.AO_PKG_GPIO_OD n (bits v 0 1)
  let f := bits v 4 2
  let s := if f = 0 ∨ (f = 1 ∧ n = 15) then s.put who F.AO_PKG_GPIO_FUNC n f else s
  s.gpioSeen old n

/-- GPIO_EDGE: the level outside changes; the pin shows it where the module does not drive it. -/
def State.gpioEdge (s : State) (n : Nat) (level : Bool) : State :=
  s.when s.powered (fun s => (s.setFlag F.AO_PKG_GPIO_IN n level).gpioSeen s n)

def execGpioEdge (pin : Fin 16) (level : Bool) (s : State) : Host.Outcome State Fault Refusal := .next (s.gpioEdge pin.val level)

/-! ### Auxiliary rails (R662) -/

/-- AUX_OVERLOAD: rail 0 V1P8, 1 V3P3. -/
def State.auxOver (s : State) (rail : Nat) : State :=
  s.when s.powered (fun s =>
    let s := s.setFlag (if rail = 0 then F.AO_PKG_AUX_V1P8_FAULT else F.AO_PKG_AUX_V3P3_FAULT) 0 true
    (s.withPkg { s.pkg with auxOff := Nat.lor s.pkg.auxOff (2 ^ rail) }).raise 102 [.w rail])

def execAuxOverload (rail : Fin 2) (s : State) : Host.Outcome State Fault Refusal := .next (s.auxOver rail.val)

/-- AUX_RETRY: the rail is on again; a load that is still too high overloads it anew. -/
def State.auxRetry (s : State) (rail : Nat) : State :=
  if bit s.pkg.auxOff rail then (s.withPkg { s.pkg with auxOff := s.pkg.auxOff - 2 ^ rail }) else s

def execAuxRetry (rail : Fin 2) (s : State) : Host.Outcome State Fault Refusal := .next (s.when s.powered (·.auxRetry rail.val))

/-! ### SMBus (R18, R664) -/

/-- SMBus answers in this state. -/
def State.smbUp (s : State) : Bool := s.powered && s.mode != .vault

/-- SMB_SET_ADDRESS; `pec` is whether its PEC was right.  The two low bits of an address that is not aligned are dropped (log entry 23). -/
def execSmbSetAddress (addr : Word) (pec : Bool) (s : State) : Host.Outcome State Fault Refusal :=
  .next (s.when (s.smbUp && pec) (fun s => (s.withPkg { s.pkg with smbAddr := addr.toNat / 4 * 4 })))

/-- SMB_ALERT_RESPONSE. -/
def execSmbAlertResponse (s : State) : Host.Outcome State Fault Refusal :=
  .next (s.when (s.smbUp && s.pkg.alert) (fun s => (s.withPkg { s.pkg with alert := false }).emit (.pin pinSmbAlertN 1)))

end Sys2Proof.Machine
end

