-- ==== Sys2Proof/Machine/RegMap.lean ====
section
/-! DEFINITION. From an internal address to the register, its copy and the word of it (R676, R677), and the fields of one word. -/

namespace Sys2Proof.Machine

/-- The copy of a row that holds an offset, and the offset within that copy. -/
def decodeDims : List (Nat × Nat) → Nat → Nat → Option (Nat × Nat)
  | [], off, i => some (i, off)
  | (stride, n) :: ds, off, i => if off / stride < n then decodeDims ds (off % stride) (i * n + off / stride) else none

/-- A word of the register map: its row, the copy, the word of that copy. -/
structure RegHit where
  row : RegRow
  idx : Nat
  word : Nat

/-- The row and place of an address in one row. -/
def RegRow.at? (r : RegRow) (addr : Nat) : Option RegHit :=
  if addr < r.base then none
  else match decodeDims r.dims (addr - r.base) 0 with
    | some (i, off) => if off < 4 * r.words ∧ off % 4 = 0 then some { row := r, idx := i, word := off / 4 } else none
    | none => none

/-- The register at an internal address. -/
def regAt (addr : Nat) : Option RegHit := layout.findSome? (·.at? addr)

/-- The slots of a row that have bits in word `w`. -/
def RegRow.slotsOf (r : RegRow) (w : Nat) : List Slot :=
  r.slots.filter (fun x => decide (x.lo < 32 * w + 32) && decide (32 * w < x.lo + x.fld.width))

/-- The value of a field once the bits of it in word `w` are those of `v`. -/
def Slot.merge (x : Slot) (w old v : Nat) : Nat :=
  let a := max x.lo (32 * w)
  let b := min (x.lo + x.fld.width) (32 * w + 32)
  let n := b - a
  old - bits old (a - x.lo) n * 2 ^ (a - x.lo) + bits v (a - 32 * w) n * 2 ^ (a - x.lo)

/-- What a field's value shows in word `w`. -/
def Slot.part (x : Slot) (w val : Nat) : Nat :=
  let a := max x.lo (32 * w)
  let b := min (x.lo + x.fld.width) (32 * w + 32)
  bits val (a - x.lo) (b - a) * 2 ^ (a - 32 * w)

/-- A field whose bits all lie in word `w`. -/
def Slot.whole (x : Slot) (w : Nat) : Bool := decide (32 * w ≤ x.lo) && decide (x.lo + x.fld.width ≤ 32 * w + 32)

end Sys2Proof.Machine
end

