-- ==== Sys2Proof/Machine/Programs.lean ====
section
/-! DEFINITION. Luavy program sets: their format and checks, loads, swaps and drains (R172 to R194). -/

namespace Sys2Proof.Machine

/-! ### The program-set section (R176 to R179) -/

/-- A pipeline record. -/
structure PipeRec where
  region : Nat
  q : Nat
  entry : Nat
  recirc : Nat
  bridge : List Nat
  cells : List (Nat × CellBank)

/-- A graph record: its region, and the words it writes by address in that region's PA_PRS block. -/
structure GraphRec where
  region : Nat
  words : List (Nat × Nat)

/-- A program set. -/
structure ProgSet where
  linked : Bool
  contract : List Byte
  graphs : List GraphRec
  pipes : List PipeRec

/-- PA_PRS base of a region. -/
def prsBase (region : Nat) : Nat := region * 0x10000000 + 0x00200000

/-- The banked parser words of a graph record, by address (R177). -/
def graphWords (region : Nat) (bs : List Byte) : List (Nat × Nat) :=
  let base := prsBase region
  let at' (off addr : Nat) : Nat × Nat := (base + addr, leAt bs off 4)
  (List.range 64).flatMap (fun st => ((List.range 64).filter (fun w => w == 0 || w == 1 || (decide (4 ≤ w) && decide (w < 8)) || decide (32 ≤ w))).map
      (fun w => at' (16 + 256 * st + 4 * w) (256 * st + 4 * w)))
    ++ (List.range 129).map (fun i => at' (16400 + 4 * i) (0x4000 + 4 * i))
    ++ [at' 16916 0x7FF0]
    ++ (List.range 32).map (fun i => at' (16928 + 4 * i) (0x8000 + 4 * i))

/-- A graph record (R177). -/
def parseGraph (bs : List Byte) : Option GraphRec :=
  let r := leAt bs 0 1
  if r = 0 ∨ 4 < r ∨ bs.length < 17056 then none else some { region := r, words := graphWords r bs }

/-- A 32-byte run of words as a map from word `k`. -/
def wordMap (k : Nat) : List Nat → Map Nat
  | [] => []
  | w :: ws => Map.set 0 k w (wordMap (k + 1) ws)

/-- Word `w` of a key profile without its reserved bits, which read zero (R6, R148). -/
def profWord (w v : Nat) : Nat := Nat.land v (if w = 0 then 0xF8000000 else if w < 6 then 0x7F7F7F7F else 0)

/-- Bundles of a cell record. -/
def parseBundles (bs : List Byte) (n : Nat) : Map Nat :=
  match n with
  | 0 => []
  | n + 1 => Map.set 0 (leAt bs 0 1) (leAt bs 6 18) (parseBundles (bs.drop 24) n)

/-- Bindings of a cell record: the valid ones. -/
def parseBinds (bs : List Byte) : List (Nat × Nat) :=
  (List.range 4).filterMap (fun i =>
    let b := leAt bs (2 * i) 2
    if bit b 15 then some (bits b 10 2, bits b 0 6) else none)

/-- The cell records of a pipeline, and the bytes after them (R179). -/
def parseCells (fuel : Nat) (last : Option Nat) (bs : List Byte) : Option (List (Nat × CellBank)) :=
  match fuel with
  | 0 => none
  | fuel + 1 =>
    if bs = [] then some []
    else
      let c := leAt bs 0 1
      let n := leAt bs 1 1 + 1
      let size := 336 + 24 * n
      if bs.length < size ∨ last.any (fun l => decide (c ≤ l)) = true then none
      else
        let bank : CellBank :=
          { bundles := parseBundles ((bs.drop 336).take (24 * n)) n, konst := wordMap 0 (bytesWords 16 ((bs.drop 16).take 64)),
            keyprof := wordMap 0 ((List.range 64).map (fun i => profWord (i % 8) (leAt bs (80 + 4 * i) 4))), binds := parseBinds (bs.drop 4) }
        (parseCells fuel (some c) (bs.drop size)).map (fun cs => (c, bank) :: cs)

/-- A pipeline record (R178). -/
def parsePipe (bs : List Byte) : Option PipeRec :=
  let r := leAt bs 0 1
  let q := leAt bs 1 1
  let mask := leAt bs 20 4
  if r = 0 ∨ 4 < r ∨ 15 < q ∨ 7 < leAt bs 4 1 then none
  else match parseCells 33 none (bs.drop 64) with
    | none => none
    | some cs =>
      if cs.any (fun c => decide (cellCount q ≤ c.1)) ∨ (cs.foldl (fun a c => a + 2 ^ c.1) 0) ≠ mask then none
      else some { region := r, q := q, entry := leAt bs 2 1, recirc := if q < 8 then leAt bs 3 1 else 0,
                  bridge := if q < 8 then (List.range 8).map (fun i => leAt bs (8 + i) 1) else [], cells := cs }

/-- Round up to a multiple of 8. -/
def align8 (n : Nat) : Nat := (n + 7) / 8 * 8

/-- `n` graph records from the front, and the rest. -/
def parseGraphs (n : Nat) (bs : List Byte) : Option (List GraphRec × List Byte) :=
  match n with
  | 0 => some ([], bs)
  | n + 1 =>
    match parseGraph (bs.take 17056), parseGraphs n (bs.drop 17056) with
    | some g, some (gs, rest) => some (g :: gs, rest)
    | _, _ => none

/-- `n` pipeline records. -/
def parsePipes (n : Nat) (bs : List Byte) : Option (List PipeRec) :=
  match n with
  | 0 => some []
  | n + 1 =>
    let len := leAt bs 24 4
    if len < 64 ∨ bs.length < len then none
    else match parsePipe (bs.take len), parsePipes n (bs.drop (align8 len)) with
      | some p, some ps => some (p :: ps)
      | _, _ => none

/-- The program-set section (R176); a record that names a region or a pipeline twice makes it malformed (R182), and so does a linked set without all 32 ingress pipelines (R185). -/
def parseSet (bs : List Byte) : Option ProgSet :=
  let np := leAt bs 6 2
  let ng := leAt bs 8 1
  let mode := leAt bs 9 1
  if leAt bs 0 4 ≠ 0x5350564C ∨ leAt bs 4 2 ≠ 1 ∨ np = 0 ∨ 256 < np ∨ 4 < ng ∨ 1 < mode then none
  else match parseGraphs ng (bs.drop 64) with
    | none => none
    | some (gs, rest) =>
      match parsePipes np rest with
      | none => none
      | some ps =>
        let ids := ps.map (fun p => pipeIx p.region p.q)
        let ingress := (ps.filter (fun p => decide (p.q < 8))).length
        if ids.eraseDups.length ≠ ids.length ∨ ((gs.map (·.region)).eraseDups).length ≠ gs.length ∨ (mode = 1 ∧ ingress ≠ 32) then none
        else some { linked := mode == 1, contract := (bs.drop 16).take 32, graphs := gs, pipes := ps }

/-! ### What the loader checks (R180 to R182) -/

/-- An A slot that raises an exception whenever it executes. -/
def aStatic (w : Nat) : Bool :=
  let op := slotOp w
  if op = 0 then w != 0
  else opReserved op || opClass op != 0 || aReserved w || (decide (op < 0x20) && !slotWritable (slotRd w))

/-- A T slot that raises one: its table is outside the cell's bindings, or its key profile builds no key. -/
def tStatic (b : CellBank) (w : Nat) : Bool :=
  let op := slotOp w
  let d := slotRd w
  let t := bits w 5 6
  let res := bits w 0 2
  let top := d + (if res = 3 then 3 else if res = 2 then 1 else 0)
  if op = 0 then w != 0
  else opReserved op || opClass op != 1 || (op != 0x42 && slotRs w != 0) || (res == 0 && d != 0) || decide (127 < top)
    || !b.binds.any (·.2 == t) || bits (Map.get 0 (8 * bits w 2 3) b.keyprof) 27 5 == 0
    || (op == 0x42 && b.binds.any (fun x => x.2 == t && x.1 != 0))
    || (res != 0 && (List.range (top + 1 - d)).any (fun i => !slotWritable (d + i)))

/-- An X slot that raises one. -/
def xStatic (w : Nat) : Bool :=
  let op := slotOp w
  if op = 0 then w != 0
  else opReserved op || opClass op != 2 || xReserved w || ((op == 0x50 || op == 0x5C) && slotRs w == 127)

/-- A bundle that fails STATIC_EXC or CELL_TABLES. -/
def bundleStatic (b : CellBank) (w : Nat) : Bool :=
  aStatic (bits w 96 32) || aStatic (bits w 64 32) || tStatic b (bits w 32 32) || xStatic (bits w 0 32)

/-- A pipeline record that fails STRUCTURE; a valid bridge selector outside C0 to C95 fails BRIDGE. -/
def PipeRec.badStructure (p : PipeRec) : Bool :=
  p.cells.any (fun c => c.2.bundles.any (fun e => bundleStatic c.2 e.2)) || p.bridge.any (fun b => bit b 7 && decide (96 ≤ b % 128))

/-- Lookup ports of a region by KIND (R181). -/
def portBudget (kind : Nat) : Nat := if kind = 0 then 40 else if kind = 1 then 48 else if kind = 2 then 24 else 16

/-- Bindings as (pipeline, cell, KIND, TABLE), of a record. -/
def PipeRec.bindList (p : PipeRec) : List (Nat × Nat × Nat × Nat) := p.cells.flatMap (fun c => c.2.binds.map (fun b => (p.q, c.1, b.1, b.2)))

/-- Bindings of a bank of a pipeline as loaded. -/
def State.bankBinds (s : State) (region q bank : Nat) : List (Nat × Nat × Nat × Nat) :=
  (List.range (cellCount q)).flatMap (fun c => (s.cellBank region q c bank).binds.map (fun b => (q, c, b.1, b.2)))

/-- A list of bindings passes a region's ports. -/
def overPorts (l : List (Nat × Nat × Nat × Nat)) : Bool :=
  (List.range 4).any (fun k => decide (portBudget k < (l.filter (fun b => b.2.2.1 == k)).length))

/-- The union of R181 for a region: current banks, the new ones, and other banks still in use or waiting. -/
def State.unionBinds (s : State) (region : Nat) (ps : List PipeRec) : List (Nat × Nat × Nat × Nat) :=
  let cur := (List.range 16).flatMap (fun q => s.bankBinds region q (s.epoch (pipeIx region q)))
  let other := (List.range 16).flatMap (fun q =>
    let p := pipeIx region q
    if ps.any (fun x => x.region == region && x.q == q) then []
    else if s.flag F.PA_LVC_PROG_STATUS_OLD_BUSY p ∨ s.flag F.PA_LVC_PROG_STATUS_LOADED p then s.bankBinds region q (1 - s.epoch p) else [])
  (cur ++ other ++ (ps.filter (·.region == region)).flatMap PipeRec.bindList).eraseDups

/-- The checks of R182 from STRUCTURE to SHADOW_BUSY: 0 where all pass. -/
def State.setCheck (s : State) (x : ProgSet) : Nat :=
  let regions := [1, 2, 3, 4]
  let split (g : GraphRec) : Bool :=
    let e := s.epoch (pipeIx g.region 0)
    (List.range 8).any (fun q => s.epoch (pipeIx g.region q) != e || !x.pipes.any (fun p => p.region == g.region && p.q == q))
  if x.pipes.any PipeRec.badStructure then 5
  else if x.pipes.any (fun p => p.bindList.any (fun b => !s.tblEn b.2.2.2 || s.tblKind b.2.2.2 != b.2.2.1)) then 6
  else if regions.any (fun r => overPorts ((x.pipes.filter (·.region == r)).flatMap PipeRec.bindList)) then 7
  else if regions.any (fun r => overPorts (s.unionBinds r x.pipes)) then 8
  else if !x.linked ∧ x.contract ≠ s.prog.contract then 9
  else if x.graphs.any split then 10
  else if x.pipes.any (fun p => s.flag F.PA_LVC_PROG_STATUS_OLD_BUSY (pipeIx p.region p.q)) then 11
  else 0

/-! ### Writing banks (R172, R175, R178, R187 step 4) -/

/-- Write a pipeline record into a bank: every cell of the pipeline, absent cells as zeros. -/
def State.writePipe (s : State) (p : PipeRec) (bank : Nat) : State :=
  let px := pipeIx p.region p.q
  let cells := (List.range (cellCount p.q)).foldl (fun (m : Map CellBank) c =>
    let b : CellBank := match p.cells.find? (·.1 == c) with | some e => e.2 | none => {}
    Map.set {} (bankIx p.region p.q c bank) b m) s.prog.cells
  let pb : PipeBank := { entry := p.entry, recirc := p.recirc, bridge := p.bridge }
  let bad := s.prog.bad.filter (fun e =>
    !((List.range (cellCount p.q)).any (fun c => e.1 / 256 == bankIx p.region p.q c bank)))
  (s.withProg { s.prog with cells := cells, pipes := Map.set {} (2 * px + bank) pb s.prog.pipes, bad := bad })

/-- Write a field of the parse-graph bank that is not current. -/
def State.setAlt (s : State) (f : Fld) (i v : Nat) : State :=
  (s.withProg { s.prog with alt := Map.set [] f.id (Map.set 0 i (Nat.xor (v % 2 ^ f.width) (f.rst i)) (Map.get [] f.id s.prog.alt)) s.prog.alt })

/-- Write one word of a graph, into the current bank or the other. -/
def State.graphWord (s : State) (alt : Bool) (addr v : Nat) : State :=
  match regAt addr with
  | none => s
  | some h => (h.row.slotsOf h.word).foldl (fun s x =>
      let nv := x.merge h.word 0 v
      if alt then s.setAlt x.fld h.idx nv else s.setFld x.fld h.idx nv) s

/-- Write a graph record. -/
def State.writeGraph (s : State) (alt : Bool) (g : GraphRec) : State := g.words.foldl (fun s e => s.graphWord alt e.1 e.2) s

/-- The parser fields that have two banks (R172). -/
def graphFields : List Fld :=
  [F.PA_PRS_ST_CTL_DEFAULT_NEXT, F.PA_PRS_ST_CTL_END, F.PA_PRS_ST_CTL_HDR_EN, F.PA_PRS_ST_CTL_HDR_BIT, F.PA_PRS_ST_CTL_SEL_W,
   F.PA_PRS_ST_CTL_SEL_OFF, F.PA_PRS_ST_CTL_DEF_END, F.PA_PRS_ST_ADV_ADV_CONST, F.PA_PRS_ST_ADV_ADV_SCALE, F.PA_PRS_ST_ADV_ADV_FIELD_EN,
   F.PA_PRS_ST_ADV_ADV_FIELD_W, F.PA_PRS_ST_ADV_ADV_FIELD_OFF, F.PA_PRS_ST_EXT_EN, F.PA_PRS_ST_EXT_DST, F.PA_PRS_ST_EXT_OFF,
   F.PA_PRS_ST_EXT_W, F.PA_PRS_ST_EXT_MODE, F.PA_PRS_ST_TR_MATCH_VALUE, F.PA_PRS_ST_TR_MATCH_MASK, F.PA_PRS_ST_TR_NEXT_VALID,
   F.PA_PRS_ST_TR_NEXT_END, F.PA_PRS_ST_TR_NEXT_NEXT, F.PA_PRS_START_STATE, F.PA_PRS_HASH_SEED_SEED, F.PA_PRS_HASH_HDR_VAL_VAL,
   F.PA_PRS_HASH_HDR_MASK_MASK, F.PA_PRS_HASH_FIELDS_EN, F.PA_PRS_HASH_FIELDS_ADDR_A, F.PA_PRS_HASH_FIELDS_ADDR_B, F.PA_PRS_HASH_FIELDS_ADDR_N,
   F.PA_PRS_HASH_FIELDS_PORT_EN, F.PA_PRS_HASH_FIELDS_PORTS, F.PA_PRS_HASH_PROTO_TABLE, F.PA_PRS_HASH_PROTO_PROTO_EN, F.PA_PRS_HASH_PROTO_PROTO]

/-- Entries of a map whose keys belong to a region's copies of a field, taken from `b`, the others from `a`. -/
def mixRegion (per region : Nat) (a b : Map Nat) : Map Nat :=
  (b.filter (fun e => e.1 / per + 1 == region)).foldl (fun m e => Map.put e.1 e.2 m) (a.filter (fun e => e.1 / per + 1 != region))

/-- Exchange the two parse-graph banks of a region. -/
def State.swapGraph (s : State) (region : Nat) : State :=
  graphFields.foldl (fun s f =>
    let cur := Map.get [] f.id s.regs
    let alt := Map.get [] f.id s.prog.alt
    let r := Map.set [] f.id (mixRegion f.per region cur alt) s.regs
    let a := Map.set [] f.id (mixRegion f.per region alt cur) s.prog.alt
    ((s.withRegs r).withProg { s.prog with alt := a })) s

/-! ### Loads (R187, R188) -/

/-- The copies that FX holds, in admission stages and in queues, each with its frame. -/
def State.copiesHeld (s : State) : List (Copy × FxFrame) :=
  let staged := (s.fx.mainq ++ s.fx.express).flatMap (fun e => e.2.flatMap (fun a => a.copies.map (fun c => { c with fid := a.fid })))
  (staged ++ s.fx.queues.flatMap (·.2)).filterMap (fun c => (Map.get none c.fid s.fx.frames).map (fun f => (c, f)))

/-- The logical ports a copy is for. -/
def State.copyPorts (s : State) (c : Copy) (f : FxFrame) : List Nat := if c.kind = 4 then (s.groupLps c.group f.pkt).getD [] else [c.lp]

/-- FX holds a copy of the generation before, other than those of a region that is being reset (R174, R189). -/
def State.oldGenHeld (s : State) : Bool :=
  s.copiesHeld.any (fun x => x.2.pkt.lgen != s.prog.gen && !s.fenced x.2.pkt.region
    && !(s.copyPorts x.1 x.2).all (fun lp => s.fenced (lpRegion lp)))

/-- The module's contract digest follows a linked swap once FX holds no frame of the old generation (R185 step 5). -/
def State.contractEnd (s : State) : State :=
  match s.prog.nextContract with
  | some c => if s.prog.linked = [] ∧ !s.oldGenHeld then s.withProg { s.prog with contract := c, nextContract := none } else s
  | none => s

/-- STATE of AO_PROG_STATUS (R193). -/
def progIdle : Nat := 0
def progVerify : Nat := 1
def progLoading : Nat := 2
def progLoaded : Nat := 3
def progSwapping : Nat := 4
def progDrain : Nat := 5

/-- A load ends: RESULT, EV0030, IDLE.  A bank written and not swapped stays LOADED (R188, R194); a linked load that ends before its flip takes its toggle of LGEN back (DEDUCED, log entry 63). -/
def State.progEnd (s : State) (result : Nat) : State :=
  let s := ((s.setFld F.AO_PROG_STATUS_RESULT 0 result).setFld F.AO_PROG_STATUS_STATE 0 progIdle).setFld F.AO_PROG_STATUS_LGEN 0 s.prog.gen
  (s.withProg { s.prog with load := none }).raise 30 [.w result, .w (s.fld F.AO_PROG_STATUS_SEQ)]

/-- A command that arrives while one is in progress (R188). -/
def State.progBusy (s : State) : State :=
  (s.setFld F.AO_PROG_STATUS_RESULT 0 1).raise 30 [.w 1, .w (s.fld F.AO_PROG_STATUS_SEQ)]

/-- What a load learns from its program set. -/
def Load.of (l : Load) (x : ProgSet) : Load :=
  { l with linked := x.linked, pipes := x.pipes.map (fun p => pipeIx p.region p.q), graphs := x.graphs.map (·.region), contract := x.contract }

/-- Steps 4 and 5 of R187: write the banks that are not current.  A linked set then toggles LGEN (R185 step 2). -/
def State.progWrite (s : State) (x : ProgSet) (l : Load) (m : List Byte) : State :=
  let s := x.pipes.foldl (fun s p => s.writePipe p (1 - s.epoch (pipeIx p.region p.q))) s
  let s := x.graphs.foldl (fun s g => s.writeGraph true g) s
  if l.ecc then s.progEnd 12
  else if x.pipes.any (fun p => s.fenced p.region) then s.progEnd 14
  else
    let l := { l.of x with go := l.op == 1, m := m }
    let s := l.pipes.foldl (fun s p => s.setFlag F.PA_LVC_PROG_STATUS_LOADED p true) s
    let s := if x.linked then s.setFld F.AO_PROG_STATUS_LGEN 0 (1 - s.prog.gen) else s
    (s.withProg { s.prog with load := some l }).setFld F.AO_PROG_STATUS_STATE 0 (if l.op = 1 then progLoading else progLoaded)

/-- The program set of a verified image. -/
def imageSet (h : ImgHdr) (bs : List Byte) : Option ProgSet := (h.section? bs 4).bind parseSet

/-- Steps 2 to 5 of R187. -/
def State.progRun (s : State) (l : Load) : State :=
  match s.stagedImage l.pages with
  | none => s.progEnd 3
  | some (h, bs) =>
    match imageSet h bs with
    | none => s.progEnd 4
    | some x =>
      let c := s.setCheck x
      if c ≠ 0 then s.progEnd c else s.progWrite x l (imageM bs h.len)

/-- What time does for a load (R187): an image in VERIFY is verified, checked and written; a swap that is wanted begins at T_SWAP. -/
def State.progTick (s : State) : State :=
  match s.prog.load with
  | none => s.contractEnd
  | some l =>
    let st := s.fld F.AO_PROG_STATUS_STATE
    if st = progVerify then s.progRun l
    else if (st = progLoading ∨ st = progLoaded) ∧ l.go ∧ s.fld F.AO_PROG_TSWAP_TSWAP ≤ s.now then s.setFld F.AO_PROG_STATUS_STATE 0 progSwapping
    else s

/-- LOAD_SWAP (1) and LOAD_ONLY (2): step 1.  What the set names is fenced off from its start on (R175, R188). -/
def State.progLoad (s : State) (op pages : Nat) (ecc : Bool) : State :=
  if s.fld F.AO_PROG_STATUS_STATE ≠ progIdle then s.progBusy
  else if s.mode ≠ .run then s.progEnd 2
  else
    let s := s.bump F.AO_PROG_STATUS_SEQ
    if pages = 0 ∨ 4096 < pages then s.progEnd 4
    else
      let l : Load := { op := op, pages := pages, ecc := ecc }
      let l := match (s.stagedImage pages).bind (fun x => imageSet x.1 x.2) with | some x => l.of x | none => l
      (s.withProg { s.prog with load := some l }).setFld F.AO_PROG_STATUS_STATE 0 progVerify

def execLoadSwap (who : Party) (pages : Fin 8192) (ecc : Bool) (s : State) : Host.Outcome State Fault Refusal :=
  .next (s.when (s.admits who 0 3) (·.progLoad 1 pages.val ecc))

def execLoadOnly (who : Party) (pages : Fin 8192) (ecc : Bool) (s : State) : Host.Outcome State Fault Refusal :=
  .next (s.when (s.admits who 0 3) (·.progLoad 2 pages.val ecc))

/-- SWAP (R187): steps 6 to 8 of a load that stands at LOADED. -/
def State.progSwap (s : State) : State :=
  match s.prog.load with
  | none => s
  | some l =>
    if s.fld F.AO_PROG_STATUS_STATE ≠ progLoaded ∨ l.go then s.progBusy
    else if s.mode ≠ .run then (s.setFld F.AO_PROG_STATUS_RESULT 0 2).raise 30 [.w 2, .w (s.fld F.AO_PROG_STATUS_SEQ)]
    else ((s.bump F.AO_PROG_STATUS_SEQ).withProg { s.prog with load := some { l with go := true } })

def execSwap (who : Party) (s : State) : Host.Outcome State Fault Refusal := .next (s.when (s.admits who 0 3) State.progSwap)

/-- A load whose epochs have not flipped ends with a result (R188). -/
def State.progStop (s : State) (result : Nat) : State :=
  let st := s.fld F.AO_PROG_STATUS_STATE
  if progVerify ≤ st ∧ st ≤ progSwapping then s.progEnd result else s

/-- ABORT (R188, R193): before the swap it is accepted and ends the load; in SWAP and DRAIN it is ignored. -/
def State.progAbort (s : State) : State :=
  if progSwapping ≤ s.fld F.AO_PROG_STATUS_STATE then s.raise 2 []
  else if s.fld F.AO_PROG_STATUS_STATE = progIdle then s
  else (s.bump F.AO_PROG_STATUS_SEQ).progStop 13

def execAbort (who : Party) (s : State) : Host.Outcome State Fault Refusal := .next (s.when (s.admits who 0 3) State.progAbort)

/-- A write of AO_PROG_CMD by its OP. -/
def State.progCmd (s : State) (op pages : Nat) (ecc : Bool) : State :=
  match op with
  | 1 => s.progLoad 1 pages ecc
  | 2 => s.progLoad 2 pages ecc
  | 3 => s.progSwap
  | 4 => s.progAbort
  | _ => s

/-! ### Swaps and drains (R184 to R187) -/

/-- Flip the epoch of a pipeline. -/
def State.flip (s : State) (l : Load) (p : Nat) : State :=
  let s := s.setFld F.PA_LVC_PROG_STATUS_EPOCH p (1 - s.epoch p)
  let s := (s.setFlag F.PA_LVC_PROG_STATUS_LOADED p false).setFlag F.PA_LVC_PROG_STATUS_OLD_BUSY p true
  -- the registers show the graph bank of the region's current epoch, which is that of its pipeline 0 (R173, R175; log entry 63)
  let s := if p % 16 = 0 then s.swapGraph (p / 16 + 1) else s
  s.withProg { s.prog with linked := Map.set false p l.linked s.prog.linked }

/-- EPOCH_FLIP (R187 step 6). -/
def State.epochFlip (s : State) : State :=
  match s.prog.load with
  | none => s
  | some l =>
    let st := s.fld F.AO_PROG_STATUS_STATE
    if !l.go ∨ st < progLoading ∨ progSwapping < st ∨ s.now < s.fld F.AO_PROG_TSWAP_TSWAP then s
    else
      let s := l.pipes.foldl (fun s p => s.flip l p) s
      let s := if l.linked then s.withProg { s.prog with nextContract := some l.contract, gen := 1 - s.prog.gen } else s
      s.setFld F.AO_PROG_STATUS_STATE 0 progDrain

def execEpochFlip (s : State) : Host.Outcome State Fault Refusal := .next s.epochFlip

/-- A frame of the other epoch of ingress pipeline `p` waits at its region's recirculation port, or in FX for it (R173). -/
def State.oldRecirc (s : State) (p : Nat) : Bool :=
  let region := p / 16 + 1
  (Map.get [] (128 + region) s.mac.lb).any (fun g => g.recircIn && g.epoch != s.epoch p)
    || s.copiesHeld.any (fun x => (s.copyPorts x.1 x.2).contains (536 + region) && bits (Map.get 0 96 x.2.pkt.phv) 17 1 != s.epoch p)

/-- The bank that is not current is out of use (R186): for an ingress pipeline no recirculated frame of that epoch, for an egress pipeline in a linked swap no frame of the old generation in FX. -/
def State.oldBankIdle (s : State) (p : Nat) : Bool :=
  if p % 16 < 8 then !s.oldRecirc p else !(Map.get false p s.prog.linked && s.oldGenHeld)

/-- Step 8 of R187, and the new contract of R185, once the old banks are out of use. -/
def State.drainEnd (s : State) : State :=
  let s := s.contractEnd
  match s.prog.load with
  | some l =>
    if s.fld F.AO_PROG_STATUS_STATE = progDrain ∧ l.pipes.all (fun x => !s.flag F.PA_LVC_PROG_STATUS_OLD_BUSY x) then (s.measure l.m).progEnd 0 else s
  | none => s

/-- OLD_BANK_DRAINED (R186, R187 steps 7 and 8). -/
def State.oldDrained (s : State) (p : Nat) : State :=
  if !s.flag F.PA_LVC_PROG_STATUS_OLD_BUSY p ∨ !s.oldBankIdle p then s
  else
    let s := s.setFlag F.PA_LVC_PROG_STATUS_OLD_BUSY p false
    (s.withProg { s.prog with linked := Map.set false p false s.prog.linked }).drainEnd

def execOldBankDrained (pipe : Fin 64) (s : State) : Host.Outcome State Fault Refusal := .next (s.oldDrained pipe.val)

/-- DRAIN_TIMEOUT (R187 step 7): a linked swap only. -/
def State.progDrainLate (s : State) : State :=
  match s.prog.load with
  | some l => if l.linked ∧ s.fld F.AO_PROG_STATUS_STATE = progDrain then s.progEnd 15 else s
  | none => s

def execDrainTimeout (s : State) : Host.Outcome State Fault Refusal := .next s.progDrainLate

/-- The program set of a booted image: bank 0, every epoch 0 (R183). -/
def State.progBoot (s : State) (bs : List Byte) : State :=
  match parseSet bs with
  | none => s
  | some x =>
    let s := x.pipes.foldl (fun s p => s.writePipe p 0) s
    let s := x.graphs.foldl (fun s g => s.writeGraph false g) s
    (s.withProg { s.prog with contract := x.contract })

end Sys2Proof.Machine
end

