-- ==== Sys2Proof/Machine/Regs.lean ====
section
/-! DEFINITION. Register accesses: who may reach a register, what a word reads as, what a write of a word does, and 64-bit values (R8, R660, R676 to R680, R683). -/

namespace Sys2Proof.Machine

/-! ### What a field reads as -/

/-- Byte `4 w + k` of a bridge selector list. -/
def bridgeByte (b : PipeBank) (n : Nat) : Nat := b.bridge.getD n 0

/-- The bank of the current epoch of the cell at page index `x` = 256 (region - 1) + page. -/
def State.cellNow (s : State) (x : Nat) : CellBank :=
  let page := x % 256
  let q := if page < 160 then page / 20 else 8 + (page - 160) / 12
  Map.get {} (2 * x + s.epoch (16 * (x / 256) + q)) s.prog.cells

/-- The bank of the current epoch of pipeline `p`. -/
def State.pipeNow (s : State) (p : Nat) : PipeBank := s.pipeBank p (s.epoch p)

/-- Copy `i` of a field of HX_PCIE_BR: container or valid bit `k` of its word. -/
def State.bridgeField (s : State) (i k : Nat) : Nat := bridgeByte (s.pipeNow (i / 2)) (4 * (i % 2) + k)

/-- The times of a list that lie within `span` ns before now. -/
def State.recent (s : State) (span : Nat) (l : List Nat) : List Nat := l.filter (fun t => decide (s.now < t + span))

/-- What a field reads as.  Fields that show other state are computed from it. -/
def State.view (s : State) (f : Fld) (i : Nat) : Nat :=
  let is (g : Fld) : Bool := f.id == g.id
  if is F.AO_TB_STATUS_TPLL_LOCK then b2n s.tpll
  else if is F.AO_WAKE_STATUS_PINNED then b2n (s.pinned i)
  else if is F.AO_PKG_GPIO_IN then b2n (s.gpioPin i)
  else if is F.AO_FUSE_STATUS_FLOOR then s.boot.floor
  else if is F.AO_FUSE_STATUS_REVOKED then s.boot.revoked
  else if is F.AO_FUSE_STATUS_ROOTS_SET then rootsSet
  else if is F.AO_ATT_OUT_WORD then leAt s.boot.report (4 * i) 4
  else if is F.AO_ATT_PUBKEY_WORD then leAt (sized 1793 identityKey) (4 * i) 4
  else if is F.AO_FLT_STATUS_MF_COUNT then min (s.recent 86400000000000 s.faultTimes).length 15
  else if is F.AO_FLT_REGION_RESETS_HOUR then min (s.recent 3600000000000 (Map.get [] i s.resetTimes)).length 15
  else if is F.PA_LV_CELL_KONST_KONST then Map.get 0 (i % 16) (s.cellNow (i / 16)).konst
  else if is F.PA_LV_CELL_KEYPROF_WORD then Map.get 0 (i % 64) (s.cellNow (i / 64)).keyprof
  else if is F.PA_LVC_PIPE_CFG_ENTRY_BUNDLE then (s.pipeNow i).entry
  else if is F.PA_LVC_PIPE_CFG_RECIRC_BUNDLE then (s.pipeNow i).recirc
  else if is F.PA_LVC_PIPE_BR_BR_CONT0 then s.bridgeField i 0 % 128
  else if is F.PA_LVC_PIPE_BR_BR_VALID0 then s.bridgeField i 0 / 128
  else if is F.PA_LVC_PIPE_BR_BR_CONT1 then s.bridgeField i 1 % 128
  else if is F.PA_LVC_PIPE_BR_BR_VALID1 then s.bridgeField i 1 / 128
  else if is F.PA_LVC_PIPE_BR_BR_CONT2 then s.bridgeField i 2 % 128
  else if is F.PA_LVC_PIPE_BR_BR_VALID2 then s.bridgeField i 2 / 128
  else if is F.PA_LVC_PIPE_BR_BR_CONT3 then s.bridgeField i 3 % 128
  else if is F.PA_LVC_PIPE_BR_BR_VALID3 then s.bridgeField i 3 / 128
  else if is F.FX_ADM_FREE_F then (if s.freeF < 0 then s.free % 2 ^ 21 else s.freeF.toNat)
  else if is F.FX_ADM_STATUS_GUARANTEE then s.guarantee
  else if is F.HX_RING_STATUS_POS then s.ringPos i
  else if is F.HX_SQ_STATUS_BUSY_CTX then s.busyCtx i
  else if is F.HX_SQ_STATUS_MCHECKS then s.mchecks i
  else s.fld f i

/-- What word `w` of copy `i` of a register reads as, by its fields alone (R6, R8). -/
def State.peek (s : State) (row : RegRow) (i w : Nat) : Nat :=
  (row.slotsOf w).foldl (fun a x => a + (if x.fld.acc == .wo then 0 else x.part w (s.view x.fld i))) 0

/-- What word `w` of HX_FN_REC reads as, for its copy in the function view (R681). -/
def State.recWord (s : State) (fi w : Nat) : Nat :=
  match regAt (0x60200000 + 0x40 * fi + 4 * w) with
  | some h => s.peek h.row h.idx h.word
  | none => 0

/-- A read of one word: what it returns, and the state after it (R8: an RC field is cleared; R681: the function view's bounds). -/
def State.readHit (s : State) (h : RegHit) : Nat × State :=
  match h.row.reg with
  | .HX_FNV_REC => (s.recWord (h.idx / 8) (h.idx % 8), s)
  | .HX_FNV_MSIX =>
    let n := s.fld F.HX_FN_REC_VEC_COUNT (h.idx / 2048)
    if h.idx % 2048 < n then (s.peek h.row h.idx h.word, s)
    else (b2n (n == 0 && h.idx % 2048 == 0 && h.word == 3), s)
  | .HX_FNV_PBA =>
    let n := s.fld F.HX_FN_REC_VEC_COUNT (h.idx / 64)
    (s.peek h.row h.idx h.word % 2 ^ (n - 32 * (h.idx % 64)), s)
  | _ =>
    (s.peek h.row h.idx h.word,
      (h.row.slotsOf h.word).foldl (fun s x => if x.fld.acc == .rc then s.setFld x.fld h.idx 0 else s) s)

/-! ### What a write does -/

/-- The words of one access to a register: each with its value. -/
abbrev Words := List (Nat × Nat)

/-- The fields that an access reaches. -/
def RegRow.reached (row : RegRow) (ws : Words) : List Slot :=
  row.slots.filter (fun x => ws.any (fun w => decide (x.lo < 32 * w.1 + 32) && decide (32 * w.1 < x.lo + x.fld.width)))

/-- A write acts on every field it reaches according to the field's access code (R8). -/
def State.fieldsWrite (s : State) (who : Party) (h : RegHit) (ws : Words) : State :=
  (h.row.reached ws).foldl (fun s x =>
    let old := match x.fld.acc with | .w1c | .w1s => 0 | _ => s.fld x.fld h.idx
    s.write who x.fld h.idx (ws.foldl (fun a w => x.merge w.1 a w.2) old)) s

/-- The value an access gives word `w`, if it reaches it. -/
def wordOf (ws : Words) (w : Nat) : Option Nat := (ws.find? (·.1 == w)).map (·.2)

/-- A request through AO_MODULE_CTRL (R22, R25, R26): accepted, it waits for the end of the clock. -/
def State.moduleRequest (s : State) (halt snet restart : Bool) : State :=
  let n := if halt then 3 else if snet then 2 else if restart then 1 else 0
  let ok := s.inService || (s.mode == .safetyNet && (n == 3 || (n == 1 && s.boot.uploaded)))
  if n = 0 then s else if ok then (s.withRequest n) else s.raise 2 []

/-- A write of AO_MODULE_CTRL (R25). -/
def State.moduleCtrl (s : State) (v : Nat) : State :=
  s.when (bits v 16 16 == 0xC1A0) (·.moduleRequest (bit v 2) (bit v 1) (bit v 0))

/-- REQ in AO_FLT_REGION (R598): accepted, the fault waits for the end of the clock with its requester. -/
def State.regionRequest (s : State) (who : Party) (r : Nat) : State :=
  let requester := s.rank who * 4096 + partyIndex who
  let may := match s.rank who with
    | 2 => decide (1 ≤ r ∧ r ≤ 7)
    | 3 => decide ((1 ≤ r ∧ r ≤ 4) ∨ r = 7)
    | _ => false
  if !may ∨ s.fenced r ∨ !s.inService then s.raise 72 [.w r, .w requester]
  else (s.withFaultsDue (s.faultsDue ++ [(r, 0x0909, [requester])]))

/-- The rule of R529 for the thresholds in units of 25 mV. -/
def supplyOk (vhold vvault vfloor : Nat) : Bool :=
  decide (180 ≤ vfloor) && decide (vfloor + 4 ≤ vvault) && decide (vvault + 20 ≤ vhold) && decide (vhold ≤ 640)

/-- A write of AO_SUP_CFG (R529). -/
def State.supCfg (s : State) (who : Party) (v : Nat) : State :=
  if !supplyOk (bits v 22 10) (bits v 12 10) (bits v 2 10) then s.raise 43 [.w 0]
  else ((s.put who F.AO_SUP_CFG_VHOLD 0 (bits v 22 10)).put who F.AO_SUP_CFG_VVAULT 0 (bits v 12 10)).put who F.AO_SUP_CFG_VFLOOR 0 (bits v 2 10)

/-- A write of AO_LED_VMODEL: a value of 0 is ignored (R556). -/
def State.vmodelWrite (s : State) (who : Party) (v : Nat) : State :=
  let base := bits v 16 16
  let rec' := bits v 0 16
  let s := if base = 0 then s else s.put who F.AO_LED_VMODEL_VAULT_BASE 0 base
  let s := if rec' = 0 then s else s.put who F.AO_LED_VMODEL_E_REC 0 rec'
  if base = 0 ∨ rec' = 0 then s.raise 55 [.w 4] else s

/-- A write of AO_PD_CTRL (R526, R527, R535). -/
def State.pdCtrl (s : State) (who : Party) (d v : Nat) : State :=
  let s := if bit v 30 then s.setFlag F.AO_PD_CTRL_REFUSED d false else s
  if bit v 31 then s.forceOff who d else s.forceRelease who d

/-- A write of AO_BOOT_CTRL (R574, R577). -/
def State.bootCtrl (s : State) (who : Party) (v : Nat) : State :=
  let s := if bit v 0 then s.undemote 0 else s
  let s := if bit v 1 then s.undemote 1 else s
  if bit v 31 ∧ who = .supervisor then s.setFlag F.AO_BOOT_CTRL_READY 0 true else s

/-- A parser register is shut: a load that carries a parse graph for its region is under way (R175). -/
def State.graphShut (s : State) (region : Nat) (row : RegRow) : Bool :=
  (match s.prog.load with | some l => l.graphs.contains region | none => false)
    && row.slots.any (fun x => graphFields.any (fun f => f.id == x.fld.id))

/-- A write of a parser register (R108, R121, R175). -/
def State.parserWrite (s : State) (who : Party) (region off : Nat) (h : RegHit) (ws : Words) : State :=
  let v := (wordOf ws 0).getD 0
  let bad := match h.row.reg with
    | .PA_PRS_ST_EXT => decide (96 ≤ bits v 24 7) || decide (2 ≤ bits v 6 2)
    | .PA_PRS_CPU_TGT => let lp := bits v 22 10; !(inRange lp 512 25 || lp == 1023)
    | _ => false
  if s.graphShut region h.row || bad then s.raise (128 * region + 16) [.w off] else s.fieldsWrite who h ws

/-- A container that FX may read (R240, R294). -/
def bridgeCont (c : Nat) : Bool := decide (c < 96) || decide (120 ≤ c)

/-- A write of FX_ADM_SRC (R240). -/
def State.admSrcWrite (s : State) (who : Party) (h : RegHit) (ws : Words) : State :=
  match ws with
  | (w, v) :: _ =>
    let ok := bridgeCont (bits v 24 7) && (w == 1 || bridgeCont (bits v 16 7))
    if ok then s.fieldsWrite who h ws else s.raise 661 [.w (h.idx + 1), .w w]
  | [] => s

/-- A write of FX_TM_GATE_CFG (R256, R257). -/
def State.gateCfg (s : State) (who : Party) (off : Nat) (h : RegHit) (ws : Words) : State :=
  let lp := h.idx
  let pend := s.flag F.FX_TM_GATE_CFG_PEND lp
  match wordOf ws 0 with
  | some v =>
    if pend ∧ bit v 30 then s.gateRefuse lp (32 * lp) else
    let s := (s.put who F.FX_TM_GATE_CFG_ADMIN_EN lp (bits v 31 1)).put who F.FX_TM_GATE_CFG_ADMIN_LEN lp (bits v 0 9)
    let s := if bit v 30 then s.gateChange lp else s
    if bit v 29 ∧ pend then s.gateCancel lp else s
  | none => if pend ∧ off % 32 < 20 then s.gateRefuse lp off else s.fieldsWrite who h ws

/-- A write of FX_GCL_ENTRY (R252, R256). -/
def State.gclWrite (s : State) (who : Party) (off : Nat) (h : RegHit) (ws : Words) : State :=
  let lp := h.idx / 512
  let b := h.idx / 256 % 2
  if s.fld F.FX_TM_GATE_CFG_OPER_BANK lp = b ∨ s.flag F.FX_TM_GATE_CFG_PEND lp then s.gateRefuse lp off
  else s.fieldsWrite who h ws

/-- A write of HX_RMA_CFG (R443). -/
def State.rmaCfg (s : State) (who : Party) (h : RegHit) (ws : Words) : State :=
  let busy := (s.listed F.HX_RMA_EP_STATE).any (fun e => s.epState e != epDisabled)
    || (s.listed F.HX_RMA_CONN_STATE).any (fun c => s.connState c != connReset)
  let t := s.fieldsWrite who h ws
  let m := 10 * t.fld F.HX_RMA_CFG_M
  let ok := decide (2 * t.fld F.HX_RMA_CFG_TIME_TOL + 10 ≤ m) && decide (2 * m ≤ 1000 * max (t.fld F.HX_RMA_CFG_H) 1)
  if busy || !ok then s.rmaRefuse (4 * h.word) else t.syncKeep

/-- A write of HX_CIPH_NS (R504). -/
def State.ciphNs (s : State) (who : Party) (hd : RegHit) (ws : Words) : State :=
  let h := hd.idx
  let slot := bits ((wordOf ws 0).getD 0) 16 14
  let outside := match s.holders.find? (fun fi => inRange h (s.fld F.HX_FN_REC_NS_BASE fi) (s.fld F.HX_FN_REC_NS_COUNT fi)) with
    | some fi => !inRange slot (s.fld F.HX_FN_REC_KEY_BASE fi) (s.fld F.HX_FN_REC_KEY_COUNT fi)
    | none => false
  if s.nsState h != nsDisabled || outside then s.raise 796 [.w (0x1000 + 4 * h)] else s.fieldsWrite who hd ws

/-- A write of HX_SQ_CTRL (R409, R410). -/
def State.sqCtrl (s : State) (who : Party) (n v : Nat) : State :=
  (s.put who F.HX_SQ_CTRL_CLASS_MASK n (bits v 0 4)).sqOfflineWrite who n (bit v 8)

/-- A write of HX_RING_CMD (R388, R392). -/
def State.ringOp (s : State) (who : Party) (r v : Nat) : State :=
  match bits v 28 4 with
  | 1 => s.ringCmd who r (·.ringEnable r)
  | 2 => s.ringCmd who r (·.ringStop r)
  | 3 => s.ringCmd who r (·.ringResume r)
  | 4 => s.ringCmd who r (·.ringReset r)
  | 5 => s.ringCmd who r (·.ringInvalidate r)
  | _ => s

/-- A write of the MSI-X table in a function's view (R338, R681). -/
def State.msixWrite (s : State) (h : RegHit) (ws : Words) : State :=
  let fi := h.idx / 2048
  let vec := h.idx % 2048
  if s.fld F.HX_FN_REC_VEC_COUNT fi ≤ vec then s
  else ws.foldl (fun s w => match w.1 with
    | 0 => s.setFld F.HX_FNV_MSIX_ADDR h.idx (s.fld F.HX_FNV_MSIX_ADDR h.idx / 2 ^ 32 * 2 ^ 32 + w.2)
    | 1 => s.setFld F.HX_FNV_MSIX_ADDR h.idx (w.2 * 2 ^ 32 + s.fld F.HX_FNV_MSIX_ADDR h.idx % 2 ^ 32)
    | 2 => s.setFld F.HX_FNV_MSIX_DATA h.idx w.2
    | _ => s.msixMask fi vec (bit w.2 0)) s

/-- A write of the words of HX_STOR_NS or HX_FN_DLOG; a 64-bit write that is refused is refused once. -/
def eachWord (s : State) (refused : Bool) (f : State → Nat → Nat → State) (ws : Words) : State :=
  match ws with
  | [] => s
  | (w, v) :: rest => if refused then f s w v else rest.foldl (fun s x => f s x.1 x.2) (f s w v)

/-- The effect of a write of one access to AO's registers.  `bad` tells of the physical failure the action meets (see `RegWrite`). -/
def State.aoWrite (s : State) (who : Party) (h : RegHit) (ws : Words) (bad : Bool) : State :=
  let i := h.idx
  let v := (ws.head?.map (·.2)).getD 0
  match h.row.reg with
  | .AO_MODULE_CTRL => s.moduleCtrl v
  | .AO_TB_CTRL => s.tbCtrlWrite who v
  | .AO_TB_RATE => if s.disciplines who then s.fieldsWrite who h ws else s
  | .AO_TB_OFFSET => (match wordOf ws 1 with | some hi => s.tbOffset who (hi * 2 ^ 32 + (wordOf ws 0).getD 0) | none => s)
  | .AO_TB_SYNC_SET => s.tbSyncSet who v
  | .AO_WAKE_POLICY => if bits v 0 2 = 3 then
      (s.put who F.AO_WAKE_POLICY_IDLE_TIME i (bits v 16 16)).put who F.AO_WAKE_POLICY_WAKE_LEAD i (bits v 8 8)
    else (s.fieldsWrite who h ws).when s.inService (·.wakePin i)
  | .AO_PROG_CMD => s.progCmd (bits v 28 4) (bits v 0 13) bad
  | .AO_UCODE_CMD => if bits v 28 4 = 1 then s.ucodeLoad (bits v 0 13) else s
  | .AO_SUP_CFG => s.supCfg who v
  | .AO_SUP_CAPTEST => if bit v 0 then s.capStart else s
  | .AO_PD_CTRL => s.pdCtrl who i v
  | .AO_LED_VMODEL => s.vmodelWrite who v
  | .AO_BOOT_CTRL => s.bootCtrl who v
  | .AO_IMG_CMD => s.imgCmd (bits v 28 4) (bits v 27 1) (bits v 0 13)
  | .AO_ATT_CMD => if bits v 28 4 = 1 then s.attReport else s
  | .AO_FUSE_CMD => s.fuseCmd v (!bad)
  | .AO_SEAL_CMD => s.sealCmd who v
  | .AO_FLT_REGION => if bit v 31 then s.regionRequest who i else s
  | .AO_FLT_LOG_SEL => s.logSelect who v
  | .AO_FLT_WDOG => s.wdogKick who v
  | .AO_TR_CFG =>
    let s := (s.put who F.AO_TR_CFG_TARGET 0 (bits v 16 8)).put who F.AO_TR_CFG_LIFE_WARN 0 (bits v 0 10)
    if bit v 31 then s.trRequest else s
  | .AO_CAL_CMD => if bits v 28 4 = 1 then s.calUpdate (bit v 27) else s
  | .AO_EVT_ROUTE => (s.fieldsWrite who h ws).routeWritten s i h.word
  | .AO_DBG_CMD => s.dbgCommand v
  | .AO_CCR_CMD => if bits v 28 4 = 1 then s.ccrSweep (bit v 27) (bits v 0 9) else s
  | .AO_PKG_GPIO => s.gpioWrite who i v
  | _ => s.fieldsWrite who h ws

/-- The effect of a write to a register of PA to PD. -/
def State.portWrite (s : State) (who : Party) (addr : Nat) (h : RegHit) (ws : Words) : State :=
  let i := h.idx
  let v := (ws.head?.map (·.2)).getD 0
  let region := addr / 0x10000000
  match h.row.reg with
  | .PA_MAC_PORT_CFG => s.portCfg who i v
  | .PA_MAC_SUBPORT_CFG => s.subportCfg who i v
  | .PA_MAC_LB_CFG => s.lbCfg who i v
  | .PA_MACSEC_STAGE => (s.withMac { s.mac with stage := Map.set 0 i v s.mac.stage })
  | .PA_MACSEC_SA_CMD => s.saCommand i v
  | .PA_PRS_XPROF => if h.word = 3 then s.xprofCommit who i v else s.xprofHold i h.word v
  | .PA_LVC_CNT_CTL => s.counterLatch who i v
  | .PA_MTR_CFG => if h.word = 3 then s.meterCommit who i v else s.meterHold i h.word v
  | _ => if addr / 2 ^ 20 % 256 = 2 then s.parserWrite who region (addr % 2 ^ 20) h ws else s.fieldsWrite who h ws

/-- The effect of a write to a register of FX, CX or MX. -/
def State.coreWrite (s : State) (who : Party) (addr : Nat) (h : RegHit) (ws : Words) : State :=
  let i := h.idx
  let v := (ws.head?.map (·.2)).getD 0
  let off := addr % 2 ^ 20
  match h.row.reg with
  | .FX_ADM_SRC => s.admSrcWrite who h ws
  | .FX_ADM_QCFG => s.qcfgWrite who i h.word v
  | .FX_BUF_CFG => (s.fieldsWrite who h ws).when s.inService State.bgKeep
  | .FX_TM_QSCHED => let t := s.fieldsWrite who h ws; t.shapeWritten i (s.queueShaper i) (t.queueShaper i)
  | .FX_TM_PORT_CFG => let t := s.fieldsWrite who h ws; (t.shapeWritten (8656 + i) (s.portShaper i) (t.portShaper i)).expressHold i
  | .FX_TM_GATE_CFG => s.gateCfg who off h ws
  | .FX_TM_QDEPTH_SAMPLE => if h.word = 0 then s.sampleCommit who i v else s.sampleHold i h.word v
  | .FX_GCL_ENTRY => s.gclWrite who off h ws
  | .FX_REPL_MIR_SESSION => if h.word = 0 ∧ 540 < bits v 22 10 ∧ bits v 22 10 ≠ 1023 then s.raise 640 [] else s.fieldsWrite who h ws
  | .FX_TBE_TBL_CFG => s.tblCfg who i h.word v
  | .FX_TBE_STAGE => if s.flag F.FX_TBE_RESULT_BUSY (i / 48) then s else s.fieldsWrite who h ws
  | .FX_TBE_CMD => s.tblTake i v
  | .FX_STC_SRC => s.stcSrcWrite who i v
  | .FX_STC_ROUTE => s.routeWrite who i v
  | .MX_HBM_PART => s.partWrite who v
  | .MX_HBM_STACK_CTRL => if bit v 0 then s.stackPowerOff who i else s.stackPowerOn who i
  | .CX_CPORT_CFG => s.cportWrite who i v
  | .CX_CORE_RELEASE => if who = .supervisor then s.coreRelease v else s
  | .CX_DBG_TRACE => if h.word = 0 then s.traceWrite who v
      else if h.word < 4 ∧ s.flag F.CX_DBG_TRACE_EN then s else s.fieldsWrite who h ws
  | _ => s.fieldsWrite who h ws

/-- The effect of a write to a register of HX. -/
def State.hxWrite (s : State) (who : Party) (addr : Nat) (h : RegHit) (ws : Words) : State :=
  let i := h.idx
  let v := (ws.head?.map (·.2)).getD 0
  match h.row.reg with
  | .HX_PCIE_LINK_CFG => s.bifurWrite who i v
  | .HX_PCIE_FN_XLATE => s.xlateWrite who (i / 4) (i % 4) h.word v
  | .HX_RP_CFG => s.rpBifur who i v
  | .HX_RP_SUBLINK_CTRL => s.driveCtrl who i v
  | .HX_FN_REC => s.recWrite who i h.word v
  | .HX_FN_DLOG => eachWord s (s.flag F.HX_FN_DLOG_EN i && h.word != 0) (fun s w v => s.dlogWrite who i w v) ws
  | .HX_RING_CFG | .HX_RING_AUX | .HX_RING_BASE | .HX_RING_HEAD_ADDR =>
    if s.ringState i ≠ ringDisabled then s.ringRefuse i (addr % 0x40) else s.fieldsWrite who h ws
  | .HX_RING_DB => s.doorbell who i v
  | .HX_RING_CMD => s.ringOp who i v
  | .HX_SQ_CTRL => s.sqCtrl who i v
  | .HX_SQ_RELEASE => s.sqRelease who v
  | .HX_RMA_CFG => s.rmaCfg who h ws
  | .HX_RMA_EP => s.epWrite who i h.word v
  | .HX_RMA_CONN => s.connWrite who i h.word v
  | .HX_STOR_NS => eachWord s (h.word != 0 && !(s.nsState i == nsDisabled && !s.nsHolds i)) (fun s w v => s.nsWrite who i w v) ws
  | .HX_CIPH_NS => s.ciphNs who h ws
  | .HX_FNV_MSIX => s.msixWrite h ws
  | _ => s.fieldsWrite who h ws

/-- The effect of one register access that is served: a locked RWL field is a violation, counted once (R685); an access that reaches nothing else ends there. -/
def State.regWrite (s : State) (who : Party) (addr : Nat) (h : RegHit) (ws : Words) (bad : Bool) : State :=
  let own := h.row.reg == .MX_HBM_PART || h.row.reg == .AO_TB_CTRL
  let reached := (h.row.reached ws).filter (fun x => x.fld.acc != .ro && x.fld.acc != .ros && x.fld.acc != .rc)
  let locked := reached.filter (fun x => s.lockHit x.fld h.idx)
  let s := if own || locked.isEmpty then s else s.lockViolation who addr
  if !own && !locked.isEmpty && locked.length == reached.length then s
  else match addr / 0x10000000 with
    | 0 => s.aoWrite who h ws bad
    | 1 | 2 | 3 | 4 => if addr / 2 ^ 20 % 256 = 6 then s.fieldsWrite who h ws else s.portWrite who addr h ws
    | 6 => s.hxWrite who addr h ws
    | _ => s.coreWrite who addr h ws

/-! ### Who reaches a register (R363, R678, R681, R683) -/

/-- What becomes of an access: served, refused as R678 states, or a ring word the party may not touch. -/
inductive Reach where
  | served
  | refused
  | ringOther
  deriving DecidableEq, Repr

/-- A word of HX_RING. -/
def ringReg (addr : Nat) : Bool := inRange addr 0x60300000 0x400000

/-- The blocks that their chapters open whole to application cores: the parser, the cells and pipelines, the table engine, calibration, compute ports, the counter units. -/
def openBlock (addr : Nat) : Bool :=
  match addr / 0x10000000, addr / 2 ^ 20 % 256 with
  | 0, 11 => true
  | 1, b | 2, b | 3, b | 4, b => decide (2 ≤ b) && decide (b ≤ 4)
  | 5, 6 | 7, 2 | _, 15 => true
  | _, _ => false

/-- AO_MODULE_CTRL is the supervisor's and the manager's (R25); sequencers reach the rest (log entry 24).  A function's view and its rings are its own; the other blocks are the manager's and, where their chapter opens them, the cores' (R678, R683); in SAFETY-NET the manager reaches AO blocks 0, 7 and 8 (R580).  A core writes counter units of CX only (R635). -/
def State.reach (s : State) (who : Party) (write : Bool) (addr : Nat) : Reach :=
  let row := (regAt addr).map (·.row)
  let view := inRange addr 0x61000000 (0x10000 * 2056)
  match who with
  | .faultLogic | .supervisor => .served
  | .sequencer _ => if addr = 0x14 then .refused else .served
  | .fn fi =>
    if view then (if (addr - 0x61000000) / 0x10000 = fi.val then .served else .refused)
    else if ringReg addr then (if s.mayTouch who ((addr - 0x60300000) / 0x40) then .served else .ringOther)
    else if fi.val = s.mgr ∧ (s.mode ≠ .safetyNet ∨ addr / 2 ^ 20 = 0 ∨ addr / 2 ^ 20 = 7 ∨ addr / 2 ^ 20 = 8) then .served
    else .refused
  | .core _ =>
    if ringReg addr then (if s.mayTouch who ((addr - 0x60300000) / 0x40) then .served else .ringOther)
    else match row with
      | some r => if r.core ∧ (!write ∨ addr / 2 ^ 20 % 256 ≠ 15 ∨ addr / 0x10000000 = 7) then .served else .refused
      | none => if openBlock addr then .served else .refused

/-- An access that its block does not admit: an access fault for a core, R343 code 0x07 for a function (R678). -/
def State.turnAway (s : State) (who : Party) (addr : Nat) : State :=
  match who with
  | .core k => s.emit (.accessFault k.val addr)
  | .fn fi => (s.hostCount (linkOf fi.val) 4).hostViolation fi.val 7 true
  | _ => s

/-- A ring word of another party: a read returns 0, a write is ignored, and condition 0x6304 is logged for a write (R683). -/
def State.ringAway (s : State) (addr : Nat) (write : Bool) : State :=
  if write then s.ringViolation 4 ((addr - 0x60300000) / 0x40) else s

/-! ### 64-bit values (R679, R680) -/

/-- Word `w` is the high word of a 64-bit value. -/
def RegRow.highWord (row : RegRow) (w : Nat) : Bool :=
  decide (0 < w) && row.slots.any (fun x => decide (x.lo < 32 * w) && decide (32 * w < x.lo + x.fld.width) && decide (x.fld.width ≤ 64))

/-- Word `w` is the low word of a 64-bit value. -/
def RegRow.lowWord (row : RegRow) (w : Nat) : Bool := row.highWord (w + 1)

/-- Key of a requester's latches. -/
def latchKey : Party → Nat
  | .fn fi => 1 + fi.val
  | .core k => 3000 + k.val
  | .sequencer n => 3100 + n.val
  | .faultLogic => 3200
  | .supervisor => 0

def State.latch (s : State) (who : Party) : Latch := Map.get {} (latchKey who) s.latches
def State.setLatch (s : State) (who : Party) (l : Latch) : State := (s.withLatches (Map.set {} (latchKey who) l s.latches))

/-- Any other access of the requester overtakes a held low word, and one to the same block ends a latched read (R680). -/
def Latch.overtaken (l : Latch) (addr : Nat) : Latch :=
  { readHigh := match l.readHigh with | some (a, v) => if a / 2 ^ 20 = addr / 2 ^ 20 then none else some (a, v) | none => none, heldLow := none }

/-- An access of a requester, served or not, overtakes what its latches hold (R680). -/
def State.overtake (s : State) (who : Party) (addr : Nat) : State := s.setLatch who ((s.latch who).overtaken addr)

/-- A register of a fenced region: reads return 0, writes are ignored, and both are counted (R600). -/
def State.shut (s : State) (addr : Nat) : Bool := s.fenced (addr / 0x10000000)

def State.countFenced (s : State) (addr : Nat) : State := s.bumpSat F.AO_FLT_REGION_FENCED (addr / 0x10000000)

/-- A 32-bit write by a party that reaches the register. -/
def State.writeWord (s : State) (who : Party) (addr v : Nat) (bad : Bool) : State :=
  let l := s.latch who
  let s := s.overtake who addr
  if s.shut addr then s.countFenced addr
  else match regAt addr with
    | none => s
    | some h =>
      if h.row.lowWord h.word then s.setLatch who { l.overtaken addr with heldLow := some (addr, v) }
      else if h.row.highWord h.word then
        let low : Words := match l.heldLow with
          | some (a, x) => if a + 4 = addr then [(h.word - 1, x)] else []
          | none => []
        s.regWrite who addr h (low ++ [(h.word, v)]) bad
      else s.regWrite who addr h [(h.word, v)] bad

/-- A 64-bit write by a party that reaches the register: both words in one clock, or two accesses, lower address first (R679). -/
def State.writeWide (s : State) (who : Party) (addr v : Nat) (bad : Bool) : State :=
  match regAt addr with
  | some h =>
    if h.row.lowWord h.word then
      let s := s.overtake who addr
      if s.shut addr then s.countFenced addr
      else s.regWrite who addr h [(h.word, v % 2 ^ 32), (h.word + 1, v / 2 ^ 32)] bad
    else (s.writeWord who addr (v % 2 ^ 32) bad).writeWord who (addr + 4) (v / 2 ^ 32) bad
  | none => (s.writeWord who addr (v % 2 ^ 32) bad).writeWord who (addr + 4) (v / 2 ^ 32) bad

/-- A 32-bit read by a party that reaches the register. -/
def State.readWord (s : State) (who : Party) (addr : Nat) : Nat × State :=
  let l := s.latch who
  let s := s.overtake who addr
  if s.shut addr then (0, s.countFenced addr)
  else match regAt addr with
    | none => (0, s)
    | some h =>
      if h.row.lowWord h.word then
        let hi := (s.readHit { h with word := h.word + 1 }).1
        let r := s.readHit h
        (r.1, r.2.setLatch who { l.overtaken addr with readHigh := some (addr + 4, hi) })
      else match l.readHigh with
        | some (a, v) => if a = addr then (v, s) else s.readHit h
        | none => s.readHit h

/-- A 64-bit read: one coherent value, or two accesses, lower address first (R679). -/
def State.readWide (s : State) (who : Party) (addr : Nat) : Nat × State :=
  let lo := s.readWord who addr
  let hi := lo.2.readWord who (addr + 4)
  (lo.1 + hi.1 * 2 ^ 32, hi.2)

/-- A core's access that is no 32-bit aligned one (R301). -/
def misfit (who : Party) (addr : Nat) (wide : Bool) : Bool :=
  match who with
  | .core _ => wide || addr % 4 != 0
  | _ => false

/-- One write of a party, by what the party reaches. -/
def State.access (s : State) (w : RegWrite) : State :=
  let addr := w.addr.toNat
  let v := w.value.toNat
  if misfit w.who addr w.wide then (s.overtake w.who addr).turnAway w.who addr
  else match s.reach w.who true addr with
  | .refused => (s.overtake w.who addr).turnAway w.who addr
  | .ringOther => (s.overtake w.who addr).ringAway addr true
  | .served => if w.wide then s.writeWide w.who addr v w.bad else s.writeWord w.who addr (v % 2 ^ 32) w.bad

/-- The supervisor's writes of a boot configuration, of blocks it may name (R567). -/
def State.supWrite (s : State) (addr v : Nat) : State := s.writeWord .supervisor addr v false

end Sys2Proof.Machine
end

