-- ==== Sys2Proof/Machine/Wipe.lean ====
section
/-! DEFINITION. What a reset of a region, or of every region but AO, takes away (R11, R306, R388, R600, R602, R684). -/

namespace Sys2Proof.Machine

/-! ### Registers (R684) -/

/-- Every register field of the map. -/
def allFlds : List Fld := layout.flatMap (fun row => row.slots.map (·.fld))

/-- The field outlives a reset of its region: RWS and ROS (R8), and the ECC counters of MX (R318). -/
def Fld.stays (f : Fld) : Bool := f.acc == .rws || f.acc == .ros || f.id == F.MX_HBM_ECC_COUNT.id

/-- Every field of the regions a test picks returns to its reset value, but those that stay and those of `keep`; their RWL locks are released (R10). -/
def State.wipeRegs (s : State) (p : Nat → Bool) (keep : List Nat) : State :=
  let fs := allFlds.filter (fun f => !f.stays && !keep.contains f.id)
  let regs := fs.foldl (fun m f => Map.set [] f.id ((Map.get [] f.id m).filter (fun e => !p (f.region e.1))) m) s.regs
  ((s.withRegs regs).withLocks (s.locks.filter (fun e => !p e.1)))

/-! ### What stands behind the registers -/

/-- The entries of a map whose keys pass a test. -/
def Map.keep {α : Type} (p : Nat → Bool) (m : Map α) : Map α := m.filter (fun e => p e.1)

/-- The programs current in a port region, moved to bank 0; the other banks are clear (R189). -/
def State.keepPrograms (s : State) (r : Nat) : State :=
  let old := s.prog
  let outside := Map.keep (fun k => k / 512 + 1 != r) old.cells
  let cells := (List.range 16).foldl (fun (m : Map CellBank) q =>
    (List.range (cellCount q)).foldl (fun (m : Map CellBank) c =>
      Map.set {} (bankIx r q c 0) (Map.get {} (bankIx r q c (s.epoch (pipeIx r q))) old.cells) m) m) outside
  let pipes := (List.range 16).foldl (fun (m : Map PipeBank) q =>
    Map.set {} (2 * pipeIx r q) (s.pipeBank (pipeIx r q) (s.epoch (pipeIx r q))) m) (Map.keep (fun k => k / 32 + 1 != r) old.pipes)
  let alt := graphFields.foldl (fun (m : Map (Map Nat)) f => Map.set [] f.id (Map.keep (fun i => f.region i != r) (Map.get [] f.id m)) m) old.alt
  (s.withProg { old with cells := cells, pipes := pipes, alt := alt, bad := Map.keep (fun k => k / 131072 + 1 != r) old.bad,
                              linked := Map.keep (fun k => k / 16 + 1 != r) old.linked,
                              faults := Map.keep (fun k => k / 16 + 1 != r) old.faults, excAt := Map.keep (fun k => k / 16 != r) old.excAt })

/-- The replica of a region rebuilt: no entry of it is bad, and its hit bits and AGED1 are clear (R218). -/
def TEntry.rebuilt (r : Nat) (e : TEntry) : TEntry :=
  let b := 2 ^ (r - 1)
  if e.region = 0 ∨ e.region = r then
    { e with hits := if bit e.hits (r - 1) then e.hits - b else e.hits, bad := if bit e.bad (r - 1) then e.bad - b else e.bad, aged1 := false }
  else e

/-- The MACs of a port region. -/
def MacSt.without (m : MacSt) (r : Nat) : MacSt :=
  { lb := Map.keep (fun p => if p < 128 then p / 32 + 1 != r else p != 128 + r) m.lb,
    lbOld := Map.keep (fun p => p / 32 + 1 != r) m.lbOld, trainSeen := Map.keep (fun l => l / 128 + 1 != r) m.trainSeen,
    stage := Map.keep (fun k => k / 16 + 1 != r) m.stage, saCmd := Map.keep (fun k => k + 1 != r) m.saCmd,
    sas := m.sas.filter (fun a => a.port / 32 + 1 != r), saZero := Map.keep (· != r) m.saZero,
    lpiAt := Map.keep (fun lp => lp / 128 + 1 != r) m.lpiAt, grant := Map.keep (fun n => n / 8 + 1 != r) m.grant }

/-- Meters, counters and latches of a port region. -/
def TmSt.without (t : TmSt) (r : Nat) : TmSt :=
  { t with meters := Map.keep (fun k => k / 16384 + 1 != r) t.meters, meterHeld := Map.keep (fun k => k / 65536 + 1 != r) t.meterHeld,
           xprofHeld := Map.keep (fun k => k / 256 + 1 != r) t.xprofHeld, xprofSeq := Map.keep (fun k => k / 64 + 1 != r) t.xprofSeq,
           latches := Map.keep (fun k => k / 4 + 1 != r) t.latches, counters := Map.keep (fun k => k / 131072 + 1 != r) t.counters }

/-- A port region loses its state; its programs, its graph and its replica are rebuilt before it accepts a frame again (R189, R218). -/
def State.wipePort (s : State) (r : Nat) : State :=
  let s := s.keepPrograms r
  let tabs := s.tbl.tabs.map (fun e =>
    -- a replicated table from a live replica, a local one from its shadow (R218)
    let es := if s.tblLocal e.1 then e.2.filter (·.region != r) ++ (Map.get [] e.1 s.tbl.shadow).filter (·.region == r) else e.2
    (e.1, es.map (TEntry.rebuilt r)))
  let s := (((s.withMac (s.mac.without r)).withTm (s.tm.without r)).withTbl { s.tbl with tabs := tabs })
  -- neighbours stay known, and their entries stay, until LOST_TIME has passed (R291)
  let s := if r = 4 then s.withStc { known := s.stc.known, bootIds := s.stc.bootIds, want := s.stc.want, asked := s.stc.asked } else s
  let s := (s.wipeRegs (· == r) (F.PD_STC_CTRL_BOOT_ID.id :: graphFields.map (·.id))).presets (fun l => l / 128 + 1 == r)
  if r = 4 then s.masterReset else s

/-- FX loses its frames, queues and scheduling state, and the table engine its pending updates (R602). -/
def State.wipeFx (s : State) : State :=
  let t := s.tm
  let tm : TmSt := { meters := t.meters, meterHeld := t.meterHeld, xprofHeld := t.xprofHeld, xprofSeq := t.xprofSeq, latches := t.latches,
                     counters := t.counters }
  let s := (((((s.wipeRegs (· == 5) []).withFx { rx := s.fx.rx }).withTm tm).withTbl
    { s.tbl with learnq := [], recent := [], chan := [], inbox := [], turn := [], rings := [], sweeps := [] }).withTime { s.time with plan := [] })
  -- ENTRIES is a level: the replicas keep their entries (R219)
  s.tbl.tabs.foldl (fun s e => s.setFld F.FX_TBE_TBL_STAT_COUNT (8 * e.1) e.2.length) s

/-- A version whose destage is given up. -/
def Ver.undone (v : Ver) : Ver :=
  match v.st with
  | .destagingCert => { v with st := .cert }
  | .destagingVb => { v with st := .vb }
  | _ => v

/-- HX loses everything but the write cache and its region records, the copy of the patch set, and the levels of the PERST_N pins (R15, R602). -/
def State.wipeHx (s : State) : State :=
  let st := s.stor
  let stor : StorSt := { vers := st.vers.map Ver.undone, nextId := st.nextId, nextGid := st.nextGid, seq := st.seq, lost := st.lost,
                         dealloc := st.dealloc, regions := st.regions, regionSeq := st.regionSeq, vaulting := st.vaulting }
  let hosts := s.hosts.foldl (fun (m : Map HostLink) e => Map.set {} e.1 { perst := e.2.perst } m) []
  ((((((((((s.wipeRegs (· == 6) []).withCfgs []).withHosts hosts).withDlogs []).withRings []).withStaged []).withCiph {}).withRma {}).withStor stor).withSq { s.sq with ctxs := [], cur := [], next := 0, fetchTurn := [], checks := [], last := [], patch := [] })

/-- CX stops its cores and loses the frames of its compute ports; core memory stays (R15, R602). -/
def State.wipeCx (s : State) : State :=
  ((((s.wipeRegs (· == 7) []).withFx { s.fx with rx := Map.keep (fun lp => decide (lp < 528) || decide (536 ≤ lp)) s.fx.rx }).withTraceLost 0).withHarts [])

/-- What region `r` loses when it is reset alone. -/
def State.wipeRegion (s : State) (r : Nat) : State :=
  if r = 5 then s.wipeFx else if r = 6 then s.wipeHx else if r = 7 then s.wipeCx else s.wipePort r

/-- Every region but AO loses its state: a warm reset of the module, or a state that powers them off (R11, R684). The vault is not theirs to lose; neither are the deallocated ranges (R455) and the list of lost blocks (R473). -/
def State.wipeAll (s : State) : State :=
  let s := ((((((((((s.wipeHx.wipeRegs (fun r => decide (1 ≤ r)) []).withMac {}).withTbl {}).withProg {}).withFx {}).withTm {}).withStc {}).withTraceLost 0).withHarts []).withTime { s.time with plan := [] })
  let st := s.stor
  ((s.withSq { logged := s.sq.logged }).withStor { seq := st.seq, lost := st.lost, dealloc := st.dealloc, regions := st.regions, regionSeq := st.regionSeq, vaulting := st.vaulting })

/-! ### Links and power -/

/-- Front, host and drive links go down. -/
def State.linksDown (s : State) : State :=
  let s := (s.listed F.PA_MAC_LINK_STATUS_STATE).foldl State.linkStop s
  let s := [0, 1].foldl State.hostStop s
  (List.range 8).foldl (fun s d => s.dlGo d dlDown) s

/-- Power every domain that a test picks and that is not forced off, and gate the others (R525, R528). -/
def State.powers (s : State) (p : Nat → Bool) : State :=
  (List.range 96).foldl (fun s d => s.setPower d (if p d && !s.forcedOff d then powOn else powGated)) s

/-- Domains that a state requires (R18, R518). -/
def State.needs (s : State) (m : ModState) (d : Nat) : Bool :=
  match m with
  | .boot | .run | .rideThrough => true
  | .vault => d == 75 || (decide (88 ≤ d) && bit (s.fld F.MX_HBM_PART_WC_STACKS) ((d - 88) / 2))
  | .safetyNet => d == 64
  | .off | .standby | .halt => false

end Sys2Proof.Machine
end

