-- ==== Sys2Proof/Machine/Module.lean ====
section
/-! DEFINITION. Module states, the vault, boot and failed starts (R17 to R28, R306, R469 to R476, R508 to R536, R548, R561 to R580, R671). -/

namespace Sys2Proof.Machine

/-! ### Transitions (R17 to R28) -/

/-- Cause codes of R27. -/
def causePowerOn : Nat := 0x00
def causeBootStart : Nat := 0x01
def causeRunReady : Nat := 0x02
def causeStartFailed : Nat := 0x03
def causeNoValidSlot : Nat := 0x04
def causeStartsExhausted : Nat := 0x05
def causeVinBelowVhold : Nat := 0x06
def causeVinRecovered : Nat := 0x07
def causeVinBelowVvault : Nat := 0x08
def causeReserveAtDirty : Nat := 0x09
def causeVaultDone : Nat := 0x0A
def causeModuleFault : Nat := 0x0B
def causeThermalTrip : Nat := 0x0C
def causeLidBreach : Nat := 0x0D
def causeRstN : Nat := 0x0E
def causeRequest : Nat := 0x0F

/-- The STATE entry of a transition (R28, R608); that of a transition into BOOT tells whether the AO-reserved partition was retained (R306). -/
def State.stateEntry (s : State) (new : ModState) (cause pending : Nat) : State :=
  let retained := if new = .boot then [b2n s.boot.retained] else []
  s.logAs (new == .vault) 2 0 0 1 ([new.code, s.mode.code, cause, pending] ++ retained)

/-- Show a transition in AO_MODULE_STATE and AO_MODULE_STATE_TS (R23, R24). -/
def State.showState (s : State) (new : ModState) (cause pending : Nat) : State :=
  let old := s.mode.code
  let s := ((((s.setFld F.AO_MODULE_STATE_CAUSE 0 cause).setFld F.AO_MODULE_STATE_PENDING 0 pending).bump F.AO_MODULE_STATE_TRANSITIONS).withPowered true)
  (((s.setFld F.AO_MODULE_STATE_PREV 0 old).setFld F.AO_MODULE_STATE_STATE 0 new.code).setFld F.AO_MODULE_STATE_TS_TS 0 s.now)

/-- A state transition: STATE entry, AO_MODULE_STATE, EV0001, pins.  The entry is written before the new state acts (R28); M0 has no power when VAULT ends. -/
def State.go (s : State) (new : ModState) (cause : Nat) (pending : ModState := .off) : State :=
  let old := s.mode
  let s := (s.stateEntry new cause pending.code).showState new cause pending.code
  (s.raise 1 [.w new.code, .w old.code, .w cause]).pins

/-- A region reset that a change of state ends early (R600). -/
def State.endReset (s : State) (r : Nat) : State :=
  let c := s.fld F.AO_FLT_REGION_LAST_CAUSE r
  (s.setFlag F.AO_FLT_REGION_RESETTING r false).logEntry 4 c r 1 [r, c, 0, 0]

/-- An exit from RUN (R188): a load whose epochs have not flipped ends with STATE; one that drains is complete, for the regions lose what they held. -/
def State.progLeave (s : State) : State :=
  match s.prog.load with
  | some l => if s.fld F.AO_PROG_STATUS_STATE = progDrain then (s.measure l.m).progEnd 0 else s.progStop 2
  | none => s

/-- What an exit from the present state ends: a capacitance test (R523), a patch load (R402), a program load before its swap (R188), a calibration update (R618), scopes of a debug session (R651), region resets (R600). -/
def State.leave (s : State) (new : ModState) : State :=
  let s := s.capAbort
  let s := if s.mode = .run ∧ new ≠ .run then s.ucodeExit.calExit else s
  let s := if s.inService ∧ new ≠ .run ∧ new ≠ .rideThrough then s.setFlag F.AO_TR_CFG_RUNNING 0 false else s
  let s := if s.mode = .safetyNet ∧ new ≠ .safetyNet then s.calExit.dbgClose 6 else s
  if s.inService ∧ new ≠ .run ∧ new ≠ .rideThrough then
    ((s.listed F.AO_FLT_REGION_RESETTING).filter s.fenced).foldl State.endReset s.progLeave
  else s

/-- A dirty byte of the write cache (R20). -/
def State.dirty (s : State) : Bool := s.stor.vers.any (fun v => v.st == .cert || v.st == .uncert || v.st == .destagingCert)

/-- REASON codes of R579. -/
def reasonNoValidSlot : Nat := 1
def reasonStartsExhausted : Nat := 2
def reasonStrap : Nat := 3
def reasonRequest : Nat := 4
def reasonModuleFault : Nat := 5
def reasonFlash : Nat := 6

/-! ### STANDBY, HALT, SAFETY-NET (R18, R306, R498, R529, R554, R563, R579, R580) -/

/-- A boot configuration entry of STANDBY: AO blocks 1, 2, 4, 5 and 6 only (R563). -/
def State.bcfgEntry (s : State) (e : Nat × Nat) : State :=
  let block := e.1 / 2 ^ 20
  if [1, 2, 4, 5, 6].contains block then s.supWrite e.1 e.2 else s.flashFault 5 [e.1]

/-- BCFG_APPLY (R529, R563): the reset values of AO_SUP_CFG and AO_SUP_LIM apply where the configuration does not give them, with EV0043. -/
def State.bcfgApply (s : State) : State :=
  let s := [F.AO_SUP_CFG_VHOLD, F.AO_SUP_CFG_VVAULT, F.AO_SUP_CFG_VFLOOR, F.AO_SUP_LIM_HYST, F.AO_SUP_LIM_DWELL, F.AO_SUP_LIM_I_CAP,
    F.AO_SUP_LIM_TEST_EN, F.AO_SUP_LIM_DERATE].foldl (fun (s : State) f => s.resetFld f) s
  let es := match s.bcfgUsed with | some (_, _, es) => es | none => []
  let s := es.foldl State.bcfgEntry s
  let s := if es.any (·.1 == 0x400000) then s else s.raise 43 [.w 0]
  if es.any (·.1 == 0x400004) then s else s.raise 43 [.w 4]

/-- Where MX has no power, M0 stands in self-refresh with its partition, if that is retained, and the other stacks are off (R18, R306). -/
def State.stacksDown (s : State) : State :=
  (List.range 4).foldl (fun s m => s.setFld F.MX_HBM_STACK_CTRL_STATE m (if m = 0 && s.boot.retained then 1 else 2)) s

/-- What entry to STANDBY does: every region but AO is reset, AO's locks are released (R10), and the boot configuration is applied. -/
def State.standbyBody (s : State) : State :=
  let s := ((s.zeroiseSlots (fun _ => true)).linksDown.wipeAll.powers (s.needs .standby)).stacksDown.dbgReset
  (s.withLocks (Map.set false 0 false s.locks)).bcfgApply

def State.standbyEnter (s : State) (cause : Nat) : State := ((s.leave .standby).go .standby cause).standbyBody

/-- What entry to HALT does; the ledger's snapshot is written (R554). -/
def State.haltBody (s : State) : State := ((s.zeroiseSlots (fun _ => true)).linksDown.wipeAll.powers (s.needs .halt)).stacksDown

def State.haltEnter (s : State) (cause : Nat) : State :=
  let s := (s.leave .halt).ledgerCopy.go .halt cause
  (if s.led.copy.isEmpty then s else s.energySnap).haltBody

/-- What entry to SAFETY-NET does: every region but AO is reset, H0 trains, REASON tells why (R579, R580). -/
def State.snetBody (s : State) (reason : Nat) : State :=
  let s := (s.linksDown.wipeAll.powers (s.needs .safetyNet)).stacksDown.dbgReset
  let s := ((s.setFld F.AO_BOOT_STATUS_REASON 0 reason).withBoot { s.boot with uploaded := false })
  (s.emit (.uart reason)).hostStart 0

def State.snetEnter (s : State) (cause reason : Nat) : State := ((s.leave .safetyNet).go .safetyNet cause).snetBody reason

/-! ### VAULT (R469, R471, R498, R518) -/

/-- Versions a test picks, by SEQ and block. -/
def State.versBySeq (s : State) (p : Ver → Bool) : List Ver := (s.stor.vers.filter p).foldl (fun l v => insertVer v l) []

/-- The vault record of a version (R469). -/
def State.vrec (s : State) (v : Ver) : VRec :=
  let live := (s.stor.vers.filter (fun x => x.seq == v.seq && !x.isVb)).length
  { handle := v.handle, mask := v.mask, cert := v.isCert, ordered := v.ordered, live := live, blk := v.blk, seq := v.seq, data := v.data }

/-- The fields of HX_STOR_NS that a header copies (R469). -/
def nsFields : List Fld :=
  [F.HX_STOR_NS_EN, F.HX_STOR_NS_BACKEND, F.HX_STOR_NS_CACHE, F.HX_STOR_NS_VWC, F.HX_STOR_NS_LBA4K, F.HX_STOR_NS_DRIVE,
   F.HX_STOR_NS_BASE_LBA, F.HX_STOR_NS_NLBA, F.HX_STOR_NS_BK_ID, F.HX_STOR_NS_KEY]

/-- Steps 4 to 6 of R518: a free region takes the header, every CERT record, and UNCERT records while RESERVE exceeds 50,000 uJ: how many is open. -/
def State.vaultWrite (s : State) : State :=
  match (if s.dirty then [0, 1].find? (fun r => !(s.region r).held) else none) with
  | none => s
  | some r =>
    let certs := s.versBySeq Ver.isCert
    let uncerts := s.versBySeq (fun v => v.st == .uncert)
    let n := if 50000 < s.fld F.AO_SUP_RESERVE_RESERVE then s.free % (uncerts.length + 1) else 0
    let x : Region :=
      { held := true, seq := s.stor.regionSeq + 1, ts := s.now, stackMask := s.fld F.MX_HBM_PART_WC_STACKS, size := s.fld F.MX_HBM_PART_WC_SIZE,
        ns := nsFields.foldl (fun (m : Map (Map Nat)) f => Map.set [] f.id (Map.get [] f.id s.regs) m) [],
        recs := (certs ++ uncerts.take n).map s.vrec }
    let s := s.drawn.setRegion r x
    (s.withStor { s.stor with regionSeq := s.stor.regionSeq + 1, vaulting := some r })

/-- Entry to VAULT: keys are zeroised, links go down, regions are powered off, the records are written; what is pending is reached when VAULT_DONE comes (R518). -/
def State.vaultEnter (s : State) (target : ModState) (cause : Nat) : State :=
  let s := ((s.leave .vault).go .vault cause target).zeroiseSlots (fun _ => true)
  let s := s.zeroMacsec.linksDown.vaultWrite
  let power := s.needs .vault
  let part := (s.fld F.MX_HBM_PART_WC_STACKS, s.fld F.MX_HBM_PART_WC_SIZE)
  let s := s.wipeAll.powers power
  let s := (s.setFld F.MX_HBM_PART_WC_STACKS 0 part.1).setFld F.MX_HBM_PART_WC_SIZE 0 part.2
  (s.withBoot { s.boot with retained := false })

/-! ### Choosing a slot (R569 to R575) -/

/-- A slot that may run: its commit record and header. -/
structure Slot' where
  slot : Nat
  commit : Commit
  hdr : ImgHdr

/-- The eligible slots in the order of R572. -/
def State.slotOrder (s : State) : List Slot' :=
  let el := [0, 1].filterMap (fun x => match s.slotHead x with
    | some (c, h) => if s.boot.floor ≤ h.svn then some { slot := x, commit := c, hdr := h : Slot' } else none
    | none => none)
  match el with
  | [a, b] =>
    let da := Map.get false 0 s.boot.demoted
    let db := Map.get false 1 s.boot.demoted
    if (da && !db) || (da == db && decide (a.commit.seq < b.commit.seq)) then [b, a] else [a, b]
  | l => l

/-- An ATTEMPT entry (R575, R608). -/
def State.attemptEntry (s : State) (slot seq : Nat) (digest : List Byte) (outcome cause : Nat) : State :=
  s.logEntry 3 0 0 1 ([slot, seq] ++ bytesWords 8 digest ++ [outcome, cause])

/-- Mark a slot DEMOTED, recorded in the log. -/
def State.demote (s : State) (x : Slot') : State :=
  let s := (s.logEntry 0xA 0 0 1 [x.slot, 1]).attemptEntry x.slot x.commit.seq x.commit.digest 3 0
  (s.withBoot { s.boot with demoted := Map.set false x.slot true s.boot.demoted })

/-- Read candidates in order until a DIGEST matches (R572): the state, the slots found not valid, the candidate with its image. -/
def State.readSlots (s : State) : List Slot' → State × List Nat × Option (Slot' × List Byte)
  | [] => (s, [], none)
  | x :: xs =>
    let bs := s.slotImage x.slot x.commit
    if Config.shake256 bs 32 = x.commit.digest then (s, [], some (x, bs))
    else
      let r := (s.flashFault 4 [x.slot]).readSlots xs
      (r.1, x.slot :: r.2.1, r.2.2)

/-- Rewrite AO_BOOT_STATUS and the SEQ registers before a choice (R591). -/
def State.bootStatus (s : State) (tie : Bool) (bad : List Nat) : State :=
  let valid (x : Nat) : Bool := s.boot.flashOk && (s.slotHead x).isSome && !bad.contains x
  let seq (x : Nat) : Nat := match s.slotHead x with | some (c, _) => if valid x then c.seq else 0 | none => 0
  let s := ((s.setFlag F.AO_BOOT_STATUS_A_VALID 0 (valid 0)).setFlag F.AO_BOOT_STATUS_B_VALID 0 (valid 1)).setFlag F.AO_BOOT_STATUS_SLOT_TIE 0 tie
  let s := (s.setFlag F.AO_BOOT_STATUS_A_DEMOTED 0 (Map.get false 0 s.boot.demoted)).setFlag F.AO_BOOT_STATUS_B_DEMOTED 0 (Map.get false 1 s.boot.demoted)
  let s := ((s.setFld F.AO_BOOT_STATUS_FAILS 0 (min s.boot.fails 3)).setFld F.AO_BOOT_STATUS_REASON 0 0).setFld F.AO_BOOT_SEQ_A_SEQ 0 (seq 0)
  s.setFld F.AO_BOOT_SEQ_B_SEQ 0 (seq 1)

/-! ### Replay (R476) -/

/-- HX_STOR_NS as the newest held header has it: EN = 1 restarts in WAIT (R476 step 1). -/
def State.nsRestore (s : State) (ns : Map (Map Nat)) : State :=
  let s := nsFields.foldl (fun s f => (s.withRegs (Map.set [] f.id (Map.get [] f.id ns) s.regs))) s
  let hs := (s.listed F.HX_STOR_NS_EN ++ s.listed F.HX_STOR_NS_STATE).eraseDups
  hs.foldl (fun s h => (s.setFld F.HX_STOR_NS_FAIL_CODE h 0).nsGo h (if s.flag F.HX_STOR_NS_EN h then nsWait else nsDisabled)) s

/-- A group of a region is complete: as many records as it had blocks at vault time (R476 step 2). -/
def VRec.complete (recs : List VRec) (v : VRec) : Bool := (recs.filter (fun x => x.seq == v.seq)).length == v.live

/-- The version a record of region `r` loads as (R466, R476 step 3). -/
def State.loadRec (s : State) (r : Nat) (v : VRec) : State :=
  let x : Ver := { id := s.stor.nextId, gid := s.stor.nextGid + v.seq, seq := v.seq, handle := v.handle, blk := v.blk, mask := v.mask, data := v.data,
                   st := .vb, ordered := v.ordered, region := r }
  (s.withStor { s.stor with vers := s.stor.vers ++ [x], nextId := s.stor.nextId + 1, seq := max s.stor.seq v.seq })

/-- Insert a record, with its region, by SEQ. -/
def insertRec (x : Nat × VRec) : List (Nat × VRec) → List (Nat × VRec)
  | [] => [x]
  | y :: ys => if x.2.seq < y.2.seq ∨ (x.2.seq = y.2.seq ∧ x.2.blk < y.2.blk) then x :: y :: ys else y :: insertRec x ys

/-- Regions that are held. -/
def State.heldRegions (s : State) : List Nat := [0, 1].filter (fun r => (s.region r).held)

/-- The held region with the higher REGION_SEQ. -/
def State.newestRegion (s : State) : Option Nat :=
  match s.heldRegions with
  | [] => none
  | [r] => some r
  | _ => some (if (s.region 0).seq < (s.region 1).seq then 1 else 0)

/-- Word `w` of HX_STOR_REPLAY. -/
def State.replayWord (s : State) (w : Nat) : Nat :=
  match regAt (0x60920100 + 4 * w) with
  | some h => s.peek h.row h.idx h.word
  | none => 0

/-- The figures of HX_STOR_REPLAY (R482): records loaded, records of incomplete groups. -/
def State.replayFigures (s : State) (held : List Nat) (ts : Nat) (good bad : List (Nat × VRec)) : State :=
  let part := (s.fld F.MX_HBM_PART_WC_STACKS, s.fld F.MX_HBM_PART_WC_SIZE)
  let s := (s.setFlag F.HX_STOR_REPLAY_VALID 0 true).setFlag F.HX_STOR_REPLAY_INCOMPLETE 0 (held.any (fun r => !(s.region r).complete))
  let s := s.setFlag F.HX_STOR_REPLAY_CERT_MISSING 0 (bad.any (fun e => e.2.cert))
  let s := s.setFlag F.HX_STOR_REPLAY_LAYOUT_CHANGED 0 (held.any (fun r => ((s.region r).stackMask, (s.region r).size) != part))
  let s := (s.setFld F.HX_STOR_REPLAY_REGIONS 0 held.length).setFld F.HX_STOR_REPLAY_BLOCKS 0 good.length
  let groups := ((bad.map (·.2.seq)).eraseDups).length
  let s := ((s.setFld F.HX_STOR_REPLAY_GROUPS_DISCARDED 0 groups).setFld F.HX_STOR_REPLAY_VAULT_TS 0 ts).storCount 8 good.length |>.storCount 9 groups
  s.setFld F.HX_STOR_REPLAY_CRC_ERRORS 0 (held.foldl (fun a r => a + (s.region r).torn) 0)

/-- VAULT_REPLAY (R476). -/
def State.replay (s : State) : State :=
  match s.newestRegion with
  | none => s
  | some top =>
    let held := s.heldRegions
    let s := s.nsRestore (s.region top).ns
    let all := held.flatMap (fun r => (s.region r).recs.map (fun v => (r, v)))
    let good := all.filter (fun e => VRec.complete (s.region e.1).recs e.2)
    let bad := all.filter (fun e => !VRec.complete (s.region e.1).recs e.2)
    let s := s.replayFigures held (s.region top).ts good bad
    let s := (good.foldl (fun l e => insertRec e l) []).foldl (fun s e => s.loadRec e.1 e.2) s
    let s := (s.withStor { s.stor with nextGid := s.stor.nextGid + s.stor.seq + 1 })
    let s := held.foldl (fun s r =>
      let x := s.region r
      (s.setRegion r { x with recs := x.recs.filter (VRec.complete x.recs) }).regionKeep r) s
    let s := (s.storShow.raise 791 [.w (s.replayWord 0)]).logEntry 7 0 0 1 ((List.range 6).map s.replayWord)
    if bad.any (fun e => e.2.cert) then s.condition 0x6904 0 [] else s

/-! ### The log and the totals at BOOT (R554, R607, R615) -/

/-- Put an entry into a list that rises by SEQ; of two copies of one SEQ one is kept. -/
def insertEntry (e : LogEntry) : List LogEntry → List LogEntry
  | [] => [e]
  | x :: xs => if e.seq < x.seq then e :: x :: xs else if e.seq = x.seq then x :: xs else x :: insertEntry e xs

/-- Every entry of the flash log, by SEQ. -/
def LogSt.loaded (l : LogSt) : List LogEntry := (l.flash.flatMap (·.entries)).foldl (fun a e => insertEntry e a) []

/-- The ring at BOOT: kept where the partition was retained, else loaded from the flash log; then the entries that AO held (R28, R607). -/
def State.logBoot (s : State) : State :=
  let base := if s.boot.retained then s.log.entries else s.log.loaded
  (s.withLog { s.log with entries := trimRing (s.log.held.foldl (fun a e => insertEntry e a) base), held := [] })

/-- The transition out of OFF. -/
def LogEntry.isPowerOn (e : LogEntry) : Bool := e.type == 2 && e.detail.take 2 == [ModState.standby.code, ModState.off.code]

/-- Two words as one number, low word first. -/
def twoWords (ws : List Nat) (i : Nat) : Nat := ws.getD i 0 + 2 ^ 32 * ws.getD (i + 1) 0

/-- TOTALS_RESTORE, at the first BOOT after cold reset (R554): E_IN, TOTAL and USED from the newest snapshot, and SNAP_AGE. -/
def State.totalsRestore (s : State) (old : List LogEntry) : State :=
  match newestOf (·.type == 6) old with
  | [] => s
  | snap :: _ =>
    let loss := match old.getLast? with | some e => e.time | none => snap.time
    let s := s.setFld F.AO_LED_STATUS_E_IN 0 (twoWords snap.detail 0)
    let s := (List.range 256).foldl (fun s a =>
      (s.setFld F.AO_LED_EA_TOTAL a (twoWords snap.detail (2 + 4 * a))).setFld F.AO_LED_EA_USED a (twoWords snap.detail (4 + 4 * a))) s
    let s := s.setFld F.AO_LED_STATUS_SNAP_AGE 0 (min ((loss - snap.time) / 1000000000) 4294967295)
    s.raise 54 [.w (s.fld F.AO_LED_STATUS_SNAP_AGE)]

/-- The first BOOT after cold reset: totals, ages (R615), and the INTERRUPTION that ended the session before (R513). -/
def State.coldBoot (s : State) : State :=
  if !s.boot.cold then s.setFld F.AO_LED_STATUS_SNAP_AGE 0 0
  else
    let s := (s.withBoot { s.boot with cold := false })
    let all := s.log.loaded
    let starts := all.filter LogEntry.isPowerOn
    let now := match starts.getLast? with | some e => e.seq | none => 0
    let old := all.filter (fun e => decide (e.seq < now))
    let s := if 2 ≤ starts.length then s.bump F.AO_SUP_STAT_COUNT 3 else s
    let s := (List.range 9).foldl (fun s r =>
      match newestOf (fun e => e.type == 8 && e.detail.head? == some r) all with
      | e :: _ => s.setFld F.AO_TR_AGE_AGE_EQ_H r (twoWords e.detail 1)
      | [] => s) s
    s.totalsRestore old

/-- AO_LED_VMODEL from the calibration set; a value of 0 is not loaded (R556). -/
def State.vmodelBoot (s : State) : State :=
  let one (s : State) (f : Fld) (i : Nat) : State :=
    match s.calVal 7 i with
    | some 0 => (s.condition 0x0602 0 []).raise 55 [.w 4]
    | some v => s.setFld f 0 v
    | none => s
  (one (one s F.AO_LED_VMODEL_VAULT_BASE 0) F.AO_LED_VMODEL_E_REC 1).setFlag F.AO_CAL_STATUS_CAL_PENDING 0 false

/-! ### BOOT (R576 to R578) -/

/-- A BOOT_CONFIG entry (R567). -/
def State.bootEntry (s : State) (e : Nat × Nat) : State :=
  let block := e.1 / 2 ^ 20
  if (regAt e.1).isSome && block != 7 && block != 8 then s.supWrite e.1 e.2 else s.flashFault 5 [e.1]

/-- The CORE_FW payload is copied to LOAD_ADDR (R565, R576 step 7). -/
def State.coreCopy (s : State) : State :=
  let fw := s.boot.coreFw
  if fw.length < 16 then s else s.corePut (leAt fw 0 8) (fw.drop 16)

/-- Steps 1 and 2 of R576 before the choice: memory is filled with zeros, and what a BOOT begins anew. -/
def State.bootStart (s : State) : State :=
  let s := ((s.linksDown.wipeAll.dbgReset.logBoot.emit (.pin pinXspiRstN 0)).emit (.pin pinXspiRstN 1)).powers (s.needs .boot)
  let s := (((((((s.withMem []).withStaging []).withPoison []).withCcr { s.ccr with table := [] }).withLed { s.led with copy := if s.boot.retained then s.led.copy else [] }).withBoot { s.boot with retained := true, debugged := false, meas := [], loads := 0 }).withLog { s.log with journal := [] })
  let s := (((s.setFlag F.AO_BOOT_CTRL_READY 0 false).setFlag F.AO_ATT_STATUS_READY 0 false).setFlag F.AO_DBG_STATUS_DEBUG_SINCE_BOOT 0 false)
  let s := (((s.setFld F.AO_PROG_STATUS_SEQ 0 0).setFld F.AO_PROG_STATUS_LGEN 0 0).setFld F.AO_UCODE_STATUS_SEQ 0 0).setFld F.AO_IMG_STATUS_SEQ 0 0
  let s := (s.setFld F.PD_STC_CTRL_BOOT_ID 0 s.free).drawn.masterReset
  (s.calBoot.presets (fun _ => true)).vmodelBoot.coldBoot

/-- The candidate runs: attempt record, signature, AO_BOOT_STATUS, EV0060 (R570, R575, R576 steps 2 to 4). -/
def State.bootVerify (s : State) (x : Slot') (bs : List Byte) (fallback : Bool) : State :=
  let s := s.attemptEntry x.slot x.commit.seq x.commit.digest 0 0
  let v := s.verifyImage x.hdr bs
  let s := ((s.setFlag F.AO_BOOT_STATUS_UNVERIFIED 0 (v != 0)).setFld F.AO_BOOT_STATUS_VERIFY 0 v).setFld F.AO_BOOT_STATUS_SLOT 0 x.slot
  let s := s.setFlag F.AO_BOOT_STATUS_FALLBACK 0 fallback
  let cfg := (x.hdr.section? bs 1).getD []
  let s := (s.withBoot { s.boot with
    limited := s.boot.limited || v != 0, digest := x.commit.digest, seq := x.commit.seq, svn := x.hdr.svn, root := x.hdr.root,
    advance := x.hdr.advance, kicked := s.now, clusters := leAt cfg 8 1, sqs := leAt cfg 10 2, coreFw := (x.hdr.section? bs 5).getD [] })
  match regAt 0x00700000 with
  | some h => s.raise 60 [.w x.slot, .w x.commit.seq, .w v, .w (bits (s.peek h.row h.idx h.word) 24 8)]
  | none => s

/-- Steps 5 to 7 of R576: the boot configuration, links, replay, the patch, the programs, the core firmware. -/
def State.bootLoad (s : State) (x : Slot') (bs : List Byte) : State :=
  let cfg := (x.hdr.section? bs 1).getD []
  let s := (configEntries (cfg.drop 16) (min (leAt cfg 4 4) ((cfg.length - 16) / 8))).foldl State.bootEntry s
  let s := (List.range 8).foldl State.driveStart ([0, 1].foldl State.hostStart s)
  let s := s.replay
  let s := match x.hdr.section? bs 3 with | some sec => s.patchBoot sec | none => s
  let s := match x.hdr.section? bs 4 with | some sec => s.progBoot sec | none => s
  if s.boot.coreFw.isEmpty then s else s.coreCopy.put .supervisor F.CX_CORE_ENTRY_ENTRY 0 (leAt s.boot.coreFw 8 8)

/-- SLOT_SELECT (R572), and the start of what it chose. -/
def State.bootSelect (s : State) : State :=
  let order := s.slotOrder
  let tie := match order with | [a, b] => a.commit.seq == b.commit.seq | _ => false
  let fresh (s : State) (bad : List Nat) : State := [F.AO_BOOT_STATUS_UNVERIFIED, F.AO_BOOT_STATUS_FALLBACK, F.AO_BOOT_STATUS_VERIFY, F.AO_BOOT_STATUS_SLOT].foldl
    (fun (s : State) f => s.setFld f 0 0) (s.bootStatus tie bad)
  if s.boot.strap then (fresh s []).snetEnter causeNoValidSlot reasonStrap
  else if !s.boot.flashOk then (fresh (s.flashFault 1 []) []).snetEnter causeNoValidSlot reasonFlash
  else
    let c : State × List Slot' × Bool := match order with
      | [a, b] => if 2 ≤ Map.get 0 a.slot s.boot.slotFails then (s.demote a, [b], true) else (s, [a, b], false)
      | l => (s, l, false)
    let r := c.1.readSlots c.2.1
    let s := fresh r.1 r.2.1
    match r.2.2 with
    | none => s.snetEnter causeNoValidSlot reasonNoValidSlot
    | some (x, bs) => (s.bootVerify x bs c.2.2).bootLoad x bs

/-- The lid mesh is broken: keys are zeroised, debug access closes (R498, R651, R671). -/
def State.breach (s : State) : State :=
  let s := (s.setFlag F.AO_PKG_LID_BREACH 0 true).setFlag F.AO_PKG_LID_INTACT 0 false
  (s.dbgClose 7).alarm 4

/-- What entry to BOOT does; with a broken mesh the breach is raised again and HALT follows (R671). -/
def State.bootBody (s : State) : State :=
  let s := s.bootStart
  if s.flag F.AO_PKG_LID_INTACT then s.bootSelect else s.breach.haltEnter causeLidBreach

def State.bootEnter (s : State) (cause : Nat) : State := ((s.leave .boot).go .boot cause).bootBody

/-- START_FAILED (R572, R573): `cause` as in R608. -/
def State.failedStart (s : State) (cause : Nat) : State :=
  if s.mode ≠ .boot then s
  else
    let b := s.boot
    let n := b.fails + 1
    let slot := s.fld F.AO_BOOT_STATUS_SLOT
    let s := (s.withBoot { b with fails := n, slotFails := Map.set 0 slot (Map.get 0 slot b.slotFails + 1) b.slotFails })
    let s := (s.attemptEntry slot b.seq b.digest 2 cause).raise 61 [.w slot, .w cause, .w n]
    if 3 ≤ n then s.snetEnter causeStartsExhausted reasonStartsExhausted else s.bootEnter causeStartFailed

/-- The conditions of R577, and every VB version destaged where the layout changed (R476 step 5). -/
def State.runDue (s : State) : Bool :=
  s.mode == .boot && s.flag F.AO_BOOT_CTRL_READY
    && (List.range 32).all (fun n => !bit s.boot.clusters (n / 4) || bit (s.fld F.CX_CORE_RELEASE_REL) n)
    && (List.range 16).all (fun n => !bit s.boot.sqs n || bit (s.fld F.HX_SQ_RELEASE_REL) n)
    && (!s.flag F.HX_STOR_REPLAY_LAYOUT_CHANGED || !s.stor.vers.any Ver.isVb)

/-- Lock every RWL field (R10, R576 step 9). -/
def State.lockAll (s : State) : State := (s.withLocks ((List.range 9).foldl (fun (m : Map Bool) r => Map.set false r true m) s.locks))

/-- The cluster records not yet committed are committed (R353). -/
def State.commitClusters (s : State) : State :=
  (List.range 8).foldl (fun s k => if s.committed (clusterFi k) ∨ s.flag F.HX_FN_REC_ERR (clusterFi k) then s else s.commitRec (clusterFi k)) s

/-- RUN_READY: the module enters RUN (R576 step 9, R577). -/
def State.runReady (s : State) : State :=
  s.when s.runDue (fun s =>
    let b := s.boot
    let s := ((s.leave .run).go .run causeRunReady).commitClusters.lockAll
    let s := (s.withBoot { b with fails := 0, slotFails := [] })
    let s := (s.attemptEntry (s.fld F.AO_BOOT_STATUS_SLOT) b.seq b.digest 1 0).hostRun
    ([1, 2, 3, 4].foldl State.linksStart s).trRequest)

def execRunReady (s : State) : Host.Outcome State Fault Refusal := .next s.runReady

/-- BOOT_READY: the supervisor's write of READY (R577). -/
def execBootReady (who : Party) (s : State) : Host.Outcome State Fault Refusal :=
  .next (s.when (s.admits who 0 7 && who == .supervisor) (·.setFlag F.AO_BOOT_CTRL_READY 0 true))

/-- FAILED_START_TIMEOUT (R573): 120 s have passed since entry to BOOT; replay, which holds the timer, takes no time here. -/
def execFailedStartTimeout (s : State) : Host.Outcome State Fault Refusal :=
  .next (s.when (decide (s.fld F.AO_MODULE_STATE_TS_TS + 120000000000 ≤ s.now)) (·.failedStart 1))

/-- BOOT_START (R19): RST_N is high, and VIN is not below VHOLD; `flash` is whether the flash answers (R590). -/
def State.bootStart' (s : State) (flash : Bool) : State :=
  s.when (s.mode == .standby && !s.flag F.AO_SUP_STATUS_BELOW_VHOLD) (fun s =>
    ((s.withBoot { s.boot with flashOk := flash }).withPkg { s.pkg with rst := false }).bootEnter causeBootStart)

def execBootStart (flash : Bool) (s : State) : Host.Outcome State Fault Refusal := .next (s.bootStart' flash)

/-! ### Leaving service (R19, R20) -/

/-- An exit from the present state to a target, through VAULT where RUN or RIDE-THROUGH holds a dirty byte (R20). -/
def State.exitTo (s : State) (target : ModState) (cause reason : Nat) : State :=
  if s.inService && s.dirty then s.vaultEnter target cause
  else match target with
    | .boot => s.bootEnter cause
    | .safetyNet => s.snetEnter cause reason
    | .halt => s.haltEnter cause
    | _ => s.standbyEnter cause

/-- What follows the entry to a target when VAULT has ended. -/
def State.afterVault (s : State) (target : ModState) (cause : Nat) : State :=
  match target with
  | .boot => s.bootBody
  | .safetyNet => s.snetBody (if cause = causeRequest then reasonRequest else reasonModuleFault)
  | .halt => s.haltBody
  | _ => s.standbyBody

/-- A MODULE_FAULT entry (R608), LAST_MF and EV0071. -/
def State.faultRecord (s : State) (code count target : Nat) : State :=
  ((s.setFld F.AO_FLT_STATUS_LAST_MF 0 code).logEntry 5 code 0 1 [code, count, target]).raise 71 [.w code, .w count, .w target]

/-- Step 7 of R518: the log entries that waited, the ledger's snapshot, power off, and PENDING; an RST_N seen in VAULT then acts (R19). -/
def State.vaultEnd (s : State) : State :=
  let late := s.log.late
  let s := late.foldl State.flashEntry (s.withLog { s.log with late := [] })
  let s := s.ledgerCopy.energySnap
  let target := ModState.ofCode (s.fld F.AO_MODULE_STATE_PENDING)
  let s := s.lateFaults.foldl (fun s c => s.faultRecord c (s.recent 86400000000000 s.faultTimes).length target.code) s
  let cause := s.fld F.AO_MODULE_STATE_CAUSE
  let rst := s.pkg.rstSeen
  let s := ((((s.withLateFaults []).withStor { s.stor with vaulting := none }).withPkg { s.pkg with rstSeen := false }).withLog { s.log with entries := [] })
  let s := (s.wipeAll.powers (fun _ => false)).go target causeVaultDone
  let s := (s.withLog { s.log with held := s.log.held ++ s.log.entries, entries := [] })
  if rst then s.standbyEnter causeRstN else s.afterVault target cause

/-- VAULT_DONE: the trailer is written with COMPLETE. -/
def State.vaultDone (s : State) : State :=
  s.when (s.mode == .vault) (fun s =>
    let s := match s.stor.vaulting with
      | some r => s.setRegion r { s.region r with complete := true }
      | none => s
    s.vaultEnd)

def execVaultDone (s : State) : Host.Outcome State Fault Refusal := .next s.vaultDone

/-- The writing of a region stops: an open number of its records stands, in order, and the next may be torn (R518, R606). -/
def State.vaultCut (s : State) : State :=
  match s.stor.vaulting with
  | none => s
  | some r =>
    let x := s.region r
    let n := s.free % (x.recs.length + 1)
    let s := s.drawn
    s.drawn.setRegion r { x with recs := x.recs.take n, torn := if n < x.recs.length then s.free % 2 else 0 }

/-! ### Supply (R513 to R517, R548) -/

/-- RIDE_THROUGH_REPLAN (R548): accounts with a lever are held to at least RT_THR, and drives are lifted out of PS3 and PS4. -/
def State.replan (s : State) : State :=
  let s := s.settleCredits
  let s := (List.range 256).foldl (fun s a =>
    if s.lever a then s.setFld F.AO_LED_EA_THR a (max (s.fld F.AO_LED_EA_THR a) (s.fld F.AO_LED_CFG_RT_THR)) else s) s
  (List.range 8).foldl (fun s d => if s.dlState d = dlEnabled then s.drivePower d 0 else s) s.showClocks

/-- A sag, counted once (R513). -/
def State.sag (s : State) : State :=
  if s.pkg.sagged then s else ((s.bump F.AO_SUP_STAT_COUNT 1).withPkg { s.pkg with sagged := true })

/-- RUN passes to RIDE-THROUGH. -/
def State.rideEnter (s : State) (cause : Nat) : State :=
  if s.mode = .run then ((s.leave .rideThrough).go .rideThrough cause).replan else s

/-- VIN_BELOW_VHOLD (R19, R513, R516). -/
def State.vinLow (s : State) : State :=
  s.when s.powered (fun s =>
    let s := ((s.setFlag F.AO_SUP_STATUS_BELOW_VHOLD 0 true).withPkg { s.pkg with dwell := none }).sag.capAbort
    if s.mode = .boot then s.standbyEnter causeVinBelowVhold
    else (s.rideEnter causeVinBelowVhold).pins)

def execVinBelowVhold (s : State) : Host.Outcome State Fault Refusal := .next s.vinLow

/-- DEEP_SAG, counted once. -/
def State.deepSag (s : State) : State :=
  if s.pkg.deep then s else ((s.bump F.AO_SUP_STAT_COUNT 2).withPkg { s.pkg with deep := true })

/-- VIN_BELOW_VVAULT: a collapse that crosses VHOLD too passes through RIDE-THROUGH (R515). -/
def State.vinDeep (s : State) : State :=
  s.when s.powered (fun s =>
    let s := s.vinLow.deepSag
    if s.mode = .rideThrough then s.vaultEnter .standby causeVinBelowVvault else s)

def execVinBelowVvault (s : State) : Host.Outcome State Fault Refusal := .next s.vinDeep

/-- RESERVE_AT_DIRTY (R514): counted as DEEP_SAG only. -/
def State.reserveLow (s : State) : State :=
  s.when s.atDirty (fun s =>
    (((s.bump F.AO_SUP_STAT_COUNT 2).rideEnter causeReserveAtDirty).vaultEnter .standby causeReserveAtDirty))

/-- VIN_TURN_OFF: all power is lost; the flash, the fuses and the vault keep what they hold (R19, R509). -/
def State.turnOff (s : State) : State :=
  if !s.powered then s
  else
    let s := (if s.mode = .vault then s.vaultCut else s).calCut.imgCut
    let s := (s.withPowered false).pins
    let top := [0, 1].foldl (fun a r => max a (s.region r).seq) 0
    { pending := s.pending, out := s.out, draws := s.draws,
      boot := { flash := s.boot.flash, floor := s.boot.floor, revoked := s.boot.revoked, fails := s.boot.fails, slotFails := s.boot.slotFails,
                demoted := s.boot.demoted },
      log := { flash := s.log.flash }, cal := { banks := s.cal.banks },
      stor := { regions := s.stor.regions, regionSeq := top, lost := s.stor.lost, dealloc := s.stor.dealloc } }

/-- The thresholds that a sampled VIN_SENSE crosses, the higher event of R21 first (R509, R510, R513). -/
def State.crossings (s : State) (vin : Nat) : State :=
  if vin < 3900 then s.turnOff
  else if vin < 25 * s.fld F.AO_SUP_CFG_VVAULT then s.vinDeep
  else
    let s := s.reserveLow
    if vin < s.vHold then s.vinLow else s

def execSupplySample (vin bank : Fin 65536) (iin : Fin 262144) (s : State) : Host.Outcome State Fault Refusal :=
  .next (s.when s.powered (fun s =>
    let v := s.metered 0 65535 vin.val
    (s.sample v (s.metered 1 65535 bank.val) (s.meteredIin iin.val)).crossings v))

/-- RESTART from SAFETY-NET: the failed starts are forgotten (R580). -/
def State.restart (s : State) : State :=
  let s := ((s.withRequest 0).withBoot { s.boot with fails := 0, slotFails := [] })
  s.bootEnter causeRequest

/-- A request of AO_MODULE_CTRL takes effect (R19, R22, R26); a RESTART_REQ of SAFETY-NET that meets a low VIN waits for VIN_RECOVERED. -/
def State.settleRequest (s : State) : State :=
  let now := (s.withRequest 0)
  match s.request with
  | 1 =>
    if s.inService then now.exitTo .boot causeRequest 0
    else if s.mode = .safetyNet then (if s.flag F.AO_SUP_STATUS_BELOW_VHOLD then s.withRequest 4 else s.restart)
    else now
  | 2 => if s.inService then now.exitTo .safetyNet causeRequest reasonRequest else now
  | 3 => if s.inService || s.mode == .safetyNet then now.exitTo .halt causeRequest 0 else now
  | _ => s

/-- VIN_SENSE has stood at or above VHOLD + HYST for DWELL milliseconds, 0 acting as 1 (R517, R530). -/
def State.dwelt (s : State) : Bool :=
  match s.pkg.dwell with
  | some t => decide (t + max (s.fld F.AO_SUP_LIM_DWELL) 1 * 1000000 ≤ s.now)
  | none => false

/-- VIN_RECOVERED (R517): RIDE-THROUGH returns to RUN, and a RESTART_REQ held in SAFETY-NET takes effect. -/
def State.vinBack (s : State) : State :=
  s.when (s.powered && s.dwelt) (fun s =>
    let s := ((s.setFlag F.AO_SUP_STATUS_BELOW_VHOLD 0 false).withPkg { s.pkg with sagged := false, deep := false })
    if s.mode = .rideThrough then (List.range 8).foldl (fun s d => s.drivePower d (s.driveSuits d)) ((s.leave .run).go .run causeVinRecovered).trRequest
    else if s.mode = .safetyNet then (if s.request = 4 then s.pins.restart else s.pins)
    else s.pins)

def execVinRecovered (s : State) : Host.Outcome State Fault Refusal := .next s.vinBack

/-- HALT_REQ, SNET_REQ and RESTART_REQ: a keyed write of AO_MODULE_CTRL by a party that reaches it (R25). -/
def State.requestBy (s : State) (who : Party) (halt snet restart : Bool) : State :=
  s.when (s.admits who 0 0) (fun s => (s.moduleRequest halt snet restart).settleRequest)

def execHaltReq (who : Party) (s : State) : Host.Outcome State Fault Refusal := .next (s.requestBy who true false false)
def execSnetReq (who : Party) (s : State) : Host.Outcome State Fault Refusal := .next (s.requestBy who false true false)
def execRestartReq (who : Party) (s : State) : Host.Outcome State Fault Refusal := .next (s.requestBy who false false true)

/-! ### Pins, lid, heat, power (R19, R509, R663, R669, R671) -/

/-- RST_N is asserted (R19). -/
def State.rstN (s : State) : State :=
  match s.mode with
  | .off => s
  | .vault => (s.withPkg { s.pkg with rst := true, rstSeen := true })
  | _ => (s.withPkg { s.pkg with rst := true }).exitTo .standby causeRstN 0

def execRstN (s : State) : Host.Outcome State Fault Refusal := .next s.rstN

/-- LID_BREACH (R19, R671). -/
def State.lidBreach (s : State) : State :=
  match s.mode with
  | .off => s
  | .vault => s.breach.setFld F.AO_MODULE_STATE_PENDING 0 ModState.halt.code
  | _ => s.breach.exitTo .halt causeLidBreach 0

def execLidBreach (s : State) : Host.Outcome State Fault Refusal := .next s.lidBreach

/-- THERMAL_TRIP: a sensor has read 110 C or more twice in a row (R669). -/
def State.thermalTrip (s : State) : State :=
  match s.pkg.hot.find? (fun e => decide (2 ≤ e.2)) with
  | none => s
  | some (k, _) =>
    s.when s.powered (fun s =>
      let s := (s.setFlag F.AO_PKG_THERM_TRIPPED 0 true).thermEvent k
      if s.inService then s.exitTo .halt causeThermalTrip 0
      else (List.range 96).foldl (fun s d => if s.needs s.mode d then s else s.setPower d powGated) s)

def execThermalTrip (s : State) : Host.Outcome State Fault Refusal := .next s.thermalTrip

def execVinTurnOff (s : State) : Host.Outcome State Fault Refusal := .next s.turnOff

/-- POWER_ON: the straps DEVID and BOOTSEL as sampled, and whether the lid mesh is intact (R19, R522, R607, R663). -/
def State.powerOn (s : State) (devid : Nat) (bootsel mesh : Bool) : State :=
  if s.powered then s
  else
    let newest := (s.log.flash.flatMap (·.entries)).foldl (fun a e => max a e.seq) 0
    let cap := match s.calCurrent with
      | some b => Map.get 0 (65536 * 6) (s.calBank b).vals - 1
      | none => 0
    let s := ((s.setFld F.AO_DEVICE_ID_DEVID 0 devid).masterReset.setFlag F.AO_PKG_LID_INTACT 0 mesh).setFld F.AO_SUP_CAP_C_USED 0 cap
    let s := ((s.withBoot { s.boot with strap := bootsel }).withLog { s.log with newest := newest })
    (s.go .standby causePowerOn).standbyBody

def execPowerOn (devid : Fin 4) (bootsel mesh : Bool) (s : State) : Host.Outcome State Fault Refusal := .next (s.powerOn devid.val bootsel mesh)

end Sys2Proof.Machine
end

