-- ==== Sys2Proof/Machine/Faults.lean ====
section
/-! DEFINITION. Region faults, region resets and module faults (R597 to R606), and the commands that can bring one. -/

namespace Sys2Proof.Machine

/-! ### Module faults (R603, R605, R606) -/

/-- MF_LIMIT as used (R620). -/
def State.mfLimit (s : State) : Nat := max (s.fld F.AO_FLT_CFG_MF_LIMIT) 1

/-- Failed-start cause of a module fault in BOOT (R608): watchdog 2, machine check 3; no table gives the others one (log entry 25). -/
def State.startCause (s : State) (code : Nat) : Nat := if code = 0x0901 then 2 else if code = 0x0902 then 3 else s.free

/-- MODULE_FAULT (R605, R606).  `path` tells that the fault reaches the vault path. -/
def State.moduleFault (s : State) (code : Nat) (path : Bool) : State :=
  match s.mode with
  | .off => s
  | .run | .rideThrough =>
    let s := (s.withFaultTimes (s.now :: s.recent 86400000000000 s.faultTimes))
    let n := s.faultTimes.length
    let target := if n < s.mfLimit then ModState.boot else .safetyNet
    (s.faultRecord code n target.code).exitTo target causeModuleFault reasonModuleFault
  | .boot =>
    let target := if s.boot.fails + 1 < 3 then ModState.boot else .safetyNet
    (s.drawn.faultRecord code (s.recent 86400000000000 s.faultTimes).length target.code).failedStart (s.startCause code)
  | .vault =>
    if path then (s.vaultCut.withLateFaults (s.lateFaults ++ [code])).vaultEnd
    else (s.withLateFaults (s.lateFaults ++ [code]))
  | m => s.faultRecord code (s.recent 86400000000000 s.faultTimes).length m.code

/-! ### Region faults and resets (R597 to R602) -/

/-- RR_LIMIT as used (R620). -/
def State.rrLimit (s : State) : Nat := max (s.fld F.AO_FLT_CFG_RR_LIMIT) 1

/-- Domains of a region are powered on, or off (R525, R600). -/
def State.regionPower (s : State) (r : Nat) (on : Bool) : State :=
  (regionDomains r).foldl (fun s d => s.setPower d (if on && !s.forcedOff d then powOn else powGated)) s

/-- What goes down with a region before its state is lost: front links, host and drive links, sessions. -/
def State.regionDown (s : State) (r : Nat) : State :=
  let s := match s.prog.load with
    | some l => if l.graphs.contains r ∨ l.pipes.any (fun p => p / 16 + 1 == r) then s.progStop 14 else s
    | none => s
  let s := s.dbgReset
  if r ≤ 4 then s.linksStop r
  else if r = 6 then (List.range 8).foldl (fun s d => s.dlGo d dlDown) ([0, 1].foldl State.hostStop s)
  else s

/-- Every ring that a committed record held ends DISABLED with cause REGION_RESET; EV0780 reports those that change (R388). -/
def State.ringsReset (s before : State) : State :=
  (before.holders.flatMap before.ringsOf).foldl (fun s r =>
    let s := s.setFld F.HX_RING_STATUS_CAUSE r 8
    if before.ringState r = ringDisabled then s else s.raise 780 [.w r, .w (before.ringState r), .w ringDisabled, .w 8]) s

/-- Every endpoint, connection and sequencer that was not at its reset state has changed to it (R409, R431, R441). -/
def State.enginesReset (s before : State) : State :=
  let s := (before.listed F.HX_RMA_EP_STATE).foldl (fun s e => s.raise 786 [.w e, .w (before.epState e), .w epDisabled, .w 0]) s
  let s := (before.listed F.HX_RMA_CONN_STATE).foldl (fun s c => s.raise 786 [.w (4096 + c), .w (before.connState c), .w connReset, .w 3]) s
  (before.listed F.HX_SQ_STATUS_STATE).foldl (fun s n => s.raise 784 [.w n, .w (before.sqState n), .w sqReset]) s

/-- Steps 1 to 3 of a region reset (R600): fence, EV0070, power off, every register and memory at reset. -/
def State.regionReset (s : State) (r code : Nat) : State :=
  let s := (s.withResetTimes (Map.set [] r (s.now :: s.recent 3600000000000 (Map.get [] r s.resetTimes)) s.resetTimes))
  let s := ((s.setFlag F.AO_FLT_REGION_RESETTING r true).setFld F.AO_FLT_REGION_LAST_CAUSE r code).raise 70 [.w r, .w code, .w 0]
  let s := (s.regionDown r).regionPower r false
  if r = 6 then ((s.wipeRegion r).ringsReset s).enginesReset s else (s.wipeRegion r).drainEnd

/-- A region fault (R597, R599): logged with its condition code; then the region resets, or the module faults. -/
def State.regionFault (s : State) (r code : Nat) (detail : List Nat) : State :=
  let s := if code = 0x0909 then s.condition code (detail.headD 0) [] else s.condition code 0 detail
  let last (s : State) : State := s.setFld F.AO_FLT_REGION_LAST_CAUSE r code
  if r = 0 ∨ 8 ≤ r then last (s.moduleFault 0x0908 (r == 8))
  else if !s.inService then last (s.moduleFault code (r == 6))
  else if s.fenced r then last (s.moduleFault 0x0905 false)
  else if s.rrLimit ≤ (s.recent 3600000000000 (Map.get [] r s.resetTimes)).length then last (s.moduleFault 0x0906 false)
  else s.regionReset r code

/-- The region faults and the request that a command has left are handled at its end: faults first (R21). -/
def State.settleDue (s : State) : State :=
  let due := s.faultsDue
  (due.foldl (fun (s : State) (x : Nat × Nat × List Nat) => s.regionFault x.1 x.2.1 x.2.2) (s.withFaultsDue [])).settleRequest

/-! ### The end of a region reset (R600 steps 4 to 6, R601, R602) -/

/-- Write one journal record back (R601).  A namespace that had EN = 1 is in WAIT (R450). -/
def State.journalWrite (s : State) (j : JRec) : State :=
  let raw : State := (s.withRegs (Map.set [] j.fld (Map.set 0 j.idx j.value (Map.get [] j.fld s.regs)) s.regs))
  if j.fld = F.HX_RMA_EP_EN.id then
    if j.value = 0 ∨ s.committed (s.fld F.HX_RMA_EP_OWNER j.idx) then raw else s.rmaRefuse (0x1000 + 16 * j.idx)
  else if j.fld = F.HX_FN_DLOG_EN.id then
    if j.value = 0 then raw else (s.setFlag F.HX_FN_DLOG_ERR j.idx true).raise 779 [.w j.idx]
  else if j.fld = F.CX_DBG_TRACE_EN.id then
    if j.value = 0 then raw else s.raise 913 [.w (s.fld F.CX_DBG_TRACE_CORE_MASK)]
  else if j.fld = F.FX_STC_ROUTE_MEMBERS.id then
    -- the replayed members whose links are JOINED wait to rejoin (R282, R295)
    (List.range 8).foldl (fun s k => if s.stcLink k = stcJoined ∧ s.nbDevid k = j.idx then s.pendMember j.idx k else s) raw
  else if j.fld = F.HX_STOR_NS_EN.id then raw.nsGo j.idx (if raw.flag F.HX_STOR_NS_EN j.idx then nsWait else nsDisabled)
  else raw

/-- The journal's records of a region, in their original order. -/
def State.journalOf (s : State) (r : Nat) : List JRec :=
  s.log.journal.filter (fun j => allFlds.any (fun f => f.id == j.fld && f.region j.idx == r && !graphFields.any (·.id == f.id)))

/-- Restoration of HX (R602): the patch set, SQ_MASK, the cluster records. -/
def State.restoreHx (s : State) : State :=
  let s := s.commitClusters
  let s := if s.sq.copy.words.isEmpty then s else s.patchInstall s.sq.copy
  (s.storShow).sqRelease .supervisor s.boot.sqs

/-- Restoration of CX (R602): the core firmware, and the cores of CLUSTER_MASK. -/
def State.restoreCx (s : State) : State :=
  let mask := (List.range 32).foldl (fun a n => if bit s.boot.clusters (n / 4) then a + 2 ^ n else a) 0
  s.coreCopy.coreRelease mask

/-- REGION_RESET_DONE: power, journal, restoration, release of the fence, EV0070 with DONE (R600 steps 3 to 6). -/
def State.regionDone' (s : State) (r : Nat) : State :=
  s.when (s.fenced r && s.inService) (fun s =>
    let s := (s.journalOf r).foldl State.journalWrite (s.regionPower r true)
    -- every RWL field of the region is locked again, also one without a journal record (DESIGN CHOICE, log entry 57)
    let s := (s.withLocks (Map.set false r true s.locks))
    let s := if r = 6 then s.restoreHx else if r = 7 then s.restoreCx else s
    let code := s.fld F.AO_FLT_REGION_LAST_CAUSE r
    let s := (s.setFlag F.AO_FLT_REGION_RESETTING r false).raise 70 [.w r, .w code, .w 1]
    let s := s.logEntry 4 code r 1 [r, code, s.now % 2 ^ 32, s.now / 2 ^ 32]
    let s := if r ≤ 4 then s.linksStart r
      else if r = 6 then (List.range 8).foldl State.driveStart ([0, 1].foldl State.hostStart s)
      else s
    s.trRequest)

def execRegionResetDone (region : Fin 9) (s : State) : Host.Outcome State Fault Refusal := .next (s.regionDone' region.val)

/-! ### The commands -/

/-- REGION_RESET_REQ: REQ written in AO_FLT_REGION (R598).  A function other than the manager, a core or a sequencer has no path to the block (R678). -/
def State.regionReq (s : State) (who : Party) (r : Nat) : State :=
  s.when s.powered (fun s =>
    match s.reach who true (0x00900010 + 4 * r) with
    | .served => (s.regionRequest who r).settleDue
    | _ => s.turnAway who (0x00900010 + 4 * r))

def execRegionResetReq (who : Party) (region : Fin 9) (s : State) : Host.Outcome State Fault Refusal := .next (s.regionReq who region.val)

/-- A fault of region `r` that a block reports. -/
def State.faultIn (s : State) (r code : Nat) : State := s.when s.powered (·.regionFault r code [])

/-- A condition code of a region whose block and code no table gives: they are open, the region's ID is not (R12, log entry 25). -/
def State.openCode (s : State) (r : Nat) : Nat := 4096 * r + s.free % 4096

/-- INTERCONNECT_TIMEOUT; no table gives its condition a block and a code (log entry 25). -/
def execInterconnectTimeout (region : Fin 9) (s : State) : Host.Outcome State Fault Refusal := .next (s.drawn.faultIn region.val (s.openCode region.val))

/-- PLL_UNLOCK, likewise. -/
def execPllUnlock (region : Fin 9) (s : State) : Host.Outcome State Fault Refusal := .next (s.drawn.faultIn region.val (s.openCode region.val))

/-- CONTROL_STORAGE_ERROR, likewise. -/
def execControlStorageError (region : Fin 9) (s : State) : Host.Outcome State Fault Refusal := .next (s.drawn.faultIn region.val (s.openCode region.val))

/-- OVERCURRENT (R512). -/
def execOvercurrent (s : State) : Host.Outcome State Fault Refusal := .next (s.moduleFault 0x0401 false)

/-- OVERVOLTAGE_FAULT (R513). -/
def execOvervoltageFault (s : State) : Host.Outcome State Fault Refusal := .next (s.moduleFault 0x0402 false)

/-- WD_PERIOD milliseconds, at least 10, have passed without a KICK (R604, R620). -/
def State.unkicked (s : State) : Bool := decide (s.boot.kicked + 1000000 * max (s.fld F.AO_FLT_CFG_WD_PERIOD) 10 ≤ s.now)

/-- SUPERVISOR_WATCHDOG (R604): it acts in BOOT, RUN and RIDE-THROUGH. -/
def execSupervisorWatchdog (s : State) : Host.Outcome State Fault Refusal :=
  .next (s.when ((s.mode == .boot || s.inService) && s.unkicked) (·.moduleFault 0x0901 false))

/-- SUPERVISOR_MACHINE_CHECK (R573, R603). -/
def execSupervisorMachineCheck (s : State) : Host.Outcome State Fault Refusal := .next (s.moduleFault 0x0902 false)

/-- CORE_MACHINE_CHECK: a failed start in BOOT (R573). -/
def execCoreMachineCheck (s : State) : Host.Outcome State Fault Refusal := .next (s.failedStart 3)

/-- AO_UNCORRECTABLE_ERROR. -/
def execAoUncorrectableError (s : State) : Host.Outcome State Fault Refusal := .next (s.moduleFault 0x0903 false)

/-- HBM_CONTROLLER_FAULT (R310, R606). -/
def execHbmControllerFault (s : State) : Host.Outcome State Fault Refusal := .next (s.moduleFault 0x0904 true)

/-! ### Commands whose blocks may escalate -/

/-- LB_GRANT (R191). -/
def execLbGrant (pipe : Fin 32) (recirc : Bool) (ecc : List EccHit) (excess : Bool) (s : State) : Host.Outcome State Fault Refusal :=
  .next (s.lbGrant pipe.val recirc ecc excess).settleDue

/-- DEQUEUE_SELECT (R191). -/
def execDequeueSelect (server : Fin 46) (ecc : List EccHit) (seg : Option SegError) (s : State) (ready : Fin 65536 := 65535) : Host.Outcome State Fault Refusal :=
  .next (s.dequeue server.val ready.val ecc seg).settleDue

/-- After a sequencer command: a machine check in BOOT is a failed start (R405, R573), and a lost class faults HX (R406). -/
def State.afterSq (s before : State) : State :=
  if s.sq.checks = before.sq.checks then s.settleDue
  else if before.mode = .boot then (s.withFaultsDue []).failedStart 3
  else s.settleDue

/-- MICROWORD (R394, R396, R397, R403). -/
def execMicroword (sq : Fin 16) (ctx : Fin 16) (o : MicroStep) (s : State) : Host.Outcome State Fault Refusal :=
  .next ((s.microword sq.val ctx.val o).afterSq s)

/-- SQ_WATCHDOG (R404). -/
def execSqWatchdog (sq : Fin 16) (ctx : Fin 16) (s : State) : Host.Outcome State Fault Refusal :=
  .next ((s.sqWatchdog sq.val ctx.val).afterSq s)

/-- SQ_INIT_DONE (R408). -/
def execSqInitDone (sq : Fin 16) (err : Option ScanError) (s : State) : Host.Outcome State Fault Refusal :=
  .next ((s.sqInitDone sq.val err).afterSq s)

/-- SQ_OFFLINE (R409, R410). -/
def execSqOffline (who : Party) (sq : Fin 16) (s : State) : Host.Outcome State Fault Refusal :=
  .next (s.writeTo who 6 7 false (fun s => (s.sqOfflineWrite who sq.val true).settleDue))

/-- HBM_SCRUB (R309, R310); AO-reserved data that the supervisor cannot rewrite is a module fault (R603). -/
def execHbmScrub (stack : Fin 4) (addr : Dword) (result : ScrubResult) (s : State) : Host.Outcome State Fault Refusal :=
  let up := s.ringUp && decide (s.fld F.MX_HBM_STACK_CTRL_STATE stack.val < 2)
  let t := s.scrub stack.val addr.toNat result
  .next (if up && result == .unkept then t.moduleFault 0x0907 true else t)

end Sys2Proof.Machine
end

