-- ==== Sys2Proof/Machine/Access.lean ====
section
/-! DEFINITION. Register writes of one clock and their order, a host's requests to BAR0, and register reads over SMBus (R8, R31, R32, R326, R343, R664, R679 to R683). -/

namespace Sys2Proof.Machine

/-! ### Register writes (R8, R31, R32) -/

/-- A write of `a` is applied before one of `b`: a lower rank, that is a greater number, or within a rank a greater index (R31, R32). -/
def State.before (s : State) (a b : Party) : Bool :=
  decide (s.rank b < s.rank a) || (s.rank a == s.rank b && decide (partyIndex b < partyIndex a))

/-- Put a write among writes that stand in the order of R31 and R32, behind those of its own writer. -/
def State.orderWrite (s : State) (w : RegWrite) : List RegWrite → List RegWrite
  | [] => [w]
  | x :: xs => if s.before w.who x.who then w :: x :: xs else x :: s.orderWrite w xs

/-- The writes of one clock in the order in which they are applied. -/
def State.inOrder (s : State) (ws : List RegWrite) : List RegWrite := ws.foldl (fun l w => s.orderWrite w l) []

/-- The writes of one clock, applied one after another. -/
def State.writes (s : State) (ws : List RegWrite) : State :=
  s.when s.powered (fun s => ((s.inOrder ws).foldl State.access s).settleDue)

/-- REGISTER_WRITE: the writes that reach registers in one clock. -/
def execRegisterWrite (writes : List RegWrite) (s : State) : Host.Outcome State Fault Refusal := .next (s.writes writes)

/-! ### BAR0 (R325, R326, R343, R679, R682, R683) -/

/-- Where a request leads (R326, R327). -/
inductive BarTarget where
  | reg (addr : Nat)
  | core (addr : Nat)
  | staging (off : Nat)
  | unmapped
  deriving DecidableEq, Repr

/-- The translation of an offset of BAR0 (R326, R327); a function whose record is not committed has none (R353).  The cluster-local range, and an offset beyond the staging area, lead nowhere (log entry 26). -/
def State.barTarget (s : State) (fi o len : Nat) (write : Bool) : BarTarget :=
  let b := s.barOf fi
  let psize := 2 ^ b.2.1
  let p := o / psize
  let e := b.1 + p
  let i := 8192 * linkOf fi + e
  if !s.committed fi ∨ b.2.2 ≤ p ∨ 8192 ≤ e ∨ !s.flag F.HX_PCIE_TT_VALID i ∨ !s.flag (if write then F.HX_PCIE_TT_WR else F.HX_PCIE_TT_RD) i then .unmapped
  else
    let a := s.fld F.HX_PCIE_TT_ADDR i * 4096 + o % psize
    match s.fld F.HX_PCIE_TT_TARGET i with
    | 0 => if a < 2 ^ 32 then .reg a else if s.inCore a len then .core a else .unmapped
    | 1 => if a + len ≤ 2 ^ 24 then .staging a else .unmapped
    | _ => .unmapped

/-- Byte enables of a request, byte by byte. -/
def barEnables (r : BarTlp) : List Bool :=
  let n := 4 * r.dws.val
  (List.range n).map (fun k =>
    if k < 4 then bit r.firstBe.val k
    else if n ≤ k + 4 then bit r.lastBe.val (k % 4)
    else true)

/-- The enabled bytes among `bs`. -/
def barEnabled (r : BarTlp) (bs : List Byte) : List Byte := ((bs.zip (barEnables r)).filter (·.2)).map (·.1)

/-- The runs of enabled bytes of a write from address `a`, each with its address; `run` is the run that is open. -/
def enabledRuns (a : Nat) (run : List Byte) : List (Byte × Bool) → List (Nat × List Byte)
  | [] => if run.isEmpty then [] else [(a - run.length, run)]
  | (b, true) :: xs => enabledRuns (a + 1) (run ++ [b]) xs
  | (_, false) :: xs => (if run.isEmpty then [] else [(a - run.length, run)]) ++ enabledRuns (a + 1) [] xs

/-- A function's answer to a read. -/
def State.barAnswer (s : State) (r : BarTlp) (bs : List Byte) : State := s.emit (.barCpl r.fi.val cplSc (barEnabled r bs))

/-- R343 code 0x07: UR for a read; a write is discarded.  It is an attempt beyond the function's translation entries too (R357 code 0x04). -/
def State.barRefuse (s : State) (r : BarTlp) : State :=
  let s := s.carve r.fi.val 4
  let s := (s.hostCount (linkOf r.fi.val) 4).hostViolation r.fi.val 7 true
  if r.write then s else s.emit (.barCpl r.fi.val cplUr [])

/-- A request to register space: its size (R679), then what the function owns (R683). -/
def State.barReg (s : State) (r : BarTlp) (addr : Nat) : State :=
  let who := Party.fn r.fi
  let partly := (barEnables r).any (fun b => !b)
  if 2 < r.dws.val ∨ (r.dws.val = 2 ∧ addr % 8 ≠ 0) ∨ (r.write ∧ partly) then (s.overtake who addr).barRefuse r
  else match s.reach who r.write addr with
    | .refused => (s.overtake who addr).barRefuse r
    | .ringOther =>
      let s := s.overtake who addr
      if r.write then (List.range r.dws.val).foldl (fun s k => s.ringAway (addr + 4 * k) true) s
      else s.barAnswer r (List.replicate (4 * r.dws.val) 0)
    | .served =>
      if r.write then
        if r.dws.val = 2 then (s.writeWide who addr (ofLe r.data) r.bad).settleDue
        else (s.writeWord who addr (ofLe r.data) r.bad).settleDue
      else if r.dws.val = 2 then
        let x := s.readWide who addr
        x.2.barAnswer r (leBytes 8 x.1)
      else if (barEnables r).all (fun b => !b) then s.barAnswer r [0, 0, 0, 0]
      else
        let x := s.readWord who addr
        x.2.barAnswer r (leBytes 4 x.1)

/-- A request to core memory; a poisoned line, or a stack that is off, makes an error answer whose kind no rule states (R310, log entry 26). -/
def State.barCore (s : State) (r : BarTlp) (addr : Nat) : State :=
  let n := 4 * r.dws.val
  if r.write then
    if s.stackOff addr then s.raise 903 [] else (enabledRuns addr [] (r.data.zip (barEnables r))).foldl (fun s x => s.corePut x.1 x.2) s
  else if s.coreGood addr n then (s.stackTouch addr).barAnswer r (s.memRead addr n)
  else (if s.stackOff addr then s.raise 903 [] else s).drawn.emit (.barCpl r.fi.val (1 + s.free) [])

/-- A request to the program staging area. -/
def State.barStaging (s : State) (r : BarTlp) (off : Nat) : State :=
  if r.write then
    (s.withStaging ((enabledRuns off [] (r.data.zip (barEnables r))).foldl (fun m x => cellsWrite m x.1 x.2) s.staging))
  else s.barAnswer r (cellsRead s.staging off (4 * r.dws.val))

/-- The request reaches the BAR0 of a function: its sub-link is ACTIVE, the function takes memory requests, the offset is aligned and inside the BAR, and the TLP is of a form that PCIe allows. -/
def State.barUp (s : State) (r : BarTlp) : Bool :=
  let fi := r.fi.val
  let o := r.offset.toNat
  let n := 4 * r.dws.val
  s.hlState (linkOf fi) (s.sublinkOf fi) == hlActive && (s.mode != .safetyNet || fi == 0) && (s.cfg fi).resetting == 0 &&
  (if fi < 8 then (s.cfg fi).mse else s.live fi) &&
  decide (0 < n) && decide (o % 4 = 0) && decide (o + n ≤ s.barSize fi) && decide (o / 4096 = (o + n - 1) / 4096) &&
  (!r.write || r.data.length == n)

/-- BAR_REQUEST (R326, R343). -/
def State.bar (s : State) (r : BarTlp) : State :=
  let fi := r.fi.val
  if r.malformed then
    s.when (s.hlState (linkOf fi) (s.sublinkOf fi) == hlActive) (fun s => (s.hostCount (linkOf fi) 5).hostViolation fi 1 true)
  else if (s.cfg fi).resetting ≠ 0 then
    -- R337: reads are answered with Unsupported Request, writes are discarded
    s.when (s.hlState (linkOf fi) (s.sublinkOf fi) == hlActive && !r.write) (·.emit (.barCpl fi cplUr []))
  else s.when (s.barUp r) (fun s =>
    if r.poisoned ∧ r.write then (s.hostCount (linkOf fi) 6).hostViolation fi 2 true
    else match s.barTarget fi r.offset.toNat (4 * r.dws.val) r.write with
      | .unmapped => s.barRefuse r
      | .reg a => s.barReg r a
      | .core a => s.barCore r a
      | .staging o => s.barStaging r o)

/-- BAR_REQUEST. -/
def execBarRequest (r : BarTlp) (s : State) : Host.Outcome State Fault Refusal := .next (s.bar r)

/-! ### SMBus reads (R664) -/

/-- The AO blocks that SMBus reads reach. -/
def smbBlocks : List Nat := [0, 1, 4, 6, 7, 10, 16]

/-- The register at the read address and what its read leaves; any other address reads 0. -/
def State.smbRead (s : State) (addr : Nat) : Nat × State :=
  if addr / 0x10000000 = 0 ∧ smbBlocks.contains (addr / 2 ^ 20) then
    match regAt addr with
    | some h => s.readHit h
    | none => (0, s)
  else (0, s)

/-- SMB_BLOCK_READ; `pec` is whether its PEC was right. -/
def State.smbBlock (s : State) (pec : Bool) : State :=
  s.when (s.smbUp && pec) (fun s =>
    let x := s.smbRead s.pkg.smbAddr
    (x.2.withPkg { x.2.pkg with smbAddr := (x.2.pkg.smbAddr + 4) % 2 ^ 32 }).emit (.smbus (leBytes 4 x.1)))

/-- SMB_BLOCK_READ. -/
def execSmbBlockRead (pec : Bool) (s : State) : Host.Outcome State Fault Refusal := .next (s.smbBlock pec)

end Sys2Proof.Machine
end

