-- ==== Sys2Proof/Machine/Dispatch.lean ====
section
/-! DEFINITION. One arm per command: the meaning it calls. -/

namespace Sys2Proof.Machine

def exec (i : Instr) (s : State) : Host.Outcome State Fault Refusal :=
  match i with
  | .powerOn devid bootsel mesh => Sys2Proof.Machine.execPowerOn devid bootsel mesh s
  | .bootStart flash => Sys2Proof.Machine.execBootStart flash s
  | .keyPairDerived => Sys2Proof.Machine.execKeyPairDerived s
  | .runReady => Sys2Proof.Machine.execRunReady s
  | .failedStartTimeout => Sys2Proof.Machine.execFailedStartTimeout s
  | .vinBelowVhold => Sys2Proof.Machine.execVinBelowVhold s
  | .vinRecovered => Sys2Proof.Machine.execVinRecovered s
  | .vinBelowVvault => Sys2Proof.Machine.execVinBelowVvault s
  | .vaultDone => Sys2Proof.Machine.execVaultDone s
  | .vinTurnOff => Sys2Proof.Machine.execVinTurnOff s
  | .rstN => Sys2Proof.Machine.execRstN s
  | .haltReq who => Sys2Proof.Machine.execHaltReq who s
  | .snetReq who => Sys2Proof.Machine.execSnetReq who s
  | .restartReq who => Sys2Proof.Machine.execRestartReq who s
  | .thermalTrip => Sys2Proof.Machine.execThermalTrip s
  | .lidBreach => Sys2Proof.Machine.execLidBreach s
  | .alarmZeroise cause => Sys2Proof.Machine.execAlarmZeroise cause s
  | .refclkLost => Sys2Proof.Machine.execRefclkLost s
  | .tbCtrlWrite who v => Sys2Proof.Machine.execTbCtrlWrite who v s
  | .tbOffsetWrite who v => Sys2Proof.Machine.execTbOffsetWrite who v s
  | .slewDone => Sys2Proof.Machine.execSlewDone s
  | .tbSyncSet who v => Sys2Proof.Machine.execTbSyncSet who v s
  | .ptpMessageRx domain => Sys2Proof.Machine.execPtpMessageRx s domain
  | .syncLocked err => Sys2Proof.Machine.execSyncLocked err s
  | .syncHoldover => Sys2Proof.Machine.execSyncHoldover s
  | .errEstTick => Sys2Proof.Machine.execErrEstTick s
  | .holdoverExpired => Sys2Proof.Machine.execHoldoverExpired s
  | .ppsOutEdge => Sys2Proof.Machine.execPpsOutEdge s
  | .ppsInEdge rising => Sys2Proof.Machine.execPpsInEdge rising s
  | .ppsInMissing => Sys2Proof.Machine.execPpsInMissing s
  | .wakeTrigger domain => Sys2Proof.Machine.execWakeTrigger domain s
  | .wakeComplete domain late => Sys2Proof.Machine.execWakeComplete domain late s
  | .idleGate domain => Sys2Proof.Machine.execIdleGate domain s
  | .plannedWake lp => Sys2Proof.Machine.execPlannedWake lp s
  | .lbCfgWrite who port v => Sys2Proof.Machine.execLbCfgWrite who port v s
  | .lbSizeApply port => Sys2Proof.Machine.execLbSizeApply port s
  | .portCfgWrite who port v => Sys2Proof.Machine.execPortCfgWrite who port v s
  | .subportCfgWrite who lp v => Sys2Proof.Machine.execSubportCfgWrite who lp v s
  | .anResolved lp speed fec eee => Sys2Proof.Machine.execAnResolved lp speed fec s eee
  | .anFail lp => Sys2Proof.Machine.execAnFail lp s
  | .trainRequest lane bad => Sys2Proof.Machine.execTrainRequest lane bad s
  | .trainingDone lp => Sys2Proof.Machine.execTrainingDone lp s
  | .trainTimeout lane othersDone => Sys2Proof.Machine.execTrainTimeout lane othersDone s
  | .alignLock lp => Sys2Proof.Machine.execAlignLock lp s
  | .alignTimeout lp => Sys2Proof.Machine.execAlignTimeout lp s
  | .linkLoss lp localFault sending => Sys2Proof.Machine.execLinkLoss lp localFault sending s
  | .remoteFaultRx lp sending => Sys2Proof.Machine.execRemoteFaultRx lp sending s
  | .remoteFaultClear lp => Sys2Proof.Machine.execRemoteFaultClear lp s
  | .macRxFrame lp f => Sys2Proof.Machine.execMacRxFrame lp f s
  | .lbGrant pipe recirc ecc excess => Sys2Proof.Machine.execLbGrant pipe recirc ecc excess s
  | .bundleRewrite region page bank index => Sys2Proof.Machine.execBundleRewrite region page bank index s
  | .xprofCommit who region prof v => Sys2Proof.Machine.execXprofCommit who region prof v s
  | .counterLatch who region ch index => Sys2Proof.Machine.execCounterLatch who region ch index s
  | .counterLatchDone region ch => Sys2Proof.Machine.execCounterLatchDone region ch s
  | .loadSwap who pages ecc => Sys2Proof.Machine.execLoadSwap who pages ecc s
  | .loadOnly who pages ecc => Sys2Proof.Machine.execLoadOnly who pages ecc s
  | .swap who => Sys2Proof.Machine.execSwap who s
  | .abort who => Sys2Proof.Machine.execAbort who s
  | .epochFlip => Sys2Proof.Machine.execEpochFlip s
  | .oldBankDrained pipe => Sys2Proof.Machine.execOldBankDrained pipe s
  | .drainTimeout => Sys2Proof.Machine.execDrainTimeout s
  | .tblCfgWrite who table word v => Sys2Proof.Machine.execTblCfgWrite who table word v s
  | .tableInsert ch regions table => Sys2Proof.Machine.execTableInsert ch regions table s
  | .tableReplace ch regions table => Sys2Proof.Machine.execTableReplace ch regions table s
  | .tableWrite ch regions table => Sys2Proof.Machine.execTableWrite ch regions table s
  | .tableDelete ch regions table => Sys2Proof.Machine.execTableDelete ch regions table s
  | .tableRead ch regions table => Sys2Proof.Machine.execTableRead ch regions table s
  | .tableFlush ch regions table => Sys2Proof.Machine.execTableFlush ch regions table s
  | .tableUpdate ring got image put => Sys2Proof.Machine.execTableUpdate ring got image s put
  | .engineCommit half src => Sys2Proof.Machine.execEngineCommit half src s
  | .ageSweep table index => Sys2Proof.Machine.execAgeSweep table index s
  | .stitchLearnRx devid => Sys2Proof.Machine.execStitchLearnRx devid s
  | .entryRewrite table region index => Sys2Proof.Machine.execEntryRewrite table region index s
  | .admissionEnqueue pipe => Sys2Proof.Machine.execAdmissionEnqueue pipe s
  | .qcfgWrite who qi word v => Sys2Proof.Machine.execQcfgWrite who qi word v s
  | .cutThroughEligible qi => Sys2Proof.Machine.execCutThroughEligible qi s
  | .tailWritten fid => Sys2Proof.Machine.execTailWritten fid s
  | .segmentAllocResume fid => Sys2Proof.Machine.execSegmentAllocResume fid s
  | .bgDrained g => Sys2Proof.Machine.execBgDrained g s
  | .dequeueSelect server ecc seg ready => Sys2Proof.Machine.execDequeueSelect server ecc seg s ready
  | .gateTransition lp => Sys2Proof.Machine.execGateTransition lp s
  | .gateChange lp => Sys2Proof.Machine.execGateChange lp s
  | .gateCancel lp => Sys2Proof.Machine.execGateCancel lp s
  | .gateListSwap lp => Sys2Proof.Machine.execGateListSwap lp s
  | .meterCommit who region meter v => Sys2Proof.Machine.execMeterCommit who region meter v s
  | .qdepthSample group excess => Sys2Proof.Machine.execQdepthSample group excess s
  | .sampleGroupCommit who group v => Sys2Proof.Machine.execSampleGroupCommit who group v s
  | .helloTx link => Sys2Proof.Machine.execHelloTx link s
  | .helloRx link => Sys2Proof.Machine.execHelloRx link s
  | .helloTimeout link => Sys2Proof.Machine.execHelloTimeout link s
  | .stitchDataRx link => Sys2Proof.Machine.execStitchDataRx link s
  | .timeExchange => Sys2Proof.Machine.execTimeExchange s
  | .timeRx link => Sys2Proof.Machine.execTimeRx link s
  | .rejoin devid => Sys2Proof.Machine.execRejoin devid s
  | .rejoinPendTimeout devid => Sys2Proof.Machine.execRejoinPendTimeout devid s
  | .resyncReplayDone devid => Sys2Proof.Machine.execResyncReplayDone devid s
  | .neighbourLost devid => Sys2Proof.Machine.execNeighbourLost devid s
  | .routeWrite who devid v => Sys2Proof.Machine.execRouteWrite who devid v s
  | .hbmPartWrite who v => Sys2Proof.Machine.execHbmPartWrite who v s
  | .hbmScrub stack addr result => Sys2Proof.Machine.execHbmScrub stack addr result s
  | .stackOff who stack => Sys2Proof.Machine.execStackOff who stack s
  | .stackOn who stack => Sys2Proof.Machine.execStackOn who stack s
  | .stackOnDone stack => Sys2Proof.Machine.execStackOnDone stack s
  | .hostPerstDeassert link => Sys2Proof.Machine.execHostPerstDeassert link s
  | .hostDlActive link sub rate width flit power => Sys2Proof.Machine.execHostDlActive link sub rate width flit s power
  | .hostTrainTimeout link sub => Sys2Proof.Machine.execHostTrainTimeout link sub s
  | .hotReset link sub => Sys2Proof.Machine.execHotReset link sub s
  | .hostDlDown link sub => Sys2Proof.Machine.execHostDlDown link sub s
  | .hostPerstAssert link => Sys2Proof.Machine.execHostPerstAssert link s
  | .configRequest fi op => Sys2Proof.Machine.execConfigRequest fi op s
  | .barRequest r => Sys2Proof.Machine.execBarRequest r s
  | .completionRx link tag status => Sys2Proof.Machine.execCompletionRx link tag status s
  | .completionTimeout link tag => Sys2Proof.Machine.execCompletionTimeout link tag s
  | .tagRelease link tag => Sys2Proof.Machine.execTagRelease link tag s
  | .bmeClear fi => Sys2Proof.Machine.execBmeClear fi s
  | .flr fi => Sys2Proof.Machine.execFlr fi s
  | .functionResetDone fi => Sys2Proof.Machine.execFunctionResetDone fi s
  | .msixUnmask fi vec => Sys2Proof.Machine.execMsixUnmask fi vec s
  | .driveEn who slot => Sys2Proof.Machine.execDriveEn who slot s
  | .driveDlActive slot rate width => Sys2Proof.Machine.execDriveDlActive slot rate width s
  | .driveTrainTimeout slot => Sys2Proof.Machine.execDriveTrainTimeout slot s
  | .driveEnum slot id => Sys2Proof.Machine.execDriveEnum slot id s
  | .driveEnumTimeout slot => Sys2Proof.Machine.execDriveEnumTimeout slot s
  | .driveError slot => Sys2Proof.Machine.execDriveError slot s
  | .surpriseDown slot => Sys2Proof.Machine.execSurpriseDown slot s
  | .driveRelease who slot => Sys2Proof.Machine.execDriveRelease who slot s
  | .driveRequest slot req => Sys2Proof.Machine.execDriveRequest slot req s
  | .mmioTimeout slot => Sys2Proof.Machine.execMmioTimeout slot s
  | .fnRecWrite who fi word v => Sys2Proof.Machine.execFnRecWrite who fi word v s
  | .vfEnable pf => Sys2Proof.Machine.execVfEnable pf s
  | .vfDisable pf => Sys2Proof.Machine.execVfDisable pf s
  | .functionDestroyDone fi => Sys2Proof.Machine.execFunctionDestroyDone fi s
  | .dlogEnable who slot v => Sys2Proof.Machine.execDlogEnable who slot v s
  | .harvest who slot => Sys2Proof.Machine.execHarvest who slot s
  | .harvestDone slot => Sys2Proof.Machine.execHarvestDone slot s
  | .bitmapFlush slot => Sys2Proof.Machine.execBitmapFlush slot s
  | .doorbell who ring v => Sys2Proof.Machine.execDoorbell who ring v s
  | .ringEnable who ring => Sys2Proof.Machine.execRingEnable who ring s
  | .ringStop who ring => Sys2Proof.Machine.execRingStop who ring s
  | .ringResume who ring => Sys2Proof.Machine.execRingResume who ring s
  | .ringReset who ring => Sys2Proof.Machine.execRingReset who ring s
  | .ringInvalidate who ring => Sys2Proof.Machine.execRingInvalidate who ring s
  | .ringStopped ring => Sys2Proof.Machine.execRingStopped ring s
  | .descFetch ring ok entries => Sys2Proof.Machine.execDescFetch ring ok entries s
  | .descDispatch ring => Sys2Proof.Machine.execDescDispatch ring s
  | .nopDesc ring => Sys2Proof.Machine.execNopDesc ring s
  | .fence ring => Sys2Proof.Machine.execFence ring s
  | .string ring => Sys2Proof.Machine.execString ring s
  | .stringTimeout ring => Sys2Proof.Machine.execStringTimeout ring s
  | .rxBuf ring => Sys2Proof.Machine.execRxBuf ring s
  | .send ring ok data => Sys2Proof.Machine.execSend ring ok data s
  | .descComplete ring pos result info => Sys2Proof.Machine.execDescComplete ring pos result info s
  | .headTimeExpiry ring => Sys2Proof.Machine.execHeadTimeExpiry ring s
  | .eventRecordPlace ring => Sys2Proof.Machine.execEventRecordPlace ring s
  | .holdLimitExpiry ring => Sys2Proof.Machine.execHoldLimitExpiry ring s
  | .rxFrameDeliver port => Sys2Proof.Machine.execRxFrameDeliver port s
  | .microword sq ctx o => Sys2Proof.Machine.execMicroword sq ctx o s
  | .sqWatchdog sq ctx => Sys2Proof.Machine.execSqWatchdog sq ctx s
  | .contextTimer sq ctx => Sys2Proof.Machine.execContextTimer sq ctx s
  | .sqRelease who v => Sys2Proof.Machine.execSqRelease who v s
  | .sqInitDone sq err => Sys2Proof.Machine.execSqInitDone sq err s
  | .sqOffline who sq => Sys2Proof.Machine.execSqOffline who sq s
  | .sqOnline who sq => Sys2Proof.Machine.execSqOnline who sq s
  | .sqDrained sq => Sys2Proof.Machine.execSqDrained sq s
  | .ucodeLoad who pages => Sys2Proof.Machine.execUcodeLoad who pages s
  | .ucodeQuiesced bad => Sys2Proof.Machine.execUcodeQuiesced bad s
  | .ucodeDrainTimeout => Sys2Proof.Machine.execUcodeDrainTimeout s
  | .rmaWrite ring ok data => Sys2Proof.Machine.execRmaWrite ring ok data s
  | .rmaRead ring => Sys2Proof.Machine.execRmaRead ring s
  | .winSet ring => Sys2Proof.Machine.execWinSet ring s
  | .winRevoke ring => Sys2Proof.Machine.execWinRevoke ring s
  | .revokeDrained window => Sys2Proof.Machine.execRevokeDrained window s
  | .writePktRx port back => Sys2Proof.Machine.execWritePktRx port back s
  | .readReqRx port ok data back => Sys2Proof.Machine.execReadReqRx port ok data back s
  | .readRespRx port => Sys2Proof.Machine.execReadRespRx port s
  | .ackRx port => Sys2Proof.Machine.execAckRx port s
  | .rtoExpiry msg pkt => Sys2Proof.Machine.execRtoExpiry msg pkt s
  | .packetDeadline msg pkt => Sys2Proof.Machine.execPacketDeadline msg pkt s
  | .rateIncrease peer => Sys2Proof.Machine.execRateIncrease peer s
  | .peerWaitTimeout ring => Sys2Proof.Machine.execPeerWaitTimeout ring s
  | .epEnable who ep v => Sys2Proof.Machine.execEpEnable who ep v s
  | .epDisable who ep v => Sys2Proof.Machine.execEpDisable who ep v s
  | .epHoldoffExpiry ep => Sys2Proof.Machine.execEpHoldoffExpiry ep s
  | .connect who conn => Sys2Proof.Machine.execConnect who conn s
  | .connReset who conn => Sys2Proof.Machine.execConnReset who conn s
  | .nsConfigWrite who handle word v => Sys2Proof.Machine.execNsConfigWrite who handle word v s
  | .nsDisable who handle => Sys2Proof.Machine.execNsDisable who handle s
  | .nsDiscard handle who => Sys2Proof.Machine.execNsDiscard handle s who
  | .nvmFlush ring => Sys2Proof.Machine.execNvmFlush ring s
  | .nvmWrite ring ok data back => Sys2Proof.Machine.execNvmWrite ring ok data back s
  | .nvmRead ring ok data back => Sys2Proof.Machine.execNvmRead ring ok data back s
  | .writeZeroes ring back => Sys2Proof.Machine.execWriteZeroes ring back s
  | .datasetManagement ring ok data => Sys2Proof.Machine.execDatasetManagement ring ok data s
  | .orderedWrite ring ok data back => Sys2Proof.Machine.execOrderedWrite ring ok data back s
  | .identify ring => Sys2Proof.Machine.execIdentify ring s
  | .getLogPage ring => Sys2Proof.Machine.execGetLogPage ring s
  | .setFeatures ring ok data => Sys2Proof.Machine.execSetFeatures ring ok data s
  | .getFeatures ring => Sys2Proof.Machine.execGetFeatures ring s
  | .groupAdmit => Sys2Proof.Machine.execGroupAdmit s
  | .groupCertify => Sys2Proof.Machine.execGroupCertify s
  | .certWaitWarn => Sys2Proof.Machine.execCertWaitWarn s
  | .destageIssue => Sys2Proof.Machine.execDestageIssue s
  | .destageDone index result => Sys2Proof.Machine.execDestageDone index result s
  | .drvTimeout index => Sys2Proof.Machine.execDrvTimeout index s
  | .drvAbortTimeout slot => Sys2Proof.Machine.execDrvAbortTimeout slot s
  | .apstIdle fi => Sys2Proof.Machine.execApstIdle fi s
  | .keyLoad ring ok data => Sys2Proof.Machine.execKeyLoad ring ok data s
  | .keyErase ring => Sys2Proof.Machine.execKeyErase ring s
  | .keyChangeDone slot => Sys2Proof.Machine.execKeyChangeDone slot s
  | .ciphJob ring ok data => Sys2Proof.Machine.execCiphJob ring ok data s
  | .ciphJobDone lane fault => Sys2Proof.Machine.execCiphJobDone lane fault s
  | .supplySample vin bank iin => Sys2Proof.Machine.execSupplySample vin bank iin s
  | .backstop => Sys2Proof.Machine.execBackstop s
  | .backstopRelease => Sys2Proof.Machine.execBackstopRelease s
  | .overcurrent => Sys2Proof.Machine.execOvercurrent s
  | .overvoltage duration => Sys2Proof.Machine.execOvervoltage duration s
  | .overvoltageFault => Sys2Proof.Machine.execOvervoltageFault s
  | .flicker lowest => Sys2Proof.Machine.execFlicker lowest s
  | .captestStart who => Sys2Proof.Machine.execCaptestStart who s
  | .captestTimer => Sys2Proof.Machine.execCaptestTimer s
  | .captestDone v1 v2 energy => Sys2Proof.Machine.execCaptestDone v1 v2 energy s
  | .forceOff who domain => Sys2Proof.Machine.execForceOff who domain s
  | .forceOffRelease who domain => Sys2Proof.Machine.execForceOffRelease who domain s
  | .ledgerMsClose acts => Sys2Proof.Machine.execLedgerMsClose acts s
  | .accountPeriodEnd account => Sys2Proof.Machine.execAccountPeriodEnd account s
  | .plannerRun => Sys2Proof.Machine.execPlannerRun s
  | .ledgerCopy => Sys2Proof.Machine.execLedgerCopy s
  | .energySnap => Sys2Proof.Machine.execEnergySnap s
  | .bootReady who => Sys2Proof.Machine.execBootReady who s
  | .clrDemoteA who => Sys2Proof.Machine.execClrDemoteA who s
  | .clrDemoteB who => Sys2Proof.Machine.execClrDemoteB who s
  | .imgErase who slot => Sys2Proof.Machine.execImgErase who slot s
  | .imgWrite who slot pages => Sys2Proof.Machine.execImgWrite who slot pages s
  | .imgCommit who slot => Sys2Proof.Machine.execImgCommit who slot s
  | .writeBcfg who pages => Sys2Proof.Machine.execWriteBcfg who pages s
  | .imgCmdDone flash => Sys2Proof.Machine.execImgCmdDone flash s
  | .floorAdvance upTo => Sys2Proof.Machine.execFloorAdvance upTo s
  | .rootRevoke who v blown => Sys2Proof.Machine.execRootRevoke who v blown s
  | .coreRelease who v => Sys2Proof.Machine.execCoreRelease who v s
  | .sealDerive who v => Sys2Proof.Machine.execSealDerive who v s
  | .attReport who => Sys2Proof.Machine.execAttReport who s
  | .reportDone => Sys2Proof.Machine.execReportDone s
  | .regionResetReq who region => Sys2Proof.Machine.execRegionResetReq who region s
  | .interconnectTimeout region => Sys2Proof.Machine.execInterconnectTimeout region s
  | .pllUnlock region => Sys2Proof.Machine.execPllUnlock region s
  | .wdogKick who v => Sys2Proof.Machine.execWdogKick who v s
  | .supervisorWatchdog => Sys2Proof.Machine.execSupervisorWatchdog s
  | .violationLogInterval cond source => Sys2Proof.Machine.execViolationLogInterval cond source s
  | .flashToken => Sys2Proof.Machine.execFlashToken s
  | .logSelect who v => Sys2Proof.Machine.execLogSelect who v s
  | .tightropeReq who => Sys2Proof.Machine.execTightropeReq who s
  | .tightropeTimer mons trims => Sys2Proof.Machine.execTightropeTimer mons trims s
  | .ageTick => Sys2Proof.Machine.execAgeTick s
  | .calUpdate who core => Sys2Proof.Machine.execCalUpdate who core s
  | .irqHoldoffExpiry source => Sys2Proof.Machine.execIrqHoldoffExpiry source s
  | .pmcOverflow region unit counter after => Sys2Proof.Machine.execPmcOverflow region unit counter after s
  | .ccrSweep who dest regions => Sys2Proof.Machine.execCcrSweep who dest regions s
  | .sweepDone => Sys2Proof.Machine.execSweepDone s
  | .traceEnable who v => Sys2Proof.Machine.execTraceEnable who v s
  | .traceBufferEnd => Sys2Proof.Machine.execTraceBufferEnd s
  | .extest din pins => Sys2Proof.Machine.execExtest din pins s
  | .samplePreload din pins => Sys2Proof.Machine.execSamplePreload din pins s
  | .idcode => Sys2Proof.Machine.execIdcode s
  | .clamp din => Sys2Proof.Machine.execClamp din s
  | .highz din => Sys2Proof.Machine.execHighz din s
  | .dtmcs v => Sys2Proof.Machine.execDtmcs v s
  | .dmi v => Sys2Proof.Machine.execDmi v s
  | .mailbox op => Sys2Proof.Machine.execMailbox op s
  | .bypass din => Sys2Proof.Machine.execBypass din s
  | .debugChallenge who => Sys2Proof.Machine.execDebugChallenge who s
  | .debugOpen who mailbox => Sys2Proof.Machine.execDebugOpen who mailbox s
  | .debugOpenDone => Sys2Proof.Machine.execDebugOpenDone s
  | .debugClose who => Sys2Proof.Machine.execDebugClose who s
  | .challengeExpiry => Sys2Proof.Machine.execChallengeExpiry s
  | .tempSample readings => Sys2Proof.Machine.execTempSample readings s
  | .gpioEdge pin level => Sys2Proof.Machine.execGpioEdge pin level s
  | .auxOverload rail => Sys2Proof.Machine.execAuxOverload rail s
  | .auxRetry rail => Sys2Proof.Machine.execAuxRetry rail s
  | .smbSetAddress addr pec => Sys2Proof.Machine.execSmbSetAddress addr pec s
  | .smbBlockRead pec => Sys2Proof.Machine.execSmbBlockRead pec s
  | .smbAlertResponse => Sys2Proof.Machine.execSmbAlertResponse s
  | .macsecSaInstall region v => Sys2Proof.Machine.execMacsecSaInstall region v s
  | .macsecSaErase region v => Sys2Proof.Machine.execMacsecSaErase region v s
  | .macsecSaDone region => Sys2Proof.Machine.execMacsecSaDone region s
  | .macsecPnThreshold lp an => Sys2Proof.Machine.execMacsecPnThreshold lp an s
  | .lpiEntry lp rx => Sys2Proof.Machine.execLpiEntry lp s rx
  | .lpiExit lp rx => Sys2Proof.Machine.execLpiExit lp s rx
  | .registerWrite writes => Sys2Proof.Machine.execRegisterWrite writes s
  | .calUpdateDone flash => Sys2Proof.Machine.execCalUpdateDone flash s
  | .regionResetDone region => Sys2Proof.Machine.execRegionResetDone region s
  | .supervisorMachineCheck => Sys2Proof.Machine.execSupervisorMachineCheck s
  | .coreMachineCheck => Sys2Proof.Machine.execCoreMachineCheck s
  | .aoUncorrectableError => Sys2Proof.Machine.execAoUncorrectableError s
  | .hbmControllerFault => Sys2Proof.Machine.execHbmControllerFault s
  | .controlStorageError region => Sys2Proof.Machine.execControlStorageError region s
  | .correctableError link => Sys2Proof.Machine.execCorrectableError link s

end Sys2Proof.Machine
end

