-- ==== Sys2Proof/Machine/Step.lean ====
section
/-! DEFINITION. One step: the command at the front of the queue, or, on an empty queue, one tick of the time base. -/

namespace Sys2Proof.Machine

/-- What the time base does when no command waits (R35, R43, R639; log entry 1): the next 0.25 ns while the timing PLL interpolates between two ticks, else the next tick of the always-on clock. -/
def State.idle (s : State) : State :=
  if s.tpll && decide (s.time.phase < 159) then s.interpolate else s.tick.when s.powered (·.pmcTick.progTick.ucodeTick.calTick.trTick)

/-- One step (log entry 1). -/
def step (s : State) : Host.Outcome State Fault Refusal :=
  match s.pending with
  | [] => .next s.idle
  | c :: rest => exec c (s.withPending rest)

/-- The state with the command that a word spells put at the front of its queue; unchanged where the word spells none. -/
def State.withFetchWord (s : State) (nbits w : Nat) : State :=
  match decodeTableWord nbits w with
  | some c => (s.withPending (c :: s.pending))
  | none => s

end Sys2Proof.Machine
end

