-- ==== Sys2Proof/Safety.lean ====
section
/-! DEFINITION. The terms in which statements speak of the model: the canonical form of its memories, a state shown in AO_MODULE_STATE, and what each command may touch. -/

namespace Sys2Proof.Machine

/-- Core memory and the staging area are in the canonical form: addresses strictly rising, no listed byte equal to what an unlisted one reads as (R301, R306). -/
def State.memWf (s : State) : Bool := Map.wf (0 : Byte) s.mem && Map.wf (0 : Byte) s.staging

/-- The module is in state `m`, came from `prev`, for a cause of R27 (R23). -/
abbrev State.shows (s : State) (m prev : ModState) (cause : Nat) : Prop :=
  s.mode = m ∧ s.fld F.AO_MODULE_STATE_PREV = prev.code ∧ s.fld F.AO_MODULE_STATE_CAUSE = cause

/-- What the module sent out between two states: the list of outputs only grows (log entry 3). -/
def State.sent (t s : State) : List Out := t.out.drop s.out.length

/-- The event was raised with this payload on the way from `s` to `t` (R628, R631). -/
def State.raised (t s : State) (e : Nat) (p : List Item) : Bool :=
  (t.sent s).any (fun o => match o with | .event n _ ws => n == e && ws == payloadWords p | _ => false)

/-- The descriptor at position `p` of ring `r` has ended: it is in work no more, and where a function that may form requests owns the ring, at an aligned base, its status word has been written (R335, R375, R380). -/
abbrev State.ended (t s : State) (r p result info : Nat) : Prop :=
  (t.ring r).work.all (fun d => d.pos != p) = true
    ∧ (s.ownerOf r < 2056 → s.masters (s.ownerOf r) = true → s.fld F.HX_RING_BASE_BASE r % 64 = 0 → Out.hostWrite (s.ownerOf r) (s.entryAddr r p + 56) (leBytes 4 (result % 256) ++ leBytes 4 info) ∈ t.sent s)

/-- The posted writes of a transfer for function `fi` have left, cut as R329 says, where it may form requests (R335, R363). -/
abbrev State.wrote (t s : State) (fi a : Nat) (bs : List Byte) : Prop :=
  fi < 2056 → s.masters fi = true → ∀ c ∈ splitReq (bs.length / 64 + 66) a bs.length (128 * 2 ^ min (s.cfg (pfOf fi)).mps 2),
    Out.hostWrite fi c.1 ((bs.drop (c.1 - a)).take c.2) ∈ t.sent s

/-- The components of the state beside its register fields and its queue. -/
inductive Part where
  | powered
  | locks
  | latches
  | log
  | staged
  | out
  | draws
  | traceLost
  | mem
  | staging
  | poison
  | cfgs
  | hosts
  | dlogs
  | rings
  | mac
  | tbl
  | prog
  | fx
  | tm
  | limits
  | faultsDue
  | ciph
  | stor
  | rma
  | time
  | led
  | cal
  | pkg
  | stc
  | sq
  | boot
  | tr
  | dbg
  | tap
  | ccr
  | harts
  | request
  | faultTimes
  | resetTimes
  | lateFaults
  deriving DecidableEq, Repr

/-- A component is the same in both states. -/
def Part.same (p : Part) (s t : State) : Prop :=
  match p with
  | .powered => t.powered = s.powered
  | .locks => t.locks = s.locks
  | .latches => t.latches = s.latches
  | .log => t.log = s.log
  | .staged => t.staged = s.staged
  | .out => t.out = s.out
  | .draws => t.draws = s.draws
  | .traceLost => t.traceLost = s.traceLost
  | .mem => t.mem = s.mem
  | .staging => t.staging = s.staging
  | .poison => t.poison = s.poison
  | .cfgs => t.cfgs = s.cfgs
  | .hosts => t.hosts = s.hosts
  | .dlogs => t.dlogs = s.dlogs
  | .rings => t.rings = s.rings
  | .mac => t.mac = s.mac
  | .tbl => t.tbl = s.tbl
  | .prog => t.prog = s.prog
  | .fx => t.fx = s.fx
  | .tm => t.tm = s.tm
  | .limits => t.limits = s.limits
  | .faultsDue => t.faultsDue = s.faultsDue
  | .ciph => t.ciph = s.ciph
  | .stor => t.stor = s.stor
  | .rma => t.rma = s.rma
  | .time => t.time = s.time
  | .led => t.led = s.led
  | .cal => t.cal = s.cal
  | .pkg => t.pkg = s.pkg
  | .stc => t.stc = s.stc
  | .sq => t.sq = s.sq
  | .boot => t.boot = s.boot
  | .tr => t.tr = s.tr
  | .dbg => t.dbg = s.dbg
  | .tap => t.tap = s.tap
  | .ccr => t.ccr = s.ccr
  | .harts => t.harts = s.harts
  | .request => t.request = s.request
  | .faultTimes => t.faultTimes = s.faultTimes
  | .resetTimes => t.resetTimes = s.resetTimes
  | .lateFaults => t.lateFaults = s.lateFaults

/-- Every component outside a list, and the queue, is unchanged. -/
def State.samePartsBut (s t : State) (ps : List Part) : Prop := (∀ p : Part, p ∉ ps → p.same s t) ∧ t.pending = s.pending

/-- Every copy of every register field outside a list is unchanged. -/
def State.sameFldsBut (s t : State) (fs : List Fld) : Prop := ∀ (f : Fld) (i : Nat), f.id ∉ fs.map (·.id) → t.fld f i = s.fld f i

/-! ### What a command may touch -/

/-- The fields that raising an event may change: its counts, its interrupt and trace, and the wake of the cluster or stack that these reach (R58, R338, R629, R632, R645). -/
def eventFlds : List Fld := [F.AO_EVT_ROUTE_COUNT, F.AO_EVT_ROUTE_PENDING, F.AO_PD_CTRL_BLOCKED, F.AO_WAKE_STATUS_POWER, F.AO_WAKE_STATUS_WAKES, F.CX_DBG_TRACE_LOST, F.CX_DBG_TRACE_WPTR, F.HX_FNV_PBA_PBA, F.MX_HBM_STACK_CTRL_STATE]

/-- The fields that a log entry may change (R607, R623). -/
def logFlds : List Fld := [F.AO_FLT_LOG_NEWEST_NEWEST, F.AO_FLT_LOG_STAT_COUNT]

/-- What sealDerive may write besides. -/
def flds1 : List Fld := [
  F.AO_ATT_STATUS_SEAL_RESULT, F.HX_CIPH_SLOT_DEC, F.HX_CIPH_SLOT_ENC, F.HX_CIPH_SLOT_KLEN, F.HX_CIPH_SLOT_LOADED, F.HX_CIPH_SLOT_MODE]

/-- What dlogEnable may write besides. -/
def flds2 : List Fld := [
  F.AO_FLT_REGION_FENCED, F.HX_FN_DLOG_ACTIVE, F.HX_FN_DLOG_BUSY, F.HX_FN_DLOG_EN, F.HX_FN_DLOG_ERR, F.HX_FN_DLOG_FUNC]

/-- What meterCommit may write besides. -/
def flds3 : List Fld := [
  F.AO_FLT_REGION_FENCED, F.PA_MTR_CFG_CBS, F.PA_MTR_CFG_CIR, F.PA_MTR_CFG_EN, F.PA_MTR_CFG_PBS, F.PA_MTR_CFG_PIR]

/-- What admissionEnqueue may write besides. -/
def flds4 : List Fld := [
  F.FX_ADM_GSTAT_COUNT, F.FX_ADM_QSTAT_COUNT, F.FX_BUF_BG_STATUS_DRAINING, F.FX_BUF_BG_STATUS_POWER, F.FX_BUF_BG_STATUS_USED, F.FX_STC_STAT_COUNT]

/-- What engineCommit may write besides. -/
def flds5 : List Fld := [
  F.FX_TBE_RESULT_BUSY, F.FX_TBE_RESULT_CODE, F.FX_TBE_RESULT_SEQ, F.FX_TBE_STAGE_WORD, F.FX_TBE_TBL_STAT2_COUNT, F.FX_TBE_TBL_STAT_COUNT]

/-- What datasetManagement, identify may write besides. -/
def flds6 : List Fld := [
  F.HX_CIPH_STAT_COUNT, F.HX_FN_VIOL_COUNT, F.HX_RING_CCOUNT_CCOUNT, F.HX_SQ_STATUS_STATE, F.HX_STOR_FN_PS_PS, F.HX_STOR_STAT_COUNT]

/-- What hostPerstDeassert, hostDlActive may write besides. -/
def flds7 : List Fld := [
  F.HX_PCIE_LINK_STATUS_DOWNS, F.HX_PCIE_LINK_STATUS_FLIT, F.HX_PCIE_LINK_STATUS_POWER, F.HX_PCIE_LINK_STATUS_RATE, F.HX_PCIE_LINK_STATUS_STATE,
  F.HX_PCIE_LINK_STATUS_WIDTH]

/-- What completionRx, completionTimeout may write besides. -/
def flds8 : List Fld := [
  F.HX_PCIE_STAT_COUNT, F.HX_RING_CCOUNT_CCOUNT, F.HX_RING_DBERR_DB_EARLY, F.HX_RING_STATUS_CAUSE, F.HX_RING_STATUS_STATE, F.HX_SQ_STATUS_STATE]

/-- What setFeatures may write besides. -/
def flds9 : List Fld := [
  F.HX_RING_CCOUNT_CCOUNT, F.HX_SQ_STATUS_STATE, F.HX_STOR_FN_PS_APST_EN, F.HX_STOR_FN_PS_PS, F.HX_STOR_FN_PS_WCE, F.HX_STOR_STAT_COUNT]

/-- What coreRelease may write besides. -/
def flds10 : List Fld := [
  F.AO_FLT_REGION_FENCED, F.CX_CORE_RELEASE_REL, F.FX_BUF_BG_STATUS_POWER, F.HX_FN_REC_COMMITTED, F.HX_FN_REC_ERR, F.HX_FN_REC_ERR_CODE, F.HX_FN_VIOL_COUNT]

/-- What qcfgWrite may write besides. -/
def flds11 : List Fld := [
  F.AO_FLT_REGION_FENCED, F.FX_ADM_QCFG_CT_EN, F.FX_ADM_QCFG_ECN_EN, F.FX_ADM_QCFG_ECN_HI, F.FX_ADM_QCFG_ECN_LO, F.FX_ADM_QCFG_K, F.FX_ADM_QCFG_MIN]

/-- What sampleGroupCommit may write besides. -/
def flds12 : List Fld := [
  F.AO_FLT_REGION_FENCED, F.FX_TM_QDEPTH_SAMPLE_BASE_QI, F.FX_TM_QDEPTH_SAMPLE_COUNT, F.FX_TM_QDEPTH_SAMPLE_EN, F.FX_TM_QDEPTH_SAMPLE_PERIOD, F.FX_TM_QDEPTH_SAMPLE_RING,
  F.FX_TM_QDEPTH_SAMPLE_STRIDE]

/-- What ledgerMsClose may write besides. -/
def flds13 : List Fld := [
  F.AO_LED_EA_LAST_CAUSE, F.AO_LED_EA_OVERRUN, F.AO_LED_EA_OVER_BUDGET, F.AO_LED_EA_OVER_CEIL, F.AO_LED_EA_TOTAL, F.AO_LED_EA_USED, F.AO_LED_STATUS_MODEL_DRIFT]

/-- What captestStart, captestTimer may write besides. -/
def flds14 : List Fld := [
  F.AO_LED_STATUS_CERT_BASIS, F.AO_LED_STATUS_CERT_HOLD, F.AO_LED_STATUS_CERT_LIMIT, F.AO_SUP_CAPTEST_RESULT, F.AO_SUP_STATUS_ISO, F.AO_SUP_STATUS_TESTING,
  F.AO_SUP_STAT_COUNT]

/-- What qdepthSample may write besides. -/
def flds15 : List Fld := [
  F.FX_TM_GSTAT_COUNT, F.FX_TM_QDEPTH_SAMPLE_BASE_QI, F.FX_TM_QDEPTH_SAMPLE_COUNT, F.FX_TM_QDEPTH_SAMPLE_EN, F.FX_TM_QDEPTH_SAMPLE_PERIOD, F.FX_TM_QDEPTH_SAMPLE_RING,
  F.FX_TM_QDEPTH_SAMPLE_STRIDE]

/-- What functionDestroyDone may write besides. -/
def flds16 : List Fld := [
  F.HX_FNV_MSIX_ADDR, F.HX_FNV_MSIX_DATA, F.HX_FNV_MSIX_MASK, F.HX_FN_REC_COMMITTED, F.HX_FN_REC_ERR, F.HX_FN_REC_ERR_CODE, F.HX_FN_VIOL_COUNT]

/-- What drvAbortTimeout may write besides. -/
def flds17 : List Fld := [
  F.AO_LED_STATUS_CERT_HOLD, F.AO_LED_STATUS_DIRTY_REQ, F.HX_STOR_NS_STATE, F.HX_STOR_STATUS_CERT_BLOCKS, F.HX_STOR_STATUS_CERT_STOP, F.HX_STOR_STATUS_HELD,
  F.HX_STOR_STATUS_UNCERT_BLOCKS, F.HX_STOR_STATUS_VB_BLOCKS]

/-- What gateListSwap may write besides. -/
def flds18 : List Fld := [
  F.FX_BUF_BG_STATUS_POWER, F.FX_TM_GATE_CFG_ENTRY_NOW, F.FX_TM_GATE_CFG_GATES_NOW, F.FX_TM_GATE_CFG_OPER_BANK, F.FX_TM_GATE_CFG_OPER_CHANGE_TIME,
  F.FX_TM_GATE_CFG_OPER_EN, F.FX_TM_GATE_CFG_OTHERS_CLOSED, F.FX_TM_GATE_CFG_PEND]

/-- What keyErase may write besides. -/
def flds19 : List Fld := [
  F.HX_CIPH_SLOT_DEC, F.HX_CIPH_SLOT_ENC, F.HX_CIPH_SLOT_KLEN, F.HX_CIPH_SLOT_LOADED, F.HX_CIPH_SLOT_MODE, F.HX_FN_VIOL_COUNT, F.HX_RING_CCOUNT_CCOUNT,
  F.HX_SQ_STATUS_STATE]

/-- What groupAdmit may write besides. -/
def flds20 : List Fld := [
  F.AO_LED_STATUS_CERT_HOLD, F.AO_LED_STATUS_DIRTY_REQ, F.HX_RING_CCOUNT_CCOUNT, F.HX_SQ_STATUS_STATE, F.HX_STOR_STATUS_CERT_BLOCKS, F.HX_STOR_STATUS_CERT_STOP,
  F.HX_STOR_STATUS_HELD, F.HX_STOR_STATUS_UNCERT_BLOCKS, F.HX_STOR_STATUS_VB_BLOCKS]

/-- What drvTimeout may write besides. -/
def flds21 : List Fld := flds17 ++ [
  F.HX_STOR_STAT_COUNT]

/-- What send may write besides. -/
def flds22 : List Fld := flds4 ++ [
  F.HX_FN_VIOL_COUNT, F.HX_RING_CCOUNT_CCOUNT, F.HX_SQ_STATUS_STATE]

/-- What helloRx may write besides. -/
def flds23 : List Fld := [
  F.FX_STC_ROUTE_ACTIVE, F.FX_STC_ROUTE_REJOIN_PEND, F.FX_STC_STAT_COUNT, F.FX_TBE_TBL_STAT_COUNT, F.PD_STC_CTRL_MASTER, F.PD_STC_CTRL_TIME_STATE,
  F.PD_STC_LINK_NB_BOOT_ID, F.PD_STC_LINK_NB_DEVID, F.PD_STC_LINK_STATE]

/-- What keyLoad may write besides. -/
def flds24 : List Fld := flds19 ++ [
  F.HX_CIPH_STAT_COUNT]

/-- What calUpdateDone may write besides. -/
def flds25 : List Fld := [
  F.AO_CAL_STATUS_CAL_PENDING, F.AO_CAL_STATUS_CAL_SEQ, F.AO_CAL_STATUS_NO_CAL, F.AO_CAL_STATUS_RESULT, F.AO_CAL_STATUS_STATE, F.AO_SUP_CAP_C_USED, F.AO_TR_AGE_AGE_EQ_H,
  F.AO_TR_REGION_BASELINE_RESET, F.AO_TR_REGION_VALID, F.PA_SERDES_LANE_EQ_PRESET]

/-- What captestDone may write besides. -/
def flds26 : List Fld := flds14 ++ [
  F.AO_SUP_CAP_C_USED, F.AO_SUP_STATUS_BANK_LOW, F.AO_SUP_STATUS_CAP_SRC]

/-- What winRevoke may write besides. -/
def flds27 : List Fld := flds20 ++ [
  F.HX_FN_VIOL_COUNT]

/-- What tightropeTimer may write besides. -/
def flds28 : List Fld := [
  F.AO_TR_CFG_RUNNING, F.AO_TR_MON_D, F.AO_TR_MON_SLACK, F.AO_TR_REGION_CEIL, F.AO_TR_REGION_END_OF_LIFE, F.AO_TR_REGION_MARGIN, F.AO_TR_REGION_REMAIN_MONTHS,
  F.AO_TR_REGION_TRIM, F.AO_TR_REGION_VALID, F.AO_TR_REGION_WORST_DD]

/-- What connect may write besides. -/
def flds29 : List Fld := flds17 ++ [
  F.AO_FLT_REGION_FENCED, F.HX_RMA_CONN_STATE, F.HX_STOR_NS_FAIL_CODE]

/-- What driveDlActive may write besides. -/
def flds30 : List Fld := flds17 ++ [
  F.HX_RP_SUBLINK_STATUS_RATE, F.HX_RP_SUBLINK_STATUS_STATE, F.HX_RP_SUBLINK_STATUS_WIDTH]

/-- What alarmZeroise, ciphJobDone may write besides. -/
def flds31 : List Fld := [
  F.HX_CIPH_SLOT_DEC, F.HX_CIPH_SLOT_ENC, F.HX_CIPH_SLOT_KLEN, F.HX_CIPH_SLOT_LOADED, F.HX_CIPH_SLOT_MODE, F.HX_CIPH_STAT_COUNT, F.HX_CIPH_ZSTATUS_CAUSE,
  F.HX_CIPH_ZSTATUS_COUNT, F.HX_CIPH_ZTS_ZTS, F.HX_RING_CCOUNT_CCOUNT, F.HX_SQ_STATUS_STATE]

/-- What debugOpenDone may write besides. -/
def flds32 : List Fld := [
  F.AO_DBG_STATUS_DEBUG_SINCE_BOOT, F.AO_DBG_STATUS_RESULT, F.AO_DBG_STATUS_SCOPE, F.AO_DBG_STATUS_STATE, F.AO_DBG_STATUS_SUPV_LOCK, F.HX_CIPH_SLOT_DEC,
  F.HX_CIPH_SLOT_ENC, F.HX_CIPH_SLOT_KLEN, F.HX_CIPH_SLOT_LOADED, F.HX_CIPH_SLOT_MODE, F.HX_RING_CCOUNT_CCOUNT, F.HX_SQ_STATUS_STATE]

/-- What driveEnumTimeout, driveError, surpriseDown, mmioTimeout may write besides. -/
def flds33 : List Fld := flds30 ++ [
  F.HX_RP_STAT_COUNT]

/-- What alignLock may write besides. -/
def flds34 : List Fld := [
  F.FX_STC_ROUTE_ACTIVE, F.FX_STC_ROUTE_REJOIN_PEND, F.PA_MAC_CNT_COUNT, F.PA_MAC_LINK_STATUS_FLAPS, F.PA_MAC_LINK_STATUS_LOCAL_FAULT, F.PA_MAC_LINK_STATUS_RX_LPI,
  F.PA_MAC_LINK_STATUS_STATE, F.PA_MAC_LINK_STATUS_TX_LPI, F.PA_SERDES_LANE_EQ_RX_EYE, F.PD_STC_CTRL_MASTER, F.PD_STC_CTRL_TIME_STATE, F.PD_STC_LINK_STATE]

/-- What remoteFaultRx, remoteFaultClear may write besides. -/
def flds35 : List Fld := [
  F.FX_STC_ROUTE_ACTIVE, F.FX_STC_ROUTE_REJOIN_PEND, F.PA_MAC_CNT_COUNT, F.PA_MAC_LINK_STATUS_FLAPS, F.PA_MAC_LINK_STATUS_REMOTE_FAULT, F.PA_MAC_LINK_STATUS_RX_LPI,
  F.PA_MAC_LINK_STATUS_STATE, F.PA_MAC_LINK_STATUS_TX_LPI, F.PA_SERDES_LANE_EQ_RX_EYE, F.PD_STC_CTRL_MASTER, F.PD_STC_CTRL_TIME_STATE, F.PD_STC_LINK_STATE]

/-- What trainingDone may write besides. -/
def flds36 : List Fld := [
  F.FX_STC_ROUTE_ACTIVE, F.FX_STC_ROUTE_REJOIN_PEND, F.PA_MAC_CNT_COUNT, F.PA_MAC_LINK_STATUS_FLAPS, F.PA_MAC_LINK_STATUS_RX_LPI, F.PA_MAC_LINK_STATUS_STATE,
  F.PA_MAC_LINK_STATUS_TX_LPI, F.PA_SERDES_LANE_EQ_RX_EYE, F.PA_SERDES_LANE_EQ_TX_TAPS_IDX, F.PD_STC_CTRL_MASTER, F.PD_STC_CTRL_TIME_STATE, F.PD_STC_LINK_STATE]

/-- What nsDiscard may write besides. -/
def flds37 : List Fld := flds20 ++ [
  F.AO_FLT_REGION_FENCED, F.HX_STOR_NS_FAIL_CODE, F.HX_STOR_NS_STATE, F.HX_STOR_STAT_COUNT]

/-- What driveEn, driveRelease may write besides. -/
def flds38 : List Fld := flds30 ++ [
  F.AO_FLT_REGION_FENCED, F.HX_RP_SUBLINK_CTRL_EN]

/-- What nvmFlush may write besides. -/
def flds39 : List Fld := flds27 ++ [
  F.HX_CIPH_STAT_COUNT, F.HX_STOR_FN_PS_PS, F.HX_STOR_STAT_COUNT]

/-- What driveEnum may write besides. -/
def flds40 : List Fld := flds33 ++ [
  F.HX_STOR_NS_FAIL_CODE]

/-- What anResolved, anFail, alignTimeout may write besides. -/
def flds41 : List Fld := [
  F.FX_STC_ROUTE_ACTIVE, F.FX_STC_ROUTE_REJOIN_PEND, F.PA_MAC_CNT_COUNT, F.PA_MAC_LINK_STATUS_FEC_RES, F.PA_MAC_LINK_STATUS_FLAPS, F.PA_MAC_LINK_STATUS_RX_LPI,
  F.PA_MAC_LINK_STATUS_SPEED_RES, F.PA_MAC_LINK_STATUS_STATE, F.PA_MAC_LINK_STATUS_TX_LPI, F.PA_SERDES_LANE_EQ_RX_EYE, F.PD_STC_CTRL_MASTER, F.PD_STC_CTRL_TIME_STATE,
  F.PD_STC_LINK_STATE]

/-- What linkLoss may write besides. -/
def flds42 : List Fld := flds34 ++ [
  F.PA_MAC_LINK_STATUS_REMOTE_FAULT]

/-- What fnRecWrite may write besides. -/
def flds43 : List Fld := [
  F.AO_FLT_REGION_FENCED, F.HX_FN_REC_CLASS_MASK, F.HX_FN_REC_EA, F.HX_FN_REC_HVP, F.HX_FN_REC_KEY_BASE, F.HX_FN_REC_KEY_COUNT, F.HX_FN_REC_NS_BASE, F.HX_FN_REC_NS_COUNT,
  F.HX_FN_REC_RING_BASE, F.HX_FN_REC_RING_COUNT, F.HX_FN_REC_VEC_BASE, F.HX_FN_REC_VEC_COUNT, F.HX_FN_REC_WIN_BASE, F.HX_FN_REC_WIN_COUNT]

/-- What trainTimeout may write besides. -/
def flds44 : List Fld := flds41 ++ [
  F.PA_SERDES_LANE_EQ_TX_TAPS_IDX]

/-- What xprofCommit may write besides. -/
def flds45 : List Fld := [
  F.AO_FLT_REGION_FENCED, F.PA_PRS_XPROF_F0, F.PA_PRS_XPROF_F1, F.PA_PRS_XPROF_F2, F.PA_PRS_XPROF_F3, F.PA_PRS_XPROF_F4, F.PA_PRS_XPROF_F5, F.PA_PRS_XPROF_F6,
  F.PA_PRS_XPROF_F7, F.PA_PRS_XPROF_F8, F.PA_PRS_XPROF_F9, F.PA_PRS_XPROF_NFIELDS, F.PA_PRS_XPROF_RING, F.PA_PRS_XPROF_SAMPLE_ID, F.PA_PRS_XPROF_VALID]

/-- What tblCfgWrite may write besides. -/
def flds46 : List Fld := [
  F.AO_FLT_REGION_FENCED, F.FX_TBE_TBL_CFG_AGE_EN, F.FX_TBE_TBL_CFG_AGE_PERIOD, F.FX_TBE_TBL_CFG_EN, F.FX_TBE_TBL_CFG_FULL_PRED, F.FX_TBE_TBL_CFG_FULL_PRED_EN,
  F.FX_TBE_TBL_CFG_KIND, F.FX_TBE_TBL_CFG_KW, F.FX_TBE_TBL_CFG_LEARN_RING, F.FX_TBE_TBL_CFG_LRING_EN, F.FX_TBE_TBL_CFG_NOROOM_HI, F.FX_TBE_TBL_CFG_NOROOM_LO,
  F.FX_TBE_TBL_CFG_ON_EXIST, F.FX_TBE_TBL_CFG_SCOPE, F.FX_TBE_TBL_CFG_SIZE, F.FX_TBE_TBL_CFG_STITCH_SHARE]

/-- What groupCertify may write besides. -/
def flds47 : List Fld := flds20 ++ [
  F.FX_ADM_GSTAT_COUNT, F.FX_ADM_QSTAT_COUNT, F.FX_BUF_BG_STATUS_DRAINING, F.FX_BUF_BG_STATUS_POWER, F.FX_BUF_BG_STATUS_USED, F.FX_STC_STAT_COUNT, F.HX_RMA_STAT_COUNT]

/-- What destageDone may write besides. -/
def flds48 : List Fld := flds47 ++ [
  F.HX_STOR_NS_STATE, F.HX_STOR_STAT_COUNT]

/-- What portCfgWrite may write besides. -/
def flds49 : List Fld := flds41 ++ [
  F.AO_FLT_REGION_FENCED, F.FX_BUF_BG_STATUS_POWER, F.PA_MAC_LINK_STATUS_LOCAL_FAULT, F.PA_MAC_LINK_STATUS_REMOTE_FAULT, F.PA_MAC_PORT_CFG_BREAKOUT,
  F.PA_MAC_PORT_CFG_STITCH]

/-- What connReset may write besides. -/
def flds50 : List Fld := flds37 ++ [
  F.HX_CIPH_SLOT_DEC, F.HX_CIPH_SLOT_ENC, F.HX_CIPH_SLOT_KLEN, F.HX_CIPH_SLOT_LOADED, F.HX_CIPH_SLOT_MODE, F.HX_CIPH_STAT_COUNT, F.HX_CIPH_ZSTATUS_CAUSE,
  F.HX_CIPH_ZSTATUS_COUNT, F.HX_CIPH_ZTS_ZTS, F.HX_RMA_CONN_STATE]

/-- What nsConfigWrite may write besides. -/
def flds51 : List Fld := flds37 ++ [
  F.HX_STOR_NS_BACKEND, F.HX_STOR_NS_BASE_LBA, F.HX_STOR_NS_BK_ID, F.HX_STOR_NS_CACHE, F.HX_STOR_NS_DRIVE, F.HX_STOR_NS_EN, F.HX_STOR_NS_KEY, F.HX_STOR_NS_LBA4K,
  F.HX_STOR_NS_NLBA, F.HX_STOR_NS_VWC]

/-- What errEstTick may write besides. -/
def flds52 : List Fld := flds31 ++ [
  F.AO_LED_STATUS_CERT_HOLD, F.AO_LED_STATUS_DIRTY_REQ, F.AO_TB_STATUS_ERR_EST, F.HX_RMA_EP_STATE, F.HX_STOR_NS_FAIL_CODE, F.HX_STOR_NS_STATE,
  F.HX_STOR_STATUS_CERT_BLOCKS, F.HX_STOR_STATUS_CERT_STOP, F.HX_STOR_STATUS_HELD, F.HX_STOR_STATUS_UNCERT_BLOCKS, F.HX_STOR_STATUS_VB_BLOCKS, F.HX_STOR_STAT_COUNT]

/-- What subportCfgWrite may write besides. -/
def flds53 : List Fld := flds41 ++ [
  F.AO_FLT_REGION_FENCED, F.FX_BUF_BG_STATUS_POWER, F.PA_MAC_LINK_STATUS_LOCAL_FAULT, F.PA_MAC_LINK_STATUS_REMOTE_FAULT, F.PA_MAC_SUBPORT_CFG_AN_EN,
  F.PA_MAC_SUBPORT_CFG_EN, F.PA_MAC_SUBPORT_CFG_FEC, F.PA_MAC_SUBPORT_CFG_LPI_EN, F.PA_MAC_SUBPORT_CFG_MACSEC_EN, F.PA_MAC_SUBPORT_CFG_MAX_FRAME,
  F.PA_MAC_SUBPORT_CFG_SPEED]

/-- What ptpMessageRx, syncHoldover, holdoverExpired, timeExchange may write besides. -/
def flds54 : List Fld := flds31 ++ [
  F.AO_LED_STATUS_CERT_HOLD, F.AO_LED_STATUS_DIRTY_REQ, F.AO_TB_STATUS_SYNC, F.HX_RMA_EP_STATE, F.HX_STOR_NS_FAIL_CODE, F.HX_STOR_NS_STATE, F.HX_STOR_STATUS_CERT_BLOCKS,
  F.HX_STOR_STATUS_CERT_STOP, F.HX_STOR_STATUS_HELD, F.HX_STOR_STATUS_UNCERT_BLOCKS, F.HX_STOR_STATUS_VB_BLOCKS, F.HX_STOR_STAT_COUNT, F.PD_STC_CTRL_MASTER,
  F.PD_STC_CTRL_TIME_STATE]

/-- What tbSyncSet, syncLocked may write besides. -/
def flds55 : List Fld := flds54 ++ [
  F.AO_TB_STATUS_ERR_EST]

/-- What tbOffsetWrite may write besides. -/
def flds56 : List Fld := flds54 ++ [
  F.AO_TB_STATUS_SLEWING]

/-- What packetDeadline, destageIssue may write besides. -/
def flds57 : List Fld := flds48 ++ [
  F.HX_CIPH_SLOT_DEC, F.HX_CIPH_SLOT_ENC, F.HX_CIPH_SLOT_KLEN, F.HX_CIPH_SLOT_LOADED, F.HX_CIPH_SLOT_MODE, F.HX_CIPH_STAT_COUNT, F.HX_CIPH_ZSTATUS_CAUSE,
  F.HX_CIPH_ZSTATUS_COUNT, F.HX_CIPH_ZTS_ZTS]

/-- What epEnable, epDisable may write besides. -/
def flds58 : List Fld := flds31 ++ [
  F.AO_FLT_REGION_FENCED, F.AO_LED_STATUS_CERT_HOLD, F.AO_LED_STATUS_DIRTY_REQ, F.HX_RMA_EP_CLASS, F.HX_RMA_EP_EN, F.HX_RMA_EP_MAX_RATE, F.HX_RMA_EP_OWNER,
  F.HX_RMA_EP_STATE, F.HX_RMA_EP_TMPL, F.HX_RMA_EP_TX_LP, F.HX_STOR_NS_STATE, F.HX_STOR_STATUS_CERT_BLOCKS, F.HX_STOR_STATUS_CERT_STOP, F.HX_STOR_STATUS_HELD,
  F.HX_STOR_STATUS_UNCERT_BLOCKS, F.HX_STOR_STATUS_VB_BLOCKS, F.HX_STOR_STAT_COUNT]

/-- What timeRx may write besides. -/
def flds59 : List Fld := flds55 ++ [
  F.AO_TB_STATUS_SLEWING, F.FX_STC_STAT_COUNT]

/-- What rmaWrite, rmaRead may write besides. -/
def flds60 : List Fld := flds57 ++ [
  F.HX_FN_VIOL_COUNT]

/-- What tbCtrlWrite may write besides. -/
def flds61 : List Fld := flds54 ++ [
  F.AO_FLT_LOCKVIOL_COUNT, F.AO_TB_CTRL_REF_SEL, F.AO_TB_CTRL_SERVO_EN, F.AO_TB_STATUS_REF_ACTIVE]

/-- What nvmWrite, nvmRead, writeZeroes, orderedWrite may write besides. -/
def flds62 : List Fld := flds60 ++ [
  F.HX_STOR_FN_PS_PS]

/-- What readRespRx, ackRx, rtoExpiry may write besides. -/
def flds63 : List Fld := flds57 ++ [
  F.HX_RMA_CONN_STATE, F.HX_STOR_NS_FAIL_CODE]

/-- What writePktRx, readReqRx may write besides. -/
def flds64 : List Fld := flds63 ++ [
  F.HX_FN_VIOL_COUNT]

/-- What epochFlip may write besides. -/
def flds65 : List Fld := [
  F.AO_PROG_STATUS_STATE, F.PA_LVC_PROG_STATUS_EPOCH, F.PA_LVC_PROG_STATUS_LOADED, F.PA_LVC_PROG_STATUS_OLD_BUSY, F.PA_PRS_HASH_FIELDS_ADDR_A, F.PA_PRS_HASH_FIELDS_ADDR_B,
  F.PA_PRS_HASH_FIELDS_ADDR_N, F.PA_PRS_HASH_FIELDS_EN, F.PA_PRS_HASH_FIELDS_PORTS, F.PA_PRS_HASH_FIELDS_PORT_EN, F.PA_PRS_HASH_HDR_MASK_MASK, F.PA_PRS_HASH_HDR_VAL_VAL,
  F.PA_PRS_HASH_PROTO_PROTO, F.PA_PRS_HASH_PROTO_PROTO_EN, F.PA_PRS_HASH_PROTO_TABLE, F.PA_PRS_HASH_SEED_SEED, F.PA_PRS_START_STATE, F.PA_PRS_ST_ADV_ADV_CONST,
  F.PA_PRS_ST_ADV_ADV_FIELD_EN, F.PA_PRS_ST_ADV_ADV_FIELD_OFF, F.PA_PRS_ST_ADV_ADV_FIELD_W, F.PA_PRS_ST_ADV_ADV_SCALE, F.PA_PRS_ST_CTL_DEFAULT_NEXT,
  F.PA_PRS_ST_CTL_DEF_END, F.PA_PRS_ST_CTL_END, F.PA_PRS_ST_CTL_HDR_BIT, F.PA_PRS_ST_CTL_HDR_EN, F.PA_PRS_ST_CTL_SEL_OFF, F.PA_PRS_ST_CTL_SEL_W, F.PA_PRS_ST_EXT_DST,
  F.PA_PRS_ST_EXT_EN, F.PA_PRS_ST_EXT_MODE, F.PA_PRS_ST_EXT_OFF, F.PA_PRS_ST_EXT_W, F.PA_PRS_ST_TR_MATCH_MASK, F.PA_PRS_ST_TR_MATCH_VALUE, F.PA_PRS_ST_TR_NEXT_END,
  F.PA_PRS_ST_TR_NEXT_NEXT, F.PA_PRS_ST_TR_NEXT_VALID]

/-- What runReady may write besides. -/
def flds66 : List Fld := flds41 ++ [
  F.AO_CAL_STATUS_RESULT, F.AO_CAL_STATUS_STATE, F.AO_DBG_STATUS_SCOPE, F.AO_FLT_REGION_RESETTING, F.AO_LED_STATUS_CERT_BASIS, F.AO_LED_STATUS_CERT_HOLD,
  F.AO_LED_STATUS_CERT_LIMIT, F.AO_MODULE_STATE_CAUSE, F.AO_MODULE_STATE_PENDING, F.AO_MODULE_STATE_PREV, F.AO_MODULE_STATE_STATE, F.AO_MODULE_STATE_TRANSITIONS,
  F.AO_MODULE_STATE_TS_TS, F.AO_PROG_STATUS_LGEN, F.AO_PROG_STATUS_RESULT, F.AO_PROG_STATUS_STATE, F.AO_SUP_CAPTEST_RESULT, F.AO_SUP_STATUS_ALARM, F.AO_SUP_STATUS_ISO,
  F.AO_SUP_STATUS_TESTING, F.AO_SUP_STAT_COUNT, F.AO_TR_CFG_RUNNING, F.AO_UCODE_STATUS_RESULT, F.AO_UCODE_STATUS_STATE, F.HX_FN_REC_COMMITTED, F.HX_FN_REC_ERR,
  F.HX_FN_REC_ERR_CODE, F.HX_FN_VIOL_COUNT, F.HX_PCIE_LINK_STATUS_DOWNS, F.HX_PCIE_LINK_STATUS_FLIT, F.HX_PCIE_LINK_STATUS_POWER, F.HX_PCIE_LINK_STATUS_RATE,
  F.HX_PCIE_LINK_STATUS_STATE, F.HX_PCIE_LINK_STATUS_WIDTH, F.HX_SQ_PMATCH_PATCH_ADDR, F.HX_SQ_PMATCH_ROM_ADDR, F.HX_SQ_PMATCH_VALID, F.HX_SQ_UCODE_VERSION_NMATCH,
  F.HX_SQ_UCODE_VERSION_PATCH_LEVEL]

/-- What functionResetDone may write besides. -/
def flds67 : List Fld := flds31 ++ [
  F.AO_LED_STATUS_CERT_HOLD, F.AO_LED_STATUS_DIRTY_REQ, F.HX_FNV_MSIX_ADDR, F.HX_FNV_MSIX_DATA, F.HX_FNV_MSIX_MASK, F.HX_FN_DLOG_ACTIVE, F.HX_FN_DLOG_BUSY,
  F.HX_FN_DLOG_EN, F.HX_PCIE_STAT_COUNT, F.HX_RING_AUX_BUF_SIZE, F.HX_RING_AUX_HOLD_LIMIT, F.HX_RING_AUX_PREFETCH, F.HX_RING_BASE_BASE, F.HX_RING_CFG_HEAD_MOD,
  F.HX_RING_CFG_HEAD_TIME, F.HX_RING_CFG_IRQ_EN, F.HX_RING_CFG_KIND, F.HX_RING_CFG_POLICY, F.HX_RING_CFG_SIZE, F.HX_RING_CFG_VEC, F.HX_RING_DBERR_DB_BAD,
  F.HX_RING_DBERR_DB_EARLY, F.HX_RING_DISP_D, F.HX_RING_DISP_VALID, F.HX_RING_HEAD_ADDR_HEAD_ADDR, F.HX_RING_LOST_LOST, F.HX_RING_STATUS_CAUSE, F.HX_RING_STATUS_STATE,
  F.HX_RMA_CONN_STATE, F.HX_RMA_EP_EN, F.HX_RMA_EP_STATE, F.HX_STOR_FN_PS_APST_EN, F.HX_STOR_FN_PS_PS, F.HX_STOR_FN_PS_WCE, F.HX_STOR_NS_EN, F.HX_STOR_NS_FAIL_CODE,
  F.HX_STOR_NS_STATE, F.HX_STOR_STATUS_CERT_BLOCKS, F.HX_STOR_STATUS_CERT_STOP, F.HX_STOR_STATUS_HELD, F.HX_STOR_STATUS_UNCERT_BLOCKS, F.HX_STOR_STATUS_VB_BLOCKS,
  F.HX_STOR_STAT_COUNT]

/-- What configRequest, bmeClear, flr, vfEnable, vfDisable may write besides. -/
def flds68 : List Fld := flds39 ++ [
  F.HX_CIPH_SLOT_DEC, F.HX_CIPH_SLOT_ENC, F.HX_CIPH_SLOT_KLEN, F.HX_CIPH_SLOT_LOADED, F.HX_CIPH_SLOT_MODE, F.HX_CIPH_ZSTATUS_CAUSE, F.HX_CIPH_ZSTATUS_COUNT,
  F.HX_CIPH_ZTS_ZTS, F.HX_FNV_MSIX_ADDR, F.HX_FNV_MSIX_DATA, F.HX_FNV_MSIX_MASK, F.HX_FN_DLOG_ACTIVE, F.HX_FN_DLOG_BUSY, F.HX_FN_DLOG_EN, F.HX_FN_REC_COMMITTED,
  F.HX_FN_REC_ERR, F.HX_FN_REC_ERR_CODE, F.HX_RING_AUX_BUF_SIZE, F.HX_RING_AUX_HOLD_LIMIT, F.HX_RING_AUX_PREFETCH, F.HX_RING_BASE_BASE, F.HX_RING_CFG_HEAD_MOD,
  F.HX_RING_CFG_HEAD_TIME, F.HX_RING_CFG_IRQ_EN, F.HX_RING_CFG_KIND, F.HX_RING_CFG_POLICY, F.HX_RING_CFG_SIZE, F.HX_RING_CFG_VEC, F.HX_RING_DBERR_DB_BAD,
  F.HX_RING_DBERR_DB_EARLY, F.HX_RING_DISP_D, F.HX_RING_DISP_VALID, F.HX_RING_HEAD_ADDR_HEAD_ADDR, F.HX_RING_LOST_LOST, F.HX_RING_STATUS_CAUSE, F.HX_RING_STATUS_STATE,
  F.HX_RMA_CONN_STATE, F.HX_RMA_EP_EN, F.HX_RMA_EP_STATE, F.HX_STOR_FN_PS_APST_EN, F.HX_STOR_FN_PS_WCE, F.HX_STOR_NS_EN, F.HX_STOR_NS_FAIL_CODE, F.HX_STOR_NS_STATE]

/-- What hotReset, hostDlDown, hostPerstAssert may write besides. -/
def flds69 : List Fld := flds31 ++ [
  F.AO_LED_STATUS_CERT_HOLD, F.AO_LED_STATUS_DIRTY_REQ, F.HX_FNV_MSIX_ADDR, F.HX_FNV_MSIX_DATA, F.HX_FNV_MSIX_MASK, F.HX_FN_DLOG_ACTIVE, F.HX_FN_DLOG_BUSY,
  F.HX_FN_DLOG_EN, F.HX_PCIE_LINK_STATUS_DOWNS, F.HX_PCIE_LINK_STATUS_FLIT, F.HX_PCIE_LINK_STATUS_POWER, F.HX_PCIE_LINK_STATUS_RATE, F.HX_PCIE_LINK_STATUS_STATE,
  F.HX_PCIE_LINK_STATUS_WIDTH, F.HX_RING_AUX_BUF_SIZE, F.HX_RING_AUX_HOLD_LIMIT, F.HX_RING_AUX_PREFETCH, F.HX_RING_BASE_BASE, F.HX_RING_CFG_HEAD_MOD,
  F.HX_RING_CFG_HEAD_TIME, F.HX_RING_CFG_IRQ_EN, F.HX_RING_CFG_KIND, F.HX_RING_CFG_POLICY, F.HX_RING_CFG_SIZE, F.HX_RING_CFG_VEC, F.HX_RING_DBERR_DB_BAD,
  F.HX_RING_DBERR_DB_EARLY, F.HX_RING_DISP_D, F.HX_RING_DISP_VALID, F.HX_RING_HEAD_ADDR_HEAD_ADDR, F.HX_RING_LOST_LOST, F.HX_RING_STATUS_CAUSE, F.HX_RING_STATUS_STATE,
  F.HX_RMA_CONN_STATE, F.HX_RMA_EP_EN, F.HX_RMA_EP_STATE, F.HX_STOR_FN_PS_APST_EN, F.HX_STOR_FN_PS_PS, F.HX_STOR_FN_PS_WCE, F.HX_STOR_NS_FAIL_CODE, F.HX_STOR_NS_STATE,
  F.HX_STOR_STATUS_CERT_BLOCKS, F.HX_STOR_STATUS_CERT_STOP, F.HX_STOR_STATUS_HELD, F.HX_STOR_STATUS_UNCERT_BLOCKS, F.HX_STOR_STATUS_VB_BLOCKS, F.HX_STOR_STAT_COUNT]

/-- The components that raising an event may change (R300, R629, R632, R645). -/
def eventParts : List Part := [.harts, .log, .mem, .out, .poison, .staged, .traceLost]

/-- Components that completionRx, completionTimeout may change besides. -/
def parts1 : List Part := [
  .cfgs, .dlogs, .hosts, .rings, .sq]

/-- Components that nopDesc, fence, string may change besides. -/
def parts2 : List Part := [
  .dlogs, .draws, .hosts, .rings, .sq]

/-- Components that nsConfigWrite, nsDiscard may change besides. -/
def parts3 : List Part := [
  .dlogs, .rings, .rma, .sq, .stor]

/-- Components that keyLoad, keyErase, ciphJob may change besides. -/
def parts4 : List Part := [
  .ciph, .dlogs, .draws, .hosts, .rings, .sq]

/-- Components that getLogPage, setFeatures, getFeatures may change besides. -/
def parts5 : List Part := [
  .dlogs, .draws, .hosts, .rings, .sq, .stor]

/-- Components that nvmFlush, datasetManagement, identify may change besides. -/
def parts6 : List Part := [
  .dlogs, .draws, .hosts, .limits, .rings, .sq, .stor]

/-- Components that groupCertify, destageDone may change besides. -/
def parts7 : List Part := [
  .dlogs, .draws, .fx, .limits, .rings, .rma, .sq, .stor]

/-- Components that errEstTick, epEnable, epDisable, connReset may change besides. -/
def parts8 : List Part := [
  .ciph, .dlogs, .draws, .led, .limits, .mac, .rings, .rma, .sq, .stor]

/-- Components that writePktRx, readReqRx, readRespRx, ackRx, rtoExpiry, packetDeadline and others may change besides. -/
def parts9 : List Part := [
  .ciph, .dlogs, .draws, .fx, .led, .limits, .mac, .rings, .rma, .sq, .stor]

/-- Components that tbCtrlWrite, tbSyncSet, syncLocked, syncHoldover, holdoverExpired, timeExchange may change besides. -/
def parts10 : List Part := [
  .ciph, .dlogs, .draws, .led, .limits, .mac, .rings, .rma, .sq, .stc, .stor]

/-- Components that hotReset, hostDlDown, hostPerstAssert, configRequest, bmeClear, flr and others may change besides. -/
def parts11 : List Part := [
  .cfgs, .ciph, .dlogs, .draws, .hosts, .led, .limits, .mac, .rings, .rma, .sq, .stor]

/-- Components that rmaWrite, rmaRead, nvmWrite, nvmRead, writeZeroes, orderedWrite may change besides. -/
def parts12 : List Part := [
  .ciph, .dlogs, .draws, .fx, .hosts, .led, .limits, .mac, .rings, .rma, .sq, .stor]

/-- Components that tbOffsetWrite, ptpMessageRx, timeRx may change besides. -/
def parts13 : List Part := [
  .ciph, .dlogs, .draws, .led, .limits, .mac, .rings, .rma, .sq, .stc, .stor, .time]

/-- Components that vinBelowVhold, vinBelowVvault may change besides. -/
def parts14 : List Part := [
  .boot, .cal, .ccr, .cfgs, .ciph, .dbg, .dlogs, .draws, .faultsDue, .fx, .hosts, .latches, .led, .limits, .locks, .mac, .pkg, .powered, .prog, .request, .rings, .rma,
  .sq, .stc, .stor, .tap, .tbl, .time, .tm, .tr]

/-- Components that bootStart, failedStartTimeout, vinRecovered, rstN, haltReq, snetReq and others may change besides. -/
def parts15 : List Part := [
  .boot, .cal, .ccr, .cfgs, .ciph, .dbg, .dlogs, .draws, .faultsDue, .fx, .hosts, .latches, .led, .limits, .locks, .mac, .pkg, .powered, .prog, .request, .rings, .rma,
  .sq, .staging, .stc, .stor, .tap, .tbl, .time, .tm, .tr]

/-- Components that hbmScrub, overcurrent, overvoltageFault, supervisorWatchdog, supervisorMachineCheck, aoUncorrectableError and others may change besides. -/
def parts16 : List Part := [
  .boot, .cal, .ccr, .cfgs, .ciph, .dbg, .dlogs, .draws, .faultTimes, .faultsDue, .fx, .hosts, .latches, .lateFaults, .led, .limits, .locks, .mac, .pkg, .powered, .prog,
  .request, .rings, .rma, .sq, .staging, .stc, .stor, .tap, .tbl, .time, .tm, .tr]

/-- Components that powerOn, vinTurnOff, lbGrant, dequeueSelect, barRequest, microword and others may change besides. -/
def parts17 : List Part := [
  .boot, .cal, .ccr, .cfgs, .ciph, .dbg, .dlogs, .draws, .faultTimes, .faultsDue, .fx, .hosts, .latches, .lateFaults, .led, .limits, .locks, .mac, .pkg, .powered, .prog,
  .request, .resetTimes, .rings, .rma, .sq, .staging, .stc, .stor, .tap, .tbl, .time, .tm, .tr]

/-- The register fields a command may write; none for a command that may reset regions or write registers at large. -/
def writesOf : Instr → Option (List Fld)
  | .powerOn _ _ _ => none
  | .bootStart _ => none
  | .keyPairDerived => some ([F.AO_ATT_STATUS_READY])
  | .runReady => some (eventFlds ++ logFlds ++ flds66)
  | .failedStartTimeout => none
  | .vinBelowVhold => none
  | .vinRecovered => none
  | .vinBelowVvault => none
  | .vaultDone => none
  | .vinTurnOff => none
  | .rstN => none
  | .haltReq _ => none
  | .snetReq _ => none
  | .restartReq _ => none
  | .thermalTrip => none
  | .lidBreach => none
  | .alarmZeroise _ => some (eventFlds ++ logFlds ++ flds31)
  | .refclkLost => some (eventFlds ++ [F.AO_TB_STATUS_REF_ACTIVE])
  | .tbCtrlWrite _ _ => some (eventFlds ++ logFlds ++ flds61)
  | .tbOffsetWrite _ _ => some (eventFlds ++ logFlds ++ flds56)
  | .slewDone => some ([F.AO_TB_STATUS_SLEWING])
  | .tbSyncSet _ _ => some (eventFlds ++ logFlds ++ flds55)
  | .ptpMessageRx _ => some (eventFlds ++ logFlds ++ flds54)
  | .syncLocked _ => some (eventFlds ++ logFlds ++ flds55)
  | .syncHoldover => some (eventFlds ++ logFlds ++ flds54)
  | .errEstTick => some (eventFlds ++ logFlds ++ flds52)
  | .holdoverExpired => some (eventFlds ++ logFlds ++ flds54)
  | .ppsOutEdge => some ([])
  | .ppsInEdge _ => some (eventFlds ++ [F.AO_PPS_IN_TS_TS])
  | .ppsInMissing => some (eventFlds)
  | .wakeTrigger _ => some ([F.AO_PD_CTRL_BLOCKED, F.AO_WAKE_STATUS_POWER, F.AO_WAKE_STATUS_WAKES, F.FX_BUF_BG_STATUS_POWER, F.MX_HBM_STACK_CTRL_STATE])
  | .wakeComplete _ _ => some (eventFlds ++ [F.AO_WAKE_STATUS_LATE, F.FX_BUF_BG_STATUS_POWER])
  | .idleGate _ => some ([F.AO_WAKE_STATUS_POWER, F.FX_BUF_BG_STATUS_DRAINING, F.FX_BUF_BG_STATUS_POWER, F.MX_HBM_STACK_CTRL_STATE])
  | .plannedWake _ => some ([F.AO_PD_CTRL_BLOCKED, F.AO_WAKE_STATUS_POWER, F.AO_WAKE_STATUS_WAKES, F.FX_BUF_BG_STATUS_POWER, F.MX_HBM_STACK_CTRL_STATE])
  | .lbCfgWrite _ _ _ => some (eventFlds ++ [F.AO_FLT_REGION_FENCED, F.FX_BUF_BG_STATUS_POWER, F.PA_MAC_LB_CFG_SCHED_SRC, F.PA_MAC_LB_CFG_SIZE])
  | .lbSizeApply _ => some ([F.AO_PD_CTRL_BLOCKED, F.AO_WAKE_STATUS_POWER, F.AO_WAKE_STATUS_WAKES, F.FX_BUF_BG_STATUS_POWER, F.MX_HBM_STACK_CTRL_STATE])
  | .portCfgWrite _ _ _ => some (eventFlds ++ flds49)
  | .subportCfgWrite _ _ _ => some (eventFlds ++ flds53)
  | .anResolved _ _ _ _ => some (eventFlds ++ flds41)
  | .anFail _ => some (eventFlds ++ logFlds ++ flds41)
  | .trainRequest _ _ => some (eventFlds ++ logFlds ++ [F.PA_MAC_CNT_COUNT])
  | .trainingDone _ => some (eventFlds ++ flds36)
  | .trainTimeout _ _ => some (eventFlds ++ logFlds ++ flds44)
  | .alignLock _ => some (eventFlds ++ flds34)
  | .alignTimeout _ => some (eventFlds ++ logFlds ++ flds41)
  | .linkLoss _ _ _ => some (eventFlds ++ flds42)
  | .remoteFaultRx _ _ => some (eventFlds ++ logFlds ++ flds35)
  | .remoteFaultClear _ => some (eventFlds ++ flds35)
  | .macRxFrame _ _ => some (eventFlds ++ logFlds ++ [F.FX_BUF_BG_STATUS_POWER, F.FX_STC_STAT_COUNT, F.PA_MAC_CNT_COUNT, F.PA_MAC_LB_DROP_COUNT])
  | .lbGrant _ _ _ _ => none
  | .bundleRewrite _ _ _ _ => some ([])
  | .xprofCommit _ _ _ _ => some (flds45)
  | .counterLatch _ _ _ _ => some ([F.AO_FLT_REGION_FENCED, F.PA_LVC_CNT_CTL_BUSY, F.PA_LVC_CNT_CTL_INDEX])
  | .counterLatchDone _ _ => some ([F.PA_LVC_CNT_BYTES_BYTES, F.PA_LVC_CNT_CTL_BUSY, F.PA_LVC_CNT_PKTS_PKTS])
  | .loadSwap _ _ _ => some (eventFlds ++ [F.AO_PROG_STATUS_LGEN, F.AO_PROG_STATUS_RESULT, F.AO_PROG_STATUS_SEQ, F.AO_PROG_STATUS_STATE])
  | .loadOnly _ _ _ => some (eventFlds ++ [F.AO_PROG_STATUS_LGEN, F.AO_PROG_STATUS_RESULT, F.AO_PROG_STATUS_SEQ, F.AO_PROG_STATUS_STATE])
  | .swap _ => some (eventFlds ++ [F.AO_PROG_STATUS_RESULT, F.AO_PROG_STATUS_SEQ])
  | .abort _ => some (eventFlds ++ [F.AO_PROG_STATUS_LGEN, F.AO_PROG_STATUS_RESULT, F.AO_PROG_STATUS_SEQ, F.AO_PROG_STATUS_STATE])
  | .epochFlip => some (flds65)
  | .oldBankDrained _ => some (eventFlds ++ [F.AO_PROG_STATUS_LGEN, F.AO_PROG_STATUS_RESULT, F.AO_PROG_STATUS_STATE, F.PA_LVC_PROG_STATUS_OLD_BUSY])
  | .drainTimeout => some (eventFlds ++ [F.AO_PROG_STATUS_LGEN, F.AO_PROG_STATUS_RESULT, F.AO_PROG_STATUS_STATE])
  | .tblCfgWrite _ _ _ _ => some (eventFlds ++ flds46)
  | .tableInsert _ _ _ => some ([F.FX_TBE_RESULT_BUSY, F.FX_TBE_RESULT_CODE])
  | .tableReplace _ _ _ => some ([F.FX_TBE_RESULT_BUSY, F.FX_TBE_RESULT_CODE])
  | .tableWrite _ _ _ => some ([F.FX_TBE_RESULT_BUSY, F.FX_TBE_RESULT_CODE])
  | .tableDelete _ _ _ => some ([F.FX_TBE_RESULT_BUSY, F.FX_TBE_RESULT_CODE])
  | .tableRead _ _ _ => some ([F.FX_TBE_RESULT_BUSY, F.FX_TBE_RESULT_CODE])
  | .tableFlush _ _ _ => some ([F.FX_TBE_RESULT_BUSY, F.FX_TBE_RESULT_CODE])
  | .tableUpdate _ _ _ _ => some (eventFlds ++ [F.FX_TBE_TBL_STAT_COUNT, F.HX_RING_CCOUNT_CCOUNT, F.HX_SQ_STATUS_STATE])
  | .engineCommit _ _ => some (eventFlds ++ flds5)
  | .ageSweep _ _ => some ([F.FX_TBE_TBL_STAT_COUNT])
  | .stitchLearnRx _ => some (eventFlds ++ [F.FX_STC_STAT_COUNT, F.FX_TBE_TBL_STAT_COUNT])
  | .entryRewrite _ _ _ => some ([])
  | .admissionEnqueue _ => some (eventFlds ++ flds4)
  | .qcfgWrite _ _ _ _ => some (eventFlds ++ flds11)
  | .cutThroughEligible _ => some ([])
  | .tailWritten _ => some ([F.FX_ADM_GSTAT_COUNT, F.FX_BUF_BG_STATUS_USED, F.PA_MAC_CNT_COUNT])
  | .segmentAllocResume _ => some ([F.AO_PD_CTRL_BLOCKED, F.AO_WAKE_STATUS_POWER, F.AO_WAKE_STATUS_WAKES, F.FX_BUF_BG_STATUS_DRAINING, F.FX_BUF_BG_STATUS_POWER, F.FX_BUF_BG_STATUS_USED, F.MX_HBM_STACK_CTRL_STATE])
  | .bgDrained _ => some ([F.AO_WAKE_STATUS_POWER, F.FX_BUF_BG_STATUS_DRAINING, F.FX_BUF_BG_STATUS_POWER, F.MX_HBM_STACK_CTRL_STATE])
  | .dequeueSelect _ _ _ _ => none
  | .gateTransition _ => some (eventFlds ++ [F.FX_BUF_BG_STATUS_POWER, F.FX_TM_GATE_CFG_ENTRY_NOW, F.FX_TM_GATE_CFG_GATES_NOW, F.FX_TM_GATE_CFG_OTHERS_CLOSED])
  | .gateChange _ => some (eventFlds ++ [F.FX_TM_GATE_CFG_PEND])
  | .gateCancel _ => some ([F.FX_TM_GATE_CFG_PEND])
  | .gateListSwap _ => some (eventFlds ++ flds18)
  | .meterCommit _ _ _ _ => some (eventFlds ++ flds3)
  | .qdepthSample _ _ => some (eventFlds ++ flds15)
  | .sampleGroupCommit _ _ _ => some (flds12)
  | .helloTx _ => some ([])
  | .helloRx _ => some (eventFlds ++ logFlds ++ flds23)
  | .helloTimeout _ => some (eventFlds ++ [F.FX_STC_ROUTE_ACTIVE, F.FX_STC_ROUTE_REJOIN_PEND, F.PD_STC_CTRL_MASTER, F.PD_STC_CTRL_TIME_STATE, F.PD_STC_LINK_STATE])
  | .stitchDataRx _ => some (eventFlds ++ logFlds ++ [F.FX_ADM_GSTAT_COUNT, F.FX_STC_STAT_COUNT])
  | .timeExchange => some (eventFlds ++ logFlds ++ flds54)
  | .timeRx _ => some (eventFlds ++ logFlds ++ flds59)
  | .rejoin _ => some ([F.FX_STC_ROUTE_ACTIVE, F.FX_STC_ROUTE_REJOIN_PEND])
  | .rejoinPendTimeout _ => some (eventFlds)
  | .resyncReplayDone _ => some (eventFlds)
  | .neighbourLost _ => some (eventFlds ++ [F.FX_STC_STAT_COUNT, F.FX_TBE_TBL_STAT_COUNT, F.PD_STC_CTRL_MASTER, F.PD_STC_CTRL_TIME_STATE])
  | .routeWrite _ _ _ => some (eventFlds ++ [F.AO_FLT_REGION_FENCED, F.FX_STC_ROUTE_ACTIVE, F.FX_STC_ROUTE_MEMBERS, F.FX_STC_ROUTE_REJOIN_PEND])
  | .hbmPartWrite _ _ => some (eventFlds ++ logFlds ++ [F.AO_FLT_LOCKVIOL_COUNT, F.AO_FLT_REGION_FENCED, F.MX_HBM_PART_WC_SIZE, F.MX_HBM_PART_WC_STACKS])
  | .hbmScrub _ _ _ => none
  | .stackOff _ _ => some (eventFlds ++ [F.AO_FLT_REGION_FENCED, F.FX_BUF_BG_STATUS_POWER, F.MX_HBM_STACK_CTRL_OFF])
  | .stackOn _ _ => some ([F.AO_FLT_REGION_FENCED, F.MX_HBM_STACK_CTRL_OFF, F.MX_HBM_STACK_CTRL_STATE])
  | .stackOnDone _ => some ([F.AO_WAKE_STATUS_POWER, F.FX_BUF_BG_STATUS_POWER, F.MX_HBM_STACK_CTRL_STATE])
  | .hostPerstDeassert _ => some (eventFlds ++ flds7)
  | .hostDlActive _ _ _ _ _ _ => some (eventFlds ++ flds7)
  | .hostTrainTimeout _ _ => some ([F.HX_PCIE_STAT_COUNT])
  | .hotReset _ _ => some (eventFlds ++ logFlds ++ flds69)
  | .hostDlDown _ _ => some (eventFlds ++ logFlds ++ flds69)
  | .hostPerstAssert _ => some (eventFlds ++ logFlds ++ flds69)
  | .configRequest _ _ => some (eventFlds ++ logFlds ++ flds68)
  | .barRequest _ => none
  | .completionRx _ _ _ => some (eventFlds ++ logFlds ++ flds8)
  | .completionTimeout _ _ => some (eventFlds ++ logFlds ++ flds8)
  | .tagRelease _ _ => some ([])
  | .bmeClear _ => some (eventFlds ++ logFlds ++ flds68)
  | .flr _ => some (eventFlds ++ logFlds ++ flds68)
  | .functionResetDone _ => some (eventFlds ++ logFlds ++ flds67)
  | .msixUnmask _ _ => some ([F.AO_EVT_ROUTE_PENDING, F.HX_FNV_MSIX_MASK, F.HX_FNV_PBA_PBA])
  | .driveEn _ _ => some (eventFlds ++ flds38)
  | .driveDlActive _ _ _ => some (eventFlds ++ flds30)
  | .driveTrainTimeout _ => some ([])
  | .driveEnum _ _ => some (eventFlds ++ logFlds ++ flds40)
  | .driveEnumTimeout _ => some (eventFlds ++ logFlds ++ flds33)
  | .driveError _ => some (eventFlds ++ logFlds ++ flds33)
  | .surpriseDown _ => some (eventFlds ++ logFlds ++ flds33)
  | .driveRelease _ _ => some (eventFlds ++ flds38)
  | .driveRequest _ _ => some (eventFlds ++ logFlds ++ [F.HX_RP_STAT_COUNT])
  | .mmioTimeout _ => some (eventFlds ++ logFlds ++ flds33)
  | .fnRecWrite _ _ _ _ => some (eventFlds ++ flds43)
  | .vfEnable _ => some (eventFlds ++ logFlds ++ flds68)
  | .vfDisable _ => some (eventFlds ++ logFlds ++ flds68)
  | .functionDestroyDone _ => some (eventFlds ++ flds16)
  | .dlogEnable _ _ _ => some (eventFlds ++ flds2)
  | .harvest _ _ => some (eventFlds ++ [F.AO_FLT_REGION_FENCED, F.HX_FN_DLOG_ACTIVE, F.HX_FN_DLOG_BUSY])
  | .harvestDone _ => some (eventFlds ++ [F.HX_FN_DLOG_BUSY])
  | .bitmapFlush _ => some (eventFlds)
  | .doorbell _ _ _ => some (eventFlds ++ logFlds ++ [F.AO_FLT_REGION_FENCED, F.HX_RING_DBERR_DB_BAD])
  | .ringEnable _ _ => some (eventFlds ++ logFlds ++ [F.AO_FLT_REGION_FENCED, F.HX_RING_CCOUNT_CCOUNT, F.HX_RING_STATUS_CAUSE, F.HX_RING_STATUS_STATE, F.HX_SQ_STATUS_STATE])
  | .ringStop _ _ => some (eventFlds ++ logFlds ++ [F.AO_FLT_REGION_FENCED, F.HX_RING_STATUS_CAUSE, F.HX_RING_STATUS_STATE])
  | .ringResume _ _ => some (eventFlds ++ logFlds ++ [F.AO_FLT_REGION_FENCED, F.HX_RING_STATUS_CAUSE, F.HX_RING_STATUS_STATE, F.HX_SQ_STATUS_STATE])
  | .ringReset _ _ => some (eventFlds ++ logFlds ++ [F.AO_FLT_REGION_FENCED, F.HX_RING_CCOUNT_CCOUNT, F.HX_RING_STATUS_CAUSE, F.HX_RING_STATUS_STATE, F.HX_SQ_STATUS_STATE])
  | .ringInvalidate _ _ => some (eventFlds ++ logFlds ++ [F.AO_FLT_REGION_FENCED, F.HX_RING_DISP_D, F.HX_RING_DISP_VALID])
  | .ringStopped _ => some (eventFlds ++ [F.HX_RING_STATUS_CAUSE, F.HX_RING_STATUS_STATE])
  | .descFetch _ _ _ => some (eventFlds ++ logFlds ++ [F.HX_RING_CCOUNT_CCOUNT, F.HX_RING_DBERR_DB_EARLY, F.HX_RING_STATUS_CAUSE, F.HX_RING_STATUS_STATE, F.HX_SQ_STATUS_STATE])
  | .descDispatch _ => some (eventFlds ++ [F.HX_SQ_STATUS_STATE])
  | .nopDesc _ => some (eventFlds ++ [F.HX_RING_CCOUNT_CCOUNT, F.HX_SQ_STATUS_STATE])
  | .fence _ => some (eventFlds ++ [F.HX_RING_CCOUNT_CCOUNT, F.HX_SQ_STATUS_STATE])
  | .string _ => some (eventFlds ++ logFlds ++ [F.HX_FN_VIOL_COUNT, F.HX_RING_CCOUNT_CCOUNT, F.HX_RING_STATUS_CAUSE, F.HX_RING_STATUS_STATE, F.HX_SQ_STATUS_STATE])
  | .stringTimeout _ => some (eventFlds ++ [F.HX_RING_CCOUNT_CCOUNT, F.HX_RING_STATUS_CAUSE, F.HX_RING_STATUS_STATE, F.HX_SQ_STATUS_STATE])
  | .rxBuf _ => some (eventFlds ++ [F.HX_RING_CCOUNT_CCOUNT, F.HX_SQ_STATUS_STATE])
  | .send _ _ _ => some (eventFlds ++ logFlds ++ flds22)
  | .descComplete _ _ _ _ => some (eventFlds ++ [F.HX_RING_CCOUNT_CCOUNT, F.HX_SQ_STATUS_STATE])
  | .headTimeExpiry _ => some (eventFlds ++ [F.HX_RING_CCOUNT_CCOUNT, F.HX_SQ_STATUS_STATE])
  | .eventRecordPlace _ => some (eventFlds ++ [F.AO_EVT_ROUTE_NO_RING, F.HX_RING_DISCARD_COUNT, F.HX_RING_LOST_LOST])
  | .holdLimitExpiry _ => some (eventFlds ++ [F.HX_RING_LOST_LOST])
  | .rxFrameDeliver _ => some (eventFlds ++ [F.CX_CPORT_NO_RING_COUNT, F.HX_RING_CCOUNT_CCOUNT, F.HX_RING_DISCARD_COUNT, F.HX_RING_LOST_LOST, F.HX_SQ_STATUS_STATE])
  | .microword _ _ _ => none
  | .sqWatchdog _ _ => none
  | .contextTimer _ _ => some ([])
  | .sqRelease _ _ => some (eventFlds ++ [F.AO_FLT_REGION_FENCED, F.HX_SQ_RELEASE_REL, F.HX_SQ_STATUS_STATE])
  | .sqInitDone _ _ => none
  | .sqOffline _ _ => none
  | .sqOnline _ _ => some (eventFlds ++ [F.AO_FLT_REGION_FENCED, F.HX_SQ_CTRL_OFFLINE, F.HX_SQ_STATUS_STATE])
  | .sqDrained _ => some (eventFlds ++ [F.HX_SQ_STATUS_STATE])
  | .ucodeLoad _ _ => some (eventFlds ++ [F.AO_UCODE_STATUS_RESULT, F.AO_UCODE_STATUS_SEQ, F.AO_UCODE_STATUS_STATE])
  | .ucodeQuiesced _ => some ([F.AO_UCODE_STATUS_STATE])
  | .ucodeDrainTimeout => some (eventFlds ++ [F.AO_UCODE_STATUS_RESULT, F.AO_UCODE_STATUS_STATE])
  | .rmaWrite _ _ _ => some (eventFlds ++ logFlds ++ flds60)
  | .rmaRead _ => some (eventFlds ++ logFlds ++ flds60)
  | .winSet _ => some (eventFlds ++ logFlds ++ [F.HX_FN_VIOL_COUNT, F.HX_RING_CCOUNT_CCOUNT, F.HX_SQ_STATUS_STATE])
  | .winRevoke _ => some (eventFlds ++ logFlds ++ flds27)
  | .revokeDrained _ => some (eventFlds ++ [F.HX_RING_CCOUNT_CCOUNT, F.HX_SQ_STATUS_STATE])
  | .writePktRx _ _ => some (eventFlds ++ logFlds ++ flds64)
  | .readReqRx _ _ _ _ => some (eventFlds ++ logFlds ++ flds64)
  | .readRespRx _ => some (eventFlds ++ logFlds ++ flds63)
  | .ackRx _ => some (eventFlds ++ logFlds ++ flds63)
  | .rtoExpiry _ _ => some (eventFlds ++ logFlds ++ flds63)
  | .packetDeadline _ _ => some (eventFlds ++ logFlds ++ flds57)
  | .rateIncrease _ => some ([])
  | .peerWaitTimeout _ => some (eventFlds ++ [F.HX_RING_CCOUNT_CCOUNT, F.HX_SQ_STATUS_STATE])
  | .epEnable _ _ _ => some (eventFlds ++ logFlds ++ flds58)
  | .epDisable _ _ _ => some (eventFlds ++ logFlds ++ flds58)
  | .epHoldoffExpiry _ => some (eventFlds ++ [F.HX_RMA_EP_STATE])
  | .connect _ _ => some (eventFlds ++ flds29)
  | .connReset _ _ => some (eventFlds ++ logFlds ++ flds50)
  | .nsConfigWrite _ _ _ _ => some (eventFlds ++ logFlds ++ flds51)
  | .nsDisable _ _ => some (eventFlds ++ [F.AO_FLT_REGION_FENCED, F.HX_STOR_NS_EN, F.HX_STOR_NS_STATE])
  | .nsDiscard _ _ => some (eventFlds ++ logFlds ++ flds37)
  | .nvmFlush _ => some (eventFlds ++ logFlds ++ flds39)
  | .nvmWrite _ _ _ _ => some (eventFlds ++ logFlds ++ flds62)
  | .nvmRead _ _ _ _ => some (eventFlds ++ logFlds ++ flds62)
  | .writeZeroes _ _ => some (eventFlds ++ logFlds ++ flds62)
  | .datasetManagement _ _ _ => some (eventFlds ++ logFlds ++ flds6)
  | .orderedWrite _ _ _ _ => some (eventFlds ++ logFlds ++ flds62)
  | .identify _ => some (eventFlds ++ logFlds ++ flds6)
  | .getLogPage _ => some (eventFlds ++ [F.HX_RING_CCOUNT_CCOUNT, F.HX_SQ_STATUS_STATE, F.HX_STOR_FN_PS_PS, F.HX_STOR_STAT_COUNT])
  | .setFeatures _ _ _ => some (eventFlds ++ flds9)
  | .getFeatures _ => some (eventFlds ++ [F.HX_RING_CCOUNT_CCOUNT, F.HX_SQ_STATUS_STATE, F.HX_STOR_FN_PS_PS, F.HX_STOR_STAT_COUNT])
  | .groupAdmit => some (eventFlds ++ flds20)
  | .groupCertify => some (eventFlds ++ flds47)
  | .certWaitWarn => some (eventFlds)
  | .destageIssue => some (eventFlds ++ logFlds ++ flds57)
  | .destageDone _ _ => some (eventFlds ++ logFlds ++ flds48)
  | .drvTimeout _ => some (eventFlds ++ logFlds ++ flds21)
  | .drvAbortTimeout _ => some (eventFlds ++ logFlds ++ flds17)
  | .apstIdle _ => some ([F.HX_STOR_FN_PS_PS])
  | .keyLoad _ _ _ => some (eventFlds ++ logFlds ++ flds24)
  | .keyErase _ => some (eventFlds ++ logFlds ++ flds19)
  | .keyChangeDone _ => some (eventFlds ++ [F.HX_RING_CCOUNT_CCOUNT, F.HX_SQ_STATUS_STATE])
  | .ciphJob _ _ _ => some (eventFlds ++ logFlds ++ [F.HX_FN_VIOL_COUNT, F.HX_RING_CCOUNT_CCOUNT, F.HX_SQ_STATUS_STATE])
  | .ciphJobDone _ _ => some (eventFlds ++ logFlds ++ flds31)
  | .supplySample _ _ _ => none
  | .backstop => some (eventFlds ++ [F.AO_SUP_STATUS_ALARM, F.AO_SUP_STATUS_BACKSTOP])
  | .backstopRelease => some (eventFlds ++ [F.AO_SUP_STATUS_ALARM, F.AO_SUP_STATUS_BACKSTOP])
  | .overcurrent => none
  | .overvoltage _ => some (eventFlds ++ [F.AO_SUP_STATUS_ALARM, F.AO_SUP_STATUS_OV, F.AO_SUP_STAT_COUNT])
  | .overvoltageFault => none
  | .flicker _ => some (eventFlds ++ [F.AO_SUP_STAT_COUNT])
  | .captestStart _ => some (eventFlds ++ flds14)
  | .captestTimer => some (eventFlds ++ flds14)
  | .captestDone _ _ _ => some (eventFlds ++ logFlds ++ flds26)
  | .forceOff _ _ => some (eventFlds ++ [F.AO_PD_CTRL_FORCE_OFF, F.AO_PD_CTRL_REFUSED, F.FX_BUF_BG_STATUS_DRAINING, F.FX_BUF_BG_STATUS_POWER])
  | .forceOffRelease _ _ => some ([F.AO_PD_CTRL_FORCE_OFF])
  | .ledgerMsClose _ => some (eventFlds ++ logFlds ++ flds13)
  | .accountPeriodEnd _ => some (eventFlds ++ [F.AO_LED_EA_OVER_BUDGET, F.AO_LED_EA_OVER_CEIL, F.AO_LED_EA_USED])
  | .plannerRun => some (eventFlds ++ logFlds ++ [F.AO_LED_EA_OVER_BUDGET, F.AO_LED_EA_OVER_CEIL, F.AO_LED_EA_THR, F.AO_LED_EA_USED, F.FX_BUF_BG_STATUS_DRAINING])
  | .ledgerCopy => some ([])
  | .energySnap => some (logFlds)
  | .bootReady _ => some ([F.AO_BOOT_CTRL_READY])
  | .clrDemoteA _ => some (logFlds ++ [F.AO_BOOT_STATUS_A_DEMOTED, F.AO_BOOT_STATUS_B_DEMOTED])
  | .clrDemoteB _ => some (logFlds ++ [F.AO_BOOT_STATUS_A_DEMOTED, F.AO_BOOT_STATUS_B_DEMOTED])
  | .imgErase _ _ => some (eventFlds ++ [F.AO_IMG_STATUS_RESULT, F.AO_IMG_STATUS_SEQ, F.AO_IMG_STATUS_STATE])
  | .imgWrite _ _ _ => some (eventFlds ++ [F.AO_IMG_STATUS_RESULT, F.AO_IMG_STATUS_SEQ, F.AO_IMG_STATUS_STATE])
  | .imgCommit _ _ => some (eventFlds ++ [F.AO_IMG_STATUS_RESULT, F.AO_IMG_STATUS_SEQ, F.AO_IMG_STATUS_STATE])
  | .writeBcfg _ _ => some (eventFlds ++ [F.AO_IMG_STATUS_RESULT, F.AO_IMG_STATUS_SEQ, F.AO_IMG_STATUS_STATE])
  | .imgCmdDone _ => some (eventFlds ++ logFlds ++ [F.AO_BOOT_STATUS_A_DEMOTED, F.AO_BOOT_STATUS_B_DEMOTED, F.AO_IMG_STATUS_RESULT, F.AO_IMG_STATUS_SIG_OK, F.AO_IMG_STATUS_STATE])
  | .floorAdvance _ => some (eventFlds)
  | .rootRevoke _ _ _ => some (eventFlds ++ [F.AO_FUSE_STATUS_RESULT])
  | .coreRelease _ _ => some (eventFlds ++ flds10)
  | .sealDerive _ _ => some (flds1)
  | .attReport _ => some (eventFlds ++ [F.AO_ATT_STATUS_BUSY, F.AO_ATT_STATUS_RESULT])
  | .reportDone => some ([F.AO_ATT_STATUS_BUSY, F.AO_ATT_STATUS_RESULT])
  | .regionResetReq _ _ => none
  | .interconnectTimeout _ => none
  | .pllUnlock _ => none
  | .wdogKick _ _ => some ([])
  | .supervisorWatchdog => none
  | .violationLogInterval _ _ => some (eventFlds ++ logFlds)
  | .flashToken => some ([])
  | .logSelect _ _ => some ([F.AO_FLT_LOG_DATA_WORD, F.AO_FLT_LOG_SEL_SEQ, F.AO_FLT_LOG_STATUS_HELD])
  | .tightropeReq _ => some ([])
  | .tightropeTimer _ _ => some (eventFlds ++ logFlds ++ flds28)
  | .ageTick => some ([F.AO_TR_AGE_AGE_EQ_H])
  | .calUpdate _ _ => some (eventFlds ++ [F.AO_CAL_STATUS_RESULT, F.AO_CAL_STATUS_STATE])
  | .irqHoldoffExpiry _ => some ([F.AO_EVT_ROUTE_PENDING, F.AO_PD_CTRL_BLOCKED, F.AO_WAKE_STATUS_POWER, F.AO_WAKE_STATUS_WAKES, F.HX_FNV_PBA_PBA])
  | .pmcOverflow _ _ _ _ => some (eventFlds ++ [F.PMU_PMC_COUNT, F.PMU_PMC_OVF_OVF])
  | .ccrSweep _ _ _ => some (eventFlds ++ [F.AO_CCR_STATUS_RESULT, F.AO_CCR_STATUS_SEQ, F.AO_CCR_STATUS_STATE])
  | .sweepDone => some (eventFlds ++ [F.AO_CCR_STATUS_RESULT, F.AO_CCR_STATUS_STATE])
  | .traceEnable _ _ => some (eventFlds ++ [F.AO_FLT_REGION_FENCED, F.CX_DBG_TRACE_EN, F.CX_DBG_TRACE_WRAP])
  | .traceBufferEnd => some (eventFlds ++ [F.CX_DBG_TRACE_EN])
  | .extest _ _ => some ([])
  | .samplePreload _ _ => some ([])
  | .idcode => some ([])
  | .clamp _ => some ([])
  | .highz _ => some ([])
  | .dtmcs _ => some ([])
  | .dmi _ => some ([])
  | .mailbox _ => some (eventFlds ++ [F.AO_DBG_CHALLENGE_WORD, F.AO_DBG_STATUS_RESULT, F.AO_DBG_STATUS_SCOPE, F.AO_DBG_STATUS_SEQ, F.AO_DBG_STATUS_STATE])
  | .bypass _ => some ([])
  | .debugChallenge _ => some ([F.AO_DBG_CHALLENGE_WORD, F.AO_DBG_STATUS_RESULT, F.AO_DBG_STATUS_SEQ])
  | .debugOpen _ _ => some (eventFlds ++ [F.AO_DBG_STATUS_RESULT, F.AO_DBG_STATUS_SEQ, F.AO_DBG_STATUS_STATE])
  | .debugOpenDone => some (eventFlds ++ flds32)
  | .debugClose _ => some (eventFlds ++ [F.AO_DBG_STATUS_RESULT, F.AO_DBG_STATUS_SCOPE, F.AO_DBG_STATUS_SEQ])
  | .challengeExpiry => some ([])
  | .tempSample _ => some (eventFlds ++ [F.AO_PKG_TEMP_TEMP, F.AO_PKG_TEMP_VALID, F.AO_PKG_THERM_HOTTEST, F.AO_PKG_THERM_WARNING, F.AO_SUP_STATUS_ALARM])
  | .gpioEdge _ _ => some (eventFlds ++ [F.AO_PKG_GPIO_IN])
  | .auxOverload _ => some (eventFlds ++ [F.AO_PKG_AUX_V1P8_FAULT, F.AO_PKG_AUX_V3P3_FAULT])
  | .auxRetry _ => some ([])
  | .smbSetAddress _ _ => some ([])
  | .smbBlockRead _ => none
  | .smbAlertResponse => some ([])
  | .macsecSaInstall _ _ => some (eventFlds)
  | .macsecSaErase _ _ => some (eventFlds)
  | .macsecSaDone _ => some (eventFlds)
  | .macsecPnThreshold _ _ => some (eventFlds)
  | .lpiEntry _ _ => some ([F.PA_MAC_LINK_STATUS_RX_LPI, F.PA_MAC_LINK_STATUS_TX_LPI])
  | .lpiExit _ _ => some ([F.PA_MAC_CNT_COUNT, F.PA_MAC_LINK_STATUS_RX_LPI, F.PA_MAC_LINK_STATUS_TX_LPI])
  | .registerWrite _ => none
  | .calUpdateDone _ => some (eventFlds ++ logFlds ++ flds25)
  | .regionResetDone _ => none
  | .supervisorMachineCheck => none
  | .coreMachineCheck => none
  | .aoUncorrectableError => none
  | .hbmControllerFault => none
  | .controlStorageError _ => none
  | .correctableError _ => some (eventFlds ++ logFlds ++ [F.HX_PCIE_STAT_COUNT, F.HX_RP_STAT_COUNT])

/-- The other components a command may change. -/
def touchesOf : Instr → List Part
  | .powerOn _ _ _ => eventParts ++ parts17
  | .bootStart _ => eventParts ++ parts15
  | .keyPairDerived => []
  | .runReady => eventParts ++ [.boot, .cal, .draws, .limits, .locks, .mac, .pkg, .powered, .prog, .sq, .stc, .tap, .tr]
  | .failedStartTimeout => eventParts ++ parts15
  | .vinBelowVhold => eventParts ++ parts14
  | .vinRecovered => eventParts ++ parts15
  | .vinBelowVvault => eventParts ++ parts14
  | .vaultDone => eventParts ++ [.boot, .cal, .ccr, .cfgs, .ciph, .dbg, .dlogs, .draws, .faultsDue, .fx, .hosts, .latches, .lateFaults, .led, .limits, .locks, .mac, .pkg, .powered, .prog, .request, .rings, .rma, .sq, .staging, .stc, .stor, .tap, .tbl, .time, .tm, .tr]
  | .vinTurnOff => eventParts ++ parts17
  | .rstN => eventParts ++ parts15
  | .haltReq _ => eventParts ++ parts15
  | .snetReq _ => eventParts ++ parts15
  | .restartReq _ => eventParts ++ parts15
  | .thermalTrip => eventParts ++ parts15
  | .lidBreach => eventParts ++ parts15
  | .alarmZeroise _ => eventParts ++ [.ciph, .dlogs, .led, .mac, .rings, .sq]
  | .refclkLost => eventParts
  | .tbCtrlWrite _ _ => eventParts ++ parts10
  | .tbOffsetWrite _ _ => eventParts ++ parts13
  | .slewDone => [.time]
  | .tbSyncSet _ _ => eventParts ++ parts10
  | .ptpMessageRx _ => eventParts ++ parts13
  | .syncLocked _ => eventParts ++ parts10
  | .syncHoldover => eventParts ++ parts10
  | .errEstTick => eventParts ++ parts8
  | .holdoverExpired => eventParts ++ parts10
  | .ppsOutEdge => [.out]
  | .ppsInEdge _ => eventParts
  | .ppsInMissing => eventParts
  | .wakeTrigger _ => []
  | .wakeComplete _ _ => eventParts
  | .idleGate _ => []
  | .plannedWake _ => [.time]
  | .lbCfgWrite _ _ _ => eventParts ++ [.mac]
  | .lbSizeApply _ => [.mac]
  | .portCfgWrite _ _ _ => eventParts ++ [.draws, .fx, .mac, .stc]
  | .subportCfgWrite _ _ _ => eventParts ++ [.draws, .fx, .mac, .stc]
  | .anResolved _ _ _ _ => eventParts ++ [.draws, .mac, .stc]
  | .anFail _ => eventParts ++ [.draws, .mac, .stc]
  | .trainRequest _ _ => eventParts ++ [.mac]
  | .trainingDone _ => eventParts ++ [.draws, .mac, .stc]
  | .trainTimeout _ _ => eventParts ++ [.draws, .mac, .stc]
  | .alignLock _ => eventParts ++ [.draws, .mac, .stc]
  | .alignTimeout _ => eventParts ++ [.draws, .mac, .stc]
  | .linkLoss _ _ _ => eventParts ++ [.draws, .fx, .mac, .stc]
  | .remoteFaultRx _ _ => eventParts ++ [.draws, .fx, .mac, .stc]
  | .remoteFaultClear _ => eventParts ++ [.draws, .mac, .stc]
  | .macRxFrame _ _ => eventParts ++ [.mac, .stc, .tbl]
  | .lbGrant _ _ _ _ => eventParts ++ parts17
  | .bundleRewrite _ _ _ _ => [.prog]
  | .xprofCommit _ _ _ _ => [.log, .tm]
  | .counterLatch _ _ _ _ => [.log, .tm]
  | .counterLatchDone _ _ => [.tm]
  | .loadSwap _ _ _ => eventParts ++ [.prog]
  | .loadOnly _ _ _ => eventParts ++ [.prog]
  | .swap _ => eventParts ++ [.prog]
  | .abort _ => eventParts ++ [.prog]
  | .epochFlip => [.prog]
  | .oldBankDrained _ => eventParts ++ [.boot, .prog]
  | .drainTimeout => eventParts ++ [.prog]
  | .tblCfgWrite _ _ _ _ => eventParts
  | .tableInsert _ _ _ => [.tbl]
  | .tableReplace _ _ _ => [.tbl]
  | .tableWrite _ _ _ => [.tbl]
  | .tableDelete _ _ _ => [.tbl]
  | .tableRead _ _ _ => [.tbl]
  | .tableFlush _ _ _ => [.tbl]
  | .tableUpdate _ _ _ _ => eventParts ++ [.dlogs, .draws, .hosts, .rings, .sq, .tbl]
  | .engineCommit _ _ => eventParts ++ [.limits, .tbl]
  | .ageSweep _ _ => [.out, .staged, .tbl]
  | .stitchLearnRx _ => eventParts ++ [.limits, .stc, .tbl]
  | .entryRewrite _ _ _ => [.tbl]
  | .admissionEnqueue _ => eventParts ++ [.draws, .fx, .limits]
  | .qcfgWrite _ _ _ _ => eventParts
  | .cutThroughEligible _ => [.fx]
  | .tailWritten _ => [.fx, .out, .tm]
  | .segmentAllocResume _ => [.fx]
  | .bgDrained _ => []
  | .dequeueSelect _ _ _ _ => eventParts ++ parts17
  | .gateTransition _ => eventParts ++ [.limits, .time]
  | .gateChange _ => eventParts ++ [.tm]
  | .gateCancel _ => [.time, .tm]
  | .gateListSwap _ => eventParts ++ [.time, .tm]
  | .meterCommit _ _ _ _ => eventParts ++ [.tm]
  | .qdepthSample _ _ => eventParts ++ [.limits, .tm]
  | .sampleGroupCommit _ _ _ => [.log, .tm]
  | .helloTx _ => [.out, .stc]
  | .helloRx _ => eventParts ++ [.stc, .tbl]
  | .helloTimeout _ => eventParts ++ [.stc]
  | .stitchDataRx _ => eventParts ++ [.fx, .stc]
  | .timeExchange => eventParts ++ parts10
  | .timeRx _ => eventParts ++ parts13
  | .rejoin _ => [.stc]
  | .rejoinPendTimeout _ => eventParts ++ [.stc]
  | .resyncReplayDone _ => eventParts ++ [.stc]
  | .neighbourLost _ => eventParts ++ [.stc, .tbl]
  | .routeWrite _ _ _ => eventParts ++ [.stc]
  | .hbmPartWrite _ _ => eventParts
  | .hbmScrub _ _ _ => eventParts ++ parts16
  | .stackOff _ _ => eventParts
  | .stackOn _ _ => [.log]
  | .stackOnDone _ => []
  | .hostPerstDeassert _ => eventParts ++ [.hosts]
  | .hostDlActive _ _ _ _ _ _ => eventParts
  | .hostTrainTimeout _ _ => []
  | .hotReset _ _ => eventParts ++ parts11
  | .hostDlDown _ _ => eventParts ++ parts11
  | .hostPerstAssert _ => eventParts ++ parts11
  | .configRequest _ _ => eventParts ++ parts11
  | .barRequest _ => eventParts ++ parts17
  | .completionRx _ _ _ => eventParts ++ parts1
  | .completionTimeout _ _ => eventParts ++ parts1
  | .tagRelease _ _ => [.hosts, .out]
  | .bmeClear _ => eventParts ++ parts11
  | .flr _ => eventParts ++ parts11
  | .functionResetDone _ => eventParts ++ parts11
  | .msixUnmask _ _ => [.out]
  | .driveEn _ _ => eventParts ++ [.stor]
  | .driveDlActive _ _ _ => eventParts ++ [.stor]
  | .driveTrainTimeout _ => [.out]
  | .driveEnum _ _ => eventParts ++ [.stor]
  | .driveEnumTimeout _ => eventParts ++ [.stor]
  | .driveError _ => eventParts ++ [.stor]
  | .surpriseDown _ => eventParts ++ [.stor]
  | .driveRelease _ _ => eventParts ++ [.stor]
  | .driveRequest _ _ => eventParts ++ [.sq]
  | .mmioTimeout _ => eventParts ++ [.stor]
  | .fnRecWrite _ _ _ _ => eventParts
  | .vfEnable _ => eventParts ++ parts11
  | .vfDisable _ => eventParts ++ parts11
  | .functionDestroyDone _ => eventParts ++ [.cfgs]
  | .dlogEnable _ _ _ => eventParts ++ [.dlogs]
  | .harvest _ _ => eventParts ++ [.dlogs]
  | .harvestDone _ => eventParts ++ [.dlogs]
  | .bitmapFlush _ => eventParts ++ [.dlogs]
  | .doorbell _ _ _ => eventParts ++ [.dlogs, .hosts, .rings, .sq]
  | .ringEnable _ _ => eventParts ++ [.dlogs, .rings, .sq]
  | .ringStop _ _ => eventParts ++ [.dlogs, .rings]
  | .ringResume _ _ => eventParts ++ [.dlogs, .hosts, .rings, .sq]
  | .ringReset _ _ => eventParts ++ [.dlogs, .hosts, .rings, .sq]
  | .ringInvalidate _ _ => eventParts ++ [.hosts, .rings, .sq]
  | .ringStopped _ => eventParts ++ [.dlogs, .rings]
  | .descFetch _ _ _ => eventParts ++ [.dlogs, .hosts, .rings, .sq]
  | .descDispatch _ => eventParts ++ [.draws, .hosts, .rings, .sq]
  | .nopDesc _ => eventParts ++ parts2
  | .fence _ => eventParts ++ parts2
  | .string _ => eventParts ++ parts2
  | .stringTimeout _ => eventParts ++ [.dlogs, .rings, .sq]
  | .rxBuf _ => eventParts ++ [.dlogs, .hosts, .rings, .sq]
  | .send _ _ _ => eventParts ++ [.dlogs, .draws, .fx, .hosts, .limits, .rings, .sq]
  | .descComplete _ _ _ _ => eventParts ++ [.dlogs, .rings, .sq]
  | .headTimeExpiry _ => eventParts ++ [.dlogs, .rings, .sq]
  | .eventRecordPlace _ => eventParts ++ [.dlogs, .rings]
  | .holdLimitExpiry _ => eventParts ++ [.rings]
  | .rxFrameDeliver _ => eventParts ++ [.dlogs, .fx, .limits, .rings, .sq]
  | .microword _ _ _ => eventParts ++ parts17
  | .sqWatchdog _ _ => eventParts ++ parts17
  | .contextTimer _ _ => [.sq]
  | .sqRelease _ _ => eventParts ++ [.sq]
  | .sqInitDone _ _ => eventParts ++ parts17
  | .sqOffline _ _ => eventParts ++ parts17
  | .sqOnline _ _ => eventParts ++ [.faultsDue]
  | .sqDrained _ => eventParts
  | .ucodeLoad _ _ => eventParts ++ [.sq]
  | .ucodeQuiesced _ => [.sq]
  | .ucodeDrainTimeout => eventParts ++ [.sq]
  | .rmaWrite _ _ _ => eventParts ++ parts12
  | .rmaRead _ => eventParts ++ parts12
  | .winSet _ => eventParts ++ [.dlogs, .draws, .hosts, .rings, .rma, .sq]
  | .winRevoke _ => eventParts ++ [.dlogs, .draws, .hosts, .rings, .rma, .sq, .stor]
  | .revokeDrained _ => eventParts ++ [.dlogs, .rings, .rma, .sq]
  | .writePktRx _ _ => eventParts ++ parts9
  | .readReqRx _ _ _ _ => eventParts ++ parts9
  | .readRespRx _ => eventParts ++ parts9
  | .ackRx _ => eventParts ++ parts9
  | .rtoExpiry _ _ => eventParts ++ parts9
  | .packetDeadline _ _ => eventParts ++ parts9
  | .rateIncrease _ => [.rma]
  | .peerWaitTimeout _ => eventParts ++ [.dlogs, .rings, .rma, .sq]
  | .epEnable _ _ _ => eventParts ++ parts8
  | .epDisable _ _ _ => eventParts ++ parts8
  | .epHoldoffExpiry _ => eventParts
  | .connect _ _ => eventParts ++ [.draws, .rma, .stor]
  | .connReset _ _ => eventParts ++ parts8
  | .nsConfigWrite _ _ _ _ => eventParts ++ parts3
  | .nsDisable _ _ => eventParts
  | .nsDiscard _ _ => eventParts ++ parts3
  | .nvmFlush _ => eventParts ++ parts6
  | .nvmWrite _ _ _ _ => eventParts ++ parts12
  | .nvmRead _ _ _ _ => eventParts ++ parts12
  | .writeZeroes _ _ => eventParts ++ parts12
  | .datasetManagement _ _ _ => eventParts ++ parts6
  | .orderedWrite _ _ _ _ => eventParts ++ parts12
  | .identify _ => eventParts ++ parts6
  | .getLogPage _ => eventParts ++ parts5
  | .setFeatures _ _ _ => eventParts ++ parts5
  | .getFeatures _ => eventParts ++ parts5
  | .groupAdmit => eventParts ++ [.dlogs, .rings, .sq, .stor]
  | .groupCertify => eventParts ++ parts7
  | .certWaitWarn => eventParts ++ [.limits]
  | .destageIssue => eventParts ++ parts9
  | .destageDone _ _ => eventParts ++ parts7
  | .drvTimeout _ => eventParts ++ [.stor]
  | .drvAbortTimeout _ => eventParts ++ [.stor]
  | .apstIdle _ => [.out, .stor]
  | .keyLoad _ _ _ => eventParts ++ parts4
  | .keyErase _ => eventParts ++ parts4
  | .keyChangeDone _ => eventParts ++ [.ciph, .dlogs, .rings, .sq]
  | .ciphJob _ _ _ => eventParts ++ parts4
  | .ciphJobDone _ _ => eventParts ++ [.ciph, .dlogs, .led, .limits, .mac, .rings, .sq]
  | .supplySample _ _ _ => eventParts ++ parts17
  | .backstop => eventParts ++ [.led, .pkg]
  | .backstopRelease => eventParts ++ [.led, .pkg]
  | .overcurrent => eventParts ++ parts16
  | .overvoltage _ => eventParts ++ [.pkg]
  | .overvoltageFault => eventParts ++ parts16
  | .flicker _ => eventParts ++ [.limits]
  | .captestStart _ => eventParts ++ [.limits, .pkg]
  | .captestTimer => eventParts ++ [.limits, .pkg]
  | .captestDone _ _ _ => eventParts ++ [.limits, .pkg]
  | .forceOff _ _ => eventParts
  | .forceOffRelease _ _ => [.log]
  | .ledgerMsClose _ => eventParts ++ [.led, .limits]
  | .accountPeriodEnd _ => eventParts ++ [.led]
  | .plannerRun => eventParts ++ [.led, .limits, .tm]
  | .ledgerCopy => [.led]
  | .energySnap => [.log]
  | .bootReady _ => []
  | .clrDemoteA _ => [.boot, .log]
  | .clrDemoteB _ => [.boot, .log]
  | .imgErase _ _ => eventParts ++ [.boot]
  | .imgWrite _ _ _ => eventParts ++ [.boot]
  | .imgCommit _ _ => eventParts ++ [.boot]
  | .writeBcfg _ _ => eventParts ++ [.boot]
  | .imgCmdDone _ => eventParts ++ [.boot]
  | .floorAdvance _ => eventParts ++ [.boot]
  | .rootRevoke _ _ _ => eventParts ++ [.boot]
  | .coreRelease _ _ => eventParts
  | .sealDerive _ _ => [.ciph]
  | .attReport _ => eventParts ++ [.boot]
  | .reportDone => [.boot]
  | .regionResetReq _ _ => eventParts ++ parts17
  | .interconnectTimeout _ => eventParts ++ parts17
  | .pllUnlock _ => eventParts ++ parts17
  | .wdogKick _ _ => [.boot]
  | .supervisorWatchdog => eventParts ++ parts16
  | .violationLogInterval _ _ => eventParts
  | .flashToken => [.log]
  | .logSelect _ _ => [.draws, .log]
  | .tightropeReq _ => [.tr]
  | .tightropeTimer _ _ => eventParts ++ [.draws, .led, .tr]
  | .ageTick => [.draws, .tr]
  | .calUpdate _ _ => eventParts ++ [.cal]
  | .irqHoldoffExpiry _ => [.harts, .log, .out]
  | .pmcOverflow _ _ _ _ => eventParts
  | .ccrSweep _ _ _ => eventParts ++ [.ccr]
  | .sweepDone => eventParts ++ [.ccr, .draws, .staging]
  | .traceEnable _ _ => eventParts
  | .traceBufferEnd => eventParts
  | .extest _ _ => [.out, .tap]
  | .samplePreload _ _ => [.out, .tap]
  | .idcode => [.out, .tap]
  | .clamp _ => [.out, .tap]
  | .highz _ => [.out, .tap]
  | .dtmcs _ => [.draws, .out, .tap]
  | .dmi _ => [.draws, .out, .tap]
  | .mailbox _ => eventParts ++ [.dbg, .draws, .tap]
  | .bypass _ => [.out, .tap]
  | .debugChallenge _ => [.dbg, .draws]
  | .debugOpen _ _ => eventParts ++ [.dbg]
  | .debugOpenDone => eventParts ++ [.boot, .ciph, .dbg, .dlogs, .draws, .led, .mac, .rings, .sq]
  | .debugClose _ => eventParts ++ [.draws, .tap]
  | .challengeExpiry => [.dbg]
  | .tempSample _ => eventParts ++ [.draws, .pkg, .tr]
  | .gpioEdge _ _ => eventParts ++ [.limits]
  | .auxOverload _ => eventParts ++ [.pkg]
  | .auxRetry _ => [.pkg]
  | .smbSetAddress _ _ => [.pkg]
  | .smbBlockRead _ => [.out, .pkg]
  | .smbAlertResponse => [.out, .pkg]
  | .macsecSaInstall _ _ => eventParts ++ [.mac]
  | .macsecSaErase _ _ => eventParts ++ [.mac]
  | .macsecSaDone _ => eventParts ++ [.mac]
  | .macsecPnThreshold _ _ => eventParts ++ [.mac]
  | .lpiEntry _ _ => [.mac]
  | .lpiExit _ _ => [.mac]
  | .registerWrite _ => eventParts ++ parts17
  | .calUpdateDone _ => eventParts ++ [.cal, .tr]
  | .regionResetDone _ => eventParts ++ [.draws, .locks, .mac, .sq, .stc, .stor, .tr]
  | .supervisorMachineCheck => eventParts ++ parts16
  | .coreMachineCheck => eventParts ++ parts15
  | .aoUncorrectableError => eventParts ++ parts16
  | .hbmControllerFault => eventParts ++ parts16
  | .controlStorageError _ => eventParts ++ parts17
  | .correctableError _ => eventParts ++ [.cfgs]

/-- Commands that may store to core memory other than by a trace message (R302, R363): they end descriptors, place records, serve windows, copy core firmware or lose a stack. -/
def storesToMem : Instr → Bool
  | .powerOn _ _ _ => true
  | .bootStart _ => true
  | .keyPairDerived => false
  | .runReady => false
  | .failedStartTimeout => true
  | .vinBelowVhold => true
  | .vinRecovered => true
  | .vinBelowVvault => true
  | .vaultDone => true
  | .vinTurnOff => true
  | .rstN => true
  | .haltReq _ => true
  | .snetReq _ => true
  | .restartReq _ => true
  | .thermalTrip => true
  | .lidBreach => true
  | .alarmZeroise _ => true
  | .refclkLost => false
  | .tbCtrlWrite _ _ => true
  | .tbOffsetWrite _ _ => true
  | .slewDone => false
  | .tbSyncSet _ _ => true
  | .ptpMessageRx _ => true
  | .syncLocked _ => true
  | .syncHoldover => true
  | .errEstTick => true
  | .holdoverExpired => true
  | .ppsOutEdge => false
  | .ppsInEdge _ => false
  | .ppsInMissing => false
  | .wakeTrigger _ => false
  | .wakeComplete _ _ => false
  | .idleGate _ => false
  | .plannedWake _ => false
  | .lbCfgWrite _ _ _ => false
  | .lbSizeApply _ => false
  | .portCfgWrite _ _ _ => false
  | .subportCfgWrite _ _ _ => false
  | .anResolved _ _ _ _ => false
  | .anFail _ => false
  | .trainRequest _ _ => false
  | .trainingDone _ => false
  | .trainTimeout _ _ => false
  | .alignLock _ => false
  | .alignTimeout _ => false
  | .linkLoss _ _ _ => false
  | .remoteFaultRx _ _ => false
  | .remoteFaultClear _ => false
  | .macRxFrame _ _ => false
  | .lbGrant _ _ _ _ => true
  | .bundleRewrite _ _ _ _ => false
  | .xprofCommit _ _ _ _ => false
  | .counterLatch _ _ _ _ => false
  | .counterLatchDone _ _ => false
  | .loadSwap _ _ _ => false
  | .loadOnly _ _ _ => false
  | .swap _ => false
  | .abort _ => false
  | .epochFlip => false
  | .oldBankDrained _ => false
  | .drainTimeout => false
  | .tblCfgWrite _ _ _ _ => false
  | .tableInsert _ _ _ => false
  | .tableReplace _ _ _ => false
  | .tableWrite _ _ _ => false
  | .tableDelete _ _ _ => false
  | .tableRead _ _ _ => false
  | .tableFlush _ _ _ => false
  | .tableUpdate _ _ _ _ => true
  | .engineCommit _ _ => false
  | .ageSweep _ _ => false
  | .stitchLearnRx _ => false
  | .entryRewrite _ _ _ => false
  | .admissionEnqueue _ => false
  | .qcfgWrite _ _ _ _ => false
  | .cutThroughEligible _ => false
  | .tailWritten _ => false
  | .segmentAllocResume _ => false
  | .bgDrained _ => false
  | .dequeueSelect _ _ _ _ => true
  | .gateTransition _ => false
  | .gateChange _ => false
  | .gateCancel _ => false
  | .gateListSwap _ => false
  | .meterCommit _ _ _ _ => false
  | .qdepthSample _ _ => false
  | .sampleGroupCommit _ _ _ => false
  | .helloTx _ => false
  | .helloRx _ => false
  | .helloTimeout _ => false
  | .stitchDataRx _ => false
  | .timeExchange => true
  | .timeRx _ => true
  | .rejoin _ => false
  | .rejoinPendTimeout _ => false
  | .resyncReplayDone _ => false
  | .neighbourLost _ => false
  | .routeWrite _ _ _ => false
  | .hbmPartWrite _ _ => false
  | .hbmScrub _ _ _ => true
  | .stackOff _ _ => true
  | .stackOn _ _ => false
  | .stackOnDone _ => false
  | .hostPerstDeassert _ => false
  | .hostDlActive _ _ _ _ _ _ => false
  | .hostTrainTimeout _ _ => false
  | .hotReset _ _ => true
  | .hostDlDown _ _ => true
  | .hostPerstAssert _ => true
  | .configRequest _ _ => true
  | .barRequest _ => true
  | .completionRx _ _ _ => true
  | .completionTimeout _ _ => true
  | .tagRelease _ _ => false
  | .bmeClear _ => true
  | .flr _ => true
  | .functionResetDone _ => true
  | .msixUnmask _ _ => false
  | .driveEn _ _ => false
  | .driveDlActive _ _ _ => false
  | .driveTrainTimeout _ => false
  | .driveEnum _ _ => false
  | .driveEnumTimeout _ => false
  | .driveError _ => false
  | .surpriseDown _ => false
  | .driveRelease _ _ => false
  | .driveRequest _ _ => false
  | .mmioTimeout _ => false
  | .fnRecWrite _ _ _ _ => false
  | .vfEnable _ => true
  | .vfDisable _ => true
  | .functionDestroyDone _ => false
  | .dlogEnable _ _ _ => false
  | .harvest _ _ => false
  | .harvestDone _ => true
  | .bitmapFlush _ => true
  | .doorbell _ _ _ => true
  | .ringEnable _ _ => true
  | .ringStop _ _ => true
  | .ringResume _ _ => true
  | .ringReset _ _ => true
  | .ringInvalidate _ _ => false
  | .ringStopped _ => true
  | .descFetch _ _ _ => true
  | .descDispatch _ => false
  | .nopDesc _ => true
  | .fence _ => true
  | .string _ => true
  | .stringTimeout _ => true
  | .rxBuf _ => true
  | .send _ _ _ => true
  | .descComplete _ _ _ _ => true
  | .headTimeExpiry _ => true
  | .eventRecordPlace _ => true
  | .holdLimitExpiry _ => false
  | .rxFrameDeliver _ => true
  | .microword _ _ _ => true
  | .sqWatchdog _ _ => true
  | .contextTimer _ _ => false
  | .sqRelease _ _ => false
  | .sqInitDone _ _ => true
  | .sqOffline _ _ => true
  | .sqOnline _ _ => false
  | .sqDrained _ => false
  | .ucodeLoad _ _ => false
  | .ucodeQuiesced _ => false
  | .ucodeDrainTimeout => false
  | .rmaWrite _ _ _ => true
  | .rmaRead _ => true
  | .winSet _ => true
  | .winRevoke _ => true
  | .revokeDrained _ => true
  | .writePktRx _ _ => true
  | .readReqRx _ _ _ _ => true
  | .readRespRx _ => true
  | .ackRx _ => true
  | .rtoExpiry _ _ => true
  | .packetDeadline _ _ => true
  | .rateIncrease _ => false
  | .peerWaitTimeout _ => true
  | .epEnable _ _ _ => true
  | .epDisable _ _ _ => true
  | .epHoldoffExpiry _ => false
  | .connect _ _ => false
  | .connReset _ _ => true
  | .nsConfigWrite _ _ _ _ => true
  | .nsDisable _ _ => false
  | .nsDiscard _ _ => true
  | .nvmFlush _ => true
  | .nvmWrite _ _ _ _ => true
  | .nvmRead _ _ _ _ => true
  | .writeZeroes _ _ => true
  | .datasetManagement _ _ _ => true
  | .orderedWrite _ _ _ _ => true
  | .identify _ => true
  | .getLogPage _ => true
  | .setFeatures _ _ _ => true
  | .getFeatures _ => true
  | .groupAdmit => true
  | .groupCertify => true
  | .certWaitWarn => false
  | .destageIssue => true
  | .destageDone _ _ => true
  | .drvTimeout _ => false
  | .drvAbortTimeout _ => false
  | .apstIdle _ => false
  | .keyLoad _ _ _ => true
  | .keyErase _ => true
  | .keyChangeDone _ => true
  | .ciphJob _ _ _ => true
  | .ciphJobDone _ _ => true
  | .supplySample _ _ _ => true
  | .backstop => false
  | .backstopRelease => false
  | .overcurrent => true
  | .overvoltage _ => false
  | .overvoltageFault => true
  | .flicker _ => false
  | .captestStart _ => false
  | .captestTimer => false
  | .captestDone _ _ _ => false
  | .forceOff _ _ => false
  | .forceOffRelease _ _ => false
  | .ledgerMsClose _ => false
  | .accountPeriodEnd _ => false
  | .plannerRun => false
  | .ledgerCopy => false
  | .energySnap => false
  | .bootReady _ => false
  | .clrDemoteA _ => false
  | .clrDemoteB _ => false
  | .imgErase _ _ => false
  | .imgWrite _ _ _ => false
  | .imgCommit _ _ => false
  | .writeBcfg _ _ => false
  | .imgCmdDone _ => false
  | .floorAdvance _ => false
  | .rootRevoke _ _ _ => false
  | .coreRelease _ _ => false
  | .sealDerive _ _ => false
  | .attReport _ => false
  | .reportDone => false
  | .regionResetReq _ _ => true
  | .interconnectTimeout _ => true
  | .pllUnlock _ => true
  | .wdogKick _ _ => false
  | .supervisorWatchdog => true
  | .violationLogInterval _ _ => false
  | .flashToken => false
  | .logSelect _ _ => false
  | .tightropeReq _ => false
  | .tightropeTimer _ _ => false
  | .ageTick => false
  | .calUpdate _ _ => false
  | .irqHoldoffExpiry _ => false
  | .pmcOverflow _ _ _ _ => false
  | .ccrSweep _ _ _ => false
  | .sweepDone => false
  | .traceEnable _ _ => true
  | .traceBufferEnd => true
  | .extest _ _ => false
  | .samplePreload _ _ => false
  | .idcode => false
  | .clamp _ => false
  | .highz _ => false
  | .dtmcs _ => false
  | .dmi _ => false
  | .mailbox _ => false
  | .bypass _ => false
  | .debugChallenge _ => false
  | .debugOpen _ _ => false
  | .debugOpenDone => true
  | .debugClose _ => false
  | .challengeExpiry => false
  | .tempSample _ => false
  | .gpioEdge _ _ => false
  | .auxOverload _ => false
  | .auxRetry _ => false
  | .smbSetAddress _ _ => false
  | .smbBlockRead _ => false
  | .smbAlertResponse => false
  | .macsecSaInstall _ _ => false
  | .macsecSaErase _ _ => false
  | .macsecSaDone _ => false
  | .macsecPnThreshold _ _ => false
  | .lpiEntry _ _ => false
  | .lpiExit _ _ => false
  | .registerWrite _ => true
  | .calUpdateDone _ => false
  | .regionResetDone _ => true
  | .supervisorMachineCheck => true
  | .coreMachineCheck => true
  | .aoUncorrectableError => true
  | .hbmControllerFault => true
  | .controlStorageError _ => true
  | .correctableError _ => false

/-- Commands that may change the module state (R19). -/
def movesState : Instr → Bool
  | .powerOn _ _ _ => true
  | .bootStart _ => true
  | .keyPairDerived => false
  | .runReady => true
  | .failedStartTimeout => true
  | .vinBelowVhold => true
  | .vinRecovered => true
  | .vinBelowVvault => true
  | .vaultDone => true
  | .vinTurnOff => true
  | .rstN => true
  | .haltReq _ => true
  | .snetReq _ => true
  | .restartReq _ => true
  | .thermalTrip => true
  | .lidBreach => true
  | .alarmZeroise _ => false
  | .refclkLost => false
  | .tbCtrlWrite _ _ => false
  | .tbOffsetWrite _ _ => false
  | .slewDone => false
  | .tbSyncSet _ _ => false
  | .ptpMessageRx _ => false
  | .syncLocked _ => false
  | .syncHoldover => false
  | .errEstTick => false
  | .holdoverExpired => false
  | .ppsOutEdge => false
  | .ppsInEdge _ => false
  | .ppsInMissing => false
  | .wakeTrigger _ => false
  | .wakeComplete _ _ => false
  | .idleGate _ => false
  | .plannedWake _ => false
  | .lbCfgWrite _ _ _ => false
  | .lbSizeApply _ => false
  | .portCfgWrite _ _ _ => false
  | .subportCfgWrite _ _ _ => false
  | .anResolved _ _ _ _ => false
  | .anFail _ => false
  | .trainRequest _ _ => false
  | .trainingDone _ => false
  | .trainTimeout _ _ => false
  | .alignLock _ => false
  | .alignTimeout _ => false
  | .linkLoss _ _ _ => false
  | .remoteFaultRx _ _ => false
  | .remoteFaultClear _ => false
  | .macRxFrame _ _ => false
  | .lbGrant _ _ _ _ => true
  | .bundleRewrite _ _ _ _ => false
  | .xprofCommit _ _ _ _ => false
  | .counterLatch _ _ _ _ => false
  | .counterLatchDone _ _ => false
  | .loadSwap _ _ _ => false
  | .loadOnly _ _ _ => false
  | .swap _ => false
  | .abort _ => false
  | .epochFlip => false
  | .oldBankDrained _ => false
  | .drainTimeout => false
  | .tblCfgWrite _ _ _ _ => false
  | .tableInsert _ _ _ => false
  | .tableReplace _ _ _ => false
  | .tableWrite _ _ _ => false
  | .tableDelete _ _ _ => false
  | .tableRead _ _ _ => false
  | .tableFlush _ _ _ => false
  | .tableUpdate _ _ _ _ => false
  | .engineCommit _ _ => false
  | .ageSweep _ _ => false
  | .stitchLearnRx _ => false
  | .entryRewrite _ _ _ => false
  | .admissionEnqueue _ => false
  | .qcfgWrite _ _ _ _ => false
  | .cutThroughEligible _ => false
  | .tailWritten _ => false
  | .segmentAllocResume _ => false
  | .bgDrained _ => false
  | .dequeueSelect _ _ _ _ => true
  | .gateTransition _ => false
  | .gateChange _ => false
  | .gateCancel _ => false
  | .gateListSwap _ => false
  | .meterCommit _ _ _ _ => false
  | .qdepthSample _ _ => false
  | .sampleGroupCommit _ _ _ => false
  | .helloTx _ => false
  | .helloRx _ => false
  | .helloTimeout _ => false
  | .stitchDataRx _ => false
  | .timeExchange => false
  | .timeRx _ => false
  | .rejoin _ => false
  | .rejoinPendTimeout _ => false
  | .resyncReplayDone _ => false
  | .neighbourLost _ => false
  | .routeWrite _ _ _ => false
  | .hbmPartWrite _ _ => false
  | .hbmScrub _ _ _ => true
  | .stackOff _ _ => false
  | .stackOn _ _ => false
  | .stackOnDone _ => false
  | .hostPerstDeassert _ => false
  | .hostDlActive _ _ _ _ _ _ => false
  | .hostTrainTimeout _ _ => false
  | .hotReset _ _ => false
  | .hostDlDown _ _ => false
  | .hostPerstAssert _ => false
  | .configRequest _ _ => false
  | .barRequest _ => true
  | .completionRx _ _ _ => false
  | .completionTimeout _ _ => false
  | .tagRelease _ _ => false
  | .bmeClear _ => false
  | .flr _ => false
  | .functionResetDone _ => false
  | .msixUnmask _ _ => false
  | .driveEn _ _ => false
  | .driveDlActive _ _ _ => false
  | .driveTrainTimeout _ => false
  | .driveEnum _ _ => false
  | .driveEnumTimeout _ => false
  | .driveError _ => false
  | .surpriseDown _ => false
  | .driveRelease _ _ => false
  | .driveRequest _ _ => false
  | .mmioTimeout _ => false
  | .fnRecWrite _ _ _ _ => false
  | .vfEnable _ => false
  | .vfDisable _ => false
  | .functionDestroyDone _ => false
  | .dlogEnable _ _ _ => false
  | .harvest _ _ => false
  | .harvestDone _ => false
  | .bitmapFlush _ => false
  | .doorbell _ _ _ => false
  | .ringEnable _ _ => false
  | .ringStop _ _ => false
  | .ringResume _ _ => false
  | .ringReset _ _ => false
  | .ringInvalidate _ _ => false
  | .ringStopped _ => false
  | .descFetch _ _ _ => false
  | .descDispatch _ => false
  | .nopDesc _ => false
  | .fence _ => false
  | .string _ => false
  | .stringTimeout _ => false
  | .rxBuf _ => false
  | .send _ _ _ => false
  | .descComplete _ _ _ _ => false
  | .headTimeExpiry _ => false
  | .eventRecordPlace _ => false
  | .holdLimitExpiry _ => false
  | .rxFrameDeliver _ => false
  | .microword _ _ _ => true
  | .sqWatchdog _ _ => true
  | .contextTimer _ _ => false
  | .sqRelease _ _ => false
  | .sqInitDone _ _ => true
  | .sqOffline _ _ => true
  | .sqOnline _ _ => false
  | .sqDrained _ => false
  | .ucodeLoad _ _ => false
  | .ucodeQuiesced _ => false
  | .ucodeDrainTimeout => false
  | .rmaWrite _ _ _ => false
  | .rmaRead _ => false
  | .winSet _ => false
  | .winRevoke _ => false
  | .revokeDrained _ => false
  | .writePktRx _ _ => false
  | .readReqRx _ _ _ _ => false
  | .readRespRx _ => false
  | .ackRx _ => false
  | .rtoExpiry _ _ => false
  | .packetDeadline _ _ => false
  | .rateIncrease _ => false
  | .peerWaitTimeout _ => false
  | .epEnable _ _ _ => false
  | .epDisable _ _ _ => false
  | .epHoldoffExpiry _ => false
  | .connect _ _ => false
  | .connReset _ _ => false
  | .nsConfigWrite _ _ _ _ => false
  | .nsDisable _ _ => false
  | .nsDiscard _ _ => false
  | .nvmFlush _ => false
  | .nvmWrite _ _ _ _ => false
  | .nvmRead _ _ _ _ => false
  | .writeZeroes _ _ => false
  | .datasetManagement _ _ _ => false
  | .orderedWrite _ _ _ _ => false
  | .identify _ => false
  | .getLogPage _ => false
  | .setFeatures _ _ _ => false
  | .getFeatures _ => false
  | .groupAdmit => false
  | .groupCertify => false
  | .certWaitWarn => false
  | .destageIssue => false
  | .destageDone _ _ => false
  | .drvTimeout _ => false
  | .drvAbortTimeout _ => false
  | .apstIdle _ => false
  | .keyLoad _ _ _ => false
  | .keyErase _ => false
  | .keyChangeDone _ => false
  | .ciphJob _ _ _ => false
  | .ciphJobDone _ _ => false
  | .supplySample _ _ _ => true
  | .backstop => false
  | .backstopRelease => false
  | .overcurrent => true
  | .overvoltage _ => false
  | .overvoltageFault => true
  | .flicker _ => false
  | .captestStart _ => false
  | .captestTimer => false
  | .captestDone _ _ _ => false
  | .forceOff _ _ => false
  | .forceOffRelease _ _ => false
  | .ledgerMsClose _ => false
  | .accountPeriodEnd _ => false
  | .plannerRun => false
  | .ledgerCopy => false
  | .energySnap => false
  | .bootReady _ => false
  | .clrDemoteA _ => false
  | .clrDemoteB _ => false
  | .imgErase _ _ => false
  | .imgWrite _ _ _ => false
  | .imgCommit _ _ => false
  | .writeBcfg _ _ => false
  | .imgCmdDone _ => false
  | .floorAdvance _ => false
  | .rootRevoke _ _ _ => false
  | .coreRelease _ _ => false
  | .sealDerive _ _ => false
  | .attReport _ => false
  | .reportDone => false
  | .regionResetReq _ _ => true
  | .interconnectTimeout _ => true
  | .pllUnlock _ => true
  | .wdogKick _ _ => false
  | .supervisorWatchdog => true
  | .violationLogInterval _ _ => false
  | .flashToken => false
  | .logSelect _ _ => false
  | .tightropeReq _ => false
  | .tightropeTimer _ _ => false
  | .ageTick => false
  | .calUpdate _ _ => false
  | .irqHoldoffExpiry _ => false
  | .pmcOverflow _ _ _ _ => false
  | .ccrSweep _ _ _ => false
  | .sweepDone => false
  | .traceEnable _ _ => false
  | .traceBufferEnd => false
  | .extest _ _ => false
  | .samplePreload _ _ => false
  | .idcode => false
  | .clamp _ => false
  | .highz _ => false
  | .dtmcs _ => false
  | .dmi _ => false
  | .mailbox _ => false
  | .bypass _ => false
  | .debugChallenge _ => false
  | .debugOpen _ _ => false
  | .debugOpenDone => false
  | .debugClose _ => false
  | .challengeExpiry => false
  | .tempSample _ => false
  | .gpioEdge _ _ => false
  | .auxOverload _ => false
  | .auxRetry _ => false
  | .smbSetAddress _ _ => false
  | .smbBlockRead _ => false
  | .smbAlertResponse => false
  | .macsecSaInstall _ _ => false
  | .macsecSaErase _ _ => false
  | .macsecSaDone _ => false
  | .macsecPnThreshold _ _ => false
  | .lpiEntry _ _ => false
  | .lpiExit _ _ => false
  | .registerWrite _ => true
  | .calUpdateDone _ => false
  | .regionResetDone _ => false
  | .supervisorMachineCheck => true
  | .coreMachineCheck => true
  | .aoUncorrectableError => true
  | .hbmControllerFault => true
  | .controlStorageError _ => true
  | .correctableError _ => false

/-- The chapter of the spec whose rules give the command. -/
def chapterOf : Instr → Nat
  | .powerOn _ _ _ => 1
  | .bootStart _ => 1
  | .keyPairDerived => 21
  | .runReady => 21
  | .failedStartTimeout => 21
  | .vinBelowVhold => 19
  | .vinRecovered => 19
  | .vinBelowVvault => 1
  | .vaultDone => 19
  | .vinTurnOff => 19
  | .rstN => 1
  | .haltReq _ => 1
  | .snetReq _ => 1
  | .restartReq _ => 1
  | .thermalTrip => 24
  | .lidBreach => 24
  | .alarmZeroise _ => 18
  | .refclkLost => 2
  | .tbCtrlWrite _ _ => 2
  | .tbOffsetWrite _ _ => 2
  | .slewDone => 2
  | .tbSyncSet _ _ => 2
  | .ptpMessageRx _ => 2
  | .syncLocked _ => 2
  | .syncHoldover => 2
  | .errEstTick => 2
  | .holdoverExpired => 2
  | .ppsOutEdge => 2
  | .ppsInEdge _ => 2
  | .ppsInMissing => 2
  | .wakeTrigger _ => 2
  | .wakeComplete _ _ => 2
  | .idleGate _ => 2
  | .plannedWake _ => 2
  | .lbCfgWrite _ _ _ => 2
  | .lbSizeApply _ => 2
  | .portCfgWrite _ _ _ => 3
  | .subportCfgWrite _ _ _ => 3
  | .anResolved _ _ _ _ => 3
  | .anFail _ => 3
  | .trainRequest _ _ => 3
  | .trainingDone _ => 3
  | .trainTimeout _ _ => 3
  | .alignLock _ => 3
  | .alignTimeout _ => 3
  | .linkLoss _ _ _ => 3
  | .remoteFaultRx _ _ => 3
  | .remoteFaultClear _ => 3
  | .macRxFrame _ _ => 3
  | .lbGrant _ _ _ _ => 3
  | .bundleRewrite _ _ _ _ => 6
  | .xprofCommit _ _ _ _ => 4
  | .counterLatch _ _ _ _ => 5
  | .counterLatchDone _ _ => 5
  | .loadSwap _ _ _ => 6
  | .loadOnly _ _ _ => 6
  | .swap _ => 6
  | .abort _ => 6
  | .epochFlip => 6
  | .oldBankDrained _ => 6
  | .drainTimeout => 6
  | .tblCfgWrite _ _ _ _ => 7
  | .tableInsert _ _ _ => 7
  | .tableReplace _ _ _ => 7
  | .tableWrite _ _ _ => 7
  | .tableDelete _ _ _ => 7
  | .tableRead _ _ _ => 7
  | .tableFlush _ _ _ => 7
  | .tableUpdate _ _ _ _ => 7
  | .engineCommit _ _ => 7
  | .ageSweep _ _ => 7
  | .stitchLearnRx _ => 7
  | .entryRewrite _ _ _ => 7
  | .admissionEnqueue _ => 8
  | .qcfgWrite _ _ _ _ => 8
  | .cutThroughEligible _ => 8
  | .tailWritten _ => 8
  | .segmentAllocResume _ => 8
  | .bgDrained _ => 8
  | .dequeueSelect _ _ _ _ => 9
  | .gateTransition _ => 9
  | .gateChange _ => 9
  | .gateCancel _ => 9
  | .gateListSwap _ => 9
  | .meterCommit _ _ _ _ => 9
  | .qdepthSample _ _ => 9
  | .sampleGroupCommit _ _ _ => 9
  | .helloTx _ => 10
  | .helloRx _ => 10
  | .helloTimeout _ => 10
  | .stitchDataRx _ => 10
  | .timeExchange => 10
  | .timeRx _ => 10
  | .rejoin _ => 10
  | .rejoinPendTimeout _ => 10
  | .resyncReplayDone _ => 10
  | .neighbourLost _ => 10
  | .routeWrite _ _ _ => 10
  | .hbmPartWrite _ _ => 11
  | .hbmScrub _ _ _ => 11
  | .stackOff _ _ => 11
  | .stackOn _ _ => 11
  | .stackOnDone _ => 11
  | .hostPerstDeassert _ => 12
  | .hostDlActive _ _ _ _ _ _ => 12
  | .hostTrainTimeout _ _ => 12
  | .hotReset _ _ => 12
  | .hostDlDown _ _ => 12
  | .hostPerstAssert _ => 12
  | .configRequest _ _ => 12
  | .barRequest _ => 12
  | .completionRx _ _ _ => 12
  | .completionTimeout _ _ => 12
  | .tagRelease _ _ => 12
  | .bmeClear _ => 12
  | .flr _ => 12
  | .functionResetDone _ => 12
  | .msixUnmask _ _ => 12
  | .driveEn _ _ => 12
  | .driveDlActive _ _ _ => 12
  | .driveTrainTimeout _ => 12
  | .driveEnum _ _ => 12
  | .driveEnumTimeout _ => 12
  | .driveError _ => 12
  | .surpriseDown _ => 12
  | .driveRelease _ _ => 12
  | .driveRequest _ _ => 12
  | .mmioTimeout _ => 12
  | .fnRecWrite _ _ _ _ => 13
  | .vfEnable _ => 13
  | .vfDisable _ => 13
  | .functionDestroyDone _ => 13
  | .dlogEnable _ _ _ => 13
  | .harvest _ _ => 13
  | .harvestDone _ => 13
  | .bitmapFlush _ => 13
  | .doorbell _ _ _ => 14
  | .ringEnable _ _ => 14
  | .ringStop _ _ => 14
  | .ringResume _ _ => 14
  | .ringReset _ _ => 14
  | .ringInvalidate _ _ => 14
  | .ringStopped _ => 14
  | .descFetch _ _ _ => 14
  | .descDispatch _ => 15
  | .nopDesc _ => 14
  | .fence _ => 14
  | .string _ => 14
  | .stringTimeout _ => 14
  | .rxBuf _ => 14
  | .send _ _ _ => 14
  | .descComplete _ _ _ _ => 14
  | .headTimeExpiry _ => 14
  | .eventRecordPlace _ => 14
  | .holdLimitExpiry _ => 14
  | .rxFrameDeliver _ => 14
  | .microword _ _ _ => 15
  | .sqWatchdog _ _ => 15
  | .contextTimer _ _ => 15
  | .sqRelease _ _ => 15
  | .sqInitDone _ _ => 15
  | .sqOffline _ _ => 15
  | .sqOnline _ _ => 15
  | .sqDrained _ => 15
  | .ucodeLoad _ _ => 15
  | .ucodeQuiesced _ => 15
  | .ucodeDrainTimeout => 15
  | .rmaWrite _ _ _ => 16
  | .rmaRead _ => 16
  | .winSet _ => 16
  | .winRevoke _ => 16
  | .revokeDrained _ => 16
  | .writePktRx _ _ => 16
  | .readReqRx _ _ _ _ => 16
  | .readRespRx _ => 16
  | .ackRx _ => 16
  | .rtoExpiry _ _ => 16
  | .packetDeadline _ _ => 16
  | .rateIncrease _ => 16
  | .peerWaitTimeout _ => 16
  | .epEnable _ _ _ => 16
  | .epDisable _ _ _ => 16
  | .epHoldoffExpiry _ => 16
  | .connect _ _ => 16
  | .connReset _ _ => 16
  | .nsConfigWrite _ _ _ _ => 17
  | .nsDisable _ _ => 17
  | .nsDiscard _ _ => 17
  | .nvmFlush _ => 17
  | .nvmWrite _ _ _ _ => 17
  | .nvmRead _ _ _ _ => 17
  | .writeZeroes _ _ => 17
  | .datasetManagement _ _ _ => 17
  | .orderedWrite _ _ _ _ => 17
  | .identify _ => 17
  | .getLogPage _ => 17
  | .setFeatures _ _ _ => 17
  | .getFeatures _ => 17
  | .groupAdmit => 17
  | .groupCertify => 17
  | .certWaitWarn => 17
  | .destageIssue => 17
  | .destageDone _ _ => 17
  | .drvTimeout _ => 17
  | .drvAbortTimeout _ => 17
  | .apstIdle _ => 17
  | .keyLoad _ _ _ => 18
  | .keyErase _ => 18
  | .keyChangeDone _ => 18
  | .ciphJob _ _ _ => 18
  | .ciphJobDone _ _ => 18
  | .supplySample _ _ _ => 19
  | .backstop => 19
  | .backstopRelease => 19
  | .overcurrent => 19
  | .overvoltage _ => 19
  | .overvoltageFault => 19
  | .flicker _ => 19
  | .captestStart _ => 19
  | .captestTimer => 19
  | .captestDone _ _ _ => 19
  | .forceOff _ _ => 19
  | .forceOffRelease _ _ => 19
  | .ledgerMsClose _ => 20
  | .accountPeriodEnd _ => 20
  | .plannerRun => 20
  | .ledgerCopy => 20
  | .energySnap => 20
  | .bootReady _ => 21
  | .clrDemoteA _ => 21
  | .clrDemoteB _ => 21
  | .imgErase _ _ => 21
  | .imgWrite _ _ _ => 21
  | .imgCommit _ _ => 21
  | .writeBcfg _ _ => 21
  | .imgCmdDone _ => 21
  | .floorAdvance _ => 21
  | .rootRevoke _ _ _ => 21
  | .coreRelease _ _ => 21
  | .sealDerive _ _ => 21
  | .attReport _ => 21
  | .reportDone => 21
  | .regionResetReq _ _ => 22
  | .interconnectTimeout _ => 22
  | .pllUnlock _ => 22
  | .wdogKick _ _ => 22
  | .supervisorWatchdog => 22
  | .violationLogInterval _ _ => 12
  | .flashToken => 22
  | .logSelect _ _ => 22
  | .tightropeReq _ => 22
  | .tightropeTimer _ _ => 22
  | .ageTick => 22
  | .calUpdate _ _ => 22
  | .irqHoldoffExpiry _ => 23
  | .pmcOverflow _ _ _ _ => 23
  | .ccrSweep _ _ _ => 23
  | .sweepDone => 23
  | .traceEnable _ _ => 23
  | .traceBufferEnd => 23
  | .extest _ _ => 23
  | .samplePreload _ _ => 23
  | .idcode => 23
  | .clamp _ => 23
  | .highz _ => 23
  | .dtmcs _ => 23
  | .dmi _ => 23
  | .mailbox _ => 23
  | .bypass _ => 23
  | .debugChallenge _ => 23
  | .debugOpen _ _ => 23
  | .debugOpenDone => 23
  | .debugClose _ => 23
  | .challengeExpiry => 23
  | .tempSample _ => 24
  | .gpioEdge _ _ => 24
  | .auxOverload _ => 24
  | .auxRetry _ => 24
  | .smbSetAddress _ _ => 24
  | .smbBlockRead _ => 24
  | .smbAlertResponse => 24
  | .macsecSaInstall _ _ => 3
  | .macsecSaErase _ _ => 3
  | .macsecSaDone _ => 3
  | .macsecPnThreshold _ _ => 3
  | .lpiEntry _ _ => 3
  | .lpiExit _ _ => 3
  | .registerWrite _ => 0
  | .calUpdateDone _ => 22
  | .regionResetDone _ => 22
  | .supervisorMachineCheck => 22
  | .coreMachineCheck => 21
  | .aoUncorrectableError => 22
  | .hbmControllerFault => 22
  | .controlStorageError _ => 22
  | .correctableError _ => 12

end Sys2Proof.Machine
end

