-- ==== Sys2Proof/WellFormed.lean ====
section
/-! DEFINITION. Which commands are well formed: what an operand's type alone does not say of the lists and packets that a command carries. -/

namespace Sys2Proof

/-- No value stands twice in a list. -/
def distinct {α : Type} [DecidableEq α] : List α → Bool
  | [] => true
  | x :: xs => !xs.contains x && distinct xs

/-- A 32-bit access is naturally aligned, and so is a 64-bit one (R8, R679). -/
def RegWrite.formed (w : RegWrite) : Bool := if w.wide then w.addr.toNat % 8 == 0 else w.addr.toNat % 4 == 0 && w.value.toNat / 2 ^ 32 == 0

/-- A request of whole words that crosses no 4 KiB boundary (R326); a write carries its bytes. -/
def BarTlp.formed (r : BarTlp) : Bool :=
  let o := r.offset.toNat
  let n := 4 * r.dws.val
  decide (0 < n) && o % 4 == 0 && o / 4096 == (o + n - 1) / 4096 && (!r.write || r.data.length == n)

/-- Well-formed commands. -/
def Instr.wf : Instr → Bool
  | .powerOn _ _ _ => true
  | .bootStart _ => true
  | .keyPairDerived => true
  | .runReady => true
  | .failedStartTimeout => true
  | .vinBelowVhold => true
  | .vinRecovered => true
  | .vinBelowVvault => true
  | .vaultDone => true
  | .vinTurnOff => true
  | .rstN => true
  | .haltReq _ => true
  | .snetReq _ => true
  | .restartReq _ => true
  | .thermalTrip => true
  | .lidBreach => true
  | .alarmZeroise _ => true
  | .refclkLost => true
  | .tbCtrlWrite _ _ => true
  | .tbOffsetWrite _ _ => true
  | .slewDone => true
  | .tbSyncSet _ _ => true
  | .ptpMessageRx _ => true
  | .syncLocked _ => true
  | .syncHoldover => true
  | .errEstTick => true
  | .holdoverExpired => true
  | .ppsOutEdge => true
  | .ppsInEdge _ => true
  | .ppsInMissing => true
  | .wakeTrigger _ => true
  | .wakeComplete _ _ => true
  | .idleGate _ => true
  | .plannedWake _ => true
  | .lbCfgWrite _ _ _ => true
  | .lbSizeApply _ => true
  | .portCfgWrite _ _ _ => true
  | .subportCfgWrite _ _ _ => true
  | .anResolved _ _ _ _ => true
  | .anFail _ => true
  | .trainRequest _ _ => true
  | .trainingDone _ => true
  | .trainTimeout _ _ => true
  | .alignLock _ => true
  | .alignTimeout _ => true
  | .linkLoss _ _ _ => true
  | .remoteFaultRx _ _ => true
  | .remoteFaultClear _ => true
  | .macRxFrame _ _ => true
  | .lbGrant _ _ _ _ => true
  | .bundleRewrite _ _ _ _ => true
  | .xprofCommit _ _ _ _ => true
  | .counterLatch _ _ _ _ => true
  | .counterLatchDone _ _ => true
  | .loadSwap _ _ _ => true
  | .loadOnly _ _ _ => true
  | .swap _ => true
  | .abort _ => true
  | .epochFlip => true
  | .oldBankDrained _ => true
  | .drainTimeout => true
  | .tblCfgWrite _ _ _ _ => true
  | .tableInsert _ _ _ => true
  | .tableReplace _ _ _ => true
  | .tableWrite _ _ _ => true
  | .tableDelete _ _ _ => true
  | .tableRead _ _ _ => true
  | .tableFlush _ _ _ => true
  | .tableUpdate _ _ _ _ => true
  | .engineCommit _ _ => true
  | .ageSweep _ _ => true
  | .stitchLearnRx _ => true
  | .entryRewrite _ _ _ => true
  | .admissionEnqueue _ => true
  | .qcfgWrite _ _ _ _ => true
  | .cutThroughEligible _ => true
  | .tailWritten _ => true
  | .segmentAllocResume _ => true
  | .bgDrained _ => true
  | .dequeueSelect _ _ _ _ => true
  | .gateTransition _ => true
  | .gateChange _ => true
  | .gateCancel _ => true
  | .gateListSwap _ => true
  | .meterCommit _ _ _ _ => true
  | .qdepthSample _ _ => true
  | .sampleGroupCommit _ _ _ => true
  | .helloTx _ => true
  | .helloRx _ => true
  | .helloTimeout _ => true
  | .stitchDataRx _ => true
  | .timeExchange => true
  | .timeRx _ => true
  | .rejoin _ => true
  | .rejoinPendTimeout _ => true
  | .resyncReplayDone _ => true
  | .neighbourLost _ => true
  | .routeWrite _ _ _ => true
  | .hbmPartWrite _ _ => true
  | .hbmScrub _ _ _ => true
  | .stackOff _ _ => true
  | .stackOn _ _ => true
  | .stackOnDone _ => true
  | .hostPerstDeassert _ => true
  | .hostDlActive _ _ _ _ _ _ => true
  | .hostTrainTimeout _ _ => true
  | .hotReset _ _ => true
  | .hostDlDown _ _ => true
  | .hostPerstAssert _ => true
  | .configRequest _ _ => true
  | .barRequest r => r.formed
  | .completionRx _ _ _ => true
  | .completionTimeout _ _ => true
  | .tagRelease _ _ => true
  | .bmeClear _ => true
  | .flr _ => true
  | .functionResetDone _ => true
  | .msixUnmask _ _ => true
  | .driveEn _ _ => true
  | .driveDlActive _ _ _ => true
  | .driveTrainTimeout _ => true
  | .driveEnum _ _ => true
  | .driveEnumTimeout _ => true
  | .driveError _ => true
  | .surpriseDown _ => true
  | .driveRelease _ _ => true
  | .driveRequest _ _ => true
  | .mmioTimeout _ => true
  | .fnRecWrite _ _ _ _ => true
  | .vfEnable _ => true
  | .vfDisable _ => true
  | .functionDestroyDone _ => true
  | .dlogEnable _ _ _ => true
  | .harvest _ _ => true
  | .harvestDone _ => true
  | .bitmapFlush _ => true
  | .doorbell _ _ _ => true
  | .ringEnable _ _ => true
  | .ringStop _ _ => true
  | .ringResume _ _ => true
  | .ringReset _ _ => true
  | .ringInvalidate _ _ => true
  | .ringStopped _ => true
  | .descFetch _ _ entries => entries.all (fun e => e.length == 64)
  | .descDispatch _ => true
  | .nopDesc _ => true
  | .fence _ => true
  | .string _ => true
  | .stringTimeout _ => true
  | .rxBuf _ => true
  | .send _ _ _ => true
  | .descComplete _ _ _ _ => true
  | .headTimeExpiry _ => true
  | .eventRecordPlace _ => true
  | .holdLimitExpiry _ => true
  | .rxFrameDeliver _ => true
  | .microword _ _ o => o.scratch.length == 8
  | .sqWatchdog _ _ => true
  | .contextTimer _ _ => true
  | .sqRelease _ _ => true
  | .sqInitDone _ _ => true
  | .sqOffline _ _ => true
  | .sqOnline _ _ => true
  | .sqDrained _ => true
  | .ucodeLoad _ _ => true
  | .ucodeQuiesced _ => true
  | .ucodeDrainTimeout => true
  | .rmaWrite _ _ _ => true
  | .rmaRead _ => true
  | .winSet _ => true
  | .winRevoke _ => true
  | .revokeDrained _ => true
  | .writePktRx _ _ => true
  | .readReqRx _ _ _ _ => true
  | .readRespRx _ => true
  | .ackRx _ => true
  | .rtoExpiry _ _ => true
  | .packetDeadline _ _ => true
  | .rateIncrease _ => true
  | .peerWaitTimeout _ => true
  | .epEnable _ _ _ => true
  | .epDisable _ _ _ => true
  | .epHoldoffExpiry _ => true
  | .connect _ _ => true
  | .connReset _ _ => true
  | .nsConfigWrite _ _ _ _ => true
  | .nsDisable _ _ => true
  | .nsDiscard _ _ => true
  | .nvmFlush _ => true
  | .nvmWrite _ _ _ _ => true
  | .nvmRead _ _ _ _ => true
  | .writeZeroes _ _ => true
  | .datasetManagement _ _ _ => true
  | .orderedWrite _ _ _ _ => true
  | .identify _ => true
  | .getLogPage _ => true
  | .setFeatures _ _ _ => true
  | .getFeatures _ => true
  | .groupAdmit => true
  | .groupCertify => true
  | .certWaitWarn => true
  | .destageIssue => true
  | .destageDone _ _ => true
  | .drvTimeout _ => true
  | .drvAbortTimeout _ => true
  | .apstIdle _ => true
  | .keyLoad _ _ _ => true
  | .keyErase _ => true
  | .keyChangeDone _ => true
  | .ciphJob _ _ _ => true
  | .ciphJobDone _ _ => true
  | .supplySample _ _ _ => true
  | .backstop => true
  | .backstopRelease => true
  | .overcurrent => true
  | .overvoltage _ => true
  | .overvoltageFault => true
  | .flicker _ => true
  | .captestStart _ => true
  | .captestTimer => true
  | .captestDone _ _ _ => true
  | .forceOff _ _ => true
  | .forceOffRelease _ _ => true
  | .ledgerMsClose acts => acts.all (fun x => decide (x.counts.length ≤ 8))
  | .accountPeriodEnd _ => true
  | .plannerRun => true
  | .ledgerCopy => true
  | .energySnap => true
  | .bootReady _ => true
  | .clrDemoteA _ => true
  | .clrDemoteB _ => true
  | .imgErase _ _ => true
  | .imgWrite _ _ _ => true
  | .imgCommit _ _ => true
  | .writeBcfg _ _ => true
  | .imgCmdDone _ => true
  | .floorAdvance _ => true
  | .rootRevoke _ _ _ => true
  | .coreRelease _ _ => true
  | .sealDerive _ _ => true
  | .attReport _ => true
  | .reportDone => true
  | .regionResetReq _ _ => true
  | .interconnectTimeout _ => true
  | .pllUnlock _ => true
  | .wdogKick _ _ => true
  | .supervisorWatchdog => true
  | .violationLogInterval _ _ => true
  | .flashToken => true
  | .logSelect _ _ => true
  | .tightropeReq _ => true
  | .tightropeTimer mons trims => distinct (mons.map (·.mon.val)) && distinct (trims.map (·.region.val))
  | .ageTick => true
  | .calUpdate _ _ => true
  | .irqHoldoffExpiry _ => true
  | .pmcOverflow _ _ _ _ => true
  | .ccrSweep _ _ _ => true
  | .sweepDone => true
  | .traceEnable _ _ => true
  | .traceBufferEnd => true
  | .extest _ _ => true
  | .samplePreload _ _ => true
  | .idcode => true
  | .clamp _ => true
  | .highz _ => true
  | .dtmcs _ => true
  | .dmi _ => true
  | .mailbox _ => true
  | .bypass _ => true
  | .debugChallenge _ => true
  | .debugOpen _ _ => true
  | .debugOpenDone => true
  | .debugClose _ => true
  | .challengeExpiry => true
  | .tempSample readings => readings.length == 48
  | .gpioEdge _ _ => true
  | .auxOverload _ => true
  | .auxRetry _ => true
  | .smbSetAddress _ _ => true
  | .smbBlockRead _ => true
  | .smbAlertResponse => true
  | .macsecSaInstall _ _ => true
  | .macsecSaErase _ _ => true
  | .macsecSaDone _ => true
  | .macsecPnThreshold _ _ => true
  | .lpiEntry _ _ => true
  | .lpiExit _ _ => true
  | .registerWrite writes => writes.all RegWrite.formed
  | .calUpdateDone _ => true
  | .regionResetDone _ => true
  | .supervisorMachineCheck => true
  | .coreMachineCheck => true
  | .aoUncorrectableError => true
  | .hbmControllerFault => true
  | .controlStorageError _ => true
  | .correctableError _ => true

/-- The commands that carry a list or a packet with a form of its own. -/
def Instr.carries : Instr → Bool
  | .powerOn _ _ _ => false
  | .bootStart _ => false
  | .keyPairDerived => false
  | .runReady => false
  | .failedStartTimeout => false
  | .vinBelowVhold => false
  | .vinRecovered => false
  | .vinBelowVvault => false
  | .vaultDone => false
  | .vinTurnOff => false
  | .rstN => false
  | .haltReq _ => false
  | .snetReq _ => false
  | .restartReq _ => false
  | .thermalTrip => false
  | .lidBreach => false
  | .alarmZeroise _ => false
  | .refclkLost => false
  | .tbCtrlWrite _ _ => false
  | .tbOffsetWrite _ _ => false
  | .slewDone => false
  | .tbSyncSet _ _ => false
  | .ptpMessageRx _ => false
  | .syncLocked _ => false
  | .syncHoldover => false
  | .errEstTick => false
  | .holdoverExpired => false
  | .ppsOutEdge => false
  | .ppsInEdge _ => false
  | .ppsInMissing => false
  | .wakeTrigger _ => false
  | .wakeComplete _ _ => false
  | .idleGate _ => false
  | .plannedWake _ => false
  | .lbCfgWrite _ _ _ => false
  | .lbSizeApply _ => false
  | .portCfgWrite _ _ _ => false
  | .subportCfgWrite _ _ _ => false
  | .anResolved _ _ _ _ => false
  | .anFail _ => false
  | .trainRequest _ _ => false
  | .trainingDone _ => false
  | .trainTimeout _ _ => false
  | .alignLock _ => false
  | .alignTimeout _ => false
  | .linkLoss _ _ _ => false
  | .remoteFaultRx _ _ => false
  | .remoteFaultClear _ => false
  | .macRxFrame _ _ => false
  | .lbGrant _ _ _ _ => false
  | .bundleRewrite _ _ _ _ => false
  | .xprofCommit _ _ _ _ => false
  | .counterLatch _ _ _ _ => false
  | .counterLatchDone _ _ => false
  | .loadSwap _ _ _ => false
  | .loadOnly _ _ _ => false
  | .swap _ => false
  | .abort _ => false
  | .epochFlip => false
  | .oldBankDrained _ => false
  | .drainTimeout => false
  | .tblCfgWrite _ _ _ _ => false
  | .tableInsert _ _ _ => false
  | .tableReplace _ _ _ => false
  | .tableWrite _ _ _ => false
  | .tableDelete _ _ _ => false
  | .tableRead _ _ _ => false
  | .tableFlush _ _ _ => false
  | .tableUpdate _ _ _ _ => false
  | .engineCommit _ _ => false
  | .ageSweep _ _ => false
  | .stitchLearnRx _ => false
  | .entryRewrite _ _ _ => false
  | .admissionEnqueue _ => false
  | .qcfgWrite _ _ _ _ => false
  | .cutThroughEligible _ => false
  | .tailWritten _ => false
  | .segmentAllocResume _ => false
  | .bgDrained _ => false
  | .dequeueSelect _ _ _ _ => false
  | .gateTransition _ => false
  | .gateChange _ => false
  | .gateCancel _ => false
  | .gateListSwap _ => false
  | .meterCommit _ _ _ _ => false
  | .qdepthSample _ _ => false
  | .sampleGroupCommit _ _ _ => false
  | .helloTx _ => false
  | .helloRx _ => false
  | .helloTimeout _ => false
  | .stitchDataRx _ => false
  | .timeExchange => false
  | .timeRx _ => false
  | .rejoin _ => false
  | .rejoinPendTimeout _ => false
  | .resyncReplayDone _ => false
  | .neighbourLost _ => false
  | .routeWrite _ _ _ => false
  | .hbmPartWrite _ _ => false
  | .hbmScrub _ _ _ => false
  | .stackOff _ _ => false
  | .stackOn _ _ => false
  | .stackOnDone _ => false
  | .hostPerstDeassert _ => false
  | .hostDlActive _ _ _ _ _ _ => false
  | .hostTrainTimeout _ _ => false
  | .hotReset _ _ => false
  | .hostDlDown _ _ => false
  | .hostPerstAssert _ => false
  | .configRequest _ _ => false
  | .barRequest _ => true
  | .completionRx _ _ _ => false
  | .completionTimeout _ _ => false
  | .tagRelease _ _ => false
  | .bmeClear _ => false
  | .flr _ => false
  | .functionResetDone _ => false
  | .msixUnmask _ _ => false
  | .driveEn _ _ => false
  | .driveDlActive _ _ _ => false
  | .driveTrainTimeout _ => false
  | .driveEnum _ _ => false
  | .driveEnumTimeout _ => false
  | .driveError _ => false
  | .surpriseDown _ => false
  | .driveRelease _ _ => false
  | .driveRequest _ _ => false
  | .mmioTimeout _ => false
  | .fnRecWrite _ _ _ _ => false
  | .vfEnable _ => false
  | .vfDisable _ => false
  | .functionDestroyDone _ => false
  | .dlogEnable _ _ _ => false
  | .harvest _ _ => false
  | .harvestDone _ => false
  | .bitmapFlush _ => false
  | .doorbell _ _ _ => false
  | .ringEnable _ _ => false
  | .ringStop _ _ => false
  | .ringResume _ _ => false
  | .ringReset _ _ => false
  | .ringInvalidate _ _ => false
  | .ringStopped _ => false
  | .descFetch _ _ _ => true
  | .descDispatch _ => false
  | .nopDesc _ => false
  | .fence _ => false
  | .string _ => false
  | .stringTimeout _ => false
  | .rxBuf _ => false
  | .send _ _ _ => false
  | .descComplete _ _ _ _ => false
  | .headTimeExpiry _ => false
  | .eventRecordPlace _ => false
  | .holdLimitExpiry _ => false
  | .rxFrameDeliver _ => false
  | .microword _ _ _ => true
  | .sqWatchdog _ _ => false
  | .contextTimer _ _ => false
  | .sqRelease _ _ => false
  | .sqInitDone _ _ => false
  | .sqOffline _ _ => false
  | .sqOnline _ _ => false
  | .sqDrained _ => false
  | .ucodeLoad _ _ => false
  | .ucodeQuiesced _ => false
  | .ucodeDrainTimeout => false
  | .rmaWrite _ _ _ => false
  | .rmaRead _ => false
  | .winSet _ => false
  | .winRevoke _ => false
  | .revokeDrained _ => false
  | .writePktRx _ _ => false
  | .readReqRx _ _ _ _ => false
  | .readRespRx _ => false
  | .ackRx _ => false
  | .rtoExpiry _ _ => false
  | .packetDeadline _ _ => false
  | .rateIncrease _ => false
  | .peerWaitTimeout _ => false
  | .epEnable _ _ _ => false
  | .epDisable _ _ _ => false
  | .epHoldoffExpiry _ => false
  | .connect _ _ => false
  | .connReset _ _ => false
  | .nsConfigWrite _ _ _ _ => false
  | .nsDisable _ _ => false
  | .nsDiscard _ _ => false
  | .nvmFlush _ => false
  | .nvmWrite _ _ _ _ => false
  | .nvmRead _ _ _ _ => false
  | .writeZeroes _ _ => false
  | .datasetManagement _ _ _ => false
  | .orderedWrite _ _ _ _ => false
  | .identify _ => false
  | .getLogPage _ => false
  | .setFeatures _ _ _ => false
  | .getFeatures _ => false
  | .groupAdmit => false
  | .groupCertify => false
  | .certWaitWarn => false
  | .destageIssue => false
  | .destageDone _ _ => false
  | .drvTimeout _ => false
  | .drvAbortTimeout _ => false
  | .apstIdle _ => false
  | .keyLoad _ _ _ => false
  | .keyErase _ => false
  | .keyChangeDone _ => false
  | .ciphJob _ _ _ => false
  | .ciphJobDone _ _ => false
  | .supplySample _ _ _ => false
  | .backstop => false
  | .backstopRelease => false
  | .overcurrent => false
  | .overvoltage _ => false
  | .overvoltageFault => false
  | .flicker _ => false
  | .captestStart _ => false
  | .captestTimer => false
  | .captestDone _ _ _ => false
  | .forceOff _ _ => false
  | .forceOffRelease _ _ => false
  | .ledgerMsClose _ => true
  | .accountPeriodEnd _ => false
  | .plannerRun => false
  | .ledgerCopy => false
  | .energySnap => false
  | .bootReady _ => false
  | .clrDemoteA _ => false
  | .clrDemoteB _ => false
  | .imgErase _ _ => false
  | .imgWrite _ _ _ => false
  | .imgCommit _ _ => false
  | .writeBcfg _ _ => false
  | .imgCmdDone _ => false
  | .floorAdvance _ => false
  | .rootRevoke _ _ _ => false
  | .coreRelease _ _ => false
  | .sealDerive _ _ => false
  | .attReport _ => false
  | .reportDone => false
  | .regionResetReq _ _ => false
  | .interconnectTimeout _ => false
  | .pllUnlock _ => false
  | .wdogKick _ _ => false
  | .supervisorWatchdog => false
  | .violationLogInterval _ _ => false
  | .flashToken => false
  | .logSelect _ _ => false
  | .tightropeReq _ => false
  | .tightropeTimer _ _ => true
  | .ageTick => false
  | .calUpdate _ _ => false
  | .irqHoldoffExpiry _ => false
  | .pmcOverflow _ _ _ _ => false
  | .ccrSweep _ _ _ => false
  | .sweepDone => false
  | .traceEnable _ _ => false
  | .traceBufferEnd => false
  | .extest _ _ => false
  | .samplePreload _ _ => false
  | .idcode => false
  | .clamp _ => false
  | .highz _ => false
  | .dtmcs _ => false
  | .dmi _ => false
  | .mailbox _ => false
  | .bypass _ => false
  | .debugChallenge _ => false
  | .debugOpen _ _ => false
  | .debugOpenDone => false
  | .debugClose _ => false
  | .challengeExpiry => false
  | .tempSample _ => true
  | .gpioEdge _ _ => false
  | .auxOverload _ => false
  | .auxRetry _ => false
  | .smbSetAddress _ _ => false
  | .smbBlockRead _ => false
  | .smbAlertResponse => false
  | .macsecSaInstall _ _ => false
  | .macsecSaErase _ _ => false
  | .macsecSaDone _ => false
  | .macsecPnThreshold _ _ => false
  | .lpiEntry _ _ => false
  | .lpiExit _ _ => false
  | .registerWrite _ => true
  | .calUpdateDone _ => false
  | .regionResetDone _ => false
  | .supervisorMachineCheck => false
  | .coreMachineCheck => false
  | .aoUncorrectableError => false
  | .hbmControllerFault => false
  | .controlStorageError _ => false
  | .correctableError _ => false

end Sys2Proof
end

