-- ==== Sys2Proof/Certificates/Slice0/Obligations.lean ====
section
/-! DEFINITION. The statements about the model: what the module does at each command, what a command leaves alone, and what every step keeps. -/

section

open Sys2Proof Sys2Proof.Machine

/-- A step takes the command at the front of the queue and runs it with the queue's rest; on an empty queue time passes (01_module_overview.md, 02_time_clocks_wake.md, 23_events_counters_debug.md). The queue and the passing of time on an empty queue are the model's own (log entry 1). -/
def Obligations.StepRunsFrontCommand : Prop :=
  (∀ (c : Instr) (rest : List Instr) (s : State), s.pending = c :: rest → step s = exec c (s.withPending rest))
  ∧ (∀ s : State, s.pending = [] → s.powered = false → s.mode = .off ∧ step s = .next s)
  ∧ (∀ s : State, s.pending = [] → s.powered = true → s.tpll = true → s.time.phase < 159 → step s = .next s.interpolate ∧ s.interpolate.pending = [])
  ∧ (∀ s : State, s.pending = [] → s.powered = true → s.tpll = false ∨ 159 ≤ s.time.phase →
    step s = .next s.tick.pmcTick.progTick.ucodeTick.calTick.trTick ∧ s.tick.pmcTick.progTick.ucodeTick.calTick.trTick.pending = [])

/-- Time passes in quarters of a nanosecond between ticks, a tick makes up 40 ns, and the step in hand is added with it (01_module_overview.md, 02_time_clocks_wake.md). -/
def Obligations.TickAdvancesTheTimeBase : Prop :=
  (∀ s : State, s.time.slew = 0 → s.tbRate = 0 →
    s.interpolate.now = (s.now + (s.time.frac + nsUnit / 4) / nsUnit) % 2 ^ 64 ∧ s.interpolate.time.frac = (s.time.frac + nsUnit / 4) % nsUnit
      ∧ s.interpolate.time.phase = s.time.phase + 1 ∧ s.interpolate.time.step = s.time.step)
  ∧ (∀ s : State, s.powered = true → s.time.slew = 0 → s.tbRate = 0 →
    s.tick.now = (s.now + (s.time.frac + (160 - s.time.phase) * (nsUnit / 4) + s.time.step * nsUnit) / nsUnit) % 2 ^ 64
      ∧ s.tick.time.frac = (s.time.frac + (160 - s.time.phase) * (nsUnit / 4) + s.time.step * nsUnit) % nsUnit
      ∧ s.tick.time.phase = 0 ∧ s.tick.time.step = 0)

/-- Every command of the table answers a next state in every state and leaves the commands that wait as they are (01_module_overview.md, 11_compute_memory.md). -/
def Obligations.EveryCommandCompletes : Prop :=
  ∀ (i : Instr) (s : State), ∃ t, exec i s = .next t ∧ t.pending = s.pending

/-- After reset the module is OFF, nothing waits or is stored, and the registers hold their reset values (01_module_overview.md, 02_time_clocks_wake.md). Where the spec gives a field no reset value the model's own stands (log entries 26 and 27). -/
def Obligations.ResetState : Prop :=
  State.reset.powered = false ∧ State.reset.mode = .off ∧ State.reset.pending = [] ∧ State.reset.mem = [] ∧ State.reset.staging = []
  ∧ State.reset.memWf = true ∧ State.reset.now = 0 ∧ State.reset.fld F.AO_MODULE_STATE_TS_TS = 0 ∧ State.reset.fld F.AO_MODULE_STATE_TRANSITIONS = 0
  ∧ State.reset.tbRate = 0 ∧ State.reset.out = [] ∧ State.reset.boot.floor = 0 ∧ State.reset.boot.revoked = 0
  ∧ (∀ (f : Fld) (i : Nat), State.reset.fld f i = f.rst i)

/-- Every step keeps core memory and the staging area in their canonical form (11_compute_memory.md). -/
def Obligations.StepKeepsMemoryForm : Prop :=
  ∀ s t : State, s.memWf = true → step s = .next t → t.memWf = true

/-- No command but those that R19 and the module's faults name moves the module out of its state (01_module_overview.md, 22_faults_ageing_calibration.md). -/
def Obligations.OnlyTransitionsMoveTheState : Prop :=
  ∀ (i : Instr) (s t : State), movesState i = false → exec i s = .next t → t.mode = s.mode

/-- A command that stores nothing leaves every byte of core memory as it was (11_compute_memory.md, 14_rings_doorbells.md, 23_events_counters_debug.md). -/
def Obligations.MemoryFrame : Prop :=
  ∀ (i : Instr) (s t : State), storesToMem i = false → s.fld F.CX_DBG_TRACE_EN = 0 → exec i s = .next t → ∀ a : Nat, t.memByte a = s.memByte a

/-- No command takes back a blown fuse: FLOOR never falls and a revocation bit once set stays set (21_boot_trust.md). -/
def Obligations.FusesOnlyAdvance : Prop :=
  ∀ (i : Instr) (s t : State), exec i s = .next t → s.boot.floor ≤ t.boot.floor ∧ ∀ r : Nat, bit s.boot.revoked r = true → bit t.boot.revoked r = true

/-- The writes of one clock are applied one after another, lowest rank first, and within a rank in descending order of index (R31, R32). -/
def Obligations.SameClockWrites : Prop :=
  (∀ (s : State) (ws : List RegWrite), s.powered = true →
    exec (.registerWrite ws) s = .next ((s.inOrder ws).foldl State.access s).settleDue ∧ (s.inOrder ws).Perm ws
      ∧ (s.inOrder ws).Pairwise (fun a b => s.rank b.who < s.rank a.who ∨ (s.rank a.who = s.rank b.who ∧ partyIndex b.who ≤ partyIndex a.who)))
  ∧ (∀ s : State, s.rank .faultLogic = 1 ∧ s.rank .supervisor = 2 ∧ (∀ fi : Fin 2056, s.rank (.fn fi) = if fi.val = s.mgr then 3 else 4)
      ∧ (∀ k : Fin 32, s.rank (.core k) = 5) ∧ (∀ n : Fin 16, s.rank (.sequencer n) = 6))
  ∧ (∀ (fi : Fin 2056) (k : Fin 32) (n : Fin 16), partyIndex (.fn fi) = fi.val ∧ partyIndex (.core k) = k.val ∧ partyIndex (.sequencer n) = n.val)
  ∧ (∀ (s : State) (w : Fin 24) (fi : Fin 2056) (u v : Dword), s.powered = true → s.fenced 0 = false → s.faultsDue = [] → s.request = 0 → s.mode ≠ .safetyNet →
      fi.val = s.mgr → ∃ t, exec (.registerWrite [
        { who := .supervisor, addr := BitVec.ofNat 32 (0x00800100 + 4 * w), value := u, wide := false, bad := false },
        { who := .fn fi, addr := BitVec.ofNat 32 (0x00800100 + 4 * w), value := v, wide := false, bad := false }]) s = .next t
      ∧ t.fld F.AO_ATT_IN_WORD w = u.toNat % 2 ^ 32)
  ∧ (∀ (s : State) (a b : Party) (x y : Word) (u v : Dword), s.rank a < s.rank b ∨ (s.rank a = s.rank b ∧ partyIndex a < partyIndex b) →
      s.inOrder [⟨a, x, u, false, false⟩, ⟨b, y, v, false, false⟩] = [⟨b, y, v, false, false⟩, ⟨a, x, u, false, false⟩]
      ∧ s.inOrder [⟨b, y, v, false, false⟩, ⟨a, x, u, false, false⟩] = [⟨b, y, v, false, false⟩, ⟨a, x, u, false, false⟩])

/-- Of the requests in one write of AO_MODULE_CTRL, HALT_REQ takes effect before SNET_REQ and SNET_REQ before RESTART_REQ (R26). -/
def Obligations.HaltWinsOverOtherRequests : Prop :=
  (∀ (s : State) (who : Party) (v : Dword) (bad : Bool), v.getLsbD 2 = true → exec (.registerWrite [{ who := who, addr := 0x14, value := v, wide := false, bad := bad }])
    s = .next (match execRegisterWrite [{ who := who, addr := 0x14, value := v &&& ~~~ 3, wide := false, bad := bad }] s with | .next t => t | _ => s))
  ∧ (∀ (s : State) (who : Party) (v : Dword) (bad : Bool), v.getLsbD 2 = false → v.getLsbD 1 = true → exec (.registerWrite
    [{ who := who, addr := 0x14, value := v, wide := false, bad := bad }]) s = .next
    (match execRegisterWrite [{ who := who, addr := 0x14, value := v &&& ~~~ 1, wide := false, bad := bad }] s with | .next t => t | _ => s))
  ∧ (∀ (s : State) (v : Dword), s.inService = true → s.dirty = false → s.fenced 0 = false → s.faultsDue = [] → s.request = 0 → v.toNat / 65536 % 65536 = 0xC1A0 → v.getLsbD
    2 = true → ∃ t, exec (.registerWrite [{ who := .supervisor, addr := 0x14, value := v, wide := false, bad := false }]) s = .next t ∧ t.shows .halt s.mode 0x0F)
  ∧ (∀ (s : State) (v : Dword), s.inService = true → s.dirty = false → s.fenced 0 = false → s.faultsDue = [] → s.request = 0 → v.toNat / 65536 % 65536 = 0xC1A0 → v.getLsbD
    2 = false → v.getLsbD 1 = true → ∃ t, exec (.registerWrite [{ who := .supervisor, addr := 0x14, value := v, wide := false, bad := false }]) s = .next t ∧ t.shows
    .safetyNet s.mode 0x0F)

/-- A correctable error of a drive or its link is counted in CORRECTABLE and the sub-link stays ENABLED (R340). -/
def Obligations.CorrectableDriveErrors : Prop :=
  ∀ (s : State) (d : Fin 8), s.dlState d = dlEnabled → ∃ t, exec (.correctableError (.drive d)) s = .next t ∧ t.fld F.HX_RP_STAT_COUNT (6 * (d.val / 4) + 5) = (s.fld
    F.HX_RP_STAT_COUNT (6 * (d.val / 4) + 5) + 1) % 2 ^ 64 ∧ t.dlState d = dlEnabled ∧ t.out = s.out

/-- Time, wake and port commands change only the registers and components that their own lists name (00_scope.md, 01_module_overview.md, 02_time_clocks_wake.md, 03_front_ports.md). -/
def Obligations.FrameTimeAndPorts : Prop :=
  ∀ (i : Instr) (s t : State), chapterOf i = 0 ∨ chapterOf i = 1 ∨ chapterOf i = 2 ∨ chapterOf i = 3 → exec i s = .next t → s.samePartsBut t (touchesOf i) ∧ ∀ fs, writesOf i = some fs → s.sameFldsBut t fs

/-- Parser, pipeline, program and table commands change only the registers and components that their own lists name (04_parser_classifier.md, 05_luavy_isa.md, 06_luavy_programs.md, 07_forwarding_tables.md). -/
def Obligations.FrameParserProgramsTables : Prop :=
  ∀ (i : Instr) (s t : State), chapterOf i = 4 ∨ chapterOf i = 5 ∨ chapterOf i = 6 ∨ chapterOf i = 7 → exec i s = .next t → s.samePartsBut t (touchesOf i) ∧ ∀ fs, writesOf i = some fs → s.sameFldsBut t fs

/-- Buffer, scheduler, stitch and memory commands change only the registers and components that their own lists name (08_shared_buffer.md, 09_scheduling_shaping.md, 10_multi_module.md, 11_compute_memory.md). -/
def Obligations.FrameBufferSchedulerStitch : Prop :=
  ∀ (i : Instr) (s t : State), chapterOf i = 8 ∨ chapterOf i = 9 ∨ chapterOf i = 10 ∨ chapterOf i = 11 → exec i s = .next t → s.samePartsBut t (touchesOf i) ∧ ∀ fs, writesOf i = some fs → s.sameFldsBut t fs

/-- Host link and function commands change only the registers and components that their own lists name (12_host_links_pcie.md, 13_functions_isolation.md). -/
def Obligations.FrameHostsAndFunctions : Prop :=
  ∀ (i : Instr) (s t : State), chapterOf i = 12 ∨ chapterOf i = 13 → exec i s = .next t → s.samePartsBut t (touchesOf i) ∧ ∀ fs, writesOf i = some fs → s.sameFldsBut t fs

/-- Ring and sequencer commands change only the registers and components that their own lists name (14_rings_doorbells.md, 15_queue_sequencers.md). -/
def Obligations.FrameRingsAndSequencers : Prop :=
  ∀ (i : Instr) (s t : State), chapterOf i = 14 ∨ chapterOf i = 15 → exec i s = .next t → s.samePartsBut t (touchesOf i) ∧ ∀ fs, writesOf i = some fs → s.sameFldsBut t fs

/-- Remote memory, storage and cipher commands change only the registers and components that their own lists name (16_remote_memory_access.md, 17_storage_functions.md, 18_cipher_engine.md). -/
def Obligations.FrameRemoteStorageCipher : Prop :=
  ∀ (i : Instr) (s t : State), chapterOf i = 16 ∨ chapterOf i = 17 ∨ chapterOf i = 18 → exec i s = .next t → s.samePartsBut t (touchesOf i) ∧ ∀ fs, writesOf i = some fs → s.sameFldsBut t fs

/-- Supply, ledger, boot and trust commands change only the registers and components that their own lists name (19_supply_holdup_domains.md, 20_energy_ledger.md, 21_boot_trust.md). -/
def Obligations.FrameSupplyBootTrust : Prop :=
  ∀ (i : Instr) (s t : State), chapterOf i = 19 ∨ chapterOf i = 20 ∨ chapterOf i = 21 → exec i s = .next t → s.samePartsBut t (touchesOf i) ∧ ∀ fs, writesOf i = some fs → s.sameFldsBut t fs

/-- Fault, event, debug and package commands change only the registers and components that their own lists name (22_faults_ageing_calibration.md, 23_events_counters_debug.md, 24_package_signals.md). -/
def Obligations.FrameFaultsEventsPackage : Prop :=
  ∀ (i : Instr) (s t : State), chapterOf i = 22 ∨ chapterOf i = 23 ∨ chapterOf i = 24 → exec i s = .next t → s.samePartsBut t (touchesOf i) ∧ ∀ fs, writesOf i = some fs → s.sameFldsBut t fs

/-- A sag moves RUN to RIDE-THROUGH and RIDE-THROUGH to VAULT; a recovery returns RIDE-THROUGH to RUN; loss of VIN ends in OFF (01_module_overview.md, 19_supply_holdup_domains.md). -/
def Obligations.SagAndRecovery : Prop :=
  (∀ (s : State), s.mode = .run → ∃ t, exec .vinBelowVhold s = .next t ∧ t.shows .rideThrough .run 6 ∧ t.flag F.AO_SUP_STATUS_BELOW_VHOLD = true)
  ∧ (∀ (s : State), s.mode = .rideThrough → s.dwelt = true → ∃ t, exec .vinRecovered s = .next t ∧ t.shows .run .rideThrough 7 ∧ t.flag F.AO_SUP_STATUS_BELOW_VHOLD =
    false)
  ∧ (∀ (s : State), s.mode = .rideThrough → ∃ t, exec .vinBelowVvault s = .next t ∧ t.shows .vault .rideThrough 8 ∧ t.fld F.AO_MODULE_STATE_PENDING =
    ModState.standby.code)
  ∧ (∀ (s : State), s.powered = true → ∃ t, exec .vinTurnOff s = .next t ∧ t.powered = false ∧ t.mode = .off ∧ t.boot.floor = s.boot.floor ∧ (s.boot.img = none →
    t.boot.flash = s.boot.flash))

/-- Requests, RST_N, thermal trip and lid breach leave RUN or RIDE-THROUGH for their target, through VAULT when the write cache is dirty (01_module_overview.md, 24_package_signals.md). -/
def Obligations.ExitsFromService : Prop :=
  (∀ (s : State) (who : Party), s.inService = true → s.dirty = false → s.admits who 0 0 = true → ∃ t, exec (.haltReq who) s = .next t ∧ t.shows .halt s.mode 0x0F)
  ∧ (∀ (s : State) (who : Party), s.inService = true → s.dirty = false → s.admits who 0 0 = true → ∃ t, exec (.snetReq who) s = .next t ∧ t.shows .safetyNet s.mode 0x0F ∧
    t.fld F.AO_BOOT_STATUS_REASON = 4)
  ∧ (∀ (s : State) (who : Party), s.inService = true → s.dirty = true → s.admits who 0 0 = true → ∃ t, exec (.haltReq who) s = .next t ∧ t.shows .vault s.mode 0x0F ∧ t.fld
    F.AO_MODULE_STATE_PENDING = ModState.halt.code)
  ∧ (∀ (s : State) (who : Party), s.inService = true → s.dirty = true → s.admits who 0 0 = true → ∃ t, exec (.snetReq who) s = .next t ∧ t.shows .vault s.mode 0x0F ∧ t.fld
    F.AO_MODULE_STATE_PENDING = ModState.safetyNet.code)
  ∧ (∀ (s : State) (who : Party), s.inService = true → s.dirty = true → s.admits who 0 0 = true → ∃ t, exec (.restartReq who) s = .next t ∧ t.shows .vault s.mode 0x0F ∧
    t.fld F.AO_MODULE_STATE_PENDING = ModState.boot.code)
  ∧ (∀ (s : State) (e : Nat × Nat), s.inService = true → s.dirty = false → e ∈ s.pkg.hot → 2 ≤ e.2 → ∃ t, exec .thermalTrip s = .next t ∧ t.shows .halt s.mode 0x0C ∧
    t.flag F.AO_PKG_THERM_TRIPPED = true)
  ∧ (∀ (s : State), s.inService = true → s.dirty = false → ∃ t, exec .lidBreach s = .next t ∧ t.shows .halt s.mode 0x0D ∧ t.flag F.AO_PKG_LID_BREACH = true ∧ t.flag
    F.AO_PKG_LID_INTACT = false)
  ∧ (∀ (s : State), s.mode = .vault → ∃ t, exec .lidBreach s = .next t ∧ t.mode = .vault ∧ t.fld F.AO_MODULE_STATE_PENDING = ModState.halt.code)
  ∧ (∀ (s : State), s.inService = true → s.dirty = true → ∃ t, exec .rstN s = .next t ∧ t.shows .vault s.mode 0x0E ∧ t.fld F.AO_MODULE_STATE_PENDING =
    ModState.standby.code)
  ∧ (∀ (s : State), s.mode = .vault → exec .rstN s = .next (s.withPkg { s.pkg with rst := true, rstSeen := true }))

/-- Power on, boot start, run ready, a third failed start and the end of a vault move the module to the state named for each; READY is set (01_module_overview.md, 19_supply_holdup_domains.md, 21_boot_trust.md). The reading of an elapsed time as the event itself is log entry 28; how the straps and the flash's answer reach BOOT_START is log entry 53. -/
def Obligations.PowerBootAndRun : Prop :=
  (∀ (s : State) (d : Fin 4) (b m : Bool), s.powered = false → s.bcfgUsed = none → ∃ t, exec (.powerOn d b m) s = .next t ∧ t.powered = true ∧ t.mode = .standby ∧ t.fld
    F.AO_MODULE_STATE_CAUSE = 0 ∧ t.fld F.AO_DEVICE_ID_DEVID = d.val ∧ t.flag F.AO_PKG_LID_INTACT = m)
  ∧ (∀ (s : State) (flash : Bool), s.mode = .standby → s.flag F.AO_SUP_STATUS_BELOW_VHOLD = false → s.boot.strap = true → s.flag F.AO_PKG_LID_INTACT = true → ∃ t, exec
    (.bootStart flash) s = .next t ∧ t.shows .safetyNet .boot 4 ∧ t.fld F.AO_BOOT_STATUS_REASON = 3)
  ∧ (∀ (s : State), s.mode = .standby → s.flag F.AO_SUP_STATUS_BELOW_VHOLD = false → s.boot.strap = false → s.flag F.AO_PKG_LID_INTACT = true → ∃ t, exec (.bootStart
    false) s = .next t ∧ t.shows .safetyNet .boot 4 ∧ t.fld F.AO_BOOT_STATUS_REASON = 6)
  ∧ (∀ (s : State), s.admits .supervisor 0 7 = true → exec (.bootReady .supervisor) s = .next (s.setFlag F.AO_BOOT_CTRL_READY 0 true))
  ∧ (∀ (s : State), s.runDue = true → ∃ t, exec .runReady s = .next t ∧ t.shows .run .boot 2 ∧ t.boot.fails = 0)
  ∧ (∀ (s : State), s.mode = .boot → 2 ≤ s.boot.fails → s.fld F.AO_MODULE_STATE_TS_TS + 120000000000 ≤ s.now → ∃ t, exec .failedStartTimeout s = .next t ∧ t.shows
    .safetyNet .boot 5 ∧ t.fld F.AO_BOOT_STATUS_REASON = 2)
  ∧ (∀ (s : State), s.mode = .vault → s.fld F.AO_MODULE_STATE_PENDING = ModState.halt.code → s.pkg.rstSeen = false → ∃ t, exec .vaultDone s = .next t ∧ t.shows .halt
    .vault 0x0A ∧ t.fld F.AO_MODULE_STATE_PENDING = 0)

/-- Reference, offset and sync commands move REF_ACTIVE, SLEWING, the step and slew in hand, SYNC and ERR_EST as each clause says (02_time_clocks_wake.md). -/
def Obligations.TimeBaseDiscipline : Prop :=
  (∀ (s : State), s.powered = true → s.fld F.AO_TB_CTRL_REF_SEL = 2 → s.fld F.AO_TB_STATUS_REF_ACTIVE = 1 → ∃ t, exec .refclkLost s = .next t ∧ t.fld
    F.AO_TB_STATUS_REF_ACTIVE = 0 ∧ t.raised s 10 [] = true ∧ t.now = s.now)
  ∧ (∀ (s : State) (who : Party) (v : Word), s.admits who 0 1 = true → bits v.toNat 0 2 ≠ 3 → s.fld F.AO_TB_CTRL_REF_SEL ≠ bits v.toNat 0 2 → ∃ t, exec (.tbCtrlWrite who
    v) s = .next t ∧ t.fld F.AO_TB_CTRL_REF_SEL = bits v.toNat 0 2 ∧ t.fld F.AO_TB_STATUS_REF_ACTIVE = (if bits v.toNat 0 2 = 0 then 0 else 1) ∧ t.flag
    F.AO_TB_CTRL_SERVO_EN = (if s.lockHit F.AO_TB_CTRL_SERVO_EN 0 then s.flag F.AO_TB_CTRL_SERVO_EN else bit v.toNat 4) ∧ t.fld F.AO_TB_STATUS_SYNC = (if t.flag
    F.AO_TB_CTRL_SERVO_EN then 1 else 0))
  ∧ (∀ (s : State) (who : Party) (v : Word), s.admits who 0 1 = true → bits v.toNat 0 2 ≠ 3 → s.fld F.AO_TB_CTRL_REF_SEL = bits v.toNat 0 2 → ∃ t, exec (.tbCtrlWrite who
    v) s = .next t ∧ t.fld F.AO_TB_CTRL_REF_SEL = bits v.toNat 0 2 ∧ t.fld F.AO_TB_STATUS_REF_ACTIVE = (if bits v.toNat 0 2 = 0 then 0 else 1) ∧ t.flag
    F.AO_TB_CTRL_SERVO_EN = (if s.lockHit F.AO_TB_CTRL_SERVO_EN 0 then s.flag F.AO_TB_CTRL_SERVO_EN else bit v.toNat 4) ∧ t.fld F.AO_TB_STATUS_SYNC = (if s.flag
    F.AO_TB_CTRL_SERVO_EN = false ∧ t.flag F.AO_TB_CTRL_SERVO_EN = true ∧ s.fld F.AO_TB_STATUS_SYNC = 0 then 1 else s.fld F.AO_TB_STATUS_SYNC))
  ∧ (∀ (s : State) (who : Party) (v : Word), s.admits who 0 1 = true → bits v.toNat 0 2 = 3 → ∃ t, exec (.tbCtrlWrite who v) s = .next t ∧ t.fld F.AO_TB_CTRL_REF_SEL =
    s.fld F.AO_TB_CTRL_REF_SEL ∧ t.fld F.AO_TB_STATUS_REF_ACTIVE = s.fld F.AO_TB_STATUS_REF_ACTIVE ∧ t.flag F.AO_TB_CTRL_SERVO_EN = (if s.lockHit F.AO_TB_CTRL_SERVO_EN 0
    then s.flag F.AO_TB_CTRL_SERVO_EN else bit v.toNat 4))
  ∧ (∀ (s : State) (who : Party) (v : Dword), s.admits who 0 1 = true → s.disciplines who = true → 0 < v.toNat → v.toNat < 2 ^ 63 → ∃ t, exec (.tbOffsetWrite who v) s =
    .next t ∧ t.time.step = s.time.step + v.toNat ∧ t.time.slew = 0 ∧ t.fld F.AO_TB_STATUS_SLEWING = 0 ∧ t.fld F.AO_TB_STATUS_SYNC = (if 1000000 < v.toNat then (if
    s.flag F.AO_TB_CTRL_SERVO_EN then 1 else 0) else s.fld F.AO_TB_STATUS_SYNC) ∧ t.raised s 12 [] = true)
  ∧ (∀ (s : State) (who : Party) (v : Dword), s.admits who 0 1 = true → s.disciplines who = true → 2 ^ 64 - 100000000 ≤ v.toNat → ∃ t, exec (.tbOffsetWrite who v) s =
    .next t ∧ t.time.slew = (2 ^ 64 - v.toNat) * nsUnit ∧ t.time.step = s.time.step ∧ t.fld F.AO_TB_STATUS_SLEWING = 1)
  ∧ (∀ (s : State) (who : Party) (v : Dword), s.admits who 0 1 = true → s.disciplines who = true → 2 ^ 63 ≤ v.toNat → v.toNat < 2 ^ 64 - 100000000 → ∃ t, exec
    (.tbOffsetWrite who v) s = .next t ∧ t.time = s.time ∧ t.raised s 13 [] = true)
  ∧ (∀ (s : State) (who : Party), s.admits who 0 1 = true → s.disciplines who = true → ∃ t, exec (.tbOffsetWrite who 0) s = .next t ∧ t.fld F.AO_TB_STATUS_SLEWING = 0 ∧
    t.time.step = s.time.step ∧ t.time.slew = (if s.flag F.AO_TB_STATUS_SLEWING then 0 else s.time.slew))
  ∧ (∀ (s : State), s.flag F.AO_TB_STATUS_SLEWING = true → ∃ t, exec .slewDone s = .next t ∧ t.fld F.AO_TB_STATUS_SLEWING = 0 ∧ t.time.slew = 0 ∧ t.time.step =
    s.time.step)
  ∧ (∀ (s : State) (who : Party) (v : Word), s.admits who 0 1 = true → s.manages who = true → s.flag F.AO_TB_CTRL_SERVO_EN = false → bits v.toNat 0 2 = 1 → s.fld
    F.AO_TB_STATUS_SYNC = 0 ∨ s.fld F.AO_TB_STATUS_SYNC = 3 → ∃ t, exec (.tbSyncSet who v) s = .next t ∧ t.fld F.AO_TB_STATUS_SYNC = 1 ∧ t.fld F.AO_TB_STATUS_ERR_EST =
    bits v.toNat 12 20 ∧ t.raised s 11 [] = true)
  ∧ (∀ (s : State) (who : Party) (v : Word), s.admits who 0 1 = true → s.manages who = true → s.flag F.AO_TB_CTRL_SERVO_EN = false → bits v.toNat 0 2 = 2 → s.fld
    F.AO_TB_STATUS_SYNC = 1 → ∃ t, exec (.tbSyncSet who v) s = .next t ∧ t.fld F.AO_TB_STATUS_SYNC = 2 ∧ t.fld F.AO_TB_STATUS_ERR_EST = bits v.toNat 12 20 ∧ t.raised s
    11 [] = true)
  ∧ (∀ (s : State) (who : Party) (v : Word), s.admits who 0 1 = true → s.manages who = true → s.flag F.AO_TB_CTRL_SERVO_EN = false → bits v.toNat 0 2 = 2 → s.fld
    F.AO_TB_STATUS_SYNC = 2 → ∃ t, exec (.tbSyncSet who v) s = .next t ∧ t.fld F.AO_TB_STATUS_SYNC = 2 ∧ t.fld F.AO_TB_STATUS_ERR_EST = bits v.toNat 12 20)
  ∧ (∀ (s : State) (domain : Fin 256), s.powered = true → s.flag F.AO_TB_CTRL_SERVO_EN = true → s.timeSlave = false → (s.ptpDomain domain).time.ptpDomains.head? = some
    domain.val → s.fld F.AO_TB_STATUS_SYNC = 0 ∨ s.fld F.AO_TB_STATUS_SYNC = 3 → ∃ t, exec (.ptpMessageRx domain) s = .next t ∧ t.fld F.AO_TB_STATUS_SYNC = 1 ∧ t.raised
    s 11 [] = true)
  ∧ (∀ (s : State) (domain : Fin 256), s.powered = true → s.time.ptpDomains.length < 4 → ∃ t, exec (.ptpMessageRx domain) s = .next t ∧ t.time.ptpDomains.contains
    domain.val = true)
  ∧ (∀ (s : State) (err : Fin 1048576), s.flag F.AO_TB_CTRL_SERVO_EN = true → s.timeSlave = false → s.fld F.AO_TB_STATUS_SYNC = 1 → ∃ t, exec (.syncLocked err) s = .next t
    ∧ t.fld F.AO_TB_STATUS_SYNC = 2 ∧ t.fld F.AO_TB_STATUS_ERR_EST = err.val ∧ t.raised s 11 [] = true)
  ∧ (∀ (s : State), s.timeSlave = false → s.fld F.AO_TB_STATUS_SYNC = 2 → ∃ t, exec .syncHoldover s = .next t ∧ t.fld F.AO_TB_STATUS_SYNC = 3 ∧ t.raised s 11 [] = true)
  ∧ (∀ (s : State), s.powered = true → s.fld F.AO_TB_STATUS_SYNC = 0 ∨ s.fld F.AO_TB_STATUS_SYNC = 3 → ∃ t, exec .errEstTick s = .next t ∧ t.fld F.AO_TB_STATUS_ERR_EST =
    min (s.fld F.AO_TB_STATUS_ERR_EST + 1) 0xFFFFF)
  ∧ (∀ (s : State), s.fld F.AO_TB_STATUS_SYNC = 3 → 1000000 ≤ s.fld F.AO_TB_STATUS_ERR_EST → ∃ t, exec .holdoverExpired s = .next t ∧ t.fld F.AO_TB_STATUS_SYNC = 0 ∧
    t.raised s 11 [] = true)

/-- PPS edges drive the pin or capture the time, domains wake and are gated, planned wakes hold halves, landing-buffer sizes are written and applied (02_time_clocks_wake.md). The width of PPS_OUT stands as the level driven on the pin (log entry 3 names what the module sends out as the model's own list). -/
def Obligations.PpsGatingAndLandingBuffers : Prop :=
  (∀ (s : State), s.powered = true → s.flag F.AO_PPS_CTRL_OUT_EN = true → exec .ppsOutEdge s = .next (s.emit (.pin pinPpsOut (min (max (s.fld F.AO_PPS_CTRL_WIDTH) 1)
    50000))))
  ∧ (∀ (s : State) (rising : Bool), s.powered = true → s.flag F.AO_PPS_CTRL_IN_EN = true → rising ≠ s.flag F.AO_PPS_CTRL_IN_POL → ∃ t, exec (.ppsInEdge rising) s = .next t
    ∧ t.fld F.AO_PPS_IN_TS_TS = s.now % 2 ^ 64 ∧ t.raised s 14 [] = true)
  ∧ (∀ (s : State), s.powered = true → s.flag F.AO_PPS_CTRL_IN_EN = true → ∃ t, exec .ppsInMissing s = .next t ∧ t.raised s 15 [] = true ∧ t.fld F.AO_PPS_IN_TS_TS = s.fld
    F.AO_PPS_IN_TS_TS)
  ∧ (∀ (s : State) (d : Fin 96), s.inService = true → s.fld F.AO_WAKE_STATUS_POWER d = 0 ∨ s.fld F.AO_WAKE_STATUS_POWER d = 2 → s.forcedOff d = false → ∃ t, exec
    (.wakeTrigger d) s = .next t ∧ t.fld F.AO_WAKE_STATUS_POWER d = (if s.fld F.AO_WAKE_STATUS_POWER d = 0 then 1 else 3) ∧ t.fld F.AO_WAKE_STATUS_WAKES d = min (s.fld
    F.AO_WAKE_STATUS_WAKES d + 1) 0xFFFF)
  ∧ (∀ (s : State) (d : Fin 96), s.inService = true → s.forcedOff d = true → ∃ t, exec (.wakeTrigger d) s = .next t ∧ t.fld F.AO_WAKE_STATUS_POWER d = s.fld
    F.AO_WAKE_STATUS_POWER d ∧ t.fld F.AO_PD_CTRL_BLOCKED d = min (s.fld F.AO_PD_CTRL_BLOCKED d + 1) (2 ^ F.AO_PD_CTRL_BLOCKED.width - 1))
  ∧ (∀ (s : State) (d : Fin 96) (late : Bool), s.fld F.AO_WAKE_STATUS_POWER d = 1 → ∃ t, exec (.wakeComplete d late) s = .next t ∧ t.fld F.AO_WAKE_STATUS_POWER d = 3 ∧
    (late = true → t.flag F.AO_WAKE_STATUS_LATE d = true ∧ t.raised s 20 [] = true))
  ∧ (∀ (s : State) (d : Fin 96), s.inService = true → s.fld F.AO_WAKE_STATUS_POWER d = 3 → s.fld F.AO_WAKE_POLICY_MODE d = 2 → s.pinned d = false → ∃ t, exec (.idleGate d)
    s = .next t ∧ t.fld F.AO_WAKE_STATUS_POWER d = 2)
  ∧ (∀ (s : State) (d : Fin 96), s.inService = true → s.fld F.AO_WAKE_STATUS_POWER d = 3 → s.fld F.AO_WAKE_POLICY_MODE d = 0 → s.pinned d = false → d.val < 44 ∨ 60 ≤ d.val
    → ∃ t, exec (.idleGate d) s = .next t ∧ t.fld F.AO_WAKE_STATUS_POWER d = (if s.mayGate d then 0 else 2))
  ∧ (∀ (s : State) (lp : Fin 512), s.inService = true → ((s.operList lp).isSome || (s.flag F.FX_TM_GATE_CFG_PEND lp && s.flag F.FX_TM_GATE_CFG_ADMIN_EN lp)) = true →
    s.windows.contains lp.val = false → ∃ t, exec (.plannedWake lp) s = .next t ∧ lp.val ∈ t.time.plan ∧ (∀ d ∈ List.range 44, (isHalf d && t.planned d && t.power d ==
    0) = true → t.forcedOff d = true))
  ∧ (∀ (s : State) (who : Party) (port : Fin 128) (v : Word), s.admits who (1 + port.val / 32) 1 = true → bits v.toNat 0 9 ≤ s.fld F.PA_MAC_LB_CFG_SIZE port → ∃ t, exec
    (.lbCfgWrite who port v) s = .next t ∧ t.fld F.PA_MAC_LB_CFG_SIZE port = bits v.toNat 0 9 ∧ t.fld F.PA_MAC_LB_CFG_SCHED_SRC port = bits v.toNat 16 1)
  ∧ (∀ (s : State) (who : Party) (port : Fin 128) (v : Word), s.admits who (1 + port.val / 32) 1 = true → s.fld F.PA_MAC_LB_CFG_SIZE port < bits v.toNat 0 9 → 256 <
    (List.range 32).foldl (fun a p => a + s.fld F.PA_MAC_LB_CFG_SIZE (port.val / 32 * 32 + p)) 0 - s.fld F.PA_MAC_LB_CFG_SIZE port + bits v.toNat 0 9 → ∃ t, exec
    (.lbCfgWrite who port v) s = .next t ∧ t.fld F.PA_MAC_LB_CFG_SIZE port = s.fld F.PA_MAC_LB_CFG_SIZE port ∧ t.fld F.PA_MAC_LB_CFG_SCHED_SRC port = s.fld
    F.PA_MAC_LB_CFG_SCHED_SRC port ∧ t.raised s (portEvent (1 + port.val / 32) 3) [] = true)
  ∧ (∀ (s : State) (port : Fin 128), (s.lbHeld port).isEmpty = true → ∃ t, exec (.lbSizeApply port) s = .next t ∧ t.lbSize port = s.fld F.PA_MAC_LB_CFG_SIZE port)

/-- PORT_CFG and SUBPORT_CFG writes take the allowed values and ignore the others with event offset 7 (03_front_ports.md, 19_supply_holdup_domains.md). -/
def Obligations.PortConfiguration : Prop :=
  (∀ (s : State) (who : Party) (port : Fin 128) (v : Word), s.admits who (1 + port.val / 32) 1 = true → bits v.toNat 0 2 ≠ 3 → (bit v.toNat 3 = true → 120 ≤ port.val) →
    (bits v.toNat 0 2 ≠ s.fld F.PA_MAC_PORT_CFG_BREAKOUT port → ∀ k ∈ [0, 1, 2, 3], if subInUse (bits v.toNat 0 2) k then subAllowed (bits v.toNat 0 2) (s.fld
    F.PA_MAC_SUBPORT_CFG_SPEED (4 * port.val + k)) (s.fld F.PA_MAC_SUBPORT_CFG_FEC (4 * port.val + k)) = true else s.flag F.PA_MAC_SUBPORT_CFG_EN (4 * port.val + k) =
    false) → ∃ t, exec (.portCfgWrite who port v) s = .next t ∧ t.fld F.PA_MAC_PORT_CFG_BREAKOUT port = bits v.toNat 0 2 ∧ t.flag F.PA_MAC_PORT_CFG_STITCH port = bit
    v.toNat 3)
  ∧ (∀ (s : State) (who : Party) (port : Fin 128) (v : Word), s.admits who (1 + port.val / 32) 1 = true → bits v.toNat 0 2 ≠ 3 → bit v.toNat 3 = true → port.val < 120 → ∃
    t, exec (.portCfgWrite who port v) s = .next t ∧ t.fld F.PA_MAC_PORT_CFG_BREAKOUT port = s.fld F.PA_MAC_PORT_CFG_BREAKOUT port ∧ t.fld F.PA_MAC_PORT_CFG_STITCH port
    = s.fld F.PA_MAC_PORT_CFG_STITCH port ∧ t.raised s (portEvent (1 + port.val / 32) 7) [.w (0x40 * (port.val % 32))] = true)
  ∧ (∀ (s : State) (who : Party) (port : Fin 128) (v : Word) (k : Fin 4), s.admits who (1 + port.val / 32) 1 = true → bits v.toNat 0 2 ≠ 3 → bits v.toNat 0 2 ≠ s.fld
    F.PA_MAC_PORT_CFG_BREAKOUT port → (if subInUse (bits v.toNat 0 2) k then subAllowed (bits v.toNat 0 2) (s.fld F.PA_MAC_SUBPORT_CFG_SPEED (4 * port.val + k)) (s.fld
    F.PA_MAC_SUBPORT_CFG_FEC (4 * port.val + k)) = false else s.flag F.PA_MAC_SUBPORT_CFG_EN (4 * port.val + k) = true) → ∃ t, exec (.portCfgWrite who port v) s = .next
    t ∧ t.fld F.PA_MAC_PORT_CFG_BREAKOUT port = s.fld F.PA_MAC_PORT_CFG_BREAKOUT port ∧ t.fld F.PA_MAC_PORT_CFG_STITCH port = s.fld F.PA_MAC_PORT_CFG_STITCH port ∧
    t.raised s (portEvent (1 + port.val / 32) 7) [.w (0x40 * (port.val % 32))] = true)
  ∧ (∀ (s : State) (who : Party) (port : Fin 128) (v : Word), s.admits who (1 + port.val / 32) 1 = true → bits v.toNat 0 2 = 3 → ∃ t, exec (.portCfgWrite who port v) s =
    .next t ∧ t.fld F.PA_MAC_PORT_CFG_BREAKOUT port = s.fld F.PA_MAC_PORT_CFG_BREAKOUT port ∧ t.fld F.PA_MAC_PORT_CFG_STITCH port = s.fld F.PA_MAC_PORT_CFG_STITCH port)
  ∧ (∀ (s : State) (who : Party) (lp : Fin 512) (v : Word), s.admits who (regionOfLp lp) 1 = true → (subInUse (s.fld F.PA_MAC_PORT_CFG_BREAKOUT (lp.val / 4)) (lp.val % 4)
    = true → subAllowed (s.fld F.PA_MAC_PORT_CFG_BREAKOUT (lp.val / 4)) (bits v.toNat 0 4) (bits v.toNat 8 4) = true) → (bit v.toNat 31 = true → subInUse (s.fld
    F.PA_MAC_PORT_CFG_BREAKOUT (lp.val / 4)) (lp.val % 4) = true) → (bit v.toNat 31 = true → s.forcedOff (11 * (lp.val / 128) + lp.val % 128 / 16) = false) → ∃ t, exec
    (.subportCfgWrite who lp v) s = .next t ∧ t.flag F.PA_MAC_SUBPORT_CFG_EN lp = bit v.toNat 31 ∧ t.fld F.PA_MAC_SUBPORT_CFG_AN_EN lp = bits v.toNat 30 1 ∧ t.fld
    F.PA_MAC_SUBPORT_CFG_LPI_EN lp = bits v.toNat 29 1 ∧ t.fld F.PA_MAC_SUBPORT_CFG_MACSEC_EN lp = bits v.toNat 28 1 ∧ t.fld F.PA_MAC_SUBPORT_CFG_MAX_FRAME lp = bits
    v.toNat 14 14 ∧ t.fld F.PA_MAC_SUBPORT_CFG_FEC lp = bits v.toNat 8 4 ∧ t.fld F.PA_MAC_SUBPORT_CFG_SPEED lp = bits v.toNat 0 4)
  ∧ (∀ (s : State) (who : Party) (lp : Fin 512) (v : Word), s.admits who (regionOfLp lp) 1 = true → (subInUse (s.fld F.PA_MAC_PORT_CFG_BREAKOUT (lp.val / 4)) (lp.val % 4)
    && !subAllowed (s.fld F.PA_MAC_PORT_CFG_BREAKOUT (lp.val / 4)) (bits v.toNat 0 4) (bits v.toNat 8 4) || bit v.toNat 31 && !subInUse (s.fld F.PA_MAC_PORT_CFG_BREAKOUT
    (lp.val / 4)) (lp.val % 4)) = true → ∃ t, exec (.subportCfgWrite who lp v) s = .next t ∧ t.fld F.PA_MAC_SUBPORT_CFG_EN lp = s.fld F.PA_MAC_SUBPORT_CFG_EN lp ∧ t.fld
    F.PA_MAC_SUBPORT_CFG_FEC lp = s.fld F.PA_MAC_SUBPORT_CFG_FEC lp ∧ t.fld F.PA_MAC_SUBPORT_CFG_SPEED lp = s.fld F.PA_MAC_SUBPORT_CFG_SPEED lp ∧ t.raised s (portEvent
    (regionOfLp lp) 7) [.w (0x40 * (lp.val / 4 % 32) + 0x10 + 4 * (lp.val % 4))] = true)
  ∧ (∀ (s : State) (who : Party) (lp : Fin 512) (v : Word), s.admits who (regionOfLp lp) 1 = true → bit v.toNat 31 = true → subInUse (s.fld F.PA_MAC_PORT_CFG_BREAKOUT
    (lp.val / 4)) (lp.val % 4) = true → subAllowed (s.fld F.PA_MAC_PORT_CFG_BREAKOUT (lp.val / 4)) (bits v.toNat 0 4) (bits v.toNat 8 4) = true → s.forcedOff (11 *
    (lp.val / 128) + lp.val % 128 / 16) = true → ∃ t, exec (.subportCfgWrite who lp v) s = .next t ∧ t.fld F.PA_MAC_SUBPORT_CFG_EN lp = s.fld F.PA_MAC_SUBPORT_CFG_EN lp
    ∧ t.fld F.PA_MAC_SUBPORT_CFG_FEC lp = s.fld F.PA_MAC_SUBPORT_CFG_FEC lp ∧ t.fld F.PA_MAC_SUBPORT_CFG_SPEED lp = s.fld F.PA_MAC_SUBPORT_CFG_SPEED lp)

/-- Link events move a sub-port between AN, TRAINING, ALIGNING, UP and FAULT, with the counters, events and line signals named (03_front_ports.md). -/
def Obligations.LinkStateMachine : Prop :=
  (∀ (s : State) (lp : Fin 512) (speed : Fin 7) (fec : Fin 4) (eee : Bool), s.inService = true → s.fenced (regionOfLp lp) = false → s.linkState lp = 1 → subAllowed
    (s.portMode (lp.val / 4)) speed fec = true → ∃ t, exec (.anResolved lp speed fec eee) s = .next t ∧ t.fld F.PA_MAC_LINK_STATUS_SPEED_RES lp = speed.val ∧ t.fld
    F.PA_MAC_LINK_STATUS_FEC_RES lp = fec.val ∧ t.linkState lp = (if t.skipsTraining lp then 3 else 2))
  ∧ (∀ (s : State) (lp : Fin 512), s.inService = true → s.fenced (regionOfLp lp) = false → s.linkState lp = 1 → ∃ t, exec (.anFail lp) s = .next t ∧ t.linkState lp = (if
    s.negotiates lp then 1 else if t.skipsTraining lp then 3 else 2) ∧ t.fld F.PA_MAC_CNT_COUNT (lp.val * 31 + 13) = (s.fld F.PA_MAC_CNT_COUNT (lp.val * 31 + 13) + 1) %
    2 ^ 64 ∧ t.raised s (portEvent (regionOfLp lp) 6) [.w lp, .w 13] = true)
  ∧ (∀ (s : State) (lane : Fin 512) (bad : Bool), s.inService = true → s.fenced (regionOfLp (s.laneLp lane)) = false → s.linkState (s.laneLp lane) = 2 → ∃ t, exec
    (.trainRequest lane bad) s = .next t ∧ t.linkState (s.laneLp lane) = 2 ∧ Map.get false lane t.mac.trainSeen = true ∧ (bad = true → t.fld F.PA_MAC_CNT_COUNT
    ((s.laneLp lane) * 31 + 29) = (s.fld F.PA_MAC_CNT_COUNT ((s.laneLp lane) * 31 + 29) + 1) % 2 ^ 64 ∧ Out.trainLimit lane ∈ t.sent s))
  ∧ (∀ (s : State) (lp : Fin 512), s.inService = true → s.fenced (regionOfLp lp) = false → s.linkState lp = 2 → ∃ t, exec (.trainingDone lp) s = .next t ∧ t.linkState lp =
    3)
  ∧ (∀ (s : State) (lane : Fin 512) (others : Bool), s.inService = true → s.fenced (regionOfLp (s.laneLp lane)) = false → s.linkState (s.laneLp lane) = 2 → Map.get false
    lane s.mac.trainSeen = true → ∃ t, exec (.trainTimeout lane others) s = .next t ∧ t.linkState (s.laneLp lane) = (if s.negotiates (s.laneLp lane) then 1 else if
    t.skipsTraining (s.laneLp lane) then 3 else 2) ∧ t.fld F.PA_MAC_CNT_COUNT ((s.laneLp lane) * 31 + 30) = (s.fld F.PA_MAC_CNT_COUNT ((s.laneLp lane) * 31 + 30) + 1) %
    2 ^ 64 ∧ t.raised s (portEvent (regionOfLp (s.laneLp lane)) 6) [.w (s.laneLp lane), .w 30] = true)
  ∧ (∀ (s : State) (lane : Fin 512) (others : Bool), s.inService = true → s.fenced (regionOfLp (s.laneLp lane)) = false → s.linkState (s.laneLp lane) = 2 → Map.get false
    lane s.mac.trainSeen = false → ∃ t, exec (.trainTimeout lane others) s = .next t ∧ t.linkState (s.laneLp lane) = (if others then 3 else 2) ∧ Map.get false lane
    t.mac.trainEnded = true ∧ t.fld F.PA_MAC_CNT_COUNT ((s.laneLp lane) * 31 + 30) = s.fld F.PA_MAC_CNT_COUNT ((s.laneLp lane) * 31 + 30))
  ∧ (∀ (s : State) (lp : Fin 512), s.inService = true → s.fenced (regionOfLp lp) = false → s.linkState lp = 3 → ∃ t, exec (.alignLock lp) s = .next t ∧ t.linkState lp = 4
    ∧ t.fld F.PA_MAC_LINK_STATUS_LOCAL_FAULT lp = 0 ∧ t.raised s (portEvent (regionOfLp lp) 4) [.w lp, .w 3, .w 4] = true)
  ∧ (∀ (s : State) (lp : Fin 512), s.inService = true → s.fenced (regionOfLp lp) = false → s.linkState lp = 3 → ∃ t, exec (.alignTimeout lp) s = .next t ∧ t.linkState lp =
    (if s.negotiates lp then 1 else if t.skipsTraining lp then 3 else 2) ∧ t.fld F.PA_MAC_CNT_COUNT (lp.val * 31 + 14) = (s.fld F.PA_MAC_CNT_COUNT (lp.val * 31 + 14) +
    1) % 2 ^ 64)
  ∧ (∀ (s : State) (lp : Fin 512) (lf : Bool), s.inService = true → s.fenced (regionOfLp lp) = false → s.linkState lp = 4 → ∃ t, exec (.linkLoss lp lf ()) s = .next t ∧
    t.linkState lp = 3 ∧ t.fld F.PA_MAC_LINK_STATUS_FLAPS lp = min (s.fld F.PA_MAC_LINK_STATUS_FLAPS lp + 1) 255 ∧ t.flag F.PA_MAC_LINK_STATUS_LOCAL_FAULT lp = lf ∧
    Out.line lp 2 ∈ t.sent s ∧ t.raised s (portEvent (regionOfLp lp) 4) [.w lp, .w 4, .w 3] = true)
  ∧ (∀ (s : State) (lp : Fin 512) (lf : Bool), s.inService = true → s.fenced (regionOfLp lp) = false → s.linkState lp = 5 → ∃ t, exec (.linkLoss lp lf ()) s = .next t ∧
    t.linkState lp = 3 ∧ t.fld F.PA_MAC_LINK_STATUS_REMOTE_FAULT lp = 0 ∧ t.fld F.PA_MAC_LINK_STATUS_FLAPS lp = s.fld F.PA_MAC_LINK_STATUS_FLAPS lp ∧ Out.line lp 2 ∈
    t.sent s)
  ∧ (∀ (s : State) (lp : Fin 512), s.inService = true → s.fenced (regionOfLp lp) = false → s.linkState lp = 4 → ∃ t, exec (.remoteFaultRx lp ()) s = .next t ∧ t.linkState
    lp = 5 ∧ t.fld F.PA_MAC_LINK_STATUS_REMOTE_FAULT lp = 1 ∧ t.fld F.PA_MAC_LINK_STATUS_FLAPS lp = min (s.fld F.PA_MAC_LINK_STATUS_FLAPS lp + 1) 255 ∧ Out.line lp 3 ∈
    t.sent s ∧ t.raised s (portEvent (regionOfLp lp) 4) [.w lp, .w 4, .w 5] = true)
  ∧ (∀ (s : State) (lp : Fin 512), s.inService = true → s.fenced (regionOfLp lp) = false → s.linkState lp = 5 → ∃ t, exec (.remoteFaultClear lp) s = .next t ∧ t.linkState
    lp = 4 ∧ t.fld F.PA_MAC_LINK_STATUS_REMOTE_FAULT lp = 0 ∧ t.raised s (portEvent (regionOfLp lp) 4) [.w lp, .w 5, .w 4] = true)

/-- Received frames are stored, or dropped and counted; MACsec SAs are installed, erased and watched; low-power idle is entered and left (03_front_ports.md). The order of the checks that a frame fails together is log entry 9. -/
def Obligations.FramesFromTheLineMacsecAndLpi : Prop :=
  (∀ (s : State) (lp : Fin 512) (f : WireFrame), s.inService = true → s.fenced (regionOfLp lp) = false → s.linkState lp = 4 → s.isStitch lp = false → s.flag
    F.PA_MAC_SUBPORT_CFG_MACSEC_EN lp = false → (f.fcsOk && !f.framing && !f.codeErr && !f.fecBad) = true → 60 ≤ f.bytes.length → f.bytes.length + 4 ≤ s.maxFrame lp →
    etherType f.bytes ≠ 0x8808 → (s.lbHeld (lp.val / 4)).foldl (fun a g => a + lbBytes g) 0 + (f.bytes.length + 19) / 16 * 16 ≤ s.lbSize (lp.val / 4) * 4096 → ∃ t, exec
    (.macRxFrame lp f) s = .next t ∧ t.lbHeld (lp.val / 4) = s.lbHeld (lp.val / 4) ++ [{ lp := lp, src := lp, bytes := f.bytes, ts := s.now, cut := s.cutGrant lp f }] ∧
    t.fld F.PA_MAC_CNT_COUNT (lp.val * 31) = (s.fld F.PA_MAC_CNT_COUNT (lp.val * 31) + 1) % 2 ^ 64)
  ∧ (∀ (s : State) (lp : Fin 512) (f : WireFrame), s.inService = true → s.fenced (regionOfLp lp) = false → s.linkState lp = 4 → s.isStitch lp = false → s.flag
    F.PA_MAC_SUBPORT_CFG_MACSEC_EN lp = false → (f.fcsOk && !f.framing && !f.codeErr && !f.fecBad) = true → 60 ≤ f.bytes.length → f.bytes.length + 4 ≤ s.maxFrame lp →
    etherType f.bytes ≠ 0x8808 → s.lbSize (lp.val / 4) * 4096 < (s.lbHeld (lp.val / 4)).foldl (fun a g => a + lbBytes g) 0 + (f.bytes.length + 19) / 16 * 16 → ∃ t, exec
    (.macRxFrame lp f) s = .next t ∧ t.lbHeld (lp.val / 4) = s.lbHeld (lp.val / 4) ∧ t.fld F.PA_MAC_LB_DROP_COUNT (lp.val / 4) = (s.fld F.PA_MAC_LB_DROP_COUNT (lp.val /
    4) + 1) % 2 ^ F.PA_MAC_LB_DROP_COUNT.width ∧ t.raised s (portEvent (1 + lp.val / 128) 2) [] = true)
  ∧ (∀ (s : State) (lp : Fin 512) (f : WireFrame), s.inService = true → s.fenced (regionOfLp lp) = false → s.linkState lp = 4 → (!f.fcsOk && !f.framing && !f.codeErr &&
    !f.fecBad && !s.cutGrant lp f) = true → f.bytes.length + 4 ≤ s.maxFrame lp → ∃ t, exec (.macRxFrame lp f) s = .next t ∧ t.lbHeld (lp.val / 4) = s.lbHeld (lp.val / 4)
    ∧ t.fld F.PA_MAC_CNT_COUNT (lp.val * 31 + 5) = (s.fld F.PA_MAC_CNT_COUNT (lp.val * 31 + 5) + 1) % 2 ^ 64)
  ∧ (∀ (s : State) (region : Fin 4) (v : Word), s.powered = true → s.fenced (region.val + 1) = false → bits v.toNat 30 2 = 1 → Map.get 0 region s.mac.saCmd = 0 → ∃ t, exec
    (.macsecSaInstall region v) s = .next t ∧ Map.get 0 region t.mac.saCmd = v.toNat + 1 ∧ t.mac.sas = s.mac.sas)
  ∧ (∀ (s : State) (region : Fin 4) (v : Word), s.powered = true → s.fenced (region.val + 1) = false → bits v.toNat 30 2 = 1 → Map.get 0 region s.mac.saCmd ≠ 0 → ∃ t, exec
    (.macsecSaInstall region v) s = .next t ∧ t.mac = s.mac ∧ t.raised s (portEvent (region.val + 1) 8) [.w (bits v.toNat 24 5), .w (bits v.toNat 29 1), .w (bits v.toNat
    20 4), .w (bits v.toNat 18 2), .w 3] = true)
  ∧ (∀ (s : State) (region : Fin 4) (v : Word), s.powered = true → s.fenced (region.val + 1) = false → bits v.toNat 30 2 = 2 → Map.get 0 region s.mac.saCmd = 0 → ∃ t, exec
    (.macsecSaErase region v) s = .next t ∧ Map.get 0 region t.mac.saCmd = v.toNat + 1 ∧ t.mac.sas = s.mac.sas)
  ∧ (∀ (s : State) (region : Fin 4) (v : Word), s.powered = true → s.fenced (region.val + 1) = false → bits v.toNat 30 2 = 2 → Map.get 0 region s.mac.saCmd ≠ 0 → ∃ t, exec
    (.macsecSaErase region v) s = .next t ∧ t.mac = s.mac ∧ t.raised s (portEvent (region.val + 1) 8) [.w (bits v.toNat 24 5), .w (bits v.toNat 29 1), .w (bits v.toNat
    20 4), .w (bits v.toNat 18 2), .w 3] = true)
  ∧ (∀ (s : State) (region : Fin 4) (v : Nat), Map.get 0 region s.mac.saCmd = v + 1 → bits v 30 2 = 1 → (bit v 29 = true → bits v 20 4 < 4) → (s.findSa (32 * region.val +
    bits v 24 5) (bit v 29) (bits v 20 4) (bits v 18 2)).map (·.inUse) ≠ some true → ∃ t, exec (.macsecSaDone region) s = .next t ∧ Map.get 0 region t.mac.saCmd = 0 ∧ (∀
    n ∈ List.range 16, Map.get 0 (region.val * 16 + n) t.mac.stage = 0) ∧ (t.findSa (32 * region.val + bits v 24 5) (bit v 29) (bits v 20 4) (bits v 18 2)).map (fun a =>
    (a.suite, a.inUse)) = some (bits v 16 2, bit v 29 && bit v 0) ∧ t.raised s (portEvent (region.val + 1) 8) [.w (bits v 24 5), .w (b2n (bit v 29)), .w (bits v 20 4),
    .w (bits v 18 2), .w 0] = true)
  ∧ (∀ (s : State) (region : Fin 4) (v : Nat), Map.get 0 region s.mac.saCmd = v + 1 → bits v 30 2 = 2 → (bit v 29 = true → bits v 20 4 < 4) → (s.findSa (32 * region.val +
    bits v 24 5) (bit v 29) (bits v 20 4) (bits v 18 2)).map (·.inUse) ≠ some true → ∃ t, exec (.macsecSaDone region) s = .next t ∧ Map.get 0 region t.mac.saCmd = 0 ∧ (∀
    n ∈ List.range 16, Map.get 0 (region.val * 16 + n) t.mac.stage = 0) ∧ t.findSa (32 * region.val + bits v 24 5) (bit v 29) (bits v 20 4) (bits v 18 2) = none ∧
    t.raised s (portEvent (region.val + 1) 8) [.w (bits v 24 5), .w (b2n (bit v 29)), .w (bits v 20 4), .w (bits v 18 2), .w 0] = true)
  ∧ (∀ (s : State) (region : Fin 4) (v : Nat), Map.get 0 region s.mac.saCmd = v + 1 → (bit v 29 = true → bits v 20 4 < 4) → (s.findSa (32 * region.val + bits v 24 5) (bit
    v 29) (bits v 20 4) (bits v 18 2)).map (·.inUse) = some true → ∃ t, exec (.macsecSaDone region) s = .next t ∧ Map.get 0 region t.mac.saCmd = 0 ∧ (∀ n ∈ List.range
    16, Map.get 0 (region.val * 16 + n) t.mac.stage = 0) ∧ t.mac.sas = s.mac.sas ∧ t.raised s (portEvent (region.val + 1) 8) [.w (bits v 24 5), .w (b2n (bit v 29)), .w
    (bits v 20 4), .w (bits v 18 2), .w 2] = true)
  ∧ (∀ (s : State) (region : Fin 4) (v : Nat), Map.get 0 region s.mac.saCmd = v + 1 → bit v 29 = true → 4 ≤ bits v 20 4 → ∃ t, exec (.macsecSaDone region) s = .next t ∧
    Map.get 0 region t.mac.saCmd = 0 ∧ (∀ n ∈ List.range 16, Map.get 0 (region.val * 16 + n) t.mac.stage = 0) ∧ t.mac.sas = s.mac.sas ∧ t.raised s (portEvent (region.val
    + 1) 8) [.w (bits v 24 5), .w (b2n (bit v 29)), .w (bits v 20 4), .w (bits v 18 2), .w 1] = true)
  ∧ (∀ (s : State) (lp : Fin 512) (an : Fin 4) (a : Sa), s.findSa (lp.val / 4) true (lp.val % 4) an = some a → a.told = false → pnThreshold a.suite ≤ a.pn → ∃ t, exec
    (.macsecPnThreshold lp an) s = .next t ∧ (t.findSa (lp.val / 4) true (lp.val % 4) an).map (·.told) = some true ∧ t.raised s (portEvent (regionOfLp lp) 9) [.w (lp.val
    / 4), .w (lp.val % 4), .w an] = true)
  ∧ (∀ (s : State) (lp : Fin 512), s.inService = true → s.fenced (regionOfLp lp) = false → s.linkState lp = 4 → s.lpiReady lp = true → ∃ t, exec (.lpiEntry lp false) s =
    .next t ∧ t.fld F.PA_MAC_LINK_STATUS_TX_LPI lp = 1 ∧ Map.get 0 lp t.mac.lpiAt = s.now + 1)
  ∧ (∀ (s : State) (lp : Fin 512), s.inService = true → s.fenced (regionOfLp lp) = false → s.linkState lp = 4 → Map.get false lp s.mac.lpiRes = true → s.flag
    F.PA_MAC_LINK_STATUS_RX_LPI lp = false → ∃ t, exec (.lpiEntry lp true) s = .next t ∧ t.fld F.PA_MAC_LINK_STATUS_RX_LPI lp = 1 ∧ Map.get 0 lp t.mac.rxLpiAt = s.now +
    1)
  ∧ (∀ (s : State) (lp : Fin 512), s.inService = true → s.fenced (regionOfLp lp) = false → s.linkState lp = 4 → s.flag F.PA_MAC_LINK_STATUS_TX_LPI lp = true → ∃ t, exec
    (.lpiExit lp false) s = .next t ∧ t.fld F.PA_MAC_LINK_STATUS_TX_LPI lp = 0 ∧ t.fld F.PA_MAC_CNT_COUNT (lp.val * 31 + 21) = (s.fld F.PA_MAC_CNT_COUNT (lp.val * 31 +
    21) + (s.now + 1 - Map.get 0 lp s.mac.lpiAt) / 1000) % 2 ^ 64)
  ∧ (∀ (s : State) (lp : Fin 512), s.inService = true → s.fenced (regionOfLp lp) = false → s.linkState lp = 4 → s.flag F.PA_MAC_LINK_STATUS_RX_LPI lp = true → ∃ t, exec
    (.lpiExit lp true) s = .next t ∧ t.fld F.PA_MAC_LINK_STATUS_RX_LPI lp = 0 ∧ t.fld F.PA_MAC_CNT_COUNT (lp.val * 31 + 22) = (s.fld F.PA_MAC_CNT_COUNT (lp.val * 31 +
    22) + (s.now + 1 - Map.get 0 lp s.mac.rxLpiAt) / 1000) % 2 ^ 64)

/-- A grant takes the frame whose turn it is; bundle rewrites, profiles, meters and counter latches take effect as each clause says (03_front_ports.md, 04_parser_classifier.md, 05_luavy_isa.md, 06_luavy_programs.md, 09_scheduling_shaping.md). -/
def Obligations.GrantsProfilesAndCounters : Prop :=
  (∀ (s : State) (pipe : Fin 32) (ecc : List EccHit) (excess : Bool) (port : Nat) (g : LbFrame) (rest : List LbFrame), s.inService = true → s.fenced (pipe.val / 8 + 1) =
    false → s.fenced 5 = false → (∀ e ∈ ecc, e.kind ≠ .uncorrectable) → s.awake (halfDomain (pipe.val / 8 + 1) (pipe.val % 8)) = true → s.grantPort pipe = some port →
    s.lbHeld port = g :: rest → s.faultsDue = [] → s.request = 0 → ∃ t, exec (.lbGrant pipe false ecc excess) s = .next t ∧ t.lbHeld port = rest ∧ Map.get 0 pipe
    t.mac.grant = (port + 1) % 4)
  ∧ (∀ (s : State) (pipe : Fin 32) (ecc : List EccHit) (excess : Bool) (g : LbFrame) (rest : List LbFrame), s.inService = true → s.fenced (pipe.val / 8 + 1) = false →
    s.fenced 5 = false → (∀ e ∈ ecc, e.kind ≠ .uncorrectable) → s.awake (halfDomain (pipe.val / 8 + 1) (pipe.val % 8)) = true → s.forcedOff (halfDomain (pipe.val / 8 +
    1) (pipe.val % 8)) = false → s.lbHeld (128 + (pipe.val / 8 + 1)) = g :: rest → (Map.get [] pipe s.fx.mainq).length < 64 → s.faultsDue = [] → s.request = 0 → ∃ t,
    exec (.lbGrant pipe true ecc excess) s = .next t ∧ t.lbHeld (128 + (pipe.val / 8 + 1)) = rest)
  ∧ (∀ (s : State) (region : Fin 4) (page : Fin 256) (bank : Fin 2) (index : Fin 256), ∃ t, exec (.bundleRewrite region page bank index) s = .next t ∧ Map.get false (256 *
    (2 * (256 * region.val + page.val) + bank.val) + index.val) t.prog.bad = false ∧ t.prog.cells = s.prog.cells)
  ∧ (∀ (s : State) (who : Party) (region : Fin 4) (prof : Fin 64) (v : Word), s.admits who (1 + region.val) 2 true = true → ∃ t, exec (.xprofCommit who region prof v) s =
    .next t ∧ t.fld F.PA_PRS_XPROF_RING (64 * region.val + prof.val) =
    (match Map.get 0 (4 * (64 * region.val + prof.val) + 0) s.tm.xprofHeld with | 0 => s.fld F.PA_PRS_XPROF_RING (64 * region.val + prof.val) | a + 1 => bits a 16 16) ∧
    t.fld F.PA_PRS_XPROF_SAMPLE_ID (64 * region.val + prof.val) =
    (match Map.get 0 (4 * (64 * region.val + prof.val) + 0) s.tm.xprofHeld with | 0 => s.fld F.PA_PRS_XPROF_SAMPLE_ID (64 * region.val + prof.val) | a + 1 => bits a 0 16)
    ∧ t.fld F.PA_PRS_XPROF_F0 (64 * region.val + prof.val) =
    (match Map.get 0 (4 * (64 * region.val + prof.val) + 1) s.tm.xprofHeld with | 0 => s.fld F.PA_PRS_XPROF_F0 (64 * region.val + prof.val) | a + 1 => bits a 0 7) ∧
    t.fld F.PA_PRS_XPROF_F7 (64 * region.val + prof.val) =
    (match Map.get 0 (4 * (64 * region.val + prof.val) + 2) s.tm.xprofHeld with | 0 => s.fld F.PA_PRS_XPROF_F7 (64 * region.val + prof.val) | a + 1 => bits a 21 7) ∧
    t.fld F.PA_PRS_XPROF_VALID (64 * region.val + prof.val) = bits v.toNat 31 1 ∧ t.fld F.PA_PRS_XPROF_NFIELDS (64 * region.val + prof.val) = bits v.toNat 14 4 ∧ t.fld
    F.PA_PRS_XPROF_F9 (64 * region.val + prof.val) = bits v.toNat 7 7 ∧ (∀ w ∈ List.range 4, Map.get 0 (4 * (64 * region.val + prof.val) + w) t.tm.xprofHeld = 0))
  ∧ (∀ (s : State) (who : Party) (region : Fin 4) (meter : Fin 16384) (v : Word), s.admits who (1 + region.val) 5 = true →
    (match Map.get 0 (4 * (16384 * region.val + meter.val) + 0) s.tm.meterHeld with | 0 => s.fld F.PA_MTR_CFG_CIR (16384 * region.val + meter.val) | a + 1 => a) % 2 ^ 19
    ≤ (match Map.get 0 (4 * (16384 * region.val + meter.val) + 1) s.tm.meterHeld with | 0 => s.fld F.PA_MTR_CFG_PIR (16384 * region.val + meter.val) | a + 1 => a) % 2 ^
    19 → ∃ t, exec (.meterCommit who region meter v) s = .next t ∧ t.fld F.PA_MTR_CFG_CIR (16384 * region.val + meter.val) =
    (match Map.get 0 (4 * (16384 * region.val + meter.val) + 0) s.tm.meterHeld with | 0 => s.fld F.PA_MTR_CFG_CIR (16384 * region.val + meter.val) | a + 1 => a) % 2 ^ 19
    ∧ t.fld F.PA_MTR_CFG_PIR (16384 * region.val + meter.val) =
    (match Map.get 0 (4 * (16384 * region.val + meter.val) + 1) s.tm.meterHeld with | 0 => s.fld F.PA_MTR_CFG_PIR (16384 * region.val + meter.val) | a + 1 => a) % 2 ^ 19
    ∧ t.fld F.PA_MTR_CFG_CBS (16384 * region.val + meter.val) =
    (match Map.get 0 (4 * (16384 * region.val + meter.val) + 2) s.tm.meterHeld with | 0 => s.fld F.PA_MTR_CFG_CBS (16384 * region.val + meter.val) | a + 1 => a) % 2 ^ 18
    ∧ t.fld F.PA_MTR_CFG_PBS (16384 * region.val + meter.val) = v.toNat % 2 ^ 18 ∧ t.flag F.PA_MTR_CFG_EN (16384 * region.val + meter.val) = bit v.toNat 31 ∧ Map.get (0,
    0, 0) (16384 * region.val + meter.val) t.tm.meters = (max
    ((match Map.get 0 (4 * (16384 * region.val + meter.val) + 2) s.tm.meterHeld with | 0 => s.fld F.PA_MTR_CFG_CBS (16384 * region.val + meter.val) | a + 1 => a) % 2 ^
    18) 1 * 512000, max (v.toNat % 2 ^ 18) 1 * 512000, s.now) ∧ (∀ w ∈ List.range 3, Map.get 0 (4 * (16384 * region.val + meter.val) + w) t.tm.meterHeld = 0))
  ∧ (∀ (s : State) (who : Party) (region : Fin 4) (meter : Fin 16384) (v : Word), s.admits who (1 + region.val) 5 = true →
    (match Map.get 0 (4 * (16384 * region.val + meter.val) + 1) s.tm.meterHeld with | 0 => s.fld F.PA_MTR_CFG_PIR (16384 * region.val + meter.val) | a + 1 => a) % 2 ^ 19
    < (match Map.get 0 (4 * (16384 * region.val + meter.val) + 0) s.tm.meterHeld with | 0 => s.fld F.PA_MTR_CFG_CIR (16384 * region.val + meter.val) | a + 1 => a) % 2 ^
    19 → ∃ t, exec (.meterCommit who region meter v) s = .next t ∧ t.fld F.PA_MTR_CFG_CIR (16384 * region.val + meter.val) = s.fld F.PA_MTR_CFG_CIR (16384 * region.val +
    meter.val) ∧ t.fld F.PA_MTR_CFG_PIR (16384 * region.val + meter.val) = s.fld F.PA_MTR_CFG_PIR (16384 * region.val + meter.val) ∧ t.tm.meters = s.tm.meters ∧ (∀ w ∈
    List.range 3, Map.get 0 (4 * (16384 * region.val + meter.val) + w) t.tm.meterHeld = 0) ∧ t.raised s (128 * (region.val + 1) + 21) [.w meter] = true)
  ∧ (∀ (s : State) (who : Party) (region ch : Fin 4) (index : Fin 131072), s.admits who (1 + region.val) 4 true = true → ∃ t, exec (.counterLatch who region ch index) s =
    .next t ∧ t.fld F.PA_LVC_CNT_CTL_INDEX (4 * region.val + ch.val) = index.val ∧ t.flag F.PA_LVC_CNT_CTL_BUSY (4 * region.val + ch.val) = true ∧ Map.get 0 (4 *
    region.val + ch.val) t.tm.latches = index.val + 1)
  ∧ (∀ (s : State) (region ch : Fin 4) (n : Nat), Map.get 0 (4 * region.val + ch.val) s.tm.latches = n + 1 → ∃ t, exec (.counterLatchDone region ch) s = .next t ∧ t.fld
    F.PA_LVC_CNT_PKTS_PKTS (4 * region.val + ch.val) = (Map.get (0, 0) (131072 * region.val + n) s.tm.counters).1 % 2 ^ F.PA_LVC_CNT_PKTS_PKTS.width ∧ t.fld
    F.PA_LVC_CNT_BYTES_BYTES (4 * region.val + ch.val) = (Map.get (0, 0) (131072 * region.val + n) s.tm.counters).2 % 2 ^ F.PA_LVC_CNT_BYTES_BYTES.width ∧ t.flag
    F.PA_LVC_CNT_CTL_BUSY (4 * region.val + ch.val) = false)

/-- Program commands start, swap, abort, flip and drain loads; a load in VERIFY is written at the next tick (06_luavy_programs.md). The signature of a staged image is checked by primitives that stand as constants without a body (log entry 5). -/
def Obligations.ProgramLoadsAndSwaps : Prop :=
  (∀ (s : State) (who : Party) (pages : Fin 8192) (ecc : Bool), s.admits who 0 3 = true → s.fld F.AO_PROG_STATUS_STATE = 0 → s.mode = .run → pages.val ≠ 0 → pages.val ≤
    4096 → ∃ t, exec (.loadSwap who pages ecc) s = .next t ∧ t.fld F.AO_PROG_STATUS_SEQ = (s.fld F.AO_PROG_STATUS_SEQ + 1) % 2 ^ 16 ∧ t.fld F.AO_PROG_STATUS_STATE = 1 ∧
    t.prog.load.map (fun l => (l.op, l.pages, l.ecc)) = some (1, pages.val, ecc) ∧ t.prog.cells = s.prog.cells)
  ∧ (∀ (s : State) (who : Party) (pages : Fin 8192) (ecc : Bool), s.admits who 0 3 = true → s.fld F.AO_PROG_STATUS_STATE = 0 → s.mode = .run → pages.val = 0 ∨ 4096 <
    pages.val → ∃ t, exec (.loadSwap who pages ecc) s = .next t ∧ t.fld F.AO_PROG_STATUS_SEQ = (s.fld F.AO_PROG_STATUS_SEQ + 1) % 2 ^ 16 ∧ t.fld F.AO_PROG_STATUS_STATE =
    0 ∧ t.fld F.AO_PROG_STATUS_RESULT = 4)
  ∧ (∀ (s : State) (who : Party) (pages : Fin 8192) (ecc : Bool), s.admits who 0 3 = true → s.fld F.AO_PROG_STATUS_STATE ≠ 0 → ∃ t, exec (.loadSwap who pages ecc) s =
    .next t ∧ t.fld F.AO_PROG_STATUS_STATE = s.fld F.AO_PROG_STATUS_STATE ∧ t.prog = s.prog ∧ t.fld F.AO_PROG_STATUS_RESULT = 1 ∧ t.raised s 30 [.w 1, .w (s.fld
    F.AO_PROG_STATUS_SEQ)] = true)
  ∧ (∀ (s : State) (who : Party) (pages : Fin 8192) (ecc : Bool), s.admits who 0 3 = true → s.fld F.AO_PROG_STATUS_STATE = 0 → s.mode ≠ .run → ∃ t, exec (.loadSwap who
    pages ecc) s = .next t ∧ t.fld F.AO_PROG_STATUS_STATE = 0 ∧ t.fld F.AO_PROG_STATUS_RESULT = 2)
  ∧ (∀ (s : State) (who : Party) (pages : Fin 8192) (ecc : Bool), s.admits who 0 3 = true → s.fld F.AO_PROG_STATUS_STATE = 0 → s.mode = .run → pages.val ≠ 0 → pages.val ≤
    4096 → ∃ t, exec (.loadOnly who pages ecc) s = .next t ∧ t.fld F.AO_PROG_STATUS_SEQ = (s.fld F.AO_PROG_STATUS_SEQ + 1) % 2 ^ 16 ∧ t.fld F.AO_PROG_STATUS_STATE = 1 ∧
    t.prog.load.map (fun l => (l.op, l.pages, l.ecc)) = some (2, pages.val, ecc) ∧ t.prog.cells = s.prog.cells)
  ∧ (∀ (s : State) (who : Party) (pages : Fin 8192) (ecc : Bool), s.admits who 0 3 = true → s.fld F.AO_PROG_STATUS_STATE = 0 → s.mode = .run → pages.val = 0 ∨ 4096 <
    pages.val → ∃ t, exec (.loadOnly who pages ecc) s = .next t ∧ t.fld F.AO_PROG_STATUS_SEQ = (s.fld F.AO_PROG_STATUS_SEQ + 1) % 2 ^ 16 ∧ t.fld F.AO_PROG_STATUS_STATE =
    0 ∧ t.fld F.AO_PROG_STATUS_RESULT = 4)
  ∧ (∀ (s : State) (who : Party) (pages : Fin 8192) (ecc : Bool), s.admits who 0 3 = true → s.fld F.AO_PROG_STATUS_STATE ≠ 0 → ∃ t, exec (.loadOnly who pages ecc) s =
    .next t ∧ t.fld F.AO_PROG_STATUS_STATE = s.fld F.AO_PROG_STATUS_STATE ∧ t.prog = s.prog ∧ t.fld F.AO_PROG_STATUS_RESULT = 1 ∧ t.raised s 30 [.w 1, .w (s.fld
    F.AO_PROG_STATUS_SEQ)] = true)
  ∧ (∀ (s : State) (who : Party) (pages : Fin 8192) (ecc : Bool), s.admits who 0 3 = true → s.fld F.AO_PROG_STATUS_STATE = 0 → s.mode ≠ .run → ∃ t, exec (.loadOnly who
    pages ecc) s = .next t ∧ t.fld F.AO_PROG_STATUS_STATE = 0 ∧ t.fld F.AO_PROG_STATUS_RESULT = 2)
  ∧ (∀ (s : State) (who : Party) (l : Load), s.admits who 0 3 = true → s.prog.load = some l → l.go = false → s.fld F.AO_PROG_STATUS_STATE = 3 → s.mode = .run → ∃ t, exec
    (.swap who) s = .next t ∧ t.prog.load = some { l with go := true } ∧ t.fld F.AO_PROG_STATUS_SEQ = (s.fld F.AO_PROG_STATUS_SEQ + 1) % 2 ^ 16)
  ∧ (∀ (s : State) (who : Party), s.admits who 0 3 = true → 1 ≤ s.fld F.AO_PROG_STATUS_STATE → s.fld F.AO_PROG_STATUS_STATE ≤ 3 → ∃ t, exec (.abort who) s = .next t ∧
    t.fld F.AO_PROG_STATUS_STATE = 0 ∧ t.fld F.AO_PROG_STATUS_RESULT = 0x0D ∧ t.fld F.AO_PROG_STATUS_SEQ = (s.fld F.AO_PROG_STATUS_SEQ + 1) % 2 ^ 16 ∧ t.prog.load = none
    ∧ t.raised s 30 [.w 0x0D, .w ((s.fld F.AO_PROG_STATUS_SEQ + 1) % 2 ^ 16)] = true)
  ∧ (∀ (s : State) (who : Party), s.admits who 0 3 = true → 4 ≤ s.fld F.AO_PROG_STATUS_STATE → ∃ t, exec (.abort who) s = .next t ∧ t.fld F.AO_PROG_STATUS_STATE = s.fld
    F.AO_PROG_STATUS_STATE ∧ t.prog = s.prog ∧ t.raised s 2 [] = true)
  ∧ (∀ (s : State) (l : Load), s.prog.load = some l → l.go = true → 2 ≤ s.fld F.AO_PROG_STATUS_STATE → s.fld F.AO_PROG_STATUS_STATE ≤ 4 → s.fld F.AO_PROG_TSWAP_TSWAP ≤
    s.now → l.pipes.Nodup → ∃ t, exec .epochFlip s = .next t ∧ t.fld F.AO_PROG_STATUS_STATE = 5 ∧ (∀ p ∈ l.pipes, t.epoch p = 1 - s.epoch p ∧ t.flag
    F.PA_LVC_PROG_STATUS_OLD_BUSY p = true ∧ t.flag F.PA_LVC_PROG_STATUS_LOADED p = false) ∧ t.prog.gen = (if l.linked then 1 - s.prog.gen else s.prog.gen) ∧ t.fld
    F.AO_PROG_STATUS_LGEN = s.fld F.AO_PROG_STATUS_LGEN)
  ∧ (∀ (s : State) (pipe : Fin 64), s.flag F.PA_LVC_PROG_STATUS_OLD_BUSY pipe = true → s.oldBankIdle pipe = true → ∃ t, exec (.oldBankDrained pipe) s = .next t ∧ t.flag
    F.PA_LVC_PROG_STATUS_OLD_BUSY pipe = false ∧ t.epoch pipe = s.epoch pipe)
  ∧ (∀ (s : State) (l : Load), s.prog.load = some l → l.linked = true → s.fld F.AO_PROG_STATUS_STATE = 5 → ∃ t, exec .drainTimeout s = .next t ∧ t.fld
    F.AO_PROG_STATUS_STATE = 0 ∧ t.fld F.AO_PROG_STATUS_RESULT = 0x0F ∧ t.raised s 30 [.w 0x0F, .w (s.fld F.AO_PROG_STATUS_SEQ)] = true)
  ∧ (∀ (s : State) (l : Load), s.prog.load = some l → s.fld F.AO_PROG_STATUS_STATE = 1 → (s.stagedImage l.pages = none → s.progTick.fld F.AO_PROG_STATUS_STATE = 0 ∧
    s.progTick.fld F.AO_PROG_STATUS_RESULT = 3) ∧ ∀ (h : ImgHdr) (bs : List Byte) (x : ProgSet), s.stagedImage l.pages = some (h, bs) → imageSet h bs = some x →
    s.setCheck x = 0 → l.ecc = false → x.pipes.any (fun p => s.fenced p.region) = false → s.progTick.fld F.AO_PROG_STATUS_STATE = (if l.op = 1 then 2 else 3) ∧ ∀ p ∈
    x.pipes, s.progTick.flag F.PA_LVC_PROG_STATUS_LOADED (pipeIx p.region p.q) = true)

/-- A table definition word is stored or refused as R202 says, and a channel takes one table command at a time (07_forwarding_tables.md). -/
def Obligations.TableDefinitionsAndChannels : Prop :=
  (∀ (s : State) (who : Party) (table : Fin 64) (v : Word), s.admits who 5 6 true = true → (keyWidth (bits v.toNat 28 2) (bits v.toNat 24 4)).isSome = true → s.entries
    table = [] → s.tblBound table = false → (bit v.toNat 31 = true → s.poolUsed (bits v.toNat 28 2) table + sizeOf' (bits v.toNat 28 2) (bits v.toNat 24 4) (bits v.toNat
    0 21) * entryCost (bits v.toNat 28 2) (bits v.toNat 24 4) ≤ poolUnits (bits v.toNat 28 2)) → sizeAllowed (bits v.toNat 28 2) (bits v.toNat 0 21) = true → ∃ t, exec
    (.tblCfgWrite who table 0 v) s = .next t ∧ t.fld F.FX_TBE_TBL_CFG_EN table = bits v.toNat 31 1 ∧ t.fld F.FX_TBE_TBL_CFG_SCOPE table = bits v.toNat 30 1 ∧ t.fld
    F.FX_TBE_TBL_CFG_KIND table = bits v.toNat 28 2 ∧ t.fld F.FX_TBE_TBL_CFG_KW table = bits v.toNat 24 4 ∧ t.fld F.FX_TBE_TBL_CFG_SIZE table = bits v.toNat 0 21)
  ∧ (∀ (s : State) (who : Party) (table : Fin 64) (v : Word), s.admits who 5 6 true = true → (keyWidth (bits v.toNat 28 2) (bits v.toNat 24 4)).isSome = true → s.entries
    table ≠ [] ∨ s.tblBound table = true ∨ sizeAllowed (bits v.toNat 28 2) (bits v.toNat 0 21) = false ∨ bit v.toNat 31 = true ∧ poolUnits (bits v.toNat 28 2) <
    s.poolUsed (bits v.toNat 28 2) table + sizeOf' (bits v.toNat 28 2) (bits v.toNat 24 4) (bits v.toNat 0 21) * entryCost (bits v.toNat 28 2) (bits v.toNat 24 4) → ∃ t,
    exec (.tblCfgWrite who table 0 v) s = .next t ∧ t.fld F.FX_TBE_TBL_CFG_EN table = s.fld F.FX_TBE_TBL_CFG_EN table ∧ t.fld F.FX_TBE_TBL_CFG_SCOPE table = s.fld
    F.FX_TBE_TBL_CFG_SCOPE table ∧ t.fld F.FX_TBE_TBL_CFG_KIND table = s.fld F.FX_TBE_TBL_CFG_KIND table ∧ t.fld F.FX_TBE_TBL_CFG_KW table = s.fld F.FX_TBE_TBL_CFG_KW
    table ∧ t.fld F.FX_TBE_TBL_CFG_SIZE table = s.fld F.FX_TBE_TBL_CFG_SIZE table ∧ t.tbl = s.tbl ∧ t.raised s 650 [.w table, .w 0] = true)
  ∧ (∀ (s : State) (who : Party) (table : Fin 64) (v : Word), s.admits who 5 6 true = true → keyWidth (bits v.toNat 28 2) (bits v.toNat 24 4) = none → ∃ t, exec
    (.tblCfgWrite who table 0 v) s = .next t ∧ t.fld F.FX_TBE_TBL_CFG_EN table = s.fld F.FX_TBE_TBL_CFG_EN table ∧ t.fld F.FX_TBE_TBL_CFG_SCOPE table = s.fld
    F.FX_TBE_TBL_CFG_SCOPE table ∧ t.fld F.FX_TBE_TBL_CFG_KIND table = s.fld F.FX_TBE_TBL_CFG_KIND table ∧ t.fld F.FX_TBE_TBL_CFG_KW table = s.fld F.FX_TBE_TBL_CFG_KW
    table ∧ t.fld F.FX_TBE_TBL_CFG_SIZE table = s.fld F.FX_TBE_TBL_CFG_SIZE table ∧ t.tbl = s.tbl)
  ∧ (∀ (s : State) (who : Party) (table : Fin 64) (v : Word), s.admits who 5 6 true = true → ∃ t, exec (.tblCfgWrite who table 1 v) s = .next t ∧ t.fld
    F.FX_TBE_TBL_CFG_AGE_EN table = bits v.toNat 31 1 ∧ t.fld F.FX_TBE_TBL_CFG_ON_EXIST table = bits v.toNat 30 1 ∧ t.fld F.FX_TBE_TBL_CFG_FULL_PRED_EN table = bits
    v.toNat 29 1 ∧ t.fld F.FX_TBE_TBL_CFG_FULL_PRED table = bits v.toNat 24 5 ∧ t.fld F.FX_TBE_TBL_CFG_AGE_PERIOD table = bits v.toNat 0 24)
  ∧ (∀ (s : State) (who : Party) (table : Fin 64) (v : Word), s.admits who 5 6 true = true → ∃ t, exec (.tblCfgWrite who table 2 v) s = .next t ∧ t.fld
    F.FX_TBE_TBL_CFG_LEARN_RING table = bits v.toNat 16 16 ∧ t.fld F.FX_TBE_TBL_CFG_LRING_EN table = bits v.toNat 15 1 ∧ t.fld F.FX_TBE_TBL_CFG_STITCH_SHARE table = bits
    v.toNat 14 1)
  ∧ (∀ (s : State) (who : Party) (table : Fin 64) (v : Word), s.admits who 5 6 true = true → ∃ t, exec (.tblCfgWrite who table 3 v) s = .next t ∧ t.fld
    F.FX_TBE_TBL_CFG_NOROOM_HI table = v.toNat)
  ∧ (∀ (s : State) (who : Party) (table : Fin 64) (v : Word), s.admits who 5 6 true = true → ∃ t, exec (.tblCfgWrite who table 4 v) s = .next t ∧ t.fld
    F.FX_TBE_TBL_CFG_NOROOM_LO table = v.toNat)
  ∧ (∀ (s : State) (ch : Fin 4) (regions : Fin 16) (table : Fin 64), s.flag F.FX_TBE_RESULT_BUSY ch = false → ∃ t, exec (.tableInsert ch regions table) s = .next t ∧
    Map.get none ch t.tbl.chan = some (1 * 2 ^ 28 + regions.val * 2 ^ 24 + table.val, s.fld F.FX_TBE_CMD_INDEX_INDEX ch) ∧ t.flag F.FX_TBE_RESULT_BUSY ch = true ∧
    t.tbl.tabs = s.tbl.tabs)
  ∧ (∀ (s : State) (ch : Fin 4) (regions : Fin 16) (table : Fin 64), s.flag F.FX_TBE_RESULT_BUSY ch = true → ∃ t, exec (.tableInsert ch regions table) s = .next t ∧ t.fld
    F.FX_TBE_RESULT_CODE ch = 1 ∧ t.flag F.FX_TBE_RESULT_BUSY ch = true ∧ t.tbl = s.tbl)
  ∧ (∀ (s : State) (ch : Fin 4) (regions : Fin 16) (table : Fin 64), s.flag F.FX_TBE_RESULT_BUSY ch = false → ∃ t, exec (.tableReplace ch regions table) s = .next t ∧
    Map.get none ch t.tbl.chan = some (2 * 2 ^ 28 + regions.val * 2 ^ 24 + table.val, s.fld F.FX_TBE_CMD_INDEX_INDEX ch) ∧ t.flag F.FX_TBE_RESULT_BUSY ch = true ∧
    t.tbl.tabs = s.tbl.tabs)
  ∧ (∀ (s : State) (ch : Fin 4) (regions : Fin 16) (table : Fin 64), s.flag F.FX_TBE_RESULT_BUSY ch = true → ∃ t, exec (.tableReplace ch regions table) s = .next t ∧ t.fld
    F.FX_TBE_RESULT_CODE ch = 1 ∧ t.flag F.FX_TBE_RESULT_BUSY ch = true ∧ t.tbl = s.tbl)
  ∧ (∀ (s : State) (ch : Fin 4) (regions : Fin 16) (table : Fin 64), s.flag F.FX_TBE_RESULT_BUSY ch = false → ∃ t, exec (.tableWrite ch regions table) s = .next t ∧
    Map.get none ch t.tbl.chan = some (3 * 2 ^ 28 + regions.val * 2 ^ 24 + table.val, s.fld F.FX_TBE_CMD_INDEX_INDEX ch) ∧ t.flag F.FX_TBE_RESULT_BUSY ch = true ∧
    t.tbl.tabs = s.tbl.tabs)
  ∧ (∀ (s : State) (ch : Fin 4) (regions : Fin 16) (table : Fin 64), s.flag F.FX_TBE_RESULT_BUSY ch = true → ∃ t, exec (.tableWrite ch regions table) s = .next t ∧ t.fld
    F.FX_TBE_RESULT_CODE ch = 1 ∧ t.flag F.FX_TBE_RESULT_BUSY ch = true ∧ t.tbl = s.tbl)
  ∧ (∀ (s : State) (ch : Fin 4) (regions : Fin 16) (table : Fin 64), s.flag F.FX_TBE_RESULT_BUSY ch = false → ∃ t, exec (.tableDelete ch regions table) s = .next t ∧
    Map.get none ch t.tbl.chan = some (4 * 2 ^ 28 + regions.val * 2 ^ 24 + table.val, s.fld F.FX_TBE_CMD_INDEX_INDEX ch) ∧ t.flag F.FX_TBE_RESULT_BUSY ch = true ∧
    t.tbl.tabs = s.tbl.tabs)
  ∧ (∀ (s : State) (ch : Fin 4) (regions : Fin 16) (table : Fin 64), s.flag F.FX_TBE_RESULT_BUSY ch = true → ∃ t, exec (.tableDelete ch regions table) s = .next t ∧ t.fld
    F.FX_TBE_RESULT_CODE ch = 1 ∧ t.flag F.FX_TBE_RESULT_BUSY ch = true ∧ t.tbl = s.tbl)
  ∧ (∀ (s : State) (ch : Fin 4) (regions : Fin 16) (table : Fin 64), s.flag F.FX_TBE_RESULT_BUSY ch = false → ∃ t, exec (.tableRead ch regions table) s = .next t ∧ Map.get
    none ch t.tbl.chan = some (5 * 2 ^ 28 + regions.val * 2 ^ 24 + table.val, s.fld F.FX_TBE_CMD_INDEX_INDEX ch) ∧ t.flag F.FX_TBE_RESULT_BUSY ch = true ∧ t.tbl.tabs =
    s.tbl.tabs)
  ∧ (∀ (s : State) (ch : Fin 4) (regions : Fin 16) (table : Fin 64), s.flag F.FX_TBE_RESULT_BUSY ch = true → ∃ t, exec (.tableRead ch regions table) s = .next t ∧ t.fld
    F.FX_TBE_RESULT_CODE ch = 1 ∧ t.flag F.FX_TBE_RESULT_BUSY ch = true ∧ t.tbl = s.tbl)
  ∧ (∀ (s : State) (ch : Fin 4) (regions : Fin 16) (table : Fin 64), s.flag F.FX_TBE_RESULT_BUSY ch = false → ∃ t, exec (.tableFlush ch regions table) s = .next t ∧
    Map.get none ch t.tbl.chan = some (6 * 2 ^ 28 + regions.val * 2 ^ 24 + table.val, s.fld F.FX_TBE_CMD_INDEX_INDEX ch) ∧ t.flag F.FX_TBE_RESULT_BUSY ch = true ∧
    t.tbl.tabs = s.tbl.tabs)
  ∧ (∀ (s : State) (ch : Fin 4) (regions : Fin 16) (table : Fin 64), s.flag F.FX_TBE_RESULT_BUSY ch = true → ∃ t, exec (.tableFlush ch regions table) s = .next t ∧ t.fld
    F.FX_TBE_RESULT_CODE ch = 1 ∧ t.flag F.FX_TBE_RESULT_BUSY ch = true ∧ t.tbl = s.tbl)

/-- A granted commit ends its command with its result, a learn queue gives its oldest insertion, entries age and are made good (07_forwarding_tables.md). -/
def Obligations.TableCommitsAgeingAndRewrites : Prop :=
  (∀ (s : State) (half : Fin 2) (ch : Fin 4) (w index : Nat), s.fenced 5 = false → ((List.range 26).map (fun i => (Map.get 0 half s.tbl.turn + i) % 26)).find?
    (s.srcWaits half) = some ch.val → Map.get none ch s.tbl.chan = some (w, index) → s.flushMore (bits w 0 6) (bits w 28 4) (bits w 24 4) (s.chanWords ch) = false → ∃ t,
    exec (.engineCommit half ()) s = .next t ∧ Map.get none ch t.tbl.chan = none ∧ t.flag F.FX_TBE_RESULT_BUSY ch = false ∧ t.fld F.FX_TBE_RESULT_SEQ ch = (s.fld
    F.FX_TBE_RESULT_SEQ ch + 1) % 2 ^ 16 ∧ Map.get 0 half t.tbl.turn = (ch.val + 1) % 26)
  ∧ (∀ (s : State) (half : Fin 2) (ch : Fin 4) (w index : Nat), s.fenced 5 = false → ((List.range 26).map (fun i => (Map.get 0 half s.tbl.turn + i) % 26)).find?
    (s.srcWaits half) = some ch.val → Map.get none ch s.tbl.chan = some (w, index) → s.tblEn (bits w 0 6) = false → ∃ t, exec (.engineCommit half ()) s = .next t ∧ t.fld
    F.FX_TBE_RESULT_CODE ch = 2 ∧ t.tbl.tabs = s.tbl.tabs)
  ∧ (∀ (s : State) (half : Fin 2) (ch : Fin 4) (w index : Nat), s.fenced 5 = false → ((List.range 26).map (fun i => (Map.get 0 half s.tbl.turn + i) % 26)).find?
    (s.srcWaits half) = some ch.val → Map.get none ch s.tbl.chan = some (w, index) → s.flushMore (bits w 0 6) (bits w 28 4) (bits w 24 4) (s.chanWords ch) = false →
    s.tblEn (bits w 0 6) = true → s.badCommand (bits w 0 6) (bits w 28 4) (bits w 24 4) index (s.chanWords ch) = true → ∃ t, exec (.engineCommit half ()) s = .next t ∧
    t.fld F.FX_TBE_RESULT_CODE ch = 3 ∧ t.tbl.tabs = s.tbl.tabs)
  ∧ (∀ (s : State) (half : Fin 2) (ch : Fin 4) (w index : Nat), s.fenced 5 = false → ((List.range 26).map (fun i => (Map.get 0 half s.tbl.turn + i) % 26)).find?
    (s.srcWaits half) = some ch.val → Map.get none ch s.tbl.chan = some (w, index) → s.flushMore (bits w 0 6) (bits w 28 4) (bits w 24 4) (s.chanWords ch) = false →
    s.tblEn (bits w 0 6) = true → s.badCommand (bits w 0 6) (bits w 28 4) (bits w 24 4) index (s.chanWords ch) = false → s.tblLocal (bits w 0 6) = true → (s.scopeOf
    (bits w 0 6) (bits w 24 4)).any s.fenced = true → ∃ t, exec (.engineCommit half ()) s = .next t ∧ t.fld F.FX_TBE_RESULT_CODE ch = 7 ∧ t.tbl.tabs = s.tbl.tabs)
  ∧ (∀ (s : State) (half : Fin 2) (ch : Fin 4) (w index : Nat), s.fenced 5 = false → ((List.range 26).map (fun i => (Map.get 0 half s.tbl.turn + i) % 26)).find?
    (s.srcWaits half) = some ch.val → Map.get none ch s.tbl.chan = some (w, index) → s.flushMore (bits w 0 6) (bits w 28 4) (bits w 24 4) (s.chanWords ch) = false →
    s.tblEn (bits w 0 6) = true → s.badCommand (bits w 0 6) (bits w 28 4) (bits w 24 4) index (s.chanWords ch) = false → (s.tblLocal (bits w 0 6) = true → (s.scopeOf
    (bits w 0 6) (bits w 24 4)).any s.fenced = false) → bits w 28 4 = 1 → (s.scopeOf (bits w 0 6) (bits w 24 4)).filter (fun r => (s.addressed (bits w 0 6) r index
    (s.chanWords ch)).isSome) ≠ [] → ∃ t, exec (.engineCommit half ()) s = .next t ∧ t.fld F.FX_TBE_RESULT_CODE ch = 4 ∧ t.tbl.tabs = s.tbl.tabs)
  ∧ (∀ (s : State) (half : Fin 2) (ch : Fin 4) (w index : Nat), s.fenced 5 = false → ((List.range 26).map (fun i => (Map.get 0 half s.tbl.turn + i) % 26)).find?
    (s.srcWaits half) = some ch.val → Map.get none ch s.tbl.chan = some (w, index) → s.flushMore (bits w 0 6) (bits w 28 4) (bits w 24 4) (s.chanWords ch) = false →
    s.tblEn (bits w 0 6) = true → s.badCommand (bits w 0 6) (bits w 28 4) (bits w 24 4) index (s.chanWords ch) = false → (s.tblLocal (bits w 0 6) = true → (s.scopeOf
    (bits w 0 6) (bits w 24 4)).any s.fenced = false) → bits w 28 4 = 2 ∨ bits w 28 4 = 4 → ((s.scopeOf (bits w 0 6) (bits w 24 4)).filter (fun r => (s.addressed (bits w
    0 6) r index (s.chanWords ch)).isSome)).length ≠ (s.scopeOf (bits w 0 6) (bits w 24 4)).length → ∃ t, exec (.engineCommit half ()) s = .next t ∧ t.fld
    F.FX_TBE_RESULT_CODE ch = 5 ∧ t.tbl.tabs = s.tbl.tabs)
  ∧ (∀ (s : State) (half : Fin 2) (ch : Fin 4) (w index : Nat), s.fenced 5 = false → ((List.range 26).map (fun i => (Map.get 0 half s.tbl.turn + i) % 26)).find?
    (s.srcWaits half) = some ch.val → Map.get none ch s.tbl.chan = some (w, index) → s.flushMore (bits w 0 6) (bits w 28 4) (bits w 24 4) (s.chanWords ch) = false →
    s.tblEn (bits w 0 6) = true → s.badCommand (bits w 0 6) (bits w 28 4) (bits w 24 4) index (s.chanWords ch) = false → (s.tblLocal (bits w 0 6) = true → (s.scopeOf
    (bits w 0 6) (bits w 24 4)).any s.fenced = false) → bits w 28 4 = 5 → s.addressed (bits w 0 6) ((s.scopeOf (bits w 0 6) (bits w 24 4)).headD 0) index (s.chanWords
    ch) = none → ∃ t, exec (.engineCommit half ()) s = .next t ∧ t.fld F.FX_TBE_RESULT_CODE ch = 5 ∧ t.tbl.tabs = s.tbl.tabs)
  ∧ (∀ (s : State) (half : Fin 2) (ch : Fin 4) (w index : Nat), s.fenced 5 = false → ((List.range 26).map (fun i => (Map.get 0 half s.tbl.turn + i) % 26)).find?
    (s.srcWaits half) = some ch.val → Map.get none ch s.tbl.chan = some (w, index) → s.flushMore (bits w 0 6) (bits w 28 4) (bits w 24 4) (s.chanWords ch) = false →
    s.tblEn (bits w 0 6) = true → s.badCommand (bits w 0 6) (bits w 28 4) (bits w 24 4) index (s.chanWords ch) = false → (s.tblLocal (bits w 0 6) = true → (s.scopeOf
    (bits w 0 6) (bits w 24 4)).any s.fenced = false) → bits w 28 4 = 1 ∨ bits w 28 4 = 3 → (s.scopeOf (bits w 0 6) (bits w 24 4)).filter (fun r => (s.addressed (bits w
    0 6) r index (s.chanWords ch)).isSome) = [] → (s.scopeOf (bits w 0 6) (bits w 24 4)).mapM (fun r => s.placeFor (bits w 0 6) r (imageKey (s.chanWords ch)) index) =
    none → ∃ t, exec (.engineCommit half ()) s = .next t ∧ t.fld F.FX_TBE_RESULT_CODE ch = 6 ∧ t.tbl.tabs = s.tbl.tabs)
  ∧ (∀ (s : State) (half : Fin 2) (ch : Fin 4) (w index : Nat) (places : List Nat), s.fenced 5 = false → ((List.range 26).map (fun i => (Map.get 0 half s.tbl.turn + i) %
    26)).find? (s.srcWaits half) = some ch.val → Map.get none ch s.tbl.chan = some (w, index) → s.flushMore (bits w 0 6) (bits w 28 4) (bits w 24 4) (s.chanWords ch) =
    false → s.tblEn (bits w 0 6) = true → s.badCommand (bits w 0 6) (bits w 28 4) (bits w 24 4) index (s.chanWords ch) = false → (s.tblLocal (bits w 0 6) = true →
    (s.scopeOf (bits w 0 6) (bits w 24 4)).any s.fenced = false) → bits w 28 4 = 1 ∨ bits w 28 4 = 3 → (s.scopeOf (bits w 0 6) (bits w 24 4)).filter (fun r =>
    (s.addressed (bits w 0 6) r index (s.chanWords ch)).isSome) = [] → (s.scopeOf (bits w 0 6) (bits w 24 4)).mapM (fun r => s.placeFor (bits w 0 6) r (imageKey
    (s.chanWords ch)) index) = some places → ∃ t, exec (.engineCommit half ()) s = .next t ∧ t.entries (bits w 0 6) = s.entries (bits w 0 6) ++ ((s.scopeOf (bits w 0 6)
    (bits w 24 4)).zip places).map (fun x => s.imageEntry (bits w 0 6) x.1 x.2 (s.chanWords ch)) ∧ t.fld F.FX_TBE_RESULT_CODE ch = 0)
  ∧ (∀ (s : State) (half : Fin 2) (ch : Fin 4) (w index : Nat), s.fenced 5 = false → ((List.range 26).map (fun i => (Map.get 0 half s.tbl.turn + i) % 26)).find?
    (s.srcWaits half) = some ch.val → Map.get none ch s.tbl.chan = some (w, index) → s.flushMore (bits w 0 6) (bits w 28 4) (bits w 24 4) (s.chanWords ch) = false →
    s.tblEn (bits w 0 6) = true → s.badCommand (bits w 0 6) (bits w 28 4) (bits w 24 4) index (s.chanWords ch) = false → (s.tblLocal (bits w 0 6) = true → (s.scopeOf
    (bits w 0 6) (bits w 24 4)).any s.fenced = false) → bits w 28 4 = 4 → ((s.scopeOf (bits w 0 6) (bits w 24 4)).filter (fun r => (s.addressed (bits w 0 6) r index
    (s.chanWords ch)).isSome)).length = (s.scopeOf (bits w 0 6) (bits w 24 4)).length → ∃ t, exec (.engineCommit half ()) s = .next t ∧ t.entries (bits w 0 6) =
    (s.entries (bits w 0 6)).filter (fun x => !((s.scopeOf (bits w 0 6) (bits w 24 4)).contains x.region && s.addressed (bits w 0 6) x.region index (s.chanWords ch) ==
    some x)) ∧ t.fld F.FX_TBE_RESULT_CODE ch = 0)
  ∧ (∀ (s : State) (half : Fin 2) (ch : Fin 4) (w index : Nat) (e : TEntry), s.fenced 5 = false → ((List.range 26).map (fun i => (Map.get 0 half s.tbl.turn + i) %
    26)).find? (s.srcWaits half) = some ch.val → Map.get none ch s.tbl.chan = some (w, index) → s.flushMore (bits w 0 6) (bits w 28 4) (bits w 24 4) (s.chanWords ch) =
    false → s.tblEn (bits w 0 6) = true → s.badCommand (bits w 0 6) (bits w 28 4) (bits w 24 4) index (s.chanWords ch) = false → (s.tblLocal (bits w 0 6) = true →
    (s.scopeOf (bits w 0 6) (bits w 24 4)).any s.fenced = false) → bits w 28 4 = 2 ∨ bits w 28 4 = 3 → s.tblLocal (bits w 0 6) = false → s.addressed (bits w 0 6) 0 index
    (s.chanWords ch) = some e → ∃ t, exec (.engineCommit half ()) s = .next t ∧ t.entries (bits w 0 6) = (s.entries (bits w 0 6)).map (fun x => if x.region = e.region ∧
    x.index = e.index then s.imageEntry (bits w 0 6) e.region e.index (s.chanWords ch) else x) ∧ t.fld F.FX_TBE_RESULT_CODE ch = 0)
  ∧ (∀ (s : State) (half : Fin 2) (ch : Fin 4) (w index : Nat) (e : TEntry), s.fenced 5 = false → ((List.range 26).map (fun i => (Map.get 0 half s.tbl.turn + i) %
    26)).find? (s.srcWaits half) = some ch.val → Map.get none ch s.tbl.chan = some (w, index) → s.flushMore (bits w 0 6) (bits w 28 4) (bits w 24 4) (s.chanWords ch) =
    false → s.tblEn (bits w 0 6) = true → s.badCommand (bits w 0 6) (bits w 28 4) (bits w 24 4) index (s.chanWords ch) = false → (s.tblLocal (bits w 0 6) = true →
    (s.scopeOf (bits w 0 6) (bits w 24 4)).any s.fenced = false) → bits w 28 4 = 5 → s.addressed (bits w 0 6) ((s.scopeOf (bits w 0 6) (bits w 24 4)).headD 0) index
    (s.chanWords ch) = some e → ∃ t, exec (.engineCommit half ()) s = .next t ∧ ((∀ i ∈ List.range 48, t.fld F.FX_TBE_STAGE_WORD (48 * ch.val + i) = (entryImage
    (s.tblKind (bits w 0 6)) e).getD i 0 % 2 ^ 32)) ∧ t.tbl.tabs = s.tbl.tabs ∧ t.fld F.FX_TBE_RESULT_CODE ch = 0)
  ∧ (∀ (s : State) (half : Fin 2) (ch : Fin 4) (w index : Nat) (e : TEntry) (es : List TEntry), s.fenced 5 = false → ((List.range 26).map (fun i => (Map.get 0 half
    s.tbl.turn + i) % 26)).find? (s.srcWaits half) = some ch.val → Map.get none ch s.tbl.chan = some (w, index) → s.tblEn (bits w 0 6) = true → s.badCommand (bits w 0 6)
    (bits w 28 4) (bits w 24 4) index (s.chanWords ch) = false → (s.tblLocal (bits w 0 6) = true → (s.scopeOf (bits w 0 6) (bits w 24 4)).any s.fenced = false) → bits w
    28 4 = 6 → s.flushHits (bits w 0 6) (bits w 24 4) (s.chanWords ch) = e :: es → es ≠ [] → ∃ t, exec (.engineCommit half ()) s = .next t ∧ t.entries (bits w 0 6) =
    (s.entries (bits w 0 6)).filter (fun x => !(x.region == e.region && x.index == e.index)) ∧ Map.get none ch t.tbl.chan = some (w, index) ∧ t.flag F.FX_TBE_RESULT_BUSY
    ch = s.flag F.FX_TBE_RESULT_BUSY ch)
  ∧ (∀ (s : State) (half : Fin 2) (r : Fin 4) (l : Learn) (rest : List Learn), s.fenced 5 = false → ((List.range 26).map (fun i => (Map.get 0 half s.tbl.turn + i) %
    26)).find? (s.srcWaits half) = some (20 + r.val) → takeLearn half (Map.get [] (r.val + 1) s.tbl.learnq) = some (l, rest) → ∃ t, exec (.engineCommit half ()) s =
    .next t ∧ Map.get [] (r.val + 1) t.tbl.learnq = rest ∧ Map.get 0 half t.tbl.turn = (21 + r.val) % 26)
  ∧ (∀ (s : State) (table : Fin 64) (w : Sweep) (index : Nat) (e : TEntry), s.tblEn table = true → s.tblKind table = 0 → s.fenced 5 = false → s.sweepNow table = some w →
    w.ages = true → s.nextEntry table w.pos = some index → (s.entries table).filter (fun x => x.index == index) = [e] → e.stat = false → e.origin = s.devid → e.hits = 0
    → e.aged1 = true → ∃ t, exec (.ageSweep table ()) s = .next t ∧ t.entries table = (s.entries table).filter (fun x => !(x.region == e.region && x.index == e.index)) ∧
    t.fld F.FX_TBE_TBL_STAT_COUNT (8 * table.val + 4) = (s.fld F.FX_TBE_TBL_STAT_COUNT (8 * table.val + 4) + 1) % 2 ^ 64 ∧ (Map.get {} table t.tbl.sweeps).pos = index +
    1)
  ∧ (∀ (s : State) (table : Fin 64) (w : Sweep) (index : Nat) (e : TEntry), s.tblEn table = true → s.tblKind table = 0 → s.fenced 5 = false → s.sweepNow table = some w →
    w.ages = true → s.nextEntry table w.pos = some index → (s.entries table).filter (fun x => x.index == index) = [e] → e.stat = false → e.origin = s.devid → e.hits ≠ 0
    → ∃ t, exec (.ageSweep table ()) s = .next t ∧ (t.entries table).filter (fun x => x.index == index) = [{ e with hits := 0, aged1 := false }] ∧ (Map.get {} table
    t.tbl.sweeps).pos = index + 1)
  ∧ (∀ (s : State) (table : Fin 64) (w : Sweep) (index : Nat) (e : TEntry), s.tblEn table = true → s.tblKind table = 0 → s.fenced 5 = false → s.sweepNow table = some w →
    w.ages = true → s.nextEntry table w.pos = some index → (s.entries table).filter (fun x => x.index == index) = [e] → e.stat = false → e.origin = s.devid → e.hits = 0
    → e.aged1 = false → ∃ t, exec (.ageSweep table ()) s = .next t ∧ (t.entries table).filter (fun x => x.index == index) = [{ e with aged1 := true }] ∧ (Map.get {}
    table t.tbl.sweeps).pos = index + 1)
  ∧ (∀ (s : State) (table : Fin 64) (w : Sweep) (index : Nat) (e : TEntry), s.tblEn table = true → s.tblKind table = 0 → s.fenced 5 = false → s.sweepNow table = some w →
    w.ages = true → s.nextEntry table w.pos = some index → (s.entries table).filter (fun x => x.index == index) = [e] → e.stat = true ∨ e.origin ≠ s.devid → ∃ t, exec
    (.ageSweep table ()) s = .next t ∧ t.entries table = s.entries table ∧ (Map.get {} table t.tbl.sweeps).pos = index + 1)
  ∧ (∀ (s : State) (table : Fin 64) (region : Fin 4) (index : Fin 1048576) (e : TEntry), (s.entries table).filter (fun x => x.index == index.val) = [e] → e.inReplica
    (region.val + 1) = true → bit e.bad region = true → ∃ t, exec (.entryRewrite table region index) s = .next t ∧ (t.entries table).filter (fun x => x.index ==
    index.val) = [{ e with bad := e.bad - 2 ^ region.val }])
  ∧ (∀ (s : State) (ring : Fin 65536) (got put : Bool) (image : List Byte) (d : Desc) (i : Nat), s.fenced 5 = false → s.tblPlace ring = some i → (s.ring ring).work.find?
    (fun d => d.dtype == 0x30) = some d → s.badUpdate ring d = true → ∃ t, exec (.tableUpdate ring got image put) s = .next t ∧ t.ended s ring d.pos 2 0 ∧ t.tbl.tabs =
    s.tbl.tabs)
  ∧ (∀ (s : State) (ring : Fin 65536) (got put : Bool) (image : List Byte) (d : Desc) (i : Nat), s.fenced 5 = false → s.tblPlace ring = some i → (s.ring ring).work.find?
    (fun d => d.dtype == 0x30) = some d → s.badUpdate ring d = false → (!(if s.ownerOf ring < 2056 then got else s.coreGood (leAt d.bytes 8 8) 192)) = true → ∃ t, exec
    (.tableUpdate ring got image put) s = .next t ∧ (t.ring ring).work.all (fun x => x.pos != d.pos) = true ∧ t.tbl.tabs = s.tbl.tabs)
  ∧ (∀ (s : State) (ring : Fin 65536) (got put : Bool) (image : List Byte) (d : Desc) (i : Nat), s.fenced 5 = false → s.tblPlace ring = some i → (s.ring ring).work.find?
    (fun d => d.dtype == 0x30) = some d → s.badUpdate ring d = false → (!(if s.ownerOf ring < 2056 then got else s.coreGood (leAt d.bytes 8 8) 192)) = false →
    s.flushMore (bits (leAt d.bytes 0 4) 0 6) (bits (leAt d.bytes 0 4) 12 4) (bits (leAt d.bytes 0 4) 8 4) (bytesWords 48 (if s.ownerOf ring < 2056 then image else
    s.memRead (leAt d.bytes 8 8) 192)) = false → ∃ t, exec (.tableUpdate ring got image put) s = .next t ∧ (t.ring ring).work.all (fun x => x.pos != d.pos) = true ∧
    Map.get 0 (bits (leAt d.bytes 0 4) 0 6 % 2) t.tbl.turn = (5 + i) % 26)
  ∧ (∀ (s : State) (ring : Fin 65536) (got put : Bool) (image : List Byte) (d : Desc) (i : Nat), s.fenced 5 = false → s.tblPlace ring = some i → (s.ring ring).work.find?
    (fun d => d.dtype == 0x30) = some d → s.badUpdate ring d = false → (!(if s.ownerOf ring < 2056 then got else s.coreGood (leAt d.bytes 8 8) 192)) = false →
    s.flushMore (bits (leAt d.bytes 0 4) 0 6) (bits (leAt d.bytes 0 4) 12 4) (bits (leAt d.bytes 0 4) 8 4) (bytesWords 48 (if s.ownerOf ring < 2056 then image else
    s.memRead (leAt d.bytes 8 8) 192)) = true → ∃ t, exec (.tableUpdate ring got image put) s = .next t ∧ (t.ring ring).work = (s.ring ring).work ∧ Map.get 0 (bits (leAt
    d.bytes 0 4) 0 6 % 2) t.tbl.turn = (5 + i) % 26)

/-- Admission stores or drops the next copy of the stage whose turn it is; queue words are stored within bounds; first segments make eligible (08_shared_buffer.md). -/
def Obligations.AdmissionAndQueueSettings : Prop :=
  (∀ (s : State) (n : Nat) (ex : Bool) (a : AdmItem) (rest : List AdmItem) (c : Copy) (cs : List Copy) (f : FxFrame), s.fenced 5 = false → s.admTurn.map (·.2) = some n →
    s.stageHead n = some (ex, a, rest) → s.frame? a.fid = some f → (s.unfold f.pkt a.copies).2 = c :: cs → c.lp ≠ 1023 → (f.pkt.stitched && s.stitchLp c.lp) = false →
    s.fenced (lpRegion c.lp) = false → (s.charged (queueIx c.lp c.cls) + f.pkt.segments - s.minOf (queueIx c.lp c.cls) - (s.charged (queueIx c.lp c.cls) - s.minOf
    (queueIx c.lp c.cls))) = 0 ∨ (((s.charged (queueIx c.lp c.cls) - s.minOf (queueIx c.lp c.cls)) + (s.charged (queueIx c.lp c.cls) + f.pkt.segments - s.minOf (queueIx
    c.lp c.cls) - (s.charged (queueIx c.lp c.cls) - s.minOf (queueIx c.lp c.cls))) : Nat) : Int) ≤ s.limitOf (queueIx c.lp c.cls) → ((s.charged (queueIx c.lp c.cls) +
    f.pkt.segments - s.minOf (queueIx c.lp c.cls) - (s.charged (queueIx c.lp c.cls) - s.minOf (queueIx c.lp c.cls))) : Int) ≤ s.freeF → ∃ t, exec (.admissionEnqueue ())
    s = .next t ∧ (t.queue (queueIx c.lp c.cls)).map (·.fid) = (s.queue (queueIx c.lp c.cls)).map (·.fid) ++ [a.fid] ∧ t.charged (queueIx c.lp c.cls) = s.charged
    (queueIx c.lp c.cls) + f.pkt.segments ∧ Map.get [] n (if ex then t.fx.express else t.fx.mainq) = (if cs.isEmpty && (t.frame? a.fid).all (fun g => g.want == 0) then
    rest else { a with copies := cs } :: rest) ∧ t.fld F.FX_ADM_QSTAT_COUNT (7 * queueIx c.lp c.cls) = (s.fld F.FX_ADM_QSTAT_COUNT (7 * queueIx c.lp c.cls) + 1) % 2 ^
    F.FX_ADM_QSTAT_COUNT.width)
  ∧ (∀ (s : State) (n : Nat) (ex : Bool) (a : AdmItem) (rest : List AdmItem) (c : Copy) (cs : List Copy) (f : FxFrame), s.fenced 5 = false → s.admTurn.map (·.2) = some n →
    s.stageHead n = some (ex, a, rest) → s.frame? a.fid = some f → (s.unfold f.pkt a.copies).2 = c :: cs → c.lp ≠ 1023 → (f.pkt.stitched && s.stitchLp c.lp) = false →
    s.fenced (lpRegion c.lp) = true → ∃ t, exec (.admissionEnqueue ()) s = .next t ∧ t.queue (queueIx c.lp c.cls) = s.queue (queueIx c.lp c.cls) ∧ t.charged (queueIx
    c.lp c.cls) = s.charged (queueIx c.lp c.cls) ∧ t.fld F.FX_ADM_QSTAT_COUNT (7 * queueIx c.lp c.cls + 4) = (s.fld F.FX_ADM_QSTAT_COUNT (7 * queueIx c.lp c.cls + 4) +
    1) % 2 ^ F.FX_ADM_QSTAT_COUNT.width)
  ∧ (∀ (s : State) (n : Nat) (ex : Bool) (a : AdmItem) (rest : List AdmItem) (c : Copy) (cs : List Copy) (f : FxFrame), s.fenced 5 = false → s.admTurn.map (·.2) = some n →
    s.stageHead n = some (ex, a, rest) → s.frame? a.fid = some f → (s.unfold f.pkt a.copies).2 = c :: cs → c.lp ≠ 1023 → (f.pkt.stitched && s.stitchLp c.lp) = false →
    s.fenced (lpRegion c.lp) = false → (s.charged (queueIx c.lp c.cls) + f.pkt.segments - s.minOf (queueIx c.lp c.cls) - (s.charged (queueIx c.lp c.cls) - s.minOf
    (queueIx c.lp c.cls))) ≠ 0 → s.limitOf (queueIx c.lp c.cls) < (((s.charged (queueIx c.lp c.cls) - s.minOf (queueIx c.lp c.cls)) + (s.charged (queueIx c.lp c.cls) +
    f.pkt.segments - s.minOf (queueIx c.lp c.cls) - (s.charged (queueIx c.lp c.cls) - s.minOf (queueIx c.lp c.cls))) : Nat) : Int) → ∃ t, exec (.admissionEnqueue ()) s =
    .next t ∧ t.queue (queueIx c.lp c.cls) = s.queue (queueIx c.lp c.cls) ∧ t.charged (queueIx c.lp c.cls) = s.charged (queueIx c.lp c.cls) ∧ t.fld F.FX_ADM_QSTAT_COUNT
    (7 * queueIx c.lp c.cls + 2) = (s.fld F.FX_ADM_QSTAT_COUNT (7 * queueIx c.lp c.cls + 2) + 1) % 2 ^ F.FX_ADM_QSTAT_COUNT.width)
  ∧ (∀ (s : State) (n : Nat) (ex : Bool) (a : AdmItem) (rest : List AdmItem) (c : Copy) (cs : List Copy) (f : FxFrame), s.fenced 5 = false → s.admTurn.map (·.2) = some n →
    s.stageHead n = some (ex, a, rest) → s.frame? a.fid = some f → (s.unfold f.pkt a.copies).2 = c :: cs → c.lp ≠ 1023 → (f.pkt.stitched && s.stitchLp c.lp) = false →
    s.fenced (lpRegion c.lp) = false → (s.charged (queueIx c.lp c.cls) + f.pkt.segments - s.minOf (queueIx c.lp c.cls) - (s.charged (queueIx c.lp c.cls) - s.minOf
    (queueIx c.lp c.cls))) = 0 ∨ (((s.charged (queueIx c.lp c.cls) - s.minOf (queueIx c.lp c.cls)) + (s.charged (queueIx c.lp c.cls) + f.pkt.segments - s.minOf (queueIx
    c.lp c.cls) - (s.charged (queueIx c.lp c.cls) - s.minOf (queueIx c.lp c.cls))) : Nat) : Int) ≤ s.limitOf (queueIx c.lp c.cls) → s.freeF < ((s.charged (queueIx c.lp
    c.cls) + f.pkt.segments - s.minOf (queueIx c.lp c.cls) - (s.charged (queueIx c.lp c.cls) - s.minOf (queueIx c.lp c.cls))) : Int) → ∃ t, exec (.admissionEnqueue ()) s
    = .next t ∧ t.queue (queueIx c.lp c.cls) = s.queue (queueIx c.lp c.cls) ∧ t.charged (queueIx c.lp c.cls) = s.charged (queueIx c.lp c.cls) ∧ t.fld
    F.FX_ADM_QSTAT_COUNT (7 * queueIx c.lp c.cls + 3) = (s.fld F.FX_ADM_QSTAT_COUNT (7 * queueIx c.lp c.cls + 3) + 1) % 2 ^ F.FX_ADM_QSTAT_COUNT.width)
  ∧ (∀ (s : State) (n : Nat) (ex : Bool) (a : AdmItem) (rest : List AdmItem) (c : Copy) (cs : List Copy) (f : FxFrame), s.fenced 5 = false → s.admTurn.map (·.2) = some n →
    s.stageHead n = some (ex, a, rest) → s.frame? a.fid = some f → (s.unfold f.pkt a.copies).2 = c :: cs → c.lp = 1023 → ∃ t, exec (.admissionEnqueue ()) s = .next t ∧
    t.fx.queues = s.fx.queues ∧ t.fx.charge = s.fx.charge ∧ t.fld F.FX_ADM_GSTAT_COUNT 7 = (s.fld F.FX_ADM_GSTAT_COUNT 7 + 1) % 2 ^ F.FX_ADM_GSTAT_COUNT.width)
  ∧ (∀ (s : State), s.fenced 5 = true ∨ s.admTurn = none → exec (.admissionEnqueue ()) s = .next (s))
  ∧ (∀ (s : State) (who : Party) (qi : Fin 8656) (v : Word), s.admits who 5 1 = true → bits v.toNat 26 4 < 4 ∨ 9 ≤ bits v.toNat 26 4 → s.guarantee - s.minOf qi + bits
    v.toNat 0 20 ≤ 524288 → ∃ t, exec (.qcfgWrite who qi 0 v) s = .next t ∧ t.fld F.FX_ADM_QCFG_CT_EN qi = bits v.toNat 31 1 ∧ t.fld F.FX_ADM_QCFG_ECN_EN qi = bits
    v.toNat 30 1 ∧ t.fld F.FX_ADM_QCFG_K qi = bits v.toNat 26 4 ∧ t.fld F.FX_ADM_QCFG_MIN qi = bits v.toNat 0 20 ∧ t.minOf qi = bits v.toNat 0 20)
  ∧ (∀ (s : State) (who : Party) (qi : Fin 8656) (v : Word), s.admits who 5 1 = true → 4 ≤ bits v.toNat 26 4 ∧ bits v.toNat 26 4 ≤ 8 ∨ 524288 < s.guarantee - s.minOf qi +
    bits v.toNat 0 20 → ∃ t, exec (.qcfgWrite who qi 0 v) s = .next t ∧ t.minOf qi = s.minOf qi ∧ t.raised s 660 [.w qi] = true)
  ∧ (∀ (s : State) (who : Party) (qi : Fin 8656) (v : Word), s.admits who 5 1 = true → ∃ t, exec (.qcfgWrite who qi 1 v) s = .next t ∧ t.fld F.FX_ADM_QCFG_ECN_HI qi = bits
    v.toNat 16 16 ∧ t.fld F.FX_ADM_QCFG_ECN_LO qi = bits v.toNat 0 16)
  ∧ (∀ (s : State) (qi : Fin 8656) (c : Copy) (rest : List Copy), s.queue qi = c :: rest → c.cut = true → ∃ t, exec (.cutThroughEligible qi) s = .next t ∧ t.queue qi =
    { c with eligible := true } :: rest)
  ∧ (∀ (s : State) (qi : Fin 8656), (s.queue qi).head?.any (fun c => c.cut) = false → exec (.cutThroughEligible qi) s = .next (s))

/-- A written tail makes a good frame eligible, discards a bad one, ends a cut-through one; allocations resume; a drained group is gated (08_shared_buffer.md). -/
def Obligations.TailsSegmentsAndBankGroups : Prop :=
  (∀ (s : State) (fid : Nat) (f : FxFrame), s.frame? fid = some f → f.tail = false → f.bad = 0 → f.want = 0 → f.live ≠ 0 → s.fx.cuts.filter (fun x => x.fid == fid) = []
    → ∃ t, exec (.tailWritten fid) s = .next t ∧ t.frame? fid = some { f with tail := true } ∧ (∀ q : Fin 8656, t.queue q = (s.queue q).map (fun c => if c.fid = fid then
    { c with eligible := true } else c)))
  ∧ (∀ (s : State) (fid : Nat) (f : FxFrame), s.frame? fid = some f → f.tail = false → f.bad ≠ 0 → s.fx.cuts.filter (fun x => x.fid == fid) = [] → ∃ t, exec (.tailWritten
    fid) s = .next t ∧ (∀ q : Fin 8656, ∀ c ∈ t.queue q, c.fid = fid → c.leaves = true) ∧ t.staged' fid = false ∧ (t.fld F.FX_ADM_GSTAT_COUNT 0 = (s.fld
    F.FX_ADM_GSTAT_COUNT 0 + (if 0 < s.copies fid (fun c => !c.leaves) ∨ s.staged' fid = true then 1 else 0)) % 2 ^ F.FX_ADM_GSTAT_COUNT.width))
  ∧ (∀ (s : State) (fid : Nat) (f : FxFrame) (x : CutTx) (out : List Byte), s.frame? fid = some f → f.tail = false → s.fx.cuts.filter (fun x => x.fid == fid) = [x] →
    x.bytes = some out → ∃ t, exec (.tailWritten fid) s = .next t ∧ Out.frame x.lp out (f.bad == 0 && !x.stomp) ∈ t.sent s ∧ t.fx.cuts = s.fx.cuts.filter (fun x => x.fid
    != fid))
  ∧ (∀ (s : State) (fid : Nat), s.frame? fid = none ∨ (s.frame? fid).any (fun f => f.tail) = true → exec (.tailWritten fid) s = .next (s))
  ∧ (∀ (s : State) (fid : Nat) (f : FxFrame), s.frame? fid = some f → f.want ≠ 0 → f.live ≠ 0 → ∃ t, exec (.segmentAllocResume fid) s = .next t ∧ t.frame? fid = some
    { f with segs := (s.alloc f.want f.segs).2.1, want := (s.alloc f.want f.segs).2.2 })
  ∧ (∀ (s : State) (fid : Nat), (s.frame? fid).all (fun f => f.want == 0 || f.live == 0) = true → exec (.segmentAllocResume fid) s = .next (s))
  ∧ (∀ (s : State) (g : Fin 16), s.bgDraining g = true → s.bgUsed g = 0 → s.forcedOff (bgDomain g) = true ∨ s.bgShort = false ∧ s.fld F.AO_WAKE_POLICY_MODE (bgDomain g) =
    0 → ∃ t, exec (.bgDrained g) s = .next t ∧ t.fld F.FX_BUF_BG_STATUS_POWER g = 0 ∧ t.bgDraining g = decide (64 < s.bgQuar g))
  ∧ (∀ (s : State) (g : Fin 16), s.bgDraining g = false ∨ s.bgUsed g ≠ 0 ∨ ¬(s.forcedOff (bgDomain g) = true ∨ s.bgShort = false ∧ s.fld F.AO_WAKE_POLICY_MODE (bgDomain g)
    = 0) → exec (.bgDrained g) s = .next (s))

/-- A server takes the head of the class selected at the first port in turn; samples are formed and their settings committed (09_scheduling_shaping.md). -/
def Obligations.DequeueAndSampling : Prop :=
  (∀ (s : State) (server : Fin 46) (ready : Fin 65536) (ecc : List EccHit) (i lp : Nat) (more : List (Nat × Nat)) (c : Copy) (rest : List Copy) (f : FxFrame) (cls :
    Nat), s.inService = true → s.fenced 5 = false → s.turns server ready = (i, lp) :: more → s.accepts lp = true → Map.get 0 lp s.tm.pending = 0 → 512 ≤ lp → lp < 528 →
    (s.select lp).2 = some cls → s.queue (queueIx lp cls) = c :: rest → c.lp = lp → c.eligible = true → s.frame? c.fid = some f → s.faultsDue = [] → s.request = 0 → ∃ t,
    exec (.dequeueSelect server ecc none ready) s = .next t ∧ t.queue (queueIx lp cls) = rest ∧ (Map.get [] lp t.fx.rx).map (·.copy) = (Map.get [] lp s.fx.rx).map
    (·.copy) ++ [c] ∧ t.charged (queueIx lp cls) = s.charged (queueIx lp cls) - f.pkt.segments ∧ t.fld F.FX_TM_QSTAT_COUNT (7 * queueIx lp cls) = (s.fld
    F.FX_TM_QSTAT_COUNT (7 * queueIx lp cls) + 1) % 2 ^ F.FX_TM_QSTAT_COUNT.width ∧ t.fld F.FX_TM_QSTAT_COUNT (7 * queueIx lp cls + 1) = (s.fld F.FX_TM_QSTAT_COUNT (7 *
    queueIx lp cls + 1) + f.pkt.bytes.length) % 2 ^ F.FX_TM_QSTAT_COUNT.width ∧ Map.get 0 server t.tm.turn = (i + 1) % (serverPorts server).length)
  ∧ (∀ (s : State) (server : Fin 46) (ready : Fin 65536) (ecc : List EccHit) (i lp : Nat) (more : List (Nat × Nat)) (c : Copy) (rest : List Copy) (f : FxFrame),
    s.inService = true → s.fenced 5 = false → s.turns server ready = (i, lp) :: more → s.accepts lp = true → Map.get 0 lp s.tm.pending = 0 → s.portDown lp = false →
    s.awake (halfDomain (1 + lp / 128) (lp / 4 % 32 / 4)) = true → lp < 512 → s.operList lp = none → s.queue (queueIx lp 15) = c :: rest → c.eligible = true → s.frame?
    c.fid = some f → s.faultsDue = [] → s.request = 0 → ∃ t, exec (.dequeueSelect server ecc none ready) s = .next t ∧ t.fld F.FX_TM_QSTAT_COUNT (7 * queueIx lp 15) =
    (s.fld F.FX_TM_QSTAT_COUNT (7 * queueIx lp 15) + 1) % 2 ^ F.FX_TM_QSTAT_COUNT.width ∧ t.fld F.FX_TM_QSTAT_COUNT (7 * queueIx lp 15 + 1) = (s.fld F.FX_TM_QSTAT_COUNT
    (7 * queueIx lp 15 + 1) + f.pkt.bytes.length) % 2 ^ F.FX_TM_QSTAT_COUNT.width ∧ Map.get 0 server t.tm.turn = (i + 1) % (serverPorts server).length)
  ∧ (∀ (s : State) (server : Fin 46) (ready : Fin 65536) (ecc : List EccHit) (i lp : Nat) (more : List (Nat × Nat)) (c : Copy) (rest : List Copy) (f : FxFrame),
    s.inService = true → s.fenced 5 = false → s.turns server ready = (i, lp) :: more → s.accepts lp = true → Map.get 0 lp s.tm.pending = 0 → s.portDown lp = true → lp <
    512 → s.operList lp = none → s.queue (queueIx lp 15) = c :: rest → c.eligible = true → s.frame? c.fid = some f → s.faultsDue = [] → s.request = 0 → ∃ t, exec
    (.dequeueSelect server ecc none ready) s = .next t ∧ t.queue (queueIx lp 15) = rest ∧ t.fld F.FX_TM_QSTAT_COUNT (7 * queueIx lp 15 + 4) = (s.fld F.FX_TM_QSTAT_COUNT
    (7 * queueIx lp 15 + 4) + 1) % 2 ^ F.FX_TM_QSTAT_COUNT.width ∧ t.charged (queueIx lp 15) = s.charged (queueIx lp 15) - f.pkt.segments ∧ Map.get 0 server t.tm.turn =
    (i + 1) % (serverPorts server).length)
  ∧ (∀ (s : State) (server : Fin 46) (ready : Fin 65536) (ecc : List EccHit) (seg : Option SegError), s.inService = false ∨ s.fenced 5 = true ∨ (s.turns server ready).all
    (fun p => !s.accepts p.2) = true → s.faultsDue = [] → s.request = 0 → exec (.dequeueSelect server ecc seg ready) s = .next (s))
  ∧ (∀ (s : State) (group : Fin 64), s.flag F.FX_TM_QDEPTH_SAMPLE_EN group = true → s.fenced 5 = false → ∃ t, exec (.qdepthSample group false) s = .next t ∧ t.staged =
    s.staged ++ (s.sampleQueues group).zipIdx.map (fun x =>
    { ring := s.fld F.FX_TM_QDEPTH_SAMPLE_RING group, rtype := 0x22 + 0x100 * (x.1.filter (fun q => decide (q < 8656))).length, low := group, words := [(Map.get 0 group s.tm.sampleSeq + x.2) % 2 ^ 32, s.now % 2 ^ 32, s.now / 2 ^ 32] ++ (x.1.filter (fun q => decide (q < 8656))).flatMap s.sampleEntry })
    ∧ Map.get 0 group t.tm.sampleSeq = (Map.get 0 group s.tm.sampleSeq + (s.sampleQueues group).length) % 2 ^ 32)
  ∧ (∀ (s : State) (group : Fin 64), s.flag F.FX_TM_QDEPTH_SAMPLE_EN group = true → s.fenced 5 = false → ∃ t, exec (.qdepthSample group true) s = .next t ∧ t.fld
    F.FX_TM_GSTAT_COUNT 0 = (s.fld F.FX_TM_GSTAT_COUNT 0 + (s.sampleQueues group).length) % 2 ^ F.FX_TM_GSTAT_COUNT.width ∧ Map.get 0 group t.tm.sampleSeq = (Map.get 0
    group s.tm.sampleSeq + (s.sampleQueues group).length) % 2 ^ 32)
  ∧ (∀ (s : State) (group : Fin 64) (w : Nat) (excess : Bool), s.flag F.FX_TM_QDEPTH_SAMPLE_EN group = true → s.fenced 5 = false → Map.get 0 (4 * group.val)
    s.tm.sampleNext = w + 1 → ∃ t, exec (.qdepthSample group excess) s = .next t ∧ t.fld F.FX_TM_QDEPTH_SAMPLE_EN group = bits w 31 1 ∧ t.fld
    F.FX_TM_QDEPTH_SAMPLE_PERIOD group = bits w 0 10 ∧ Map.get 0 (4 * group.val) t.tm.sampleNext = 0)
  ∧ (∀ (s : State) (group : Fin 64) (excess : Bool), s.flag F.FX_TM_QDEPTH_SAMPLE_EN group = false ∨ s.fenced 5 = true → exec (.qdepthSample group excess) s = .next (s))
  ∧ (∀ (s : State) (who : Party) (group : Fin 64) (v : Word) (w1 w2 : Nat), s.admits who 5 2 = true → s.flag F.FX_TM_QDEPTH_SAMPLE_EN group = false → Map.get 0 (4 *
    group.val + 1) s.tm.sampleHeld = w1 + 1 → Map.get 0 (4 * group.val + 2) s.tm.sampleHeld = w2 + 1 → ∃ t, exec (.sampleGroupCommit who group v) s = .next t ∧ t.fld
    F.FX_TM_QDEPTH_SAMPLE_EN group = bits v.toNat 31 1 ∧ t.fld F.FX_TM_QDEPTH_SAMPLE_PERIOD group = bits v.toNat 0 10 ∧ t.fld F.FX_TM_QDEPTH_SAMPLE_RING group = bits w1
    16 16 ∧ t.fld F.FX_TM_QDEPTH_SAMPLE_BASE_QI group = bits w2 18 14 ∧ t.fld F.FX_TM_QDEPTH_SAMPLE_COUNT group = bits w2 11 7 ∧ t.fld F.FX_TM_QDEPTH_SAMPLE_STRIDE group
    = bits w2 0 11 ∧ (∀ w ∈ List.range 4, Map.get 0 (4 * group.val + w) t.tm.sampleHeld = 0))
  ∧ (∀ (s : State) (who : Party) (group : Fin 64) (v : Word), s.admits who 5 2 = true → s.flag F.FX_TM_QDEPTH_SAMPLE_EN group = false → ∃ t, exec (.sampleGroupCommit who
    group v) s = .next t ∧ t.fld F.FX_TM_QDEPTH_SAMPLE_EN group = bits v.toNat 31 1 ∧ t.fld F.FX_TM_QDEPTH_SAMPLE_PERIOD group = bits v.toNat 0 10)
  ∧ (∀ (s : State) (who : Party) (group : Fin 64) (v : Word), s.admits who 5 2 = true → s.flag F.FX_TM_QDEPTH_SAMPLE_EN group = true → ∃ t, exec (.sampleGroupCommit who
    group v) s = .next t ∧ t.fld F.FX_TM_QDEPTH_SAMPLE_EN group = s.fld F.FX_TM_QDEPTH_SAMPLE_EN group ∧ t.fld F.FX_TM_QDEPTH_SAMPLE_PERIOD group = s.fld
    F.FX_TM_QDEPTH_SAMPLE_PERIOD group ∧ Map.get 0 (4 * group.val) t.tm.sampleNext = v.toNat + 1)

/-- A gate list changes at its base time or the first later cycle, may be cancelled before, and shows the gates in force (09_scheduling_shaping.md). -/
def Obligations.GateLists : Prop :=
  (∀ (s : State) (lp : Fin 512), s.flag F.FX_TM_GATE_CFG_PEND lp = false → s.now + 2000 ≤ s.fld F.FX_TM_GATE_CFG_ADMIN_BASE lp → ∃ t, exec (.gateChange lp) s = .next t ∧
    t.flag F.FX_TM_GATE_CFG_PEND lp = true ∧ Map.get 0 lp t.tm.pending = s.fld F.FX_TM_GATE_CFG_ADMIN_BASE lp)
  ∧ (∀ (s : State) (lp : Fin 512), s.flag F.FX_TM_GATE_CFG_PEND lp = false → s.fld F.FX_TM_GATE_CFG_ADMIN_BASE lp < s.now + 2000 → ∃ t, exec (.gateChange lp) s = .next t ∧
    t.flag F.FX_TM_GATE_CFG_PEND lp = true ∧ s.now + 2000 ≤ Map.get 0 lp t.tm.pending ∧ Map.get 0 lp t.tm.pending < s.now + 2000 + gateCycle (s.fld
    F.FX_TM_GATE_CFG_ADMIN_CYCLE lp) ∧ (Map.get 0 lp t.tm.pending - s.fld F.FX_TM_GATE_CFG_ADMIN_BASE lp) % gateCycle (s.fld F.FX_TM_GATE_CFG_ADMIN_CYCLE lp) = 0)
  ∧ (∀ (s : State) (lp : Fin 512), s.flag F.FX_TM_GATE_CFG_PEND lp = true → ∃ t, exec (.gateChange lp) s = .next t ∧ t.tm = s.tm ∧ t.raised s 670 [.w lp, .w (32 * lp)] =
    true)
  ∧ (∀ (s : State) (lp : Fin 512), s.flag F.FX_TM_GATE_CFG_PEND lp = true → s.now < Map.get 0 lp s.tm.pending → ∃ t, exec (.gateCancel lp) s = .next t ∧ t.flag
    F.FX_TM_GATE_CFG_PEND lp = false ∧ Map.get 0 lp t.tm.pending = 0 ∧ t.fld F.FX_TM_GATE_CFG_OPER_BANK lp = s.fld F.FX_TM_GATE_CFG_OPER_BANK lp)
  ∧ (∀ (s : State) (lp : Fin 512), s.flag F.FX_TM_GATE_CFG_PEND lp = true → Map.get 0 lp s.tm.pending ≤ s.now → ∃ t, exec (.gateListSwap lp) s = .next t ∧ t.flag
    F.FX_TM_GATE_CFG_PEND lp = false ∧ t.fld F.FX_TM_GATE_CFG_OPER_BANK lp = 1 - s.fld F.FX_TM_GATE_CFG_OPER_BANK lp ∧ t.fld F.FX_TM_GATE_CFG_OPER_EN lp = s.fld
    F.FX_TM_GATE_CFG_ADMIN_EN lp % 2 ∧ t.fld F.FX_TM_GATE_CFG_OPER_CHANGE_TIME lp = Map.get 0 lp s.tm.pending % 2 ^ F.FX_TM_GATE_CFG_OPER_CHANGE_TIME.width ∧ Map.get 0
    lp t.tm.operCycle = gateCycle (s.fld F.FX_TM_GATE_CFG_ADMIN_CYCLE lp) ∧ Map.get 0 lp t.tm.operLen = gateLen (s.fld F.FX_TM_GATE_CFG_ADMIN_LEN lp) ∧ t.raised s 671
    [.w lp, .d (Map.get 0 lp s.tm.pending)] = true)
  ∧ (∀ (s : State) (lp : Fin 512) (g : GateList) (x : GateSpan), s.operList lp = some g → s.gateAt lp s.now = some x → ∃ t, exec (.gateTransition lp) s = .next t ∧ t.fld
    F.FX_TM_GATE_CFG_GATES_NOW lp = x.gates % 2 ^ 4 ∧ t.flag F.FX_TM_GATE_CFG_OTHERS_CLOSED lp = x.others ∧ t.fld F.FX_TM_GATE_CFG_ENTRY_NOW lp = x.entry % 2 ^
    F.FX_TM_GATE_CFG_ENTRY_NOW.width)
  ∧ (∀ (s : State) (lp : Fin 512), s.flag F.FX_TM_GATE_CFG_PEND lp = false ∨ Map.get 0 lp s.tm.pending ≤ s.now → exec (.gateCancel lp) s = .next (s))
  ∧ (∀ (s : State) (lp : Fin 512), s.flag F.FX_TM_GATE_CFG_PEND lp = false ∨ s.now < Map.get 0 lp s.tm.pending → exec (.gateListSwap lp) s = .next (s))
  ∧ (∀ (s : State) (lp : Fin 512), s.operList lp = none → exec (.gateTransition lp) s = .next (s))

/-- HELLO joins, parts and times out stitch links; routes take and leave members; a lost neighbour is forgotten (10_multi_module.md). -/
def Obligations.StitchLinksAndNeighbours : Prop :=
  (∀ (s : State) (link : Fin 8), s.stcLink link ≠ 0 → s.lpUp (480 + 4 * link.val) = true → ∃ t, exec (.helloTx link) s = .next t ∧ t.out = s.out ++ [.stitch link
    (s.stitchFrame link 4 (beBytes 4 (s.devid * 2 ^ 30 + s.masterOf * 2 ^ 28 + s.syncState * 2 ^ 26 + (s.stc.want.foldl (fun m o => Nat.lor m (2 ^ o)) 0) * 2 ^ 16 +
    s.fld F.PD_STC_CTRL_BOOT_ID) ++ beBytes 4 (link.val * 2 ^ 24 + s.fld F.AO_TB_STATUS_ERR_EST) ++ List.replicate 8 0))] ∧ t.regs = s.regs)
  ∧ (∀ (s : State) (link : Fin 8) (time : Nat) (bs : List Byte) (rest : List (Nat × List Byte)), takeKind (· == stcTypeHello) (Map.get [] link s.stc.inbox) = some ((time,
    bs), rest) → s.stcCheck link bs = 0 → s.stcLink link = 1 → beField (bs.drop 16) 0 1 / 64 ≠ s.devid → ∃ t, exec (.helloRx link) s = .next t ∧ t.stcLink link = 2 ∧
    t.nbDevid link = beField (bs.drop 16) 0 1 / 64 ∧ t.fld F.PD_STC_LINK_NB_BOOT_ID link = beField (bs.drop 16) 2 2 ∧ Map.get [] link t.stc.inbox = rest)
  ∧ (∀ (s : State) (link : Fin 8) (time : Nat) (bs : List Byte) (rest : List (Nat × List Byte)), takeKind (· == stcTypeHello) (Map.get [] link s.stc.inbox) = some ((time,
    bs), rest) → s.stcCheck link bs = 0 → s.stcLink link = 1 → beField (bs.drop 16) 0 1 / 64 = s.devid → ∃ t, exec (.helloRx link) s = .next t ∧ t.stcLink link = 3 ∧
    t.raised s 537 [.w (120 + link.val)] = true)
  ∧ (∀ (s : State) (link : Fin 8) (time : Nat) (bs : List Byte) (rest : List (Nat × List Byte)), takeKind (· == stcTypeHello) (Map.get [] link s.stc.inbox) = some ((time,
    bs), rest) → s.stcCheck link bs = 0 → s.stcLink link = 2 → beField (bs.drop 16) 0 1 / 64 ≠ s.nbDevid link → ∃ t, exec (.helloRx link) s = .next t ∧ t.stcLink link =
    1 ∧ bit (t.fld F.FX_STC_ROUTE_ACTIVE (s.nbDevid link)) link = false)
  ∧ (∀ (s : State) (link : Fin 8) (time : Nat) (bs : List Byte) (rest : List (Nat × List Byte)), takeKind (· == stcTypeHello) (Map.get [] link s.stc.inbox) = some ((time,
    bs), rest) → s.stcCheck link bs = 0 → s.stcLink link = 2 → beField (bs.drop 16) 0 1 / 64 = s.nbDevid link → beField (bs.drop 16) 2 2 = s.fld F.PD_STC_LINK_NB_BOOT_ID
    link → ∃ t, exec (.helloRx link) s = .next t ∧ t.stcLink link = 2 ∧ (Map.get {} link t.stc.hellos).err = beField (bs.drop 16) 5 3 ∧ Map.get [] link t.stc.inbox =
    rest)
  ∧ (∀ (s : State) (link : Fin 8) (time : Nat) (bs : List Byte) (rest : List (Nat × List Byte)), takeKind (· == stcTypeHello) (Map.get [] link s.stc.inbox) = some ((time,
    bs), rest) → s.stcCheck link bs = 0 → s.stcLink link = 2 → beField (bs.drop 16) 0 1 / 64 = s.nbDevid link → beField (bs.drop 16) 2 2 ≠ s.fld F.PD_STC_LINK_NB_BOOT_ID
    link → ∃ t, exec (.helloRx link) s = .next t ∧ t.stcLink link = 1 ∧ t.stc.known.contains (s.nbDevid link) = false ∧ bit (t.fld F.FX_STC_ROUTE_ACTIVE (s.nbDevid
    link)) link = false)
  ∧ (∀ (s : State) (link : Fin 8) (time : Nat) (bs : List Byte) (rest : List (Nat × List Byte)), takeKind (· == stcTypeHello) (Map.get [] link s.stc.inbox) = some ((time,
    bs), rest) → s.stcCheck link bs = 0 → s.stcLink link ≠ 1 → s.stcLink link ≠ 2 → ∃ t, exec (.helloRx link) s = .next t ∧ t.stcLink link = s.stcLink link ∧ Map.get []
    link t.stc.inbox = rest ∧ t.out = s.out)
  ∧ (∀ (s : State) (link : Fin 8) (time : Nat) (bs : List Byte) (rest : List (Nat × List Byte)), takeKind (· == stcTypeHello) (Map.get [] link s.stc.inbox) = some ((time,
    bs), rest) → s.stcCheck link bs ≠ 0 → ∃ t, exec (.helloRx link) s = .next t ∧ t.stcLink link = s.stcLink link ∧ Map.get [] link t.stc.inbox = rest ∧ t.fld
    F.FX_STC_STAT_COUNT 1 = (s.fld F.FX_STC_STAT_COUNT 1 + 1) % 2 ^ F.FX_STC_STAT_COUNT.width)
  ∧ (∀ (s : State) (link : Fin 8), takeKind (· == stcTypeHello) (Map.get [] link s.stc.inbox) = none → exec (.helloRx link) s = .next (s))
  ∧ (∀ (s : State) (link : Fin 8), s.stcLink link = 0 ∨ s.lpUp (480 + 4 * link.val) = false → exec (.helloTx link) s = .next (s))
  ∧ (∀ (s : State) (link : Fin 8), s.stcLink link ≠ 2 → exec (.helloTimeout link) s = .next (s))
  ∧ (∀ (s : State) (link : Fin 8), s.stcLink link = 2 → ∃ t, exec (.helloTimeout link) s = .next t ∧ t.stcLink link = (if s.lpUp (480 + 4 * link.val) then 1 else 0) ∧ bit
    (t.fld F.FX_STC_ROUTE_ACTIVE (s.nbDevid link)) link = false ∧ bit (t.fld F.FX_STC_ROUTE_REJOIN_PEND (s.nbDevid link)) link = false)
  ∧ (∀ (s : State) (devid : Fin 4) (k : Fin 8), bit (s.fld F.FX_STC_ROUTE_REJOIN_PEND devid) k = true → s.stcIdle k = true → (s.activeMembers devid).all s.stcIdle = true →
    ∃ t, exec (.rejoin devid) s = .next t ∧ bit (t.fld F.FX_STC_ROUTE_ACTIVE devid) k = true ∧ bit (t.fld F.FX_STC_ROUTE_REJOIN_PEND devid) k = false)
  ∧ (∀ (s : State) (devid : Fin 4) (k : Fin 8), bit (s.fld F.FX_STC_ROUTE_REJOIN_PEND devid) k = true → s.stc.told.contains (8 * devid.val + k.val) = false → ∃ t, exec
    (.rejoinPendTimeout devid) s = .next t ∧ t.raised s 680 [.w devid, .w (120 + k.val)] = true ∧ t.stc.told.contains (8 * devid.val + k.val) = true)
  ∧ (∀ (s : State) (devid : Fin 4) (x : Nat × Nat), s.stc.serving.find? (·.1 == devid.val) = some x → ∃ t, exec (.resyncReplayDone devid) s = .next t ∧ t.raised s 681 [.w
    s.devid, .w x.2] = true ∧ t.stc.serving.any (·.1 == devid.val) = false)
  ∧ (∀ (s : State) (devid : Fin 4), s.linkTo devid = none → s.stc.known.contains devid.val = true → ∃ t, exec (.neighbourLost devid) s = .next t ∧ t.stc.known.contains
    devid.val = false ∧ Map.get none devid t.tbl.rxSeq = none ∧ (∀ n : Fin 64, s.tblEn n = true → s.tblKind n = 0 → s.tblLocal n = false → s.flag
    F.FX_TBE_TBL_CFG_STITCH_SHARE n = true → (t.entries n).all (fun e => e.origin != devid.val) = true))
  ∧ (∀ (s : State) (who : Party) (devid : Fin 4) (v : Word), s.admits who 5 7 = true → devid.val ≠ s.devid → ∃ t, exec (.routeWrite who devid v) s = .next t ∧ t.fld
    F.FX_STC_ROUTE_MEMBERS devid = bits v.toNat 0 8 ∧ (∀ k : Fin 8, bit (s.fld F.FX_STC_ROUTE_MEMBERS devid) k = true → bit v.toNat k = false → bit (t.fld
    F.FX_STC_ROUTE_ACTIVE devid) k = false) ∧ (∀ k : Fin 8, bit (s.fld F.FX_STC_ROUTE_MEMBERS devid) k = false → bit v.toNat k = true → s.stcLink k = 2 → s.nbDevid k =
    devid → bit (s.fld F.FX_STC_ROUTE_ACTIVE devid) k = false → bit (t.fld F.FX_STC_ROUTE_REJOIN_PEND devid) k = true))
  ∧ (∀ (s : State) (who : Party) (devid : Fin 4) (v : Word), s.admits who 5 7 = true → devid.val = s.devid → ∃ t, exec (.routeWrite who devid v) s = .next t ∧ t.fld
    F.FX_STC_ROUTE_MEMBERS devid = s.fld F.FX_STC_ROUTE_MEMBERS devid ∧ t.raised s 682 [.w (0x10 + 4 * devid.val)] = true)
  ∧ (∀ (s : State) (devid : Fin 4), (∀ k : Fin 8, bit (s.fld F.FX_STC_ROUTE_REJOIN_PEND devid) k = false) → exec (.rejoin devid) s = .next (s))
  ∧ (∀ (s : State) (devid : Fin 4), (∀ k : Fin 8, bit (s.fld F.FX_STC_ROUTE_REJOIN_PEND devid) k = false) → exec (.rejoinPendTimeout devid) s = .next (s))
  ∧ (∀ (s : State) (devid : Fin 4), s.stc.serving.find? (·.1 == devid.val) = none → exec (.resyncReplayDone devid) s = .next (s))
  ∧ (∀ (s : State) (devid : Fin 4), (s.linkTo devid).isSome = true ∨ s.stc.known.contains devid.val = false → exec (.neighbourLost devid) s = .next (s))

/-- Stitched data enters admission, learning messages apply in sequence, and time frames correct the slave (07_forwarding_tables.md, 10_multi_module.md). -/
def Obligations.StitchedDataLearningAndTime : Prop :=
  (∀ (s : State) (link : Fin 8) (time : Nat) (bs : List Byte) (rest : List (Nat × List Byte)), s.inService = true → s.fenced 5 = false → takeKind (fun t => t ==
    stcTypeData || t == 0 || decide (4 < t)) (Map.get [] link s.stc.inbox) = some ((time, bs), rest) → s.stcLink link = 2 → s.stcCheck link bs = 0 → (Map.get [] (30 +
    link.val / 4) s.fx.mainq).length < 64 → ∃ t, exec (.stitchDataRx link) s = .next t ∧ (t.frame? s.fx.nextFid).map (·.pkt.bytes) = some (bs.drop (if bit (beField bs 2
    2) 4 then 88 else 16)) ∧ (t.frame? s.fx.nextFid).map (·.pkt.ingress) = some (beField bs 4 2 / 64) ∧ (Map.get [] (30 + link.val / 4) t.fx.mainq).length + (Map.get []
    (30 + link.val / 4) t.fx.express).length = (Map.get [] (30 + link.val / 4) s.fx.mainq).length + (Map.get [] (30 + link.val / 4) s.fx.express).length + 1)
  ∧ (∀ (s : State) (link : Fin 8) (time : Nat) (bs : List Byte) (rest : List (Nat × List Byte)), takeKind (fun t => t == stcTypeData || t == 0 || decide (4 < t)) (Map.get
    [] link s.stc.inbox) = some ((time, bs), rest) → s.stcLink link ≠ 2 ∨ s.stcCheck link bs ≠ 0 → ∃ t, exec (.stitchDataRx link) s = .next t ∧ t.fx = s.fx)
  ∧ (∀ (s : State) (link : Fin 8), s.inService = false ∨ s.fenced 5 = true ∨ takeKind (fun t => t == stcTypeData || t == 0 || decide (4 < t)) (Map.get [] link s.stc.inbox)
    = none → exec (.stitchDataRx link) s = .next (s))
  ∧ (∀ (s : State) (devid : Fin 4) (m : LearnMsg) (rest : List LearnMsg) (e : TEntry), s.inService = true → s.fenced 5 = false → Map.get [] devid s.tbl.inbox = m :: rest →
    (match Map.get none m.origin s.tbl.rxSeq with | none => 0 | some q => (m.seq + 2 ^ 32 - q - 1) % 2 ^ 32) = 0 → s.tblEn m.table = true → s.tblKind m.table = 0 →
    s.tblLocal m.table = false → s.flag F.FX_TBE_TBL_CFG_STITCH_SHARE m.table = true → m.op = msgInsert ∨ m.op = msgMove → (s.entries m.table).find? (fun e => e.key ==
    m.key) = some e → e.stat = false → (e.upd < bits m.stamp 16 32 ∨ e.upd = bits m.stamp 16 32 ∧ e.origin < m.origin) → ∃ t, exec (.stitchLearnRx devid) s = .next t ∧
    { e with data := m.data, origin := m.origin, upd := bits m.stamp 16 32, hits := 0, aged1 := false, nb := 0, nbValid := false, action := 0 } ∈ t.entries m.table ∧
    Map.get none m.origin t.tbl.rxSeq = some m.seq ∧ Map.get [] devid t.tbl.inbox = rest)
  ∧ (∀ (s : State) (devid : Fin 4) (m : LearnMsg) (rest : List LearnMsg), s.inService = true → s.fenced 5 = false → Map.get [] devid s.tbl.inbox = m :: rest →
    (match Map.get none m.origin s.tbl.rxSeq with | none => 0 | some q => (m.seq + 2 ^ 32 - q - 1) % 2 ^ 32) = 0 → s.tblEn m.table = true → s.tblKind m.table = 0 →
    s.tblLocal m.table = false → s.flag F.FX_TBE_TBL_CFG_STITCH_SHARE m.table = true → m.op = msgInsert ∨ m.op = msgMove →
    (match (s.entries m.table).find? (fun e => e.key == m.key) with | some e => decide ¬(e.stat = false ∧ (e.upd < bits m.stamp 16 32 ∨ e.upd = bits m.stamp 16 32 ∧ e.origin < m.origin)) | none => (s.placeFor m.table 0 m.key 0).isNone)
    = true → ∃ t, exec (.stitchLearnRx devid) s = .next t ∧ t.entries m.table = s.entries m.table ∧ t.fld F.FX_TBE_TBL_STAT_COUNT (8 * m.table + 7) = (s.fld
    F.FX_TBE_TBL_STAT_COUNT (8 * m.table + 7) + 1) % 2 ^ F.FX_TBE_TBL_STAT_COUNT.width ∧ Map.get none m.origin t.tbl.rxSeq = some m.seq ∧ Map.get [] devid t.tbl.inbox =
    rest)
  ∧ (∀ (s : State) (devid : Fin 4) (m : LearnMsg) (rest : List LearnMsg), s.inService = true → s.fenced 5 = false → Map.get [] devid s.tbl.inbox = m :: rest →
    (match Map.get none m.origin s.tbl.rxSeq with | none => 0 | some q => (m.seq + 2 ^ 32 - q - 1) % 2 ^ 32) = 0 → s.tblEn m.table = true → s.tblKind m.table = 0 →
    s.tblLocal m.table = false → s.flag F.FX_TBE_TBL_CFG_STITCH_SHARE m.table = true → m.op = msgInsert ∨ m.op = msgMove → (s.entries m.table).find? (fun e => e.key ==
    m.key) = none → (s.placeFor m.table 0 m.key 0).isSome = true → ∃ t, exec (.stitchLearnRx devid) s = .next t ∧ t.entries m.table = s.entries m.table ++
    [{ region := 0, index := (s.placeFor m.table 0 m.key 0).getD 0, key := m.key, data := m.data, origin := m.origin, upd := bits m.stamp 16 32 }] ∧ Map.get none
    m.origin t.tbl.rxSeq = some m.seq ∧ Map.get [] devid t.tbl.inbox = rest)
  ∧ (∀ (s : State) (devid : Fin 4) (m : LearnMsg) (rest : List LearnMsg) (e : TEntry), s.inService = true → s.fenced 5 = false → Map.get [] devid s.tbl.inbox = m :: rest →
    (match Map.get none m.origin s.tbl.rxSeq with | none => 0 | some q => (m.seq + 2 ^ 32 - q - 1) % 2 ^ 32) = 0 → s.tblEn m.table = true → s.tblKind m.table = 0 →
    s.tblLocal m.table = false → s.flag F.FX_TBE_TBL_CFG_STITCH_SHARE m.table = true → m.op = msgAged ∨ m.op = msgRemove → (s.entries m.table).find? (fun e => e.key ==
    m.key) = some e → e.origin = m.origin → e.upd ≤ bits m.stamp 16 32 → ∃ t, exec (.stitchLearnRx devid) s = .next t ∧ (t.entries m.table).all (fun x => x.key != m.key)
    = true ∧ Map.get none m.origin t.tbl.rxSeq = some m.seq ∧ Map.get [] devid t.tbl.inbox = rest)
  ∧ (∀ (s : State) (devid : Fin 4) (m : LearnMsg) (rest : List LearnMsg), s.inService = true → s.fenced 5 = false → Map.get [] devid s.tbl.inbox = m :: rest →
    (match Map.get none m.origin s.tbl.rxSeq with | none => 0 | some q => (m.seq + 2 ^ 32 - q - 1) % 2 ^ 32) = 0 → s.tblEn m.table = true → s.tblKind m.table = 0 →
    s.tblLocal m.table = false → s.flag F.FX_TBE_TBL_CFG_STITCH_SHARE m.table = true → m.op = msgAged ∨ m.op = msgRemove → ((s.entries m.table).find? (fun e => e.key ==
    m.key)).all (fun e => e.origin != m.origin || decide (bits m.stamp 16 32 < e.upd)) = true → ∃ t, exec (.stitchLearnRx devid) s = .next t ∧ t.entries m.table =
    s.entries m.table ∧ t.fld F.FX_TBE_TBL_STAT_COUNT (8 * m.table + 7) = (s.fld F.FX_TBE_TBL_STAT_COUNT (8 * m.table + 7) + 1) % 2 ^ F.FX_TBE_TBL_STAT_COUNT.width ∧
    Map.get none m.origin t.tbl.rxSeq = some m.seq ∧ Map.get [] devid t.tbl.inbox = rest)
  ∧ (∀ (s : State) (devid : Fin 4) (m : LearnMsg) (rest : List LearnMsg) (q n : Nat), s.inService = true → s.fenced 5 = false → Map.get [] devid s.tbl.inbox = m :: rest →
    Map.get none m.origin s.tbl.rxSeq = some q → (m.seq + 2 ^ 32 - q - 1) % 2 ^ 32 = n → n ≠ 0 → ∃ t, exec (.stitchLearnRx devid) s = .next t ∧ t.raised s 681 [.w
    m.origin, .w n] = true ∧ t.stc.want.contains m.origin = true ∧ Map.get none m.origin t.tbl.rxSeq = some m.seq ∧ Map.get [] devid t.tbl.inbox = rest)
  ∧ (∀ (s : State) (devid : Fin 4), s.inService = false ∨ s.fenced 5 = true ∨ Map.get [] devid s.tbl.inbox = [] → exec (.stitchLearnRx devid) s = .next (s))
  ∧ (∀ (s : State) (k : Nat), s.inService = true → s.timeSlave = true → s.linkTo s.masterOf = some k → ∃ t, exec .timeExchange s = .next t ∧ (t.sent s).getLast? = some
    (.stitch k (s.stitchFrame k 3 (beBytes 8 s.now ++ beBytes 8 ((Map.get (0, 0) k s.stc.peer).2 - 1) ++ beBytes 8 (Map.get (0, 0) k s.stc.peer).1))) ∧ t.stc.waiting =
    true)
  ∧ (∀ (s : State), s.inService = true → s.timeSlave = true → s.stc.waiting = true → 2 ≤ s.stc.missed → s.syncState = 2 → ∃ t, exec .timeExchange s = .next t ∧ t.syncState
    = 3)
  ∧ (∀ (s : State) (link : Fin 8) (time : Nat) (bs : List Byte) (rest : List (Nat × List Byte)) (off : Int), s.inService = true → takeKind (· == stcTypeTime) (Map.get []
    link s.stc.inbox) = some ((time, bs), rest) → s.stcLink link = 2 → s.stcCheck link bs = 0 → s.timeSlave = true → s.nbDevid link = s.masterOf → beField (bs.drop 16)
    16 8 ≠ 0 → ((beField (bs.drop 16) 8 8 : Int) - beField (bs.drop 16) 16 8) - (((time : Int) - beField (bs.drop 16) 16 8) - ((beField (bs.drop 16) 0 8 : Int) - beField
    (bs.drop 16) 8 8)) / 2 = off → 0 < off → off < 2 ^ 63 → ∃ t, exec (.timeRx link) s = .next t ∧ t.time.step = s.time.step + off.toNat ∧ t.stc.waiting = false)
  ∧ (∀ (s : State) (link : Fin 8) (time : Nat) (bs : List Byte) (rest : List (Nat × List Byte)) (off : Int), s.inService = true → takeKind (· == stcTypeTime) (Map.get []
    link s.stc.inbox) = some ((time, bs), rest) → s.stcLink link = 2 → s.stcCheck link bs = 0 → s.timeSlave = true → s.nbDevid link = s.masterOf → beField (bs.drop 16)
    16 8 ≠ 0 → ((beField (bs.drop 16) 8 8 : Int) - beField (bs.drop 16) 16 8) - (((time : Int) - beField (bs.drop 16) 16 8) - ((beField (bs.drop 16) 0 8 : Int) - beField
    (bs.drop 16) 8 8)) / 2 = off → -100000000 ≤ off → off < 0 → ∃ t, exec (.timeRx link) s = .next t ∧ t.time.slew = (-off).toNat * nsUnit ∧ t.flag
    F.AO_TB_STATUS_SLEWING = true)
  ∧ (∀ (s : State) (link : Fin 8) (time : Nat) (bs : List Byte) (rest : List (Nat × List Byte)), s.inService = true → takeKind (· == stcTypeTime) (Map.get [] link
    s.stc.inbox) = some ((time, bs), rest) → s.stcLink link = 2 → s.stcCheck link bs = 0 → s.timeSlave = false → ∃ t, exec (.timeRx link) s = .next t ∧ (t.sent
    s).getLast? = some (.stitch link (s.stitchFrame link 3 (beBytes 8 s.now ++ beBytes 8 time ++ beBytes 8 (beField (bs.drop 16) 0 8)))))
  ∧ (∀ (s : State) (link : Fin 8) (time : Nat) (bs : List Byte) (rest : List (Nat × List Byte)) (off : Int), s.inService = true → takeKind (· == stcTypeTime) (Map.get []
    link s.stc.inbox) = some ((time, bs), rest) → s.stcLink link = 2 → s.stcCheck link bs = 0 → s.timeSlave = true → s.nbDevid link = s.masterOf → beField (bs.drop 16)
    16 8 ≠ 0 → ((beField (bs.drop 16) 8 8 : Int) - beField (bs.drop 16) 16 8) - (((time : Int) - beField (bs.drop 16) 16 8) - ((beField (bs.drop 16) 0 8 : Int) - beField
    (bs.drop 16) 8 8)) / 2 = off → off < -100000000 → ∃ t, exec (.timeRx link) s = .next t ∧ t.syncState = 0 ∧ t.raised s 16 [.w s.masterOf, .w 0] = true ∧ t.stc.waiting
    = false)
  ∧ (∀ (s : State), s.inService = false ∨ s.timeSlave = false → exec .timeExchange s = .next (s))

/-- The HBM layout is written unless locked or refused, scrub counts and contains errors, stacks go off and come back (11_compute_memory.md, 22_faults_ageing_calibration.md). -/
def Obligations.HbmLayoutScrubAndStacks : Prop :=
  (∀ (s : State) (who : Party) (v : Word), s.admits who 8 0 = true → s.ringUp = true → s.lockHit F.MX_HBM_PART_WC_SIZE 0 = false → partRefused (bits v.toNat 8 4) (bits
    v.toNat 0 5) = false → ∃ t, exec (.hbmPartWrite who v) s = .next t ∧ t.fld F.MX_HBM_PART_WC_STACKS = bits v.toNat 8 4 ∧ t.fld F.MX_HBM_PART_WC_SIZE = bits v.toNat 0
    5)
  ∧ (∀ (s : State) (who : Party) (v : Word), s.admits who 8 0 = true → s.ringUp = true → s.lockHit F.MX_HBM_PART_WC_SIZE 0 = false → partRefused (bits v.toNat 8 4) (bits
    v.toNat 0 5) = true → ∃ t, exec (.hbmPartWrite who v) s = .next t ∧ t.fld F.MX_HBM_PART_WC_STACKS = s.fld F.MX_HBM_PART_WC_STACKS ∧ t.fld F.MX_HBM_PART_WC_SIZE =
    s.fld F.MX_HBM_PART_WC_SIZE ∧ t.raised s 902 [] = true)
  ∧ (∀ (s : State) (who : Party) (v : Word), s.admits who 8 0 = true → s.ringUp = true → s.lockHit F.MX_HBM_PART_WC_SIZE 0 = true → ∃ t, exec (.hbmPartWrite who v) s =
    .next t ∧ t.fld F.MX_HBM_PART_WC_STACKS = s.fld F.MX_HBM_PART_WC_STACKS ∧ t.fld F.MX_HBM_PART_WC_SIZE = s.fld F.MX_HBM_PART_WC_SIZE ∧ t.fld F.AO_FLT_LOCKVIOL_COUNT =
    (s.fld F.AO_FLT_LOCKVIOL_COUNT + 1) % 2 ^ 64)
  ∧ (∀ (s : State) (stack : Fin 4) (addr : Dword), s.ringUp = true → s.fld F.MX_HBM_STACK_CTRL_STATE stack < 2 → ∃ t, exec (.hbmScrub stack addr .corrected) s = .next t ∧
    t.fld F.MX_HBM_ECC_COUNT (2 * stack.val) = (s.fld F.MX_HBM_ECC_COUNT (2 * stack.val) + 1) % 2 ^ 64)
  ∧ (∀ (s : State) (stack : Fin 4) (addr : Dword) (r : ScrubResult), s.ringUp = true → s.fld F.MX_HBM_STACK_CTRL_STATE stack < 2 → r ≠ .corrected → ∃ t, exec (.hbmScrub
    stack addr r) s = .next t ∧ t.fld F.MX_HBM_ECC_COUNT (2 * stack.val + 1) = (s.fld F.MX_HBM_ECC_COUNT (2 * stack.val + 1) + 1) % 2 ^ 64 ∧ t.raised s 901 [.w stack, .d
    addr.toNat] = true)
  ∧ (∀ (s : State) (stack : Fin 4) (addr : Dword) (r : ScrubResult), s.ringUp = false ∨ 2 ≤ s.fld F.MX_HBM_STACK_CTRL_STATE stack → exec (.hbmScrub stack addr r) s = .next
    (s))
  ∧ (∀ (s : State) (stack : Fin 4) (addr : Dword), s.ringUp = true → s.fld F.MX_HBM_STACK_CTRL_STATE stack < 2 → s.coreStack addr.toNat = some stack.val → ∃ t, exec
    (.hbmScrub stack addr .core) s = .next t ∧ t.fld F.MX_HBM_ECC_COUNT (2 * stack.val + 1) = (s.fld F.MX_HBM_ECC_COUNT (2 * stack.val + 1) + 1) % 2 ^ 64 ∧ t.raised s
    901 [.w stack, .d addr.toNat] = true ∧ t.poison.contains (addr.toNat / 64) = true ∧ t.coreGood addr.toNat 1 = false)
  ∧ (∀ (s : State) (who : Party) (stack : Fin 4), s.admits who 8 0 = true → s.ringUp = true → s.stackHolds stack = false → s.fld F.MX_HBM_STACK_CTRL_STATE stack < 2 → ∃ t,
    exec (.stackOff who stack) s = .next t ∧ t.fld F.MX_HBM_STACK_CTRL_STATE stack = 2 ∧ t.mem = s.mem.filter (fun c => !inRange c.1 (0x1000000000 + 0x400000000 *
    stack.val) 0x400000000) ∧ t.power (88 + 2 * stack.val) = 0 ∧ t.power (89 + 2 * stack.val) = 0)
  ∧ (∀ (s : State) (who : Party) (stack : Fin 4), s.admits who 8 0 = true → s.ringUp = true → s.stackHolds stack = true → ∃ t, exec (.stackOff who stack) s = .next t ∧
    t.fld F.MX_HBM_STACK_CTRL_STATE stack = s.fld F.MX_HBM_STACK_CTRL_STATE stack ∧ t.raised s 902 [] = true)
  ∧ (∀ (s : State) (who : Party) (stack : Fin 4), s.admits who 8 0 = true → s.stackHolds stack = false → 2 ≤ s.fld F.MX_HBM_STACK_CTRL_STATE stack → ∃ t, exec (.stackOff
    who stack) s = .next t ∧ t.fld F.MX_HBM_STACK_CTRL_STATE stack = s.fld F.MX_HBM_STACK_CTRL_STATE stack ∧ t.mem = s.mem ∧ t.out = s.out)
  ∧ (∀ (s : State) (who : Party) (stack : Fin 4), s.admits who 8 0 = true → s.ringUp = true → s.fld F.MX_HBM_STACK_CTRL_STATE stack = 2 → ∃ t, exec (.stackOn who stack) s
    = .next t ∧ t.fld F.MX_HBM_STACK_CTRL_STATE stack = 3 ∧ t.fld F.MX_HBM_STACK_CTRL_OFF stack = 0)
  ∧ (∀ (s : State) (stack : Fin 4), s.fld F.MX_HBM_STACK_CTRL_STATE stack = 3 → ∃ t, exec (.stackOnDone stack) s = .next t ∧ t.fld F.MX_HBM_STACK_CTRL_STATE stack = 0 ∧
    t.power (88 + 2 * stack.val) = 3 ∧ t.power (89 + 2 * stack.val) = 3)
  ∧ (∀ (s : State) (stack : Fin 4), s.fld F.MX_HBM_STACK_CTRL_STATE stack ≠ 3 → exec (.stackOnDone stack) s = .next (s))

/-- Host sub-links train, run and reset their functions; completions, timeouts and tags follow the reads in flight (12_host_links_pcie.md). -/
def Obligations.HostSublinksAndReads : Prop :=
  (∀ (s : State) (link n : Fin 2), s.hlAllowed link = true → n.val ∈ s.sublinks link → s.hlState link n = 0 → ∃ t, exec (.hostPerstDeassert link) s = .next t ∧ t.hlState
    link n = 1 ∧ (t.host link).perst = false)
  ∧ (∀ (s : State) (link sub : Fin 2) (rate : Fin 7) (width : Fin 17) (flit : Bool) (power : Fin 3), 1 ≤ s.hlState link sub → s.hostFits link rate width power flit = true
    → ∃ t, exec (.hostDlActive link sub rate width flit power) s = .next t ∧ t.hlState link sub = (if s.hlState link sub = 1 then (if s.mode = .boot then 2 else 3) else
    s.hlState link sub) ∧ t.fld F.HX_PCIE_LINK_STATUS_RATE (2 * link.val + sub.val) = rate ∧ t.fld F.HX_PCIE_LINK_STATUS_WIDTH (2 * link.val + sub.val) = width ∧ t.fld
    F.HX_PCIE_LINK_STATUS_POWER (2 * link.val + sub.val) = power ∧ t.flag F.HX_PCIE_LINK_STATUS_FLIT (2 * link.val + sub.val) = flit)
  ∧ (∀ (s : State) (link sub : Fin 2) (rate : Fin 7) (width : Fin 17) (flit : Bool) (power : Fin 3), s.hlState link sub = 0 ∨ s.hostFits link rate width power flit = false
    → exec (.hostDlActive link sub rate width flit power) s = .next (s))
  ∧ (∀ (s : State) (link sub : Fin 2), s.hlState link sub = 1 → ∃ t, exec (.hostTrainTimeout link sub) s = .next t ∧ t.hlState link sub = 1 ∧ t.fld F.HX_PCIE_STAT_COUNT
    (11 * link.val + 10) = (s.fld F.HX_PCIE_STAT_COUNT (11 * link.val + 10) + 1) % 2 ^ 64)
  ∧ (∀ (s : State) (link sub : Fin 2), s.hlState link sub = 2 ∨ s.hlState link sub = 3 → ∃ t, exec (.hotReset link sub) s = .next t ∧ t.hlState link sub = 1 ∧ (∀ fi ∈
    s.onSublink link sub, (t.cfg fi).resetting ≠ 0))
  ∧ (∀ (s : State) (link sub : Fin 2), s.hlState link sub = 2 ∨ s.hlState link sub = 3 → ∃ t, exec (.hostDlDown link sub) s = .next t ∧ t.hlState link sub = 1 ∧ (∀ fi ∈
    s.onSublink link sub, (t.cfg fi).resetting ≠ 0))
  ∧ (∀ (s : State) (link sub : Fin 2), s.hlState link sub ≠ 1 → exec (.hostTrainTimeout link sub) s = .next (s))
  ∧ (∀ (s : State) (link sub : Fin 2), s.hlState link sub ≠ 2 → s.hlState link sub ≠ 3 → exec (.hotReset link sub) s = .next (s))
  ∧ (∀ (s : State) (link sub : Fin 2), s.hlState link sub ≠ 2 → s.hlState link sub ≠ 3 → exec (.hostDlDown link sub) s = .next (s))
  ∧ (∀ (s : State) (link : Fin 2), ∃ t, exec (.hostPerstAssert link) s = .next t ∧ t.hlState link 0 = 0 ∧ t.hlState link 1 = 0 ∧ (t.host link).perst = true ∧ (∀ fi ∈
    (s.sublinks link).flatMap (s.onSublink link), (t.cfg fi).resetting ≠ 0))
  ∧ (∀ (s : State) (link : Fin 2) (tag : Fin 1024) (n : Fin 4097) (r : HostRead), (s.host link).reads.find? (·.tag == tag.val) = some r → n.val < r.left → ∃ t, exec
    (.completionRx link tag (.data n)) s = .next t ∧ (t.host link).reads = (s.host link).reads.map (fun x => if x.tag == tag.val then { x with left := x.left - n.val }
    else x))
  ∧ (∀ (s : State) (link : Fin 2) (tag : Fin 1024) (n : Fin 4097) (r : HostRead), (s.host link).reads.find? (·.tag == tag.val) = some r → r.left ≤ n.val → (s.host
    link).queue = [] → ∃ t, exec (.completionRx link tag (.data n)) s = .next t ∧ (t.host link).reads = (s.host link).reads.filter (fun x => x.tag != tag.val))
  ∧ (∀ (s : State) (link : Fin 2) (tag : Fin 1024) (r : HostRead), (s.host link).reads.find? (·.tag == tag.val) = some r → ∃ t, exec (.completionRx link tag .error) s =
    .next t ∧ t.fld F.HX_PCIE_STAT_COUNT (11 * link.val + 7) = (s.fld F.HX_PCIE_STAT_COUNT (11 * link.val + 7) + 1) % 2 ^ 64)
  ∧ (∀ (s : State) (link : Fin 2) (tag : Fin 1024) (r : HostRead), (s.host link).reads.find? (·.tag == tag.val) = some r → ∃ t, exec (.completionRx link tag .poisoned) s =
    .next t ∧ t.fld F.HX_PCIE_STAT_COUNT (11 * link.val + 6) = (s.fld F.HX_PCIE_STAT_COUNT (11 * link.val + 6) + 1) % 2 ^ 64)
  ∧ (∀ (s : State) (link : Fin 2) (tag : Fin 1024) (st : CplStatus), (s.host link).reads.find? (·.tag == tag.val) = none → (s.host link).dead.find? (·.tag == tag.val) =
    none → ∃ t, exec (.completionRx link tag st) s = .next t ∧ t.hosts = s.hosts ∧ t.fld F.HX_PCIE_STAT_COUNT (11 * link.val + 2) = (s.fld F.HX_PCIE_STAT_COUNT (11 *
    link.val + 2) + 1) % 2 ^ 64)
  ∧ (∀ (s : State) (link : Fin 2) (tag : Fin 1024) (st : CplStatus) (d : DeadTag), (s.host link).reads.find? (·.tag == tag.val) = none → (s.host link).dead.find? (·.tag ==
    tag.val) = some d → ∃ t, exec (.completionRx link tag st) s = .next t ∧ t.hosts = s.hosts ∧ t.fld F.HX_PCIE_STAT_COUNT (11 * link.val + 1) = (s.fld
    F.HX_PCIE_STAT_COUNT (11 * link.val + 1) + 1) % 2 ^ 64 ∧ t.fld F.HX_PCIE_STAT_COUNT (11 * link.val + 3) = (s.fld F.HX_PCIE_STAT_COUNT (11 * link.val + 3) + b2n
    d.abandoned) % 2 ^ 64)
  ∧ (∀ (s : State) (link : Fin 2) (tag : Fin 1024) (r : HostRead), (s.host link).reads.find? (·.tag == tag.val) = some r → r.expires ≤ s.now → ∃ t, exec
    (.completionTimeout link tag) s = .next t ∧ (t.host link).dead.any (fun d => d.tag == tag.val && !d.abandoned) = true ∧ t.fld F.HX_PCIE_STAT_COUNT (11 * link.val +
    0) = (s.fld F.HX_PCIE_STAT_COUNT (11 * link.val + 0) + 1) % 2 ^ 64)
  ∧ (∀ (s : State) (link : Fin 2) (tag : Fin 1024), (s.host link).reads.find? (·.tag == tag.val) = none → (s.host link).dead.any (fun d => d.tag == tag.val && d.abandoned
    && decide (d.expires ≤ s.now)) = true → ∃ t, exec (.completionTimeout link tag) s = .next t ∧ t.hosts = s.hosts ∧ t.fld F.HX_PCIE_STAT_COUNT (11 * link.val + 0) =
    (s.fld F.HX_PCIE_STAT_COUNT (11 * link.val + 0) + 1) % 2 ^ 64)
  ∧ (∀ (s : State) (link : Fin 2) (tag : Fin 1024), ((s.host link).reads.find? (·.tag == tag.val)).any (fun r => decide (s.now < r.expires)) = true ∨ (s.host
    link).reads.find? (·.tag == tag.val) = none ∧ (s.host link).dead.any (fun d => d.tag == tag.val && d.abandoned && decide (d.expires ≤ s.now)) = false → exec
    (.completionTimeout link tag) s = .next (s))
  ∧ (∀ (s : State) (link : Fin 2) (tag : Fin 1024), ∃ t, exec (.tagRelease link tag) s = .next t ∧ (t.host link).dead = (s.host link).dead.filter (fun d => !(d.tag ==
    tag.val && decide (d.until' ≤ s.now))))
  ∧ (∀ (s : State) (h n : Fin 2), hlTraining ≤ s.hlState h n → ∃ t, exec (.correctableError (.host h n)) s = .next t ∧ t.fld F.HX_PCIE_STAT_COUNT (11 * h + 9) = (s.fld
    F.HX_PCIE_STAT_COUNT (11 * h + 9) + 1) % 2 ^ 64 ∧ t.hlState h n = s.hlState h n)
  ∧ (∀ (s : State) (h n : Fin 2), s.hlState h n = 0 → exec (.correctableError (.host h n)) s = .next (s))

/-- Configuration requests read and set fields, BME and FLR quieten a function, VFs come and go, records are written (12_host_links_pcie.md, 13_functions_isolation.md). -/
def Obligations.ConfigurationAndFunctions : Prop :=
  (∀ (s : State) (fi : Fin 2056) (v : Word), s.hlState (linkOf fi) (s.sublinkOf fi) = 3 → ¬(s.mode = .safetyNet ∧ fi.val ≠ 0) → fi.val < 8 ∨ s.live fi = true → (s.cfg
    fi).resetting = 0 → ∃ t, exec (.configRequest fi (.write .maxPayload v)) s = .next t ∧ (t.cfg fi).mps = min (v.toNat % 8) 2 ∧ t.out = s.out ++ [.cfgCpl fi 0 0])
  ∧ (∀ (s : State) (fi : Fin 2056) (v : Word), s.hlState (linkOf fi) (s.sublinkOf fi) = 3 → ¬(s.mode = .safetyNet ∧ fi.val ≠ 0) → fi.val < 8 ∨ s.live fi = true → (s.cfg
    fi).resetting = 0 → ∃ t, exec (.configRequest fi (.write .maxReadReq v)) s = .next t ∧ (t.cfg fi).mrrs = min (v.toNat % 8) 5 ∧ t.out = s.out ++ [.cfgCpl fi 0 0])
  ∧ (∀ (s : State) (fi : Fin 2056) (v : Word), s.hlState (linkOf fi) (s.sublinkOf fi) = 3 → ¬(s.mode = .safetyNet ∧ fi.val ≠ 0) → fi.val < 8 ∨ s.live fi = true → (s.cfg
    fi).resetting = 0 → ∃ t, exec (.configRequest fi (.write .cplTimeout v)) s = .next t ∧ (t.cfg fi).cto = v.toNat % 16 ∧ t.out = s.out ++ [.cfgCpl fi 0 0])
  ∧ (∀ (s : State) (fi : Fin 2056) (v : Word), s.hlState (linkOf fi) (s.sublinkOf fi) = 3 → ¬(s.mode = .safetyNet ∧ fi.val ≠ 0) → fi.val < 8 ∨ s.live fi = true → (s.cfg
    fi).resetting = 0 → ∃ t, exec (.configRequest fi (.write .aerStatus v)) s = .next t ∧ (t.cfg fi).aer = Nat.land (s.cfg fi).aer (2 ^ 32 - 1 - v.toNat) ∧ t.out = s.out
    ++ [.cfgCpl fi 0 0])
  ∧ (∀ (s : State) (fi : Fin 2056), s.hlState (linkOf fi) (s.sublinkOf fi) = 3 → ¬(s.mode = .safetyNet ∧ fi.val ≠ 0) → fi.val < 8 ∨ s.live fi = true → (s.cfg fi).resetting
    = 0 → ∃ t, exec (.configRequest fi (.read .busMaster)) s = .next t ∧ t.out = s.out ++ [.cfgCpl fi 0 (b2n (s.cfg fi).bme)] ∧ t.cfgs = s.cfgs)
  ∧ (∀ (s : State) (fi : Fin 2056), s.hlState (linkOf fi) (s.sublinkOf fi) = 3 → ¬(s.mode = .safetyNet ∧ fi.val ≠ 0) → fi.val < 8 ∨ s.live fi = true → (s.cfg fi).resetting
    = 0 → ∃ t, exec (.configRequest fi (.read .memSpace)) s = .next t ∧ t.out = s.out ++ [.cfgCpl fi 0 (b2n (s.cfg fi).mse)] ∧ t.cfgs = s.cfgs)
  ∧ (∀ (s : State) (fi : Fin 2056), s.hlState (linkOf fi) (s.sublinkOf fi) = 3 → ¬(s.mode = .safetyNet ∧ fi.val ≠ 0) → fi.val < 8 ∨ s.live fi = true → (s.cfg fi).resetting
    = 0 → ∃ t, exec (.configRequest fi (.read .numVfs)) s = .next t ∧ t.out = s.out ++ [.cfgCpl fi 0 ((s.cfg fi).numVfs)] ∧ t.cfgs = s.cfgs)
  ∧ (∀ (s : State) (fi : Fin 2056), s.hlState (linkOf fi) (s.sublinkOf fi) = 3 → ¬(s.mode = .safetyNet ∧ fi.val ≠ 0) → fi.val < 8 ∨ s.live fi = true → (s.cfg fi).resetting
    = 0 → ∃ t, exec (.configRequest fi (.read .totalVfs)) s = .next t ∧ t.out = s.out ++ [.cfgCpl fi 0 (256)] ∧ t.cfgs = s.cfgs)
  ∧ (∀ (s : State) (fi : Fin 2056), s.hlState (linkOf fi) (s.sublinkOf fi) = 3 → ¬(s.mode = .safetyNet ∧ fi.val ≠ 0) → fi.val < 8 ∨ s.live fi = true → (s.cfg fi).resetting
    = 0 → ∃ t, exec (.configRequest fi (.read .initiateFlr)) s = .next t ∧ t.out = s.out ++ [.cfgCpl fi 0 (0)] ∧ t.cfgs = s.cfgs)
  ∧ (∀ (s : State) (fi : Fin 2056), s.hlState (linkOf fi) (s.sublinkOf fi) = 3 → ¬(s.mode = .safetyNet ∧ fi.val ≠ 0) → fi.val < 8 ∨ s.live fi = true → (s.cfg fi).resetting
    = 0 → ∃ t, exec (.configRequest fi (.read .vfStride)) s = .next t ∧ t.out = s.out ++ [.cfgCpl fi 0 (1)] ∧ t.cfgs = s.cfgs)
  ∧ (∀ (s : State) (fi : Fin 2056) (op : CfgOp), s.hlState (linkOf fi) (s.sublinkOf fi) = 2 ∨ s.hlState (linkOf fi) (s.sublinkOf fi) = 3 ∧ (s.cfg fi).resetting ≠ 0 →
    ¬(s.mode = .safetyNet ∧ fi.val ≠ 0) → fi.val < 8 ∨ s.live fi = true ∨ (s.cfg fi).resetting ≠ 0 → ∃ t, exec (.configRequest fi op) s = .next t ∧ t.out = s.out ++
    [.cfgCpl fi 2 0] ∧ t.cfgs = s.cfgs)
  ∧ (∀ (s : State) (fi : Fin 2056) (op : CfgOp), s.hlState (linkOf fi) (s.sublinkOf fi) = 2 ∨ s.hlState (linkOf fi) (s.sublinkOf fi) = 3 → s.mode = .safetyNet ∧ fi.val ≠ 0
    ∨ 8 ≤ fi.val ∧ s.live fi = false ∧ (s.cfg fi).resetting = 0 → ∃ t, exec (.configRequest fi op) s = .next t ∧ t.out = s.out ++ [.cfgCpl fi 1 0] ∧ t.cfgs = s.cfgs)
  ∧ (∀ (s : State) (fi : Fin 2056) (op : CfgOp), s.hlState (linkOf fi) (s.sublinkOf fi) < 2 → exec (.configRequest fi op) s = .next (s))
  ∧ (∀ (s : State) (fi : Fin 2056) (r : Fin 65536), s.hlState (linkOf fi) (s.sublinkOf fi) = 3 → ¬(s.mode = .safetyNet ∧ fi.val ≠ 0) → fi.val < 8 ∨ s.live fi = true →
    (s.cfg fi).resetting = 0 → 8 ≤ fi.val ∨ (s.cfg fi).mse = true → (s.cfg fi).bme = true → s.ringOwner r = some fi.val → s.ringState r = 1 → ∃ t, exec (.bmeClear fi) s
    = .next t ∧ (t.cfg fi).bme = false ∧ t.ringState r = 3 ∧ t.fld F.HX_RING_STATUS_CAUSE r = 2)
  ∧ (∀ (s : State) (fi : Fin 2056), s.hlState (linkOf fi) (s.sublinkOf fi) = 3 → ¬(s.mode = .safetyNet ∧ fi.val ≠ 0) → fi.val < 8 ∨ s.live fi = true → (s.cfg fi).resetting
    = 0 → (s.cfg fi).bme = false → ∃ t, exec (.bmeClear fi) s = .next t ∧ t.cfgs = s.cfgs ∧ t.out = s.out ++ [.cfgCpl fi 0 0])
  ∧ (∀ (s : State) (fi : Fin 2056), s.hlState (linkOf fi) (s.sublinkOf fi) = 3 → ¬(s.mode = .safetyNet ∧ fi.val ≠ 0) → fi.val < 8 ∨ s.live fi = true → (s.cfg fi).resetting
    = 0 → ∃ t, exec (.flr fi) s = .next t ∧ (t.cfg fi).resetting = 1)
  ∧ (∀ (s : State) (fi : Fin 2056), (s.cfg fi).resetting ≠ 0 → (s.cfg fi).resetting ≠ 4 → ∃ t, exec (.functionResetDone fi) s = .next t ∧ (t.cfg fi).resetting = (if fi.val
    < 8 ∧ s.live fi = true then 4 else 0) ∧ (t.cfg fi).bme = false ∧ (t.cfg fi).vfEn = false)
  ∧ (∀ (s : State) (fi : Fin 2056), (s.cfg fi).resetting = 1 → ∃ t, exec (.functionResetDone fi) s = .next t ∧ t.fld F.HX_PCIE_STAT_COUNT (11 * linkOf fi + 8) = (s.fld
    F.HX_PCIE_STAT_COUNT (11 * linkOf fi + 8) + 1) % 2 ^ 64 ∧ t.raised s 770 [.w fi] = true)
  ∧ (∀ (s : State) (fi : Fin 2056), (s.cfg fi).resetting = 0 ∨ (s.cfg fi).resetting = 4 → exec (.functionResetDone fi) s = .next (s))
  ∧ (∀ (s : State) (fi : Fin 2056) (vec : Fin 2048), vec.val < s.fld F.HX_FN_REC_VEC_COUNT fi → (s.cfg fi).bme = true → (s.cfg fi).msixMask = false → bit (s.fld
    F.HX_FNV_PBA_PBA (fi.val * 64 + vec.val / 32)) (vec.val % 32) = true → ∃ t, exec (.msixUnmask fi vec) s = .next t ∧ t.flag F.HX_FNV_MSIX_MASK (fi.val * 2048 +
    vec.val) = false ∧ .msix fi vec (s.fld F.HX_FNV_MSIX_ADDR (fi.val * 2048 + vec.val)) (s.fld F.HX_FNV_MSIX_DATA (fi.val * 2048 + vec.val)) ∈ t.sent s ∧ bit (t.fld
    F.HX_FNV_PBA_PBA (fi.val * 64 + vec.val / 32)) (vec.val % 32) = false)
  ∧ (∀ (s : State) (fi : Fin 2056) (vec : Fin 2048), vec.val < s.fld F.HX_FN_REC_VEC_COUNT fi → (s.cfg fi).bme = false ∨ (s.cfg fi).msixMask = true → ∃ t, exec
    (.msixUnmask fi vec) s = .next t ∧ t.flag F.HX_FNV_MSIX_MASK (fi.val * 2048 + vec.val) = false ∧ t.out = s.out ∧ t.fld F.HX_FNV_PBA_PBA (fi.val * 64 + vec.val / 32)
    = s.fld F.HX_FNV_PBA_PBA (fi.val * 64 + vec.val / 32))
  ∧ (∀ (s : State) (fi : Fin 2056) (vec : Fin 2048), s.fld F.HX_FN_REC_VEC_COUNT fi ≤ vec.val → exec (.msixUnmask fi vec) s = .next (s))
  ∧ (∀ (s : State) (who : Party) (fi : Fin 2064) (v : Word), s.admits who 6 2 = true → s.recOpen who fi = true → ∃ t, exec (.fnRecWrite who fi 0 v) s = .next t ∧ t.fld
    F.HX_FN_REC_RING_BASE fi = v.toNat / 2 ^ 16 ∧ t.fld F.HX_FN_REC_RING_COUNT fi = v.toNat % 2 ^ 13)
  ∧ (∀ (s : State) (who : Party) (fi : Fin 2064) (v : Word), s.admits who 6 2 = true → s.recOpen who fi = true → ∃ t, exec (.fnRecWrite who fi 1 v) s = .next t ∧ t.fld
    F.HX_FN_REC_VEC_BASE fi = v.toNat / 2 ^ 16 % 2 ^ F.HX_FN_REC_VEC_BASE.width ∧ t.fld F.HX_FN_REC_VEC_COUNT fi = v.toNat % 2 ^ F.HX_FN_REC_VEC_COUNT.width)
  ∧ (∀ (s : State) (who : Party) (fi : Fin 2064) (v : Word), s.admits who 6 2 = true → s.recOpen who fi = true → ∃ t, exec (.fnRecWrite who fi 2 v) s = .next t ∧ t.fld
    F.HX_FN_REC_WIN_BASE fi = v.toNat % 2 ^ F.HX_FN_REC_WIN_BASE.width)
  ∧ (∀ (s : State) (who : Party) (fi : Fin 2064) (v : Word), s.admits who 6 2 = true → s.recOpen who fi = true → ∃ t, exec (.fnRecWrite who fi 3 v) s = .next t ∧ t.fld
    F.HX_FN_REC_WIN_COUNT fi = v.toNat % 2 ^ F.HX_FN_REC_WIN_COUNT.width)
  ∧ (∀ (s : State) (who : Party) (fi : Fin 2064) (v : Word), s.admits who 6 2 = true → s.recOpen who fi = true → ∃ t, exec (.fnRecWrite who fi 4 v) s = .next t ∧ t.fld
    F.HX_FN_REC_NS_BASE fi = v.toNat / 2 ^ 16 % 2 ^ F.HX_FN_REC_NS_BASE.width ∧ t.fld F.HX_FN_REC_NS_COUNT fi = v.toNat % 2 ^ F.HX_FN_REC_NS_COUNT.width)
  ∧ (∀ (s : State) (who : Party) (fi : Fin 2064) (v : Word), s.admits who 6 2 = true → s.recOpen who fi = true → ∃ t, exec (.fnRecWrite who fi 5 v) s = .next t ∧ t.fld
    F.HX_FN_REC_KEY_BASE fi = v.toNat / 2 ^ 16 % 2 ^ F.HX_FN_REC_KEY_BASE.width ∧ t.fld F.HX_FN_REC_KEY_COUNT fi = v.toNat % 2 ^ F.HX_FN_REC_KEY_COUNT.width)
  ∧ (∀ (s : State) (who : Party) (fi : Fin 2064) (v : Word), s.admits who 6 2 = true → s.recOpen who fi = true → ∃ t, exec (.fnRecWrite who fi 6 v) s = .next t ∧ t.fld
    F.HX_FN_REC_CLASS_MASK fi = v.toNat / 2 ^ 16 ∧ t.fld F.HX_FN_REC_HVP fi = bits v.toNat 8 4 ∧ t.fld F.HX_FN_REC_EA fi = bits v.toNat 0 8)
  ∧ (∀ (s : State) (who : Party) (fi : Fin 2064) (v : Word), s.admits who 6 2 = true → s.recOpen who fi = true → ∃ t, exec (.fnRecWrite who fi 7 v) s = .next t ∧ t.regs =
    s.regs)
  ∧ (∀ (s : State) (who : Party) (fi : Fin 2064) (word : Fin 8) (v : Word), s.admits who 6 2 = true → s.recOpen who fi = false → ∃ t, exec (.fnRecWrite who fi word v) s =
    .next t ∧ t.fld F.HX_FN_REC_RING_BASE fi = s.fld F.HX_FN_REC_RING_BASE fi ∧ t.fld F.HX_FN_REC_RING_COUNT fi = s.fld F.HX_FN_REC_RING_COUNT fi ∧ t.fld
    F.HX_FN_REC_WIN_COUNT fi = s.fld F.HX_FN_REC_WIN_COUNT fi ∧ t.fld F.HX_FN_REC_NS_COUNT fi = s.fld F.HX_FN_REC_NS_COUNT fi ∧ t.fld F.HX_FN_REC_KEY_COUNT fi = s.fld
    F.HX_FN_REC_KEY_COUNT fi ∧ t.fld F.HX_FN_REC_VEC_COUNT fi = s.fld F.HX_FN_REC_VEC_COUNT fi ∧ t.raised s 777 [.w fi] = true)
  ∧ (∀ (s : State) (pf : Fin 8), s.hlState (linkOf pf) (s.sublinkOf pf) = 3 → ¬(s.mode = .safetyNet ∧ pf.val ≠ 0) → (s.cfg pf).resetting = 0 → (s.cfg pf).vfEn = false → ∃
    t, exec (.vfEnable pf) s = .next t ∧ (t.cfg pf).vfEn = true ∧ (∀ vf ∈ s.vfsOf pf, (s.cfg vf).resetting ≠ 4 → t.flag F.HX_FN_REC_COMMITTED vf = true ∨ t.flag
    F.HX_FN_REC_ERR vf = true))
  ∧ (∀ (s : State) (pf : Fin 8), s.hlState (linkOf pf) (s.sublinkOf pf) = 3 → ¬(s.mode = .safetyNet ∧ pf.val ≠ 0) → (s.cfg pf).resetting = 0 → (s.cfg pf).vfEn = true → ∃
    t, exec (.vfEnable pf) s = .next t ∧ t.cfgs = s.cfgs ∧ t.out = s.out ++ [.cfgCpl pf 0 0])
  ∧ (∀ (s : State) (pf : Fin 8), s.hlState (linkOf pf) (s.sublinkOf pf) = 3 → ¬(s.mode = .safetyNet ∧ pf.val ≠ 0) → (s.cfg pf).resetting = 0 → (s.cfg pf).vfEn = true → ∃
    t, exec (.vfDisable pf) s = .next t ∧ (t.cfg pf).vfEn = false ∧ (∀ vf ∈ s.vfsOf pf, (t.cfg vf).resetting = 4))
  ∧ (∀ (s : State) (pf : Fin 8), s.hlState (linkOf pf) (s.sublinkOf pf) = 3 → ¬(s.mode = .safetyNet ∧ pf.val ≠ 0) → (s.cfg pf).resetting = 0 → (s.cfg pf).vfEn = false → ∃
    t, exec (.vfDisable pf) s = .next t ∧ t.cfgs = s.cfgs ∧ t.out = s.out ++ [.cfgCpl pf 0 0])
  ∧ (∀ (s : State) (fi : Fin 2056), (s.cfg fi).resetting = 4 → ∃ t, exec (.functionDestroyDone fi) s = .next t ∧ (t.cfg fi).resetting = 0 ∧ t.raised s 778 [.w fi] = true)
  ∧ (∀ (s : State) (fi : Fin 2056), (s.cfg fi).resetting = 4 → 8 ≤ fi.val ∧ ((s.cfg fi).vfPend = false ∨ (s.cfg (pfOf fi)).vfEn = false) ∨ fi.val < 8 ∧ s.live fi = false ∧
    (s.cfg fi).vfPend = false → ∃ t, exec (.functionDestroyDone fi) s = .next t ∧ t.committed fi = false)
  ∧ (∀ (s : State) (fi : Fin 2056), (s.cfg fi).resetting ≠ 4 → exec (.functionDestroyDone fi) s = .next (s))

/-- Dirty-page slots start, harvest and flush their bitmaps; drive links train, enumerate, contain and are released (12_host_links_pcie.md, 13_functions_isolation.md). -/
def Obligations.DirtyPageLoggingAndDrives : Prop :=
  (∀ (s : State) (who : Party) (slot : Fin 64) (v : Word), s.admits who 6 2 = true → bit v.toNat 31 = true → bit v.toNat 30 = false → s.flag F.HX_FN_DLOG_EN slot = false
    → ((s.listed F.HX_FN_DLOG_EN).foldl (fun a j => a + s.shadowBytes j) 0) + s.shadowBytes slot ≤ 64 * 2 ^ 20 → bits v.toNat 0 12 < 2056 → s.live (bits v.toNat 0 12) =
    true → ∃ t, exec (.dlogEnable who slot v) s = .next t ∧ t.flag F.HX_FN_DLOG_EN slot = true ∧ t.fld F.HX_FN_DLOG_FUNC slot = bits v.toNat 0 12 ∧ t.flag
    F.HX_FN_DLOG_ERR slot = false)
  ∧ (∀ (s : State) (who : Party) (slot : Fin 64) (v : Word), s.admits who 6 2 = true → bit v.toNat 31 = true → bit v.toNat 30 = false → s.flag F.HX_FN_DLOG_EN slot = false
    → 2056 ≤ bits v.toNat 0 12 ∨ s.live (bits v.toNat 0 12) = false → ∃ t, exec (.dlogEnable who slot v) s = .next t ∧ t.flag F.HX_FN_DLOG_EN slot = false ∧ t.flag
    F.HX_FN_DLOG_ERR slot = true ∧ t.raised s 779 [.w slot] = true)
  ∧ (∀ (s : State) (who : Party) (slot : Fin 64) (v : Word), s.admits who 6 2 = true → bit v.toNat 31 = true → bit v.toNat 30 = false → s.flag F.HX_FN_DLOG_EN slot = false
    → 64 * 2 ^ 20 < ((s.listed F.HX_FN_DLOG_EN).foldl (fun a j => a + s.shadowBytes j) 0) + s.shadowBytes slot → ∃ t, exec (.dlogEnable who slot v) s = .next t ∧ t.flag
    F.HX_FN_DLOG_EN slot = false ∧ t.flag F.HX_FN_DLOG_ERR slot = true ∧ t.raised s 779 [.w slot] = true)
  ∧ (∀ (s : State) (who : Party) (slot : Fin 64) (v : Word), bit v.toNat 31 = false → s.admits who 6 2 = true → exec (.dlogEnable who slot v) s = .next (s))
  ∧ (∀ (s : State) (who : Party) (slot : Fin 64), s.admits who 6 2 = true → s.flag F.HX_FN_DLOG_EN slot = false → exec (.harvest who slot) s = .next (s))
  ∧ (∀ (s : State) (slot : Fin 64), s.flag F.HX_FN_DLOG_BUSY slot = false ∨ (s.cfg s.mgr).bme = false → exec (.harvestDone slot) s = .next (s))
  ∧ (∀ (s : State) (slot : Fin 64), s.flag F.HX_FN_DLOG_EN slot = false ∨ (s.cfg s.mgr).bme = false → exec (.bitmapFlush slot) s = .next (s))
  ∧ (∀ (s : State) (who : Party) (slot : Fin 64), s.admits who 6 2 = true → s.flag F.HX_FN_DLOG_EN slot = true → s.flag F.HX_FN_DLOG_BUSY slot = false → ∃ t, exec
    (.harvest who slot) s = .next t ∧ t.flag F.HX_FN_DLOG_BUSY slot = true ∧ t.fld F.HX_FN_DLOG_ACTIVE slot = 1 - s.fld F.HX_FN_DLOG_ACTIVE slot ∧ (t.dlog slot).bits =
    [] ∧ (t.dlog slot).oldBits = (s.dlog slot).bits)
  ∧ (∀ (s : State) (who : Party) (slot : Fin 64), s.admits who 6 2 = true → s.flag F.HX_FN_DLOG_EN slot = true → s.flag F.HX_FN_DLOG_BUSY slot = true → ∃ t, exec (.harvest
    who slot) s = .next t ∧ t.fld F.HX_FN_DLOG_ACTIVE slot = s.fld F.HX_FN_DLOG_ACTIVE slot ∧ t.raised s 779 [.w slot] = true)
  ∧ (∀ (s : State) (slot : Fin 64), s.mgr < 2056 → s.flag F.HX_FN_DLOG_BUSY slot = true → s.masters s.mgr = true → s.fld F.HX_FN_DLOG_RECORD slot % 8 = 0 → s.fld
    F.HX_FN_DLOG_FUNC slot ≠ s.mgr → ∃ t, exec (.harvestDone slot) s = .next t ∧ t.flag F.HX_FN_DLOG_BUSY slot = false ∧ .hostWrite s.mgr (s.fld F.HX_FN_DLOG_RECORD
    slot) (leBytes 8 (((s.dlog slot).seq + 1) % 2 ^ 32 + (1 - s.fld F.HX_FN_DLOG_ACTIVE slot) * 2 ^ 32 + b2n (s.dlog slot).oldOut * 2 ^ 33)) ∈ t.sent s)
  ∧ (∀ (s : State) (slot : Fin 64), s.mgr < 2056 → s.flag F.HX_FN_DLOG_EN slot = true → (s.cfg s.mgr).bme = true → s.fld F.HX_FN_DLOG_FUNC slot ≠ s.mgr → ∃ t, exec
    (.bitmapFlush slot) s = .next t ∧ (t.dlog slot).dirty = [] ∧ (t.dlog slot).oldDirty = [] ∧ (t.dlog slot).bits = (s.dlog slot).bits)
  ∧ (∀ (s : State) (who : Party) (slot : Fin 8), s.admits who 6 1 = true → s.slotUsed slot = true → s.drivesRun = true → s.dlState slot = 0 → ∃ t, exec (.driveEn who slot)
    s = .next t ∧ t.dlState slot = 1 ∧ t.flag F.HX_RP_SUBLINK_CTRL_EN slot = true ∧ .pin (pinDrivePerst slot) 1 ∈ t.sent s)
  ∧ (∀ (s : State) (slot : Fin 8) (rate : Fin 6) (width : Fin 17), s.dlState slot = 1 → rate.val ≠ 0 ∧ linkWidth width = true ∧ width.val ≤ s.slotLanes slot → ∃ t, exec
    (.driveDlActive slot rate width) s = .next t ∧ t.dlState slot = 2 ∧ t.fld F.HX_RP_SUBLINK_STATUS_RATE slot = rate ∧ t.fld F.HX_RP_SUBLINK_STATUS_WIDTH slot = width)
  ∧ (∀ (s : State) (slot : Fin 8) (rate : Fin 6) (width : Fin 17), s.dlState slot ≠ 1 ∨ ¬(rate.val ≠ 0 ∧ linkWidth width = true ∧ width.val ≤ s.slotLanes slot) → exec
    (.driveDlActive slot rate width) s = .next (s))
  ∧ (∀ (s : State) (slot : Fin 8), s.dlState slot = 1 → ∃ t, exec (.driveTrainTimeout slot) s = .next t ∧ t.dlState slot = 1 ∧ t.out = s.out ++ [.pin (pinDrivePerst slot)
    0, .pin (pinDrivePerst slot) 1])
  ∧ (∀ (s : State) (slot : Fin 8) (id : DriveId), s.dlState slot = 2 → id.nvme = true → id.v14 = true → id.spaces.any (fun x => x.2.1 == 512 || x.2.1 == 4096) = true → ∃
    t, exec (.driveEnum slot id) s = .next t ∧ t.dlState slot = 3 ∧ Map.get {} slot t.stor.drives = { mps := min id.mps.val 2, vwc := id.vwc, spaces := id.spaces })
  ∧ (∀ (s : State) (slot : Fin 8) (id : DriveId), s.dlState slot = 2 → id.nvme = true → id.v14 = false ∨ id.spaces.any (fun x => x.2.1 == 512 || x.2.1 == 4096) = false → ∃
    t, exec (.driveEnum slot id) s = .next t ∧ t.dlState slot = 4 ∧ t.raised s 774 [.w (slot.val / 4), .w (slot.val % 4), .w 0x6901] = true)
  ∧ (∀ (s : State) (slot : Fin 8) (id : DriveId), s.dlState slot ≠ 2 → exec (.driveEnum slot id) s = .next (s))
  ∧ (∀ (s : State) (slot : Fin 8) (id : DriveId), s.dlState slot = 2 → id.nvme = false → ∃ t, exec (.driveEnum slot id) s = .next t ∧ t.dlState slot = 4 ∧ t.raised s 774
    [.w (slot.val / 4), .w (slot.val % 4), .w 0x6102] = true)
  ∧ (∀ (s : State) (slot : Fin 8), s.dlState slot = 2 → ∃ t, exec (.driveEnumTimeout slot) s = .next t ∧ t.dlState slot = 4 ∧ t.fld F.HX_RP_STAT_COUNT (6 * (slot.val / 4)
    + 1) = (s.fld F.HX_RP_STAT_COUNT (6 * (slot.val / 4) + 1) + 1) % 2 ^ 64)
  ∧ (∀ (s : State) (slot : Fin 8), s.dlState slot = 3 → ∃ t, exec (.driveError slot) s = .next t ∧ t.dlState slot = 5 ∧ t.fld F.HX_RP_STAT_COUNT (6 * (slot.val / 4) + 2) =
    (s.fld F.HX_RP_STAT_COUNT (6 * (slot.val / 4) + 2) + 1) % 2 ^ 64 ∧ t.raised s 774 [.w (slot.val / 4), .w (slot.val % 4), .w 0x6103] = true)
  ∧ (∀ (s : State) (slot : Fin 8), s.dlState slot = 3 → ∃ t, exec (.mmioTimeout slot) s = .next t ∧ t.dlState slot = 5 ∧ t.fld F.HX_RP_STAT_COUNT (6 * (slot.val / 4) + 4)
    = (s.fld F.HX_RP_STAT_COUNT (6 * (slot.val / 4) + 4) + 1) % 2 ^ 64)
  ∧ (∀ (s : State) (slot : Fin 8), s.dlState slot = 3 → ∃ t, exec (.surpriseDown slot) s = .next t ∧ t.dlState slot = 1 ∧ t.fld F.HX_RP_STAT_COUNT (6 * (slot.val / 4) + 3)
    = (s.fld F.HX_RP_STAT_COUNT (6 * (slot.val / 4) + 3) + 1) % 2 ^ 64)
  ∧ (∀ (s : State) (slot : Fin 8), s.dlState slot ≠ 1 → exec (.driveTrainTimeout slot) s = .next (s))
  ∧ (∀ (s : State) (slot : Fin 8), s.dlState slot ≠ 2 → exec (.driveEnumTimeout slot) s = .next (s))
  ∧ (∀ (s : State) (slot : Fin 8), s.dlState slot ≠ 3 → exec (.driveError slot) s = .next (s))
  ∧ (∀ (s : State) (slot : Fin 8), s.dlState slot ≠ 3 → exec (.mmioTimeout slot) s = .next (s))
  ∧ (∀ (s : State) (slot : Fin 8), s.dlState slot ≠ 3 → exec (.surpriseDown slot) s = .next (s))
  ∧ (∀ (s : State) (who : Party) (slot : Fin 8), s.admits who 6 1 = true → s.slotUsed slot = true → s.dlState slot = 4 ∨ s.dlState slot = 5 → s.fld F.HX_RP_SUBLINK_CTRL_EN
    slot = 1 → ∃ t, exec (.driveRelease who slot) s = .next t ∧ t.dlState slot = 1 ∧ t.fld F.HX_RP_SUBLINK_CTRL_EN slot = 1)
  ∧ (∀ (s : State) (slot : Fin 8) (req : DriveReq), s.dlState slot = 3 → req.allowed = true → (req.write && req.len.val == 4 && decide (0xFEE00000 ≤ req.addr.toNat) &&
    decide (req.addr.toNat + 4 ≤ 0xFEE01000)) = false → ∃ t, exec (.driveRequest slot req) s = .next t ∧ t.out = s.out ++ [.driveCpl slot 0] ∧ t.regs = s.regs)
  ∧ (∀ (s : State) (slot : Fin 8) (req : DriveReq), s.dlState slot = 3 → (req.write && req.len.val == 4 && decide (0xFEE00000 ≤ req.addr.toNat) && decide (req.addr.toNat +
    4 ≤ 0xFEE01000)) = true → ∃ t, exec (.driveRequest slot req) s = .next t ∧ .driveCpl slot 0 ∈ t.sent s)
  ∧ (∀ (s : State) (slot : Fin 8) (req : DriveReq), s.dlState slot = 3 → req.allowed = false → (req.write && req.len.val == 4 && decide (0xFEE00000 ≤ req.addr.toNat) &&
    decide (req.addr.toNat + 4 ≤ 0xFEE01000)) = false → req.write = false → ∃ t, exec (.driveRequest slot req) s = .next t ∧ (t.sent s).getLast? = some (.driveCpl slot
    1) ∧ t.fld F.HX_RP_STAT_COUNT (6 * (slot.val / 4)) = (s.fld F.HX_RP_STAT_COUNT (6 * (slot.val / 4)) + 1) % 2 ^ 64)
  ∧ (∀ (s : State) (slot : Fin 8) (req : DriveReq), s.dlState slot = 3 → req.allowed = false → (req.write && req.len.val == 4 && decide (0xFEE00000 ≤ req.addr.toNat) &&
    decide (req.addr.toNat + 4 ≤ 0xFEE01000)) = false → req.write = true → ∃ t, exec (.driveRequest slot req) s = .next t ∧ t.fld F.HX_RP_STAT_COUNT (6 * (slot.val / 4))
    = (s.fld F.HX_RP_STAT_COUNT (6 * (slot.val / 4)) + 1) % 2 ^ 64)
  ∧ (∀ (s : State) (slot : Fin 8) (req : DriveReq), s.dlState slot ≠ 3 → exec (.driveRequest slot req) s = .next (s))

/-- Doorbells move a ring's tail or head, ring commands change its state as the ring states allow, a fetch fills the cache (14_rings_doorbells.md). -/
def Obligations.RingControl : Prop :=
  (∀ (s : State) (who : Party) (ring : Fin 65536) (v : Word) (p : Nat), s.powered = true → s.fenced 6 = false → s.mayTouch who ring = true → (s.ringOwner ring).isSome =
    true → s.ringState ring ≠ 0 ∧ s.ringState ring ≠ 4 → s.ringKind ring = 0 → v.toNat % 65536 < s.ringN ring → (v.toNat % 65536 + (if bit v.toNat 16 then s.ringN ring
    else 0)) % (2 * s.ringN ring) = p → posDiff (s.ringN ring) p (s.ring ring).h ≤ s.ringN ring → posDiff (s.ringN ring) (s.ring ring).t (s.ring ring).h < posDiff
    (s.ringN ring) p (s.ring ring).h → ∃ t, exec (.doorbell who ring v) s = .next t ∧ (t.ring ring).t = p ∧ (t.ring ring).h = (s.ring ring).h)
  ∧ (∀ (s : State) (who : Party) (ring : Fin 65536) (v : Word) (p : Nat), s.powered = true → s.fenced 6 = false → s.mayTouch who ring = true → (s.ringOwner ring).isSome =
    true → s.ringState ring ≠ 0 ∧ s.ringState ring ≠ 4 → s.ringKind ring ≠ 0 → v.toNat % 65536 < s.ringN ring → (v.toNat % 65536 + (if bit v.toNat 16 then s.ringN ring
    else 0)) % (2 * s.ringN ring) = p → posDiff (s.ringN ring) p (s.ring ring).h ≤ posDiff (s.ringN ring) (s.ring ring).t (s.ring ring).h → ∃ t, exec (.doorbell who ring
    v) s = .next t ∧ (t.ring ring).h = p ∧ (t.ring ring).t = (s.ring ring).t)
  ∧ (∀ (s : State) (who : Party) (ring : Fin 65536) (v : Word), s.powered = true → s.fenced 6 = false → s.mayTouch who ring = true → (s.ringOwner ring).isSome = true →
    s.ringState ring = 0 ∨ s.ringState ring = 4 → ∃ t, exec (.doorbell who ring v) s = .next t ∧ t.rings = s.rings ∧ t.fld F.HX_RING_DBERR_DB_BAD ring = min (s.fld
    F.HX_RING_DBERR_DB_BAD ring + 1) (2 ^ 16 - 1))
  ∧ (∀ (s : State) (who : Party) (ring : Fin 65536), s.powered = true → s.fenced 6 = false → s.mayTouch who ring = true → (s.ringOwner ring).isSome = true → s.ringState
    ring = 0 → s.ringValid ring = true → ∃ t, exec (.ringEnable who ring) s = .next t ∧ t.ringState ring = 1 ∧ t.ring ring = {} ∧ t.fld F.HX_RING_CCOUNT_CCOUNT ring = 0
    ∧ t.raised s 780 [.w ring, .w 0, .w 1, .w 0] = true)
  ∧ (∀ (s : State) (who : Party) (ring : Fin 65536), s.powered = true → s.fenced 6 = false → s.mayTouch who ring = true → (s.ringOwner ring).isSome = true → s.ringState
    ring = 0 → s.ringValid ring = false → ∃ t, exec (.ringEnable who ring) s = .next t ∧ t.ringState ring = 0 ∧ t.fld F.HX_RING_STATUS_CAUSE ring = 9 ∧ t.raised s 783
    [.w ring, .w 0x1C] = true)
  ∧ (∀ (s : State) (who : Party) (ring : Fin 65536), s.powered = true → s.fenced 6 = false → s.mayTouch who ring = true → (s.ringOwner ring).isSome = true → s.ringState
    ring = 1 → ∃ t, exec (.ringStop who ring) s = .next t ∧ t.ringState ring = (if s.ringKind ring = 0 then 2 else 3) ∧ (s.ringKind ring = 0 ∨ t.fld
    F.HX_RING_STATUS_CAUSE ring = 1))
  ∧ (∀ (s : State) (ring : Fin 65536), s.ringState ring = 2 → (s.ring ring).work = [] → ∃ t, exec (.ringStopped ring) s = .next t ∧ t.ringState ring = 3 ∧ t.fld
    F.HX_RING_STATUS_CAUSE ring = 1 ∧ t.raised s 780 [.w ring, .w 2, .w 3, .w 1] = true)
  ∧ (∀ (s : State) (who : Party) (ring : Fin 65536), s.powered = true → s.fenced 6 = false → s.mayTouch who ring = true → (s.ringOwner ring).isSome = true → s.ringState
    ring = 3 → s.ringMaster ring = true → ∃ t, exec (.ringResume who ring) s = .next t ∧ t.ringState ring = 1 ∧ (t.ring ring).cache = [] ∧ (t.ring ring).work = [] ∧
    (t.ring ring).f = (s.ring ring).h ∧ (t.ring ring).d = (s.ring ring).h ∧ t.raised s 780 [.w ring, .w 3, .w 1, .w 0] = true)
  ∧ (∀ (s : State) (who : Party) (ring : Fin 65536), s.powered = true → s.fenced 6 = false → s.mayTouch who ring = true → (s.ringOwner ring).isSome = true → s.ringState
    ring = 3 ∨ s.ringState ring = 4 → ∃ t, exec (.ringReset who ring) s = .next t ∧ t.ringState ring = 0 ∧ t.fld F.HX_RING_STATUS_CAUSE ring = 0 ∧ (t.ring ring).cache =
    [] ∧ (t.ring ring).work = [])
  ∧ (∀ (s : State) (who : Party) (ring : Fin 65536), s.powered = true → s.fenced 6 = false → s.mayTouch who ring = true → (s.ringOwner ring).isSome = true → s.ringKind
    ring = 0 → s.ringState ring = 1 ∨ s.ringState ring = 2 ∨ s.ringState ring = 3 → ∃ t, exec (.ringInvalidate who ring) s = .next t ∧ (t.ring ring).cache = [] ∧ (t.ring
    ring).f = (s.ring ring).d ∧ t.fld F.HX_RING_DISP_D ring = posWord (s.ringN ring) (s.ring ring).d % 2 ^ 17 ∧ t.flag F.HX_RING_DISP_VALID ring = true)
  ∧ (∀ (s : State) (ring : Fin 65536) (e : List Byte), s.ownerOf ring < 2056 → (s.ring ring).asked ≠ 0 → s.ringState ring = 1 ∨ s.ringState ring = 2 → (s.ring ring).cache
    = [] → (s.ring ring).f ≠ (s.ring ring).t → (s.ring ring).ended.contains (s.ring ring).f = false → leAt e 3 1 / 128 = ownBit (s.ringN ring) (s.ring ring).f → ∃ t,
    exec (.descFetch ring true [e]) s = .next t ∧ (t.ring ring).cache = [{ pos := (s.ring ring).f, bytes := e }] ∧ (t.ring ring).f = posNext (s.ringN ring) (s.ring
    ring).f)
  ∧ (∀ (s : State) (ring : Fin 65536) (es : List (List Byte)), (s.ring ring).asked ≠ 0 → s.ringState ring = 1 ∨ s.ringState ring = 2 → ∃ t, exec (.descFetch ring false es)
    s = .next t ∧ t.ringState ring = 4 ∧ t.fld F.HX_RING_STATUS_CAUSE ring = 6)
  ∧ (∀ (s : State) (ring : Fin 65536) (e : List Byte), s.ownerOf ring < 2056 → (s.ring ring).asked ≠ 0 → s.ringState ring = 1 ∨ s.ringState ring = 2 → (s.ring ring).f ≠
    (s.ring ring).t → leAt e 3 1 / 128 ≠ ownBit (s.ringN ring) (s.ring ring).f → ∃ t, exec (.descFetch ring true [e]) s = .next t ∧ (t.ring ring).stuck = true ∧ (t.ring
    ring).f = (s.ring ring).f ∧ (t.ring ring).cache = (s.ring ring).cache ∧ t.fld F.HX_RING_DBERR_DB_EARLY ring = min (s.fld F.HX_RING_DBERR_DB_EARLY ring + 1) (2 ^
    F.HX_RING_DBERR_DB_EARLY.width - 1))
  ∧ (∀ (s : State) (ring : Fin 65536) (ok : Bool) (es : List (List Byte)), (s.ring ring).asked ≠ 0 → s.ringState ring ≠ 1 → s.ringState ring ≠ 2 → ∃ t, exec (.descFetch
    ring ok es) s = .next t ∧ t.ringState ring = s.ringState ring ∧ (t.ring ring).cache = (s.ring ring).cache ∧ (t.ring ring).asked = 0)
  ∧ (∀ (s : State) (ring : Fin 65536) (ok : Bool) (es : List (List Byte)), (s.ring ring).asked = 0 → exec (.descFetch ring ok es) s = .next (s))
  ∧ (∀ (s : State) (ring : Fin 65536), s.ringState ring ≠ 2 ∨ (s.ring ring).work ≠ [] → exec (.ringStopped ring) s = .next (s))
  ∧ (∀ (s : State) (who : Party) (ring : Fin 65536), s.powered = true → s.fenced 6 = false → s.mayTouch who ring = true → (s.ringOwner ring).isSome = true → s.ringState
    ring ≠ 0 → ∃ t, exec (.ringEnable who ring) s = .next t ∧ t.ringState ring = s.ringState ring ∧ t.rings = s.rings ∧ t.raised s 783 [.w ring, .w 0x1C] = true)
  ∧ (∀ (s : State) (who : Party) (ring : Fin 65536), s.powered = true → s.fenced 6 = true → ∃ t, exec (.ringEnable who ring) s = .next t ∧ t.rings = s.rings ∧ t.ringState
    ring = s.ringState ring ∧ t.fld F.AO_FLT_REGION_FENCED 6 = min (s.fld F.AO_FLT_REGION_FENCED 6 + 1) (2 ^ F.AO_FLT_REGION_FENCED.width - 1))
  ∧ (∀ (s : State) (who : Party) (ring : Fin 65536), s.powered = false ∨ s.fenced 6 = false ∧ s.mayTouch who ring = true ∧ (s.ringOwner ring).isSome = false → exec
    (.ringEnable who ring) s = .next (s))
  ∧ (∀ (s : State) (who : Party) (ring : Fin 65536), s.powered = true → s.fenced 6 = false → s.mayTouch who ring = true → (s.ringOwner ring).isSome = true → s.ringState
    ring ≠ 1 → ∃ t, exec (.ringStop who ring) s = .next t ∧ t.ringState ring = s.ringState ring ∧ t.rings = s.rings ∧ t.raised s 783 [.w ring, .w 0x1C] = true)
  ∧ (∀ (s : State) (who : Party) (ring : Fin 65536), s.powered = true → s.fenced 6 = true → ∃ t, exec (.ringStop who ring) s = .next t ∧ t.rings = s.rings ∧ t.ringState
    ring = s.ringState ring ∧ t.fld F.AO_FLT_REGION_FENCED 6 = min (s.fld F.AO_FLT_REGION_FENCED 6 + 1) (2 ^ F.AO_FLT_REGION_FENCED.width - 1))
  ∧ (∀ (s : State) (who : Party) (ring : Fin 65536), s.powered = false ∨ s.fenced 6 = false ∧ s.mayTouch who ring = true ∧ (s.ringOwner ring).isSome = false → exec
    (.ringStop who ring) s = .next (s))
  ∧ (∀ (s : State) (who : Party) (ring : Fin 65536), s.powered = true → s.fenced 6 = false → s.mayTouch who ring = true → (s.ringOwner ring).isSome = true → s.ringState
    ring ≠ 3 ∨ s.ringMaster ring = false → ∃ t, exec (.ringResume who ring) s = .next t ∧ t.ringState ring = s.ringState ring ∧ t.rings = s.rings ∧ t.raised s 783 [.w
    ring, .w 0x1C] = true)
  ∧ (∀ (s : State) (who : Party) (ring : Fin 65536), s.powered = true → s.fenced 6 = true → ∃ t, exec (.ringResume who ring) s = .next t ∧ t.rings = s.rings ∧ t.ringState
    ring = s.ringState ring ∧ t.fld F.AO_FLT_REGION_FENCED 6 = min (s.fld F.AO_FLT_REGION_FENCED 6 + 1) (2 ^ F.AO_FLT_REGION_FENCED.width - 1))
  ∧ (∀ (s : State) (who : Party) (ring : Fin 65536), s.powered = false ∨ s.fenced 6 = false ∧ s.mayTouch who ring = true ∧ (s.ringOwner ring).isSome = false → exec
    (.ringResume who ring) s = .next (s))
  ∧ (∀ (s : State) (who : Party) (ring : Fin 65536), s.powered = true → s.fenced 6 = false → s.mayTouch who ring = true → (s.ringOwner ring).isSome = true → ¬(s.ringState
    ring = 3 ∨ s.ringState ring = 4) → ∃ t, exec (.ringReset who ring) s = .next t ∧ t.ringState ring = s.ringState ring ∧ t.rings = s.rings ∧ t.raised s 783 [.w ring,
    .w 0x1C] = true)
  ∧ (∀ (s : State) (who : Party) (ring : Fin 65536), s.powered = true → s.fenced 6 = true → ∃ t, exec (.ringReset who ring) s = .next t ∧ t.rings = s.rings ∧ t.ringState
    ring = s.ringState ring ∧ t.fld F.AO_FLT_REGION_FENCED 6 = min (s.fld F.AO_FLT_REGION_FENCED 6 + 1) (2 ^ F.AO_FLT_REGION_FENCED.width - 1))
  ∧ (∀ (s : State) (who : Party) (ring : Fin 65536), s.powered = false ∨ s.fenced 6 = false ∧ s.mayTouch who ring = true ∧ (s.ringOwner ring).isSome = false → exec
    (.ringReset who ring) s = .next (s))
  ∧ (∀ (s : State) (who : Party) (ring : Fin 65536), s.powered = true → s.fenced 6 = false → s.mayTouch who ring = true → (s.ringOwner ring).isSome = true → s.ringKind
    ring ≠ 0 ∨ ¬(s.ringState ring = 1 ∨ s.ringState ring = 2 ∨ s.ringState ring = 3) → ∃ t, exec (.ringInvalidate who ring) s = .next t ∧ t.ringState ring = s.ringState
    ring ∧ t.rings = s.rings ∧ t.raised s 783 [.w ring, .w 0x1C] = true)
  ∧ (∀ (s : State) (who : Party) (ring : Fin 65536), s.powered = true → s.fenced 6 = true → ∃ t, exec (.ringInvalidate who ring) s = .next t ∧ t.rings = s.rings ∧
    t.ringState ring = s.ringState ring ∧ t.fld F.AO_FLT_REGION_FENCED 6 = min (s.fld F.AO_FLT_REGION_FENCED 6 + 1) (2 ^ F.AO_FLT_REGION_FENCED.width - 1))
  ∧ (∀ (s : State) (who : Party) (ring : Fin 65536), s.powered = false ∨ s.fenced 6 = false ∧ s.mayTouch who ring = true ∧ (s.ringOwner ring).isSome = false → exec
    (.ringInvalidate who ring) s = .next (s))
  ∧ (∀ (s : State) (who : Party) (ring : Fin 65536) (v : Word), s.powered = true → s.fenced 6 = false → s.mayTouch who ring = true → (s.ringOwner ring).isSome = true →
    s.ringState ring ≠ 0 ∧ s.ringState ring ≠ 4 → s.ringN ring ≤ v.toNat % 65536 ∨ s.ringKind ring = 0 ∧ s.ringN ring < posDiff (s.ringN ring) ((v.toNat % 65536 + (if
    bit v.toNat 16 then s.ringN ring else 0)) % (2 * s.ringN ring)) (s.ring ring).h ∨ s.ringKind ring ≠ 0 ∧ posDiff (s.ringN ring) (s.ring ring).t (s.ring ring).h <
    posDiff (s.ringN ring) ((v.toNat % 65536 + (if bit v.toNat 16 then s.ringN ring else 0)) % (2 * s.ringN ring)) (s.ring ring).h → ∃ t, exec (.doorbell who ring v) s =
    .next t ∧ t.rings = s.rings ∧ t.fld F.HX_RING_DBERR_DB_BAD ring = min (s.fld F.HX_RING_DBERR_DB_BAD ring + 1) (2 ^ 16 - 1))
  ∧ (∀ (s : State) (who : Party) (ring : Fin 65536) (v : Word), s.powered = true → s.fenced 6 = true → ∃ t, exec (.doorbell who ring v) s = .next t ∧ t.rings = s.rings ∧
    t.fld F.AO_FLT_REGION_FENCED 6 = min (s.fld F.AO_FLT_REGION_FENCED 6 + 1) (2 ^ F.AO_FLT_REGION_FENCED.width - 1))
  ∧ (∀ (s : State) (who : Party) (ring : Fin 65536) (v : Word), s.powered = true → s.fenced 6 = false → s.mayTouch who ring = false → ∃ t, exec (.doorbell who ring v) s =
    .next t ∧ t.rings = s.rings ∧ t.ringState ring = s.ringState ring)
  ∧ (∀ (s : State) (who : Party) (ring : Fin 65536) (v : Word), s.powered = false ∨ s.fenced 6 = false ∧ s.mayTouch who ring = true ∧ (s.ringOwner ring).isSome = false →
    exec (.doorbell who ring v) s = .next (s))

/-- Descriptors end with their results, head records and event records reach memory, frames reach receive rings (14_rings_doorbells.md). -/
def Obligations.DescriptorsRecordsAndDelivery : Prop :=
  (∀ (s : State) (ring : Fin 65536) (d : Desc), (s.ring ring).work.find? (fun d => d.dtype == 0 || !s.mayCarry ring d.dtype) = some d → s.mayCarry ring d.dtype = true →
    ∃ t, exec (.nopDesc ring) s = .next t ∧ t.ended s ring d.pos 0 0)
  ∧ (∀ (s : State) (ring : Fin 65536) (d : Desc), (s.ring ring).work.find? (fun d => d.dtype == 1) = some d → s.mayCarry ring 1 = true → d.zero 4 56 = true → leAt d.bytes
    0 2 = 0 → (s.ring ring).h = d.pos → (s.ring ring).unpub = 0 → s.ringState ring = 1 ∨ s.ringState ring = 2 → s.rings.find? (fun e => (s.waitMet e.2).isSome &&
    (s.ringState e.1 == ringActive || s.ringState e.1 == ringStopping)) = none → ∃ t, exec (.fence ring) s = .next t ∧ t.ended s ring d.pos 0 0)
  ∧ (∀ (s : State) (ring : Fin 65536) (d : Desc), (s.ring ring).work.find? (fun d => d.dtype == 1) = some d → s.mayCarry ring 1 = true → d.zero 4 56 = true → leAt d.bytes
    0 2 = 0 → (s.ring ring).h ≠ d.pos → s.rings.find? (fun e => (s.waitMet e.2).isSome && (s.ringState e.1 == ringActive || s.ringState e.1 == ringStopping)) = none → ∃
    t, exec (.fence ring) s = .next t ∧ (t.ring ring).fence = some d.pos)
  ∧ (∀ (s : State) (ring : Fin 65536) (d : Desc), (s.ring ring).work.find? (fun d => d.dtype == 2) = some d → s.mayCarry ring 2 = true → leAt d.bytes 0 2 = 0 → leAt
    d.bytes 6 2 = 0 → d.zero 16 56 = true → s.ownerOf ring = s.mgr ∨ s.ringOwner (leAt d.bytes 4 2) = s.ringOwner ring → (s.ring ring).fence = none → s.ringState (leAt
    d.bytes 4 2) = 1 ∨ s.ringState (leAt d.bytes 4 2) = 2 ∨ s.ringState (leAt d.bytes 4 2) = 3 → 2 ^ 31 ≤ ((s.ring (leAt d.bytes 4 2)).pubCount + 2 ^ 32 - leAt d.bytes 8
    4) % 2 ^ 32 → ∃ t, exec (.string ring) s = .next t ∧ (t.ring ring).waiting = some (d.pos, leAt d.bytes 4 2, leAt d.bytes 8 4, leAt d.bytes 12 4))
  ∧ (∀ (s : State) (ring : Fin 65536) (p target value limit : Nat), (s.ring ring).waiting = some (p, target, value, limit) → limit ≠ 0 → s.ringState ring = 1 → s.waitMet
    (s.ring ring) = none → ∃ t, exec (.stringTimeout ring) s = .next t ∧ t.ended s ring p 4 0 ∧ t.ringState ring = 3 ∧ t.fld F.HX_RING_STATUS_CAUSE ring = 3)
  ∧ (∀ (s : State) (ring : Fin 65536) (d : Desc), s.nextDesc ring = some d → d.dtype = 3 → s.mayCarry ring 3 = true → leAt d.bytes 0 2 = 0 → d.zero 4 8 = true → d.zero 16
    56 = true → leAt d.bytes 8 8 % 64 = 0 → ∃ t, exec (.rxBuf ring) s = .next t ∧ d ∈ (t.ring ring).work ∧ (t.ring ring).d = posNext (s.ringN ring) d.pos)
  ∧ (∀ (s : State) (ring : Fin 65536) (ok : Bool) (data : List Byte) (d : Desc), s.fenced 5 = false → (s.ring ring).work.find? (fun d => d.dtype == 0x10) = some d →
    s.mayCarry ring 0x10 = true → bits (leAt d.bytes 0 4) 14 2 = 0 → bits (leAt d.bytes 0 4) 24 7 = 0 → bits (leAt d.bytes 4 4) 14 18 = 0 → d.zero 16 56 = true → bits
    (leAt d.bytes 0 4) 0 10 < 541 → bit (s.fld F.HX_FN_REC_CLASS_MASK (s.ownerOf ring)) (bits (leAt d.bytes 0 4) 10 4) = true → bits (leAt d.bytes 4 4) 0 14 < 14 ∨ 10240
    < bits (leAt d.bytes 4 4) 0 14 → ∃ t, exec (.send ring ok data) s = .next t ∧ t.ended s ring d.pos 6 0)
  ∧ (∀ (s : State) (ring : Fin 65536) (data : List Byte) (d : Desc), s.fenced 5 = false → (s.ring ring).work.find? (fun d => d.dtype == 0x10) = some d → s.mayCarry ring
    0x10 = true → bits (leAt d.bytes 0 4) 14 2 = 0 → bits (leAt d.bytes 0 4) 24 7 = 0 → bits (leAt d.bytes 4 4) 14 18 = 0 → d.zero 16 56 = true → bits (leAt d.bytes 0 4)
    0 10 < 541 → bit (s.fld F.HX_FN_REC_CLASS_MASK (s.ownerOf ring)) (bits (leAt d.bytes 0 4) 10 4) = true → 14 ≤ bits (leAt d.bytes 4 4) 0 14 → bits (leAt d.bytes 4 4)
    0 14 ≤ 10240 → s.ownerOf ring < 2056 → data.length = bits (leAt d.bytes 4 4) 0 14 → ∃ t, exec (.send ring true data) s = .next t ∧ t.ended s ring d.pos 0 (b2n
    (s.sendFrame (s.ownerOf ring) (bits (leAt d.bytes 0 4) 0 10) (bits (leAt d.bytes 0 4) 10 4) data).2))
  ∧ (∀ (s : State) (ring : Fin 65536) (pos : Fin 131072) (result : Byte) (info : Word), (s.ring ring).work.any (fun d => d.pos == pos.val) = true → s.ringState ring = 1 ∨
    s.ringState ring = 2 → ∃ t, exec (.descComplete ring pos result info) s = .next t ∧ t.ended s ring pos result.toNat info.toNat)
  ∧ (∀ (s : State) (ring : Fin 65536), (s.ring ring).unpub ≠ 0 → s.ringKind ring = 0 → s.ownerOf ring < 2056 → s.masters (s.ownerOf ring) = true → s.fld
    F.HX_RING_HEAD_ADDR_HEAD_ADDR ring % 8 = 0 → ∃ t, exec (.headTimeExpiry ring) s = .next t ∧ .hostWrite (s.ownerOf ring) (s.fld F.HX_RING_HEAD_ADDR_HEAD_ADDR ring)
    (s.headBytes ring) ∈ t.sent s)
  ∧ (∀ (s : State) (ring : Fin 65536) (g : Staged) (rest : List Staged), stagedFor ring s.staged = some (g, rest) → g.irq = none → s.takesRecords ring = true → s.ringFull
    ring = false → s.fld F.HX_RING_CFG_POLICY ring ≠ 2 → s.ownerOf ring < 2056 → s.masters (s.ownerOf ring) = true → s.fld F.HX_RING_BASE_BASE ring % 64 = 0 → ∃ t, exec
    (.eventRecordPlace ring) s = .next t ∧ t.staged = rest ∧ (t.ring ring).t = posNext (s.ringN ring) (s.ring ring).t ∧ .hostWrite (s.ownerOf ring) (s.entryAddr ring
    (s.ring ring).t) (leBytes 4 (ownBit (s.ringN ring) (s.ring ring).t * 2 ^ 31 + g.rtype * 65536 + g.low % 65536)) ∈ t.sent s)
  ∧ (∀ (s : State) (ring : Fin 65536) (g : Staged) (rest : List Staged), stagedFor ring s.staged = some (g, rest) → g.irq = none → s.takesRecords ring = false → ∃ t, exec
    (.eventRecordPlace ring) s = .next t ∧ t.staged = rest ∧ t.fld F.HX_RING_DISCARD_COUNT (g.rtype % 256 - 0x20) = (s.fld F.HX_RING_DISCARD_COUNT (g.rtype % 256 - 0x20)
    + 1) % 2 ^ 64)
  ∧ (∀ (s : State) (ring : Fin 65536) (g : Staged), s.fld F.HX_RING_CFG_POLICY ring = 0 → s.ringLive ring = true → s.ringKind ring = 1 → s.ringFull ring = true →
    s.staged.filter (fun g => g.ring == ring.val) = [g] → ∃ t, exec (.holdLimitExpiry ring) s = .next t ∧ (t.ring ring).holdOver = true ∧ t.fld F.HX_RING_LOST_LOST ring
    = min (s.fld F.HX_RING_LOST_LOST ring + 1) (2 ^ 32 - 1))
  ∧ (∀ (s : State) (ring : Fin 65536) (d : Desc), (s.ring ring).work.find? (fun d => d.dtype == 0 || !s.mayCarry ring d.dtype) = some d → s.mayCarry ring d.dtype = false →
    ∃ t, exec (.nopDesc ring) s = .next t ∧ t.ended s ring d.pos 2 0)
  ∧ (∀ (s : State) (ring : Fin 65536) (d : Desc), (s.ring ring).work.find? (fun d => d.dtype == 1) = some d → s.mayCarry ring 1 = false ∨ d.zero 4 56 = false ∨ leAt
    d.bytes 0 2 ≠ 0 → ∃ t, exec (.fence ring) s = .next t ∧ t.ended s ring d.pos 2 0)
  ∧ (∀ (s : State) (ring : Fin 65536) (d : Desc), (s.ring ring).work.find? (fun d => d.dtype == 2) = some d → s.mayCarry ring 2 = false ∨ leAt d.bytes 0 2 ≠ 0 ∨ leAt
    d.bytes 6 2 ≠ 0 ∨ d.zero 16 56 = false → ∃ t, exec (.string ring) s = .next t ∧ t.ended s ring d.pos 2 0)
  ∧ (∀ (s : State) (ring : Fin 65536) (d : Desc), (s.ring ring).work.find? (fun d => d.dtype == 2) = some d → s.mayCarry ring 2 = true → leAt d.bytes 0 2 = 0 → leAt
    d.bytes 6 2 = 0 → d.zero 16 56 = true → ¬(s.ownerOf ring = s.mgr ∨ s.ringOwner (leAt d.bytes 4 2) = s.ringOwner ring) → ∃ t, exec (.string ring) s = .next t ∧
    t.ended s ring d.pos 1 0)
  ∧ (∀ (s : State) (ring : Fin 65536) (d : Desc), (s.ring ring).work.find? (fun d => d.dtype == 2) = some d → s.mayCarry ring 2 = true → leAt d.bytes 0 2 = 0 → leAt
    d.bytes 6 2 = 0 → d.zero 16 56 = true → s.ownerOf ring = s.mgr ∨ s.ringOwner (leAt d.bytes 4 2) = s.ringOwner ring → (s.ring ring).fence = none → 2 ^ 31 ≤ ((s.ring
    (leAt d.bytes 4 2)).pubCount + 2 ^ 32 - leAt d.bytes 8 4) % 2 ^ 32 → s.ringState (leAt d.bytes 4 2) = 0 ∨ 4 ≤ s.ringState (leAt d.bytes 4 2) → ∃ t, exec (.string
    ring) s = .next t ∧ t.ended s ring d.pos 5 0 ∧ t.ringState ring = (if s.ringState ring = 1 then 3 else s.ringState ring))
  ∧ (∀ (s : State) (ring : Fin 65536) (d : Desc), (s.ring ring).work.find? (fun d => d.dtype == 2) = some d → s.mayCarry ring 2 = true → leAt d.bytes 0 2 = 0 → leAt
    d.bytes 6 2 = 0 → d.zero 16 56 = true → s.ownerOf ring = s.mgr ∨ s.ringOwner (leAt d.bytes 4 2) = s.ringOwner ring → (s.ring ring).fence = none → ((s.ring (leAt
    d.bytes 4 2)).pubCount + 2 ^ 32 - leAt d.bytes 8 4) % 2 ^ 32 < 2 ^ 31 → s.ringState ring = 1 ∨ s.ringState ring = 2 → s.rings.find? (fun e => (s.waitMet e.2).isSome
    && (s.ringState e.1 == ringActive || s.ringState e.1 == ringStopping)) = none → ∃ t, exec (.string ring) s = .next t ∧ t.ended s ring d.pos 0 0)
  ∧ (∀ (s : State) (ring : Fin 65536), ((s.ring ring).waiting).all (fun w => w.2.2.2 == 0) = true ∨ s.ringState ring ≠ 1 ∧ s.ringState ring ≠ 2 → exec (.stringTimeout
    ring) s = .next (s))
  ∧ (∀ (s : State) (ring : Fin 65536) (d : Desc), s.nextDesc ring = some d → d.dtype = 3 → s.mayCarry ring 3 = false ∨ leAt d.bytes 0 2 ≠ 0 ∨ d.zero 4 8 = false ∨ d.zero
    16 56 = false ∨ leAt d.bytes 8 8 % 64 ≠ 0 → ∃ t, exec (.rxBuf ring) s = .next t ∧ t.ended s ring d.pos 2 0)
  ∧ (∀ (s : State) (ring : Fin 65536), (s.nextDesc ring).any (fun d => d.dtype == 3) = false → exec (.rxBuf ring) s = .next (s))
  ∧ (∀ (s : State) (ring : Fin 65536) (ok : Bool) (data : List Byte) (d : Desc), s.fenced 5 = false → (s.ring ring).work.find? (fun d => d.dtype == 0x10) = some d →
    s.mayCarry ring 0x10 = false ∨ bits (leAt d.bytes 0 4) 14 2 ≠ 0 ∨ bits (leAt d.bytes 0 4) 24 7 ≠ 0 ∨ bits (leAt d.bytes 4 4) 14 18 ≠ 0 ∨ d.zero 16 56 = false ∨ 541 ≤
    bits (leAt d.bytes 0 4) 0 10 → ∃ t, exec (.send ring ok data) s = .next t ∧ t.ended s ring d.pos 2 0)
  ∧ (∀ (s : State) (ring : Fin 65536) (ok : Bool) (data : List Byte) (d : Desc), s.fenced 5 = false → (s.ring ring).work.find? (fun d => d.dtype == 0x10) = some d →
    s.mayCarry ring 0x10 = true → bits (leAt d.bytes 0 4) 14 2 = 0 → bits (leAt d.bytes 0 4) 24 7 = 0 → bits (leAt d.bytes 4 4) 14 18 = 0 → d.zero 16 56 = true → bits
    (leAt d.bytes 0 4) 0 10 < 541 → bit (s.fld F.HX_FN_REC_CLASS_MASK (s.ownerOf ring)) (bits (leAt d.bytes 0 4) 10 4) = false → ∃ t, exec (.send ring ok data) s = .next
    t ∧ t.ended s ring d.pos 1 0)
  ∧ (∀ (s : State) (ring : Fin 65536) (ok : Bool) (data : List Byte) (d : Desc), s.fenced 5 = false → (s.ring ring).work.find? (fun d => d.dtype == 0x10) = some d →
    s.mayCarry ring 0x10 = true → bits (leAt d.bytes 0 4) 14 2 = 0 → bits (leAt d.bytes 0 4) 24 7 = 0 → bits (leAt d.bytes 4 4) 14 18 = 0 → d.zero 16 56 = true → bits
    (leAt d.bytes 0 4) 0 10 < 541 → bit (s.fld F.HX_FN_REC_CLASS_MASK (s.ownerOf ring)) (bits (leAt d.bytes 0 4) 10 4) = true → 14 ≤ bits (leAt d.bytes 4 4) 0 14 → bits
    (leAt d.bytes 4 4) 0 14 ≤ 10240 → s.sourceBytes (s.ownerOf ring) (leAt d.bytes 8 8) (bits (leAt d.bytes 4 4) 0 14) ok data = none → ∃ t, exec (.send ring ok data) s
    = .next t ∧ t.ended s ring d.pos 3 0)
  ∧ (∀ (s : State) (ring : Fin 65536) (ok : Bool) (data : List Byte), s.fenced 5 = true → exec (.send ring ok data) s = .next (s))
  ∧ (∀ (s : State) (ring : Fin 65536) (pos : Fin 131072) (result : Byte) (info : Word), (s.ring ring).work.any (fun d => d.pos == pos.val) = false ∨ s.ringState ring ≠ 1 ∧
    s.ringState ring ≠ 2 → exec (.descComplete ring pos result info) s = .next (s))
  ∧ (∀ (s : State) (ring : Fin 65536), (s.ring ring).unpub = 0 → exec (.headTimeExpiry ring) s = .next (s))
  ∧ (∀ (s : State) (ring : Fin 65536), (s.ring ring).unpub ≠ 0 → s.ringKind ring ≠ 0 → ∃ t, exec (.headTimeExpiry ring) s = .next t ∧ (t.ring ring).unpub = 0)
  ∧ (∀ (s : State) (ring : Fin 65536) (g : Staged) (rest : List Staged), stagedFor ring s.staged = some (g, rest) → g.irq = none → s.takesRecords ring = true → s.ringFull
    ring = true → s.fld F.HX_RING_CFG_POLICY ring ≠ 0 ∨ (s.ring ring).holdOver = true → ∃ t, exec (.eventRecordPlace ring) s = .next t ∧ t.fld F.HX_RING_LOST_LOST ring =
    min (s.fld F.HX_RING_LOST_LOST ring + 1) (2 ^ 32 - 1) ∧ (t.ring ring).t = (s.ring ring).t)
  ∧ (∀ (s : State) (ring : Fin 65536) (g : Staged) (rest : List Staged), stagedFor ring s.staged = some (g, rest) → g.irq = none → s.takesRecords ring = true → s.ringFull
    ring = true → s.fld F.HX_RING_CFG_POLICY ring = 0 → (s.ring ring).holdOver = false → exec (.eventRecordPlace ring) s = .next (s))
  ∧ (∀ (s : State) (ring : Fin 65536), stagedFor ring s.staged = none → exec (.eventRecordPlace ring) s = .next (s))
  ∧ (∀ (s : State) (ring : Fin 65536), s.fld F.HX_RING_CFG_POLICY ring ≠ 0 ∨ s.ringLive ring = false ∨ s.ringKind ring = 1 ∧ s.ringFull ring = false → exec
    (.holdLimitExpiry ring) s = .next (s))
  ∧ (∀ (s : State) (port : Fin 24) (g : RxItem), 16 ≤ port.val → s.fenced 7 = false → s.rxHead (512 + port.val) = some g → s.ringLive (s.rxRing (512 + port.val) g) = false
    → ∃ t, exec (.rxFrameDeliver port) s = .next t ∧ Map.get [] (512 + port.val) t.fx.rx = (Map.get [] (512 + port.val) s.fx.rx).tail ∧ t.fld F.HX_RING_DISCARD_COUNT 3 =
    (s.fld F.HX_RING_DISCARD_COUNT 3 + 1) % 2 ^ 64)
  ∧ (∀ (s : State) (port : Fin 24) (g : RxItem), port.val < 16 → s.served 0 = true → s.fenced 6 = false → s.rxHead (512 + port.val) = some g → s.isRma g.bytes = false →
    s.ringLive (s.rxRing (512 + port.val) g) = false → ∃ t, exec (.rxFrameDeliver port) s = .next t ∧ Map.get [] (512 + port.val) t.fx.rx = (Map.get [] (512 + port.val)
    s.fx.rx).tail ∧ t.fld F.HX_RING_DISCARD_COUNT 3 = (s.fld F.HX_RING_DISCARD_COUNT 3 + 1) % 2 ^ 64)
  ∧ (∀ (s : State) (port : Fin 24), s.rxHead (512 + port.val) = none → exec (.rxFrameDeliver port) s = .next (s))
  ∧ (∀ (s : State) (port : Fin 24) (g : RxItem) (r fi : Nat), port.val < 16 → s.served 0 = true → s.fenced 6 = false → s.rxHead (512 + port.val) = some g → s.isRma g.bytes
    = false → s.rxRing (512 + port.val) g = r → s.ringLive r = true → s.ringKind r = 2 → s.fld F.HX_RING_CFG_POLICY r ≠ 2 → s.ringOwner r = some fi → fi < 2056 ∧ s.fld
    F.HX_FN_REC_HVP fi = port.val → g.bytes.length ≤ 15 * s.bufSize r → s.rxFull r g = false → ∃ t, exec (.rxFrameDeliver port) s = .next t ∧ Map.get [] (512 + port.val)
    t.fx.rx = (Map.get [] (512 + port.val) s.fx.rx).tail ∧ (t.ring r).t = posNext (s.ringN r) (s.ring r).t)

/-- Sequencers take descriptors, run microwords, trap, check and drain as their states allow; patch loads go through VERIFY, QUIESCE and WRITE (15_queue_sequencers.md). The signature of a staged image is checked by primitives that stand as constants without a body (log entry 5). -/
def Obligations.SequencersAndMicrocode : Prop :=
  (∀ (s : State) (ring : Fin 65536) (d : Desc) (cls n k : Nat), s.nextDesc ring = some d → dtypeClass d.dtype = some cls → s.mayCarry ring d.dtype = true → s.psHolds
    ring cls = false → s.sqPick cls = some (n, k) → ∃ t, exec (.descDispatch ring) s = .next t ∧ (t.ctx n k).job = some (ring.val, d.pos) ∧ t.sqState n = 3 ∧ t.sq.next =
    (n + 1) % 16 ∧ d ∈ (t.ring ring).work)
  ∧ (∀ (s : State) (ring : Fin 65536) (d : Desc) (cls : Nat), s.nextDesc ring = some d → dtypeClass d.dtype = some cls → s.psHolds ring cls = true ∨ s.sqPick cls = none →
    s.mayCarry ring d.dtype = true → exec (.descDispatch ring) s = .next (s))
  ∧ (∀ (s : State) (ring : Fin 65536), (s.nextDesc ring).all (fun d => (dtypeClass d.dtype).isNone) = true → exec (.descDispatch ring) s = .next (s))
  ∧ (∀ (s : State) (sq ctx : Fin 16) (o : MicroStep) (f : Bool × Nat) (w : Nat), s.sqState sq = 1 ∧ ctx.val = 0 ∨ (s.sqState sq = 3 ∨ s.sqState sq = 4) ∧ s.runs sq ctx =
    true → s.faultsDue = [] → s.request = 0 → o.ecc = false → s.fetchAt (s.ctx sq ctx).nspace (s.ctx sq ctx).upc = f → Nat.xor (s.storeWord f.1 f.2) o.readErr.toNat = w
    → paritySyndrome w = 0 → o.fault = none → bit w 100 = false → o.trapReturn = false → (s.ctx sq ctx).nextIrq = none ∨ bit w 101 = false ∨ (s.ctx sq ctx).trap.isSome =
    true → ∃ t, exec (.microword sq ctx o) s = .next t ∧ t.ctx sq ctx =
    { s.ctx sq ctx with upc := bits w 113 15 - bits w 113 15 % 2 ^ bits w 108 2 + o.cond.val % 2 ^ bits w 108 2, nspace := bit w 112, flags := o.flags.val, regs := (o.scratch.map (·.toNat)).take 8, waiting := o.waits })
  ∧ (∀ (s : State) (sq ctx : Fin 16) (o : MicroStep) (f : Bool × Nat) (w : Nat) (v : SqSaved), s.sqState sq = 1 ∧ ctx.val = 0 ∨ (s.sqState sq = 3 ∨ s.sqState sq = 4) ∧
    s.runs sq ctx = true → s.faultsDue = [] → s.request = 0 → o.ecc = false → s.fetchAt (s.ctx sq ctx).nspace (s.ctx sq ctx).upc = f → Nat.xor (s.storeWord f.1 f.2)
    o.readErr.toNat = w → paritySyndrome w = 0 → o.fault = none → bit w 100 = false → o.trapReturn = true → (s.ctx sq ctx).trap = some v → (s.ctx sq ctx).nextIrq = none
    ∨ bit w 101 = false → ∃ t, exec (.microword sq ctx o) s = .next t ∧ t.ctx sq ctx =
    { s.ctx sq ctx with upc := v.upc, nspace := v.nspace, flags := v.flags, regs := v.regs, trap := none, waiting := o.waits })
  ∧ (∀ (s : State) (sq ctx : Fin 16) (o : MicroStep) (f : Bool × Nat) (w : Nat) (c : TrapFault), s.sqState sq = 1 ∧ ctx.val = 0 ∨ (s.sqState sq = 3 ∨ s.sqState sq = 4) ∧
    s.runs sq ctx = true → s.faultsDue = [] → s.request = 0 → o.ecc = false → s.fetchAt (s.ctx sq ctx).nspace (s.ctx sq ctx).upc = f → Nat.xor (s.storeWord f.1 f.2)
    o.readErr.toNat = w → paritySyndrome w = 0 → o.fault = some c → (s.ctx sq ctx).trap = none → ∃ t, exec (.microword sq ctx o) s = .next t ∧ (t.ctx sq ctx).upc = 0x40
    + 4 * trapCode c ∧ (t.ctx sq ctx).nspace = false ∧ (t.ctx sq ctx).trap = some
    { upc := bits w 113 15 - bits w 113 15 % 2 ^ bits w 108 2 + o.cond.val % 2 ^ bits w 108 2, nspace := bit w 112, flags := o.flags.val, regs := (o.scratch.map (·.toNat)).take 8 }
    ∧ (t.ctx sq ctx).irqs = (s.ctx sq ctx).irqs ∧ t.sqState sq = s.sqState sq)
  ∧ (∀ (s : State) (sq ctx : Fin 16) (o : MicroStep) (f : Bool × Nat) (w : Nat) (i : Nat), s.sqState sq = 1 ∧ ctx.val = 0 ∨ (s.sqState sq = 3 ∨ s.sqState sq = 4) ∧ s.runs
    sq ctx = true → s.faultsDue = [] → s.request = 0 → o.ecc = false → s.fetchAt (s.ctx sq ctx).nspace (s.ctx sq ctx).upc = f → Nat.xor (s.storeWord f.1 f.2)
    o.readErr.toNat = w → paritySyndrome w = 0 → o.fault = none → bit w 100 = false → o.trapReturn = false → (s.ctx sq ctx).trap = none → (s.ctx sq ctx).nextIrq = some i
    → bit w 101 = true → ∃ t, exec (.microword sq ctx o) s = .next t ∧ (t.ctx sq ctx).upc = 0x40 + 4 * i ∧ (t.ctx sq ctx).nspace = false ∧ (t.ctx sq ctx).trap = some
    { upc := bits w 113 15 - bits w 113 15 % 2 ^ bits w 108 2 + o.cond.val % 2 ^ bits w 108 2, nspace := bit w 112, flags := o.flags.val, regs := (o.scratch.map (·.toNat)).take 8 }
    ∧ (t.ctx sq ctx).irqs = (s.ctx sq ctx).irqs.filter (· != i))
  ∧ (∀ (s : State) (sq ctx : Fin 16) (o : MicroStep) (f : Bool × Nat) (w : Nat) (j : Nat × Nat), s.sqState sq = 1 ∧ ctx.val = 0 ∨ (s.sqState sq = 3 ∨ s.sqState sq = 4) ∧
    s.runs sq ctx = true → s.faultsDue = [] → s.request = 0 → o.ecc = false → s.fetchAt (s.ctx sq ctx).nspace (s.ctx sq ctx).upc = f → Nat.xor (s.storeWord f.1 f.2)
    o.readErr.toNat = w → paritySyndrome w = 0 → o.fault = none → bit w 100 = true → (s.ctx sq ctx).job = some j → (s.ring j.1).work.any (fun d => d.pos == j.2) = true →
    ∃ t, exec (.microword sq ctx o) s = .next t ∧ t.ctx sq ctx = {} ∧ t.ended s j.1 j.2 o.result.toNat o.info.toNat)
  ∧ (∀ (s : State) (sq ctx : Fin 16) (o : MicroStep) (f : Bool × Nat) (w : Nat), s.mode ≠ .boot → s.sqState sq = 1 ∧ ctx.val = 0 ∨ (s.sqState sq = 3 ∨ s.sqState sq = 4) ∧
    s.runs sq ctx = true → s.faultsDue = [] → s.request = 0 → o.ecc = false → s.fetchAt (s.ctx sq ctx).nspace (s.ctx sq ctx).upc = f → Nat.xor (s.storeWord f.1 f.2)
    o.readErr.toNat = w → paritySyndrome w ≠ 0 → (Map.get [] sq s.sq.checks).filter (fun x => decide (s.now < x + 3600000000000)) = [] → ∃ t, exec (.microword sq ctx o)
    s = .next t ∧ t.sqState sq = 1 ∧ (∀ c : Fin 16, t.ctx sq c = {}) ∧ t.raised s 785 [.w sq, .w (if f.1 then 0x21 else 0x20), .w f.2] = true)
  ∧ (∀ (s : State) (sq ctx : Fin 16) (o : MicroStep) (f : Bool × Nat) (w : Nat), s.mode ≠ .boot → s.sqState sq = 1 ∧ ctx.val = 0 ∨ (s.sqState sq = 3 ∨ s.sqState sq = 4) ∧
    s.runs sq ctx = true → s.faultsDue = [] → s.request = 0 → o.ecc = false → s.fetchAt (s.ctx sq ctx).nspace (s.ctx sq ctx).upc = f → Nat.xor (s.storeWord f.1 f.2)
    o.readErr.toNat = w → paritySyndrome w ≠ 0 → (Map.get [] sq s.sq.checks).any (fun x => decide (s.now < x + 3600000000000)) = true → (∀ c ∈ List.range 4, bit (s.fld
    F.HX_SQ_CTRL_CLASS_MASK sq) c = true → ∃ m : Fin 16, m ≠ sq ∧ bit (s.fld F.HX_SQ_CTRL_CLASS_MASK m) c = true ∧ s.sqState m ≠ 7 ∧ s.flag F.HX_SQ_CTRL_OFFLINE m =
    false) → ∃ t, exec (.microword sq ctx o) s = .next t ∧ t.sqState sq = 7 ∧ (∀ c : Fin 16, t.ctx sq c = {}) ∧ t.raised s 785 [.w sq, .w (if f.1 then 0x21 else 0x20),
    .w f.2] = true)
  ∧ (∀ (s : State) (sq ctx : Fin 16) (o : MicroStep), s.mode ≠ .boot → s.sqState sq = 1 ∨ s.sqState sq = 2 ∨ s.sqState sq = 3 ∨ s.sqState sq = 4 → s.faultsDue = [] →
    s.request = 0 → o.ecc = true → (Map.get [] sq s.sq.checks).filter (fun x => decide (s.now < x + 3600000000000)) = [] → ∃ t, exec (.microword sq ctx o) s = .next t ∧
    t.sqState sq = 1 ∧ (∀ c : Fin 16, t.ctx sq c = {}) ∧ t.fld F.HX_SQ_STATUS_MCHECKS sq = 1)
  ∧ (∀ (s : State) (sq ctx : Fin 16) (o : MicroStep) (f : Bool × Nat) (w : Nat) (c : TrapFault), s.mode ≠ .boot → s.sqState sq = 1 ∧ ctx.val = 0 ∨ (s.sqState sq = 3 ∨
    s.sqState sq = 4) ∧ s.runs sq ctx = true → s.faultsDue = [] → s.request = 0 → o.ecc = false → s.fetchAt (s.ctx sq ctx).nspace (s.ctx sq ctx).upc = f → Nat.xor
    (s.storeWord f.1 f.2) o.readErr.toNat = w → paritySyndrome w = 0 → o.fault = some c → (s.ctx sq ctx).trap.isSome = true → o.trapReturn = false → (Map.get [] sq
    s.sq.checks).filter (fun x => decide (s.now < x + 3600000000000)) = [] → ∃ t, exec (.microword sq ctx o) s = .next t ∧ t.sqState sq = 1 ∧ (∀ c : Fin 16, t.ctx sq c =
    {}))
  ∧ (∀ (s : State) (sq ctx : Fin 16) (o : MicroStep), s.faultsDue = [] → s.request = 0 → o.ecc = false ∨ s.sqState sq = 0 ∨ 5 ≤ s.sqState sq → ¬(s.sqState sq = 1 ∧ ctx.val
    = 0 ∨ (s.sqState sq = 3 ∨ s.sqState sq = 4) ∧ s.runs sq ctx = true) → exec (.microword sq ctx o) s = .next (s))
  ∧ (∀ (s : State) (sq ctx : Fin 16), s.sqState sq = 3 ∨ s.sqState sq = 4 → (s.ctx sq ctx).job.isSome = true → (s.ctx sq ctx).waiting = false → s.mode ≠ .boot →
    s.faultsDue = [] → s.request = 0 → (Map.get [] sq s.sq.checks).filter (fun x => decide (s.now < x + 3600000000000)) = [] → ∃ t, exec (.sqWatchdog sq ctx) s = .next t
    ∧ t.sqState sq = 1 ∧ (∀ c : Fin 16, t.ctx sq c = {}) ∧ t.fld F.HX_SQ_STATUS_MCHECKS sq = 1)
  ∧ (∀ (s : State) (sq ctx : Fin 16), s.sqState sq ≠ 3 ∧ s.sqState sq ≠ 4 ∨ (s.ctx sq ctx).job = none ∨ (s.ctx sq ctx).waiting = true → s.faultsDue = [] → s.request = 0 →
    exec (.sqWatchdog sq ctx) s = .next (s))
  ∧ (∀ (s : State) (sq ctx : Fin 16), (s.ctx sq ctx).job.isSome = true → (s.ctx sq ctx).irqs.contains 1 = false → ∃ t, exec (.contextTimer sq ctx) s = .next t ∧ t.ctx sq
    ctx = { s.ctx sq ctx with irqs := (s.ctx sq ctx).irqs ++ [1] })
  ∧ (∀ (s : State) (sq ctx : Fin 16), (s.ctx sq ctx).job = none ∨ (s.ctx sq ctx).irqs.contains 1 = true → exec (.contextTimer sq ctx) s = .next (s))
  ∧ (∀ (s : State) (v : Word) (n : Fin 16), s.admits .supervisor 6 7 = true → bit v.toNat n = true → s.sqState n = 0 → ∃ t, exec (.sqRelease .supervisor v) s = .next t ∧
    t.sqState n = 1 ∧ bit (t.fld F.HX_SQ_RELEASE_REL) n = true ∧ (∀ c : Fin 16, t.ctx n c = {}) ∧ t.raised s 784 [.w n, .w 0, .w 1] = true)
  ∧ (∀ (s : State) (v : Word) (n : Fin 16), s.admits .supervisor 6 7 = true → bit v.toNat n = false ∨ s.sqState n ≠ 0 → ∃ t, exec (.sqRelease .supervisor v) s = .next t ∧
    t.sqState n = s.sqState n ∧ bit (t.fld F.HX_SQ_RELEASE_REL) n = (bit (s.fld F.HX_SQ_RELEASE_REL) n || bit v.toNat n))
  ∧ (∀ (s : State) (who : Party) (v : Word), who ≠ .supervisor → s.admits who 6 7 = true → exec (.sqRelease who v) s = .next (s))
  ∧ (∀ (s : State) (sq : Fin 16), s.sqState sq = 1 → s.faultsDue = [] → s.request = 0 → ∃ t, exec (.sqInitDone sq none) s = .next t ∧ t.sqState sq = (if s.flag
    F.HX_SQ_CTRL_OFFLINE sq then 4 else 2))
  ∧ (∀ (s : State) (sq : Fin 16) (e : ScanError), s.sqState sq = 1 → s.faultsDue = [] → s.request = 0 → s.mode ≠ .boot → paritySyndrome (Nat.xor (s.storeWord e.patch
    e.addr.val) e.bits.toNat) ≠ 0 → (Map.get [] sq s.sq.checks).filter (fun x => decide (s.now < x + 3600000000000)) = [] → ∃ t, exec (.sqInitDone sq (some e)) s = .next
    t ∧ t.sqState sq = 1 ∧ t.fld F.HX_SQ_STATUS_MCHECKS sq = 1)
  ∧ (∀ (s : State) (sq : Fin 16) (e : Option ScanError), s.sqState sq ≠ 1 → s.faultsDue = [] → s.request = 0 → exec (.sqInitDone sq e) s = .next (s))
  ∧ (∀ (s : State) (who : Party) (sq : Fin 16), s.admits who 6 7 = true → s.manages who = true → s.sqState sq = 2 ∨ s.sqState sq = 3 → (∀ m : Fin 16, s.sqState m ≠ 7) →
    s.faultsDue = [] → s.request = 0 → ∃ t, exec (.sqOffline who sq) s = .next t ∧ t.sqState sq = 4 ∧ t.flag F.HX_SQ_CTRL_OFFLINE sq = true ∧ t.raised s 784 [.w sq, .w
    (s.sqState sq), .w 4] = true)
  ∧ (∀ (s : State) (who : Party) (sq : Fin 16), s.admits who 6 7 = true → s.manages who = true → s.sqState sq ≠ 2 ∧ s.sqState sq ≠ 3 → (∀ m : Fin 16, s.sqState m ≠ 7) →
    s.faultsDue = [] → s.request = 0 → ∃ t, exec (.sqOffline who sq) s = .next t ∧ t.sqState sq = s.sqState sq ∧ t.flag F.HX_SQ_CTRL_OFFLINE sq = true)
  ∧ (∀ (s : State) (who : Party) (sq : Fin 16), s.admits who 6 7 = true → s.manages who = true → s.sqState sq = 5 → ∃ t, exec (.sqOnline who sq) s = .next t ∧ t.sqState sq
    = 2 ∧ t.flag F.HX_SQ_CTRL_OFFLINE sq = false ∧ t.raised s 784 [.w sq, .w 5, .w 2] = true)
  ∧ (∀ (s : State) (who : Party) (sq : Fin 16), s.admits who 6 7 = true → s.manages who = true → s.sqState sq ≠ 5 → ∃ t, exec (.sqOnline who sq) s = .next t ∧ t.sqState sq
    = s.sqState sq ∧ t.flag F.HX_SQ_CTRL_OFFLINE sq = false)
  ∧ (∀ (s : State) (sq : Fin 16), s.sqState sq = 4 → s.busyCtx sq = 0 → ∃ t, exec (.sqDrained sq) s = .next t ∧ t.sqState sq = 5 ∧ t.raised s 784 [.w sq, .w 4, .w 5] =
    true)
  ∧ (∀ (s : State) (sq : Fin 16), s.sqState sq ≠ 4 ∨ s.busyCtx sq ≠ 0 → exec (.sqDrained sq) s = .next (s))
  ∧ (∀ (s : State) (who : Party) (pages : Fin 8192), s.admits who 0 3 = true → s.fld F.AO_UCODE_STATUS_STATE = 0 → s.mode = .run → ∃ t, exec (.ucodeLoad who pages) s =
    .next t ∧ t.fld F.AO_UCODE_STATUS_SEQ = (s.fld F.AO_UCODE_STATUS_SEQ + 1) % 2 ^ 16 ∧ t.fld F.AO_UCODE_STATUS_STATE = 1 ∧ t.sq.loadPages = pages.val ∧ t.sq.patch =
    s.sq.patch)
  ∧ (∀ (s : State) (who : Party) (pages : Fin 8192), s.admits who 0 3 = true → s.fld F.AO_UCODE_STATUS_STATE ≠ 0 → ∃ t, exec (.ucodeLoad who pages) s = .next t ∧ t.fld
    F.AO_UCODE_STATUS_RESULT = 1 ∧ t.fld F.AO_UCODE_STATUS_STATE = s.fld F.AO_UCODE_STATUS_STATE ∧ t.sq = s.sq ∧ t.raised s 31 [.w 1, .w (s.fld F.AO_UCODE_STATUS_SEQ)] =
    true)
  ∧ (∀ (s : State) (who : Party) (pages : Fin 8192), s.admits who 0 3 = true → s.fld F.AO_UCODE_STATUS_STATE = 0 → s.mode ≠ .run → ∃ t, exec (.ucodeLoad who pages) s =
    .next t ∧ t.fld F.AO_UCODE_STATUS_RESULT = 2 ∧ t.fld F.AO_UCODE_STATUS_STATE = 0 ∧ t.fld F.AO_UCODE_STATUS_SEQ = s.fld F.AO_UCODE_STATUS_SEQ ∧ t.raised s 31 [.w 2,
    .w (s.fld F.AO_UCODE_STATUS_SEQ)] = true)
  ∧ (∀ (s : State) (bad : Bool), s.fld F.AO_UCODE_STATUS_STATE = 2 → s.sqQuiet = true → s.fenced 6 = false → ∃ t, exec (.ucodeQuiesced bad) s = .next t ∧ t.fld
    F.AO_UCODE_STATUS_STATE = 3 ∧ t.sq.writeBad = bad ∧ t.sq.load = s.sq.load ∧ t.sq.patch = s.sq.patch)
  ∧ (∀ (s : State) (bad : Bool), s.fld F.AO_UCODE_STATUS_STATE ≠ 2 ∨ s.sqQuiet = false ∨ s.fenced 6 = true → exec (.ucodeQuiesced bad) s = .next (s))
  ∧ (∀ (s : State), s.fld F.AO_UCODE_STATUS_STATE = 2 → ∃ t, exec .ucodeDrainTimeout s = .next t ∧ t.fld F.AO_UCODE_STATUS_STATE = 0 ∧ t.fld F.AO_UCODE_STATUS_RESULT = 7 ∧
    t.sq.patch = s.sq.patch ∧ t.sq.load = none ∧ t.raised s 31 [.w 7, .w (s.fld F.AO_UCODE_STATUS_SEQ)] = true)
  ∧ (∀ (s : State), s.fld F.AO_UCODE_STATUS_STATE ≠ 2 → exec .ucodeDrainTimeout s = .next (s))
  ∧ (∀ s : State, s.fld F.AO_UCODE_STATUS_STATE = 1 → 0 < s.sq.loadPages → s.sq.loadPages ≤ 4096 → (s.stagedImage s.sq.loadPages = none → s.ucodeTick.fld
    F.AO_UCODE_STATUS_STATE = 0 ∧ s.ucodeTick.fld F.AO_UCODE_STATUS_RESULT = 3) ∧ ∀ (h : ImgHdr) (bs sec : List Byte) (p : PatchSet), s.stagedImage s.sq.loadPages = some
    (h, bs) → h.section? bs 3 = some sec → patchSection (s.fld F.HX_SQ_UCODE_VERSION_ROM_REV) sec = .ok p → s.fld F.HX_SQ_UCODE_VERSION_PATCH_LEVEL < p.level →
    s.ucodeTick.fld F.AO_UCODE_STATUS_STATE = 2 ∧ s.ucodeTick.sq.load = some p)
  ∧ (∀ (s : State) (p : PatchSet), s.sq.load = some p → s.fld F.AO_UCODE_STATUS_STATE = 3 → s.fenced 6 = false → s.ucodeTick.fld F.AO_UCODE_STATUS_STATE = 0 ∧
    s.ucodeTick.sq.load = none ∧ s.ucodeTick.fld F.AO_UCODE_STATUS_RESULT = (if s.sq.writeBad then 8 else 0) ∧ (s.sq.writeBad = true → s.ucodeTick.sq.patch = s.sq.patch)
    ∧ (s.sq.writeBad = false → s.ucodeTick.fld F.HX_SQ_UCODE_VERSION_PATCH_LEVEL = p.level % 2 ^ 16 ∧ ∀ i ∈ List.range (min p.words.length 1024), Map.get 0 i
    s.ucodeTick.sq.patch = p.words.getD i 0))

/-- WRITE and READ start messages, answers and deadlines end them, retries halve the rate, windows attach and are revoked (16_remote_memory_access.md). -/
def Obligations.RmaInitiator : Prop :=
  (∀ (s : State) (ring : Fin 65536) (ok : Bool) (data : List Byte) (d : Desc) (k : PeerKey), (s.ring ring).work.find? (fun d => d.dtype == 0x40 && !s.rma.tx.any (fun m
    => m.ring == ring.val && m.pos == d.pos)) = some d → k = (if bit (leAt d.bytes 0 4) 15 then
    { conn := true, id := bits (leAt d.bytes 0 4) 0 14, addr := 0, peer := 0 } else
    { conn := false, id := bits (leAt d.bytes 0 4) 0 14, addr := beAt d.bytes 32 16, peer := bits (leAt d.bytes 28 4) 0 16 }) → s.mayCarry ring 0x40 = false ∨ bits (leAt
    d.bytes 0 4) 24 7 ≠ 0 ∨ bits (leAt d.bytes 28 4) 16 15 ≠ 0 ∨ d.zero 52 56 = false ∨ leAt d.bytes 24 4 = 0 ∨ 16777216 < leAt d.bytes 24 4 ∨ k.conn = false ∧ (k.addr /
    2 ^ 32 == 0xFFFF) = bit (s.fld F.HX_RMA_TMPL_WORD (16 * s.rmaTmpl k + 5)) 31 → ∃ t, exec (.rmaWrite ring ok data) s = .next t ∧ t.ended s ring d.pos 2 0)
  ∧ (∀ (s : State) (ring : Fin 65536) (ok : Bool) (data : List Byte) (d : Desc) (k : PeerKey), (s.ring ring).work.find? (fun d => d.dtype == 0x40 && !s.rma.tx.any (fun m
    => m.ring == ring.val && m.pos == d.pos)) = some d → k = (if bit (leAt d.bytes 0 4) 15 then
    { conn := true, id := bits (leAt d.bytes 0 4) 0 14, addr := 0, peer := 0 } else
    { conn := false, id := bits (leAt d.bytes 0 4) 0 14, addr := beAt d.bytes 32 16, peer := bits (leAt d.bytes 28 4) 0 16 }) → s.mayCarry ring 0x40 = true → bits (leAt
    d.bytes 0 4) 24 7 = 0 → bits (leAt d.bytes 28 4) 16 15 = 0 → d.zero 52 56 = true → leAt d.bytes 24 4 ≠ 0 → leAt d.bytes 24 4 ≤ 16777216 → k.conn = true ∨ (k.addr / 2
    ^ 32 == 0xFFFF) ≠ bit (s.fld F.HX_RMA_TMPL_WORD (16 * s.rmaTmpl k + 5)) 31 → k.conn = false ∧ 4096 ≤ k.id ∨ s.rmaOwner k ≠ s.ownerOf ring → ∃ t, exec (.rmaWrite ring
    ok data) s = .next t ∧ t.ended s ring d.pos 1 0)
  ∧ (∀ (s : State) (ring : Fin 65536) (ok : Bool) (data : List Byte) (d : Desc) (k : PeerKey), (s.ring ring).work.find? (fun d => d.dtype == 0x40 && !s.rma.tx.any (fun m
    => m.ring == ring.val && m.pos == d.pos)) = some d → k = (if bit (leAt d.bytes 0 4) 15 then
    { conn := true, id := bits (leAt d.bytes 0 4) 0 14, addr := 0, peer := 0 } else
    { conn := false, id := bits (leAt d.bytes 0 4) 0 14, addr := beAt d.bytes 32 16, peer := bits (leAt d.bytes 28 4) 0 16 }) → s.mayCarry ring 0x40 = true → bits (leAt
    d.bytes 0 4) 24 7 = 0 → bits (leAt d.bytes 28 4) 16 15 = 0 → d.zero 52 56 = true → leAt d.bytes 24 4 ≠ 0 → leAt d.bytes 24 4 ≤ 16777216 → k.conn = true ∨ (k.addr / 2
    ^ 32 == 0xFFFF) ≠ bit (s.fld F.HX_RMA_TMPL_WORD (16 * s.rmaTmpl k + 5)) 31 → s.rmaOwner k = s.ownerOf ring → if k.conn then s.connState k.id ≠ 1 else k.id < 4096 ∧
    s.epState k.id = 0 → ∃ t, exec (.rmaWrite ring ok data) s = .next t ∧ t.ended s ring d.pos 0x4A 0)
  ∧ (∀ (s : State) (ring : Fin 65536) (ok : Bool) (data : List Byte) (d : Desc) (k : PeerKey), (s.ring ring).work.find? (fun d => d.dtype == 0x40 && !s.rma.tx.any (fun m
    => m.ring == ring.val && m.pos == d.pos)) = some d → k = (if bit (leAt d.bytes 0 4) 15 then
    { conn := true, id := bits (leAt d.bytes 0 4) 0 14, addr := 0, peer := 0 } else
    { conn := false, id := bits (leAt d.bytes 0 4) 0 14, addr := beAt d.bytes 32 16, peer := bits (leAt d.bytes 28 4) 0 16 }) → s.mayCarry ring 0x40 = true → bits (leAt
    d.bytes 0 4) 24 7 = 0 → bits (leAt d.bytes 28 4) 16 15 = 0 → d.zero 52 56 = true → leAt d.bytes 24 4 ≠ 0 → leAt d.bytes 24 4 ≤ 16777216 → k.conn = true ∨ (k.addr / 2
    ^ 32 == 0xFFFF) ≠ bit (s.fld F.HX_RMA_TMPL_WORD (16 * s.rmaTmpl k + 5)) 31 → s.rmaOwner k = s.ownerOf ring → if k.conn then s.connState k.id = 1 ∧ bit (leAt d.bytes
    0 4) 14 = true ∧ s.inSync = false else k.id < 4096 ∧ s.epState k.id = 3 → ∃ t, exec (.rmaWrite ring ok data) s = .next t ∧ t.ended s ring d.pos 0x46 0)
  ∧ (∀ (s : State) (ring : Fin 65536) (ok : Bool) (data : List Byte) (d : Desc) (k : PeerKey), (s.ring ring).work.find? (fun d => d.dtype == 0x40 && !s.rma.tx.any (fun m
    => m.ring == ring.val && m.pos == d.pos)) = some d → k = (if bit (leAt d.bytes 0 4) 15 then
    { conn := true, id := bits (leAt d.bytes 0 4) 0 14, addr := 0, peer := 0 } else
    { conn := false, id := bits (leAt d.bytes 0 4) 0 14, addr := beAt d.bytes 32 16, peer := bits (leAt d.bytes 28 4) 0 16 }) → s.mayCarry ring 0x40 = true → bits (leAt
    d.bytes 0 4) 24 7 = 0 → bits (leAt d.bytes 28 4) 16 15 = 0 → d.zero 52 56 = true → leAt d.bytes 24 4 ≠ 0 → leAt d.bytes 24 4 ≤ 16777216 → k.conn = true ∨ (k.addr / 2
    ^ 32 == 0xFFFF) ≠ bit (s.fld F.HX_RMA_TMPL_WORD (16 * s.rmaTmpl k + 5)) 31 → s.rmaOwner k = s.ownerOf ring → k.conn = false → k.id < 4096 → s.epState k.id = 1 → exec
    (.rmaWrite ring ok data) s = .next (s))
  ∧ (∀ (s : State) (ring : Fin 65536) (data : List Byte) (d : Desc) (k : PeerKey), (s.ring ring).work.find? (fun d => d.dtype == 0x40 && !s.rma.tx.any (fun m => m.ring ==
    ring.val && m.pos == d.pos)) = some d → k = (if bit (leAt d.bytes 0 4) 15 then { conn := true, id := bits (leAt d.bytes 0 4) 0 14, addr := 0, peer := 0 } else
    { conn := false, id := bits (leAt d.bytes 0 4) 0 14, addr := beAt d.bytes 32 16, peer := bits (leAt d.bytes 28 4) 0 16 }) → s.mayCarry ring 0x40 = true → bits (leAt
    d.bytes 0 4) 24 7 = 0 → bits (leAt d.bytes 28 4) 16 15 = 0 → d.zero 52 56 = true → leAt d.bytes 24 4 ≠ 0 → leAt d.bytes 24 4 ≤ 16777216 → k.conn = true ∨ (k.addr / 2
    ^ 32 == 0xFFFF) ≠ bit (s.fld F.HX_RMA_TMPL_WORD (16 * s.rmaTmpl k + 5)) 31 → s.rmaOwner k = s.ownerOf ring → (if k.conn then s.connState k.id = 1 ∧ (bit (leAt
    d.bytes 0 4) 14 = true → s.inSync = true) else k.id < 4096 ∧ s.epState k.id = 2) → s.ownerOf ring < 2056 → ∃ t, exec (.rmaWrite ring false data) s = .next t ∧
    t.ended s ring d.pos 3 0)
  ∧ (∀ (s u : State) (ring : Fin 65536) (data : List Byte) (d : Desc) (k : PeerKey) (q : Peer), (s.ring ring).work.find? (fun d => d.dtype == 0x40 && !s.rma.tx.any (fun m
    => m.ring == ring.val && m.pos == d.pos)) = some d → k = (if bit (leAt d.bytes 0 4) 15 then
    { conn := true, id := bits (leAt d.bytes 0 4) 0 14, addr := 0, peer := 0 } else
    { conn := false, id := bits (leAt d.bytes 0 4) 0 14, addr := beAt d.bytes 32 16, peer := bits (leAt d.bytes 28 4) 0 16 }) → s.mayCarry ring 0x40 = true → bits (leAt
    d.bytes 0 4) 24 7 = 0 → bits (leAt d.bytes 28 4) 16 15 = 0 → d.zero 52 56 = true → leAt d.bytes 24 4 ≠ 0 → leAt d.bytes 24 4 ≤ 16777216 → k.conn = true ∨ (k.addr / 2
    ^ 32 == 0xFFFF) ≠ bit (s.fld F.HX_RMA_TMPL_WORD (16 * s.rmaTmpl k + 5)) 31 → s.rmaOwner k = s.ownerOf ring → (if k.conn then s.connState k.id = 1 ∧ (bit (leAt
    d.bytes 0 4) 14 = true → s.inSync = true) else k.id < 4096 ∧ s.epState k.id = 2) → s.ownerOf ring < 2056 → data.length = leAt d.bytes 24 4 → s.needPeer k = (u, some
    q) → s.rma.tx.filter (fun m => m.key == k) = [] → ∃ t, exec (.rmaWrite ring true data) s = .next t ∧ t.rma.tx.any (fun m => m.key == k && m.ring == ring.val && m.pos
    == d.pos && m.msn == q.nextMsn && m.len == data.length && m.data == data && decide (0 < m.cut) && !m.read) = true)
  ∧ (∀ (s u : State) (ring : Fin 65536) (data : List Byte) (ok : Bool) (bs : List Byte) (d : Desc) (k : PeerKey) (q : Peer), (s.ring ring).work.find? (fun d => d.dtype ==
    0x40 && !s.rma.tx.any (fun m => m.ring == ring.val && m.pos == d.pos)) = some d → k = (if bit (leAt d.bytes 0 4) 15 then
    { conn := true, id := bits (leAt d.bytes 0 4) 0 14, addr := 0, peer := 0 } else
    { conn := false, id := bits (leAt d.bytes 0 4) 0 14, addr := beAt d.bytes 32 16, peer := bits (leAt d.bytes 28 4) 0 16 }) → s.mayCarry ring 0x40 = true → bits (leAt
    d.bytes 0 4) 24 7 = 0 → bits (leAt d.bytes 28 4) 16 15 = 0 → d.zero 52 56 = true → leAt d.bytes 24 4 ≠ 0 → leAt d.bytes 24 4 ≤ 16777216 → k.conn = true ∨ (k.addr / 2
    ^ 32 == 0xFFFF) ≠ bit (s.fld F.HX_RMA_TMPL_WORD (16 * s.rmaTmpl k + 5)) 31 → s.rmaOwner k = s.ownerOf ring → (if k.conn then s.connState k.id = 1 ∧ (bit (leAt
    d.bytes 0 4) 14 = true → s.inSync = true) else k.id < 4096 ∧ s.epState k.id = 2) → 2056 ≤ s.ownerOf ring → s.sourceBytes (s.ownerOf ring) (leAt d.bytes 8 8) (leAt
    d.bytes 24 4) ok data = some bs → s.needPeer k = (u, some q) → s.rma.tx.filter (fun m => m.key == k) = [] → ∃ t, exec (.rmaWrite ring ok data) s = .next t ∧
    t.rma.tx.any (fun m => m.key == k && m.ring == ring.val && m.pos == d.pos && m.msn == q.nextMsn && m.len == leAt d.bytes 24 4 && m.data == bs && decide (0 < m.cut)
    && !m.read) = true)
  ∧ (∀ (s : State) (ring : Fin 65536) (ok : Bool) (data : List Byte), (s.ring ring).work.find? (fun d => d.dtype == 0x40 && !s.rma.tx.any (fun m => m.ring == ring.val &&
    m.pos == d.pos)) = none → (s.nextDesc ring).any (fun d => d.dtype == 0x40 && !s.rma.tx.any (fun m => m.ring == ring.val && m.pos == d.pos)) = false → exec (.rmaWrite
    ring ok data) s = .next (s))
  ∧ (∀ (s : State) (ring : Fin 65536) (d : Desc) (k : PeerKey), (s.ring ring).work.find? (fun d => d.dtype == 0x41 && !s.rma.tx.any (fun m => m.ring == ring.val && m.pos
    == d.pos)) = some d → k = (if bit (leAt d.bytes 0 4) 15 then { conn := true, id := bits (leAt d.bytes 0 4) 0 14, addr := 0, peer := 0 } else
    { conn := false, id := bits (leAt d.bytes 0 4) 0 14, addr := beAt d.bytes 32 16, peer := bits (leAt d.bytes 28 4) 0 16 }) → s.mayCarry ring 0x41 = false ∨ bits (leAt
    d.bytes 0 4) 24 7 ≠ 0 ∨ bits (leAt d.bytes 28 4) 16 16 ≠ 0 ∨ d.zero 48 56 = false ∨ leAt d.bytes 24 4 = 0 ∨ 16777216 < leAt d.bytes 24 4 ∨ k.conn = false ∧ (k.addr /
    2 ^ 32 == 0xFFFF) = bit (s.fld F.HX_RMA_TMPL_WORD (16 * s.rmaTmpl k + 5)) 31 → ∃ t, exec (.rmaRead ring) s = .next t ∧ t.ended s ring d.pos 2 0)
  ∧ (∀ (s : State) (ring : Fin 65536) (d : Desc) (k : PeerKey), (s.ring ring).work.find? (fun d => d.dtype == 0x41 && !s.rma.tx.any (fun m => m.ring == ring.val && m.pos
    == d.pos)) = some d → k = (if bit (leAt d.bytes 0 4) 15 then { conn := true, id := bits (leAt d.bytes 0 4) 0 14, addr := 0, peer := 0 } else
    { conn := false, id := bits (leAt d.bytes 0 4) 0 14, addr := beAt d.bytes 32 16, peer := bits (leAt d.bytes 28 4) 0 16 }) → s.mayCarry ring 0x41 = true → bits (leAt
    d.bytes 0 4) 24 7 = 0 → bits (leAt d.bytes 28 4) 16 16 = 0 → d.zero 48 56 = true → leAt d.bytes 24 4 ≠ 0 → leAt d.bytes 24 4 ≤ 16777216 → k.conn = true ∨ (k.addr / 2
    ^ 32 == 0xFFFF) ≠ bit (s.fld F.HX_RMA_TMPL_WORD (16 * s.rmaTmpl k + 5)) 31 → k.conn = false ∧ 4096 ≤ k.id ∨ s.rmaOwner k ≠ s.ownerOf ring → ∃ t, exec (.rmaRead ring)
    s = .next t ∧ t.ended s ring d.pos 1 0)
  ∧ (∀ (s : State) (ring : Fin 65536) (d : Desc) (k : PeerKey), (s.ring ring).work.find? (fun d => d.dtype == 0x41 && !s.rma.tx.any (fun m => m.ring == ring.val && m.pos
    == d.pos)) = some d → k = (if bit (leAt d.bytes 0 4) 15 then { conn := true, id := bits (leAt d.bytes 0 4) 0 14, addr := 0, peer := 0 } else
    { conn := false, id := bits (leAt d.bytes 0 4) 0 14, addr := beAt d.bytes 32 16, peer := bits (leAt d.bytes 28 4) 0 16 }) → s.mayCarry ring 0x41 = true → bits (leAt
    d.bytes 0 4) 24 7 = 0 → bits (leAt d.bytes 28 4) 16 16 = 0 → d.zero 48 56 = true → leAt d.bytes 24 4 ≠ 0 → leAt d.bytes 24 4 ≤ 16777216 → k.conn = true ∨ (k.addr / 2
    ^ 32 == 0xFFFF) ≠ bit (s.fld F.HX_RMA_TMPL_WORD (16 * s.rmaTmpl k + 5)) 31 → s.rmaOwner k = s.ownerOf ring → if k.conn then s.connState k.id ≠ 1 else k.id < 4096 ∧
    s.epState k.id = 0 → ∃ t, exec (.rmaRead ring) s = .next t ∧ t.ended s ring d.pos 0x4A 0)
  ∧ (∀ (s : State) (ring : Fin 65536) (d : Desc) (k : PeerKey), (s.ring ring).work.find? (fun d => d.dtype == 0x41 && !s.rma.tx.any (fun m => m.ring == ring.val && m.pos
    == d.pos)) = some d → k = (if bit (leAt d.bytes 0 4) 15 then { conn := true, id := bits (leAt d.bytes 0 4) 0 14, addr := 0, peer := 0 } else
    { conn := false, id := bits (leAt d.bytes 0 4) 0 14, addr := beAt d.bytes 32 16, peer := bits (leAt d.bytes 28 4) 0 16 }) → s.mayCarry ring 0x41 = true → bits (leAt
    d.bytes 0 4) 24 7 = 0 → bits (leAt d.bytes 28 4) 16 16 = 0 → d.zero 48 56 = true → leAt d.bytes 24 4 ≠ 0 → leAt d.bytes 24 4 ≤ 16777216 → k.conn = true ∨ (k.addr / 2
    ^ 32 == 0xFFFF) ≠ bit (s.fld F.HX_RMA_TMPL_WORD (16 * s.rmaTmpl k + 5)) 31 → s.rmaOwner k = s.ownerOf ring → if k.conn then s.connState k.id = 1 ∧ bit (leAt d.bytes
    0 4) 14 = true ∧ s.inSync = false else k.id < 4096 ∧ s.epState k.id = 3 → ∃ t, exec (.rmaRead ring) s = .next t ∧ t.ended s ring d.pos 0x46 0)
  ∧ (∀ (s : State) (ring : Fin 65536) (d : Desc) (k : PeerKey), (s.ring ring).work.find? (fun d => d.dtype == 0x41 && !s.rma.tx.any (fun m => m.ring == ring.val && m.pos
    == d.pos)) = some d → k = (if bit (leAt d.bytes 0 4) 15 then { conn := true, id := bits (leAt d.bytes 0 4) 0 14, addr := 0, peer := 0 } else
    { conn := false, id := bits (leAt d.bytes 0 4) 0 14, addr := beAt d.bytes 32 16, peer := bits (leAt d.bytes 28 4) 0 16 }) → s.mayCarry ring 0x41 = true → bits (leAt
    d.bytes 0 4) 24 7 = 0 → bits (leAt d.bytes 28 4) 16 16 = 0 → d.zero 48 56 = true → leAt d.bytes 24 4 ≠ 0 → leAt d.bytes 24 4 ≤ 16777216 → k.conn = true ∨ (k.addr / 2
    ^ 32 == 0xFFFF) ≠ bit (s.fld F.HX_RMA_TMPL_WORD (16 * s.rmaTmpl k + 5)) 31 → s.rmaOwner k = s.ownerOf ring → k.conn = false → k.id < 4096 → s.epState k.id = 1 → exec
    (.rmaRead ring) s = .next (s))
  ∧ (∀ (s u : State) (ring : Fin 65536) (d : Desc) (k : PeerKey) (q : Peer), (s.ring ring).work.find? (fun d => d.dtype == 0x41 && !s.rma.tx.any (fun m => m.ring ==
    ring.val && m.pos == d.pos)) = some d → k = (if bit (leAt d.bytes 0 4) 15 then { conn := true, id := bits (leAt d.bytes 0 4) 0 14, addr := 0, peer := 0 } else
    { conn := false, id := bits (leAt d.bytes 0 4) 0 14, addr := beAt d.bytes 32 16, peer := bits (leAt d.bytes 28 4) 0 16 }) → s.mayCarry ring 0x41 = true → bits (leAt
    d.bytes 0 4) 24 7 = 0 → bits (leAt d.bytes 28 4) 16 16 = 0 → d.zero 48 56 = true → leAt d.bytes 24 4 ≠ 0 → leAt d.bytes 24 4 ≤ 16777216 → k.conn = true ∨ (k.addr / 2
    ^ 32 == 0xFFFF) ≠ bit (s.fld F.HX_RMA_TMPL_WORD (16 * s.rmaTmpl k + 5)) 31 → s.rmaOwner k = s.ownerOf ring → (if k.conn then s.connState k.id = 1 ∧ (bit (leAt
    d.bytes 0 4) 14 = true → s.inSync = true) else k.id < 4096 ∧ s.epState k.id = 2) → s.needPeer k = (u, some q) → s.rma.tx.filter (fun m => m.key == k) = [] → ∃ t,
    exec (.rmaRead ring) s = .next t ∧ t.rma.tx.any (fun m => m.key == k && m.ring == ring.val && m.pos == d.pos && m.msn == q.nextMsn && m.len == leAt d.bytes 24 4 &&
    m.cut == m.len && m.read) = true)
  ∧ (∀ (s : State) (ring : Fin 65536), (s.ring ring).work.find? (fun d => d.dtype == 0x41 && !s.rma.tx.any (fun m => m.ring == ring.val && m.pos == d.pos)) = none →
    (s.nextDesc ring).any (fun d => d.dtype == 0x41 && !s.rma.tx.any (fun m => m.ring == ring.val && m.pos == d.pos)) = false → exec (.rmaRead ring) s = .next (s))
  ∧ (∀ (s : State) (port : Fin 16) (g : RxItem) (u : Udp) (p : RmaIn) (m : TxMsg) (x : TxPkt), s.served 1 = true → s.rxHead (512 + port.val) = some g → udpOf g.bytes =
    some u → s.isRma g.bytes = true → s.fenced 6 = false → rmaIn u = p → p.h.op = opAck → s.rmaBad p = none → p.h.aux / 2 ^ 24 = 0 → if p.h.conn then s.connState p.h.dst
    = 1 else s.now < p.h.sendTs + s.horizon ∧ p.h.sendTs ≤ s.now + 2 * s.timeTol → s.rma.tx.filter (fun m => m.key == p.key) = [m] → m.pkts = [x] → x.psn = p.h.psn →
    x.finished = false → m.read = false → m.durable = false → m.len ≤ m.cut → x.len = m.len → m.ring < 65536 → (s.ring m.ring).work.any (fun d => d.pos == m.pos) = true
    → ∃ t, exec (.ackRx port) s = .next t ∧ t.ended s m.ring m.pos 0 m.len ∧ t.rma.tx.any (fun m => m.key == p.key) = false)
  ∧ (∀ (s : State) (port : Fin 16) (g : RxItem) (u : Udp) (p : RmaIn) (m : TxMsg) (x : TxPkt), s.served 1 = true → s.rxHead (512 + port.val) = some g → udpOf g.bytes =
    some u → s.isRma g.bytes = true → s.fenced 6 = false → rmaIn u = p → p.h.op = opAck → s.rmaBad p = none → 0x11 ≤ p.h.aux / 2 ^ 24 → p.h.aux / 2 ^ 24 ≤ 0x13 → if
    p.h.conn then s.connState p.h.dst = 1 else s.now < p.h.sendTs + s.horizon ∧ p.h.sendTs ≤ s.now + 2 * s.timeTol → s.rma.tx.filter (fun m => m.key == p.key) = [m] →
    m.pkts = [x] → x.psn = p.h.psn → x.finished = false → x.placed = false → m.len ≠ 0 → m.read = false → m.len ≤ m.cut → x.len = m.len → m.ring < 65536 → (s.ring
    m.ring).work.any (fun d => d.pos == m.pos) = true → ∃ t, exec (.ackRx port) s = .next t ∧ t.ended s m.ring m.pos 0x42 0 ∧ t.rma.tx.any (fun m => m.key == p.key) =
    false)
  ∧ (∀ (s : State) (port : Fin 16), s.served 1 = false ∨ s.fenced 6 = true ∨ (s.rxHead (512 + port.val)).all (fun g => (udpOf g.bytes).all (fun u => !s.isRma g.bytes ||
    (rmaIn u).h.op != opAck)) = true → exec (.ackRx port) s = .next (s))
  ∧ (∀ (s : State) (i j : Nat) (m : TxMsg) (x : TxPkt) (q : Peer), s.rma.tx[i]? = some m → m.pkts[j]? = some x → s.peer? m.key = some q → x.finished = false → m.read =
    false → (m.key.conn = true → x.tries < s.fld F.HX_RMA_CFG_CONN_RETRY) → ∃ t, exec (.rtoExpiry i j) s = .next t ∧ (t.rma.tx[i]?).bind (fun m => m.pkts[j]?) = some
    { x with tries := x.tries + 1 } ∧ (t.peer? m.key).map (·.rate) = some (max 100 (q.rate / 2)) ∧ t.fld F.HX_RMA_STAT_COUNT 2 = (s.fld F.HX_RMA_STAT_COUNT 2 + 1) % 2 ^
    64)
  ∧ (∀ (s : State) (i j : Nat) (m : TxMsg) (x : TxPkt), s.rma.tx[i]? = some m → m.pkts[j]? = some x → m.pkts = [x] → x.finished = false → x.placed = false → m.key.conn =
    false → m.read = false → m.len ≠ 0 → m.len ≤ m.cut → s.rma.tx.filter (fun y => y.key == m.key) = [m] → m.ring < 65536 → (s.ring m.ring).work.any (fun d => d.pos ==
    m.pos) = true → ∃ t, exec (.packetDeadline i j) s = .next t ∧ t.ended s m.ring m.pos 0x44 0 ∧ t.fld F.HX_RMA_STAT_COUNT 3 = (s.fld F.HX_RMA_STAT_COUNT 3 + 1) % 2 ^
    64)
  ∧ (∀ (s : State) (i : Nat) (q : Peer), s.rma.peers[i]? = some q → ∃ t, exec (.rateIncrease i) s = .next t ∧ (t.peer? q.key).map (·.rate) = some (min (s.rmaMaxRate q.key)
    (q.rate + 10 * s.fld F.HX_RMA_CFG_AI)))
  ∧ (∀ (s : State) (ring : Fin 65536) (x : Nat × Nat), s.rma.waits.find? (fun x => x.1 == ring.val) = some x → (s.ring ring).work.any (fun d => d.pos == x.2) = true → ∃ t,
    exec (.peerWaitTimeout ring) s = .next t ∧ t.ended s ring x.2 0x49 0 ∧ t.rma.waits.contains x = false)
  ∧ (∀ (s : State) (i j : Nat) (m : TxMsg) (x : TxPkt), s.rma.tx[i]? = some m → m.pkts[j]? = some x → x.finished = false → (s.peer? m.key).isSome = true → m.key.conn =
    true → s.fld F.HX_RMA_CFG_CONN_RETRY ≤ x.tries → s.connState m.key.id = 1 → ∃ t, exec (.rtoExpiry i j) s = .next t ∧ t.connState m.key.id = 2 ∧ t.rma.tx.any (fun y
    => y.key == m.key) = false)
  ∧ (∀ (s : State) (i j : Nat) (m : TxMsg) (x : TxPkt) (q : Peer), s.rma.tx[i]? = some m → m.pkts[j]? = some x → s.peer? m.key = some q → x.finished = false → m.read =
    true → (m.key.conn = true → x.tries < s.fld F.HX_RMA_CFG_CONN_RETRY) → ∃ t, exec (.rtoExpiry i j) s = .next t ∧ (t.rma.tx[i]?).bind (fun m => m.pkts[j]?) = some
    { x with psn := q.nextPsn, off := (missing m.got m.len).1, len := (missing m.got m.len).2 - (missing m.got m.len).1, sendTs := s.now, tries := x.tries + 1 } ∧
    (t.peer? m.key).map (fun p => (p.rate, p.nextPsn)) = some (max 100 (q.rate / 2), (q.nextPsn + 1) % 2 ^ 32))
  ∧ (∀ (s : State) (i j : Nat), (s.rma.tx[i]?).all (fun m => (s.peer? m.key).isNone || (m.pkts[j]?).all (fun x => x.finished)) = true → exec (.rtoExpiry i j) s = .next
    (s))
  ∧ (∀ (s : State) (i j : Nat), (s.rma.tx[i]?).all (fun m => m.key.conn || (m.pkts[j]?).all (fun x => x.finished)) = true → exec (.packetDeadline i j) s = .next (s))
  ∧ (∀ (s : State) (i : Nat), s.rma.peers[i]? = none → exec (.rateIncrease i) s = .next (s))
  ∧ (∀ (s : State) (ring : Fin 65536), s.rma.waits.find? (fun x => x.1 == ring.val) = none → exec (.peerWaitTimeout ring) s = .next (s))
  ∧ (∀ (s : State) (ring : Fin 65536) (d : Desc) (i : Nat), (s.ring ring).work.find? (fun d => d.dtype == 0x42) = some d → s.mayCarry ring 0x42 = true → leAt d.bytes 0 2 =
    0 → bits (leAt d.bytes 0 4) 24 7 = 0 → leAt d.bytes 4 4 = i → i < 2 ^ 20 → bits (leAt d.bytes 24 4) 16 12 = 0 → bits (leAt d.bytes 28 4) 12 20 = 0 → d.zero 32 56 =
    true → s.ownsWin (s.ownerOf ring) i = true → (s.win i).attached = false → leAt d.bytes 16 8 ≠ 0 → leAt d.bytes 16 8 ≤ 2 ^ 40 → if bit (leAt d.bytes 24 4) 31 then
    inRange (bits (leAt d.bytes 28 4) 0 12) (s.fld F.HX_FN_REC_NS_BASE (s.ownerOf ring)) (s.fld F.HX_FN_REC_NS_COUNT (s.ownerOf ring)) = true ∧ leAt d.bytes 8 8 + leAt
    d.bytes 16 8 ≤ s.nlba (bits (leAt d.bytes 28 4) 0 12) * s.lbaSize (bits (leAt d.bytes 28 4) 0 12) else s.memRange (s.ownerOf ring) (leAt d.bytes 8 8) (leAt d.bytes
    16 8) = true → s.ringOwner (bits (leAt d.bytes 24 4) 0 16) = s.ringOwner ring ∧ s.ringKind (bits (leAt d.bytes 24 4) 0 16) = 1 → ∃ t, exec (.winSet ring) s = .next t
    ∧ t.win i =
    { gen := (s.win i).gen, attached := true, base := leAt d.bytes 8 8, len := leAt d.bytes 16 8, persist := bit (leAt d.bytes 24 4) 31, rd := bit (leAt d.bytes 24 4) 30, wr := bit (leAt d.bytes 24 4) 29, notify := bit (leAt d.bytes 24 4) 28, ring := bits (leAt d.bytes 24 4) 0 16, ns := bits (leAt d.bytes 28 4) 0 12 }
    ∧ t.ended s ring d.pos 0 (s.winKey i))
  ∧ (∀ (s : State) (ring : Fin 65536) (d : Desc) (i : Nat), (s.ring ring).work.find? (fun d => d.dtype == 0x42) = some d → s.mayCarry ring 0x42 = true → leAt d.bytes 0 2 =
    0 → bits (leAt d.bytes 0 4) 24 7 = 0 → leAt d.bytes 4 4 = i → i < 2 ^ 20 → bits (leAt d.bytes 24 4) 16 12 = 0 → bits (leAt d.bytes 28 4) 12 20 = 0 → d.zero 32 56 =
    true → s.ownsWin (s.ownerOf ring) i = true → (s.win i).attached = false → leAt d.bytes 16 8 ≠ 0 → leAt d.bytes 16 8 ≤ 2 ^ 40 → ¬(if bit (leAt d.bytes 24 4) 31 then
    inRange (bits (leAt d.bytes 28 4) 0 12) (s.fld F.HX_FN_REC_NS_BASE (s.ownerOf ring)) (s.fld F.HX_FN_REC_NS_COUNT (s.ownerOf ring)) = true ∧ leAt d.bytes 8 8 + leAt
    d.bytes 16 8 ≤ s.nlba (bits (leAt d.bytes 28 4) 0 12) * s.lbaSize (bits (leAt d.bytes 28 4) 0 12) else s.memRange (s.ownerOf ring) (leAt d.bytes 8 8) (leAt d.bytes
    16 8) = true) ∨ ¬(s.ringOwner (bits (leAt d.bytes 24 4) 0 16) = s.ringOwner ring ∧ s.ringKind (bits (leAt d.bytes 24 4) 0 16) = 1) → ∃ t, exec (.winSet ring) s =
    .next t ∧ t.ended s ring d.pos 2 0 ∧ t.win i = s.win i)
  ∧ (∀ (s : State) (ring : Fin 65536) (d : Desc) (i : Nat), (s.ring ring).work.find? (fun d => d.dtype == 0x42) = some d → s.mayCarry ring 0x42 = true → leAt d.bytes 0 2 =
    0 → bits (leAt d.bytes 0 4) 24 7 = 0 → leAt d.bytes 4 4 = i → i < 2 ^ 20 → bits (leAt d.bytes 24 4) 16 12 = 0 → bits (leAt d.bytes 28 4) 12 20 = 0 → d.zero 32 56 =
    true → s.ownsWin (s.ownerOf ring) i = true → (s.win i).attached = false → leAt d.bytes 16 8 = 0 ∨ 2 ^ 40 < leAt d.bytes 16 8 → ∃ t, exec (.winSet ring) s = .next t ∧
    t.ended s ring d.pos 6 0 ∧ t.win i = s.win i)
  ∧ (∀ (s : State) (ring : Fin 65536) (d : Desc) (i : Nat), (s.ring ring).work.find? (fun d => d.dtype == 0x42) = some d → s.mayCarry ring 0x42 = true → leAt d.bytes 0 2 =
    0 → bits (leAt d.bytes 0 4) 24 7 = 0 → leAt d.bytes 4 4 = i → i < 2 ^ 20 → bits (leAt d.bytes 24 4) 16 12 = 0 → bits (leAt d.bytes 28 4) 12 20 = 0 → d.zero 32 56 =
    true → s.ownsWin (s.ownerOf ring) i = true → (s.win i).attached = true → ∃ t, exec (.winSet ring) s = .next t ∧ t.ended s ring d.pos 0x4B 0 ∧ t.win i = s.win i)
  ∧ (∀ (s : State) (ring : Fin 65536) (d : Desc) (i : Nat), (s.ring ring).work.find? (fun d => d.dtype == 0x42) = some d → s.mayCarry ring 0x42 = true → leAt d.bytes 0 2 =
    0 → bits (leAt d.bytes 0 4) 24 7 = 0 → leAt d.bytes 4 4 = i → i < 2 ^ 20 → bits (leAt d.bytes 24 4) 16 12 = 0 → bits (leAt d.bytes 28 4) 12 20 = 0 → d.zero 32 56 =
    true → s.ownsWin (s.ownerOf ring) i = false → ∃ t, exec (.winSet ring) s = .next t ∧ t.ended s ring d.pos 1 0 ∧ t.win i = s.win i)
  ∧ (∀ (s : State) (ring : Fin 65536) (d : Desc), (s.ring ring).work.find? (fun d => d.dtype == 0x42) = some d → s.mayCarry ring 0x42 = false ∨ leAt d.bytes 0 2 ≠ 0 ∨ bits
    (leAt d.bytes 0 4) 24 7 ≠ 0 ∨ bits (leAt d.bytes 4 4) 20 12 ≠ 0 ∨ bits (leAt d.bytes 24 4) 16 12 ≠ 0 ∨ bits (leAt d.bytes 28 4) 12 20 ≠ 0 ∨ d.zero 32 56 = false → ∃
    t, exec (.winSet ring) s = .next t ∧ t.ended s ring d.pos 2 0 ∧ t.rma.wins = s.rma.wins)
  ∧ (∀ (s : State) (ring : Fin 65536), (s.ring ring).work.find? (fun d => d.dtype == 0x42) = none → (s.nextDesc ring).any (fun d => d.dtype == 0x42) = false → exec
    (.winSet ring) s = .next (s))
  ∧ (∀ (s : State) (ring : Fin 65536) (d : Desc) (i : Nat), (s.ring ring).work.find? (fun d => d.dtype == 0x43 && !s.rma.revoking.any (fun x => x.2.1 == ring.val && x.2.2
    == d.pos)) = some d → s.mayCarry ring 0x43 = true → leAt d.bytes 0 2 = 0 → bits (leAt d.bytes 0 4) 24 7 = 0 → leAt d.bytes 4 4 = i → i < 2 ^ 20 → d.zero 8 56 = true
    → s.ownsWin (s.ownerOf ring) i = true → ∃ t, exec (.winRevoke ring) s = .next t ∧ t.win i = { gen := ((s.win i).gen + 1) % 4096 } ∧ t.rma.revoking.contains (i,
    ring.val, d.pos) = true)
  ∧ (∀ (s : State) (ring : Fin 65536) (d : Desc) (i : Nat), (s.ring ring).work.find? (fun d => d.dtype == 0x43 && !s.rma.revoking.any (fun x => x.2.1 == ring.val && x.2.2
    == d.pos)) = some d → s.mayCarry ring 0x43 = true → leAt d.bytes 0 2 = 0 → bits (leAt d.bytes 0 4) 24 7 = 0 → leAt d.bytes 4 4 = i → i < 2 ^ 20 → d.zero 8 56 = true
    → s.ownsWin (s.ownerOf ring) i = false → ∃ t, exec (.winRevoke ring) s = .next t ∧ t.ended s ring d.pos 1 0 ∧ t.win i = s.win i)
  ∧ (∀ (s : State) (ring : Fin 65536) (d : Desc), (s.ring ring).work.find? (fun d => d.dtype == 0x43 && !s.rma.revoking.any (fun x => x.2.1 == ring.val && x.2.2 == d.pos))
    = some d → s.mayCarry ring 0x43 = false ∨ leAt d.bytes 0 2 ≠ 0 ∨ bits (leAt d.bytes 0 4) 24 7 ≠ 0 ∨ bits (leAt d.bytes 4 4) 20 12 ≠ 0 ∨ d.zero 8 56 = false → ∃ t,
    exec (.winRevoke ring) s = .next t ∧ t.ended s ring d.pos 2 0 ∧ t.rma.wins = s.rma.wins)
  ∧ (∀ (s : State) (ring : Fin 65536), (s.ring ring).work.find? (fun d => d.dtype == 0x43 && !s.rma.revoking.any (fun x => x.2.1 == ring.val && x.2.2 == d.pos)) = none →
    (s.nextDesc ring).any (fun d => d.dtype == 0x43 && !s.rma.revoking.any (fun x => x.2.1 == ring.val && x.2.2 == d.pos)) = false → exec (.winRevoke ring) s = .next
    (s))
  ∧ (∀ (s : State) (window : Fin 1048576) (ring pos : Nat), s.rma.revoking.find? (fun x => x.1 == window.val) = some (window.val, ring, pos) → (s.ring ring).work.any (fun
    d => d.pos == pos) = true → ∃ t, exec (.revokeDrained window) s = .next t ∧ t.ended s ring pos 0 (s.winKey window) ∧ t.rma.revoking.contains (window.val, ring, pos)
    = false)
  ∧ (∀ (s : State) (window : Fin 1048576), s.rma.revoking.find? (fun x => x.1 == window.val) = none → exec (.revokeDrained window) s = .next (s))

/-- RMA packets in turn are placed and answered, responses land in the initiator's memory, endpoints and connections change state (16_remote_memory_access.md). -/
def Obligations.RmaTargetEndpointsAndConnections : Prop :=
  (∀ (s : State) (port : Fin 16) (back : BackendResult) (g : RxItem) (u : Udp) (p : RmaIn) (q : Peer) (w : RmaWin), s.served 1 = true → s.rxHead (512 + port.val) = some
    g → udpOf g.bytes = some u → s.isRma g.bytes = true → s.fenced 6 = false → rmaIn u = p → p.h.op = opWrite → s.rmaBad p = none → p.h.conn = true → s.connState p.h.dst
    = 1 → p.h.durable = false → s.peer? p.key = some q → p.h.psn = q.expected → s.win (p.h.key / 4096) = w → s.ownsWin (s.rmaOwner p.key) (p.h.key / 4096) = true →
    s.rmaOwner p.key < 2056 → s.live (s.rmaOwner p.key) = true → p.h.key % 4096 = w.gen → w.attached = true → w.wr = true → p.h.offset + p.h.plen ≤ w.len → w.persist =
    false → ∃ t, exec (.writePktRx port back) s = .next t ∧ t.wrote s (s.rmaOwner p.key) (w.base + p.h.offset) p.payload ∧ (t.peer? p.key).map (·.expected) = some
    ((q.expected + 1) % 2 ^ 32) ∧ Map.get [] (512 + port.val) t.fx.rx = (Map.get [] (512 + port.val) s.fx.rx).tail)
  ∧ (∀ (s : State) (port : Fin 16) (back : BackendResult) (g : RxItem) (u : Udp) (p : RmaIn) (q : Peer) (y : Nat), s.served 1 = true → s.rxHead (512 + port.val) = some g →
    udpOf g.bytes = some u → s.isRma g.bytes = true → s.fenced 6 = false → rmaIn u = p → p.h.op = opWrite → s.rmaBad p = none → p.h.conn = true → s.connState p.h.dst = 1
    → p.h.durable = false → s.peer? p.key = some q → p.h.psn = q.expected → (s.winCheck p p.h.plen).2 = .inl y → ∃ t, exec (.writePktRx port back) s = .next t ∧ t.fld
    F.HX_RMA_STAT_COUNT 12 = (s.fld F.HX_RMA_STAT_COUNT 12 + 1) % 2 ^ 64 ∧ (t.peer? p.key).map (·.expected) = some ((q.expected + 1) % 2 ^ 32) ∧ t.mem = s.mem ∧ Map.get
    [] (512 + port.val) t.fx.rx = (Map.get [] (512 + port.val) s.fx.rx).tail)
  ∧ (∀ (s : State) (port : Fin 16) (back : BackendResult) (g : RxItem) (u : Udp) (p : RmaIn) (q : Peer), s.served 1 = true → s.rxHead (512 + port.val) = some g → udpOf
    g.bytes = some u → s.isRma g.bytes = true → s.fenced 6 = false → rmaIn u = p → p.h.op = opWrite → s.rmaBad p = none → p.h.conn = true → s.connState p.h.dst = 1 →
    p.h.durable = false → s.peer? p.key = some q → p.h.psn ≠ q.expected → ∃ t, exec (.writePktRx port back) s = .next t ∧ (t.peer? p.key).map (·.expected) = some
    q.expected ∧ t.mem = s.mem ∧ Map.get [] (512 + port.val) t.fx.rx = (Map.get [] (512 + port.val) s.fx.rx).tail)
  ∧ (∀ (s : State) (port : Fin 16) (back : BackendResult) (g : RxItem) (u : Udp) (p : RmaIn), s.served 1 = true → s.rxHead (512 + port.val) = some g → udpOf g.bytes = some
    u → s.isRma g.bytes = true → s.fenced 6 = false → rmaIn u = p → p.h.op = opWrite → s.rmaBad p = none → p.h.conn = true → s.connState p.h.dst ≠ 1 → ∃ t, exec
    (.writePktRx port back) s = .next t ∧ t.fld F.HX_RMA_STAT_COUNT 11 = (s.fld F.HX_RMA_STAT_COUNT 11 + 1) % 2 ^ 64 ∧ t.rma = s.rma ∧ t.mem = s.mem ∧ Map.get [] (512 +
    port.val) t.fx.rx = (Map.get [] (512 + port.val) s.fx.rx).tail)
  ∧ (∀ (s : State) (port : Fin 16) (back : BackendResult) (g : RxItem) (u : Udp) (p : RmaIn), s.served 1 = true → s.rxHead (512 + port.val) = some g → udpOf g.bytes = some
    u → s.isRma g.bytes = true → s.fenced 6 = false → rmaIn u = p → p.h.op = opWrite → s.rmaBad p = none → p.h.conn = false → s.epState p.h.dst ≠ 2 → ∃ t, exec
    (.writePktRx port back) s = .next t ∧ t.fld F.HX_RMA_STAT_COUNT 12 = (s.fld F.HX_RMA_STAT_COUNT 12 + 1) % 2 ^ 64 ∧ t.mem = s.mem ∧ Map.get [] (512 + port.val)
    t.fx.rx = (Map.get [] (512 + port.val) s.fx.rx).tail)
  ∧ (∀ (s : State) (port : Fin 16) (back : BackendResult) (g : RxItem) (u : Udp) (p : RmaIn) (code : Nat), s.served 1 = true → s.rxHead (512 + port.val) = some g → udpOf
    g.bytes = some u → s.isRma g.bytes = true → s.fenced 6 = false → rmaIn u = p → p.h.op ≠ opReadReq ∧ p.h.op ≠ opReadResp ∧ p.h.op ≠ opAck → s.rmaBad p = some code → ∃
    t, exec (.writePktRx port back) s = .next t ∧ t.fld F.HX_RMA_STAT_COUNT 10 = (s.fld F.HX_RMA_STAT_COUNT 10 + 1) % 2 ^ 64 ∧ t.mem = s.mem ∧ Map.get [] (512 +
    port.val) t.fx.rx = (Map.get [] (512 + port.val) s.fx.rx).tail)
  ∧ (∀ (s : State) (port : Fin 16) (back : BackendResult), s.served 1 = false ∨ s.fenced 6 = true ∨ (s.rxHead (512 + port.val)).all (fun g => (udpOf g.bytes).all (fun u =>
    !s.isRma g.bytes || ((rmaIn u).h.op == opReadReq || (rmaIn u).h.op == opReadResp || (rmaIn u).h.op == opAck))) = true → exec (.writePktRx port back) s = .next (s))
  ∧ (∀ (s : State) (port : Fin 16) (ok : Bool) (data : List Byte) (back : BackendResult), s.served 1 = false ∨ s.fenced 6 = true ∨ (s.rxHead (512 + port.val)).all (fun g
    => (udpOf g.bytes).all (fun u => !s.isRma g.bytes || ((rmaIn u).h.op != opReadReq))) = true → exec (.readReqRx port ok data back) s = .next (s))
  ∧ (∀ (s : State) (port : Fin 16), s.served 1 = false ∨ s.fenced 6 = true ∨ (s.rxHead (512 + port.val)).all (fun g => (udpOf g.bytes).all (fun u => !s.isRma g.bytes ||
    ((rmaIn u).h.op != opReadResp))) = true → exec (.readRespRx port) s = .next (s))
  ∧ (∀ (s : State) (port : Fin 16) (data : List Byte) (back : BackendResult) (g : RxItem) (u : Udp) (p : RmaIn) (q : Peer) (w : RmaWin), s.served 1 = true → s.rxHead (512
    + port.val) = some g → udpOf g.bytes = some u → s.isRma g.bytes = true → s.fenced 6 = false → rmaIn u = p → p.h.op = opReadReq → s.rmaBad p = none → p.h.conn = true
    → s.connState p.h.dst = 1 → p.h.durable = false → s.peer? p.key = some q → p.h.psn = q.expected → s.win (p.h.key / 4096) = w → s.ownsWin (s.rmaOwner p.key) (p.h.key
    / 4096) = true → s.rmaOwner p.key < 2056 → s.live (s.rmaOwner p.key) = true → p.h.key % 4096 = w.gen → w.attached = true → w.rd = true → p.h.offset + p.h.msgLen ≤
    w.len → w.persist = false → p.h.msgLen ≠ 0 → p.h.msgLen ≤ 16777216 → data.length = p.h.msgLen → ∃ t, exec (.readReqRx port true data back) s = .next t ∧ (t.peer?
    p.key).map (·.expected) = some ((q.expected + 1) % 2 ^ 32) ∧ t.fld F.HX_RMA_STAT_COUNT 0 = (s.fld F.HX_RMA_STAT_COUNT 0 + (p.h.msgLen + s.pmtu - 1) / s.pmtu) % 2 ^
    64)
  ∧ (∀ (s : State) (port : Fin 16) (g : RxItem) (u : Udp) (p : RmaIn) (m : TxMsg) (x : TxPkt), s.served 1 = true → s.rxHead (512 + port.val) = some g → udpOf g.bytes =
    some u → s.isRma g.bytes = true → s.fenced 6 = false → rmaIn u = p → p.h.op = opReadResp → s.rmaBad p = none → if p.h.conn then s.connState p.h.dst = 1 else s.now <
    p.h.sendTs + s.horizon ∧ p.h.sendTs ≤ s.now + 2 * s.timeTol → m.ring < 65536 → s.rma.tx.find? (fun m => m.read && m.key == p.key && m.pkts.any (fun x => x.psn ==
    p.h.psn && !x.finished)) = some m → m.pkts.find? (fun x => x.psn == p.h.psn && !x.finished) = some x → p.h.offset + p.h.plen ≤ x.len → s.rmaOwner p.key < 2056 → ∃ t,
    exec (.readRespRx port) s = .next t ∧ t.wrote s (s.rmaOwner p.key) (m.laddr + x.off + p.h.offset) p.payload)
  ∧ (∀ (s : State) (who : Party) (ep : Fin 4096) (v : Word), s.admits who 6 8 = true → bit v.toNat 31 = true → s.epState ep = 0 → s.committed (bits v.toNat 16 12) = true →
    ∃ t, exec (.epEnable who ep v) s = .next t ∧ t.epState ep = 1 ∧ t.fld F.HX_RMA_EP_OWNER ep = bits v.toNat 16 12 ∧ t.fld F.HX_RMA_EP_TX_LP ep = bits v.toNat 0 10 ∧
    t.fld F.HX_RMA_EP_EN ep = 1)
  ∧ (∀ (s : State) (who : Party) (ep : Fin 4096) (v : Word), s.admits who 6 8 = true → bit v.toNat 31 = true → s.epState ep = 0 → s.committed (bits v.toNat 16 12) = false
    → ∃ t, exec (.epEnable who ep v) s = .next t ∧ t.epState ep = 0 ∧ t.fld F.HX_RMA_EP_EN ep = s.fld F.HX_RMA_EP_EN ep ∧ t.raised s 789 [.w (0x1000 + 16 * ep.val)] =
    true)
  ∧ (∀ (s : State) (who : Party) (ep : Fin 4096) (v : Word), s.admits who 6 8 = true → bit v.toNat 31 = true → s.epState ep ≠ 0 → ∃ t, exec (.epEnable who ep v) s = .next
    t ∧ t.epState ep = s.epState ep ∧ t.fld F.HX_RMA_EP_OWNER ep = s.fld F.HX_RMA_EP_OWNER ep ∧ t.fld F.HX_RMA_EP_TX_LP ep = s.fld F.HX_RMA_EP_TX_LP ep ∧ ((bits v.toNat
    16 12 ≠ s.fld F.HX_RMA_EP_OWNER ep ∨ bits v.toNat 0 10 ≠ s.fld F.HX_RMA_EP_TX_LP ep) → t.raised s 789 [.w (0x1000 + 16 * ep.val)] = true))
  ∧ (∀ (s : State) (who : Party) (ep : Fin 4096) (v : Word), s.admits who 6 8 = true → bit v.toNat 31 = false → exec (.epEnable who ep v) s = .next (s))
  ∧ (∀ (s : State) (who : Party) (ep : Fin 4096) (v : Word), s.admits who 6 8 = true → bit v.toNat 31 = false → s.epState ep ≠ 0 → ∃ t, exec (.epDisable who ep v) s =
    .next t ∧ t.epState ep = 0 ∧ t.fld F.HX_RMA_EP_EN ep = 0 ∧ t.rma.peers.all (fun p => !(p.key.conn == false && p.key.id == ep.val)) = true)
  ∧ (∀ (s : State) (who : Party) (ep : Fin 4096) (v : Word), s.admits who 6 8 = true → bit v.toNat 31 = false → s.epState ep = 0 → ∃ t, exec (.epDisable who ep v) s =
    .next t ∧ t.epState ep = 0 ∧ t.fld F.HX_RMA_EP_EN ep = 0 ∧ t.fld F.HX_RMA_EP_OWNER ep = bits v.toNat 16 12 ∧ t.fld F.HX_RMA_EP_TX_LP ep = bits v.toNat 0 10)
  ∧ (∀ (s : State) (who : Party) (ep : Fin 4096) (v : Word), s.admits who 6 8 = true → bit v.toNat 31 = true → exec (.epDisable who ep v) s = .next (s))
  ∧ (∀ (s : State) (ep : Fin 4096), s.epState ep = 1 → s.inSync = true → ∃ t, exec (.epHoldoffExpiry ep) s = .next t ∧ t.epState ep = 2 ∧ t.raised s 786 [.w ep, .w 1, .w
    2, .w 0] = true)
  ∧ (∀ (s : State) (ep : Fin 4096), s.epState ep ≠ 1 ∨ s.inSync = false → exec (.epHoldoffExpiry ep) s = .next (s))
  ∧ (∀ (s : State) (who : Party) (conn : Fin 16384), s.admits who 6 8 = true → s.connState conn ≠ 0 ∨ s.committed (s.fld F.HX_RMA_CONN_OWNER conn) = false → ∃ t, exec
    (.connect who conn) s = .next t ∧ t.connState conn = s.connState conn ∧ t.rma = s.rma ∧ t.raised s 789 [.w (0x40000 + 32 * conn.val + 28)] = true)
  ∧ (∀ (s : State) (who : Party) (conn : Fin 16384), s.admits who 6 8 = true → s.connState conn = 0 → exec (.connReset who conn) s = .next (s))
  ∧ (∀ (s : State) (who : Party) (conn : Fin 16384), s.admits who 6 8 = true → s.connState conn = 0 → s.committed (s.fld F.HX_RMA_CONN_OWNER conn) = true → ∃ t, exec
    (.connect who conn) s = .next t ∧ t.connState conn = 1 ∧ (t.peer? { conn := true, id := conn, addr := 0, peer := 0 }).map (fun p => (p.nextPsn, p.expected)) = some
    (0, 0) ∧ t.raised s 786 [.w (4096 + conn.val), .w 0, .w 1, .w 0] = true)
  ∧ (∀ (s : State) (who : Party) (conn : Fin 16384), s.admits who 6 8 = true → s.connState conn ≠ 0 → ∃ t, exec (.connReset who conn) s = .next t ∧ t.connState conn = 0 ∧
    t.rma.peers.all (fun p => !(p.key.conn == true && p.key.id == conn.val)) = true ∧ t.raised s 786 [.w (4096 + conn.val), .w (s.connState conn), .w 0, .w 3] = true)

/-- Namespaces change state as they are written, groups are admitted and certified, destages are issued, end, are retried or fail (17_storage_functions.md). -/
def Obligations.NamespacesCacheAndDestaging : Prop :=
  (∀ (s : State) (who : Party) (h : Fin 4096) (v : Word), s.admits who 6 9 = true → s.nsState h = 0 → s.nsHolds h = false → ∃ t, exec (.nsConfigWrite who h 1 v) s =
    .next t ∧ t.fld F.HX_STOR_NS_BASE_LBA h = (s.fld F.HX_STOR_NS_BASE_LBA h / 2 ^ 32 * 2 ^ 32 + v.toNat) % 2 ^ F.HX_STOR_NS_BASE_LBA.width ∧ t.nsState h = 0 ∧ t.mem =
    s.mem)
  ∧ (∀ (s : State) (who : Party) (h : Fin 4096) (v : Word), s.admits who 6 9 = true → s.nsState h = 0 → s.nsHolds h = false → ∃ t, exec (.nsConfigWrite who h 2 v) s =
    .next t ∧ t.fld F.HX_STOR_NS_BASE_LBA h = (v.toNat * 2 ^ 32 + s.fld F.HX_STOR_NS_BASE_LBA h % 2 ^ 32) % 2 ^ F.HX_STOR_NS_BASE_LBA.width ∧ t.nsState h = 0 ∧ t.mem =
    s.mem)
  ∧ (∀ (s : State) (who : Party) (h : Fin 4096) (v : Word), s.admits who 6 9 = true → s.nsState h = 0 → s.nsHolds h = false → ∃ t, exec (.nsConfigWrite who h 3 v) s =
    .next t ∧ t.fld F.HX_STOR_NS_NLBA h = (s.fld F.HX_STOR_NS_NLBA h / 2 ^ 32 * 2 ^ 32 + v.toNat) % 2 ^ F.HX_STOR_NS_NLBA.width ∧ t.nsState h = 0 ∧ t.mem = s.mem)
  ∧ (∀ (s : State) (who : Party) (h : Fin 4096) (v : Word), s.admits who 6 9 = true → s.nsState h = 0 → s.nsHolds h = false → ∃ t, exec (.nsConfigWrite who h 4 v) s =
    .next t ∧ t.fld F.HX_STOR_NS_NLBA h = (v.toNat * 2 ^ 32 + s.fld F.HX_STOR_NS_NLBA h % 2 ^ 32) % 2 ^ F.HX_STOR_NS_NLBA.width ∧ t.nsState h = 0 ∧ t.mem = s.mem)
  ∧ (∀ (s : State) (who : Party) (h : Fin 4096) (v : Word), s.admits who 6 9 = true → s.nsState h = 0 → s.nsHolds h = false → ∃ t, exec (.nsConfigWrite who h 5 v) s =
    .next t ∧ t.fld F.HX_STOR_NS_BK_ID h = (v.toNat) % 2 ^ F.HX_STOR_NS_BK_ID.width ∧ t.nsState h = 0 ∧ t.mem = s.mem)
  ∧ (∀ (s : State) (who : Party) (h : Fin 4096) (v : Word), s.admits who 6 9 = true → s.nsState h = 0 → s.nsHolds h = false → ∃ t, exec (.nsConfigWrite who h 6 v) s =
    .next t ∧ t.fld F.HX_STOR_NS_KEY h = (v.toNat) % 2 ^ F.HX_STOR_NS_KEY.width ∧ t.nsState h = 0 ∧ t.mem = s.mem)
  ∧ (∀ (s : State) (who : Party) (h : Fin 4096) (w : Fin 8) (v : Word), s.admits who 6 9 = true → s.nsState h ≠ 0 ∨ s.nsHolds h = true → w = 1 ∨ w = 2 ∨ w = 3 ∨ w = 4 ∨ w
    = 5 ∨ w = 6 → ∃ t, exec (.nsConfigWrite who h w v) s = .next t ∧ t.raised s 794 [.w (32 * h + 4 * w)] = true ∧ (∀ f ∈ [F.HX_STOR_NS_BASE_LBA, F.HX_STOR_NS_NLBA,
    F.HX_STOR_NS_BK_ID, F.HX_STOR_NS_KEY, F.HX_STOR_NS_STATE], t.fld f h = s.fld f h))
  ∧ (∀ (s : State) (who : Party) (h : Fin 4096) (v : Word), s.admits who 6 9 = true → s.nsState h = 0 → s.nsHolds h = false → bit v.toNat 31 = true → bit v.toNat 30 = true
    → s.fld F.HX_RMA_CONN_STATE (bits (s.fld F.HX_STOR_NS_BK_ID h) 0 14) ≠ 1 → ∃ t, exec (.nsConfigWrite who h 0 v) s = .next t ∧ t.nsState h = 1 ∧ t.flag
    F.HX_STOR_NS_EN h = true ∧ t.flag F.HX_STOR_NS_BACKEND h = true ∧ t.flag F.HX_STOR_NS_CACHE h = bit v.toNat 29 ∧ t.flag F.HX_STOR_NS_VWC h = bit v.toNat 28 ∧ t.flag
    F.HX_STOR_NS_LBA4K h = bit v.toNat 27 ∧ t.raised s 790 [.w h, .w 0, .w 1, .w 0] = true)
  ∧ (∀ (s : State) (who : Party) (h : Fin 4096) (v : Word), s.admits who 6 9 = true → s.nsState h ≠ 0 ∨ s.nsHolds h = true → bit v.toNat 31 = true → ∃ t, exec
    (.nsConfigWrite who h 0 v) s = .next t ∧ t.nsState h = s.nsState h ∧ t.stor = s.stor ∧ t.raised s 794 [.w (32 * h.val)] = true)
  ∧ (∀ (s : State) (who : Party) (h : Fin 4096) (v : Word), s.admits who 6 9 = true → s.nsState h = 0 → s.nsHolds h = false → bit v.toNat 31 = true → bit v.toNat 30 =
    false → s.fld F.HX_RP_SUBLINK_STATUS_STATE (bits v.toNat 16 3) ≠ 3 → ∃ t, exec (.nsConfigWrite who h 0 v) s = .next t ∧ t.nsState h = 1 ∧ t.flag F.HX_STOR_NS_EN h =
    true ∧ t.fld F.HX_STOR_NS_DRIVE h = bits v.toNat 16 3)
  ∧ (∀ (s : State) (who : Party) (h : Fin 4096) (v : Word), s.admits who 6 9 = true → s.nsState h = 0 → s.nsHolds h = false → bit v.toNat 31 = true → bit v.toNat 30 =
    false → s.fld F.HX_RP_SUBLINK_STATUS_STATE (bits v.toNat 16 3) = 3 → (Map.get {} (bits v.toNat 16 3) s.stor.drives).spaces.find? (fun x => x.1 == s.fld
    F.HX_STOR_NS_BK_ID h) = none → ∃ t, exec (.nsConfigWrite who h 0 v) s = .next t ∧ t.nsState h = 4 ∧ t.fld F.HX_STOR_NS_FAIL_CODE h = 3 ∧ t.raised s 790 [.w h, .w 1,
    .w 4, .w 3] = true)
  ∧ (∀ (s : State) (who : Party) (h : Fin 4096) (v : Word) (cap : Nat), s.admits who 6 9 = true → s.nsState h = 0 → s.nsHolds h = false → bit v.toNat 31 = true → bit
    v.toNat 30 = false → s.fld F.HX_RP_SUBLINK_STATUS_STATE (bits v.toNat 16 3) = 3 → (Map.get {} (bits v.toNat 16 3) s.stor.drives).spaces.find? (fun x => x.1 == s.fld
    F.HX_STOR_NS_BK_ID h) = some (s.fld F.HX_STOR_NS_BK_ID h, if bit v.toNat 27 then 4096 else 512, false, cap) → s.fld F.HX_STOR_NS_BASE_LBA h + s.nlba h ≤ cap → (∀ g ∈
    s.attached, g = h.val ∨ s.remote g = true ∨ s.fld F.HX_STOR_NS_DRIVE g ≠ bits v.toNat 16 3) → ∃ t, exec (.nsConfigWrite who h 0 v) s = .next t ∧ t.nsState h = 2 ∧
    t.fld F.HX_STOR_NS_FAIL_CODE h = 0 ∧ t.raised s 790 [.w h, .w 1, .w 2, .w 0] = true)
  ∧ (∀ (s : State) (who : Party) (h : Fin 4096), s.admits who 6 9 = true → s.nsState h ≠ 0 → s.nsState h ≠ 5 → ∃ t, exec (.nsDisable who h) s = .next t ∧ t.flag
    F.HX_STOR_NS_EN h = false ∧ t.nsState h = (if s.nsHolds h then 5 else 0) ∧ t.raised s 790 [.w h, .w (s.nsState h), .w 5, .w (s.fld F.HX_STOR_NS_FAIL_CODE h)] = true)
  ∧ (∀ (s : State) (who : Party) (h : Fin 4096), s.admits who 6 9 = true → s.nsState h = 0 ∨ s.nsState h = 5 → ∃ t, exec (.nsDisable who h) s = .next t ∧ t.nsState h =
    s.nsState h ∧ t.flag F.HX_STOR_NS_EN h = false ∧ t.stor = s.stor)
  ∧ (∀ (s : State) (who : Party) (h : Fin 4096), s.admits who 6 9 = true → s.nsState h = 3 ∨ s.nsState h = 5 → s.flag F.HX_STOR_NS_EN h = false → ∃ t, exec (.nsDiscard h
    who) s = .next t ∧ t.nsState h = 0 ∧ t.stor.vers = s.stor.vers.filter (fun v => v.handle != h.val) ∧ t.stor.waitq = s.stor.waitq.filter (fun g => g.handle != h.val)
    ∧ t.stor.destages = s.stor.destages.filter (fun d => d.handle != h.val) ∧ t.stor.lost = s.stor.lost.filter (fun x => x.handle != h.val))
  ∧ (∀ (s : State) (who : Party) (h : Fin 4096), s.admits who 6 9 = true → s.nsState h ≠ 3 → s.nsState h ≠ 5 → ∃ t, exec (.nsDiscard h who) s = .next t ∧ t.stor = s.stor ∧
    t.raised s 794 [.w (32 * h + 28)] = true)
  ∧ (∀ (s : State) (who : Party) (h : Fin 4096), s.admits who 6 9 = true → s.nsState h = 3 ∨ s.nsState h = 5 → s.flag F.HX_STOR_NS_EN h = true → s.backend h = false → ∃ t,
    exec (.nsDiscard h who) s = .next t ∧ t.nsState h = 1 ∧ t.stor.vers = s.stor.vers.filter (fun v => v.handle != h.val) ∧ t.stor.waitq = s.stor.waitq.filter (fun g =>
    g.handle != h.val) ∧ t.stor.destages = s.stor.destages.filter (fun d => d.handle != h.val))
  ∧ (∀ (s : State), s.inService = false ∨ s.stor.waitq.head?.all (fun g => decide (s.cacheBlocks < s.stor.vers.length + g.blocks.length)) = true → exec .groupAdmit s =
    .next (s))
  ∧ (∀ (s : State), s.inService = false ∨ s.bothHeld = true ∨ s.lowestUncert = none → ∃ t, exec .groupCertify s = .next t ∧ t.stor.vers = s.stor.vers)
  ∧ (∀ (s : State) (q : Nat), s.lowestUncert = some q → (s.stor.vers.filter (fun v => v.seq == q && v.st == .uncert)).any (fun v => s.stor.open'.contains v.gid) = true ∨
    s.fld F.AO_LED_STATUS_CERT_LIMIT < s.nCert + (s.stor.vers.filter (fun v => v.seq == q && v.st == .uncert)).length → ∃ t, exec .groupCertify s = .next t ∧ t.stor.vers
    = s.stor.vers)
  ∧ (∀ (s : State), s.lowestUncert = none → exec .certWaitWarn s = .next (s))
  ∧ (∀ (s : State), s.stor.vers.filter s.mayDestage = [] → exec .destageIssue s = .next (s))
  ∧ (∀ (s : State) (v : Ver) (q : Peer), s.stor.vers.filter s.mayDestage = [v] → s.remote v.handle = true → v.mask = 255 → q.key =
    { conn := true, id := bits (s.fld F.HX_STOR_NS_BK_ID v.handle) 0 14, addr := 0, peer := 0 } → s.peer? q.key = some q → s.rma.tx.filter (fun m => m.key == q.key) = []
    → ∃ t, exec .destageIssue s = .next t ∧ t.stor.destages = s.stor.destages ++ [{ id := s.stor.nextId, handle := v.handle, vers := [v.id], spans := [(8 * v.blk, 8)] }]
    ∧ t.rma.tx.any (fun m => m.key == q.key && m.ring == 65536 && m.destage == s.stor.nextId && m.durable && !m.read && m.len == m.data.length && m.data ==
    (s.readSectors v.handle (8 * v.blk) 8 []).flatMap (·.1) && m.wkey == s.fld F.HX_STOR_NS_KEY v.handle && m.roff == s.fld F.HX_STOR_NS_BASE_LBA v.handle * s.lbaSize
    v.handle + 4096 * v.blk) = true)
  ∧ (∀ (s : State) (i : Nat) (r : BackendResult), (s.stor.destages[i]?).all (fun d => s.remote d.handle) = true ∨ s.served 2 = false → exec (.destageDone i r) s = .next
    (s))
  ∧ (∀ (s : State) (i : Nat) (d : Destage) (r : BackendResult), s.stor.destages[i]? = some d → s.remote d.handle = false → s.served 2 = true → r = .failed ∨ r = .rejected
    → d.tries < 2 → ∃ t, exec (.destageDone i r) s = .next t ∧ t.stor.destages[i]? = some { d with tries := d.tries + 1, aborted := false, again := false })
  ∧ (∀ (s : State) (i : Nat) (d : Destage) (r : BackendResult), s.stor.destages[i]? = some d → s.remote d.handle = false → s.served 2 = true → r = .failed ∨ r = .rejected
    → 2 ≤ d.tries → s.nsState d.handle = 2 → ∃ t, exec (.destageDone i r) s = .next t ∧ t.nsState d.handle = 3 ∧ t.stor.destages.any (fun x => x.id == d.id) = false ∧
    t.stor.vers.all (fun v => !d.vers.contains v.id || v.failed) = true)
  ∧ (∀ (s : State) (i : Nat) (d : Destage), s.stor.destages[i]? = some d → s.remote d.handle = false → s.served 2 = true → s.nsState d.handle = 2 → ∃ t, exec (.destageDone
    i .lost) s = .next t ∧ t.nsState d.handle = 3 ∧ t.stor.destages.any (fun x => x.id == d.id) = false ∧ t.raised s 790 [.w d.handle, .w 2, .w 3, .w (s.fld
    F.HX_STOR_NS_FAIL_CODE d.handle)] = true)
  ∧ (∀ (s : State) (i : Nat), (s.stor.destages[i]?).all (fun d => s.remote d.handle) = true → exec (.drvTimeout i) s = .next (s))
  ∧ (∀ (s : State) (i : Nat) (d : Destage), s.stor.destages[i]? = some d → s.remote d.handle = false → d.again = true → d.tries < 2 → ∃ t, exec (.drvTimeout i) s = .next t
    ∧ t.stor.destages[i]? = some { d with tries := d.tries + 1, aborted := false, again := false } ∧ t.fld F.HX_STOR_STAT_COUNT 5 = (s.fld F.HX_STOR_STAT_COUNT 5 + 1) %
    2 ^ 64)
  ∧ (∀ (s : State) (i : Nat) (d : Destage), s.stor.destages[i]? = some d → s.remote d.handle = false → d.again = true → 2 ≤ d.tries → s.nsState d.handle = 2 → ∃ t, exec
    (.drvTimeout i) s = .next t ∧ t.nsState d.handle = 3 ∧ t.stor.destages.any (fun x => x.id == d.id) = false)
  ∧ (∀ (s : State) (slot : Fin 8), s.stor.destages.any (fun d => s.onDrive slot d.handle && d.aborted) = false → exec (.drvAbortTimeout slot) s = .next (s))
  ∧ (∀ (s : State) (fi : Fin 2056), s.flag F.HX_STOR_FN_PS_APST_EN fi = false ∨ 4 ≤ s.fld F.HX_STOR_FN_PS_PS fi ∨ ((s.fnStor fi).apst.getD (s.fld F.HX_STOR_FN_PS_PS fi)
    (0, 0)).1 = 0 ∨ s.rings.any (fun x => s.ownerOf x.1 == fi.val && x.2.work.any (fun d => dtypeClass d.dtype == some 2)) = true → exec (.apstIdle fi) s = .next (s))
  ∧ (∀ (s : State) (g : Group) (rest : List Group), s.stor.waitq = g :: rest → s.inService = true → s.stor.vers.length + g.blocks.length ≤ s.cacheBlocks → ∃ t, exec
    .groupAdmit s = .next t ∧ t.stor.waitq = rest ∧ t.stor.seq = s.stor.seq + 1 ∧ t.stor.vers.length = s.stor.vers.length + g.blocks.length ∧ (t.stor.vers.drop
    s.stor.vers.length).all (fun v => v.gid == g.gid && v.seq == s.stor.seq + 1 && v.handle == g.handle && v.st == .uncert) = true)
  ∧ (∀ (s : State) (q : Nat), s.lowestUncert = some q → s.inService = true → s.bothHeld = false → (s.stor.vers.filter (fun v => v.seq == q && v.st == .uncert)).any (fun v
    => s.stor.open'.contains v.gid) = false → s.nCert + (s.stor.vers.filter (fun v => v.seq == q && v.st == .uncert)).length ≤ s.fld F.AO_LED_STATUS_CERT_LIMIT → ∃ t,
    exec .groupCertify s = .next t ∧ t.stor.vers.any (fun v => v.seq == q && v.st == .uncert) = false ∧ t.fld F.HX_STOR_STATUS_UNCERT_BLOCKS = (t.stor.vers.filter (fun v
    => v.st == .uncert)).length % 2 ^ 23)
  ∧ (∀ (s : State) (q : Nat), s.lowestUncert = some q → (Map.get {} (793 * 2 ^ 32) s.limits).at' = 0 → ∃ t, exec .certWaitWarn s = .next t ∧ t.raised s 793 [.d q] = true ∧
    t.stor = s.stor)
  ∧ (∀ (s : State) (v : Ver), s.stor.vers.filter s.mayDestage = [v] → s.remote v.handle = false → v.mask = 255 → ∃ t, exec .destageIssue s = .next t ∧ t.stor.destages =
    s.stor.destages ++ [{ id := s.stor.nextId, handle := v.handle, vers := [v.id], spans := [(8 * v.blk, 8)] }] ∧ .drive (s.fld F.HX_STOR_NS_DRIVE v.handle) 1 (s.fld
    F.HX_STOR_NS_BK_ID v.handle) (s.fld F.HX_STOR_NS_BASE_LBA v.handle + 8 * v.blk / s.secPer v.handle) (8 / s.secPer v.handle) ∈ t.sent s)
  ∧ (∀ (s : State) (i : Nat) (d : Destage) (bs : List Byte), s.stor.destages[i]? = some d → s.remote d.handle = false → s.served 2 = true → ∃ t, exec (.destageDone i (.ok
    bs)) s = .next t ∧ t.stor.destages.any (fun x => x.id == d.id) = false ∧ t.stor.vers.any (fun v => d.vers.contains v.id) = false)
  ∧ (∀ (s : State) (i : Nat) (d : Destage), s.stor.destages[i]? = some d → s.remote d.handle = false → s.served 2 = true → d.tries < 2 → ∃ t, exec (.destageDone i .media)
    s = .next t ∧ t.stor.destages[i]? = some { d with tries := d.tries + 1, aborted := false, again := false } ∧ t.fld F.HX_STOR_STAT_COUNT 6 = (s.fld
    F.HX_STOR_STAT_COUNT 6 + 1) % 2 ^ 64)
  ∧ (∀ (s : State) (i : Nat) (d : Destage), s.stor.destages[i]? = some d → s.remote d.handle = false → s.served 2 = true → 2 ≤ d.tries → s.nsState d.handle = 2 → ∃ t, exec
    (.destageDone i .media) s = .next t ∧ t.nsState d.handle = 3 ∧ t.stor.destages.any (fun x => x.id == d.id) = false ∧ t.raised s 792 [.w d.handle, .d
    (((d.spans.head?.map (·.1)).getD 0) / s.secPer d.handle)] = true ∧ t.stor.vers.all (fun v => !d.vers.contains v.id || v.failed) = true)
  ∧ (∀ (s : State) (i : Nat) (d : Destage), s.stor.destages[i]? = some d → s.remote d.handle = false → d.again = false → ∃ t, exec (.drvTimeout i) s = .next t ∧
    t.stor.destages[i]? = some { d with aborted := true } ∧ .drive (s.fld F.HX_STOR_NS_DRIVE d.handle) 3 (s.fld F.HX_STOR_NS_BK_ID d.handle) 0 0 ∈ t.sent s ∧ t.fld
    F.HX_STOR_STAT_COUNT 5 = (s.fld F.HX_STOR_STAT_COUNT 5 + 1) % 2 ^ 64)
  ∧ (∀ (s : State) (slot : Fin 8), s.stor.destages.any (fun d => s.onDrive slot d.handle && d.aborted) = true → s.stor.destages.all (fun d => !s.onDrive slot d.handle ||
    !d.again) = true → (s.stor.destages.map (·.id)).Nodup → ∃ t, exec (.drvAbortTimeout slot) s = .next t ∧ .drive slot 4 0 0 0 ∈ t.sent s ∧ t.stor.destages =
    s.stor.destages.map (fun d => if s.onDrive slot d.handle then { d with aborted := false, again := true } else d))
  ∧ (∀ (s : State) (fi : Fin 2056) (e : Nat × Nat), s.flag F.HX_STOR_FN_PS_APST_EN fi = true → s.fld F.HX_STOR_FN_PS_PS fi < 4 → (s.fnStor fi).apst.getD (s.fld
    F.HX_STOR_FN_PS_PS fi) (0, 0) = e → e.1 = 3 ∨ e.1 = 4 → s.rings.any (fun x => s.ownerOf x.1 == fi.val && x.2.work.any (fun d => dtypeClass d.dtype == some 2)) =
    false → ∃ t, exec (.apstIdle fi) s = .next t ∧ t.fld F.HX_STOR_FN_PS_PS fi = e.1)

/-- Storage and admin commands answer, move data, and end their descriptors with the status of their checks (17_storage_functions.md). Where a storage command of a function rests on host data, the data and the backend's answer are the command's operands. -/
def Obligations.NvmeCommands : Prop :=
  (∀ (s : State) (ring : Fin 65536) (d : Desc) (a b : Nat), s.inService = true → (s.ring ring).work.find? (fun d => d.dtype == 0x50 && (d.opc == 0 || !ioKnown d.opc) &&
    !s.begun ring d.pos) = some d → d.opc = 0 → (s.fnWake (s.ownerOf ring)).ioCheck (s.ownerOf ring) d false = .inl (a, b) → ∃ t, exec (.nvmFlush ring) s = .next t ∧
    t.ended s ring d.pos a b ∧ t.fld F.HX_STOR_STAT_COUNT 10 = (s.fld F.HX_STOR_STAT_COUNT 10 + 1) % 2 ^ 64)
  ∧ (∀ (s : State) (ring : Fin 65536) (d : Desc), s.inService = true → (s.ring ring).work.find? (fun d => d.dtype == 0x50 && (d.opc == 0 || !ioKnown d.opc) && !s.begun
    ring d.pos) = some d → ioKnown d.opc = false → ∃ t, exec (.nvmFlush ring) s = .next t ∧ t.ended s ring d.pos 0x40 0x8002)
  ∧ (∀ (s : State) (ring : Fin 65536) (d : Desc) (n : Nat), s.inService = true → (s.ring ring).work.find? (fun d => d.dtype == 0x50 && (d.opc == 0 || !ioKnown d.opc) &&
    !s.begun ring d.pos) = some d → d.opc = 0 → (s.fnWake (s.ownerOf ring)).ioCheck (s.ownerOf ring) d false = .inr n → s.volatileFor (s.ownerOf ring) n = false → ∃ t,
    exec (.nvmFlush ring) s = .next t ∧ t.ended s ring d.pos 0 0)
  ∧ (∀ (s : State) (ring : Fin 65536) (d : Desc) (n : Nat), s.inService = true → (s.ring ring).work.find? (fun d => d.dtype == 0x50 && (d.opc == 0 || !ioKnown d.opc) &&
    !s.begun ring d.pos) = some d → d.opc = 0 → (s.fnWake (s.ownerOf ring)).ioCheck (s.ownerOf ring) d false = .inr n → s.volatileFor (s.ownerOf ring) n = true →
    s.stor.vers.any (fun v => v.handle == n && v.st == .uncert && !s.stor.cmds.any (fun c => c.gids.contains v.gid)) = true → ∃ t, exec (.nvmFlush ring) s = .next t ∧
    t.stor.cmds.any (fun c => c.ring == ring.val && c.pos == d.pos && c.cert && s.stor.vers.all (fun v => !(v.handle == n && v.st == .uncert) || s.stor.cmds.any (fun c
    => c.gids.contains v.gid) || c.gids.contains v.gid)) = true ∧ t.stor.vers = s.stor.vers)
  ∧ (∀ (s : State) (ring : Fin 65536), s.inService = false ∨ (s.ring ring).work.find? (fun d => d.dtype == 0x50 && (d.opc == 0 || !ioKnown d.opc) && !s.begun ring d.pos) =
    none ∧ (s.nextDesc ring).any (fun d => d.dtype == 0x50 && (d.opc == 0 || !ioKnown d.opc) && !s.begun ring d.pos) = false → exec (.nvmFlush ring) s = .next (s))
  ∧ (∀ (s : State) (ring : Fin 65536) (d : Desc) (ok : Bool) (data : List Byte) (back : BackendResult) (a b : Nat), s.inService = true → s.stor.far.all (fun x => x.sent) =
    true → (s.ring ring).work.find? (s.isIo ring 1) = some d → d.list = false → (s.fnWake (s.ownerOf ring)).ioCheck (s.ownerOf ring) d true = .inl (a, b) → ∃ t, exec
    (.nvmWrite ring ok data back) s = .next t ∧ t.ended s ring d.pos a b ∧ t.fld F.HX_STOR_STAT_COUNT 10 = (s.fld F.HX_STOR_STAT_COUNT 10 + 1) % 2 ^ 64)
  ∧ (∀ (s : State) (ring : Fin 65536) (d : Desc) (n : Nat) (ok : Bool) (data bs : List Byte) (l m : List (Nat × Nat × Bool)) (back : BackendResult), s.inService = true →
    s.stor.far.all (fun x => x.sent) = true → (s.ring ring).work.find? (s.isIo ring 1) = some d → (s.fnWake (s.ownerOf ring)).ioCheck (s.ownerOf ring) d true = .inr n →
    s.segments (s.ownerOf ring) d ok data = some l → l.all (fun x => x.2.2) = true → m = (if d.list then l else [(d.dataAddr, d.nlb * s.lbaSize n, true)]) → m.all (fun x
    => x.2.1 != 0) = true → m.foldl (fun a x => a + x.2.1) 0 = d.nlb * s.lbaSize n → s.gather (s.ownerOf ring) ok (if d.list then data.drop (16 * d.nseg) else data) m =
    some bs → back ≠ .rejected ∨ s.flag F.HX_CIPH_NS_EN n = false → s.flag F.HX_STOR_NS_CACHE n = true → ∃ t, exec (.nvmWrite ring ok data back) s = .next t ∧
    t.stor.cmds.any (fun c => c.ring == ring.val && c.pos == d.pos && c.handle == n && c.cert == (d.fua || !s.volatileFor (s.ownerOf ring) n) && c.bytes == d.nlb *
    s.lbaSize n) = true ∧ (s.stor.waitq.isPrefixOf t.stor.waitq && decide (s.stor.waitq.length < t.stor.waitq.length) && (t.stor.waitq.drop s.stor.waitq.length).all (fun
    g => g.handle == n)) = true ∧ t.fld F.HX_STOR_STAT_COUNT 3 = (s.fld F.HX_STOR_STAT_COUNT 3 + d.nlb * s.lbaSize n) % 2 ^ 64)
  ∧ (∀ (s : State) (ring : Fin 65536) (d : Desc) (n : Nat) (ok : Bool) (data bs : List Byte) (l m : List (Nat × Nat × Bool)) (out : List Byte), s.inService = true →
    s.stor.far.all (fun x => x.sent) = true → (s.ring ring).work.find? (s.isIo ring 1) = some d → (s.fnWake (s.ownerOf ring)).ioCheck (s.ownerOf ring) d true = .inr n →
    s.segments (s.ownerOf ring) d ok data = some l → l.all (fun x => x.2.2) = true → m = (if d.list then l else [(d.dataAddr, d.nlb * s.lbaSize n, true)]) → m.all (fun x
    => x.2.1 != 0) = true → m.foldl (fun a x => a + x.2.1) 0 = d.nlb * s.lbaSize n → s.gather (s.ownerOf ring) ok (if d.list then data.drop (16 * d.nseg) else data) m =
    some bs → s.flag F.HX_STOR_NS_CACHE n = false → s.remote n = false → ∃ t, exec (.nvmWrite ring ok data (.ok out)) s = .next t ∧ t.ended s ring d.pos 0 0 ∧ .drive
    (s.fld F.HX_STOR_NS_DRIVE n) 1 (s.fld F.HX_STOR_NS_BK_ID n) (s.fld F.HX_STOR_NS_BASE_LBA n + d.slba) d.nlb ∈ t.sent s)
  ∧ (∀ (s : State) (ring : Fin 65536) (d : Desc) (n : Nat) (ok : Bool) (data bs : List Byte) (l m : List (Nat × Nat × Bool)) (back : BackendResult), s.inService = true →
    s.stor.far.all (fun x => x.sent) = true → (s.ring ring).work.find? (s.isIo ring 1) = some d → (s.fnWake (s.ownerOf ring)).ioCheck (s.ownerOf ring) d true = .inr n →
    s.segments (s.ownerOf ring) d ok data = some l → l.all (fun x => x.2.2) = true → m = (if d.list then l else [(d.dataAddr, d.nlb * s.lbaSize n, true)]) → m.all (fun x
    => x.2.1 != 0) = true → m.foldl (fun a x => a + x.2.1) 0 = d.nlb * s.lbaSize n → s.gather (s.ownerOf ring) ok (if d.list then data.drop (16 * d.nseg) else data) m =
    some bs → s.flag F.HX_STOR_NS_CACHE n = false → s.remote n = false → back = .media ∨ back = .failed ∨ back = .lost → ∃ t, exec (.nvmWrite ring ok data back) s =
    .next t ∧ t.ended s ring d.pos 0x40 (backendStatus back true))
  ∧ (∀ (s : State) (ring : Fin 65536) (d : Desc) (n : Nat) (ok : Bool) (data bs : List Byte) (l m : List (Nat × Nat × Bool)) (back : BackendResult) (q : Peer), s.inService
    = true → s.stor.far.all (fun x => x.sent) = true → (s.ring ring).work.find? (s.isIo ring 1) = some d → (s.fnWake (s.ownerOf ring)).ioCheck (s.ownerOf ring) d true =
    .inr n → s.segments (s.ownerOf ring) d ok data = some l → l.all (fun x => x.2.2) = true → m = (if d.list then l else [(d.dataAddr, d.nlb * s.lbaSize n, true)]) →
    m.all (fun x => x.2.1 != 0) = true → m.foldl (fun a x => a + x.2.1) 0 = d.nlb * s.lbaSize n → s.gather (s.ownerOf ring) ok (if d.list then data.drop (16 * d.nseg)
    else data) m = some bs → s.flag F.HX_STOR_NS_CACHE n = false → s.remote n = true → back ≠ .rejected ∨ s.flag F.HX_CIPH_NS_EN n = false → q.key =
    { conn := true, id := bits (s.fld F.HX_STOR_NS_BK_ID n) 0 14, addr := 0, peer := 0 } → s.peer? q.key = some q → s.rma.tx.filter (fun m => m.key == q.key) = [] →
    s.stor.far.all (fun x => x.sent) = true → ∃ t, exec (.nvmWrite ring ok data back) s = .next t ∧ t.stor.far.any (fun x => x.ring == ring.val && x.pos == d.pos &&
    x.handle == n && x.write && x.sent) = true ∧ t.rma.tx.any (fun m => m.key == q.key && m.ring == 65537 && m.durable && !m.read && m.len == d.nlb * s.lbaSize n) =
    true)
  ∧ (∀ (s : State) (ring : Fin 65536) (ok : Bool) (data : List Byte) (back : BackendResult), s.stor.far.all (fun x => x.sent) = true → s.inService = false ∨ (s.ring
    ring).work.find? (s.isIo ring 1) = none ∧ (s.nextDesc ring).any (s.isIo ring 1) = false → exec (.nvmWrite ring ok data back) s = .next (s))
  ∧ (∀ (s : State) (ring : Fin 65536) (d : Desc) (ok : Bool) (data : List Byte) (back : BackendResult) (a b : Nat), s.inService = true → s.stor.far.all (fun x => x.sent) =
    true → (s.ring ring).work.find? (s.isIo ring 0x81) = some d → d.list = false → (s.fnWake (s.ownerOf ring)).ioCheck (s.ownerOf ring) d true = .inl (a, b) → ∃ t, exec
    (.orderedWrite ring ok data back) s = .next t ∧ t.ended s ring d.pos a b ∧ t.fld F.HX_STOR_STAT_COUNT 10 = (s.fld F.HX_STOR_STAT_COUNT 10 + 1) % 2 ^ 64)
  ∧ (∀ (s : State) (ring : Fin 65536) (d : Desc) (n : Nat) (ok : Bool) (data bs : List Byte) (l m : List (Nat × Nat × Bool)) (back : BackendResult), s.inService = true →
    s.stor.far.all (fun x => x.sent) = true → (s.ring ring).work.find? (s.isIo ring 0x81) = some d → (s.fnWake (s.ownerOf ring)).ioCheck (s.ownerOf ring) d true = .inr n
    → s.segments (s.ownerOf ring) d ok data = some l → l.all (fun x => x.2.2) = true → m = (if d.list then l else [(d.dataAddr, d.nlb * s.lbaSize n, true)]) → m.all (fun
    x => x.2.1 != 0) = true → m.foldl (fun a x => a + x.2.1) 0 = d.nlb * s.lbaSize n → s.gather (s.ownerOf ring) ok (if d.list then data.drop (16 * d.nseg) else data) m
    = some bs → back ≠ .rejected ∨ s.flag F.HX_CIPH_NS_EN n = false → s.flag F.HX_STOR_NS_CACHE n = true → ∃ t, exec (.orderedWrite ring ok data back) s = .next t ∧
    t.stor.cmds.any (fun c => c.ring == ring.val && c.pos == d.pos && c.handle == n && c.cert == (d.fua || !s.volatileFor (s.ownerOf ring) n) && c.bytes == d.nlb *
    s.lbaSize n) = true ∧ (s.stor.waitq.isPrefixOf t.stor.waitq && decide (s.stor.waitq.length < t.stor.waitq.length) && (t.stor.waitq.drop s.stor.waitq.length).all (fun
    g => g.handle == n)) = true ∧ t.fld F.HX_STOR_STAT_COUNT 3 = (s.fld F.HX_STOR_STAT_COUNT 3 + d.nlb * s.lbaSize n) % 2 ^ 64)
  ∧ (∀ (s : State) (ring : Fin 65536) (d : Desc) (n : Nat) (ok : Bool) (data bs : List Byte) (l m : List (Nat × Nat × Bool)) (out : List Byte), s.inService = true →
    s.stor.far.all (fun x => x.sent) = true → (s.ring ring).work.find? (s.isIo ring 0x81) = some d → (s.fnWake (s.ownerOf ring)).ioCheck (s.ownerOf ring) d true = .inr n
    → s.segments (s.ownerOf ring) d ok data = some l → l.all (fun x => x.2.2) = true → m = (if d.list then l else [(d.dataAddr, d.nlb * s.lbaSize n, true)]) → m.all (fun
    x => x.2.1 != 0) = true → m.foldl (fun a x => a + x.2.1) 0 = d.nlb * s.lbaSize n → s.gather (s.ownerOf ring) ok (if d.list then data.drop (16 * d.nseg) else data) m
    = some bs → s.flag F.HX_STOR_NS_CACHE n = false → s.remote n = false → ∃ t, exec (.orderedWrite ring ok data (.ok out)) s = .next t ∧ t.ended s ring d.pos 0 0 ∧
    .drive (s.fld F.HX_STOR_NS_DRIVE n) 1 (s.fld F.HX_STOR_NS_BK_ID n) (s.fld F.HX_STOR_NS_BASE_LBA n + d.slba) d.nlb ∈ t.sent s ∧ ((Map.get {} (s.fld F.HX_STOR_NS_DRIVE
    n) s.stor.drives).vwc = true → .drive (s.fld F.HX_STOR_NS_DRIVE n) 2 (s.fld F.HX_STOR_NS_BK_ID n) 0 0 ∈ t.sent s))
  ∧ (∀ (s : State) (ring : Fin 65536) (d : Desc) (n : Nat) (ok : Bool) (data bs : List Byte) (l m : List (Nat × Nat × Bool)) (back : BackendResult), s.inService = true →
    s.stor.far.all (fun x => x.sent) = true → (s.ring ring).work.find? (s.isIo ring 0x81) = some d → (s.fnWake (s.ownerOf ring)).ioCheck (s.ownerOf ring) d true = .inr n
    → s.segments (s.ownerOf ring) d ok data = some l → l.all (fun x => x.2.2) = true → m = (if d.list then l else [(d.dataAddr, d.nlb * s.lbaSize n, true)]) → m.all (fun
    x => x.2.1 != 0) = true → m.foldl (fun a x => a + x.2.1) 0 = d.nlb * s.lbaSize n → s.gather (s.ownerOf ring) ok (if d.list then data.drop (16 * d.nseg) else data) m
    = some bs → s.flag F.HX_STOR_NS_CACHE n = false → s.remote n = false → back = .media ∨ back = .failed ∨ back = .lost → ∃ t, exec (.orderedWrite ring ok data back) s
    = .next t ∧ t.ended s ring d.pos 0x40 (backendStatus back true))
  ∧ (∀ (s : State) (ring : Fin 65536) (d : Desc) (n : Nat) (ok : Bool) (data bs : List Byte) (l m : List (Nat × Nat × Bool)) (back : BackendResult) (q : Peer), s.inService
    = true → s.stor.far.all (fun x => x.sent) = true → (s.ring ring).work.find? (s.isIo ring 0x81) = some d → (s.fnWake (s.ownerOf ring)).ioCheck (s.ownerOf ring) d true
    = .inr n → s.segments (s.ownerOf ring) d ok data = some l → l.all (fun x => x.2.2) = true → m = (if d.list then l else [(d.dataAddr, d.nlb * s.lbaSize n, true)]) →
    m.all (fun x => x.2.1 != 0) = true → m.foldl (fun a x => a + x.2.1) 0 = d.nlb * s.lbaSize n → s.gather (s.ownerOf ring) ok (if d.list then data.drop (16 * d.nseg)
    else data) m = some bs → s.flag F.HX_STOR_NS_CACHE n = false → s.remote n = true → back ≠ .rejected ∨ s.flag F.HX_CIPH_NS_EN n = false → q.key =
    { conn := true, id := bits (s.fld F.HX_STOR_NS_BK_ID n) 0 14, addr := 0, peer := 0 } → s.peer? q.key = some q → s.rma.tx.filter (fun m => m.key == q.key) = [] →
    s.stor.far.all (fun x => x.sent) = true → ∃ t, exec (.orderedWrite ring ok data back) s = .next t ∧ t.stor.far.any (fun x => x.ring == ring.val && x.pos == d.pos &&
    x.handle == n && x.write && x.sent) = true ∧ t.rma.tx.any (fun m => m.key == q.key && m.ring == 65537 && m.durable && !m.read && m.len == d.nlb * s.lbaSize n) =
    true)
  ∧ (∀ (s : State) (ring : Fin 65536) (ok : Bool) (data : List Byte) (back : BackendResult), s.stor.far.all (fun x => x.sent) = true → s.inService = false ∨ (s.ring
    ring).work.find? (s.isIo ring 0x81) = none ∧ (s.nextDesc ring).any (s.isIo ring 0x81) = false → exec (.orderedWrite ring ok data back) s = .next (s))
  ∧ (∀ (s : State) (ring : Fin 65536) (d : Desc) (back : BackendResult) (a b : Nat), s.inService = true → s.stor.far.all (fun x => x.sent) = true → (s.ring
    ring).work.find? (s.isIo ring 8) = some d → (s.fnWake (s.ownerOf ring)).ioCheck (s.ownerOf ring) d true = .inl (a, b) → ∃ t, exec (.writeZeroes ring back) s = .next
    t ∧ t.ended s ring d.pos a b ∧ t.fld F.HX_STOR_STAT_COUNT 10 = (s.fld F.HX_STOR_STAT_COUNT 10 + 1) % 2 ^ 64)
  ∧ (∀ (s : State) (ring : Fin 65536) (d : Desc) (n : Nat) (back : BackendResult), s.inService = true → s.stor.far.all (fun x => x.sent) = true → (s.ring ring).work.find?
    (s.isIo ring 8) = some d → (s.fnWake (s.ownerOf ring)).ioCheck (s.ownerOf ring) d true = .inr n → back ≠ .rejected ∨ s.flag F.HX_CIPH_NS_EN n = false → s.flag
    F.HX_STOR_NS_CACHE n = true → ∃ t, exec (.writeZeroes ring back) s = .next t ∧ t.stor.cmds.any (fun c => c.ring == ring.val && c.pos == d.pos && c.handle == n &&
    c.cert == (d.fua || !s.volatileFor (s.ownerOf ring) n) && c.bytes == d.nlb * s.lbaSize n) = true ∧ (s.stor.waitq.isPrefixOf t.stor.waitq && decide
    (s.stor.waitq.length < t.stor.waitq.length) && (t.stor.waitq.drop s.stor.waitq.length).all (fun g => g.handle == n)) = true ∧ t.fld F.HX_STOR_STAT_COUNT 3 = (s.fld
    F.HX_STOR_STAT_COUNT 3 + d.nlb * s.lbaSize n) % 2 ^ 64)
  ∧ (∀ (s : State) (ring : Fin 65536) (d : Desc) (n : Nat) (out : List Byte), s.inService = true → s.stor.far.all (fun x => x.sent) = true → (s.ring ring).work.find?
    (s.isIo ring 8) = some d → (s.fnWake (s.ownerOf ring)).ioCheck (s.ownerOf ring) d true = .inr n → s.flag F.HX_STOR_NS_CACHE n = false → s.remote n = false → ∃ t,
    exec (.writeZeroes ring (.ok out)) s = .next t ∧ t.ended s ring d.pos 0 0 ∧ .drive (s.fld F.HX_STOR_NS_DRIVE n) 1 (s.fld F.HX_STOR_NS_BK_ID n) (s.fld
    F.HX_STOR_NS_BASE_LBA n + d.slba) d.nlb ∈ t.sent s)
  ∧ (∀ (s : State) (ring : Fin 65536) (d : Desc) (n : Nat) (back : BackendResult), s.inService = true → s.stor.far.all (fun x => x.sent) = true → (s.ring ring).work.find?
    (s.isIo ring 8) = some d → (s.fnWake (s.ownerOf ring)).ioCheck (s.ownerOf ring) d true = .inr n → s.flag F.HX_STOR_NS_CACHE n = false → s.remote n = false → back =
    .media ∨ back = .failed ∨ back = .lost → ∃ t, exec (.writeZeroes ring back) s = .next t ∧ t.ended s ring d.pos 0x40 (backendStatus back true))
  ∧ (∀ (s : State) (ring : Fin 65536) (d : Desc) (n : Nat) (back : BackendResult) (q : Peer), s.inService = true → s.stor.far.all (fun x => x.sent) = true → (s.ring
    ring).work.find? (s.isIo ring 8) = some d → (s.fnWake (s.ownerOf ring)).ioCheck (s.ownerOf ring) d true = .inr n → s.flag F.HX_STOR_NS_CACHE n = false → s.remote n =
    true → back ≠ .rejected ∨ s.flag F.HX_CIPH_NS_EN n = false → q.key = { conn := true, id := bits (s.fld F.HX_STOR_NS_BK_ID n) 0 14, addr := 0, peer := 0 } → s.peer?
    q.key = some q → s.rma.tx.filter (fun m => m.key == q.key) = [] → s.stor.far.all (fun x => x.sent) = true → ∃ t, exec (.writeZeroes ring back) s = .next t ∧
    t.stor.far.any (fun x => x.ring == ring.val && x.pos == d.pos && x.handle == n && x.write && x.sent) = true ∧ t.rma.tx.any (fun m => m.key == q.key && m.ring ==
    65537 && m.durable && !m.read && m.len == d.nlb * s.lbaSize n) = true)
  ∧ (∀ (s : State) (ring : Fin 65536) (back : BackendResult), s.stor.far.all (fun x => x.sent) = true → s.inService = false ∨ (s.ring ring).work.find? (s.isIo ring 8) =
    none ∧ (s.nextDesc ring).any (s.isIo ring 8) = false → exec (.writeZeroes ring back) s = .next (s))
  ∧ (∀ (s : State) (ring : Fin 65536) (d : Desc) (ok : Bool) (data : List Byte) (back : BackendResult) (a b : Nat), s.inService = true → s.stor.far.all (fun x => x.sent) =
    true → (s.ring ring).work.find? (s.isIo ring 2) = some d → d.list = false → (s.fnWake (s.ownerOf ring)).ioCheck (s.ownerOf ring) d false = .inl (a, b) → ∃ t, exec
    (.nvmRead ring ok data back) s = .next t ∧ t.ended s ring d.pos a b ∧ t.fld F.HX_STOR_STAT_COUNT 10 = (s.fld F.HX_STOR_STAT_COUNT 10 + 1) % 2 ^ 64)
  ∧ (∀ (s : State) (ring : Fin 65536) (d : Desc) (n : Nat) (ok : Bool) (data : List Byte) (l m : List (Nat × Nat × Bool)) (bs : List Byte), s.inService = true →
    s.stor.far.all (fun x => x.sent) = true → (s.ring ring).work.find? (s.isIo ring 2) = some d → (s.fnWake (s.ownerOf ring)).ioCheck (s.ownerOf ring) d false = .inr n →
    s.segments (s.ownerOf ring) d ok data = some l → l.all (fun x => x.2.2) = true → m = (if d.list then l else [(d.dataAddr, d.nlb * s.lbaSize n, true)]) → m.all (fun x
    => x.2.1 != 0) = true → m.foldl (fun a x => a + x.2.1) 0 = d.nlb * s.lbaSize n → s.stor.vers.filter (fun v => v.handle == n) = [] → s.stor.dealloc = [] → s.stor.lost
    = [] → s.flag F.HX_CIPH_NS_EN n = false → s.remote n = false → ∃ t, exec (.nvmRead ring ok data (.ok bs)) s = .next t ∧ (d.list = false → t.wrote s (s.ownerOf ring)
    d.dataAddr ((List.range (d.nlb * s.lbaSize n)).map (fun i => bs.getD i 0))) ∧ t.ended s ring d.pos 0 0 ∧ t.fld F.HX_STOR_STAT_COUNT 2 = (s.fld F.HX_STOR_STAT_COUNT 2
    + d.nlb * s.lbaSize n) % 2 ^ 64)
  ∧ (∀ (s : State) (ring : Fin 65536) (d : Desc) (n : Nat) (ok : Bool) (data : List Byte) (l m : List (Nat × Nat × Bool)) (back : BackendResult), s.inService = true →
    s.stor.far.all (fun x => x.sent) = true → (s.ring ring).work.find? (s.isIo ring 2) = some d → (s.fnWake (s.ownerOf ring)).ioCheck (s.ownerOf ring) d false = .inr n →
    s.segments (s.ownerOf ring) d ok data = some l → l.all (fun x => x.2.2) = true → m = (if d.list then l else [(d.dataAddr, d.nlb * s.lbaSize n, true)]) → m.all (fun x
    => x.2.1 != 0) = true → m.foldl (fun a x => a + x.2.1) 0 = d.nlb * s.lbaSize n → s.stor.vers.filter (fun v => v.handle == n) = [] → s.stor.dealloc = [] → s.stor.lost
    = [] → s.flag F.HX_CIPH_NS_EN n = false → s.remote n = false → back = .media ∨ back = .failed ∨ back = .lost → ∃ t, exec (.nvmRead ring ok data back) s = .next t ∧
    t.ended s ring d.pos 0x40 (backendStatus back false))
  ∧ (∀ (s : State) (ring : Fin 65536) (d : Desc) (n : Nat) (ok : Bool) (data : List Byte) (l m : List (Nat × Nat × Bool)) (back : BackendResult), s.inService = true →
    s.stor.far.all (fun x => x.sent) = true → (s.ring ring).work.find? (s.isIo ring 2) = some d → (s.fnWake (s.ownerOf ring)).ioCheck (s.ownerOf ring) d false = .inr n →
    s.segments (s.ownerOf ring) d ok data = some l → l.all (fun x => x.2.2) = true → m = (if d.list then l else [(d.dataAddr, d.nlb * s.lbaSize n, true)]) → m.all (fun x
    => x.2.1 != 0) = true → m.foldl (fun a x => a + x.2.1) 0 = d.nlb * s.lbaSize n → s.stor.lost.any (fun x => x.hits n (d.slba * s.secPer n) (d.nlb * s.secPer n)) =
    true → ∃ t, exec (.nvmRead ring ok data back) s = .next t ∧ t.ended s ring d.pos 0x40 0x8502)
  ∧ (∀ (s : State) (ring : Fin 65536) (d : Desc) (n : Nat) (ok : Bool) (data : List Byte) (l m : List (Nat × Nat × Bool)) (back : BackendResult) (q : Peer), s.inService =
    true → s.stor.far.all (fun x => x.sent) = true → (s.ring ring).work.find? (s.isIo ring 2) = some d → (s.fnWake (s.ownerOf ring)).ioCheck (s.ownerOf ring) d false =
    .inr n → s.segments (s.ownerOf ring) d ok data = some l → l.all (fun x => x.2.2) = true → m = (if d.list then l else [(d.dataAddr, d.nlb * s.lbaSize n, true)]) →
    m.all (fun x => x.2.1 != 0) = true → m.foldl (fun a x => a + x.2.1) 0 = d.nlb * s.lbaSize n → s.stor.vers.filter (fun v => v.handle == n) = [] → s.stor.dealloc = []
    → s.stor.lost = [] → s.flag F.HX_CIPH_NS_EN n = false → s.remote n = true → q.key =
    { conn := true, id := bits (s.fld F.HX_STOR_NS_BK_ID n) 0 14, addr := 0, peer := 0 } → s.peer? q.key = some q → s.rma.tx.filter (fun m => m.key == q.key) = [] →
    s.stor.far.all (fun x => x.sent) = true → ∃ t, exec (.nvmRead ring ok data back) s = .next t ∧ t.stor.far.any (fun x => x.ring == ring.val && x.pos == d.pos &&
    x.handle == n && !x.write && x.sent) = true ∧ t.rma.tx.any (fun m => m.key == q.key && m.ring == 65537 && m.read && m.len == d.nlb * s.lbaSize n) = true)
  ∧ (∀ (s : State) (ring : Fin 65536) (ok : Bool) (data : List Byte) (back : BackendResult), s.stor.far.all (fun x => x.sent) = true → s.inService = false ∨ (s.ring
    ring).work.find? (s.isIo ring 2) = none ∧ (s.nextDesc ring).any (s.isIo ring 2) = false → exec (.nvmRead ring ok data back) s = .next (s))
  ∧ (∀ (s : State) (ring : Fin 65536) (d : Desc) (ok : Bool) (data : List Byte) (a b : Nat), s.inService = true → (s.ring ring).work.find? (s.isIo ring 9) = some d →
    d.list = false → (s.fnWake (s.ownerOf ring)).ioCheck (s.ownerOf ring) d true = .inl (a, b) → ∃ t, exec (.datasetManagement ring ok data) s = .next t ∧ t.ended s ring
    d.pos a b)
  ∧ (∀ (s : State) (ring : Fin 65536) (d : Desc) (n : Nat) (ok : Bool) (data bs : List Byte) (l m : List (Nat × Nat × Bool)), s.inService = true → (s.ring ring).work.find?
    (s.isIo ring 9) = some d → (s.fnWake (s.ownerOf ring)).ioCheck (s.ownerOf ring) d true = .inr n → s.segments (s.ownerOf ring) d ok data = some l → l.all (fun x =>
    x.2.2) = true → m = (if d.list then l else [(d.dataAddr, 16 * (leAt d.bytes 40 4 % 256 + 1), true)]) → m.all (fun x => x.2.1 != 0) = true → m.foldl (fun a x => a +
    x.2.1) 0 = 16 * (leAt d.bytes 40 4 % 256 + 1) → s.gather (s.ownerOf ring) ok (if d.list then data.drop (16 * d.nseg) else data) m = some bs → leAt d.bytes 40 4 = 256
    → leAt bs 4 4 ≠ 0 → leAt bs 8 8 + leAt bs 4 4 ≤ s.nlba n → ∃ t, exec (.datasetManagement ring ok data) s = .next t ∧ t.stor.dealloc = cutSpans s.stor.dealloc n (leAt
    bs 8 8 * s.secPer n) (leAt bs 4 4 * s.secPer n) ++ [{ handle := n, sec := leAt bs 8 8 * s.secPer n, n := leAt bs 4 4 * s.secPer n }] ∧ t.ended s ring d.pos 0 0)
  ∧ (∀ (s : State) (ring : Fin 65536) (d : Desc) (n : Nat) (ok : Bool) (data bs : List Byte) (l m : List (Nat × Nat × Bool)), s.inService = true → (s.ring ring).work.find?
    (s.isIo ring 9) = some d → (s.fnWake (s.ownerOf ring)).ioCheck (s.ownerOf ring) d true = .inr n → s.segments (s.ownerOf ring) d ok data = some l → l.all (fun x =>
    x.2.2) = true → m = (if d.list then l else [(d.dataAddr, 16 * (leAt d.bytes 40 4 % 256 + 1), true)]) → m.all (fun x => x.2.1 != 0) = true → m.foldl (fun a x => a +
    x.2.1) 0 = 16 * (leAt d.bytes 40 4 % 256 + 1) → s.gather (s.ownerOf ring) ok (if d.list then data.drop (16 * d.nseg) else data) m = some bs → bit (leAt d.bytes 40 4)
    8 = false → (dsmRanges (leAt d.bytes 40 4 % 256 + 1) bs).all (fun x => decide (x.1 + x.2 ≤ s.nlba n)) = true → ∃ t, exec (.datasetManagement ring ok data) s = .next
    t ∧ t.stor.dealloc = s.stor.dealloc ∧ t.ended s ring d.pos 0 0)
  ∧ (∀ (s : State) (ring : Fin 65536) (d : Desc) (n : Nat) (ok : Bool) (data bs : List Byte) (l m : List (Nat × Nat × Bool)), s.inService = true → (s.ring ring).work.find?
    (s.isIo ring 9) = some d → (s.fnWake (s.ownerOf ring)).ioCheck (s.ownerOf ring) d true = .inr n → s.segments (s.ownerOf ring) d ok data = some l → l.all (fun x =>
    x.2.2) = true → m = (if d.list then l else [(d.dataAddr, 16 * (leAt d.bytes 40 4 % 256 + 1), true)]) → m.all (fun x => x.2.1 != 0) = true → m.foldl (fun a x => a +
    x.2.1) 0 = 16 * (leAt d.bytes 40 4 % 256 + 1) → s.gather (s.ownerOf ring) ok (if d.list then data.drop (16 * d.nseg) else data) m = some bs → (dsmRanges (leAt
    d.bytes 40 4 % 256 + 1) bs).all (fun x => decide (x.1 + x.2 ≤ s.nlba n)) = false → ∃ t, exec (.datasetManagement ring ok data) s = .next t ∧ t.stor.dealloc =
    s.stor.dealloc ∧ t.ended s ring d.pos 0x40 0x8100)
  ∧ (∀ (s : State) (ring : Fin 65536) (ok : Bool) (data : List Byte), s.inService = false ∨ (s.ring ring).work.find? (s.isIo ring 9) = none ∧ (s.nextDesc ring).any (s.isIo
    ring 9) = false → exec (.datasetManagement ring ok data) s = .next (s))
  ∧ (∀ (s : State) (ring : Fin 65536) (d : Desc) (h : Nat), s.inService = true → (s.ring ring).work.find? (fun d => d.dtype == 0x51 && (d.opc != 2 && d.opc != 9 && d.opc
    != 10)) = some d → d.opc = 6 → d.adminInvalid = false → d.cdw10 % 256 = 0 → s.handleOf (s.ownerOf ring) d.nsid = some h → ∃ t, exec (.identify ring) s = .next t ∧
    t.wrote s (s.ownerOf ring) d.dataAddr (s.identifyNs h) ∧ t.ended s ring d.pos 0 0)
  ∧ (∀ (s : State) (ring : Fin 65536) (d : Desc), s.inService = true → (s.ring ring).work.find? (fun d => d.dtype == 0x51 && (d.opc != 2 && d.opc != 9 && d.opc != 10)) =
    some d → d.opc = 6 → d.adminInvalid = false → d.cdw10 % 256 = 0 → s.handleOf (s.ownerOf ring) d.nsid = none → ∃ t, exec (.identify ring) s = .next t ∧ t.ended s ring
    d.pos 1 0x8016)
  ∧ (∀ (s : State) (ring : Fin 65536) (d : Desc), s.inService = true → (s.ring ring).work.find? (fun d => d.dtype == 0x51 && (d.opc != 2 && d.opc != 9 && d.opc != 10)) =
    some d → d.opc = 6 → d.adminInvalid = false → d.cdw10 % 256 = 1 → ∃ t, exec (.identify ring) s = .next t ∧ t.wrote s (s.ownerOf ring) d.dataAddr (s.identifyCtrl
    (s.ownerOf ring)) ∧ t.ended s ring d.pos 0 0)
  ∧ (∀ (s : State) (ring : Fin 65536) (d : Desc), s.inService = true → (s.ring ring).work.find? (fun d => d.dtype == 0x51 && (d.opc != 2 && d.opc != 9 && d.opc != 10)) =
    some d → d.opc = 6 → d.adminInvalid = false → d.cdw10 % 256 = 2 → ∃ t, exec (.identify ring) s = .next t ∧ t.wrote s (s.ownerOf ring) d.dataAddr (s.identifyList
    (s.ownerOf ring) d.nsid) ∧ t.ended s ring d.pos 0 0)
  ∧ (∀ (s : State) (ring : Fin 65536) (d : Desc), s.inService = true → (s.ring ring).work.find? (fun d => d.dtype == 0x51 && (d.opc != 2 && d.opc != 9 && d.opc != 10)) =
    some d → d.opc = 6 → d.adminInvalid = true ∨ 3 ≤ d.cdw10 % 256 → ∃ t, exec (.identify ring) s = .next t ∧ t.ended s ring d.pos 0x40 0x8004)
  ∧ (∀ (s : State) (ring : Fin 65536) (d : Desc), s.inService = true → (s.ring ring).work.find? (fun d => d.dtype == 0x51 && (d.opc != 2 && d.opc != 9 && d.opc != 10)) =
    some d → d.opc ≠ 6 → ∃ t, exec (.identify ring) s = .next t ∧ t.ended s ring d.pos 0x40 0x8002)
  ∧ (∀ (s : State) (ring : Fin 65536), s.inService = false ∨ (s.ring ring).work.find? (fun d => d.dtype == 0x51 && (d.opc != 2 && d.opc != 9 && d.opc != 10)) = none ∧
    (s.nextDesc ring).any (fun d => d.dtype == 0x51 && (d.opc != 2 && d.opc != 9 && d.opc != 10)) = false → exec (.identify ring) s = .next (s))
  ∧ (∀ (s : State) (ring : Fin 65536) (d : Desc), s.inService = true → (s.ring ring).work.find? (fun d => d.dtype == 0x51 && d.opc == 2) = some d → d.adminInvalid = false
    → d.cdw10 % 256 = 1 ∨ d.cdw10 % 256 = 2 → ∃ t, exec (.getLogPage ring) s = .next t ∧ t.ended s ring d.pos 0 0)
  ∧ (∀ (s : State) (ring : Fin 65536) (d : Desc), s.inService = true → (s.ring ring).work.find? (fun d => d.dtype == 0x51 && d.opc == 2) = some d → d.adminInvalid = true ∨
    d.cdw10 % 256 ≠ 1 ∧ d.cdw10 % 256 ≠ 2 → ∃ t, exec (.getLogPage ring) s = .next t ∧ t.ended s ring d.pos 0x40 0x8004)
  ∧ (∀ (s : State) (ring : Fin 65536), s.inService = false ∨ (s.ring ring).work.find? (fun d => d.dtype == 0x51 && d.opc == 2) = none ∧ (s.nextDesc ring).any (fun d =>
    d.dtype == 0x51 && d.opc == 2) = false → exec (.getLogPage ring) s = .next (s))
  ∧ (∀ (s : State) (ring : Fin 65536) (d : Desc) (ok : Bool) (data : List Byte), s.inService = true → (s.ring ring).work.find? (fun d => d.dtype == 0x51 && d.opc == 9) =
    some d → d.adminInvalid = false → d.cdw10 % 256 = 2 → d.cdw11 % 32 ≤ 4 → ∃ t, exec (.setFeatures ring ok data) s = .next t ∧ t.fld F.HX_STOR_FN_PS_PS (s.ownerOf
    ring) = d.cdw11 % 32 ∧ t.ended s ring d.pos 0 0)
  ∧ (∀ (s : State) (ring : Fin 65536) (d : Desc) (ok : Bool) (data : List Byte), s.inService = true → (s.ring ring).work.find? (fun d => d.dtype == 0x51 && d.opc == 9) =
    some d → d.adminInvalid = false → d.cdw10 % 256 = 6 → ∃ t, exec (.setFeatures ring ok data) s = .next t ∧ t.flag F.HX_STOR_FN_PS_WCE (s.ownerOf ring) = bit d.cdw11 0
    ∧ t.ended s ring d.pos 0 0)
  ∧ (∀ (s : State) (ring : Fin 65536) (d : Desc) (ok : Bool) (data : List Byte) (bs : List Byte) (l : List (Nat × Nat)), s.inService = true → (s.ring ring).work.find? (fun
    d => d.dtype == 0x51 && d.opc == 9) = some d → d.adminInvalid = false → d.cdw10 % 256 = 12 → s.sourceBytes (s.ownerOf ring) d.dataAddr 256 ok data = some bs →
    apstTable 32 0 bs = some l → ∃ t, exec (.setFeatures ring ok data) s = .next t ∧ (t.fnStor (s.ownerOf ring)).apst = l ∧ t.flag F.HX_STOR_FN_PS_APST_EN (s.ownerOf
    ring) = bit d.cdw11 0 ∧ t.ended s ring d.pos 0 0)
  ∧ (∀ (s : State) (ring : Fin 65536) (d : Desc) (ok : Bool) (data : List Byte) (bs : List Byte), s.inService = true → (s.ring ring).work.find? (fun d => d.dtype == 0x51
    && d.opc == 9) = some d → d.adminInvalid = false → d.cdw10 % 256 = 12 → s.sourceBytes (s.ownerOf ring) d.dataAddr 256 ok data = some bs → apstTable 32 0 bs = none →
    ∃ t, exec (.setFeatures ring ok data) s = .next t ∧ t.ended s ring d.pos 0x40 0x8004)
  ∧ (∀ (s : State) (ring : Fin 65536) (d : Desc) (ok : Bool) (data : List Byte), s.inService = true → (s.ring ring).work.find? (fun d => d.dtype == 0x51 && d.opc == 9) =
    some d → d.adminInvalid = true ∨ d.cdw10 % 256 = 2 ∧ 4 < d.cdw11 % 32 ∨ d.cdw10 % 256 ≠ 2 ∧ d.cdw10 % 256 ≠ 6 ∧ d.cdw10 % 256 ≠ 12 → ∃ t, exec (.setFeatures ring ok
    data) s = .next t ∧ t.ended s ring d.pos 0x40 0x8004)
  ∧ (∀ (s : State) (ring : Fin 65536) (ok : Bool) (data : List Byte), s.inService = false ∨ (s.ring ring).work.find? (fun d => d.dtype == 0x51 && d.opc == 9) = none ∧
    (s.nextDesc ring).any (fun d => d.dtype == 0x51 && d.opc == 9) = false → exec (.setFeatures ring ok data) s = .next (s))
  ∧ (∀ (s : State) (ring : Fin 65536) (d : Desc), s.inService = true → (s.ring ring).work.find? (fun d => d.dtype == 0x51 && d.opc == 10) = some d → d.adminInvalid = false
    → d.cdw10 % 256 = 2 → ∃ t, exec (.getFeatures ring) s = .next t ∧ t.wrote s (s.ownerOf ring) (s.entryAddr ring d.pos + 52) (leBytes 4 (if 3 ≤ s.fld
    F.HX_STOR_FN_PS_PS (s.ownerOf ring) then t.fld F.HX_STOR_FN_PS_PS (s.ownerOf ring) else s.fld F.HX_STOR_FN_PS_PS (s.ownerOf ring))) ∧ t.ended s ring d.pos 0 0)
  ∧ (∀ (s : State) (ring : Fin 65536) (d : Desc), s.inService = true → (s.ring ring).work.find? (fun d => d.dtype == 0x51 && d.opc == 10) = some d → d.adminInvalid = false
    → d.cdw10 % 256 = 6 → ∃ t, exec (.getFeatures ring) s = .next t ∧ t.wrote s (s.ownerOf ring) (s.entryAddr ring d.pos + 52) (leBytes 4 (s.fld F.HX_STOR_FN_PS_WCE
    (s.ownerOf ring))) ∧ t.ended s ring d.pos 0 0)
  ∧ (∀ (s : State) (ring : Fin 65536) (d : Desc), s.inService = true → (s.ring ring).work.find? (fun d => d.dtype == 0x51 && d.opc == 10) = some d → d.adminInvalid = false
    → d.cdw10 % 256 = 12 → ∃ t, exec (.getFeatures ring) s = .next t ∧ t.wrote s (s.ownerOf ring) (s.entryAddr ring d.pos + 52) (leBytes 4 (s.fld F.HX_STOR_FN_PS_APST_EN
    (s.ownerOf ring))) ∧ t.wrote s (s.ownerOf ring) d.dataAddr ((List.range 32).flatMap (fun i => leBytes 8 (((s.fnStor (s.ownerOf ring)).apst.getD i (0, 0)).1 * 8 +
    ((s.fnStor (s.ownerOf ring)).apst.getD i (0, 0)).2 * 256))) ∧ t.ended s ring d.pos 0 0)
  ∧ (∀ (s : State) (ring : Fin 65536) (d : Desc), s.inService = true → (s.ring ring).work.find? (fun d => d.dtype == 0x51 && d.opc == 10) = some d → d.adminInvalid = true
    ∨ d.cdw10 % 256 ≠ 2 ∧ d.cdw10 % 256 ≠ 6 ∧ d.cdw10 % 256 ≠ 12 → ∃ t, exec (.getFeatures ring) s = .next t ∧ t.ended s ring d.pos 0x40 0x8004)
  ∧ (∀ (s : State) (ring : Fin 65536), s.inService = false ∨ (s.ring ring).work.find? (fun d => d.dtype == 0x51 && d.opc == 10) = none ∧ (s.nextDesc ring).any (fun d =>
    d.dtype == 0x51 && d.opc == 10) = false → exec (.getFeatures ring) s = .next (s))

/-- Key slots load and erase, jobs take lanes and end, and alarms zeroise every slot (18_cipher_engine.md). What a cipher computes is a constant without a body (log entry 5), so the statement names the output without saying what it is. -/
def Obligations.CipherEngine : Prop :=
  (∀ (s : State) (ring : Fin 65536) (d : Desc) (ok : Bool) (data : List Byte), (s.ring ring).work.find? (fun d => d.dtype == 0x60 && !s.changingAt ring d.pos) = some d →
    s.mayCarry ring 0x60 = false ∨ bits (leAt d.bytes 0 4) 24 7 ≠ 0 ∨ bits (leAt d.bytes 0 4) 0 6 ≠ 0 ∨ bits (leAt d.bytes 4 4) 28 4 ≠ 0 ∨ leAt d.bytes 8 8 % 8 ≠ 0 ∨
    d.zero 16 56 = false → ∃ t, exec (.keyLoad ring ok data) s = .next t ∧ t.ended s ring d.pos 2 0 ∧ t.ciph = s.ciph)
  ∧ (∀ (s : State) (ring : Fin 65536) (d : Desc) (ok : Bool) (data : List Byte), (s.ring ring).work.find? (fun d => d.dtype == 0x60 && !s.changingAt ring d.pos) = some d →
    s.mayCarry ring 0x60 = true → bits (leAt d.bytes 0 4) 24 7 = 0 → bits (leAt d.bytes 0 4) 0 6 = 0 → bits (leAt d.bytes 4 4) 28 4 = 0 → leAt d.bytes 8 8 % 8 = 0 →
    d.zero 16 56 = true → s.ownsSlot (s.ownerOf ring) (bits (leAt d.bytes 4 4) 0 14) = false ∨ bit (leAt d.bytes 0 4) 9 = true ∧ s.ownsSlot (s.ownerOf ring) (bits (leAt
    d.bytes 4 4) 14 14) = false → ∃ t, exec (.keyLoad ring ok data) s = .next t ∧ t.ended s ring d.pos 1 0 ∧ t.ciph = s.ciph)
  ∧ (∀ (s : State) (ring : Fin 65536) (d : Desc) (ok : Bool) (data : List Byte) (key : List Byte), (s.ring ring).work.find? (fun d => d.dtype == 0x60 && !s.changingAt ring
    d.pos) = some d → s.mayCarry ring 0x60 = true → bits (leAt d.bytes 0 4) 24 7 = 0 → bits (leAt d.bytes 0 4) 0 6 = 0 → bits (leAt d.bytes 4 4) 28 4 = 0 → leAt d.bytes
    8 8 % 8 = 0 → d.zero 16 56 = true → s.ownsSlot (s.ownerOf ring) (bits (leAt d.bytes 4 4) 0 14) = true → bit (leAt d.bytes 0 4) 9 = false ∨ s.ownsSlot (s.ownerOf
    ring) (bits (leAt d.bytes 4 4) 14 14) = true → s.material (bits (leAt d.bytes 0 4) 12 4) (bits (leAt d.bytes 0 4) 6 2) (bits (leAt d.bytes 4 4) 14 14) (bit (leAt
    d.bytes 0 4) 9) ((keyBytes (bits (leAt d.bytes 0 4) 12 4) (bits (leAt d.bytes 0 4) 6 2)).getD 16) (s.sourceBytes (s.ownerOf ring) (leAt d.bytes 8 8) ((keyBytes (bits
    (leAt d.bytes 0 4) 12 4) (bits (leAt d.bytes 0 4) 6 2)).getD 16 + if bit (leAt d.bytes 0 4) 9 then 8 else 0) ok data) = .inr key → ∃ t, exec (.keyLoad ring ok data)
    s = .next t ∧ t.loaded (bits (leAt d.bytes 4 4) 0 14) = true ∧ t.keyOf (bits (leAt d.bytes 4 4) 0 14) = key ∧ t.fld F.HX_CIPH_SLOT_MODE (bits (leAt d.bytes 4 4) 0
    14) = bits (leAt d.bytes 0 4) 12 4 % 2 ^ F.HX_CIPH_SLOT_MODE.width ∧ t.flag F.HX_CIPH_SLOT_ENC (bits (leAt d.bytes 4 4) 0 14) = bit (leAt d.bytes 0 4) 11 ∧ t.flag
    F.HX_CIPH_SLOT_DEC (bits (leAt d.bytes 4 4) 0 14) = bit (leAt d.bytes 0 4) 10 ∧ t.changingAt ring d.pos = true ∧ t.fld F.HX_CIPH_STAT_COUNT 4 = (s.fld
    F.HX_CIPH_STAT_COUNT 4 + 1) % 2 ^ 64 ∧ (bit (leAt d.bytes 0 4) 8 = true → t.wrote s (s.ownerOf ring) (leAt d.bytes 8 8) (List.replicate ((keyBytes (bits (leAt
    d.bytes 0 4) 12 4) (bits (leAt d.bytes 0 4) 6 2)).getD 16 + if bit (leAt d.bytes 0 4) 9 then 8 else 0) 0)))
  ∧ (∀ (s : State) (ring : Fin 65536) (d : Desc) (ok : Bool) (data : List Byte) (r : Nat), (s.ring ring).work.find? (fun d => d.dtype == 0x60 && !s.changingAt ring d.pos)
    = some d → s.mayCarry ring 0x60 = true → bits (leAt d.bytes 0 4) 24 7 = 0 → bits (leAt d.bytes 0 4) 0 6 = 0 → bits (leAt d.bytes 4 4) 28 4 = 0 → leAt d.bytes 8 8 % 8
    = 0 → d.zero 16 56 = true → s.ownsSlot (s.ownerOf ring) (bits (leAt d.bytes 4 4) 0 14) = true → bit (leAt d.bytes 0 4) 9 = false ∨ s.ownsSlot (s.ownerOf ring) (bits
    (leAt d.bytes 4 4) 14 14) = true → s.material (bits (leAt d.bytes 0 4) 12 4) (bits (leAt d.bytes 0 4) 6 2) (bits (leAt d.bytes 4 4) 14 14) (bit (leAt d.bytes 0 4) 9)
    ((keyBytes (bits (leAt d.bytes 0 4) 12 4) (bits (leAt d.bytes 0 4) 6 2)).getD 16) (s.sourceBytes (s.ownerOf ring) (leAt d.bytes 8 8) ((keyBytes (bits (leAt d.bytes 0
    4) 12 4) (bits (leAt d.bytes 0 4) 6 2)).getD 16 + if bit (leAt d.bytes 0 4) 9 then 8 else 0) ok data) = .inl r → ∃ t, exec (.keyLoad ring ok data) s = .next t ∧
    t.ended s ring d.pos r 0 ∧ t.ciph = s.ciph)
  ∧ (∀ (s : State) (ring : Fin 65536) (d : Desc) (ok : Bool) (data : List Byte), (s.ring ring).work.find? (fun d => d.dtype == 0x60 && !s.changingAt ring d.pos) = some d →
    s.mayCarry ring 0x60 = true → bits (leAt d.bytes 0 4) 24 7 = 0 → bits (leAt d.bytes 0 4) 0 6 = 0 → bits (leAt d.bytes 4 4) 28 4 = 0 → leAt d.bytes 8 8 % 8 = 0 →
    d.zero 16 56 = true → s.ownsSlot (s.ownerOf ring) (bits (leAt d.bytes 4 4) 0 14) = true → bit (leAt d.bytes 0 4) 9 = false ∨ s.ownsSlot (s.ownerOf ring) (bits (leAt
    d.bytes 4 4) 14 14) = true → (keyBytes (bits (leAt d.bytes 0 4) 12 4) (bits (leAt d.bytes 0 4) 6 2)) = none → ∃ t, exec (.keyLoad ring ok data) s = .next t ∧ t.ended
    s ring d.pos 0x45 0 ∧ t.ciph = s.ciph)
  ∧ (∀ (s : State) (ring : Fin 65536) (d : Desc) (ok : Bool) (data : List Byte), (s.ring ring).work.find? (fun d => d.dtype == 0x60 && !s.changingAt ring d.pos) = some d →
    s.mayCarry ring 0x60 = true → bits (leAt d.bytes 0 4) 24 7 = 0 → bits (leAt d.bytes 0 4) 0 6 = 0 → bits (leAt d.bytes 4 4) 28 4 = 0 → leAt d.bytes 8 8 % 8 = 0 →
    d.zero 16 56 = true → s.ownsSlot (s.ownerOf ring) (bits (leAt d.bytes 4 4) 0 14) = true → bit (leAt d.bytes 0 4) 9 = false ∨ s.ownsSlot (s.ownerOf ring) (bits (leAt
    d.bytes 4 4) 14 14) = true → (keyBytes (bits (leAt d.bytes 0 4) 12 4) (bits (leAt d.bytes 0 4) 6 2)).isSome = true → bit (leAt d.bytes 0 4) 9 = true → (s.loaded
    (bits (leAt d.bytes 4 4) 14 14) && s.fld F.HX_CIPH_SLOT_MODE (bits (leAt d.bytes 4 4) 14 14) == 5 && s.flag F.HX_CIPH_SLOT_DEC (bits (leAt d.bytes 4 4) 14 14)) =
    false → ∃ t, exec (.keyLoad ring ok data) s = .next t ∧ t.ended s ring d.pos 0x42 0 ∧ t.ciph = s.ciph)
  ∧ (∀ (s : State) (ring : Fin 65536) (ok : Bool) (data : List Byte), (s.ring ring).work.find? (fun d => d.dtype == 0x60 && !s.changingAt ring d.pos) = none → (s.nextDesc
    ring).any (fun d => d.dtype == 0x60 && !s.changingAt ring d.pos) = false → exec (.keyLoad ring ok data) s = .next (s))
  ∧ (∀ (s : State) (ring : Fin 65536) (d : Desc), (s.ring ring).work.find? (fun d => d.dtype == 0x61 && !s.changingAt ring d.pos) = some d → s.mayCarry ring 0x61 = true →
    bits (leAt d.bytes 0 4) 24 7 = 0 → leAt d.bytes 0 2 = 0 → bits (leAt d.bytes 4 4) 14 18 = 0 → d.zero 8 56 = true → s.ownsSlot (s.ownerOf ring) (bits (leAt d.bytes 4
    4) 0 14) = true → ∃ t, exec (.keyErase ring) s = .next t ∧ t.loaded (bits (leAt d.bytes 4 4) 0 14) = false ∧ t.keyOf (bits (leAt d.bytes 4 4) 0 14) = [] ∧ t.fld
    F.HX_CIPH_SLOT_MODE (bits (leAt d.bytes 4 4) 0 14) = 0 ∧ t.changingAt ring d.pos = true)
  ∧ (∀ (s : State) (ring : Fin 65536) (d : Desc), (s.ring ring).work.find? (fun d => d.dtype == 0x61 && !s.changingAt ring d.pos) = some d → s.mayCarry ring 0x61 = true →
    bits (leAt d.bytes 0 4) 24 7 = 0 → leAt d.bytes 0 2 = 0 → bits (leAt d.bytes 4 4) 14 18 = 0 → d.zero 8 56 = true → s.ownsSlot (s.ownerOf ring) (bits (leAt d.bytes 4
    4) 0 14) = false → ∃ t, exec (.keyErase ring) s = .next t ∧ t.ended s ring d.pos 1 0 ∧ t.ciph = s.ciph)
  ∧ (∀ (s : State) (ring : Fin 65536) (d : Desc), (s.ring ring).work.find? (fun d => d.dtype == 0x61 && !s.changingAt ring d.pos) = some d → s.mayCarry ring 0x61 = false ∨
    bits (leAt d.bytes 0 4) 24 7 ≠ 0 ∨ leAt d.bytes 0 2 ≠ 0 ∨ bits (leAt d.bytes 4 4) 14 18 ≠ 0 ∨ d.zero 8 56 = false → ∃ t, exec (.keyErase ring) s = .next t ∧ t.ended
    s ring d.pos 2 0 ∧ t.ciph = s.ciph)
  ∧ (∀ (s : State) (ring : Fin 65536), (s.ring ring).work.find? (fun d => d.dtype == 0x61 && !s.changingAt ring d.pos) = none → (s.nextDesc ring).any (fun d => d.dtype ==
    0x61 && !s.changingAt ring d.pos) = false → exec (.keyErase ring) s = .next (s))
  ∧ (∀ (s : State) (slot : Fin 16384) (c : KeyChange), s.ciph.changes.find? (fun c => c.slot == slot.val) = some c → c.jobs.any (fun j => s.ciph.jobs.any (fun x => x.ring
    == j.1 && x.pos == j.2)) = false → c.ring < 65536 → (s.ring c.ring).work.any (fun d => d.pos == c.pos) = true → ∃ t, exec (.keyChangeDone slot) s = .next t ∧ t.ended
    s c.ring c.pos 0 0 ∧ t.changingAt c.ring c.pos = false)
  ∧ (∀ (s : State) (slot : Fin 16384) (c : KeyChange) (j : Nat × Nat), s.ciph.changes.find? (fun c => c.slot == slot.val) = some c → j ∈ c.jobs → s.ciph.jobs.any (fun x =>
    x.ring == j.1 && x.pos == j.2) = true → exec (.keyChangeDone slot) s = .next (s))
  ∧ (∀ (s : State) (slot : Fin 16384), s.ciph.changes.find? (fun c => c.slot == slot.val) = none → exec (.keyChangeDone slot) s = .next (s))
  ∧ (∀ (s : State) (ring : Fin 65536) (d : Desc) (ok : Bool) (data : List Byte) (r : Nat), (s.ring ring).work.find? (fun d => d.dtype == 0x62 && !s.ciph.jobs.any (fun j =>
    j.ring == ring.val && j.pos == d.pos)) = some d → s.jobRefused ring d = some r → ∃ t, exec (.ciphJob ring ok data) s = .next t ∧ t.ended s ring d.pos r 0 ∧ t.ciph =
    s.ciph)
  ∧ (∀ (s : State) (ring : Fin 65536) (d : Desc) (ok : Bool) (data : List Byte), (s.ring ring).work.find? (fun d => d.dtype == 0x62 && !s.ciph.jobs.any (fun j => j.ring ==
    ring.val && j.pos == d.pos)) = some d → leAt d.bytes 24 4 ≤ 16777216 → leAt d.bytes 28 2 ≤ leAt d.bytes 24 4 → leAt d.bytes 28 2 = 0 → bits (leAt d.bytes 0 4) 12 4 =
    2 → s.mayCarry ring 0x62 = true → bits (leAt d.bytes 0 4) 24 7 = 0 → bits (leAt d.bytes 0 4) 0 10 = 0 → bits (leAt d.bytes 4 4) 14 18 = 0 → leAt d.bytes 30 2 = 0 →
    leAt d.bytes 8 8 = leAt d.bytes 16 8 → s.ownsSlot (s.ownerOf ring) (bits (leAt d.bytes 4 4) 0 14) = true → s.loaded (bits (leAt d.bytes 4 4) 0 14) = false → ∃ t,
    exec (.ciphJob ring ok data) s = .next t ∧ t.ended s ring d.pos 0x41 0 ∧ t.ciph = s.ciph)
  ∧ (∀ (s : State) (ring : Fin 65536) (d : Desc) (ok : Bool) (data : List Byte) (src tag : List Byte) (lane : Nat), (s.ring ring).work.find? (fun d => d.dtype == 0x62 &&
    !s.ciph.jobs.any (fun j => j.ring == ring.val && j.pos == d.pos)) = some d → s.jobRefused ring d = none → s.sourceBytes (s.ownerOf ring) (leAt d.bytes 8 8) (leAt
    d.bytes 24 4) ok data = some src → (if readsTag (bits (leAt d.bytes 0 4) 12 4) (bit (leAt d.bytes 0 4) 11) then s.sourceBytes (s.ownerOf ring) (leAt d.bytes 48 8) 16
    ok (data.drop (leAt d.bytes 24 4)) else some []) = some tag → s.freeLane = some lane → ∃ t, exec (.ciphJob ring ok data) s = .next t ∧ t.ciph.lane = (lane + 1) % 16
    ∧ t.ciph.jobs.length = s.ciph.jobs.length + 1 ∧ t.ciph.jobs.any (fun j => j.ring == ring.val && j.pos == d.pos && j.lane == lane && j.slot == bits (leAt d.bytes 4 4)
    0 14 && j.key == s.keyOf j.slot && j.src == src && j.tag == tag && j.mode == bits (leAt d.bytes 0 4) 12 4 && j.decrypt == bit (leAt d.bytes 0 4) 11 && j.aad == leAt
    d.bytes 28 2 && j.dst == leAt d.bytes 16 8 && j.tagAddr == leAt d.bytes 48 8) = true)
  ∧ (∀ (s : State) (ring : Fin 65536) (d : Desc) (ok : Bool) (data : List Byte), (s.ring ring).work.find? (fun d => d.dtype == 0x62 && !s.ciph.jobs.any (fun j => j.ring ==
    ring.val && j.pos == d.pos)) = some d → s.jobRefused ring d = none → s.sourceBytes (s.ownerOf ring) (leAt d.bytes 8 8) (leAt d.bytes 24 4) ok data = none ∨ (if
    readsTag (bits (leAt d.bytes 0 4) 12 4) (bit (leAt d.bytes 0 4) 11) then s.sourceBytes (s.ownerOf ring) (leAt d.bytes 48 8) 16 ok (data.drop (leAt d.bytes 24 4))
    else some []) = none → s.freeLane.isSome = true → ∃ t, exec (.ciphJob ring ok data) s = .next t ∧ t.ended s ring d.pos 3 0 ∧ t.ciph = s.ciph)
  ∧ (∀ (s : State) (ring : Fin 65536) (d : Desc) (ok : Bool) (data : List Byte), (s.ring ring).work.find? (fun d => d.dtype == 0x62 && !s.ciph.jobs.any (fun j => j.ring ==
    ring.val && j.pos == d.pos)) = some d → s.jobRefused ring d = none → s.freeLane = none → exec (.ciphJob ring ok data) s = .next (s))
  ∧ (∀ (s : State) (ring : Fin 65536) (ok : Bool) (data : List Byte), (s.ring ring).work.find? (fun d => d.dtype == 0x62 && !s.ciph.jobs.any (fun j => j.ring == ring.val
    && j.pos == d.pos)) = none → (s.nextDesc ring).any (fun d => d.dtype == 0x62 && !s.ciph.jobs.any (fun j => j.ring == ring.val && j.pos == d.pos)) = false → exec
    (.ciphJob ring ok data) s = .next (s))
  ∧ (∀ (s : State) (lane : Fin 16) (j : CiphJob), s.ciph.jobs.find? (fun j => j.lane == lane.val) = some j → readsTag j.mode j.decrypt = false → j.mode ≠ 3 → (s.ring
    j.ring).work.any (fun d => d.pos == j.pos) = true → ∃ t, exec (.ciphJobDone lane false) s = .next t ∧ t.wrote s (s.ownerOf j.ring) j.dst (j.src.take j.aad ++
    (Config.cipher j.mode j.decrypt j.key j.iv (j.src.take j.aad) (j.src.drop j.aad)).1) ∧ t.ended s j.ring j.pos 0 (j.src.take j.aad ++ (Config.cipher j.mode j.decrypt
    j.key j.iv (j.src.take j.aad) (j.src.drop j.aad)).1).length ∧ (j.decrypt = false ∧ (j.mode = 0 ∨ j.mode = 4) → t.wrote s (s.ownerOf j.ring) j.tagAddr (Config.cipher
    j.mode j.decrypt j.key j.iv (j.src.take j.aad) (j.src.drop j.aad)).2) ∧ t.ciph.jobs.any (fun x => x.lane == j.lane) = false ∧ t.fld F.HX_CIPH_STAT_COUNT 1 = (s.fld
    F.HX_CIPH_STAT_COUNT 1 + j.src.length) % 2 ^ 64)
  ∧ (∀ (s : State) (lane : Fin 16) (j : CiphJob), s.ciph.jobs.find? (fun j => j.lane == lane.val) = some j → j.decrypt = false → j.mode = 3 → (s.ring j.ring).work.any (fun
    d => d.pos == j.pos) = true → ∃ t, exec (.ciphJobDone lane false) s = .next t ∧ t.wrote s (s.ownerOf j.ring) j.tagAddr (Config.cipher j.mode j.decrypt j.key j.iv
    (j.src.take j.aad) (j.src.drop j.aad)).2 ∧ t.ended s j.ring j.pos 0 0 ∧ t.ciph.jobs.any (fun x => x.lane == j.lane) = false ∧ t.fld F.HX_CIPH_STAT_COUNT 1 = (s.fld
    F.HX_CIPH_STAT_COUNT 1 + j.src.length) % 2 ^ 64)
  ∧ (∀ (s : State) (lane : Fin 16) (j : CiphJob), s.ciph.jobs.find? (fun j => j.lane == lane.val) = some j → readsTag j.mode j.decrypt = true → j.mode ≠ 3 → (s.ring
    j.ring).work.any (fun d => d.pos == j.pos) = true → ∃ t, exec (.ciphJobDone lane false) s = .next t ∧ ((Config.cipher j.mode j.decrypt j.key j.iv (j.src.take j.aad)
    (j.src.drop j.aad)).2 = j.tag → t.wrote s (s.ownerOf j.ring) j.dst (j.src.take j.aad ++ (Config.cipher j.mode j.decrypt j.key j.iv (j.src.take j.aad) (j.src.drop
    j.aad)).1) ∧ t.ended s j.ring j.pos 0 (j.src.take j.aad ++ (Config.cipher j.mode j.decrypt j.key j.iv (j.src.take j.aad) (j.src.drop j.aad)).1).length) ∧
    ((Config.cipher j.mode j.decrypt j.key j.iv (j.src.take j.aad) (j.src.drop j.aad)).2 ≠ j.tag → t.wrote s (s.ownerOf j.ring) j.dst (j.src.take j.aad ++ List.replicate
    (j.src.length - j.aad) 0) ∧ t.ended s j.ring j.pos 0x40 0 ∧ t.fld F.HX_CIPH_STAT_COUNT 2 = (s.fld F.HX_CIPH_STAT_COUNT 2 + 1) % 2 ^ 64) ∧ t.ciph.jobs.any (fun x =>
    x.lane == j.lane) = false ∧ t.fld F.HX_CIPH_STAT_COUNT 1 = (s.fld F.HX_CIPH_STAT_COUNT 1 + j.src.length) % 2 ^ 64)
  ∧ (∀ (s : State) (lane : Fin 16) (j : CiphJob), s.ciph.jobs.find? (fun j => j.lane == lane.val) = some j → j.decrypt = true → j.mode = 3 → (s.ring j.ring).work.any (fun
    d => d.pos == j.pos) = true → ∃ t, exec (.ciphJobDone lane false) s = .next t ∧ t.ended s j.ring j.pos (if (Config.cipher j.mode j.decrypt j.key j.iv (j.src.take
    j.aad) (j.src.drop j.aad)).2 = j.tag then 0 else 0x40) 0 ∧ t.ciph.jobs.any (fun x => x.lane == j.lane) = false)
  ∧ (∀ (s : State) (lane : Fin 16) (j : CiphJob), s.ciph.jobs.find? (fun j => j.lane == lane.val) = some j → (s.ring j.ring).work.any (fun d => d.pos == j.pos) = true → ∃
    t, exec (.ciphJobDone lane true) s = .next t ∧ (j.mode ≠ 3 → t.wrote s (s.ownerOf j.ring) j.dst (j.src.take j.aad ++ List.replicate (j.src.length - j.aad) 0)) ∧
    t.ended s j.ring j.pos 0x44 0 ∧ t.ciph.jobs.any (fun x => x.lane == j.lane) = false ∧ t.fld F.HX_CIPH_STAT_COUNT 3 = (s.fld F.HX_CIPH_STAT_COUNT 3 + 1) % 2 ^ 64)
  ∧ (∀ (s : State) (lane : Fin 16) (fault : Bool), s.ciph.jobs.find? (fun j => j.lane == lane.val) = none → exec (.ciphJobDone lane fault) s = .next (s))
  ∧ (∀ (s : State) (cause : AlarmCause) (slot : Fin 16384), s.powered = true → ∃ t, exec (.alarmZeroise cause) s = .next t ∧ t.loaded slot = false ∧ (t.keyOf slot = [] ∨
    s.loaded slot = false) ∧ t.ciph.changes = [] ∧ t.ciph.jobs = [] ∧ t.mac.sas = [] ∧ t.fld F.HX_CIPH_ZSTATUS_CAUSE = alarmCode cause ∧ t.fld F.HX_CIPH_ZTS_ZTS = s.now
    % 2 ^ 64 ∧ t.raised s 797 [.w (alarmCode cause)] = true)
  ∧ (∀ (s : State) (cause : AlarmCause), s.powered = false → exec (.alarmZeroise cause) s = .next (s))

/-- Samples show the supply and act on its thresholds, disturbances are reported, capacitance tests run and end, domains are held off (19_supply_holdup_domains.md, 22_faults_ageing_calibration.md). -/
def Obligations.SupplyReserveAndHeldDomains : Prop :=
  (∀ (s : State) (vin bank : Fin 65536) (iin : Fin 262144), s.powered = true → 3900 ≤ s.metered 0 65535 vin → 25 * s.fld F.AO_SUP_CFG_VVAULT ≤ s.metered 0 65535 vin →
    s.vHold ≤ s.metered 0 65535 vin → (s.sample (s.metered 0 65535 vin) (s.metered 1 65535 bank) (s.meteredIin iin)).atDirty = false → ∃ t, exec (.supplySample vin bank
    iin) s = .next t ∧ t.fld F.AO_SUP_VIN_VIN_MV = (s.metered 0 65535 vin) % 2 ^ 16 ∧ t.fld F.AO_SUP_VIN_BANK_MV = s.metered 1 65535 bank % 2 ^ 16 ∧ t.fld
    F.AO_SUP_IIN_IIN_MA = s.meteredIin iin % 2 ^ F.AO_SUP_IIN_IIN_MA.width ∧ t.flag F.AO_SUP_STATUS_BELOW_VHOLD = decide (s.metered 0 65535 vin < s.vHold) ∧ t.fld
    F.AO_LED_STATUS_E_IN = (s.fld F.AO_LED_STATUS_E_IN + (s.led.rest + (s.metered 0 65535 vin) * s.meteredIin iin) / 1000000) % 2 ^ 64 ∧ t.led.ms = s.led.ms + (s.metered
    0 65535 vin) * s.meteredIin iin ∧ t.mode = s.mode)
  ∧ (∀ (s : State) (vin bank : Fin 65536) (iin : Fin 262144), s.powered = true → s.inService = false → s.mode ≠ .boot → 3900 ≤ s.metered 0 65535 vin → ∃ t, exec
    (.supplySample vin bank iin) s = .next t ∧ t.fld F.AO_SUP_VIN_VIN_MV = (s.metered 0 65535 vin) % 2 ^ 16 ∧ t.fld F.AO_SUP_VIN_BANK_MV = s.metered 1 65535 bank % 2 ^
    16 ∧ t.fld F.AO_SUP_IIN_IIN_MA = s.meteredIin iin % 2 ^ F.AO_SUP_IIN_IIN_MA.width ∧ t.flag F.AO_SUP_STATUS_BELOW_VHOLD = decide (s.metered 0 65535 vin < s.vHold) ∧
    t.fld F.AO_LED_STATUS_E_IN = (s.fld F.AO_LED_STATUS_E_IN + (s.led.rest + (s.metered 0 65535 vin) * s.meteredIin iin) / 1000000) % 2 ^ 64 ∧ t.led.ms = s.led.ms +
    (s.metered 0 65535 vin) * s.meteredIin iin ∧ t.mode = s.mode)
  ∧ (∀ (s : State) (vin bank : Fin 65536) (iin : Fin 262144), s.mode = .run → 3900 ≤ s.metered 0 65535 vin → 25 * s.fld F.AO_SUP_CFG_VVAULT ≤ s.metered 0 65535 vin →
    s.metered 0 65535 vin < s.vHold → (s.sample (s.metered 0 65535 vin) (s.metered 1 65535 bank) (s.meteredIin iin)).atDirty = false → ∃ t, exec (.supplySample vin bank
    iin) s = .next t ∧ t.shows .rideThrough .run 6 ∧ t.flag F.AO_SUP_STATUS_BELOW_VHOLD = true)
  ∧ (∀ (s : State) (vin bank : Fin 65536) (iin : Fin 262144), s.inService = true → 3900 ≤ s.metered 0 65535 vin → 25 * s.fld F.AO_SUP_CFG_VVAULT ≤ s.metered 0 65535 vin →
    (s.sample (s.metered 0 65535 vin) (s.metered 1 65535 bank) (s.meteredIin iin)).atDirty = true → ∃ t, exec (.supplySample vin bank iin) s = .next t ∧ t.shows .vault
    .rideThrough 9 ∧ t.fld F.AO_MODULE_STATE_PENDING = ModState.standby.code)
  ∧ (∀ (s : State) (vin bank : Fin 65536) (iin : Fin 262144), s.inService = true → 3900 ≤ s.metered 0 65535 vin → s.metered 0 65535 vin < 25 * s.fld F.AO_SUP_CFG_VVAULT →
    ∃ t, exec (.supplySample vin bank iin) s = .next t ∧ t.shows .vault .rideThrough 8 ∧ t.fld F.AO_MODULE_STATE_PENDING = ModState.standby.code)
  ∧ (∀ (s : State) (vin bank : Fin 65536) (iin : Fin 262144), s.mode = .boot → 3900 ≤ s.metered 0 65535 vin → s.metered 0 65535 vin < s.vHold → ∃ t, exec (.supplySample
    vin bank iin) s = .next t ∧ t.shows .standby .boot 6)
  ∧ (∀ (s : State) (vin bank : Fin 65536) (iin : Fin 262144), s.powered = true → s.metered 0 65535 vin < 3900 → ∃ t, exec (.supplySample vin bank iin) s = .next t ∧
    t.powered = false)
  ∧ (∀ (s : State) (vin bank : Fin 65536) (iin : Fin 262144), s.powered = false → exec (.supplySample vin bank iin) s = .next (s))
  ∧ (∀ (s : State), s.powered = true → s.flag F.AO_SUP_STATUS_BACKSTOP = false → ∃ t, exec .backstop s = .next t ∧ t.flag F.AO_SUP_STATUS_BACKSTOP = true ∧ t.raised s 45
    [.w (s.fld F.AO_SUP_IIN_IIN_MA), .w 1] = true ∧ t.flag F.AO_SUP_STATUS_ALARM = true)
  ∧ (∀ (s : State), s.powered = false ∨ s.flag F.AO_SUP_STATUS_BACKSTOP = true → exec .backstop s = .next (s))
  ∧ (∀ (s : State), s.powered = true → s.flag F.AO_SUP_STATUS_BACKSTOP = true → ∃ t, exec .backstopRelease s = .next t ∧ t.flag F.AO_SUP_STATUS_BACKSTOP = false ∧ t.raised
    s 45 [.w (s.fld F.AO_SUP_IIN_IIN_MA), .w 0] = true)
  ∧ (∀ (s : State), s.powered = false ∨ s.flag F.AO_SUP_STATUS_BACKSTOP = false → exec .backstopRelease s = .next (s))
  ∧ (∀ (s : State) (us : Word), s.powered = true → s.flag F.AO_SUP_STATUS_OV = false → ∃ t, exec (.overvoltage us) s = .next t ∧ t.flag F.AO_SUP_STATUS_OV = true ∧ t.fld
    F.AO_SUP_STAT_COUNT 4 = (s.fld F.AO_SUP_STAT_COUNT 4 + 1) % 2 ^ 64 ∧ t.raised s 40 [.w 4, .w (s.fld F.AO_SUP_VIN_VIN_MV), .w us.toNat] = true)
  ∧ (∀ (s : State) (us : Word), s.powered = false ∨ s.flag F.AO_SUP_STATUS_OV = true → exec (.overvoltage us) s = .next (s))
  ∧ (∀ (s : State) (low : Fin 65536), s.powered = true → s.vHold ≤ low → ∃ t, exec (.flicker low) s = .next t ∧ t.fld F.AO_SUP_STAT_COUNT = (s.fld F.AO_SUP_STAT_COUNT + 1)
    % 2 ^ 64 ∧ ((Map.get {} (40 * 2 ^ 32) s.limits).at' = 0 → t.raised s 40 [.w 0, .w low, .w 10000] = true) ∧ t.mode = s.mode)
  ∧ (∀ (s : State) (low : Fin 65536), s.powered = false ∨ low.val < s.vHold → exec (.flicker low) s = .next (s))
  ∧ (∀ (s : State), s.inService = true → s.dirty = true → ∃ t, exec .overcurrent s = .next t ∧ t.shows .vault s.mode causeModuleFault ∧ t.fld F.AO_MODULE_STATE_PENDING =
    (if (s.recent 86400000000000 s.faultTimes).length + 1 < s.mfLimit then ModState.boot else ModState.safetyNet).code ∧ t.fld F.AO_FLT_STATUS_LAST_MF = 0x0401)
  ∧ (∀ (s : State), s.inService = true → s.dirty = false → ∃ t, exec .overcurrent s = .next t ∧ t.raised s 1 [.w (if (s.recent 86400000000000 s.faultTimes).length + 1 <
    s.mfLimit then ModState.boot else ModState.safetyNet).code, .w s.mode.code, .w causeModuleFault] = true ∧ t.raised s 71 [.w 0x0401, .w ((s.recent 86400000000000
    s.faultTimes).length + 1), .w (if (s.recent 86400000000000 s.faultTimes).length + 1 < s.mfLimit then ModState.boot else ModState.safetyNet).code] = true ∧ t.fld
    F.AO_FLT_STATUS_LAST_MF = 0x0401)
  ∧ (∀ (s : State), s.mode = .standby ∨ s.mode = .safetyNet ∨ s.mode = .halt → ∃ t, exec .overcurrent s = .next t ∧ t.mode = s.mode ∧ t.fld F.AO_FLT_STATUS_LAST_MF =
    0x0401 ∧ t.raised s 71 [.w 0x0401, .w (s.recent 86400000000000 s.faultTimes).length, .w s.mode.code] = true)
  ∧ (∀ (s : State), s.mode = .boot → ∃ t, exec .overcurrent s = .next t ∧ t.fld F.AO_FLT_STATUS_LAST_MF = 0x0401 ∧ t.raised s 71 [.w 0x0401, .w (s.recent 86400000000000
    s.faultTimes).length, .w (if s.boot.fails + 1 < 3 then ModState.boot.code else ModState.safetyNet.code)] = true)
  ∧ (∀ (s : State), s.mode = .vault → ∃ t, exec .overcurrent s = .next t ∧ t.mode = .vault ∧ t.lateFaults = s.lateFaults ++ [0x0401])
  ∧ (∀ (s : State), s.mode = .off → exec .overcurrent s = .next (s))
  ∧ (∀ (s : State), s.inService = true → s.dirty = true → ∃ t, exec .overvoltageFault s = .next t ∧ t.shows .vault s.mode causeModuleFault ∧ t.fld
    F.AO_MODULE_STATE_PENDING = (if (s.recent 86400000000000 s.faultTimes).length + 1 < s.mfLimit then ModState.boot else ModState.safetyNet).code ∧ t.fld
    F.AO_FLT_STATUS_LAST_MF = 0x0402)
  ∧ (∀ (s : State), s.inService = true → s.dirty = false → ∃ t, exec .overvoltageFault s = .next t ∧ t.raised s 1 [.w (if (s.recent 86400000000000 s.faultTimes).length + 1
    < s.mfLimit then ModState.boot else ModState.safetyNet).code, .w s.mode.code, .w causeModuleFault] = true ∧ t.raised s 71 [.w 0x0402, .w ((s.recent 86400000000000
    s.faultTimes).length + 1), .w (if (s.recent 86400000000000 s.faultTimes).length + 1 < s.mfLimit then ModState.boot else ModState.safetyNet).code] = true ∧ t.fld
    F.AO_FLT_STATUS_LAST_MF = 0x0402)
  ∧ (∀ (s : State), s.mode = .standby ∨ s.mode = .safetyNet ∨ s.mode = .halt → ∃ t, exec .overvoltageFault s = .next t ∧ t.mode = s.mode ∧ t.fld F.AO_FLT_STATUS_LAST_MF =
    0x0402 ∧ t.raised s 71 [.w 0x0402, .w (s.recent 86400000000000 s.faultTimes).length, .w s.mode.code] = true)
  ∧ (∀ (s : State), s.mode = .boot → ∃ t, exec .overvoltageFault s = .next t ∧ t.fld F.AO_FLT_STATUS_LAST_MF = 0x0402 ∧ t.raised s 71 [.w 0x0402, .w (s.recent
    86400000000000 s.faultTimes).length, .w (if s.boot.fails + 1 < 3 then ModState.boot.code else ModState.safetyNet.code)] = true)
  ∧ (∀ (s : State), s.mode = .vault → ∃ t, exec .overvoltageFault s = .next t ∧ t.mode = .vault ∧ t.lateFaults = s.lateFaults ++ [0x0402])
  ∧ (∀ (s : State), s.mode = .off → exec .overvoltageFault s = .next (s))
  ∧ (∀ (s : State) (who : Party), s.admits who 0 4 = true → s.flag F.AO_SUP_LIM_TEST_EN = true → s.flag F.AO_SUP_STATUS_TESTING = false → s.mode = .run → s.vHold + 1000 ≤
    s.fld F.AO_SUP_VIN_VIN_MV → s.fld F.AO_LED_STATUS_DIRTY_REQ ≤ s.reserveAt (s.vBank - 600) → s.fld F.AO_PKG_GPIO_FUNC 15 = 1 → ∃ t, exec (.captestStart who) s = .next
    t ∧ t.flag F.AO_SUP_STATUS_TESTING = true ∧ t.pkg.iso = true ∧ t.fld F.AO_SUP_STAT_COUNT 6 = (s.fld F.AO_SUP_STAT_COUNT 6 + 1) % 2 ^ 64)
  ∧ (∀ (s : State) (who : Party), s.admits who 0 4 = true → s.flag F.AO_SUP_LIM_TEST_EN = true → s.flag F.AO_SUP_STATUS_TESTING = false → s.mode = .run → s.vHold + 1000 ≤
    s.fld F.AO_SUP_VIN_VIN_MV → s.fld F.AO_LED_STATUS_DIRTY_REQ ≤ s.reserveAt (s.vBank - 600) → s.fld F.AO_PKG_GPIO_FUNC 15 ≠ 1 → ∃ t, exec (.captestStart who) s = .next
    t ∧ t.flag F.AO_SUP_STATUS_TESTING = false ∧ t.fld F.AO_SUP_CAPTEST_RESULT = 2 ∧ t.raised s 41 [.w 2, .w 0] = true)
  ∧ (∀ (s : State) (who : Party), s.admits who 0 4 = true → s.flag F.AO_SUP_LIM_TEST_EN = true → s.flag F.AO_SUP_STATUS_TESTING = false → s.mode ≠ .run ∨ s.fld
    F.AO_SUP_VIN_VIN_MV < s.vHold + 1000 ∨ s.reserveAt (s.vBank - 600) < s.fld F.AO_LED_STATUS_DIRTY_REQ → ∃ t, exec (.captestStart who) s = .next t ∧ t.fld
    F.AO_SUP_CAPTEST_RESULT = 4 ∧ t.flag F.AO_SUP_STATUS_TESTING = false)
  ∧ (∀ (s : State) (who : Party), s.admits who 0 4 = true → s.flag F.AO_SUP_LIM_TEST_EN = false ∨ s.flag F.AO_SUP_STATUS_TESTING = true → exec (.captestStart who) s =
    .next (s))
  ∧ (∀ (s : State), s.powered = true → s.flag F.AO_SUP_LIM_TEST_EN = true → s.flag F.AO_SUP_STATUS_TESTING = false → s.mode = .run → s.vHold + 1000 ≤ s.fld
    F.AO_SUP_VIN_VIN_MV → s.fld F.AO_LED_STATUS_DIRTY_REQ ≤ s.reserveAt (s.vBank - 600) → s.fld F.AO_PKG_GPIO_FUNC 15 = 1 → ∃ t, exec .captestTimer s = .next t ∧ t.flag
    F.AO_SUP_STATUS_TESTING = true ∧ t.pkg.iso = true ∧ t.fld F.AO_SUP_STAT_COUNT 6 = (s.fld F.AO_SUP_STAT_COUNT 6 + 1) % 2 ^ 64)
  ∧ (∀ (s : State), s.powered = true → s.flag F.AO_SUP_LIM_TEST_EN = true → s.flag F.AO_SUP_STATUS_TESTING = false → s.mode = .run → s.vHold + 1000 ≤ s.fld
    F.AO_SUP_VIN_VIN_MV → s.fld F.AO_LED_STATUS_DIRTY_REQ ≤ s.reserveAt (s.vBank - 600) → s.fld F.AO_PKG_GPIO_FUNC 15 ≠ 1 → ∃ t, exec .captestTimer s = .next t ∧ t.flag
    F.AO_SUP_STATUS_TESTING = false ∧ t.fld F.AO_SUP_CAPTEST_RESULT = 2 ∧ t.raised s 41 [.w 2, .w 0] = true)
  ∧ (∀ (s : State), s.powered = true → s.flag F.AO_SUP_LIM_TEST_EN = true → s.flag F.AO_SUP_STATUS_TESTING = false → s.mode ≠ .run ∨ s.fld F.AO_SUP_VIN_VIN_MV < s.vHold +
    1000 ∨ s.reserveAt (s.vBank - 600) < s.fld F.AO_LED_STATUS_DIRTY_REQ → ∃ t, exec .captestTimer s = .next t ∧ t.fld F.AO_SUP_CAPTEST_RESULT = 4 ∧ t.flag
    F.AO_SUP_STATUS_TESTING = false)
  ∧ (∀ (s : State), s.powered = true → s.flag F.AO_SUP_LIM_TEST_EN = false ∨ s.flag F.AO_SUP_STATUS_TESTING = true → exec .captestTimer s = .next (s))
  ∧ (∀ (s : State) (v1 v2 : Fin 65536) (e : Word) (c used : Nat), s.flag F.AO_SUP_STATUS_TESTING = true → v2.val + 50 ≤ v1 → c = 2000000 * e.toNat / (v1 * v1 - v2 * v2) →
    used = s.fld F.AO_SUP_CAP_C_USED → ∃ t, exec (.captestDone v1 v2 e) s = .next t ∧ t.fld F.AO_SUP_CAPTEST_RESULT = 1 ∧ t.fld F.AO_SUP_CAP_C_USED = (if c < used then c
    else min c (used * 102 / 100)) % 2 ^ 32 ∧ t.flag F.AO_SUP_STATUS_CAP_SRC = true ∧ t.flag F.AO_SUP_STATUS_TESTING = false ∧ t.raised s 41 [.w 1, .w c] = true ∧
    (s.calVal 6 0).all (fun v => decide (80 * v ≤ c * 100) || t.flag F.AO_SUP_STATUS_BANK_LOW && t.raised s 42 [.w (t.fld F.AO_SUP_CAP_C_USED), .w v]) = true)
  ∧ (∀ (s : State) (v1 v2 : Fin 65536) (e : Word), s.flag F.AO_SUP_STATUS_TESTING = true → v1.val < v2 + 50 → ∃ t, exec (.captestDone v1 v2 e) s = .next t ∧ t.fld
    F.AO_SUP_CAPTEST_RESULT = 3 ∧ t.flag F.AO_SUP_STATUS_TESTING = false ∧ t.fld F.AO_SUP_CAP_C_USED = s.fld F.AO_SUP_CAP_C_USED)
  ∧ (∀ (s : State) (v1 v2 : Fin 65536) (e : Word), s.flag F.AO_SUP_STATUS_TESTING = false → exec (.captestDone v1 v2 e) s = .next (s))
  ∧ (∀ (s : State) (who : Party) (d : Fin 96), s.admits who 0 5 = true → s.mayForce d = true → d.val < 44 ∨ 60 ≤ d.val → ∃ t, exec (.forceOff who d) s = .next t ∧
    t.forcedOff d = true ∧ t.power d = powGated)
  ∧ (∀ (s : State) (who : Party) (d : Fin 96), s.admits who 0 5 = true → s.mayForce d = true → 44 ≤ d.val → d.val < 60 → ∃ t, exec (.forceOff who d) s = .next t ∧
    t.forcedOff d = true ∧ if s.bgUsed (d - 44) = 0 then t.power d = powGated else t.flag F.FX_BUF_BG_STATUS_DRAINING (d - 44) = true ∧ t.power d = s.power d)
  ∧ (∀ (s : State) (who : Party) (d : Fin 96), s.admits who 0 5 = true → s.mayForce d = false → ∃ t, exec (.forceOff who d) s = .next t ∧ t.forcedOff d = s.forcedOff d ∧
    t.power d = s.power d ∧ t.flag F.AO_PD_CTRL_REFUSED d = true ∧ t.raised s 44 [.w d] = true)
  ∧ (∀ (s : State) (who : Party) (d : Fin 96), s.admits who 0 5 = true → ∃ t, exec (.forceOffRelease who d) s = .next t ∧ t.forcedOff d = false ∧ t.power d = s.power d)

/-- The energy of a millisecond is charged to accounts, periods end, the planner takes settings over, totals are kept (19_supply_holdup_domains.md, 20_energy_ledger.md). -/
def Obligations.EnergyLedger : Prop :=
  (∀ (s : State) (shares : List EnergyShare), s.powered = true → ∃ t, exec (.ledgerMsClose shares) s = .next t ∧ t.led.ms = 0 ∧ t.led.last = s.led.ms ∧ (∀ a ∈ List.range
    256, t.fld F.AO_LED_EA_TOTAL a = (if chargeOf a (if s.mode = .vault ∨ ((s.energyModel shares).foldl (fun n x => n + x.2) 0) = 0 then [(0, s.led.ms)] else s.split
    s.led.ms ((s.energyModel shares).foldl (fun n x => n + x.2) 0) 0 (s.energyModel shares)) = 0 ∧ Map.get [] a s.led.window = [] then s.fld F.AO_LED_EA_TOTAL a else
    (s.fld F.AO_LED_EA_TOTAL a + (Map.get 0 a s.led.rests + chargeOf a (if s.mode = .vault ∨ ((s.energyModel shares).foldl (fun n x => n + x.2) 0) = 0 then [(0,
    s.led.ms)] else s.split s.led.ms ((s.energyModel shares).foldl (fun n x => n + x.2) 0) 0 (s.energyModel shares))) / 1000000) % 2 ^ 64)))
  ∧ (∀ (s : State) (shares : List EnergyShare), s.powered = true → s.mode = .vault → s.led.ms ≠ 0 → ∃ t, exec (.ledgerMsClose shares) s = .next t ∧ t.fld F.AO_LED_EA_TOTAL
    = (s.fld F.AO_LED_EA_TOTAL + (Map.get 0 0 s.led.rests + s.led.ms) / 1000000) % 2 ^ 64 ∧ t.fld F.AO_LED_EA_USED = (s.fld F.AO_LED_EA_USED + (Map.get 0 0 s.led.rests +
    s.led.ms) / 1000000) % 2 ^ 64 ∧ (∀ b ∈ List.range 256, b ≠ 0 → Map.get [] b s.led.window = [] → t.fld F.AO_LED_EA_TOTAL b = s.fld F.AO_LED_EA_TOTAL b))
  ∧ (∀ (s : State) (shares : List EnergyShare), s.powered = false → exec (.ledgerMsClose shares) s = .next (s))
  ∧ (∀ (s : State) (a : Fin 256), s.powered = true → s.oper F.AO_LED_EA_EN a = 1 → s.periodOver a ≤ s.now → ∃ t, exec (.accountPeriodEnd a) s = .next t ∧ t.raised s 51 [.w
    a, .d (s.fld F.AO_LED_EA_USED a)] = true ∧ t.fld F.AO_LED_EA_USED a = 0 ∧ t.fld F.AO_LED_EA_TOTAL a = s.fld F.AO_LED_EA_TOTAL a ∧ Map.get 0 a t.led.since =
    s.periodOver a)
  ∧ (∀ (s : State) (a : Fin 256), s.powered = false ∨ s.oper F.AO_LED_EA_EN a ≠ 1 ∨ s.now < s.periodOver a → exec (.accountPeriodEnd a) s = .next (s))
  ∧ (∀ (s : State) (a : Fin 256), s.mode = .boot ∨ s.inService = true ∨ s.mode = .safetyNet → ∃ t, exec .plannerRun s = .next t ∧ t.oper F.AO_LED_EA_CEIL a = s.fld
    F.AO_LED_EA_CEIL a ∧ t.oper F.AO_LED_EA_BUDGET a = s.fld F.AO_LED_EA_BUDGET a ∧ t.oper F.AO_LED_EA_EN a = s.fld F.AO_LED_EA_EN a ∧ (s.oper F.AO_LED_EA_PERIOD a ≠
    s.fld F.AO_LED_EA_PERIOD a → t.fld F.AO_LED_EA_USED a = 0) ∧ (s.flag F.AO_SUP_STATUS_TESTING = true → t.fld F.AO_LED_EA_THR a = s.fld F.AO_LED_EA_THR a))
  ∧ (∀ (s : State), s.ringUp = true → ∃ t, exec .ledgerCopy s = .next t ∧ t.led.copy.head? = some (s.fld F.AO_LED_STATUS_E_IN) ∧ (∀ a ∈ List.range 256, t.led.copy.getD (2
    * a + 1) 0 = s.fld F.AO_LED_EA_TOTAL a ∧ t.led.copy.getD (2 * a + 2) 0 = s.fld F.AO_LED_EA_USED a))
  ∧ (∀ (s : State), s.ledgerOn = true → ∃ t, exec .energySnap s = .next t ∧ t.log.newest = (s.log.newest + 1) % 2 ^ 32 ∧ t.led = s.led ∧ (s.ringUp = true →
    (t.log.entries.getLast?).map (fun e => (e.type, e.seq)) = some (6, (s.log.newest + 1) % 2 ^ 32)) ∧ (s.ringUp = false → (t.log.held.getLast?).map (fun e => (e.type,
    e.seq)) = some (6, (s.log.newest + 1) % 2 ^ 32)))
  ∧ (∀ (s : State), s.mode ≠ .boot → s.inService = false → s.mode ≠ .safetyNet → exec .plannerRun s = .next (s))
  ∧ (∀ (s : State), s.ringUp = false → exec .ledgerCopy s = .next (s))
  ∧ (∀ (s : State), s.ledgerOn = false → exec .energySnap s = .next (s))
  ∧ (∀ (s : State) (e : Nat) (l : List (EnergySource × Nat)), l.foldl (fun n x => n + x.2) 0 ≠ 0 → (s.split e (l.foldl (fun n x => n + x.2) 0) 0 l).foldl (fun n x => n +
    x.2) 0 = e)

/-- Image commands are taken or refused and end with their results, fuses are blown, keys are sealed, reports are made (21_boot_trust.md). Digests, signatures and the programmed roots are constants without a body (log entry 5), so a clause that rests on them says what follows either way. -/
def Obligations.ImagesFusesAndAttestation : Prop :=
  (∀ (s : State) (who : Party) (slot : Fin 2), s.admits who 0 7 = true → s.fld F.AO_IMG_STATUS_STATE = 0 → s.mode = .safetyNet ∨ (s.mode = .run ∧ slot.val ≠ s.fld
    F.AO_BOOT_STATUS_SLOT) → s.fld F.AO_PROG_STATUS_STATE = 0 → s.fld F.AO_UCODE_STATUS_STATE = 0 → ∃ t, exec (.imgErase who slot) s = .next t ∧ t.fld
    F.AO_IMG_STATUS_STATE = 1 ∧ t.fld F.AO_IMG_STATUS_SEQ = (s.fld F.AO_IMG_STATUS_SEQ + 1) % 2 ^ 16 ∧ t.boot.img = some
    { op := 1, slot := slot, pages := 0, offset := s.fld F.AO_IMG_ARG_OFFSET } ∧ t.flashPart slot = (s.flashPart slot).filter (fun e => decide (e.1 < 0x037F0000)))
  ∧ (∀ (s : State) (who : Party) (slot : Fin 2), s.admits who 0 7 = true → s.fld F.AO_IMG_STATUS_STATE ≠ 0 → ∃ t, exec (.imgErase who slot) s = .next t ∧ t.fld
    F.AO_IMG_STATUS_RESULT = 1 ∧ t.boot = s.boot ∧ t.fld F.AO_IMG_STATUS_STATE = s.fld F.AO_IMG_STATUS_STATE ∧ t.raised s 62 [.w 1, .w (s.fld F.AO_IMG_STATUS_SEQ)] =
    true)
  ∧ (∀ (s : State) (who : Party) (slot : Fin 2), s.admits who 0 7 = true → s.fld F.AO_IMG_STATUS_STATE = 0 → s.mode ≠ .run → s.mode ≠ .safetyNet → ∃ t, exec (.imgErase who
    slot) s = .next t ∧ t.fld F.AO_IMG_STATUS_RESULT = 2 ∧ t.boot = s.boot ∧ t.fld F.AO_IMG_STATUS_STATE = s.fld F.AO_IMG_STATUS_STATE ∧ t.raised s 62 [.w 2, .w (s.fld
    F.AO_IMG_STATUS_SEQ)] = true)
  ∧ (∀ (s : State) (who : Party) (slot : Fin 2), s.admits who 0 7 = true → s.fld F.AO_IMG_STATUS_STATE = 0 → s.mode = .run → slot.val = s.fld F.AO_BOOT_STATUS_SLOT → ∃ t,
    exec (.imgErase who slot) s = .next t ∧ t.fld F.AO_IMG_STATUS_RESULT = 3 ∧ t.boot = s.boot ∧ t.fld F.AO_IMG_STATUS_STATE = s.fld F.AO_IMG_STATUS_STATE ∧ t.raised s
    62 [.w 3, .w (s.fld F.AO_IMG_STATUS_SEQ)] = true)
  ∧ (∀ (s : State) (who : Party) (slot : Fin 2), s.admits who 0 7 = true → s.fld F.AO_IMG_STATUS_STATE = 0 → s.mode = .safetyNet ∨ (s.mode = .run ∧ slot.val ≠ s.fld
    F.AO_BOOT_STATUS_SLOT) → s.fld F.AO_PROG_STATUS_STATE ≠ 0 ∨ s.fld F.AO_UCODE_STATUS_STATE ≠ 0 → ∃ t, exec (.imgErase who slot) s = .next t ∧ t.fld
    F.AO_IMG_STATUS_RESULT = 4 ∧ t.boot = s.boot ∧ t.fld F.AO_IMG_STATUS_STATE = s.fld F.AO_IMG_STATUS_STATE ∧ t.raised s 62 [.w 4, .w (s.fld F.AO_IMG_STATUS_SEQ)] =
    true)
  ∧ (∀ (s : State) (who : Party) (slot : Fin 2) (pages : Fin 8192), s.admits who 0 7 = true → s.fld F.AO_IMG_STATUS_STATE = 0 → s.mode = .safetyNet ∨ (s.mode = .run ∧
    slot.val ≠ s.fld F.AO_BOOT_STATUS_SLOT) → s.fld F.AO_PROG_STATUS_STATE = 0 → s.fld F.AO_UCODE_STATUS_STATE = 0 → pages.val ≠ 0 → pages.val ≤ 4096 → s.fld
    F.AO_IMG_ARG_OFFSET + pages ≤ 14320 → ∃ t, exec (.imgWrite who slot pages) s = .next t ∧ t.fld F.AO_IMG_STATUS_STATE = 2 ∧ t.fld F.AO_IMG_STATUS_SEQ = (s.fld
    F.AO_IMG_STATUS_SEQ + 1) % 2 ^ 16 ∧ t.boot.img = some { op := 2, slot := slot, pages := pages, offset := s.fld F.AO_IMG_ARG_OFFSET } ∧ t.boot.flash = s.boot.flash)
  ∧ (∀ (s : State) (who : Party) (slot : Fin 2) (pages : Fin 8192), s.admits who 0 7 = true → s.fld F.AO_IMG_STATUS_STATE ≠ 0 → ∃ t, exec (.imgWrite who slot pages) s =
    .next t ∧ t.fld F.AO_IMG_STATUS_RESULT = 1 ∧ t.boot = s.boot ∧ t.fld F.AO_IMG_STATUS_STATE = s.fld F.AO_IMG_STATUS_STATE ∧ t.raised s 62 [.w 1, .w (s.fld
    F.AO_IMG_STATUS_SEQ)] = true)
  ∧ (∀ (s : State) (who : Party) (slot : Fin 2) (pages : Fin 8192), s.admits who 0 7 = true → s.fld F.AO_IMG_STATUS_STATE = 0 → s.mode ≠ .run → s.mode ≠ .safetyNet → ∃ t,
    exec (.imgWrite who slot pages) s = .next t ∧ t.fld F.AO_IMG_STATUS_RESULT = 2 ∧ t.boot = s.boot ∧ t.fld F.AO_IMG_STATUS_STATE = s.fld F.AO_IMG_STATUS_STATE ∧
    t.raised s 62 [.w 2, .w (s.fld F.AO_IMG_STATUS_SEQ)] = true)
  ∧ (∀ (s : State) (who : Party) (slot : Fin 2) (pages : Fin 8192), s.admits who 0 7 = true → s.fld F.AO_IMG_STATUS_STATE = 0 → s.mode = .run → slot.val = s.fld
    F.AO_BOOT_STATUS_SLOT → ∃ t, exec (.imgWrite who slot pages) s = .next t ∧ t.fld F.AO_IMG_STATUS_RESULT = 3 ∧ t.boot = s.boot ∧ t.fld F.AO_IMG_STATUS_STATE = s.fld
    F.AO_IMG_STATUS_STATE ∧ t.raised s 62 [.w 3, .w (s.fld F.AO_IMG_STATUS_SEQ)] = true)
  ∧ (∀ (s : State) (who : Party) (slot : Fin 2) (pages : Fin 8192), s.admits who 0 7 = true → s.fld F.AO_IMG_STATUS_STATE = 0 → s.mode = .safetyNet ∨ (s.mode = .run ∧
    slot.val ≠ s.fld F.AO_BOOT_STATUS_SLOT) → s.fld F.AO_PROG_STATUS_STATE ≠ 0 ∨ s.fld F.AO_UCODE_STATUS_STATE ≠ 0 → ∃ t, exec (.imgWrite who slot pages) s = .next t ∧
    t.fld F.AO_IMG_STATUS_RESULT = 4 ∧ t.boot = s.boot ∧ t.fld F.AO_IMG_STATUS_STATE = s.fld F.AO_IMG_STATUS_STATE ∧ t.raised s 62 [.w 4, .w (s.fld F.AO_IMG_STATUS_SEQ)]
    = true)
  ∧ (∀ (s : State) (who : Party) (slot : Fin 2) (pages : Fin 8192), s.admits who 0 7 = true → s.fld F.AO_IMG_STATUS_STATE = 0 → s.mode = .safetyNet ∨ (s.mode = .run ∧
    slot.val ≠ s.fld F.AO_BOOT_STATUS_SLOT) → s.fld F.AO_PROG_STATUS_STATE = 0 → s.fld F.AO_UCODE_STATUS_STATE = 0 → pages.val = 0 ∨ 4096 < pages.val ∨ 14320 < s.fld
    F.AO_IMG_ARG_OFFSET + pages → ∃ t, exec (.imgWrite who slot pages) s = .next t ∧ t.fld F.AO_IMG_STATUS_RESULT = 5 ∧ t.boot = s.boot ∧ t.fld F.AO_IMG_STATUS_STATE =
    s.fld F.AO_IMG_STATUS_STATE ∧ t.raised s 62 [.w 5, .w (s.fld F.AO_IMG_STATUS_SEQ)] = true)
  ∧ (∀ (s : State) (who : Party) (slot : Fin 2), s.admits who 0 7 = true → s.fld F.AO_IMG_STATUS_STATE = 0 → s.mode = .safetyNet ∨ (s.mode = .run ∧ slot.val ≠ s.fld
    F.AO_BOOT_STATUS_SLOT) → s.fld F.AO_PROG_STATUS_STATE = 0 → s.fld F.AO_UCODE_STATUS_STATE = 0 → ∃ t, exec (.imgCommit who slot) s = .next t ∧ t.fld
    F.AO_IMG_STATUS_STATE = 3 ∧ t.fld F.AO_IMG_STATUS_SEQ = (s.fld F.AO_IMG_STATUS_SEQ + 1) % 2 ^ 16 ∧ t.boot.img = some
    { op := 3, slot := slot, pages := 0, offset := s.fld F.AO_IMG_ARG_OFFSET } ∧ t.boot.flash = s.boot.flash)
  ∧ (∀ (s : State) (who : Party) (slot : Fin 2), s.admits who 0 7 = true → s.fld F.AO_IMG_STATUS_STATE ≠ 0 → ∃ t, exec (.imgCommit who slot) s = .next t ∧ t.fld
    F.AO_IMG_STATUS_RESULT = 1 ∧ t.boot = s.boot ∧ t.fld F.AO_IMG_STATUS_STATE = s.fld F.AO_IMG_STATUS_STATE ∧ t.raised s 62 [.w 1, .w (s.fld F.AO_IMG_STATUS_SEQ)] =
    true)
  ∧ (∀ (s : State) (who : Party) (slot : Fin 2), s.admits who 0 7 = true → s.fld F.AO_IMG_STATUS_STATE = 0 → s.mode ≠ .run → s.mode ≠ .safetyNet → ∃ t, exec (.imgCommit
    who slot) s = .next t ∧ t.fld F.AO_IMG_STATUS_RESULT = 2 ∧ t.boot = s.boot ∧ t.fld F.AO_IMG_STATUS_STATE = s.fld F.AO_IMG_STATUS_STATE ∧ t.raised s 62 [.w 2, .w
    (s.fld F.AO_IMG_STATUS_SEQ)] = true)
  ∧ (∀ (s : State) (who : Party) (slot : Fin 2), s.admits who 0 7 = true → s.fld F.AO_IMG_STATUS_STATE = 0 → s.mode = .run → slot.val = s.fld F.AO_BOOT_STATUS_SLOT → ∃ t,
    exec (.imgCommit who slot) s = .next t ∧ t.fld F.AO_IMG_STATUS_RESULT = 3 ∧ t.boot = s.boot ∧ t.fld F.AO_IMG_STATUS_STATE = s.fld F.AO_IMG_STATUS_STATE ∧ t.raised s
    62 [.w 3, .w (s.fld F.AO_IMG_STATUS_SEQ)] = true)
  ∧ (∀ (s : State) (who : Party) (slot : Fin 2), s.admits who 0 7 = true → s.fld F.AO_IMG_STATUS_STATE = 0 → s.mode = .safetyNet ∨ (s.mode = .run ∧ slot.val ≠ s.fld
    F.AO_BOOT_STATUS_SLOT) → s.fld F.AO_PROG_STATUS_STATE ≠ 0 ∨ s.fld F.AO_UCODE_STATUS_STATE ≠ 0 → ∃ t, exec (.imgCommit who slot) s = .next t ∧ t.fld
    F.AO_IMG_STATUS_RESULT = 4 ∧ t.boot = s.boot ∧ t.fld F.AO_IMG_STATUS_STATE = s.fld F.AO_IMG_STATUS_STATE ∧ t.raised s 62 [.w 4, .w (s.fld F.AO_IMG_STATUS_SEQ)] =
    true)
  ∧ (∀ (s : State) (who : Party) (pages : Fin 8192), s.admits who 0 7 = true → s.fld F.AO_IMG_STATUS_STATE = 0 → s.mode = .run ∨ s.mode = .safetyNet → s.fld
    F.AO_PROG_STATUS_STATE = 0 → s.fld F.AO_UCODE_STATUS_STATE = 0 → pages.val ≠ 0 → pages.val ≤ 8 → ∃ t, exec (.writeBcfg who pages) s = .next t ∧ t.fld
    F.AO_IMG_STATUS_STATE = 2 ∧ t.fld F.AO_IMG_STATUS_SEQ = (s.fld F.AO_IMG_STATUS_SEQ + 1) % 2 ^ 16 ∧ t.boot.img = some
    { op := 4, slot := 0, pages := pages, offset := s.fld F.AO_IMG_ARG_OFFSET } ∧ t.boot.flash = s.boot.flash)
  ∧ (∀ (s : State) (who : Party) (pages : Fin 8192), s.admits who 0 7 = true → s.fld F.AO_IMG_STATUS_STATE ≠ 0 → ∃ t, exec (.writeBcfg who pages) s = .next t ∧ t.fld
    F.AO_IMG_STATUS_RESULT = 1 ∧ t.boot = s.boot ∧ t.fld F.AO_IMG_STATUS_STATE = s.fld F.AO_IMG_STATUS_STATE ∧ t.raised s 62 [.w 1, .w (s.fld F.AO_IMG_STATUS_SEQ)] =
    true)
  ∧ (∀ (s : State) (who : Party) (pages : Fin 8192), s.admits who 0 7 = true → s.fld F.AO_IMG_STATUS_STATE = 0 → s.mode ≠ .run → s.mode ≠ .safetyNet → ∃ t, exec
    (.writeBcfg who pages) s = .next t ∧ t.fld F.AO_IMG_STATUS_RESULT = 2 ∧ t.boot = s.boot ∧ t.fld F.AO_IMG_STATUS_STATE = s.fld F.AO_IMG_STATUS_STATE ∧ t.raised s 62
    [.w 2, .w (s.fld F.AO_IMG_STATUS_SEQ)] = true)
  ∧ (∀ (s : State) (who : Party) (pages : Fin 8192), s.admits who 0 7 = true → s.fld F.AO_IMG_STATUS_STATE = 0 → s.mode = .run ∨ s.mode = .safetyNet → s.fld
    F.AO_PROG_STATUS_STATE ≠ 0 ∨ s.fld F.AO_UCODE_STATUS_STATE ≠ 0 → ∃ t, exec (.writeBcfg who pages) s = .next t ∧ t.fld F.AO_IMG_STATUS_RESULT = 4 ∧ t.boot = s.boot ∧
    t.fld F.AO_IMG_STATUS_STATE = s.fld F.AO_IMG_STATUS_STATE ∧ t.raised s 62 [.w 4, .w (s.fld F.AO_IMG_STATUS_SEQ)] = true)
  ∧ (∀ (s : State) (who : Party) (pages : Fin 8192), s.admits who 0 7 = true → s.fld F.AO_IMG_STATUS_STATE = 0 → s.mode = .run ∨ s.mode = .safetyNet → s.fld
    F.AO_PROG_STATUS_STATE = 0 → s.fld F.AO_UCODE_STATUS_STATE = 0 → pages.val = 0 ∨ 8 < pages.val → ∃ t, exec (.writeBcfg who pages) s = .next t ∧ t.fld
    F.AO_IMG_STATUS_RESULT = 5 ∧ t.boot = s.boot ∧ t.fld F.AO_IMG_STATUS_STATE = s.fld F.AO_IMG_STATUS_STATE ∧ t.raised s 62 [.w 5, .w (s.fld F.AO_IMG_STATUS_SEQ)] =
    true)
  ∧ (∀ (s : State) (c : ImgCmd), s.boot.img = some c → c.op = 1 → ∃ t, exec (.imgCmdDone .done) s = .next t ∧ t.flashPart c.slot = [] ∧ t.fld F.AO_IMG_STATUS_STATE = 0 ∧
    t.fld F.AO_IMG_STATUS_RESULT = 0 ∧ t.boot.img = none ∧ t.raised s 62 [.w 0, .w (s.fld F.AO_IMG_STATUS_SEQ)] = true)
  ∧ (∀ (s : State) (c : ImgCmd) (r : FlashResult), s.boot.img = some c → c.op = 1 → r ≠ .done → ∃ t, exec (.imgCmdDone r) s = .next t ∧ t.boot.flash = s.boot.flash ∧ t.fld
    F.AO_IMG_STATUS_STATE = 0 ∧ t.fld F.AO_IMG_STATUS_RESULT = 8 ∧ t.boot.img = none ∧ t.raised s 62 [.w 8, .w (s.fld F.AO_IMG_STATUS_SEQ)] = true)
  ∧ (∀ (s : State) (c : ImgCmd), s.boot.img = some c → c.op = 2 → (s.flashPart c.slot).any (fun e => inRange e.1 (4096 * c.offset) (4096 * c.pages)) = false → ∃ t, exec
    (.imgCmdDone .done) s = .next t ∧ flashBytes (t.flashPart c.slot) (4096 * c.offset) (4096 * c.pages) = cellsRead s.staging 0 (4096 * c.pages) ∧ t.fld
    F.AO_IMG_STATUS_STATE = 0 ∧ t.fld F.AO_IMG_STATUS_RESULT = 0 ∧ t.boot.img = none ∧ t.raised s 62 [.w 0, .w (s.fld F.AO_IMG_STATUS_SEQ)] = true)
  ∧ (∀ (s : State) (c : ImgCmd) (r : FlashResult), s.boot.img = some c → c.op = 2 → (s.flashPart c.slot).any (fun e => inRange e.1 (4096 * c.offset) (4096 * c.pages)) =
    true → ∃ t, exec (.imgCmdDone r) s = .next t ∧ t.boot.flash = s.boot.flash ∧ t.fld F.AO_IMG_STATUS_STATE = 0 ∧ t.fld F.AO_IMG_STATUS_RESULT = 6 ∧ t.boot.img = none ∧
    t.raised s 62 [.w 6, .w (s.fld F.AO_IMG_STATUS_SEQ)] = true)
  ∧ (∀ (s : State) (c : ImgCmd), s.boot.img = some c → c.op = 2 → (s.flashPart c.slot).any (fun e => inRange e.1 (4096 * c.offset) (4096 * c.pages)) = false → ∃ t, exec
    (.imgCmdDone .mismatch) s = .next t ∧ t.fld F.AO_IMG_STATUS_STATE = 0 ∧ t.fld F.AO_IMG_STATUS_RESULT = 6 ∧ t.boot.img = none ∧ t.raised s 62 [.w 6, .w (s.fld
    F.AO_IMG_STATUS_SEQ)] = true)
  ∧ (∀ (s : State) (c : ImgCmd), s.boot.img = some c → c.op = 2 → (s.flashPart c.slot).any (fun e => inRange e.1 (4096 * c.offset) (4096 * c.pages)) = false → ∃ t, exec
    (.imgCmdDone .error) s = .next t ∧ t.fld F.AO_IMG_STATUS_STATE = 0 ∧ t.fld F.AO_IMG_STATUS_RESULT = 8 ∧ t.boot.img = none ∧ t.raised s 62 [.w 8, .w (s.fld
    F.AO_IMG_STATUS_SEQ)] = true)
  ∧ (∀ (s : State) (c : ImgCmd) (r : FlashResult), s.boot.img = some c → c.op = 3 → (parseHdr (flashBytes (s.flashPart c.slot) 0 256)).any (fun h => !h.runLoad && decide
    (s.boot.floor ≤ h.svn) && decide (h.len + 3080 ≤ 0x037F0000)) = false → ∃ t, exec (.imgCmdDone r) s = .next t ∧ t.boot.flash = s.boot.flash ∧ t.fld
    F.AO_IMG_STATUS_STATE = 0 ∧ t.fld F.AO_IMG_STATUS_RESULT = 7 ∧ t.boot.img = none ∧ t.raised s 62 [.w 7, .w (s.fld F.AO_IMG_STATUS_SEQ)] = true)
  ∧ (∀ (s : State) (c : ImgCmd), s.boot.img = some c → c.op = 3 → (parseHdr (flashBytes (s.flashPart c.slot) 0 256)).any (fun h => !h.runLoad && decide (s.boot.floor ≤
    h.svn) && decide (h.len + 3080 ≤ 0x037F0000)) = true → (flashBytes (s.flashPart c.slot) 0x037F0000 64).any (fun b => b != 255) = false → ∃ t, exec (.imgCmdDone
    .done) s = .next t ∧ (∀ h, (parseHdr (flashBytes (s.flashPart c.slot) 0 256)) = some h → t.flashPart c.slot = flashPut (s.flashPart c.slot) 0x037F0000 (commitRecord
    c.slot h.seq (h.len + 3080) (Config.shake256 (flashBytes (s.flashPart c.slot) 0 (h.len + 3080)) 32))) ∧ Map.get false c.slot t.boot.demoted = false ∧ t.fld
    F.AO_IMG_STATUS_STATE = 0 ∧ t.fld F.AO_IMG_STATUS_RESULT = 0 ∧ t.boot.img = none ∧ t.raised s 62 [.w 0, .w (s.fld F.AO_IMG_STATUS_SEQ)] = true)
  ∧ (∀ (s : State) (c : ImgCmd) (r : FlashResult), s.boot.img = some c → c.op = 3 → (parseHdr (flashBytes (s.flashPart c.slot) 0 256)).any (fun h => !h.runLoad && decide
    (s.boot.floor ≤ h.svn) && decide (h.len + 3080 ≤ 0x037F0000)) = true → (flashBytes (s.flashPart c.slot) 0x037F0000 64).any (fun b => b != 255) = true → ∃ t, exec
    (.imgCmdDone r) s = .next t ∧ t.boot.flash = s.boot.flash ∧ t.fld F.AO_IMG_STATUS_STATE = 0 ∧ t.fld F.AO_IMG_STATUS_RESULT = 6 ∧ t.boot.img = none ∧ t.raised s 62
    [.w 6, .w (s.fld F.AO_IMG_STATUS_SEQ)] = true)
  ∧ (∀ (s : State) (c : ImgCmd) (r : FlashResult), s.boot.img = some c → c.op = 3 → (parseHdr (flashBytes (s.flashPart c.slot) 0 256)).any (fun h => !h.runLoad && decide
    (s.boot.floor ≤ h.svn) && decide (h.len + 3080 ≤ 0x037F0000)) = true → (flashBytes (s.flashPart c.slot) 0x037F0000 64).any (fun b => b != 255) = false → r ≠ .done →
    ∃ t, exec (.imgCmdDone r) s = .next t ∧ t.boot.flash = s.boot.flash ∧ t.fld F.AO_IMG_STATUS_STATE = 0 ∧ t.fld F.AO_IMG_STATUS_RESULT = 8 ∧ t.boot.img = none ∧
    t.raised s 62 [.w 8, .w (s.fld F.AO_IMG_STATUS_SEQ)] = true)
  ∧ (∀ (s : State) (c : ImgCmd), s.boot.img = some c → c.op = 4 → s.bcfg 0 = none ∨ s.bcfg 1 = none → ∃ t, exec (.imgCmdDone .done) s = .next t ∧ t.flashPart (if s.bcfg 0
    = none then 2 else 3) = flashPut [] 0 (cellsRead s.staging 0 (4096 * c.pages)) ∧ t.fld F.AO_IMG_STATUS_STATE = 0 ∧ t.fld F.AO_IMG_STATUS_RESULT = 0 ∧ t.boot.img =
    none ∧ t.raised s 62 [.w 0, .w (s.fld F.AO_IMG_STATUS_SEQ)] = true)
  ∧ (∀ (s : State) (c : ImgCmd) (a b : Nat × List (Nat × Nat)), s.boot.img = some c → c.op = 4 → s.bcfg 0 = some a → s.bcfg 1 = some b → ∃ t, exec (.imgCmdDone .done) s =
    .next t ∧ t.flashPart (if a.1 < b.1 then 2 else 3) = flashPut [] 0 (cellsRead s.staging 0 (4096 * c.pages)) ∧ t.fld F.AO_IMG_STATUS_STATE = 0 ∧ t.fld
    F.AO_IMG_STATUS_RESULT = 0 ∧ t.boot.img = none ∧ t.raised s 62 [.w 0, .w (s.fld F.AO_IMG_STATUS_SEQ)] = true)
  ∧ (∀ (s : State) (c : ImgCmd), s.boot.img = some c → c.op = 4 → ∃ t, exec (.imgCmdDone .mismatch) s = .next t ∧ t.fld F.AO_IMG_STATUS_STATE = 0 ∧ t.fld
    F.AO_IMG_STATUS_RESULT = 6 ∧ t.boot.img = none ∧ t.raised s 62 [.w 6, .w (s.fld F.AO_IMG_STATUS_SEQ)] = true)
  ∧ (∀ (s : State) (c : ImgCmd), s.boot.img = some c → c.op = 4 → ∃ t, exec (.imgCmdDone .error) s = .next t ∧ t.fld F.AO_IMG_STATUS_STATE = 0 ∧ t.fld
    F.AO_IMG_STATUS_RESULT = 8 ∧ t.boot.img = none ∧ t.raised s 62 [.w 8, .w (s.fld F.AO_IMG_STATUS_SEQ)] = true)
  ∧ (∀ (s : State) (r : FlashResult), s.boot.img = none → exec (.imgCmdDone r) s = .next (s))
  ∧ (∀ (s : State) (who : Party), s.admits who 0 7 = true → Map.get false 0 s.boot.demoted = true → ∃ t, exec (.clrDemoteA who) s = .next t ∧ Map.get false 0
    t.boot.demoted = false ∧ t.flag F.AO_BOOT_STATUS_A_DEMOTED = false ∧ Map.get false 1 t.boot.demoted = Map.get false 1 s.boot.demoted ∧ t.log.newest = (s.log.newest +
    1) % 2 ^ 32)
  ∧ (∀ (s : State) (who : Party), s.admits who 0 7 = true → Map.get false 0 s.boot.demoted = false → exec (.clrDemoteA who) s = .next (s))
  ∧ (∀ (s : State) (who : Party), s.admits who 0 7 = true → Map.get false 1 s.boot.demoted = true → ∃ t, exec (.clrDemoteB who) s = .next t ∧ Map.get false 1
    t.boot.demoted = false ∧ t.flag F.AO_BOOT_STATUS_B_DEMOTED = false ∧ Map.get false 0 t.boot.demoted = Map.get false 0 s.boot.demoted ∧ t.log.newest = (s.log.newest +
    1) % 2 ^ 32)
  ∧ (∀ (s : State) (who : Party), s.admits who 0 7 = true → Map.get false 1 s.boot.demoted = false → exec (.clrDemoteB who) s = .next (s))
  ∧ (∀ (s : State) (n : Fin 65), s.mode = .run → s.unverified = false → s.boot.advance = true → s.boot.floor < s.boot.svn → ∃ t, exec (.floorAdvance n) s = .next t ∧
    t.boot.floor = max s.boot.floor (min n s.boot.svn) ∧ (s.boot.svn ≤ n → t.raised s 63 [.w s.boot.svn, .w 1] = true))
  ∧ (∀ (s : State) (n : Fin 65), s.mode ≠ .run ∨ s.unverified = true ∨ s.boot.advance = false ∨ s.boot.svn ≤ s.boot.floor → exec (.floorAdvance n) s = .next (s))
  ∧ (∀ (s : State) (who : Party) (v : Word) (blown : Bool) (ok : Bool) (root : Nat), s.admits who 0 8 = true → bits v.toNat 16 16 = 0xC1A0 → bits v.toNat 12 4 = 1 → root =
    bits v.toNat 0 2 → ok = (s.mode == .run && !s.unverified && root != s.boot.root && (List.range 4).any (fun r => r != root && bit rootsSet r && !bit s.boot.revoked
    r)) → ∃ t, exec (.rootRevoke who v blown) s = .next t ∧ t.fld F.AO_FUSE_STATUS_RESULT = (if ok then (if blown then 1 else 3) else 2) ∧ t.boot.revoked = (if ok &&
    blown then Nat.lor s.boot.revoked (2 ^ root) else s.boot.revoked) ∧ (ok = true → t.raised s 63 [.w root, .w (if blown then 1 else 3)] = true))
  ∧ (∀ (s : State) (who : Party) (v : Word) (blown : Bool), s.admits who 0 8 = true → bits v.toNat 16 16 ≠ 0xC1A0 ∨ bits v.toNat 12 4 ≠ 1 → exec (.rootRevoke who v blown)
    s = .next (s))
  ∧ (∀ (s : State) (who : Party) (v : Word) (slot : Nat), s.admits who 0 8 = true → bits v.toNat 28 4 = 1 → slot = bits v.toNat 0 14 → bits v.toNat 24 4 ≤ 4 → s.unverified
    = false → s.flag F.AO_DBG_STATUS_SUPV_LOCK = false → (if s.rank who ≤ 2 then s.holders.any (fun fi => s.ownsSlot fi slot) else s.holders.contains s.mgr && s.ownsSlot
    s.mgr slot) = true → ∃ t, exec (.sealDerive who v) s = .next t ∧ t.loaded slot = true ∧ t.keyOf slot = Config.shake256 (Config.identitySecret ++ Config.rootDigest
    s.boot.root ++ leBytes 4 (s.fld F.AO_SEAL_LABEL_LABEL)) (if bits v.toNat 24 4 = 1 then 64 else 32) ∧ t.fld F.HX_CIPH_SLOT_MODE slot = bits v.toNat 24 4 ∧ t.fld
    F.HX_CIPH_SLOT_KLEN slot = 1 ∧ t.flag F.HX_CIPH_SLOT_ENC slot = true ∧ t.flag F.HX_CIPH_SLOT_DEC slot = true ∧ t.fld F.AO_ATT_STATUS_SEAL_RESULT = 0)
  ∧ (∀ (s : State) (who : Party) (v : Word) (slot : Nat), s.admits who 0 8 = true → bits v.toNat 28 4 = 1 → slot = bits v.toNat 0 14 → s.unverified = true ∨ s.flag
    F.AO_DBG_STATUS_SUPV_LOCK = true ∨ 4 < bits v.toNat 24 4 ∨ (if s.rank who ≤ 2 then s.holders.any (fun fi => s.ownsSlot fi slot) else s.holders.contains s.mgr &&
    s.ownsSlot s.mgr slot) = false → ∃ t, exec (.sealDerive who v) s = .next t ∧ t.ciph = s.ciph ∧ t.fld F.AO_ATT_STATUS_SEAL_RESULT = 1)
  ∧ (∀ (s : State) (who : Party) (v : Word), s.admits who 0 8 = true → bits v.toNat 28 4 ≠ 1 → exec (.sealDerive who v) s = .next (s))
  ∧ (∀ (s : State), s.mode ≠ .off → s.mode ≠ .standby → ∃ t, exec .keyPairDerived s = .next t ∧ t.flag F.AO_ATT_STATUS_READY = true)
  ∧ (∀ (s : State), s.mode = .off ∨ s.mode = .standby → exec .keyPairDerived s = .next (s))
  ∧ (∀ (s : State) (who : Party), s.admits who 0 8 = true → s.flag F.AO_ATT_STATUS_BUSY = false → ∃ t, exec (.attReport who) s = .next t ∧ t.flag F.AO_ATT_STATUS_BUSY =
    true ∧ t.boot.attIn = (List.range 24).map (fun i => s.fld F.AO_ATT_IN_WORD i) ∧ t.boot.report = s.boot.report)
  ∧ (∀ (s : State) (who : Party), s.admits who 0 8 = true → s.flag F.AO_ATT_STATUS_BUSY = true → ∃ t, exec (.attReport who) s = .next t ∧ t.fld F.AO_ATT_STATUS_RESULT = 1
    ∧ t.boot = s.boot ∧ t.raised s 64 [] = true)
  ∧ (∀ (s : State), s.flag F.AO_ATT_STATUS_BUSY = true → s.flag F.AO_ATT_STATUS_READY = true → ∃ t, exec .reportDone s = .next t ∧ t.boot.report.take 256 = s.reportBody ∧
    t.boot.report.length = 1536 ∧ t.flag F.AO_ATT_STATUS_BUSY = false ∧ t.fld F.AO_ATT_STATUS_RESULT = 0)
  ∧ (∀ (s : State), s.flag F.AO_ATT_STATUS_BUSY = false ∨ s.flag F.AO_ATT_STATUS_READY = false → exec .reportDone s = .next (s))
  ∧ (∀ (s : State) (v : Word), s.admits .supervisor 7 0 = true → ∃ t, exec (.coreRelease .supervisor v) s = .next t ∧ (∀ n ∈ List.range 32, bit (t.fld
    F.CX_CORE_RELEASE_REL) n = (bit (s.fld F.CX_CORE_RELEASE_REL) n || bit v.toNat n)) ∧ (∀ n ∈ List.range 32, bit v.toNat n = true → bit (s.fld F.CX_CORE_RELEASE_REL) n
    = false → .coreStart n (s.fld F.CX_CORE_ENTRY_ENTRY) ∈ t.sent s ∧ (t.hart n).pc = s.fld F.CX_CORE_ENTRY_ENTRY ∧ (t.hart n).priv = 3))
  ∧ (∀ (s : State) (who : Party) (v : Word), s.admits who 7 0 = true → who ≠ .supervisor → exec (.coreRelease who v) s = .next (s))

/-- Region faults reset a region or are module faults, resets end, module faults act by the state, the watchdog, log intervals and reading (12_host_links_pcie.md, 21_boot_trust.md, 22_faults_ageing_calibration.md). The codes of region faults that no table gives one, within the region's nibble, are open values (log entry 25), and so is the cause of a failed start that R608 names none for; that every RWL field of the region is locked at the end of its reset is the model's choice (log entry 57), as is what a unit beyond the entry's last reads as (log entry 16). -/
def Obligations.FaultsResetsAndTheLog : Prop :=
  (∀ (s : State) (who : Party) (r : Fin 9), s.powered = true → s.reach who true (0x00900010 + 4 * r) = .served → s.inService = true → s.fenced r = false → (s.recent
    3600000000000 (Map.get [] r s.resetTimes)).length < s.rrLimit → (s.rank who = 2 ∧ 1 ≤ r.val ∧ r.val ≤ 7) ∨ (s.rank who = 3 ∧ ((1 ≤ r.val ∧ r.val ≤ 4) ∨ r.val = 7)) →
    s.faultsDue = [] → s.request = 0 → ∃ t, exec (.regionResetReq who r) s = .next t ∧ t.fenced r = true ∧ t.mode = s.mode ∧ (∀ q ∈ List.range 9, q ≠ r → t.fenced q =
    s.fenced q) ∧ t.fld F.AO_FLT_REGION_LAST_CAUSE r = 0x0909 ∧ t.raised s 70 [.w r, .w 0x0909, .w 0] = true ∧ (Map.get [] r t.resetTimes).head? = some s.now)
  ∧ (∀ (s : State) (who : Party) (r : Fin 9), s.powered = true → s.reach who true (0x00900010 + 4 * r) = .served → s.inService = true → s.fenced r = false → s.rrLimit ≤
    (s.recent 3600000000000 (Map.get [] r s.resetTimes)).length → (s.rank who = 2 ∧ 1 ≤ r.val ∧ r.val ≤ 7) ∨ (s.rank who = 3 ∧ ((1 ≤ r.val ∧ r.val ≤ 4) ∨ r.val = 7)) →
    s.faultsDue = [] → s.request = 0 → ∃ t, exec (.regionResetReq who r) s = .next t ∧ t.fld F.AO_FLT_REGION_LAST_CAUSE r = 0x0909 ∧ t.fld F.AO_FLT_STATUS_LAST_MF =
    0x0906 ∧ t.raised s 1 [.w (if s.dirty then ModState.vault else (if (s.recent 86400000000000 s.faultTimes).length + 1 < s.mfLimit then ModState.boot else
    ModState.safetyNet)).code, .w s.mode.code, .w causeModuleFault] = true)
  ∧ (∀ (s : State) (who : Party) (r : Fin 9), s.powered = true → s.reach who true (0x00900010 + 4 * r) = .served → s.inService = false ∨ s.fenced r = true ∨ ¬ ((s.rank who
    = 2 ∧ 1 ≤ r.val ∧ r.val ≤ 7) ∨ (s.rank who = 3 ∧ ((1 ≤ r.val ∧ r.val ≤ 4) ∨ r.val = 7))) → s.faultsDue = [] → s.request = 0 → ∃ t, exec (.regionResetReq who r) s =
    .next t ∧ t.raised s 72 [.w r, .w (s.rank who * 4096 + partyIndex who)] = true ∧ t.resetTimes = s.resetTimes ∧ t.mode = s.mode ∧ (∀ q ∈ List.range 9, t.fenced q =
    s.fenced q))
  ∧ (∀ (s : State) (who : Party) (r : Fin 9), s.powered = true → s.reach who true (0x00900010 + 4 * r) ≠ .served → ∃ t, exec (.regionResetReq who r) s = .next t ∧
    t.resetTimes = s.resetTimes ∧ t.mode = s.mode ∧ (∀ q ∈ List.range 9, t.fenced q = s.fenced q))
  ∧ (∀ (s : State) (who : Party) (r : Fin 9), s.powered = false → exec (.regionResetReq who r) s = .next (s))
  ∧ (∀ (s : State) (r : Fin 9), 1 ≤ r.val → r.val ≤ 7 → s.inService = true → s.fenced r = false → (s.recent 3600000000000 (Map.get [] r s.resetTimes)).length < s.rrLimit →
    ∃ t, exec (.interconnectTimeout r) s = .next t ∧ t.fenced r = true ∧ t.mode = s.mode ∧ (∀ q ∈ List.range 9, q ≠ r → t.fenced q = s.fenced q) ∧ t.fld
    F.AO_FLT_REGION_LAST_CAUSE r = s.openCode r ∧ t.raised s 70 [.w r, .w (s.openCode r), .w 0] = true ∧ (Map.get [] r t.resetTimes).head? = some s.now)
  ∧ (∀ (s : State) (r : Fin 9), r.val = 0 ∨ r.val = 8 ∨ s.fenced r = true ∨ s.rrLimit ≤ (s.recent 3600000000000 (Map.get [] r s.resetTimes)).length → s.inService = true →
    s.dirty = true → ∃ t, exec (.interconnectTimeout r) s = .next t ∧ t.shows .vault s.mode causeModuleFault ∧ t.fld F.AO_MODULE_STATE_PENDING = (if (s.recent
    86400000000000 s.faultTimes).length + 1 < s.mfLimit then ModState.boot else ModState.safetyNet).code ∧ (t.fld F.AO_FLT_STATUS_LAST_MF = (if r.val = 0 ∨ r.val = 8
    then 0x0908 else if s.fenced r then 0x0905 else 0x0906)) ∧ (t.raised s 71 [.w ((if r.val = 0 ∨ r.val = 8 then 0x0908 else if s.fenced r then 0x0905 else 0x0906)), .w
    ((s.recent 86400000000000 s.faultTimes).length + 1), .w (if (s.recent 86400000000000 s.faultTimes).length + 1 < s.mfLimit then ModState.boot else
    ModState.safetyNet).code] = true) ∧ t.fld F.AO_FLT_REGION_LAST_CAUSE r = s.openCode r)
  ∧ (∀ (s : State) (r : Fin 9), r.val = 0 ∨ r.val = 8 ∨ s.fenced r = true ∨ s.rrLimit ≤ (s.recent 3600000000000 (Map.get [] r s.resetTimes)).length → s.inService = true →
    s.dirty = false → ∃ t, exec (.interconnectTimeout r) s = .next t ∧ t.raised s 1 [.w (if (s.recent 86400000000000 s.faultTimes).length + 1 < s.mfLimit then
    ModState.boot else ModState.safetyNet).code, .w s.mode.code, .w causeModuleFault] = true ∧ (t.fld F.AO_FLT_STATUS_LAST_MF = (if r.val = 0 ∨ r.val = 8 then 0x0908
    else if s.fenced r then 0x0905 else 0x0906)) ∧ (t.raised s 71 [.w ((if r.val = 0 ∨ r.val = 8 then 0x0908 else if s.fenced r then 0x0905 else 0x0906)), .w ((s.recent
    86400000000000 s.faultTimes).length + 1), .w (if (s.recent 86400000000000 s.faultTimes).length + 1 < s.mfLimit then ModState.boot else ModState.safetyNet).code] =
    true) ∧ t.fld F.AO_FLT_REGION_LAST_CAUSE r = s.openCode r)
  ∧ (∀ (s : State) (r : Fin 9), s.mode = .standby ∨ s.mode = .safetyNet ∨ s.mode = .halt → ∃ t, exec (.interconnectTimeout r) s = .next t ∧ t.mode = s.mode ∧ (t.fld
    F.AO_FLT_STATUS_LAST_MF = (if r.val = 0 ∨ r.val = 8 then 0x0908 else s.openCode r)) ∧ (t.raised s 71 [.w ((if r.val = 0 ∨ r.val = 8 then 0x0908 else s.openCode r)),
    .w (s.recent 86400000000000 s.faultTimes).length, .w s.mode.code] = true) ∧ t.fld F.AO_FLT_REGION_LAST_CAUSE r = s.openCode r)
  ∧ (∀ (s : State) (r : Fin 9), s.mode = .boot → ∃ t, exec (.interconnectTimeout r) s = .next t ∧ (t.fld F.AO_FLT_STATUS_LAST_MF = (if r.val = 0 ∨ r.val = 8 then 0x0908
    else s.openCode r)) ∧ (t.raised s 71 [.w ((if r.val = 0 ∨ r.val = 8 then 0x0908 else s.openCode r)), .w (s.recent 86400000000000 s.faultTimes).length, .w (if
    s.boot.fails + 1 < 3 then ModState.boot else ModState.safetyNet).code] = true) ∧ t.raised s 61 [.w (s.fld F.AO_BOOT_STATUS_SLOT), .w (s.drawn.free), .w (s.boot.fails
    + 1)] = true ∧ t.raised s 1 [.w (if s.boot.fails + 1 < 3 then ModState.boot else ModState.safetyNet).code, .w ModState.boot.code, .w (if s.boot.fails + 1 < 3 then
    causeStartFailed else causeStartsExhausted)] = true ∧ t.fld F.AO_FLT_REGION_LAST_CAUSE r = s.openCode r)
  ∧ (∀ (s : State) (r : Fin 9), s.mode = .vault → r.val = 6 ∨ r.val = 8 → ∃ t, exec (.interconnectTimeout r) s = .next t ∧ (t.fld F.AO_FLT_STATUS_LAST_MF = (if r.val = 0 ∨
    r.val = 8 then 0x0908 else s.openCode r)) ∧ t.raised s 1 [.w (ModState.ofCode (s.fld F.AO_MODULE_STATE_PENDING)).code, .w ModState.vault.code, .w causeVaultDone] =
    true ∧ t.fld F.AO_FLT_REGION_LAST_CAUSE r = s.openCode r)
  ∧ (∀ (s : State) (r : Fin 9), s.mode = .vault → ¬ (r.val = 6 ∨ r.val = 8) → ∃ t, exec (.interconnectTimeout r) s = .next t ∧ t.mode = .vault ∧ (t.lateFaults =
    s.lateFaults ++ [(if r.val = 0 ∨ r.val = 8 then 0x0908 else s.openCode r)]) ∧ t.fld F.AO_FLT_REGION_LAST_CAUSE r = s.openCode r)
  ∧ (∀ (s : State) (r : Fin 9), s.powered = false → exec (.interconnectTimeout r) s = .next (s.drawn))
  ∧ (∀ (s : State) (r : Fin 9), 1 ≤ r.val → r.val ≤ 7 → s.inService = true → s.fenced r = false → (s.recent 3600000000000 (Map.get [] r s.resetTimes)).length < s.rrLimit →
    ∃ t, exec (.pllUnlock r) s = .next t ∧ t.fenced r = true ∧ t.mode = s.mode ∧ (∀ q ∈ List.range 9, q ≠ r → t.fenced q = s.fenced q) ∧ t.fld F.AO_FLT_REGION_LAST_CAUSE
    r = s.openCode r ∧ t.raised s 70 [.w r, .w (s.openCode r), .w 0] = true ∧ (Map.get [] r t.resetTimes).head? = some s.now)
  ∧ (∀ (s : State) (r : Fin 9), r.val = 0 ∨ r.val = 8 ∨ s.fenced r = true ∨ s.rrLimit ≤ (s.recent 3600000000000 (Map.get [] r s.resetTimes)).length → s.inService = true →
    s.dirty = true → ∃ t, exec (.pllUnlock r) s = .next t ∧ t.shows .vault s.mode causeModuleFault ∧ t.fld F.AO_MODULE_STATE_PENDING = (if (s.recent 86400000000000
    s.faultTimes).length + 1 < s.mfLimit then ModState.boot else ModState.safetyNet).code ∧ (t.fld F.AO_FLT_STATUS_LAST_MF = (if r.val = 0 ∨ r.val = 8 then 0x0908 else
    if s.fenced r then 0x0905 else 0x0906)) ∧ (t.raised s 71 [.w ((if r.val = 0 ∨ r.val = 8 then 0x0908 else if s.fenced r then 0x0905 else 0x0906)), .w ((s.recent
    86400000000000 s.faultTimes).length + 1), .w (if (s.recent 86400000000000 s.faultTimes).length + 1 < s.mfLimit then ModState.boot else ModState.safetyNet).code] =
    true) ∧ t.fld F.AO_FLT_REGION_LAST_CAUSE r = s.openCode r)
  ∧ (∀ (s : State) (r : Fin 9), r.val = 0 ∨ r.val = 8 ∨ s.fenced r = true ∨ s.rrLimit ≤ (s.recent 3600000000000 (Map.get [] r s.resetTimes)).length → s.inService = true →
    s.dirty = false → ∃ t, exec (.pllUnlock r) s = .next t ∧ t.raised s 1 [.w (if (s.recent 86400000000000 s.faultTimes).length + 1 < s.mfLimit then ModState.boot else
    ModState.safetyNet).code, .w s.mode.code, .w causeModuleFault] = true ∧ (t.fld F.AO_FLT_STATUS_LAST_MF = (if r.val = 0 ∨ r.val = 8 then 0x0908 else if s.fenced r
    then 0x0905 else 0x0906)) ∧ (t.raised s 71 [.w ((if r.val = 0 ∨ r.val = 8 then 0x0908 else if s.fenced r then 0x0905 else 0x0906)), .w ((s.recent 86400000000000
    s.faultTimes).length + 1), .w (if (s.recent 86400000000000 s.faultTimes).length + 1 < s.mfLimit then ModState.boot else ModState.safetyNet).code] = true) ∧ t.fld
    F.AO_FLT_REGION_LAST_CAUSE r = s.openCode r)
  ∧ (∀ (s : State) (r : Fin 9), s.mode = .standby ∨ s.mode = .safetyNet ∨ s.mode = .halt → ∃ t, exec (.pllUnlock r) s = .next t ∧ t.mode = s.mode ∧ (t.fld
    F.AO_FLT_STATUS_LAST_MF = (if r.val = 0 ∨ r.val = 8 then 0x0908 else s.openCode r)) ∧ (t.raised s 71 [.w ((if r.val = 0 ∨ r.val = 8 then 0x0908 else s.openCode r)),
    .w (s.recent 86400000000000 s.faultTimes).length, .w s.mode.code] = true) ∧ t.fld F.AO_FLT_REGION_LAST_CAUSE r = s.openCode r)
  ∧ (∀ (s : State) (r : Fin 9), s.mode = .boot → ∃ t, exec (.pllUnlock r) s = .next t ∧ (t.fld F.AO_FLT_STATUS_LAST_MF = (if r.val = 0 ∨ r.val = 8 then 0x0908 else
    s.openCode r)) ∧ (t.raised s 71 [.w ((if r.val = 0 ∨ r.val = 8 then 0x0908 else s.openCode r)), .w (s.recent 86400000000000 s.faultTimes).length, .w (if s.boot.fails
    + 1 < 3 then ModState.boot else ModState.safetyNet).code] = true) ∧ t.raised s 61 [.w (s.fld F.AO_BOOT_STATUS_SLOT), .w (s.drawn.free), .w (s.boot.fails + 1)] = true
    ∧ t.raised s 1 [.w (if s.boot.fails + 1 < 3 then ModState.boot else ModState.safetyNet).code, .w ModState.boot.code, .w (if s.boot.fails + 1 < 3 then
    causeStartFailed else causeStartsExhausted)] = true ∧ t.fld F.AO_FLT_REGION_LAST_CAUSE r = s.openCode r)
  ∧ (∀ (s : State) (r : Fin 9), s.mode = .vault → r.val = 6 ∨ r.val = 8 → ∃ t, exec (.pllUnlock r) s = .next t ∧ (t.fld F.AO_FLT_STATUS_LAST_MF = (if r.val = 0 ∨ r.val = 8
    then 0x0908 else s.openCode r)) ∧ t.raised s 1 [.w (ModState.ofCode (s.fld F.AO_MODULE_STATE_PENDING)).code, .w ModState.vault.code, .w causeVaultDone] = true ∧
    t.fld F.AO_FLT_REGION_LAST_CAUSE r = s.openCode r)
  ∧ (∀ (s : State) (r : Fin 9), s.mode = .vault → ¬ (r.val = 6 ∨ r.val = 8) → ∃ t, exec (.pllUnlock r) s = .next t ∧ t.mode = .vault ∧ (t.lateFaults = s.lateFaults ++ [(if
    r.val = 0 ∨ r.val = 8 then 0x0908 else s.openCode r)]) ∧ t.fld F.AO_FLT_REGION_LAST_CAUSE r = s.openCode r)
  ∧ (∀ (s : State) (r : Fin 9), s.powered = false → exec (.pllUnlock r) s = .next (s.drawn))
  ∧ (∀ (s : State) (r : Fin 9), 1 ≤ r.val → r.val ≤ 7 → s.inService = true → s.fenced r = false → (s.recent 3600000000000 (Map.get [] r s.resetTimes)).length < s.rrLimit →
    ∃ t, exec (.controlStorageError r) s = .next t ∧ t.fenced r = true ∧ t.mode = s.mode ∧ (∀ q ∈ List.range 9, q ≠ r → t.fenced q = s.fenced q) ∧ t.fld
    F.AO_FLT_REGION_LAST_CAUSE r = s.openCode r ∧ t.raised s 70 [.w r, .w (s.openCode r), .w 0] = true ∧ (Map.get [] r t.resetTimes).head? = some s.now)
  ∧ (∀ (s : State) (r : Fin 9), r.val = 0 ∨ r.val = 8 ∨ s.fenced r = true ∨ s.rrLimit ≤ (s.recent 3600000000000 (Map.get [] r s.resetTimes)).length → s.inService = true →
    s.dirty = true → ∃ t, exec (.controlStorageError r) s = .next t ∧ t.shows .vault s.mode causeModuleFault ∧ t.fld F.AO_MODULE_STATE_PENDING = (if (s.recent
    86400000000000 s.faultTimes).length + 1 < s.mfLimit then ModState.boot else ModState.safetyNet).code ∧ (t.fld F.AO_FLT_STATUS_LAST_MF = (if r.val = 0 ∨ r.val = 8
    then 0x0908 else if s.fenced r then 0x0905 else 0x0906)) ∧ (t.raised s 71 [.w ((if r.val = 0 ∨ r.val = 8 then 0x0908 else if s.fenced r then 0x0905 else 0x0906)), .w
    ((s.recent 86400000000000 s.faultTimes).length + 1), .w (if (s.recent 86400000000000 s.faultTimes).length + 1 < s.mfLimit then ModState.boot else
    ModState.safetyNet).code] = true) ∧ t.fld F.AO_FLT_REGION_LAST_CAUSE r = s.openCode r)
  ∧ (∀ (s : State) (r : Fin 9), r.val = 0 ∨ r.val = 8 ∨ s.fenced r = true ∨ s.rrLimit ≤ (s.recent 3600000000000 (Map.get [] r s.resetTimes)).length → s.inService = true →
    s.dirty = false → ∃ t, exec (.controlStorageError r) s = .next t ∧ t.raised s 1 [.w (if (s.recent 86400000000000 s.faultTimes).length + 1 < s.mfLimit then
    ModState.boot else ModState.safetyNet).code, .w s.mode.code, .w causeModuleFault] = true ∧ (t.fld F.AO_FLT_STATUS_LAST_MF = (if r.val = 0 ∨ r.val = 8 then 0x0908
    else if s.fenced r then 0x0905 else 0x0906)) ∧ (t.raised s 71 [.w ((if r.val = 0 ∨ r.val = 8 then 0x0908 else if s.fenced r then 0x0905 else 0x0906)), .w ((s.recent
    86400000000000 s.faultTimes).length + 1), .w (if (s.recent 86400000000000 s.faultTimes).length + 1 < s.mfLimit then ModState.boot else ModState.safetyNet).code] =
    true) ∧ t.fld F.AO_FLT_REGION_LAST_CAUSE r = s.openCode r)
  ∧ (∀ (s : State) (r : Fin 9), s.mode = .standby ∨ s.mode = .safetyNet ∨ s.mode = .halt → ∃ t, exec (.controlStorageError r) s = .next t ∧ t.mode = s.mode ∧ (t.fld
    F.AO_FLT_STATUS_LAST_MF = (if r.val = 0 ∨ r.val = 8 then 0x0908 else s.openCode r)) ∧ (t.raised s 71 [.w ((if r.val = 0 ∨ r.val = 8 then 0x0908 else s.openCode r)),
    .w (s.recent 86400000000000 s.faultTimes).length, .w s.mode.code] = true) ∧ t.fld F.AO_FLT_REGION_LAST_CAUSE r = s.openCode r)
  ∧ (∀ (s : State) (r : Fin 9), s.mode = .boot → ∃ t, exec (.controlStorageError r) s = .next t ∧ (t.fld F.AO_FLT_STATUS_LAST_MF = (if r.val = 0 ∨ r.val = 8 then 0x0908
    else s.openCode r)) ∧ (t.raised s 71 [.w ((if r.val = 0 ∨ r.val = 8 then 0x0908 else s.openCode r)), .w (s.recent 86400000000000 s.faultTimes).length, .w (if
    s.boot.fails + 1 < 3 then ModState.boot else ModState.safetyNet).code] = true) ∧ t.raised s 61 [.w (s.fld F.AO_BOOT_STATUS_SLOT), .w (s.drawn.free), .w (s.boot.fails
    + 1)] = true ∧ t.raised s 1 [.w (if s.boot.fails + 1 < 3 then ModState.boot else ModState.safetyNet).code, .w ModState.boot.code, .w (if s.boot.fails + 1 < 3 then
    causeStartFailed else causeStartsExhausted)] = true ∧ t.fld F.AO_FLT_REGION_LAST_CAUSE r = s.openCode r)
  ∧ (∀ (s : State) (r : Fin 9), s.mode = .vault → r.val = 6 ∨ r.val = 8 → ∃ t, exec (.controlStorageError r) s = .next t ∧ (t.fld F.AO_FLT_STATUS_LAST_MF = (if r.val = 0 ∨
    r.val = 8 then 0x0908 else s.openCode r)) ∧ t.raised s 1 [.w (ModState.ofCode (s.fld F.AO_MODULE_STATE_PENDING)).code, .w ModState.vault.code, .w causeVaultDone] =
    true ∧ t.fld F.AO_FLT_REGION_LAST_CAUSE r = s.openCode r)
  ∧ (∀ (s : State) (r : Fin 9), s.mode = .vault → ¬ (r.val = 6 ∨ r.val = 8) → ∃ t, exec (.controlStorageError r) s = .next t ∧ t.mode = .vault ∧ (t.lateFaults =
    s.lateFaults ++ [(if r.val = 0 ∨ r.val = 8 then 0x0908 else s.openCode r)]) ∧ t.fld F.AO_FLT_REGION_LAST_CAUSE r = s.openCode r)
  ∧ (∀ (s : State) (r : Fin 9), s.powered = false → exec (.controlStorageError r) s = .next (s.drawn))
  ∧ (∀ (s : State) (r : Fin 9), s.fenced r = true → s.inService = true → ∃ t, exec (.regionResetDone r) s = .next t ∧ t.fenced r = false ∧ Map.get false r t.locks = true ∧
    t.raised s 70 [.w r, .w (s.fld F.AO_FLT_REGION_LAST_CAUSE r), .w 1] = true ∧ t.tr.due = true ∧ t.mode = s.mode)
  ∧ (∀ (s : State) (r : Fin 9), s.fenced r = false ∨ s.inService = false → exec (.regionResetDone r) s = .next (s))
  ∧ (∀ (s : State) (v : Word), s.powered = true → v.toNat = 0x4B49434B → ∃ t, exec (.wdogKick .supervisor v) s = .next t ∧ t.boot.kicked = s.now ∧ t.regs = s.regs)
  ∧ (∀ (s : State) (who : Party) (v : Word), who ≠ .supervisor ∨ v.toNat ≠ 0x4B49434B ∨ s.powered = false → exec (.wdogKick who v) s = .next (s))
  ∧ (∀ (s : State), s.unkicked = true → s.inService = true → s.dirty = true → ∃ t, exec .supervisorWatchdog s = .next t ∧ t.shows .vault s.mode causeModuleFault ∧ t.fld
    F.AO_MODULE_STATE_PENDING = (if (s.recent 86400000000000 s.faultTimes).length + 1 < s.mfLimit then ModState.boot else ModState.safetyNet).code ∧ t.fld
    F.AO_FLT_STATUS_LAST_MF = 0x0901 ∧ t.raised s 71 [.w (0x0901), .w ((s.recent 86400000000000 s.faultTimes).length + 1), .w (if (s.recent 86400000000000
    s.faultTimes).length + 1 < s.mfLimit then ModState.boot else ModState.safetyNet).code] = true)
  ∧ (∀ (s : State), s.unkicked = true → s.inService = true → s.dirty = false → ∃ t, exec .supervisorWatchdog s = .next t ∧ t.raised s 1 [.w (if (s.recent 86400000000000
    s.faultTimes).length + 1 < s.mfLimit then ModState.boot else ModState.safetyNet).code, .w s.mode.code, .w causeModuleFault] = true ∧ t.fld F.AO_FLT_STATUS_LAST_MF =
    0x0901 ∧ t.raised s 71 [.w (0x0901), .w ((s.recent 86400000000000 s.faultTimes).length + 1), .w (if (s.recent 86400000000000 s.faultTimes).length + 1 < s.mfLimit
    then ModState.boot else ModState.safetyNet).code] = true)
  ∧ (∀ (s : State), s.unkicked = true → s.mode = .boot → ∃ t, exec .supervisorWatchdog s = .next t ∧ t.fld F.AO_FLT_STATUS_LAST_MF = 0x0901 ∧ t.raised s 61 [.w (s.fld
    F.AO_BOOT_STATUS_SLOT), .w 2, .w (s.boot.fails + 1)] = true)
  ∧ (∀ (s : State), s.unkicked = false ∨ (s.mode ≠ .boot ∧ s.inService = false) → exec .supervisorWatchdog s = .next (s))
  ∧ (∀ (s : State), s.inService = true → s.dirty = true → ∃ t, exec .supervisorMachineCheck s = .next t ∧ t.shows .vault s.mode causeModuleFault ∧ t.fld
    F.AO_MODULE_STATE_PENDING = (if (s.recent 86400000000000 s.faultTimes).length + 1 < s.mfLimit then ModState.boot else ModState.safetyNet).code ∧ t.fld
    F.AO_FLT_STATUS_LAST_MF = 0x0902 ∧ t.raised s 71 [.w (0x0902), .w ((s.recent 86400000000000 s.faultTimes).length + 1), .w (if (s.recent 86400000000000
    s.faultTimes).length + 1 < s.mfLimit then ModState.boot else ModState.safetyNet).code] = true)
  ∧ (∀ (s : State), s.inService = true → s.dirty = false → ∃ t, exec .supervisorMachineCheck s = .next t ∧ t.raised s 1 [.w (if (s.recent 86400000000000
    s.faultTimes).length + 1 < s.mfLimit then ModState.boot else ModState.safetyNet).code, .w s.mode.code, .w causeModuleFault] = true ∧ t.fld F.AO_FLT_STATUS_LAST_MF =
    0x0902 ∧ t.raised s 71 [.w (0x0902), .w ((s.recent 86400000000000 s.faultTimes).length + 1), .w (if (s.recent 86400000000000 s.faultTimes).length + 1 < s.mfLimit
    then ModState.boot else ModState.safetyNet).code] = true)
  ∧ (∀ (s : State), s.mode = .standby ∨ s.mode = .safetyNet ∨ s.mode = .halt → ∃ t, exec .supervisorMachineCheck s = .next t ∧ t.mode = s.mode ∧ t.fld
    F.AO_FLT_STATUS_LAST_MF = 0x0902 ∧ t.raised s 71 [.w (0x0902), .w (s.recent 86400000000000 s.faultTimes).length, .w s.mode.code] = true)
  ∧ (∀ (s : State), s.mode = .boot → ∃ t, exec .supervisorMachineCheck s = .next t ∧ t.fld F.AO_FLT_STATUS_LAST_MF = 0x0902 ∧ t.raised s 71 [.w (0x0902), .w (s.recent
    86400000000000 s.faultTimes).length, .w (if s.boot.fails + 1 < 3 then ModState.boot else ModState.safetyNet).code] = true ∧ t.raised s 61 [.w (s.fld
    F.AO_BOOT_STATUS_SLOT), .w (3), .w (s.boot.fails + 1)] = true ∧ t.raised s 1 [.w (if s.boot.fails + 1 < 3 then ModState.boot else ModState.safetyNet).code, .w
    ModState.boot.code, .w (if s.boot.fails + 1 < 3 then causeStartFailed else causeStartsExhausted)] = true)
  ∧ (∀ (s : State), s.mode = .vault → ∃ t, exec .supervisorMachineCheck s = .next t ∧ t.mode = .vault ∧ t.lateFaults = s.lateFaults ++ [0x0902])
  ∧ (∀ (s : State), s.mode = .off → exec .supervisorMachineCheck s = .next (s))
  ∧ (∀ (s : State), s.inService = true → s.dirty = true → ∃ t, exec .aoUncorrectableError s = .next t ∧ t.shows .vault s.mode causeModuleFault ∧ t.fld
    F.AO_MODULE_STATE_PENDING = (if (s.recent 86400000000000 s.faultTimes).length + 1 < s.mfLimit then ModState.boot else ModState.safetyNet).code ∧ t.fld
    F.AO_FLT_STATUS_LAST_MF = 0x0903 ∧ t.raised s 71 [.w (0x0903), .w ((s.recent 86400000000000 s.faultTimes).length + 1), .w (if (s.recent 86400000000000
    s.faultTimes).length + 1 < s.mfLimit then ModState.boot else ModState.safetyNet).code] = true)
  ∧ (∀ (s : State), s.inService = true → s.dirty = false → ∃ t, exec .aoUncorrectableError s = .next t ∧ t.raised s 1 [.w (if (s.recent 86400000000000 s.faultTimes).length
    + 1 < s.mfLimit then ModState.boot else ModState.safetyNet).code, .w s.mode.code, .w causeModuleFault] = true ∧ t.fld F.AO_FLT_STATUS_LAST_MF = 0x0903 ∧ t.raised s
    71 [.w (0x0903), .w ((s.recent 86400000000000 s.faultTimes).length + 1), .w (if (s.recent 86400000000000 s.faultTimes).length + 1 < s.mfLimit then ModState.boot else
    ModState.safetyNet).code] = true)
  ∧ (∀ (s : State), s.mode = .standby ∨ s.mode = .safetyNet ∨ s.mode = .halt → ∃ t, exec .aoUncorrectableError s = .next t ∧ t.mode = s.mode ∧ t.fld
    F.AO_FLT_STATUS_LAST_MF = 0x0903 ∧ t.raised s 71 [.w (0x0903), .w (s.recent 86400000000000 s.faultTimes).length, .w s.mode.code] = true)
  ∧ (∀ (s : State), s.mode = .boot → ∃ t, exec .aoUncorrectableError s = .next t ∧ t.fld F.AO_FLT_STATUS_LAST_MF = 0x0903 ∧ t.raised s 71 [.w (0x0903), .w (s.recent
    86400000000000 s.faultTimes).length, .w (if s.boot.fails + 1 < 3 then ModState.boot else ModState.safetyNet).code] = true ∧ t.raised s 61 [.w (s.fld
    F.AO_BOOT_STATUS_SLOT), .w (s.free), .w (s.boot.fails + 1)] = true ∧ t.raised s 1 [.w (if s.boot.fails + 1 < 3 then ModState.boot else ModState.safetyNet).code, .w
    ModState.boot.code, .w (if s.boot.fails + 1 < 3 then causeStartFailed else causeStartsExhausted)] = true)
  ∧ (∀ (s : State), s.mode = .vault → ∃ t, exec .aoUncorrectableError s = .next t ∧ t.mode = .vault ∧ t.lateFaults = s.lateFaults ++ [0x0903])
  ∧ (∀ (s : State), s.mode = .off → exec .aoUncorrectableError s = .next (s))
  ∧ (∀ (s : State), s.inService = true → s.dirty = true → ∃ t, exec .hbmControllerFault s = .next t ∧ t.shows .vault s.mode causeModuleFault ∧ t.fld
    F.AO_MODULE_STATE_PENDING = (if (s.recent 86400000000000 s.faultTimes).length + 1 < s.mfLimit then ModState.boot else ModState.safetyNet).code ∧ t.fld
    F.AO_FLT_STATUS_LAST_MF = 0x0904 ∧ t.raised s 71 [.w (0x0904), .w ((s.recent 86400000000000 s.faultTimes).length + 1), .w (if (s.recent 86400000000000
    s.faultTimes).length + 1 < s.mfLimit then ModState.boot else ModState.safetyNet).code] = true)
  ∧ (∀ (s : State), s.inService = true → s.dirty = false → ∃ t, exec .hbmControllerFault s = .next t ∧ t.raised s 1 [.w (if (s.recent 86400000000000 s.faultTimes).length +
    1 < s.mfLimit then ModState.boot else ModState.safetyNet).code, .w s.mode.code, .w causeModuleFault] = true ∧ t.fld F.AO_FLT_STATUS_LAST_MF = 0x0904 ∧ t.raised s 71
    [.w (0x0904), .w ((s.recent 86400000000000 s.faultTimes).length + 1), .w (if (s.recent 86400000000000 s.faultTimes).length + 1 < s.mfLimit then ModState.boot else
    ModState.safetyNet).code] = true)
  ∧ (∀ (s : State), s.mode = .standby ∨ s.mode = .safetyNet ∨ s.mode = .halt → ∃ t, exec .hbmControllerFault s = .next t ∧ t.mode = s.mode ∧ t.fld F.AO_FLT_STATUS_LAST_MF
    = 0x0904 ∧ t.raised s 71 [.w (0x0904), .w (s.recent 86400000000000 s.faultTimes).length, .w s.mode.code] = true)
  ∧ (∀ (s : State), s.mode = .boot → ∃ t, exec .hbmControllerFault s = .next t ∧ t.fld F.AO_FLT_STATUS_LAST_MF = 0x0904 ∧ t.raised s 71 [.w (0x0904), .w (s.recent
    86400000000000 s.faultTimes).length, .w (if s.boot.fails + 1 < 3 then ModState.boot else ModState.safetyNet).code] = true ∧ t.raised s 61 [.w (s.fld
    F.AO_BOOT_STATUS_SLOT), .w (s.free), .w (s.boot.fails + 1)] = true ∧ t.raised s 1 [.w (if s.boot.fails + 1 < 3 then ModState.boot else ModState.safetyNet).code, .w
    ModState.boot.code, .w (if s.boot.fails + 1 < 3 then causeStartFailed else causeStartsExhausted)] = true)
  ∧ (∀ (s : State), s.mode = .vault → ∃ t, exec .hbmControllerFault s = .next t ∧ t.fld F.AO_FLT_STATUS_LAST_MF = 0x0904 ∧ t.raised s 1 [.w (ModState.ofCode (s.fld
    F.AO_MODULE_STATE_PENDING)).code, .w ModState.vault.code, .w causeVaultDone] = true)
  ∧ (∀ (s : State), s.mode = .off → exec .hbmControllerFault s = .next (s))
  ∧ (∀ (s : State), s.mode = .boot → s.boot.fails < 2 → ∃ t, exec .coreMachineCheck s = .next t ∧ t.raised s 61 [.w (s.fld F.AO_BOOT_STATUS_SLOT), .w 3, .w (s.boot.fails +
    1)] = true ∧ t.raised s 1 [.w ModState.boot.code, .w ModState.boot.code, .w causeStartFailed] = true)
  ∧ (∀ (s : State), s.mode = .boot → 2 ≤ s.boot.fails → ∃ t, exec .coreMachineCheck s = .next t ∧ t.shows .safetyNet .boot 5 ∧ t.fld F.AO_BOOT_STATUS_REASON = 2)
  ∧ (∀ (s : State), s.mode ≠ .boot → exec .coreMachineCheck s = .next (s))
  ∧ (∀ (s : State) (cond source : Fin 65536) (x : Interval), s.powered = true → s.interval? cond source = some x → x.count ≠ 0 → ∃ t, exec (.violationLogInterval cond
    source) s = .next t ∧ t.log.newest = (s.log.newest + 1) % 2 ^ 32 ∧ t.log.intervals = otherIntervals cond source s.log.intervals ++ [{ x with count := 0 }] ∧ (x.event
    ≠ 0 → t.raised s x.event (violationPayload x.event cond source x.count x.detail) = true))
  ∧ (∀ (s : State) (cond source : Fin 65536) (x : Interval), s.powered = true → s.interval? cond source = some x → x.count = 0 → ∃ t, exec (.violationLogInterval cond
    source) s = .next t ∧ t.log = { s.log with intervals := otherIntervals cond source s.log.intervals } ∧ t.out = s.out ∧ t.regs = s.regs)
  ∧ (∀ (s : State) (cond source : Fin 65536), s.powered = false ∨ s.interval? cond source = none → exec (.violationLogInterval cond source) s = .next (s))
  ∧ (∀ (s : State), s.powered = true → ∃ t, exec .flashToken s = .next t ∧ t.log.tokens = min (s.log.tokens + 1) 64 ∧ t.log.entries = s.log.entries)
  ∧ (∀ (s : State), s.powered = false → exec .flashToken s = .next (s))
  ∧ (∀ (s : State) (who : Party) (v : Word) (e : LogEntry), s.admits who 0 9 = true → s.ringUp = true → s.log.entries.find? (fun e => e.seq == v.toNat) = some e → s.fld
    F.AO_FLT_LOG_UNIT_UNIT < e.units → ∃ t, exec (.logSelect who v) s = .next t ∧ t.flag F.AO_FLT_LOG_STATUS_HELD = true ∧ t.fld F.AO_FLT_LOG_SEL_SEQ = v.toNat ∧ (∀ i ∈
    List.range 16, t.fld F.AO_FLT_LOG_DATA_WORD i = leAt e.bytes (64 * s.fld F.AO_FLT_LOG_UNIT_UNIT + 4 * i) 4))
  ∧ (∀ (s : State) (who : Party) (v : Word) (e : LogEntry), s.admits who 0 9 = true → s.ringUp = true → s.log.entries.find? (fun e => e.seq == v.toNat) = some e → e.units
    ≤ s.fld F.AO_FLT_LOG_UNIT_UNIT → ∃ t, exec (.logSelect who v) s = .next t ∧ t.flag F.AO_FLT_LOG_STATUS_HELD = true ∧ t.fld F.AO_FLT_LOG_SEL_SEQ = v.toNat ∧ t.log =
    s.log)
  ∧ (∀ (s : State) (who : Party) (v : Word), s.admits who 0 9 = true → s.ringUp = false ∨ s.log.entries.find? (fun e => e.seq == v.toNat) = none → ∃ t, exec (.logSelect
    who v) s = .next t ∧ t.flag F.AO_FLT_LOG_STATUS_HELD = false ∧ t.fld F.AO_FLT_LOG_SEL_SEQ = v.toNat ∧ (∀ i ∈ List.range 16, t.fld F.AO_FLT_LOG_DATA_WORD i = 0))
  ∧ (∀ (s : State) (who : Party) (v : Word), s.admits who 0 9 = false → exec (.logSelect who v) s = .next (s))

/-- Tightrope runs are asked for, done or deferred, regions age, calibration updates start, are refused and end (22_faults_ageing_calibration.md). The trim and the ceiling follow the margins given as operands; which region has no valid sensor, and the months of a region no monitor of which has grown, are open values (log entries 17 and 4). -/
def Obligations.TightropeAgeingAndCalibration : Prop :=
  (∀ (s : State) (who : Party), s.admits who 0 10 = true → ∃ t, exec (.tightropeReq who) s = .next t ∧ t.tr.due = true ∧ t.regs = s.regs ∧ t.out = s.out)
  ∧ (∀ (s : State) (who : Party), s.admits who 0 10 = false → exec (.tightropeReq who) s = .next (s))
  ∧ (∀ (s : State) (x : MonReading) (ts : List RegionTrim), s.powered = true → s.trMay = true ∨ s.flag F.AO_TR_CFG_RUNNING = true → ∃ t, exec (.tightropeTimer [x] ts) s =
    .next t ∧ t.fld F.AO_TR_MON_D x.mon = x.delay ∧ t.fld F.AO_TR_MON_SLACK x.mon = x.slack ∧ t.flag F.AO_TR_CFG_RUNNING = false ∧ t.tr.due = (s.tr.due && s.flag
    F.AO_TR_CFG_RUNNING) ∧ t.tr.temps = (List.range 48).map (fun k => s.fld F.AO_PKG_TEMP_TEMP k) ∧ t.raised s 80 [.w ((List.range 9).foldl (fun a r => min a (t.fld
    F.AO_TR_REGION_REMAIN_MONTHS r)) 1023)] = true)
  ∧ (∀ (s : State) (r : Fin 9) (m : Fin 65536) (room : Bool), s.powered = true → s.trMay = true ∨ s.flag F.AO_TR_CFG_RUNNING = true → m.val < 2 ^ 15 → s.trTarget ≤ m → ∃
    t, exec (.tightropeTimer [] [{ region := r, margins := [m], room := room }]) s = .next t ∧ t.fld F.AO_TR_REGION_MARGIN r = m ∧ t.fld F.AO_TR_REGION_TRIM r = unsigned
    6 (if s.trTarget + 150 < m.val then max (signed 6 (s.fld F.AO_TR_REGION_TRIM r) - 1) (-10) else signed 6 (s.fld F.AO_TR_REGION_TRIM r)) ∧ t.fld F.AO_TR_REGION_CEIL r
    = (if room = true ∧ s.fld F.AO_TR_REGION_CEIL r < 16 then s.fld F.AO_TR_REGION_CEIL r + 1 else s.fld F.AO_TR_REGION_CEIL r) ∧ (t.fld F.AO_TR_REGION_CEIL r ≠ s.fld
    F.AO_TR_REGION_CEIL r → t.raised s 81 [.w r, .w (s.fld F.AO_TR_REGION_CEIL r), .w (s.fld F.AO_TR_REGION_CEIL r + 1)] = true))
  ∧ (∀ (s : State) (r : Fin 9) (m m2 : Fin 65536) (room : Bool), s.powered = true → s.trMay = true ∨ s.flag F.AO_TR_CFG_RUNNING = true → signed 16 m < s.trTarget → signed
    6 (s.fld F.AO_TR_REGION_TRIM r) < 30 → ∃ t, exec (.tightropeTimer [] [{ region := r, margins := [m, m2], room := room }]) s = .next t ∧ t.fld F.AO_TR_REGION_MARGIN r
    = m2 ∧ t.fld F.AO_TR_REGION_TRIM r = unsigned 6 (signed 6 (s.fld F.AO_TR_REGION_TRIM r) + 1))
  ∧ (∀ (s : State) (r : Fin 9) (m m2 : Fin 65536) (room : Bool), s.powered = true → s.trMay = true ∨ s.flag F.AO_TR_CFG_RUNNING = true → signed 16 m < s.trTarget → signed
    6 (s.fld F.AO_TR_REGION_TRIM r) = 30 → r ≠ 0 → 4 < s.fld F.AO_TR_REGION_CEIL r → signed 16 m2 < s.trTarget → ∃ t, exec (.tightropeTimer []
    [{ region := r, margins := [m, m2], room := room }]) s = .next t ∧ t.fld F.AO_TR_REGION_MARGIN r = m2 ∧ t.fld F.AO_TR_REGION_TRIM r = 30 ∧ t.fld F.AO_TR_REGION_CEIL
    r = (s.fld F.AO_TR_REGION_CEIL r - 1) % 2 ^ F.AO_TR_REGION_CEIL.width ∧ t.raised s 81 [.w r, .w (s.fld F.AO_TR_REGION_CEIL r), .w (s.fld F.AO_TR_REGION_CEIL r - 1)]
    = true)
  ∧ (∀ (s : State) (r : Fin 9) (m : Fin 65536) (room : Bool), s.powered = true → s.trMay = true ∨ s.flag F.AO_TR_CFG_RUNNING = true → signed 16 m < s.trTarget → signed 6
    (s.fld F.AO_TR_REGION_TRIM r) = 30 → s.fld F.AO_TR_REGION_CEIL r = 4 → ∃ t, exec (.tightropeTimer [] [{ region := r, margins := [m], room := room }]) s = .next t ∧
    t.flag F.AO_TR_REGION_END_OF_LIFE r = true ∧ t.fld F.AO_TR_REGION_CEIL r = 4 ∧ t.fld F.AO_TR_REGION_MARGIN r = m ∧ t.raised s 82 [.w r, .w (s.fld
    F.AO_TR_REGION_REMAIN_MONTHS r)] = true)
  ∧ (∀ (s : State) (xs : List MonReading) (ts : List RegionTrim), s.powered = true → s.trMay = false → s.flag F.AO_TR_CFG_RUNNING = false → ∃ t, exec (.tightropeTimer xs
    ts) s = .next t ∧ t.tr = { s.tr with due := true } ∧ t.regs = s.regs ∧ t.out = s.out)
  ∧ (∀ (s : State) (xs : List MonReading) (ts : List RegionTrim), s.powered = false → exec (.tightropeTimer xs ts) s = .next (s))
  ∧ (∀ (s : State) (r : Fin 9) (x : Int), s.powered = true → s.hottestOf r = some x → ∃ t, exec .ageTick s = .next t ∧ (t.fld F.AO_TR_AGE_AGE_EQ_H r = (s.fld
    F.AO_TR_AGE_AGE_EQ_H r + (Map.get 0 r s.tr.rest + (if r.val = 0 ∨ (regionDomains r).any (fun d => s.power d != powGated) = true then ageWeight x else ageWeight x /
    10)) / 2 ^ 32) % 2 ^ 64) ∧ (Map.get 0 r t.tr.rest = (Map.get 0 r s.tr.rest + (if r.val = 0 ∨ (regionDomains r).any (fun d => s.power d != powGated) = true then
    ageWeight x else ageWeight x / 10)) % 2 ^ 32) ∧ ((Map.get [] r t.tr.hist).head? = some (if r.val = 0 ∨ (regionDomains r).any (fun d => s.power d != powGated) = true
    then ageWeight x else ageWeight x / 10)))
  ∧ (∀ (s : State), s.powered = false → exec .ageTick s = .next (s))
  ∧ (∀ (s : State) (who : Party) (core : Bool) (l : List (Nat × Nat × Nat)), s.admits who 0 11 true = true → s.fld F.AO_CAL_STATUS_STATE = 0 → s.mode = .run ∨ s.mode =
    .safetyNet → s.calList core = some l → ∃ t, exec (.calUpdate who core) s = .next t ∧ t.fld F.AO_CAL_STATUS_STATE = 1 ∧ t.cal = { s.cal with upd := l } ∧ t.out =
    s.out)
  ∧ (∀ (s : State) (who : Party) (core : Bool), s.admits who 0 11 true = true → s.fld F.AO_CAL_STATUS_STATE = 0 → s.mode ≠ .run ∧ s.mode ≠ .safetyNet → ∃ t, exec
    (.calUpdate who core) s = .next t ∧ t.fld F.AO_CAL_STATUS_RESULT = 2 ∧ t.fld F.AO_CAL_STATUS_STATE = 0 ∧ t.cal.banks = s.cal.banks ∧ t.cal.vals = s.cal.vals ∧
    t.raised s 83 [.w 2, .w (s.fld F.AO_CAL_STATUS_CAL_SEQ)] = true)
  ∧ (∀ (s : State) (who : Party) (core : Bool), s.admits who 0 11 true = true → s.fld F.AO_CAL_STATUS_STATE = 0 → (s.mode = .run ∨ s.mode = .safetyNet) ∧ s.calList core =
    none → ∃ t, exec (.calUpdate who core) s = .next t ∧ t.fld F.AO_CAL_STATUS_RESULT = 3 ∧ t.fld F.AO_CAL_STATUS_STATE = 0 ∧ t.cal.banks = s.cal.banks ∧ t.cal.vals =
    s.cal.vals ∧ t.raised s 83 [.w 3, .w (s.fld F.AO_CAL_STATUS_CAL_SEQ)] = true)
  ∧ (∀ (s : State) (who : Party) (core : Bool), s.admits who 0 11 true = true → s.fld F.AO_CAL_STATUS_STATE ≠ 0 → ∃ t, exec (.calUpdate who core) s = .next t ∧ t.fld
    F.AO_CAL_STATUS_RESULT = 1 ∧ t.fld F.AO_CAL_STATUS_STATE = s.fld F.AO_CAL_STATUS_STATE ∧ t.cal = s.cal ∧ t.raised s 83 [.w 1, .w (s.fld F.AO_CAL_STATUS_CAL_SEQ)] =
    true)
  ∧ (∀ (s : State) (who : Party) (core : Bool), s.admits who 0 11 true = false → exec (.calUpdate who core) s = .next (s))
  ∧ (∀ (s : State) (b seq : Nat) (vals : Map Nat), s.fld F.AO_CAL_STATUS_STATE ≠ 0 → s.calNew = (b, seq, vals) → ∃ t, exec (.calUpdateDone .done) s = .next t ∧ t.calBank b
    = { valid := true, seq := seq, vals := vals } ∧ t.calBank (1 - b) = {} ∧ t.fld F.AO_CAL_STATUS_CAL_SEQ = seq % 2 ^ F.AO_CAL_STATUS_CAL_SEQ.width ∧ t.flag
    F.AO_CAL_STATUS_NO_CAL = false ∧ t.fld F.AO_CAL_STATUS_STATE = 0 ∧ t.fld F.AO_CAL_STATUS_RESULT = 0 ∧ t.cal.upd = [] ∧ t.cal.vals = vals ∧ t.raised s 83 [.w 0, .w
    (seq % 2 ^ F.AO_CAL_STATUS_CAL_SEQ.width)] = true)
  ∧ (∀ (s : State), s.fld F.AO_CAL_STATUS_STATE ≠ 0 → ∃ t, exec (.calUpdateDone .error) s = .next t ∧ t.fld F.AO_CAL_STATUS_STATE = 0 ∧ t.fld F.AO_CAL_STATUS_RESULT = 4 ∧
    t.cal.banks = s.cal.banks ∧ t.cal.vals = s.cal.vals ∧ t.raised s 83 [.w 4, .w (s.fld F.AO_CAL_STATUS_CAL_SEQ)] = true)
  ∧ (∀ (s : State), s.fld F.AO_CAL_STATUS_STATE ≠ 0 → ∃ t, exec (.calUpdateDone .mismatch) s = .next t ∧ t.fld F.AO_CAL_STATUS_STATE = 0 ∧ t.fld F.AO_CAL_STATUS_RESULT = 4
    ∧ t.cal.banks = s.cal.banks ∧ t.cal.vals = s.cal.vals ∧ t.raised s 83 [.w 4, .w (s.fld F.AO_CAL_STATUS_CAL_SEQ)] = true)
  ∧ (∀ (s : State) (f : FlashResult), s.fld F.AO_CAL_STATUS_STATE = 0 → exec (.calUpdateDone f) s = .next (s))

/-- Held interrupts go out, counters overflow, sweeps start, are refused and end, trace starts and stops (23_events_counters_debug.md). The entries of a sweep are those of its clock (log entry 20); the domains of counter units that have none of their own are the model's (log entry 71). -/
def Obligations.RoutesCountersAndSweeps : Prop :=
  (∀ (s : State) (e : Fin 1024), s.powered = true → s.flag F.AO_EVT_ROUTE_PENDING e = true → s.irqsNow.any (fun x => x.1 != e.val && x.2 == s.irqTarget e) = false →
    s.fld F.AO_EVT_ROUTE_IRQ_KIND e ≠ 0 → ∃ t, exec (.irqHoldoffExpiry e) s = .next t ∧ t.sent s = [.imsic (s.fld F.AO_EVT_ROUTE_CORE e) (s.fld F.AO_EVT_ROUTE_IRQ_KIND e
    - 1) (s.fld F.AO_EVT_ROUTE_IDENTITY e)] ∧ t.hart (s.fld F.AO_EVT_ROUTE_CORE e) = (s.hart (s.fld F.AO_EVT_ROUTE_CORE e)).pend (s.fld F.AO_EVT_ROUTE_IRQ_KIND e - 1)
    (s.fld F.AO_EVT_ROUTE_IDENTITY e) ∧ t.flag F.AO_EVT_ROUTE_PENDING e = false)
  ∧ (∀ (s : State) (e : Fin 1024) (vec : Nat), s.powered = true → s.flag F.AO_EVT_ROUTE_PENDING e = true → s.irqsNow.any (fun x => x.1 != e.val && x.2 == s.irqTarget e) =
    false → s.fld F.AO_EVT_ROUTE_IRQ_KIND e = 0 → vec = s.fld F.AO_EVT_ROUTE_VEC e → vec < s.fld F.HX_FN_REC_VEC_COUNT s.mgr → s.vectorOpen s.mgr vec = true → ∃ t, exec
    (.irqHoldoffExpiry e) s = .next t ∧ t.sent s = [.msix s.mgr vec (s.fld F.HX_FNV_MSIX_ADDR (s.mgr * 2048 + vec)) (s.fld F.HX_FNV_MSIX_DATA (s.mgr * 2048 + vec))] ∧
    t.flag F.AO_EVT_ROUTE_PENDING e = false)
  ∧ (∀ (s : State) (e : Fin 1024) (vec : Nat), s.powered = true → s.flag F.AO_EVT_ROUTE_PENDING e = true → s.irqsNow.any (fun x => x.1 != e.val && x.2 == s.irqTarget e) =
    false → s.fld F.AO_EVT_ROUTE_IRQ_KIND e = 0 → vec = s.fld F.AO_EVT_ROUTE_VEC e → vec < s.fld F.HX_FN_REC_VEC_COUNT s.mgr → s.vectorOpen s.mgr vec = false → ∃ t, exec
    (.irqHoldoffExpiry e) s = .next t ∧ t.sent s = [] ∧ bit (t.fld F.HX_FNV_PBA_PBA (s.mgr * 64 + vec / 32)) (vec % 32) = true ∧ t.flag F.AO_EVT_ROUTE_PENDING e = true)
  ∧ (∀ (s : State) (e : Fin 1024) (vec : Nat), s.powered = true → s.flag F.AO_EVT_ROUTE_PENDING e = true → s.irqsNow.any (fun x => x.1 != e.val && x.2 == s.irqTarget e) =
    false → s.fld F.AO_EVT_ROUTE_IRQ_KIND e = 0 → vec = s.fld F.AO_EVT_ROUTE_VEC e → s.fld F.HX_FN_REC_VEC_COUNT s.mgr ≤ vec → ∃ t, exec (.irqHoldoffExpiry e) s = .next
    t ∧ t.sent s = [] ∧ t.flag F.AO_EVT_ROUTE_PENDING e = !s.vectorOpen s.mgr vec)
  ∧ (∀ (s : State) (e : Fin 1024), s.powered = true → s.flag F.AO_EVT_ROUTE_PENDING e = true → s.irqsNow.any (fun x => x.1 != e.val && x.2 == s.irqTarget e) = true → ∃ t,
    exec (.irqHoldoffExpiry e) s = .next t ∧ t.sent s = [] ∧ (s.fld F.AO_EVT_ROUTE_IRQ_KIND e ≠ 0 → t.flag F.AO_EVT_ROUTE_PENDING e = false))
  ∧ (∀ (s : State) (e : Fin 1024), s.powered = false ∨ s.flag F.AO_EVT_ROUTE_PENDING e = false → exec (.irqHoldoffExpiry e) s = .next (s))
  ∧ (∀ (s : State) (r : Fin 9) (u : Fin 37) (i : Fin 8) (after : Word), s.powered = true → unitExists r u = true → s.unitRuns r u = true → s.flag F.PMU_PMC_EVT_EN (8 * (37
    * r + u) + i) = true → selectorKnown (unitKindReset (37 * r + u)) (s.fld F.PMU_PMC_EVT_EVENT (8 * (37 * r + u) + i)) = true → ∃ t, exec (.pmcOverflow r u i after) s
    = .next t ∧ t.fld F.PMU_PMC_COUNT (8 * (37 * r + u) + i) = after.toNat ∧ t.fld F.PMU_PMC_OVF_OVF (37 * r + u) = Nat.lor (s.fld F.PMU_PMC_OVF_OVF (37 * r + u)) (2 ^
    i.val) % 2 ^ F.PMU_PMC_OVF_OVF.width ∧ if s.flag F.PMU_PMC_EVT_OVF_EV (8 * (37 * r + u) + i) then t.raised s (overflowEvent r) [.w u, .w i] = true else t.out =
    s.out)
  ∧ (∀ (s : State) (r : Fin 9) (u : Fin 37) (i : Fin 8) (after : Word), s.powered = false ∨ unitExists r u = false ∨ s.unitRuns r u = false ∨ s.flag F.PMU_PMC_EVT_EN (8 *
    (37 * r + u) + i) = false ∨ selectorKnown (unitKindReset (37 * r + u)) (s.fld F.PMU_PMC_EVT_EVENT (8 * (37 * r + u) + i)) = false → exec (.pmcOverflow r u i after) s
    = .next (s))
  ∧ (∀ (s : State) (who : Party) (dest : Bool) (m : Fin 512), s.admits who 0 14 = true → s.mode = .boot ∨ s.mode = .safetyNet → s.flag F.AO_CCR_STATUS_STATE = false → dest
    = false ∨ (s.fld F.AO_PROG_STATUS_STATE = 0 ∧ s.fld F.AO_UCODE_STATUS_STATE = 0 ∧ s.fld F.AO_IMG_STATUS_STATE = 0 ∧ s.fld F.AO_CAL_STATUS_STATE = 0) → ∃ t, exec
    (.ccrSweep who dest m) s = .next t ∧ t.flag F.AO_CCR_STATUS_STATE = true ∧ t.fld F.AO_CCR_STATUS_SEQ = (s.ccr.seq + 1) % 2 ^ 16 ∧ t.ccr =
    { s.ccr with regions := m, dest := dest, since := s.now, seq := s.ccr.seq + 1 } ∧ t.out = s.out)
  ∧ (∀ (s : State) (who : Party) (dest : Bool) (m : Fin 512), s.admits who 0 14 = true → s.mode ≠ .boot → s.mode ≠ .safetyNet → ∃ t, exec (.ccrSweep who dest m) s = .next
    t ∧ t.fld F.AO_CCR_STATUS_RESULT = 2 ∧ t.ccr = s.ccr ∧ t.flag F.AO_CCR_STATUS_STATE = s.flag F.AO_CCR_STATUS_STATE ∧ t.raised s 92 [.w 2, .w 0] = true)
  ∧ (∀ (s : State) (who : Party) (dest : Bool) (m : Fin 512), s.admits who 0 14 = true → s.mode = .boot ∨ s.mode = .safetyNet → s.flag F.AO_CCR_STATUS_STATE = true → ∃ t,
    exec (.ccrSweep who dest m) s = .next t ∧ t.fld F.AO_CCR_STATUS_RESULT = 1 ∧ t.ccr = s.ccr ∧ t.flag F.AO_CCR_STATUS_STATE = s.flag F.AO_CCR_STATUS_STATE ∧ t.raised s
    92 [.w 1, .w 0] = true)
  ∧ (∀ (s : State) (who : Party) (dest : Bool) (m : Fin 512), s.admits who 0 14 = true → s.mode = .boot ∨ s.mode = .safetyNet → s.flag F.AO_CCR_STATUS_STATE = false → dest
    = true → ¬ (s.fld F.AO_PROG_STATUS_STATE = 0 ∧ s.fld F.AO_UCODE_STATUS_STATE = 0 ∧ s.fld F.AO_IMG_STATUS_STATE = 0 ∧ s.fld F.AO_CAL_STATUS_STATE = 0) → ∃ t, exec
    (.ccrSweep who dest m) s = .next t ∧ t.fld F.AO_CCR_STATUS_RESULT = 3 ∧ t.ccr = s.ccr ∧ t.flag F.AO_CCR_STATUS_STATE = s.flag F.AO_CCR_STATUS_STATE ∧ t.raised s 92
    [.w 3, .w 0] = true)
  ∧ (∀ (s : State) (who : Party) (dest : Bool) (m : Fin 512), s.admits who 0 14 = false → exec (.ccrSweep who dest m) s = .next (s))
  ∧ (∀ (s : State) (n : Nat), s.flag F.AO_CCR_STATUS_STATE = true → s.ccr.dest = true → ((((List.range 9).filter (bit s.ccr.regions)).filter s.regionRuns).flatMap
    s.regionCounters).length = n → n ≤ 1048572 → ∃ t, exec .sweepDone s = .next t ∧ t.flag F.AO_CCR_STATUS_STATE = false ∧ t.fld F.AO_CCR_STATUS_RESULT = 0 ∧ leAt
    (cellsRead t.staging 0 64) 0 4 = 0x54524343 ∧ leAt (cellsRead t.staging 0 64) 4 4 = s.ccr.seq % 2 ^ 32 ∧ leAt (cellsRead t.staging 0 64) 8 2 = s.ccr.regions % 2 ^ 16
    ∧ leAt (cellsRead t.staging 0 64) 10 2 = ((((List.range 9).filter (bit s.ccr.regions)).filter (fun r => !s.regionRuns r)).foldl (fun a r => a + 2 ^ r) 0) % 2 ^ 16 ∧
    leAt (cellsRead t.staging 0 64) 12 4 = n ∧ leAt (cellsRead t.staging 0 64) 16 8 = s.ccr.since % 2 ^ 64 ∧ t.ccr.table = s.ccr.table ∧ t.raised s 92 [.w 0, .w n] =
    true)
  ∧ (∀ (s : State) (n : Nat), s.flag F.AO_CCR_STATUS_STATE = true → s.ccr.dest = false → ((((List.range 9).filter (bit s.ccr.regions)).filter s.regionRuns).flatMap
    s.regionCounters).length = n → n ≤ 4194300 → ∃ t, exec .sweepDone s = .next t ∧ t.flag F.AO_CCR_STATUS_STATE = false ∧ t.fld F.AO_CCR_STATUS_RESULT = 0 ∧ leAt
    (cellsRead t.ccr.table 0 64) 0 4 = 0x54524343 ∧ leAt (cellsRead t.ccr.table 0 64) 4 4 = s.ccr.seq % 2 ^ 32 ∧ leAt (cellsRead t.ccr.table 0 64) 8 2 = s.ccr.regions %
    2 ^ 16 ∧ leAt (cellsRead t.ccr.table 0 64) 10 2 = ((((List.range 9).filter (bit s.ccr.regions)).filter (fun r => !s.regionRuns r)).foldl (fun a r => a + 2 ^ r) 0) %
    2 ^ 16 ∧ leAt (cellsRead t.ccr.table 0 64) 12 4 = n ∧ leAt (cellsRead t.ccr.table 0 64) 16 8 = s.ccr.since % 2 ^ 64 ∧ t.staging = s.staging ∧ t.raised s 92 [.w 0, .w
    n] = true)
  ∧ (∀ (s : State), s.flag F.AO_CCR_STATUS_STATE = false → exec .sweepDone s = .next (s))
  ∧ (∀ (s : State) (who : Party) (v : Word), s.admits who 7 3 = true → bit v.toNat 31 = false ∨ (s.coresOpen = true ∧ maskCount (s.fld F.CX_DBG_TRACE_CORE_MASK) ≤ 4) → ∃
    t, exec (.traceEnable who v) s = .next t ∧ t.flag F.CX_DBG_TRACE_EN = bit v.toNat 31 ∧ t.flag F.CX_DBG_TRACE_WRAP = bit v.toNat 30 ∧ t.out = s.out)
  ∧ (∀ (s : State) (who : Party) (v : Word), s.admits who 7 3 = true → bit v.toNat 31 = true → s.coresOpen = false ∨ 4 < maskCount (s.fld F.CX_DBG_TRACE_CORE_MASK) → ∃ t,
    exec (.traceEnable who v) s = .next t ∧ t.flag F.CX_DBG_TRACE_EN = s.flag F.CX_DBG_TRACE_EN ∧ t.flag F.CX_DBG_TRACE_WRAP = s.flag F.CX_DBG_TRACE_WRAP ∧ t.raised s
    913 [.w (s.fld F.CX_DBG_TRACE_CORE_MASK)] = true)
  ∧ (∀ (s : State) (who : Party) (v : Word), s.admits who 7 3 = false → ∃ t, exec (.traceEnable who v) s = .next t ∧ t.flag F.CX_DBG_TRACE_EN = s.flag F.CX_DBG_TRACE_EN ∧
    t.flag F.CX_DBG_TRACE_WRAP = s.flag F.CX_DBG_TRACE_WRAP ∧ t.out = s.out)
  ∧ (∀ (s : State), s.flag F.CX_DBG_TRACE_EN = true → s.flag F.CX_DBG_TRACE_WRAP = false → 4096 * s.fld F.CX_DBG_TRACE_SIZE < s.fld F.CX_DBG_TRACE_WPTR + 64 → ∃ t, exec
    .traceBufferEnd s = .next t ∧ t.flag F.CX_DBG_TRACE_EN = false ∧ t.raised s 912 [.w (s.fld F.CX_DBG_TRACE_LOST)] = true)
  ∧ (∀ (s : State), s.flag F.CX_DBG_TRACE_EN = false ∨ s.flag F.CX_DBG_TRACE_WRAP = true ∨ s.fld F.CX_DBG_TRACE_WPTR + 64 ≤ 4096 * s.fld F.CX_DBG_TRACE_SIZE → exec
    .traceBufferEnd s = .next (s))

/-- The TAP answers its instructions, MAILBOX commands and AO_DBG_CMD act, debug sessions open, fail, are busy and close (23_events_counters_debug.md). What a token's signature checks to rests on constants without a body (log entry 5); the statement says what follows from either result. The cause in EV0093 is an open value (log entry 21), and so is what DTMCS and DMI shift out in a CORES session, which their own standard says (log entry 22). -/
def Obligations.JtagAndDebugSessions : Prop :=
  (∀ (s : State) (din pins : Dword), s.powered = true → s.testOpen = false → ∃ t, exec (.extest din pins) s = .next t ∧ t.sent s = [.tdo (2 * din.toNat % 2 ^ 64)] ∧
    t.tap = { s.tap with ir := 0, drive := 0 })
  ∧ (∀ (s : State) (din pins : Dword), s.powered = true → s.testOpen = true → ∃ t, exec (.extest din pins) s = .next t ∧ t.sent s = [.tdo pins.toNat] ∧ t.tap =
    { ir := 0, boundary := din.toNat, drive := 1 })
  ∧ (∀ (s : State) (din pins : Dword), s.powered = true → ∃ t, exec (.samplePreload din pins) s = .next t ∧ t.sent s = [.tdo pins.toNat] ∧ t.tap =
    { ir := 1, boundary := din.toNat, drive := 0 })
  ∧ (∀ (s : State), s.powered = true → ∃ t, exec .idcode s = .next t ∧ t.sent s = [.tdo 0x181289CB] ∧ t.tap = { s.tap with ir := 2, drive := 0 })
  ∧ (∀ (s : State) (din : Dword), s.powered = true → ∃ t, exec (.clamp din) s = .next t ∧ t.sent s = [.tdo (2 * din.toNat % 2 ^ 64)] ∧ t.tap =
    { s.tap with ir := 3, drive := if s.testOpen then 1 else 0 })
  ∧ (∀ (s : State) (din : Dword), s.powered = true → ∃ t, exec (.highz din) s = .next t ∧ t.sent s = [.tdo (2 * din.toNat % 2 ^ 64)] ∧ t.tap =
    { s.tap with ir := 4, drive := if s.testOpen then 2 else 0 })
  ∧ (∀ (s : State) (din : Dword), s.powered = true → ∃ t, exec (.bypass din) s = .next t ∧ t.sent s = [.tdo (2 * din.toNat % 2 ^ 64)] ∧ t.tap =
    { s.tap with ir := 0xFF, drive := 0 })
  ∧ (∀ (s : State) (v : Word), s.powered = true → ∃ t, exec (.dtmcs v) s = .next t ∧ t.sent s = [.tdo (if s.coresOpen then s.free else 0)] ∧ t.tap =
    { s.tap with ir := 0x10, drive := 0 } ∧ t.regs = s.regs)
  ∧ (∀ (s : State) (v : Dword), s.powered = true → ∃ t, exec (.dmi v) s = .next t ∧ t.sent s = [.tdo (if s.coresOpen then s.free else 0)] ∧ t.tap =
    { s.tap with ir := 0x11, drive := 0 } ∧ t.regs = s.regs)
  ∧ (∀ (s : State) (w : Fin 786) (v : Word), s.powered = true → ∃ t, exec (.mailbox (.write w v)) s = .next t ∧ Map.get 0 w t.dbg.buf = v.toNat ∧ (∀ x ∈ List.range 786, x
    ≠ w.val → Map.get 0 x t.dbg.buf = Map.get 0 x s.dbg.buf) ∧ t.tap.ir = 0x20 ∧ t.regs = s.regs)
  ∧ (∀ (s : State) (w : Fin 786), s.powered = true → ∃ t, exec (.mailbox (.read w)) s = .next t ∧ t.sent s = [.tdo (Map.get 0 w s.dbg.buf)] ∧ t.dbg = s.dbg ∧ t.tap.ir =
    0x20 ∧ t.regs = s.regs)
  ∧ (∀ (s : State) (v : Word), s.powered = true → bits v.toNat 28 4 = 1 → s.flag F.AO_DBG_STATUS_STATE = false → ∃ t, exec (.mailbox (.command v)) s = .next t ∧ t.dbg =
    { s.dbg with valid := true, at' := s.now } ∧ t.fld F.AO_DBG_STATUS_RESULT = 0 ∧ (List.range 4).map (fun i => t.fld F.AO_DBG_CHALLENGE_WORD i) = (List.range 4).map
    (fun i => Config.freeValue (s.draws + i) % 2 ^ 32) ∧ t.fld F.AO_DBG_STATUS_SEQ = (s.fld F.AO_DBG_STATUS_SEQ + 1) % 2 ^ 16 ∧ t.tap.ir = 0x20)
  ∧ (∀ (s : State) (v : Word), s.powered = true → bits v.toNat 28 4 = 2 → s.flag F.AO_DBG_STATUS_STATE = false → ∃ t, exec (.mailbox (.command v)) s = .next t ∧ t.flag
    F.AO_DBG_STATUS_STATE = true ∧ t.dbg.token = (if bit v.toNat 27 then wordBytes ((List.range 786).map (fun i => Map.get 0 i s.dbg.buf)) else cellsRead s.staging 0
    3144) ∧ t.dbg.buf = s.dbg.buf ∧ t.staging = s.staging ∧ t.fld F.AO_DBG_STATUS_SEQ = (s.fld F.AO_DBG_STATUS_SEQ + 1) % 2 ^ 16 ∧ t.tap.ir = 0x20)
  ∧ (∀ (s : State) (v : Word), s.powered = true → bits v.toNat 28 4 = 3 → s.flag F.AO_DBG_STATUS_STATE = false → ∃ t, exec (.mailbox (.command v)) s = .next t ∧ t.fld
    F.AO_DBG_STATUS_SCOPE = 0 ∧ t.fld F.AO_DBG_STATUS_RESULT = 0 ∧ (s.fld F.AO_DBG_STATUS_SCOPE ≠ 0 → t.raised s 93 [.w 0, .w s.free] = true) ∧ t.fld F.AO_DBG_STATUS_SEQ
    = (s.fld F.AO_DBG_STATUS_SEQ + 1) % 2 ^ 16 ∧ t.tap.ir = 0x20)
  ∧ (∀ (s : State) (v : Word), s.powered = true → 1 ≤ bits v.toNat 28 4 → bits v.toNat 28 4 ≤ 3 → s.flag F.AO_DBG_STATUS_STATE = true → ∃ t, exec (.mailbox (.command v)) s
    = .next t ∧ t.fld F.AO_DBG_STATUS_RESULT = 1 ∧ t.dbg = s.dbg ∧ t.fld F.AO_DBG_STATUS_SCOPE = s.fld F.AO_DBG_STATUS_SCOPE ∧ t.tap.ir = 0x20)
  ∧ (∀ (s : State) (v : Word), s.powered = true → bits v.toNat 28 4 = 0 ∨ 3 < bits v.toNat 28 4 → ∃ t, exec (.mailbox (.command v)) s = .next t ∧ t.regs = s.regs ∧ t.dbg =
    s.dbg ∧ t.tap.ir = 0x20)
  ∧ (∀ (s : State) (din pins : Dword), s.powered = false → exec (.extest din pins) s = .next (s))
  ∧ (∀ (s : State) (din pins : Dword), s.powered = false → exec (.samplePreload din pins) s = .next (s))
  ∧ (∀ (s : State), s.powered = false → exec .idcode s = .next (s))
  ∧ (∀ (s : State) (din : Dword), s.powered = false → exec (.clamp din) s = .next (s))
  ∧ (∀ (s : State) (din : Dword), s.powered = false → exec (.highz din) s = .next (s))
  ∧ (∀ (s : State) (din : Dword), s.powered = false → exec (.bypass din) s = .next (s))
  ∧ (∀ (s : State) (v : Word), s.powered = false → exec (.dtmcs v) s = .next (s))
  ∧ (∀ (s : State) (v : Dword), s.powered = false → exec (.dmi v) s = .next (s))
  ∧ (∀ (s : State) (op : MailboxOp), s.powered = false → exec (.mailbox op) s = .next (s))
  ∧ (∀ (s : State) (who : Party), s.admits who 0 13 = true → s.flag F.AO_DBG_STATUS_STATE = false → ∃ t, exec (.debugChallenge who) s = .next t ∧ t.dbg =
    { s.dbg with valid := true, at' := s.now } ∧ t.fld F.AO_DBG_STATUS_RESULT = 0 ∧ (List.range 4).map (fun i => t.fld F.AO_DBG_CHALLENGE_WORD i) = (List.range 4).map
    (fun i => Config.freeValue (s.draws + i) % 2 ^ 32) ∧ t.fld F.AO_DBG_STATUS_SEQ = (s.fld F.AO_DBG_STATUS_SEQ + 1) % 2 ^ 16)
  ∧ (∀ (s : State) (who : Party) (mailbox : Bool), s.admits who 0 13 = true → s.flag F.AO_DBG_STATUS_STATE = false → ∃ t, exec (.debugOpen who mailbox) s = .next t ∧
    t.flag F.AO_DBG_STATUS_STATE = true ∧ t.dbg.token = (if mailbox then wordBytes ((List.range 786).map (fun i => Map.get 0 i s.dbg.buf)) else cellsRead s.staging 0
    3144) ∧ t.dbg.buf = s.dbg.buf ∧ t.staging = s.staging ∧ t.fld F.AO_DBG_STATUS_SEQ = (s.fld F.AO_DBG_STATUS_SEQ + 1) % 2 ^ 16)
  ∧ (∀ (s : State) (who : Party), s.admits who 0 13 = true → s.flag F.AO_DBG_STATUS_STATE = false → ∃ t, exec (.debugClose who) s = .next t ∧ t.fld F.AO_DBG_STATUS_SCOPE =
    0 ∧ t.fld F.AO_DBG_STATUS_RESULT = 0 ∧ (s.fld F.AO_DBG_STATUS_SCOPE ≠ 0 → t.raised s 93 [.w 0, .w s.free] = true) ∧ t.fld F.AO_DBG_STATUS_SEQ = (s.fld
    F.AO_DBG_STATUS_SEQ + 1) % 2 ^ 16)
  ∧ (∀ (s : State) (who : Party), s.admits who 0 13 = true → s.flag F.AO_DBG_STATUS_STATE = true → ∃ t, exec (.debugChallenge who) s = .next t ∧ t.fld
    F.AO_DBG_STATUS_RESULT = 1 ∧ t.dbg = s.dbg ∧ t.fld F.AO_DBG_STATUS_SCOPE = s.fld F.AO_DBG_STATUS_SCOPE ∧ t.fld F.AO_DBG_STATUS_SEQ = s.fld F.AO_DBG_STATUS_SEQ)
  ∧ (∀ (s : State) (who : Party) (mailbox : Bool), s.admits who 0 13 = true → s.flag F.AO_DBG_STATUS_STATE = true → ∃ t, exec (.debugOpen who mailbox) s = .next t ∧ t.fld
    F.AO_DBG_STATUS_RESULT = 1 ∧ t.dbg = s.dbg ∧ t.fld F.AO_DBG_STATUS_SCOPE = s.fld F.AO_DBG_STATUS_SCOPE ∧ t.fld F.AO_DBG_STATUS_SEQ = s.fld F.AO_DBG_STATUS_SEQ ∧
    t.raised s 94 [.w 1] = true)
  ∧ (∀ (s : State) (who : Party), s.admits who 0 13 = true → s.flag F.AO_DBG_STATUS_STATE = true → ∃ t, exec (.debugClose who) s = .next t ∧ t.fld F.AO_DBG_STATUS_RESULT =
    1 ∧ t.dbg = s.dbg ∧ t.fld F.AO_DBG_STATUS_SCOPE = s.fld F.AO_DBG_STATUS_SCOPE ∧ t.fld F.AO_DBG_STATUS_SEQ = s.fld F.AO_DBG_STATUS_SEQ)
  ∧ (∀ (s : State) (who : Party), s.admits who 0 13 = false → exec (.debugChallenge who) s = .next (s))
  ∧ (∀ (s : State) (who : Party) (mailbox : Bool), s.admits who 0 13 = false → exec (.debugOpen who mailbox) s = .next (s))
  ∧ (∀ (s : State) (who : Party), s.admits who 0 13 = false → exec (.debugClose who) s = .next (s))
  ∧ (∀ (s : State) (n : Nat), s.flag F.AO_DBG_STATUS_STATE = true → n = s.tokenCheck s.dbg.token → ∃ t, exec .debugOpenDone s = .next t ∧ t.flag F.AO_DBG_STATUS_STATE =
    false ∧ t.dbg = { s.dbg with valid := false, token := [] } ∧ t.fld F.AO_DBG_STATUS_RESULT = n ∧ t.fld F.AO_DBG_STATUS_SCOPE = (if n = 0 then Nat.lor (s.fld
    F.AO_DBG_STATUS_SCOPE) (leAt s.dbg.token 6 1) % 8 else s.fld F.AO_DBG_STATUS_SCOPE) ∧ (if n = 0 then t.boot.debugged = true ∧ t.flag F.AO_DBG_STATUS_DEBUG_SINCE_BOOT
    = true ∧ t.raised s 93 [.w (Nat.lor (s.fld F.AO_DBG_STATUS_SCOPE) (leAt s.dbg.token 6 1)), .w s.free] = true ∧ (bit (leAt s.dbg.token 6 1) 2 = true → t.flag
    F.AO_DBG_STATUS_SUPV_LOCK = true) else t.raised s 94 [.w n] = true))
  ∧ (∀ (s : State), s.flag F.AO_DBG_STATUS_STATE = false → exec .debugOpenDone s = .next (s))
  ∧ (∀ (s : State), s.dbg.at' + 600000000000 ≤ s.now → ∃ t, exec .challengeExpiry s = .next t ∧ t.dbg = { s.dbg with valid := false } ∧ t.regs = s.regs ∧ t.out = s.out)
  ∧ (∀ (s : State), s.now < s.dbg.at' + 600000000000 → exec .challengeExpiry s = .next (s))

/-- Sensor readings set the warning, edges and overloads are reported, SMBus reads walk and the alert is answered (01_module_overview.md, 22_faults_ageing_calibration.md, 24_package_signals.md). That the offsets of the calibration set are added to raw readings is log entry 70; that the low bits of an unaligned SMBus address are dropped is log entry 23; that edges of driven levels count is log entry 71. -/
def Obligations.SensorsPinsAndSmbus : Prop :=
  (∀ (s : State) (xs : List SensorReading), s.powered = true → xs.length = 48 → ∃ t, exec (.tempSample xs) s = .next t ∧ (∀ k ∈ List.range 48, t.temp k = max (-32768)
    (min (signed 16 (xs.getD k { valid := false, temp := 0 }).temp + (match s.calVal 2 k with | some v => signed 32 v * 16 / 100 | none => 0)) 32767) ∧ t.tempValid k =
    (xs.getD k { valid := false, temp := 0 }).valid) ∧ ((t.blindRegion = true ∨ ∃ k ∈ List.range 48, t.tempValid k = true ∧ t.warnAt ≤ t.temp k) → t.flag
    F.AO_PKG_THERM_WARNING = true) ∧ (t.blindRegion = false → (∀ k ∈ List.range 48, t.tempValid k = true → t.temp k < t.warnAt - 80) → t.flag F.AO_PKG_THERM_WARNING =
    false) ∧ (∀ k, t.hottest = some k → t.fld F.AO_PKG_THERM_HOTTEST = k % 2 ^ F.AO_PKG_THERM_HOTTEST.width) ∧ (t.tempMoved = true → t.tr.due = true) ∧ t.mode = s.mode)
  ∧ (∀ (s : State) (xs : List SensorReading), s.powered = false ∨ xs.length ≠ 48 → exec (.tempSample xs) s = .next (s))
  ∧ (∀ (s : State) (n : Fin 16) (level : Bool), s.powered = true → s.gpioLevel n = none → s.flag F.AO_PKG_GPIO_IN n ≠ level → bit (s.fld F.AO_PKG_GPIO_EDGE n) (if level
    then 0 else 1) = true → (Map.get {} (100 * 2 ^ 32 + n) s.limits).at' = 0 ∨ (Map.get {} (100 * 2 ^ 32 + n) s.limits).at' - 1 + 1000 ≤ s.now → ∃ t, exec (.gpioEdge n
    level) s = .next t ∧ t.flag F.AO_PKG_GPIO_IN n = level ∧ t.raised s 100 [.w n, .w (b2n level)] = true)
  ∧ (∀ (s : State) (n : Fin 16) (level : Bool), s.powered = true → s.gpioLevel n ≠ none ∨ s.flag F.AO_PKG_GPIO_IN n = level ∨ bit (s.fld F.AO_PKG_GPIO_EDGE n) (if level
    then 0 else 1) = false → ∃ t, exec (.gpioEdge n level) s = .next t ∧ t.flag F.AO_PKG_GPIO_IN n = level ∧ t.out = s.out)
  ∧ (∀ (s : State) (n : Fin 16) (level : Bool), s.powered = false → exec (.gpioEdge n level) s = .next (s))
  ∧ (∀ (s : State) (rail : Fin 2), s.powered = true → ∃ t, exec (.auxOverload rail) s = .next t ∧ t.flag (if rail = 0 then F.AO_PKG_AUX_V1P8_FAULT else
    F.AO_PKG_AUX_V3P3_FAULT) = true ∧ bit t.pkg.auxOff rail = true ∧ bit t.pkg.auxOff (1 - rail) = bit s.pkg.auxOff (1 - rail) ∧ t.raised s 102 [.w rail] = true)
  ∧ (∀ (s : State) (rail : Fin 2), s.powered = false → exec (.auxOverload rail) s = .next (s))
  ∧ (∀ (s : State) (rail : Fin 2), s.powered = true → ∃ t, exec (.auxRetry rail) s = .next t ∧ bit t.pkg.auxOff rail = false ∧ bit t.pkg.auxOff (1 - rail) = bit
    s.pkg.auxOff (1 - rail) ∧ t.regs = s.regs)
  ∧ (∀ (s : State) (rail : Fin 2), s.powered = false → exec (.auxRetry rail) s = .next (s))
  ∧ (∀ (s : State) (addr : Word), s.powered = true → s.mode ≠ .vault → ∃ t, exec (.smbSetAddress addr true) s = .next t ∧ t.pkg =
    { s.pkg with smbAddr := addr.toNat / 4 * 4 } ∧ t.regs = s.regs)
  ∧ (∀ (s : State) (addr : Word) (pec : Bool), pec = false ∨ s.powered = false ∨ s.mode = .vault → exec (.smbSetAddress addr pec) s = .next (s))
  ∧ (∀ (s : State), s.powered = true → s.mode ≠ .vault → ∃ t, exec (.smbBlockRead true) s = .next t ∧ .smbus (leBytes 4 (s.smbRead s.pkg.smbAddr).1) ∈ t.sent s ∧
    t.pkg.smbAddr = (s.pkg.smbAddr + 4) % 2 ^ 32)
  ∧ (∀ (s : State), s.powered = true → s.mode ≠ .vault → s.pkg.smbAddr = 0 → ∃ t, exec (.smbBlockRead true) s = .next t ∧ t.sent s = [.smbus (leBytes 4 (s.fld
    F.AO_DEVICE_ID_PART * 2 ^ 16 + s.fld F.AO_DEVICE_ID_REV * 2 ^ 8 + s.fld F.AO_DEVICE_ID_DEVID))])
  ∧ (∀ (s : State), s.powered = true → s.mode ≠ .vault → s.pkg.smbAddr < 2 ^ 32 → ¬ (s.pkg.smbAddr / 2 ^ 28 = 0 ∧ s.pkg.smbAddr / 2 ^ 20 ∈ [0, 1, 4, 6, 7, 10, 16]) → ∃ t,
    exec (.smbBlockRead true) s = .next t ∧ t.sent s = [.smbus [0, 0, 0, 0]] ∧ t.regs = s.regs)
  ∧ (∀ (s : State) (pec : Bool), pec = false ∨ s.powered = false ∨ s.mode = .vault → exec (.smbBlockRead pec) s = .next (s))
  ∧ (∀ (s : State), s.powered = true → s.mode ≠ .vault → s.pkg.alert = true → ∃ t, exec .smbAlertResponse s = .next t ∧ t.pkg = { s.pkg with alert := false } ∧ t.sent s =
    [.pin pinSmbAlertN 1])
  ∧ (∀ (s : State), s.powered = false ∨ s.mode = .vault ∨ s.pkg.alert = false → exec .smbAlertResponse s = .next (s))

/-- Host requests to BAR0 reach registers, core memory or staging as translated, and are refused elsewhere (12_host_links_pcie.md, 25_register_space.md). Which offsets lead nowhere beyond the rules' own cases, and what an error answer to a read of a poisoned or absent line is, are the model's choices (log entry 26). -/
def Obligations.HostRequestsToBar0 : Prop :=
  (∀ (s : State) (r : BarTlp), r.malformed = true → s.hlState (linkOf r.fi) (s.sublinkOf r.fi) = hlActive → ∃ t, exec (.barRequest r) s = .next t ∧ t.fld
    F.HX_PCIE_STAT_COUNT (11 * linkOf r.fi + 5) = (s.fld F.HX_PCIE_STAT_COUNT (11 * linkOf r.fi + 5) + 1) % 2 ^ 64 ∧ bit (t.cfg r.fi).aer 1 = true ∧ t.mem = s.mem ∧
    t.staging = s.staging)
  ∧ (∀ (s : State) (r : BarTlp), r.malformed = true → s.hlState (linkOf r.fi) (s.sublinkOf r.fi) ≠ hlActive → exec (.barRequest r) s = .next (s))
  ∧ (∀ (s : State) (r : BarTlp), r.malformed = false → (s.cfg r.fi).resetting ≠ 0 → s.hlState (linkOf r.fi) (s.sublinkOf r.fi) = hlActive → r.write = false → ∃ t, exec
    (.barRequest r) s = .next t ∧ t.sent s = [.barCpl r.fi 1 []] ∧ t.regs = s.regs ∧ t.mem = s.mem ∧ t.staging = s.staging)
  ∧ (∀ (s : State) (r : BarTlp), r.malformed = false → (s.cfg r.fi).resetting ≠ 0 → r.write = true ∨ s.hlState (linkOf r.fi) (s.sublinkOf r.fi) ≠ hlActive → exec
    (.barRequest r) s = .next (s))
  ∧ (∀ (s : State) (r : BarTlp), r.malformed = false → (s.cfg r.fi).resetting = 0 → s.barUp r = false → exec (.barRequest r) s = .next (s))
  ∧ (∀ (s : State) (r : BarTlp), r.malformed = false → s.barUp r = true → r.poisoned = true → r.write = true → ∃ t, exec (.barRequest r) s = .next t ∧ t.fld
    F.HX_PCIE_STAT_COUNT (11 * linkOf r.fi + 6) = (s.fld F.HX_PCIE_STAT_COUNT (11 * linkOf r.fi + 6) + 1) % 2 ^ 64 ∧ bit (t.cfg r.fi).aer 2 = true ∧ t.mem = s.mem ∧
    t.staging = s.staging)
  ∧ (∀ (s : State) (r : BarTlp), r.malformed = false → s.barUp r = true → r.poisoned = false ∨ r.write = false → s.barTarget r.fi r.offset.toNat (4 * r.dws) r.write =
    .unmapped → ∃ t, exec (.barRequest r) s = .next t ∧ t.fld F.HX_PCIE_STAT_COUNT (11 * linkOf r.fi + 4) = (s.fld F.HX_PCIE_STAT_COUNT (11 * linkOf r.fi + 4) + 1) % 2 ^
    64 ∧ (r.write = false → .barCpl r.fi 1 [] ∈ t.sent s) ∧ bit (t.cfg r.fi).aer 7 = true ∧ t.mem = s.mem ∧ t.staging = s.staging)
  ∧ (∀ (s : State) (r : BarTlp) (a : Nat), r.malformed = false → s.barUp r = true → r.poisoned = false → r.write = true → s.barTarget r.fi r.offset.toNat (4 * r.dws)
    r.write = .core a → s.stackOff a = false → ∃ t, exec (.barRequest r) s = .next t ∧ (∀ k ∈ List.range (4 * r.dws), t.memRead (a + k) 1 = [if (barEnables r).getD k
    false then r.data.getD k 0 else ((s.memRead (a + k) 1).headD 0)]) ∧ (∀ b : Nat, b < a ∨ a + 4 * r.dws ≤ b → t.memRead b 1 = s.memRead b 1) ∧ t.staging = s.staging ∧
    t.out = s.out)
  ∧ (∀ (s : State) (r : BarTlp) (a : Nat), r.malformed = false → s.barUp r = true → r.poisoned = false → r.write = true → s.barTarget r.fi r.offset.toNat (4 * r.dws)
    r.write = .core a → s.stackOff a = true → ∃ t, exec (.barRequest r) s = .next t ∧ t.mem = s.mem ∧ t.staging = s.staging ∧ t.raised s 903 [] = true)
  ∧ (∀ (s : State) (r : BarTlp) (a : Nat), r.malformed = false → s.barUp r = true → r.write = false → s.barTarget r.fi r.offset.toNat (4 * r.dws) r.write = .core a →
    s.coreGood a (4 * r.dws) = true → ∃ t, exec (.barRequest r) s = .next t ∧ t.sent s = [.barCpl r.fi 0 (barEnabled r (s.memRead a (4 * r.dws)))] ∧ t.mem = s.mem ∧
    t.staging = s.staging)
  ∧ (∀ (s : State) (r : BarTlp) (a : Nat), r.malformed = false → s.barUp r = true → r.write = false → s.barTarget r.fi r.offset.toNat (4 * r.dws) r.write = .core a →
    s.coreGood a (4 * r.dws) = false → ∃ t, exec (.barRequest r) s = .next t ∧ .barCpl r.fi (1 + s.free) [] ∈ t.sent s ∧ t.mem = s.mem ∧ t.staging = s.staging)
  ∧ (∀ (s : State) (r : BarTlp) (o : Nat), r.malformed = false → s.barUp r = true → r.poisoned = false → r.write = true → s.barTarget r.fi r.offset.toNat (4 * r.dws)
    r.write = .staging o → ∃ t, exec (.barRequest r) s = .next t ∧ (∀ k ∈ List.range (4 * r.dws), cellsRead t.staging (o + k) 1 = [if (barEnables r).getD k false then
    r.data.getD k 0 else ((cellsRead s.staging (o + k) 1).headD 0)]) ∧ (∀ b : Nat, b < o ∨ o + 4 * r.dws ≤ b → cellsRead t.staging b 1 = cellsRead s.staging b 1) ∧ t.mem
    = s.mem ∧ t.regs = s.regs ∧ t.out = s.out)
  ∧ (∀ (s : State) (r : BarTlp) (o : Nat), r.malformed = false → s.barUp r = true → r.write = false → s.barTarget r.fi r.offset.toNat (4 * r.dws) r.write = .staging o → ∃
    t, exec (.barRequest r) s = .next t ∧ t.sent s = [.barCpl r.fi 0 (barEnabled r (cellsRead s.staging o (4 * r.dws)))] ∧ t.regs = s.regs ∧ t.mem = s.mem ∧ t.staging =
    s.staging)
  ∧ (∀ (s : State) (r : BarTlp) (a : Nat), r.malformed = false → s.barUp r = true → r.poisoned = false ∨ r.write = false → s.barTarget r.fi r.offset.toNat (4 * r.dws)
    r.write = .reg a → 2 < r.dws.val ∨ (r.dws.val = 2 ∧ a % 8 ≠ 0) ∨ (r.write = true ∧ (barEnables r).any (fun b => !b) = true) → ∃ t, exec (.barRequest r) s = .next t ∧
    t.fld F.HX_PCIE_STAT_COUNT (11 * linkOf r.fi + 4) = (s.fld F.HX_PCIE_STAT_COUNT (11 * linkOf r.fi + 4) + 1) % 2 ^ 64 ∧ (r.write = false → .barCpl r.fi 1 [] ∈ t.sent
    s) ∧ bit (t.cfg r.fi).aer 7 = true ∧ t.mem = s.mem ∧ t.staging = s.staging)
  ∧ (∀ (s : State) (r : BarTlp) (a : Nat), r.malformed = false → s.barUp r = true → r.poisoned = false ∨ r.write = false → s.barTarget r.fi r.offset.toNat (4 * r.dws)
    r.write = .reg a → (r.dws.val ≤ 1 ∨ (r.dws.val = 2 ∧ a % 8 = 0)) → r.write = false ∨ (barEnables r).any (fun b => !b) = false → s.reach (.fn r.fi) r.write a =
    .refused → ∃ t, exec (.barRequest r) s = .next t ∧ t.fld F.HX_PCIE_STAT_COUNT (11 * linkOf r.fi + 4) = (s.fld F.HX_PCIE_STAT_COUNT (11 * linkOf r.fi + 4) + 1) % 2 ^
    64 ∧ (r.write = false → .barCpl r.fi 1 [] ∈ t.sent s) ∧ bit (t.cfg r.fi).aer 7 = true ∧ t.mem = s.mem ∧ t.staging = s.staging)
  ∧ (∀ (s : State) (r : BarTlp) (a : Nat), r.malformed = false → s.barUp r = true → r.poisoned = false ∨ r.write = false → s.barTarget r.fi r.offset.toNat (4 * r.dws)
    r.write = .reg a → (r.dws.val ≤ 1 ∨ (r.dws.val = 2 ∧ a % 8 = 0)) → r.write = false ∨ (barEnables r).any (fun b => !b) = false → s.reach (.fn r.fi) r.write a =
    .ringOther → ∃ t, exec (.barRequest r) s = .next t ∧ if r.write then t.rings = s.rings else t.sent s = [.barCpl r.fi 0 (barEnabled r (List.replicate (4 * r.dws) 0))]
    ∧ t.mem = s.mem ∧ t.staging = s.staging)
  ∧ (∀ (s : State) (r : BarTlp) (a : Nat), r.malformed = false → s.barUp r = true → r.write = false → s.barTarget r.fi r.offset.toNat (4 * r.dws) r.write = .reg a →
    r.dws.val = 1 → r.firstBe.val ≠ 0 → s.reach (.fn r.fi) r.write a = .served → ∃ t, exec (.barRequest r) s = .next t ∧ .barCpl r.fi 0 (barEnabled r (leBytes 4
    (s.readWord (.fn r.fi) a).1)) ∈ t.sent s)
  ∧ (∀ (s : State) (r : BarTlp) (a : Nat), r.malformed = false → s.barUp r = true → r.write = false → s.barTarget r.fi r.offset.toNat (4 * r.dws) r.write = .reg a →
    r.dws.val = 1 → r.firstBe.val = 0 → s.reach (.fn r.fi) r.write a = .served → ∃ t, exec (.barRequest r) s = .next t ∧ t.sent s = [.barCpl r.fi 0 []] ∧ t.regs =
    s.regs)
  ∧ (∀ (s : State) (r : BarTlp) (a : Nat), r.malformed = false → s.barUp r = true → r.write = false → s.barTarget r.fi r.offset.toNat (4 * r.dws) r.write = .reg a →
    r.dws.val = 2 → a % 8 = 0 → s.reach (.fn r.fi) r.write a = .served → ∃ t, exec (.barRequest r) s = .next t ∧ .barCpl r.fi 0 (barEnabled r (leBytes 8 (s.readWide (.fn
    r.fi) a).1)) ∈ t.sent s)
  ∧ (∀ (s : State) (r : BarTlp) (a : Nat), r.malformed = false → s.barUp r = true → r.poisoned = false → r.write = true → s.barTarget r.fi r.offset.toNat (4 * r.dws)
    r.write = .reg a → r.dws.val = 1 → (barEnables r).any (fun b => !b) = false → s.reach (.fn r.fi) r.write a = .served → ∃ t, exec (.barRequest r) s = .next t ∧ t =
    (s.writeWord (.fn r.fi) a (ofLe r.data) r.bad).settleDue)
  ∧ (∀ (s : State) (r : BarTlp) (a : Nat), r.malformed = false → s.barUp r = true → r.poisoned = false → r.write = true → s.barTarget r.fi r.offset.toNat (4 * r.dws)
    r.write = .reg a → r.dws.val = 2 → a % 8 = 0 → (barEnables r).any (fun b => !b) = false → s.reach (.fn r.fi) r.write a = .served → ∃ t, exec (.barRequest r) s =
    .next t ∧ t = (s.writeWide (.fn r.fi) a (ofLe r.data) r.bad).settleDue)

/-- Register writes act by access code, rank, lock, fence and width (00_scope.md, 01_module_overview.md, 11_compute_memory.md, 22_faults_ageing_calibration.md, 25_register_space.md). -/
def Obligations.RegisterWrites : Prop :=
  (∀ (s : State) (ws : List RegWrite), s.powered = true → ∃ t, exec (.registerWrite ws) s = .next t ∧ t = ((s.inOrder ws).foldl State.access s).settleDue)
  ∧ (∀ (s : State) (i : Fin 24) (v : Dword), s.powered = true → s.fenced 0 = false → s.faultsDue = [] → s.request = 0 → ∃ t, exec (.registerWrite
    [{ who := .supervisor, addr := BitVec.ofNat 32 (0x00800100 + 4 * i), value := v, wide := false, bad := false }]) s = .next t ∧ t.fld F.AO_ATT_IN_WORD i = v.toNat % 2
    ^ 32 ∧ t.mem = s.mem ∧ t.out = s.out)
  ∧ (∀ (s : State) (v : Dword), s.powered = true → s.fenced 0 = false → s.faultsDue = [] → s.request = 0 → ∃ t, exec (.registerWrite
    [{ who := .supervisor, addr := 0, value := v, wide := false, bad := false }]) s = .next t ∧ t.regs = s.regs ∧ t.out = s.out)
  ∧ (∀ (s : State) (v : Dword), s.powered = true → s.fenced 0 = false → s.faultsDue = [] → s.request = 0 → ∃ t, exec (.registerWrite
    [{ who := .supervisor, addr := 0x01000208, value := v, wide := false, bad := false }]) s = .next t ∧ t.flag F.AO_PKG_AUX_V3P3_FAULT = (s.flag F.AO_PKG_AUX_V3P3_FAULT
    && !bit v.toNat 1) ∧ t.flag F.AO_PKG_AUX_V1P8_FAULT = (s.flag F.AO_PKG_AUX_V1P8_FAULT && !bit v.toNat 0))
  ∧ (∀ (s : State) (v : Dword), s.powered = true → s.fenced 0 = false → s.faultsDue = [] → s.request = 0 → ∃ t, exec (.registerWrite
    [{ who := .supervisor, addr := 0x00B00008, value := v, wide := true, bad := false }]) s = .next t ∧ t.fld F.AO_CAL_ADDR_ADDR = v.toNat)
  ∧ (∀ (s : State) (lo : Dword), s.powered = true → s.fenced 0 = false → s.faultsDue = [] → s.request = 0 → ∃ t, exec (.registerWrite
    [{ who := .supervisor, addr := 0x00B00008, value := lo, wide := false, bad := false }]) s = .next t ∧ t.fld F.AO_CAL_ADDR_ADDR = s.fld F.AO_CAL_ADDR_ADDR ∧ (t.latch
    .supervisor).heldLow = some (0x00B00008, lo.toNat % 2 ^ 32))
  ∧ (∀ (s : State) (lo hi : Dword), s.powered = true → s.fenced 0 = false → s.faultsDue = [] → s.request = 0 → ∃ t, exec (.registerWrite
    [{ who := .supervisor, addr := 0x00B00008, value := lo, wide := false, bad := false },
    { who := .supervisor, addr := 0x00B0000C, value := hi, wide := false, bad := false }]) s = .next t ∧ t.fld F.AO_CAL_ADDR_ADDR = hi.toNat % 2 ^ 32 * 2 ^ 32 + lo.toNat
    % 2 ^ 32)
  ∧ (∀ (s : State) (a b : Dword) (fi : Fin 2056), s.powered = true → s.mode ≠ .safetyNet → fi.val = s.mgr → s.fenced 0 = false → s.faultsDue = [] → s.request = 0 → ∃ t,
    exec (.registerWrite [{ who := .supervisor, addr := 0x00800100, value := a, wide := false, bad := false },
    { who := .fn fi, addr := 0x00800100, value := b, wide := false, bad := false }]) s = .next t ∧ t.fld F.AO_ATT_IN_WORD = a.toNat % 2 ^ 32)
  ∧ (∀ (s : State) (v : Dword), s.powered = true → s.fenced 0 = false → Map.get false 0 s.locks = true → s.faultsDue = [] → s.request = 0 → ∃ t, exec (.registerWrite
    [{ who := .supervisor, addr := 0x00900000, value := v, wide := false, bad := false }]) s = .next t ∧ t.fld F.AO_FLT_CFG_WD_PERIOD = s.fld F.AO_FLT_CFG_WD_PERIOD ∧
    t.fld F.AO_FLT_CFG_RR_LIMIT = s.fld F.AO_FLT_CFG_RR_LIMIT ∧ t.fld F.AO_FLT_CFG_MF_LIMIT = s.fld F.AO_FLT_CFG_MF_LIMIT ∧ t.fld F.AO_FLT_LOCKVIOL_COUNT = (s.fld
    F.AO_FLT_LOCKVIOL_COUNT + 1) % 2 ^ 64)
  ∧ (∀ (s : State) (v : Dword), s.powered = true → s.fenced 0 = false → Map.get false 0 s.locks = false → s.faultsDue = [] → s.request = 0 → ∃ t, exec (.registerWrite
    [{ who := .supervisor, addr := 0x00900000, value := v, wide := false, bad := false }]) s = .next t ∧ t.fld F.AO_FLT_CFG_WD_PERIOD = bits v.toNat 16 16 ∧ t.fld
    F.AO_FLT_CFG_RR_LIMIT = bits v.toNat 4 4 ∧ t.fld F.AO_FLT_CFG_MF_LIMIT = bits v.toNat 0 4)
  ∧ (∀ (s : State) (v : Dword), s.powered = true → s.fenced 6 = true → s.faultsDue = [] → s.request = 0 → ∃ t, exec (.registerWrite
    [{ who := .supervisor, addr := 0x60300000, value := v, wide := false, bad := false }]) s = .next t ∧ t.fld F.AO_FLT_REGION_FENCED 6 = min (s.fld
    F.AO_FLT_REGION_FENCED 6 + 1) 1023 ∧ t.rings = s.rings ∧ t.out = s.out)
  ∧ (∀ (s : State) (v : Dword) (fi : Fin 2056), s.powered = true → fi.val ≠ s.mgr → s.faultsDue = [] → s.request = 0 → ∃ t, exec (.registerWrite
    [{ who := .fn fi, addr := 0x00800100, value := v, wide := false, bad := false }]) s = .next t ∧ t.fld F.AO_ATT_IN_WORD = s.fld F.AO_ATT_IN_WORD ∧ t.fld
    F.HX_PCIE_STAT_COUNT (11 * linkOf fi + 4) = (s.fld F.HX_PCIE_STAT_COUNT (11 * linkOf fi + 4) + 1) % 2 ^ 64 ∧ bit (t.cfg fi).aer 7 = true)
  ∧ (∀ (s : State) (v : Dword) (k : Fin 32), s.powered = true → s.faultsDue = [] → s.request = 0 → ∃ t, exec (.registerWrite
    [{ who := .core k, addr := 0x00B0000A, value := v, wide := false, bad := false }]) s = .next t ∧ t.sent s = [.accessFault k 0x00B0000A] ∧ t.regs = s.regs)
  ∧ (∀ (s : State) (ws : List RegWrite), s.powered = false → ∃ t, exec (.registerWrite ws) s = .next t ∧ t = s)

end
end

