-- ==== Sys2Proof/Laws/Map.lean ====
section
/-! SUPPORT. Laws of sparse data: what a key reads as after a write, and that every operation keeps the canonical form. -/

namespace Sys2Proof.Machine

section
variable {α : Type}

theorem Map.get_put_same (d : α) (k : Nat) (v : α) (m : Map α) : Map.get d k (Map.put k v m) = v := by
  induction m with
  | nil => simp [Map.put, Map.get]
  | cons e m ih =>
    obtain ⟨j, w⟩ := e
    unfold Map.put
    split
    · next h => rw [Map.get, if_neg (by omega)]; exact ih
    · split
      · simp [Map.get]
      · simp [Map.get]

theorem Map.get_put_ne (d : α) (k j : Nat) (v : α) (m : Map α) (h : j ≠ k) : Map.get d j (Map.put k v m) = Map.get d j m := by
  induction m with
  | nil => simp [Map.put, Map.get, Ne.symm h]
  | cons e m ih =>
    obtain ⟨i, w⟩ := e
    unfold Map.put
    split
    · simp only [Map.get]; split
      · rfl
      · exact ih
    · split
      · next h1 => subst h1; simp [Map.get, Ne.symm h]
      · simp [Map.get, Ne.symm h]

theorem Map.get_del_same (d : α) (k : Nat) (m : Map α) : Map.get d k (Map.del k m) = d := by
  induction m with
  | nil => rfl
  | cons e m ih =>
    obtain ⟨j, w⟩ := e
    unfold Map.del
    split
    · exact ih
    · next h => simp [Map.get, h, ih]

theorem Map.get_del_ne (d : α) (k j : Nat) (m : Map α) (h : j ≠ k) : Map.get d j (Map.del k m) = Map.get d j m := by
  induction m with
  | nil => rfl
  | cons e m ih =>
    obtain ⟨i, w⟩ := e
    unfold Map.del
    split
    · next h1 => subst h1; simp [Map.get, Ne.symm h, ih]
    · simp only [Map.get]; split
      · rfl
      · exact ih

variable [DecidableEq α]

/-- What was written at a key reads back. -/
@[simp] theorem Map.get_set_same (d : α) (k : Nat) (v : α) (m : Map α) : Map.get d k (Map.set d k v m) = v := by
  unfold Map.set; split
  · next h => rw [Map.get_del_same, h]
  · exact Map.get_put_same d k v m

/-- A write leaves every other key alone. -/
theorem Map.get_set_ne (d : α) (k j : Nat) (v : α) (m : Map α) (h : j ≠ k) : Map.get d j (Map.set d k v m) = Map.get d j m := by
  unfold Map.set; split
  · exact Map.get_del_ne d k j m h
  · exact Map.get_put_ne d k j v m h

theorem Map.get_set (d : α) (k j : Nat) (v : α) (m : Map α) : Map.get d j (Map.set d k v m) = if j = k then v else Map.get d j m := by
  split
  · next h => subst h; simp
  · next h => exact Map.get_set_ne d k j v m h

end

/-! ### The canonical form -/

section
variable {α : Type}

theorem Map.rising_mono {k j : Nat} (h : j ≤ k) {m : Map α} (hm : Map.rising k m = true) : Map.rising j m = true := by
  cases m with
  | nil => rfl
  | cons e m =>
    obtain ⟨i, w⟩ := e
    simp only [Map.rising, Bool.and_eq_true, decide_eq_true_eq] at hm ⊢
    exact ⟨by omega, hm.2⟩

theorem Map.rising_put {k j : Nat} (v : α) (h : k < j) {m : Map α} (hm : Map.rising k m = true) : Map.rising k (Map.put j v m) = true := by
  induction m generalizing k with
  | nil => simp [Map.put, Map.rising, h]
  | cons e m ih =>
    obtain ⟨i, w⟩ := e
    simp only [Map.rising, Bool.and_eq_true, decide_eq_true_eq] at hm
    unfold Map.put
    split
    · next h1 => simp only [Map.rising, Bool.and_eq_true, decide_eq_true_eq]; exact ⟨hm.1, ih h1 hm.2⟩
    · split
      · next h1 => subst h1; simp only [Map.rising, Bool.and_eq_true, decide_eq_true_eq]; exact ⟨h, hm.2⟩
      · next h1 h2 =>
        simp only [Map.rising, Bool.and_eq_true, decide_eq_true_eq]
        exact ⟨h, by omega, hm.2⟩

theorem Map.rising_del {k j : Nat} {m : Map α} (hm : Map.rising k m = true) : Map.rising k (Map.del j m) = true := by
  induction m generalizing k with
  | nil => rfl
  | cons e m ih =>
    obtain ⟨i, w⟩ := e
    simp only [Map.rising, Bool.and_eq_true, decide_eq_true_eq] at hm
    unfold Map.del
    split
    · exact ih (Map.rising_mono (by omega) hm.2)
    · simp only [Map.rising, Bool.and_eq_true, decide_eq_true_eq]; exact ⟨hm.1, ih hm.2⟩

theorem Map.rising_filter {k : Nat} (p : Nat × α → Bool) {m : Map α} (hm : Map.rising k m = true) : Map.rising k (m.filter p) = true := by
  induction m generalizing k with
  | nil => rfl
  | cons e m ih =>
    obtain ⟨i, w⟩ := e
    simp only [Map.rising, Bool.and_eq_true, decide_eq_true_eq] at hm
    rw [List.filter_cons]
    split
    · simp only [Map.rising, Bool.and_eq_true, decide_eq_true_eq]; exact ⟨hm.1, ih hm.2⟩
    · exact ih (Map.rising_mono (by omega) hm.2)

theorem Map.sorted_put (j : Nat) (v : α) {m : Map α} (hm : Map.sorted m = true) : Map.sorted (Map.put j v m) = true := by
  cases m with
  | nil => simp [Map.put, Map.sorted, Map.rising]
  | cons e m =>
    obtain ⟨i, w⟩ := e
    simp only [Map.sorted] at hm
    unfold Map.put
    split
    · next h => exact Map.rising_put v h hm
    · split
      · next h => subst h; exact hm
      · next h1 h2 => simp only [Map.sorted, Map.rising, Bool.and_eq_true, decide_eq_true_eq]; exact ⟨by omega, hm⟩

theorem Map.sorted_of_rising {k : Nat} {m : Map α} (hm : Map.rising k m = true) : Map.sorted m = true := by
  cases m with
  | nil => rfl
  | cons e m => simp only [Map.rising, Bool.and_eq_true] at hm; exact hm.2

theorem Map.sorted_del (j : Nat) {m : Map α} (hm : Map.sorted m = true) : Map.sorted (Map.del j m) = true := by
  cases m with
  | nil => rfl
  | cons e m =>
    obtain ⟨i, w⟩ := e
    simp only [Map.sorted] at hm
    unfold Map.del
    split
    · exact Map.sorted_of_rising (Map.rising_del hm)
    · exact Map.rising_del hm

theorem Map.sorted_filter (p : Nat × α → Bool) {m : Map α} (hm : Map.sorted m = true) : Map.sorted (m.filter p) = true := by
  cases m with
  | nil => rfl
  | cons e m =>
    obtain ⟨i, w⟩ := e
    simp only [Map.sorted] at hm
    rw [List.filter_cons]
    split
    · exact Map.rising_filter p hm
    · exact Map.sorted_of_rising (Map.rising_filter p hm)

theorem Map.mem_put {k : Nat} {v : α} {m : Map α} {e : Nat × α} (h : e ∈ Map.put k v m) : e = (k, v) ∨ e ∈ m := by
  induction m with
  | nil => simpa [Map.put] using h
  | cons x m ih =>
    obtain ⟨j, w⟩ := x
    unfold Map.put at h
    split at h
    · rcases List.mem_cons.mp h with h | h
      · exact .inr (by simp [h])
      · rcases ih h with h | h
        · exact .inl h
        · exact .inr (List.mem_cons_of_mem _ h)
    · split at h
      · rcases List.mem_cons.mp h with h | h
        · exact .inl h
        · exact .inr (List.mem_cons_of_mem _ h)
      · rcases List.mem_cons.mp h with h | h
        · exact .inl h
        · exact .inr h

theorem Map.mem_del {k : Nat} {m : Map α} {e : Nat × α} (h : e ∈ Map.del k m) : e ∈ m := by
  induction m with
  | nil => exact h
  | cons x m ih =>
    obtain ⟨j, w⟩ := x
    unfold Map.del at h
    split at h
    · exact List.mem_cons_of_mem _ (ih h)
    · rcases List.mem_cons.mp h with h | h
      · simp [h]
      · exact List.mem_cons_of_mem _ (ih h)

variable [DecidableEq α]

/-- A write keeps the canonical form. -/
theorem Map.wf_set (d : α) (k : Nat) (v : α) {m : Map α} (hm : Map.wf d m = true) : Map.wf d (Map.set d k v m) = true := by
  simp only [Map.wf, Map.tight, Bool.and_eq_true, List.all_eq_true, decide_eq_true_eq] at hm ⊢
  unfold Map.set
  split
  · exact ⟨Map.sorted_del k hm.1, fun e he => hm.2 e (Map.mem_del he)⟩
  · next h =>
    refine ⟨Map.sorted_put k v hm.1, fun e he => ?_⟩
    rcases Map.mem_put he with h1 | h1
    · simpa [h1] using h
    · exact hm.2 e h1

/-- Leaving entries out keeps the canonical form. -/
theorem Map.wf_filter (d : α) (p : Nat × α → Bool) {m : Map α} (hm : Map.wf d m = true) : Map.wf d (m.filter p) = true := by
  simp only [Map.wf, Map.tight, Bool.and_eq_true, List.all_eq_true, decide_eq_true_eq] at hm ⊢
  exact ⟨Map.sorted_filter p hm.1, fun e he => hm.2 e (List.mem_filter.mp he).1⟩

/-- Empty memory is in the canonical form. -/
@[simp] theorem Map.wf_nil (d : α) : Map.wf d ([] : Map α) = true := rfl

end

/-- Writing bytes keeps the canonical form. -/
theorem cellsWrite_wf (a : Nat) (bs : List Byte) (m : List Host.Cell) (hm : Map.wf (0 : Byte) m = true) :
    Map.wf (0 : Byte) (cellsWrite m a bs) = true := by
  induction bs generalizing a m with
  | nil => exact hm
  | cons b bs ih => exact ih (a + 1) _ (Map.wf_set (0 : Byte) a b hm)

/-- A write of bytes leaves every address outside them alone. -/
theorem cellsWrite_get_out (x a : Nat) (bs : List Byte) (m : List Host.Cell) (h : x < a ∨ a + bs.length ≤ x) :
    Map.get (0 : Byte) x (cellsWrite m a bs) = Map.get 0 x m := by
  induction bs generalizing a m with
  | nil => rfl
  | cons b bs ih =>
    simp only [List.length_cons] at h
    show Map.get 0 x (cellsWrite (Map.set 0 a b m) (a + 1) bs) = _
    rw [ih (a + 1) _ (by omega), Map.get_set_ne _ _ _ _ _ (by omega)]

end Sys2Proof.Machine
end

