-- ==== Sys2Proof/Laws/State.lean ====
section
/-! SUPPORT. One lemma per field of State per update: what an update leaves alone, and what it puts into the field it writes. -/

namespace Sys2Proof.Machine

/-! ### setFld -/

@[simp] theorem State.setFld_pending (s : State) (f : Fld) (i v : Nat) : (s.setFld f i v).pending = s.pending := rfl
@[simp] theorem State.setFld_powered (s : State) (f : Fld) (i v : Nat) : (s.setFld f i v).powered = s.powered := rfl
@[simp] theorem State.setFld_locks (s : State) (f : Fld) (i v : Nat) : (s.setFld f i v).locks = s.locks := rfl
@[simp] theorem State.setFld_latches (s : State) (f : Fld) (i v : Nat) : (s.setFld f i v).latches = s.latches := rfl
@[simp] theorem State.setFld_log (s : State) (f : Fld) (i v : Nat) : (s.setFld f i v).log = s.log := rfl
@[simp] theorem State.setFld_staged (s : State) (f : Fld) (i v : Nat) : (s.setFld f i v).staged = s.staged := rfl
@[simp] theorem State.setFld_out (s : State) (f : Fld) (i v : Nat) : (s.setFld f i v).out = s.out := rfl
@[simp] theorem State.setFld_draws (s : State) (f : Fld) (i v : Nat) : (s.setFld f i v).draws = s.draws := rfl
@[simp] theorem State.setFld_traceLost (s : State) (f : Fld) (i v : Nat) : (s.setFld f i v).traceLost = s.traceLost := rfl
@[simp] theorem State.setFld_mem (s : State) (f : Fld) (i v : Nat) : (s.setFld f i v).mem = s.mem := rfl
@[simp] theorem State.setFld_staging (s : State) (f : Fld) (i v : Nat) : (s.setFld f i v).staging = s.staging := rfl
@[simp] theorem State.setFld_poison (s : State) (f : Fld) (i v : Nat) : (s.setFld f i v).poison = s.poison := rfl
@[simp] theorem State.setFld_cfgs (s : State) (f : Fld) (i v : Nat) : (s.setFld f i v).cfgs = s.cfgs := rfl
@[simp] theorem State.setFld_hosts (s : State) (f : Fld) (i v : Nat) : (s.setFld f i v).hosts = s.hosts := rfl
@[simp] theorem State.setFld_dlogs (s : State) (f : Fld) (i v : Nat) : (s.setFld f i v).dlogs = s.dlogs := rfl
@[simp] theorem State.setFld_rings (s : State) (f : Fld) (i v : Nat) : (s.setFld f i v).rings = s.rings := rfl
@[simp] theorem State.setFld_mac (s : State) (f : Fld) (i v : Nat) : (s.setFld f i v).mac = s.mac := rfl
@[simp] theorem State.setFld_tbl (s : State) (f : Fld) (i v : Nat) : (s.setFld f i v).tbl = s.tbl := rfl
@[simp] theorem State.setFld_prog (s : State) (f : Fld) (i v : Nat) : (s.setFld f i v).prog = s.prog := rfl
@[simp] theorem State.setFld_fx (s : State) (f : Fld) (i v : Nat) : (s.setFld f i v).fx = s.fx := rfl
@[simp] theorem State.setFld_tm (s : State) (f : Fld) (i v : Nat) : (s.setFld f i v).tm = s.tm := rfl
@[simp] theorem State.setFld_limits (s : State) (f : Fld) (i v : Nat) : (s.setFld f i v).limits = s.limits := rfl
@[simp] theorem State.setFld_faultsDue (s : State) (f : Fld) (i v : Nat) : (s.setFld f i v).faultsDue = s.faultsDue := rfl
@[simp] theorem State.setFld_ciph (s : State) (f : Fld) (i v : Nat) : (s.setFld f i v).ciph = s.ciph := rfl
@[simp] theorem State.setFld_stor (s : State) (f : Fld) (i v : Nat) : (s.setFld f i v).stor = s.stor := rfl
@[simp] theorem State.setFld_rma (s : State) (f : Fld) (i v : Nat) : (s.setFld f i v).rma = s.rma := rfl
@[simp] theorem State.setFld_time (s : State) (f : Fld) (i v : Nat) : (s.setFld f i v).time = s.time := rfl
@[simp] theorem State.setFld_led (s : State) (f : Fld) (i v : Nat) : (s.setFld f i v).led = s.led := rfl
@[simp] theorem State.setFld_cal (s : State) (f : Fld) (i v : Nat) : (s.setFld f i v).cal = s.cal := rfl
@[simp] theorem State.setFld_pkg (s : State) (f : Fld) (i v : Nat) : (s.setFld f i v).pkg = s.pkg := rfl
@[simp] theorem State.setFld_stc (s : State) (f : Fld) (i v : Nat) : (s.setFld f i v).stc = s.stc := rfl
@[simp] theorem State.setFld_sq (s : State) (f : Fld) (i v : Nat) : (s.setFld f i v).sq = s.sq := rfl
@[simp] theorem State.setFld_boot (s : State) (f : Fld) (i v : Nat) : (s.setFld f i v).boot = s.boot := rfl
@[simp] theorem State.setFld_tr (s : State) (f : Fld) (i v : Nat) : (s.setFld f i v).tr = s.tr := rfl
@[simp] theorem State.setFld_dbg (s : State) (f : Fld) (i v : Nat) : (s.setFld f i v).dbg = s.dbg := rfl
@[simp] theorem State.setFld_tap (s : State) (f : Fld) (i v : Nat) : (s.setFld f i v).tap = s.tap := rfl
@[simp] theorem State.setFld_ccr (s : State) (f : Fld) (i v : Nat) : (s.setFld f i v).ccr = s.ccr := rfl
@[simp] theorem State.setFld_harts (s : State) (f : Fld) (i v : Nat) : (s.setFld f i v).harts = s.harts := rfl
@[simp] theorem State.setFld_request (s : State) (f : Fld) (i v : Nat) : (s.setFld f i v).request = s.request := rfl
@[simp] theorem State.setFld_faultTimes (s : State) (f : Fld) (i v : Nat) : (s.setFld f i v).faultTimes = s.faultTimes := rfl
@[simp] theorem State.setFld_resetTimes (s : State) (f : Fld) (i v : Nat) : (s.setFld f i v).resetTimes = s.resetTimes := rfl
@[simp] theorem State.setFld_lateFaults (s : State) (f : Fld) (i v : Nat) : (s.setFld f i v).lateFaults = s.lateFaults := rfl

/-! ### setFlag -/

@[simp] theorem State.setFlag_pending (s : State) (f : Fld) (i : Nat) (b : Bool) : (s.setFlag f i b).pending = s.pending := rfl
@[simp] theorem State.setFlag_powered (s : State) (f : Fld) (i : Nat) (b : Bool) : (s.setFlag f i b).powered = s.powered := rfl
@[simp] theorem State.setFlag_locks (s : State) (f : Fld) (i : Nat) (b : Bool) : (s.setFlag f i b).locks = s.locks := rfl
@[simp] theorem State.setFlag_latches (s : State) (f : Fld) (i : Nat) (b : Bool) : (s.setFlag f i b).latches = s.latches := rfl
@[simp] theorem State.setFlag_log (s : State) (f : Fld) (i : Nat) (b : Bool) : (s.setFlag f i b).log = s.log := rfl
@[simp] theorem State.setFlag_staged (s : State) (f : Fld) (i : Nat) (b : Bool) : (s.setFlag f i b).staged = s.staged := rfl
@[simp] theorem State.setFlag_out (s : State) (f : Fld) (i : Nat) (b : Bool) : (s.setFlag f i b).out = s.out := rfl
@[simp] theorem State.setFlag_draws (s : State) (f : Fld) (i : Nat) (b : Bool) : (s.setFlag f i b).draws = s.draws := rfl
@[simp] theorem State.setFlag_traceLost (s : State) (f : Fld) (i : Nat) (b : Bool) : (s.setFlag f i b).traceLost = s.traceLost := rfl
@[simp] theorem State.setFlag_mem (s : State) (f : Fld) (i : Nat) (b : Bool) : (s.setFlag f i b).mem = s.mem := rfl
@[simp] theorem State.setFlag_staging (s : State) (f : Fld) (i : Nat) (b : Bool) : (s.setFlag f i b).staging = s.staging := rfl
@[simp] theorem State.setFlag_poison (s : State) (f : Fld) (i : Nat) (b : Bool) : (s.setFlag f i b).poison = s.poison := rfl
@[simp] theorem State.setFlag_cfgs (s : State) (f : Fld) (i : Nat) (b : Bool) : (s.setFlag f i b).cfgs = s.cfgs := rfl
@[simp] theorem State.setFlag_hosts (s : State) (f : Fld) (i : Nat) (b : Bool) : (s.setFlag f i b).hosts = s.hosts := rfl
@[simp] theorem State.setFlag_dlogs (s : State) (f : Fld) (i : Nat) (b : Bool) : (s.setFlag f i b).dlogs = s.dlogs := rfl
@[simp] theorem State.setFlag_rings (s : State) (f : Fld) (i : Nat) (b : Bool) : (s.setFlag f i b).rings = s.rings := rfl
@[simp] theorem State.setFlag_mac (s : State) (f : Fld) (i : Nat) (b : Bool) : (s.setFlag f i b).mac = s.mac := rfl
@[simp] theorem State.setFlag_tbl (s : State) (f : Fld) (i : Nat) (b : Bool) : (s.setFlag f i b).tbl = s.tbl := rfl
@[simp] theorem State.setFlag_prog (s : State) (f : Fld) (i : Nat) (b : Bool) : (s.setFlag f i b).prog = s.prog := rfl
@[simp] theorem State.setFlag_fx (s : State) (f : Fld) (i : Nat) (b : Bool) : (s.setFlag f i b).fx = s.fx := rfl
@[simp] theorem State.setFlag_tm (s : State) (f : Fld) (i : Nat) (b : Bool) : (s.setFlag f i b).tm = s.tm := rfl
@[simp] theorem State.setFlag_limits (s : State) (f : Fld) (i : Nat) (b : Bool) : (s.setFlag f i b).limits = s.limits := rfl
@[simp] theorem State.setFlag_faultsDue (s : State) (f : Fld) (i : Nat) (b : Bool) : (s.setFlag f i b).faultsDue = s.faultsDue := rfl
@[simp] theorem State.setFlag_ciph (s : State) (f : Fld) (i : Nat) (b : Bool) : (s.setFlag f i b).ciph = s.ciph := rfl
@[simp] theorem State.setFlag_stor (s : State) (f : Fld) (i : Nat) (b : Bool) : (s.setFlag f i b).stor = s.stor := rfl
@[simp] theorem State.setFlag_rma (s : State) (f : Fld) (i : Nat) (b : Bool) : (s.setFlag f i b).rma = s.rma := rfl
@[simp] theorem State.setFlag_time (s : State) (f : Fld) (i : Nat) (b : Bool) : (s.setFlag f i b).time = s.time := rfl
@[simp] theorem State.setFlag_led (s : State) (f : Fld) (i : Nat) (b : Bool) : (s.setFlag f i b).led = s.led := rfl
@[simp] theorem State.setFlag_cal (s : State) (f : Fld) (i : Nat) (b : Bool) : (s.setFlag f i b).cal = s.cal := rfl
@[simp] theorem State.setFlag_pkg (s : State) (f : Fld) (i : Nat) (b : Bool) : (s.setFlag f i b).pkg = s.pkg := rfl
@[simp] theorem State.setFlag_stc (s : State) (f : Fld) (i : Nat) (b : Bool) : (s.setFlag f i b).stc = s.stc := rfl
@[simp] theorem State.setFlag_sq (s : State) (f : Fld) (i : Nat) (b : Bool) : (s.setFlag f i b).sq = s.sq := rfl
@[simp] theorem State.setFlag_boot (s : State) (f : Fld) (i : Nat) (b : Bool) : (s.setFlag f i b).boot = s.boot := rfl
@[simp] theorem State.setFlag_tr (s : State) (f : Fld) (i : Nat) (b : Bool) : (s.setFlag f i b).tr = s.tr := rfl
@[simp] theorem State.setFlag_dbg (s : State) (f : Fld) (i : Nat) (b : Bool) : (s.setFlag f i b).dbg = s.dbg := rfl
@[simp] theorem State.setFlag_tap (s : State) (f : Fld) (i : Nat) (b : Bool) : (s.setFlag f i b).tap = s.tap := rfl
@[simp] theorem State.setFlag_ccr (s : State) (f : Fld) (i : Nat) (b : Bool) : (s.setFlag f i b).ccr = s.ccr := rfl
@[simp] theorem State.setFlag_harts (s : State) (f : Fld) (i : Nat) (b : Bool) : (s.setFlag f i b).harts = s.harts := rfl
@[simp] theorem State.setFlag_request (s : State) (f : Fld) (i : Nat) (b : Bool) : (s.setFlag f i b).request = s.request := rfl
@[simp] theorem State.setFlag_faultTimes (s : State) (f : Fld) (i : Nat) (b : Bool) : (s.setFlag f i b).faultTimes = s.faultTimes := rfl
@[simp] theorem State.setFlag_resetTimes (s : State) (f : Fld) (i : Nat) (b : Bool) : (s.setFlag f i b).resetTimes = s.resetTimes := rfl
@[simp] theorem State.setFlag_lateFaults (s : State) (f : Fld) (i : Nat) (b : Bool) : (s.setFlag f i b).lateFaults = s.lateFaults := rfl

/-! ### bump -/

@[simp] theorem State.bump_pending (s : State) (f : Fld) (i n : Nat) : (s.bump f i n).pending = s.pending := rfl
@[simp] theorem State.bump_powered (s : State) (f : Fld) (i n : Nat) : (s.bump f i n).powered = s.powered := rfl
@[simp] theorem State.bump_locks (s : State) (f : Fld) (i n : Nat) : (s.bump f i n).locks = s.locks := rfl
@[simp] theorem State.bump_latches (s : State) (f : Fld) (i n : Nat) : (s.bump f i n).latches = s.latches := rfl
@[simp] theorem State.bump_log (s : State) (f : Fld) (i n : Nat) : (s.bump f i n).log = s.log := rfl
@[simp] theorem State.bump_staged (s : State) (f : Fld) (i n : Nat) : (s.bump f i n).staged = s.staged := rfl
@[simp] theorem State.bump_out (s : State) (f : Fld) (i n : Nat) : (s.bump f i n).out = s.out := rfl
@[simp] theorem State.bump_draws (s : State) (f : Fld) (i n : Nat) : (s.bump f i n).draws = s.draws := rfl
@[simp] theorem State.bump_traceLost (s : State) (f : Fld) (i n : Nat) : (s.bump f i n).traceLost = s.traceLost := rfl
@[simp] theorem State.bump_mem (s : State) (f : Fld) (i n : Nat) : (s.bump f i n).mem = s.mem := rfl
@[simp] theorem State.bump_staging (s : State) (f : Fld) (i n : Nat) : (s.bump f i n).staging = s.staging := rfl
@[simp] theorem State.bump_poison (s : State) (f : Fld) (i n : Nat) : (s.bump f i n).poison = s.poison := rfl
@[simp] theorem State.bump_cfgs (s : State) (f : Fld) (i n : Nat) : (s.bump f i n).cfgs = s.cfgs := rfl
@[simp] theorem State.bump_hosts (s : State) (f : Fld) (i n : Nat) : (s.bump f i n).hosts = s.hosts := rfl
@[simp] theorem State.bump_dlogs (s : State) (f : Fld) (i n : Nat) : (s.bump f i n).dlogs = s.dlogs := rfl
@[simp] theorem State.bump_rings (s : State) (f : Fld) (i n : Nat) : (s.bump f i n).rings = s.rings := rfl
@[simp] theorem State.bump_mac (s : State) (f : Fld) (i n : Nat) : (s.bump f i n).mac = s.mac := rfl
@[simp] theorem State.bump_tbl (s : State) (f : Fld) (i n : Nat) : (s.bump f i n).tbl = s.tbl := rfl
@[simp] theorem State.bump_prog (s : State) (f : Fld) (i n : Nat) : (s.bump f i n).prog = s.prog := rfl
@[simp] theorem State.bump_fx (s : State) (f : Fld) (i n : Nat) : (s.bump f i n).fx = s.fx := rfl
@[simp] theorem State.bump_tm (s : State) (f : Fld) (i n : Nat) : (s.bump f i n).tm = s.tm := rfl
@[simp] theorem State.bump_limits (s : State) (f : Fld) (i n : Nat) : (s.bump f i n).limits = s.limits := rfl
@[simp] theorem State.bump_faultsDue (s : State) (f : Fld) (i n : Nat) : (s.bump f i n).faultsDue = s.faultsDue := rfl
@[simp] theorem State.bump_ciph (s : State) (f : Fld) (i n : Nat) : (s.bump f i n).ciph = s.ciph := rfl
@[simp] theorem State.bump_stor (s : State) (f : Fld) (i n : Nat) : (s.bump f i n).stor = s.stor := rfl
@[simp] theorem State.bump_rma (s : State) (f : Fld) (i n : Nat) : (s.bump f i n).rma = s.rma := rfl
@[simp] theorem State.bump_time (s : State) (f : Fld) (i n : Nat) : (s.bump f i n).time = s.time := rfl
@[simp] theorem State.bump_led (s : State) (f : Fld) (i n : Nat) : (s.bump f i n).led = s.led := rfl
@[simp] theorem State.bump_cal (s : State) (f : Fld) (i n : Nat) : (s.bump f i n).cal = s.cal := rfl
@[simp] theorem State.bump_pkg (s : State) (f : Fld) (i n : Nat) : (s.bump f i n).pkg = s.pkg := rfl
@[simp] theorem State.bump_stc (s : State) (f : Fld) (i n : Nat) : (s.bump f i n).stc = s.stc := rfl
@[simp] theorem State.bump_sq (s : State) (f : Fld) (i n : Nat) : (s.bump f i n).sq = s.sq := rfl
@[simp] theorem State.bump_boot (s : State) (f : Fld) (i n : Nat) : (s.bump f i n).boot = s.boot := rfl
@[simp] theorem State.bump_tr (s : State) (f : Fld) (i n : Nat) : (s.bump f i n).tr = s.tr := rfl
@[simp] theorem State.bump_dbg (s : State) (f : Fld) (i n : Nat) : (s.bump f i n).dbg = s.dbg := rfl
@[simp] theorem State.bump_tap (s : State) (f : Fld) (i n : Nat) : (s.bump f i n).tap = s.tap := rfl
@[simp] theorem State.bump_ccr (s : State) (f : Fld) (i n : Nat) : (s.bump f i n).ccr = s.ccr := rfl
@[simp] theorem State.bump_harts (s : State) (f : Fld) (i n : Nat) : (s.bump f i n).harts = s.harts := rfl
@[simp] theorem State.bump_request (s : State) (f : Fld) (i n : Nat) : (s.bump f i n).request = s.request := rfl
@[simp] theorem State.bump_faultTimes (s : State) (f : Fld) (i n : Nat) : (s.bump f i n).faultTimes = s.faultTimes := rfl
@[simp] theorem State.bump_resetTimes (s : State) (f : Fld) (i n : Nat) : (s.bump f i n).resetTimes = s.resetTimes := rfl
@[simp] theorem State.bump_lateFaults (s : State) (f : Fld) (i n : Nat) : (s.bump f i n).lateFaults = s.lateFaults := rfl

/-! ### bumpSat -/

@[simp] theorem State.bumpSat_pending (s : State) (f : Fld) (i n : Nat) : (s.bumpSat f i n).pending = s.pending := rfl
@[simp] theorem State.bumpSat_powered (s : State) (f : Fld) (i n : Nat) : (s.bumpSat f i n).powered = s.powered := rfl
@[simp] theorem State.bumpSat_locks (s : State) (f : Fld) (i n : Nat) : (s.bumpSat f i n).locks = s.locks := rfl
@[simp] theorem State.bumpSat_latches (s : State) (f : Fld) (i n : Nat) : (s.bumpSat f i n).latches = s.latches := rfl
@[simp] theorem State.bumpSat_log (s : State) (f : Fld) (i n : Nat) : (s.bumpSat f i n).log = s.log := rfl
@[simp] theorem State.bumpSat_staged (s : State) (f : Fld) (i n : Nat) : (s.bumpSat f i n).staged = s.staged := rfl
@[simp] theorem State.bumpSat_out (s : State) (f : Fld) (i n : Nat) : (s.bumpSat f i n).out = s.out := rfl
@[simp] theorem State.bumpSat_draws (s : State) (f : Fld) (i n : Nat) : (s.bumpSat f i n).draws = s.draws := rfl
@[simp] theorem State.bumpSat_traceLost (s : State) (f : Fld) (i n : Nat) : (s.bumpSat f i n).traceLost = s.traceLost := rfl
@[simp] theorem State.bumpSat_mem (s : State) (f : Fld) (i n : Nat) : (s.bumpSat f i n).mem = s.mem := rfl
@[simp] theorem State.bumpSat_staging (s : State) (f : Fld) (i n : Nat) : (s.bumpSat f i n).staging = s.staging := rfl
@[simp] theorem State.bumpSat_poison (s : State) (f : Fld) (i n : Nat) : (s.bumpSat f i n).poison = s.poison := rfl
@[simp] theorem State.bumpSat_cfgs (s : State) (f : Fld) (i n : Nat) : (s.bumpSat f i n).cfgs = s.cfgs := rfl
@[simp] theorem State.bumpSat_hosts (s : State) (f : Fld) (i n : Nat) : (s.bumpSat f i n).hosts = s.hosts := rfl
@[simp] theorem State.bumpSat_dlogs (s : State) (f : Fld) (i n : Nat) : (s.bumpSat f i n).dlogs = s.dlogs := rfl
@[simp] theorem State.bumpSat_rings (s : State) (f : Fld) (i n : Nat) : (s.bumpSat f i n).rings = s.rings := rfl
@[simp] theorem State.bumpSat_mac (s : State) (f : Fld) (i n : Nat) : (s.bumpSat f i n).mac = s.mac := rfl
@[simp] theorem State.bumpSat_tbl (s : State) (f : Fld) (i n : Nat) : (s.bumpSat f i n).tbl = s.tbl := rfl
@[simp] theorem State.bumpSat_prog (s : State) (f : Fld) (i n : Nat) : (s.bumpSat f i n).prog = s.prog := rfl
@[simp] theorem State.bumpSat_fx (s : State) (f : Fld) (i n : Nat) : (s.bumpSat f i n).fx = s.fx := rfl
@[simp] theorem State.bumpSat_tm (s : State) (f : Fld) (i n : Nat) : (s.bumpSat f i n).tm = s.tm := rfl
@[simp] theorem State.bumpSat_limits (s : State) (f : Fld) (i n : Nat) : (s.bumpSat f i n).limits = s.limits := rfl
@[simp] theorem State.bumpSat_faultsDue (s : State) (f : Fld) (i n : Nat) : (s.bumpSat f i n).faultsDue = s.faultsDue := rfl
@[simp] theorem State.bumpSat_ciph (s : State) (f : Fld) (i n : Nat) : (s.bumpSat f i n).ciph = s.ciph := rfl
@[simp] theorem State.bumpSat_stor (s : State) (f : Fld) (i n : Nat) : (s.bumpSat f i n).stor = s.stor := rfl
@[simp] theorem State.bumpSat_rma (s : State) (f : Fld) (i n : Nat) : (s.bumpSat f i n).rma = s.rma := rfl
@[simp] theorem State.bumpSat_time (s : State) (f : Fld) (i n : Nat) : (s.bumpSat f i n).time = s.time := rfl
@[simp] theorem State.bumpSat_led (s : State) (f : Fld) (i n : Nat) : (s.bumpSat f i n).led = s.led := rfl
@[simp] theorem State.bumpSat_cal (s : State) (f : Fld) (i n : Nat) : (s.bumpSat f i n).cal = s.cal := rfl
@[simp] theorem State.bumpSat_pkg (s : State) (f : Fld) (i n : Nat) : (s.bumpSat f i n).pkg = s.pkg := rfl
@[simp] theorem State.bumpSat_stc (s : State) (f : Fld) (i n : Nat) : (s.bumpSat f i n).stc = s.stc := rfl
@[simp] theorem State.bumpSat_sq (s : State) (f : Fld) (i n : Nat) : (s.bumpSat f i n).sq = s.sq := rfl
@[simp] theorem State.bumpSat_boot (s : State) (f : Fld) (i n : Nat) : (s.bumpSat f i n).boot = s.boot := rfl
@[simp] theorem State.bumpSat_tr (s : State) (f : Fld) (i n : Nat) : (s.bumpSat f i n).tr = s.tr := rfl
@[simp] theorem State.bumpSat_dbg (s : State) (f : Fld) (i n : Nat) : (s.bumpSat f i n).dbg = s.dbg := rfl
@[simp] theorem State.bumpSat_tap (s : State) (f : Fld) (i n : Nat) : (s.bumpSat f i n).tap = s.tap := rfl
@[simp] theorem State.bumpSat_ccr (s : State) (f : Fld) (i n : Nat) : (s.bumpSat f i n).ccr = s.ccr := rfl
@[simp] theorem State.bumpSat_harts (s : State) (f : Fld) (i n : Nat) : (s.bumpSat f i n).harts = s.harts := rfl
@[simp] theorem State.bumpSat_request (s : State) (f : Fld) (i n : Nat) : (s.bumpSat f i n).request = s.request := rfl
@[simp] theorem State.bumpSat_faultTimes (s : State) (f : Fld) (i n : Nat) : (s.bumpSat f i n).faultTimes = s.faultTimes := rfl
@[simp] theorem State.bumpSat_resetTimes (s : State) (f : Fld) (i n : Nat) : (s.bumpSat f i n).resetTimes = s.resetTimes := rfl
@[simp] theorem State.bumpSat_lateFaults (s : State) (f : Fld) (i n : Nat) : (s.bumpSat f i n).lateFaults = s.lateFaults := rfl

/-! ### emit -/

@[simp] theorem State.emit_pending (s : State) (o : Out) : (s.emit o).pending = s.pending := rfl
@[simp] theorem State.emit_powered (s : State) (o : Out) : (s.emit o).powered = s.powered := rfl
@[simp] theorem State.emit_regs (s : State) (o : Out) : (s.emit o).regs = s.regs := rfl
@[simp] theorem State.emit_locks (s : State) (o : Out) : (s.emit o).locks = s.locks := rfl
@[simp] theorem State.emit_latches (s : State) (o : Out) : (s.emit o).latches = s.latches := rfl
@[simp] theorem State.emit_log (s : State) (o : Out) : (s.emit o).log = s.log := rfl
@[simp] theorem State.emit_staged (s : State) (o : Out) : (s.emit o).staged = s.staged := rfl
@[simp] theorem State.emit_out (s : State) (o : Out) : (s.emit o).out = s.out ++ [o] := rfl
@[simp] theorem State.emit_draws (s : State) (o : Out) : (s.emit o).draws = s.draws := rfl
@[simp] theorem State.emit_traceLost (s : State) (o : Out) : (s.emit o).traceLost = s.traceLost := rfl
@[simp] theorem State.emit_mem (s : State) (o : Out) : (s.emit o).mem = s.mem := rfl
@[simp] theorem State.emit_staging (s : State) (o : Out) : (s.emit o).staging = s.staging := rfl
@[simp] theorem State.emit_poison (s : State) (o : Out) : (s.emit o).poison = s.poison := rfl
@[simp] theorem State.emit_cfgs (s : State) (o : Out) : (s.emit o).cfgs = s.cfgs := rfl
@[simp] theorem State.emit_hosts (s : State) (o : Out) : (s.emit o).hosts = s.hosts := rfl
@[simp] theorem State.emit_dlogs (s : State) (o : Out) : (s.emit o).dlogs = s.dlogs := rfl
@[simp] theorem State.emit_rings (s : State) (o : Out) : (s.emit o).rings = s.rings := rfl
@[simp] theorem State.emit_mac (s : State) (o : Out) : (s.emit o).mac = s.mac := rfl
@[simp] theorem State.emit_tbl (s : State) (o : Out) : (s.emit o).tbl = s.tbl := rfl
@[simp] theorem State.emit_prog (s : State) (o : Out) : (s.emit o).prog = s.prog := rfl
@[simp] theorem State.emit_fx (s : State) (o : Out) : (s.emit o).fx = s.fx := rfl
@[simp] theorem State.emit_tm (s : State) (o : Out) : (s.emit o).tm = s.tm := rfl
@[simp] theorem State.emit_limits (s : State) (o : Out) : (s.emit o).limits = s.limits := rfl
@[simp] theorem State.emit_faultsDue (s : State) (o : Out) : (s.emit o).faultsDue = s.faultsDue := rfl
@[simp] theorem State.emit_ciph (s : State) (o : Out) : (s.emit o).ciph = s.ciph := rfl
@[simp] theorem State.emit_stor (s : State) (o : Out) : (s.emit o).stor = s.stor := rfl
@[simp] theorem State.emit_rma (s : State) (o : Out) : (s.emit o).rma = s.rma := rfl
@[simp] theorem State.emit_time (s : State) (o : Out) : (s.emit o).time = s.time := rfl
@[simp] theorem State.emit_led (s : State) (o : Out) : (s.emit o).led = s.led := rfl
@[simp] theorem State.emit_cal (s : State) (o : Out) : (s.emit o).cal = s.cal := rfl
@[simp] theorem State.emit_pkg (s : State) (o : Out) : (s.emit o).pkg = s.pkg := rfl
@[simp] theorem State.emit_stc (s : State) (o : Out) : (s.emit o).stc = s.stc := rfl
@[simp] theorem State.emit_sq (s : State) (o : Out) : (s.emit o).sq = s.sq := rfl
@[simp] theorem State.emit_boot (s : State) (o : Out) : (s.emit o).boot = s.boot := rfl
@[simp] theorem State.emit_tr (s : State) (o : Out) : (s.emit o).tr = s.tr := rfl
@[simp] theorem State.emit_dbg (s : State) (o : Out) : (s.emit o).dbg = s.dbg := rfl
@[simp] theorem State.emit_tap (s : State) (o : Out) : (s.emit o).tap = s.tap := rfl
@[simp] theorem State.emit_ccr (s : State) (o : Out) : (s.emit o).ccr = s.ccr := rfl
@[simp] theorem State.emit_harts (s : State) (o : Out) : (s.emit o).harts = s.harts := rfl
@[simp] theorem State.emit_request (s : State) (o : Out) : (s.emit o).request = s.request := rfl
@[simp] theorem State.emit_faultTimes (s : State) (o : Out) : (s.emit o).faultTimes = s.faultTimes := rfl
@[simp] theorem State.emit_resetTimes (s : State) (o : Out) : (s.emit o).resetTimes = s.resetTimes := rfl
@[simp] theorem State.emit_lateFaults (s : State) (o : Out) : (s.emit o).lateFaults = s.lateFaults := rfl

/-! ### drawn -/

@[simp] theorem State.drawn_pending (s : State) : (s.drawn).pending = s.pending := rfl
@[simp] theorem State.drawn_powered (s : State) : (s.drawn).powered = s.powered := rfl
@[simp] theorem State.drawn_regs (s : State) : (s.drawn).regs = s.regs := rfl
@[simp] theorem State.drawn_locks (s : State) : (s.drawn).locks = s.locks := rfl
@[simp] theorem State.drawn_latches (s : State) : (s.drawn).latches = s.latches := rfl
@[simp] theorem State.drawn_log (s : State) : (s.drawn).log = s.log := rfl
@[simp] theorem State.drawn_staged (s : State) : (s.drawn).staged = s.staged := rfl
@[simp] theorem State.drawn_out (s : State) : (s.drawn).out = s.out := rfl
@[simp] theorem State.drawn_draws (s : State) : (s.drawn).draws = s.draws + 1 := rfl
@[simp] theorem State.drawn_traceLost (s : State) : (s.drawn).traceLost = s.traceLost := rfl
@[simp] theorem State.drawn_mem (s : State) : (s.drawn).mem = s.mem := rfl
@[simp] theorem State.drawn_staging (s : State) : (s.drawn).staging = s.staging := rfl
@[simp] theorem State.drawn_poison (s : State) : (s.drawn).poison = s.poison := rfl
@[simp] theorem State.drawn_cfgs (s : State) : (s.drawn).cfgs = s.cfgs := rfl
@[simp] theorem State.drawn_hosts (s : State) : (s.drawn).hosts = s.hosts := rfl
@[simp] theorem State.drawn_dlogs (s : State) : (s.drawn).dlogs = s.dlogs := rfl
@[simp] theorem State.drawn_rings (s : State) : (s.drawn).rings = s.rings := rfl
@[simp] theorem State.drawn_mac (s : State) : (s.drawn).mac = s.mac := rfl
@[simp] theorem State.drawn_tbl (s : State) : (s.drawn).tbl = s.tbl := rfl
@[simp] theorem State.drawn_prog (s : State) : (s.drawn).prog = s.prog := rfl
@[simp] theorem State.drawn_fx (s : State) : (s.drawn).fx = s.fx := rfl
@[simp] theorem State.drawn_tm (s : State) : (s.drawn).tm = s.tm := rfl
@[simp] theorem State.drawn_limits (s : State) : (s.drawn).limits = s.limits := rfl
@[simp] theorem State.drawn_faultsDue (s : State) : (s.drawn).faultsDue = s.faultsDue := rfl
@[simp] theorem State.drawn_ciph (s : State) : (s.drawn).ciph = s.ciph := rfl
@[simp] theorem State.drawn_stor (s : State) : (s.drawn).stor = s.stor := rfl
@[simp] theorem State.drawn_rma (s : State) : (s.drawn).rma = s.rma := rfl
@[simp] theorem State.drawn_time (s : State) : (s.drawn).time = s.time := rfl
@[simp] theorem State.drawn_led (s : State) : (s.drawn).led = s.led := rfl
@[simp] theorem State.drawn_cal (s : State) : (s.drawn).cal = s.cal := rfl
@[simp] theorem State.drawn_pkg (s : State) : (s.drawn).pkg = s.pkg := rfl
@[simp] theorem State.drawn_stc (s : State) : (s.drawn).stc = s.stc := rfl
@[simp] theorem State.drawn_sq (s : State) : (s.drawn).sq = s.sq := rfl
@[simp] theorem State.drawn_boot (s : State) : (s.drawn).boot = s.boot := rfl
@[simp] theorem State.drawn_tr (s : State) : (s.drawn).tr = s.tr := rfl
@[simp] theorem State.drawn_dbg (s : State) : (s.drawn).dbg = s.dbg := rfl
@[simp] theorem State.drawn_tap (s : State) : (s.drawn).tap = s.tap := rfl
@[simp] theorem State.drawn_ccr (s : State) : (s.drawn).ccr = s.ccr := rfl
@[simp] theorem State.drawn_harts (s : State) : (s.drawn).harts = s.harts := rfl
@[simp] theorem State.drawn_request (s : State) : (s.drawn).request = s.request := rfl
@[simp] theorem State.drawn_faultTimes (s : State) : (s.drawn).faultTimes = s.faultTimes := rfl
@[simp] theorem State.drawn_resetTimes (s : State) : (s.drawn).resetTimes = s.resetTimes := rfl
@[simp] theorem State.drawn_lateFaults (s : State) : (s.drawn).lateFaults = s.lateFaults := rfl

/-! ### setCfg -/

@[simp] theorem State.setCfg_pending (s : State) (fi : Nat) (c : FnCfg) : (s.setCfg fi c).pending = s.pending := rfl
@[simp] theorem State.setCfg_powered (s : State) (fi : Nat) (c : FnCfg) : (s.setCfg fi c).powered = s.powered := rfl
@[simp] theorem State.setCfg_regs (s : State) (fi : Nat) (c : FnCfg) : (s.setCfg fi c).regs = s.regs := rfl
@[simp] theorem State.setCfg_locks (s : State) (fi : Nat) (c : FnCfg) : (s.setCfg fi c).locks = s.locks := rfl
@[simp] theorem State.setCfg_latches (s : State) (fi : Nat) (c : FnCfg) : (s.setCfg fi c).latches = s.latches := rfl
@[simp] theorem State.setCfg_log (s : State) (fi : Nat) (c : FnCfg) : (s.setCfg fi c).log = s.log := rfl
@[simp] theorem State.setCfg_staged (s : State) (fi : Nat) (c : FnCfg) : (s.setCfg fi c).staged = s.staged := rfl
@[simp] theorem State.setCfg_out (s : State) (fi : Nat) (c : FnCfg) : (s.setCfg fi c).out = s.out := rfl
@[simp] theorem State.setCfg_draws (s : State) (fi : Nat) (c : FnCfg) : (s.setCfg fi c).draws = s.draws := rfl
@[simp] theorem State.setCfg_traceLost (s : State) (fi : Nat) (c : FnCfg) : (s.setCfg fi c).traceLost = s.traceLost := rfl
@[simp] theorem State.setCfg_mem (s : State) (fi : Nat) (c : FnCfg) : (s.setCfg fi c).mem = s.mem := rfl
@[simp] theorem State.setCfg_staging (s : State) (fi : Nat) (c : FnCfg) : (s.setCfg fi c).staging = s.staging := rfl
@[simp] theorem State.setCfg_poison (s : State) (fi : Nat) (c : FnCfg) : (s.setCfg fi c).poison = s.poison := rfl
@[simp] theorem State.setCfg_hosts (s : State) (fi : Nat) (c : FnCfg) : (s.setCfg fi c).hosts = s.hosts := rfl
@[simp] theorem State.setCfg_dlogs (s : State) (fi : Nat) (c : FnCfg) : (s.setCfg fi c).dlogs = s.dlogs := rfl
@[simp] theorem State.setCfg_rings (s : State) (fi : Nat) (c : FnCfg) : (s.setCfg fi c).rings = s.rings := rfl
@[simp] theorem State.setCfg_mac (s : State) (fi : Nat) (c : FnCfg) : (s.setCfg fi c).mac = s.mac := rfl
@[simp] theorem State.setCfg_tbl (s : State) (fi : Nat) (c : FnCfg) : (s.setCfg fi c).tbl = s.tbl := rfl
@[simp] theorem State.setCfg_prog (s : State) (fi : Nat) (c : FnCfg) : (s.setCfg fi c).prog = s.prog := rfl
@[simp] theorem State.setCfg_fx (s : State) (fi : Nat) (c : FnCfg) : (s.setCfg fi c).fx = s.fx := rfl
@[simp] theorem State.setCfg_tm (s : State) (fi : Nat) (c : FnCfg) : (s.setCfg fi c).tm = s.tm := rfl
@[simp] theorem State.setCfg_limits (s : State) (fi : Nat) (c : FnCfg) : (s.setCfg fi c).limits = s.limits := rfl
@[simp] theorem State.setCfg_faultsDue (s : State) (fi : Nat) (c : FnCfg) : (s.setCfg fi c).faultsDue = s.faultsDue := rfl
@[simp] theorem State.setCfg_ciph (s : State) (fi : Nat) (c : FnCfg) : (s.setCfg fi c).ciph = s.ciph := rfl
@[simp] theorem State.setCfg_stor (s : State) (fi : Nat) (c : FnCfg) : (s.setCfg fi c).stor = s.stor := rfl
@[simp] theorem State.setCfg_rma (s : State) (fi : Nat) (c : FnCfg) : (s.setCfg fi c).rma = s.rma := rfl
@[simp] theorem State.setCfg_time (s : State) (fi : Nat) (c : FnCfg) : (s.setCfg fi c).time = s.time := rfl
@[simp] theorem State.setCfg_led (s : State) (fi : Nat) (c : FnCfg) : (s.setCfg fi c).led = s.led := rfl
@[simp] theorem State.setCfg_cal (s : State) (fi : Nat) (c : FnCfg) : (s.setCfg fi c).cal = s.cal := rfl
@[simp] theorem State.setCfg_pkg (s : State) (fi : Nat) (c : FnCfg) : (s.setCfg fi c).pkg = s.pkg := rfl
@[simp] theorem State.setCfg_stc (s : State) (fi : Nat) (c : FnCfg) : (s.setCfg fi c).stc = s.stc := rfl
@[simp] theorem State.setCfg_sq (s : State) (fi : Nat) (c : FnCfg) : (s.setCfg fi c).sq = s.sq := rfl
@[simp] theorem State.setCfg_boot (s : State) (fi : Nat) (c : FnCfg) : (s.setCfg fi c).boot = s.boot := rfl
@[simp] theorem State.setCfg_tr (s : State) (fi : Nat) (c : FnCfg) : (s.setCfg fi c).tr = s.tr := rfl
@[simp] theorem State.setCfg_dbg (s : State) (fi : Nat) (c : FnCfg) : (s.setCfg fi c).dbg = s.dbg := rfl
@[simp] theorem State.setCfg_tap (s : State) (fi : Nat) (c : FnCfg) : (s.setCfg fi c).tap = s.tap := rfl
@[simp] theorem State.setCfg_ccr (s : State) (fi : Nat) (c : FnCfg) : (s.setCfg fi c).ccr = s.ccr := rfl
@[simp] theorem State.setCfg_harts (s : State) (fi : Nat) (c : FnCfg) : (s.setCfg fi c).harts = s.harts := rfl
@[simp] theorem State.setCfg_request (s : State) (fi : Nat) (c : FnCfg) : (s.setCfg fi c).request = s.request := rfl
@[simp] theorem State.setCfg_faultTimes (s : State) (fi : Nat) (c : FnCfg) : (s.setCfg fi c).faultTimes = s.faultTimes := rfl
@[simp] theorem State.setCfg_resetTimes (s : State) (fi : Nat) (c : FnCfg) : (s.setCfg fi c).resetTimes = s.resetTimes := rfl
@[simp] theorem State.setCfg_lateFaults (s : State) (fi : Nat) (c : FnCfg) : (s.setCfg fi c).lateFaults = s.lateFaults := rfl

/-! ### setRing -/

@[simp] theorem State.setRing_pending (s : State) (r : Nat) (x : RingSt) : (s.setRing r x).pending = s.pending := rfl
@[simp] theorem State.setRing_powered (s : State) (r : Nat) (x : RingSt) : (s.setRing r x).powered = s.powered := rfl
@[simp] theorem State.setRing_regs (s : State) (r : Nat) (x : RingSt) : (s.setRing r x).regs = s.regs := rfl
@[simp] theorem State.setRing_locks (s : State) (r : Nat) (x : RingSt) : (s.setRing r x).locks = s.locks := rfl
@[simp] theorem State.setRing_latches (s : State) (r : Nat) (x : RingSt) : (s.setRing r x).latches = s.latches := rfl
@[simp] theorem State.setRing_log (s : State) (r : Nat) (x : RingSt) : (s.setRing r x).log = s.log := rfl
@[simp] theorem State.setRing_staged (s : State) (r : Nat) (x : RingSt) : (s.setRing r x).staged = s.staged := rfl
@[simp] theorem State.setRing_out (s : State) (r : Nat) (x : RingSt) : (s.setRing r x).out = s.out := rfl
@[simp] theorem State.setRing_draws (s : State) (r : Nat) (x : RingSt) : (s.setRing r x).draws = s.draws := rfl
@[simp] theorem State.setRing_traceLost (s : State) (r : Nat) (x : RingSt) : (s.setRing r x).traceLost = s.traceLost := rfl
@[simp] theorem State.setRing_mem (s : State) (r : Nat) (x : RingSt) : (s.setRing r x).mem = s.mem := rfl
@[simp] theorem State.setRing_staging (s : State) (r : Nat) (x : RingSt) : (s.setRing r x).staging = s.staging := rfl
@[simp] theorem State.setRing_poison (s : State) (r : Nat) (x : RingSt) : (s.setRing r x).poison = s.poison := rfl
@[simp] theorem State.setRing_cfgs (s : State) (r : Nat) (x : RingSt) : (s.setRing r x).cfgs = s.cfgs := rfl
@[simp] theorem State.setRing_hosts (s : State) (r : Nat) (x : RingSt) : (s.setRing r x).hosts = s.hosts := rfl
@[simp] theorem State.setRing_dlogs (s : State) (r : Nat) (x : RingSt) : (s.setRing r x).dlogs = s.dlogs := rfl
@[simp] theorem State.setRing_mac (s : State) (r : Nat) (x : RingSt) : (s.setRing r x).mac = s.mac := rfl
@[simp] theorem State.setRing_tbl (s : State) (r : Nat) (x : RingSt) : (s.setRing r x).tbl = s.tbl := rfl
@[simp] theorem State.setRing_prog (s : State) (r : Nat) (x : RingSt) : (s.setRing r x).prog = s.prog := rfl
@[simp] theorem State.setRing_fx (s : State) (r : Nat) (x : RingSt) : (s.setRing r x).fx = s.fx := rfl
@[simp] theorem State.setRing_tm (s : State) (r : Nat) (x : RingSt) : (s.setRing r x).tm = s.tm := rfl
@[simp] theorem State.setRing_limits (s : State) (r : Nat) (x : RingSt) : (s.setRing r x).limits = s.limits := rfl
@[simp] theorem State.setRing_faultsDue (s : State) (r : Nat) (x : RingSt) : (s.setRing r x).faultsDue = s.faultsDue := rfl
@[simp] theorem State.setRing_ciph (s : State) (r : Nat) (x : RingSt) : (s.setRing r x).ciph = s.ciph := rfl
@[simp] theorem State.setRing_stor (s : State) (r : Nat) (x : RingSt) : (s.setRing r x).stor = s.stor := rfl
@[simp] theorem State.setRing_rma (s : State) (r : Nat) (x : RingSt) : (s.setRing r x).rma = s.rma := rfl
@[simp] theorem State.setRing_time (s : State) (r : Nat) (x : RingSt) : (s.setRing r x).time = s.time := rfl
@[simp] theorem State.setRing_led (s : State) (r : Nat) (x : RingSt) : (s.setRing r x).led = s.led := rfl
@[simp] theorem State.setRing_cal (s : State) (r : Nat) (x : RingSt) : (s.setRing r x).cal = s.cal := rfl
@[simp] theorem State.setRing_pkg (s : State) (r : Nat) (x : RingSt) : (s.setRing r x).pkg = s.pkg := rfl
@[simp] theorem State.setRing_stc (s : State) (r : Nat) (x : RingSt) : (s.setRing r x).stc = s.stc := rfl
@[simp] theorem State.setRing_sq (s : State) (r : Nat) (x : RingSt) : (s.setRing r x).sq = s.sq := rfl
@[simp] theorem State.setRing_boot (s : State) (r : Nat) (x : RingSt) : (s.setRing r x).boot = s.boot := rfl
@[simp] theorem State.setRing_tr (s : State) (r : Nat) (x : RingSt) : (s.setRing r x).tr = s.tr := rfl
@[simp] theorem State.setRing_dbg (s : State) (r : Nat) (x : RingSt) : (s.setRing r x).dbg = s.dbg := rfl
@[simp] theorem State.setRing_tap (s : State) (r : Nat) (x : RingSt) : (s.setRing r x).tap = s.tap := rfl
@[simp] theorem State.setRing_ccr (s : State) (r : Nat) (x : RingSt) : (s.setRing r x).ccr = s.ccr := rfl
@[simp] theorem State.setRing_harts (s : State) (r : Nat) (x : RingSt) : (s.setRing r x).harts = s.harts := rfl
@[simp] theorem State.setRing_request (s : State) (r : Nat) (x : RingSt) : (s.setRing r x).request = s.request := rfl
@[simp] theorem State.setRing_faultTimes (s : State) (r : Nat) (x : RingSt) : (s.setRing r x).faultTimes = s.faultTimes := rfl
@[simp] theorem State.setRing_resetTimes (s : State) (r : Nat) (x : RingSt) : (s.setRing r x).resetTimes = s.resetTimes := rfl
@[simp] theorem State.setRing_lateFaults (s : State) (r : Nat) (x : RingSt) : (s.setRing r x).lateFaults = s.lateFaults := rfl

/-! ### memWrite -/

@[simp] theorem State.memWrite_pending (s : State) (a : Nat) (bs : List Byte) : (s.memWrite a bs).pending = s.pending := rfl
@[simp] theorem State.memWrite_powered (s : State) (a : Nat) (bs : List Byte) : (s.memWrite a bs).powered = s.powered := rfl
@[simp] theorem State.memWrite_regs (s : State) (a : Nat) (bs : List Byte) : (s.memWrite a bs).regs = s.regs := rfl
@[simp] theorem State.memWrite_locks (s : State) (a : Nat) (bs : List Byte) : (s.memWrite a bs).locks = s.locks := rfl
@[simp] theorem State.memWrite_latches (s : State) (a : Nat) (bs : List Byte) : (s.memWrite a bs).latches = s.latches := rfl
@[simp] theorem State.memWrite_log (s : State) (a : Nat) (bs : List Byte) : (s.memWrite a bs).log = s.log := rfl
@[simp] theorem State.memWrite_staged (s : State) (a : Nat) (bs : List Byte) : (s.memWrite a bs).staged = s.staged := rfl
@[simp] theorem State.memWrite_out (s : State) (a : Nat) (bs : List Byte) : (s.memWrite a bs).out = s.out := rfl
@[simp] theorem State.memWrite_draws (s : State) (a : Nat) (bs : List Byte) : (s.memWrite a bs).draws = s.draws := rfl
@[simp] theorem State.memWrite_traceLost (s : State) (a : Nat) (bs : List Byte) : (s.memWrite a bs).traceLost = s.traceLost := rfl
@[simp] theorem State.memWrite_mem (s : State) (a : Nat) (bs : List Byte) : (s.memWrite a bs).mem = cellsWrite s.mem a bs := rfl
@[simp] theorem State.memWrite_staging (s : State) (a : Nat) (bs : List Byte) : (s.memWrite a bs).staging = s.staging := rfl
@[simp] theorem State.memWrite_cfgs (s : State) (a : Nat) (bs : List Byte) : (s.memWrite a bs).cfgs = s.cfgs := rfl
@[simp] theorem State.memWrite_hosts (s : State) (a : Nat) (bs : List Byte) : (s.memWrite a bs).hosts = s.hosts := rfl
@[simp] theorem State.memWrite_dlogs (s : State) (a : Nat) (bs : List Byte) : (s.memWrite a bs).dlogs = s.dlogs := rfl
@[simp] theorem State.memWrite_rings (s : State) (a : Nat) (bs : List Byte) : (s.memWrite a bs).rings = s.rings := rfl
@[simp] theorem State.memWrite_mac (s : State) (a : Nat) (bs : List Byte) : (s.memWrite a bs).mac = s.mac := rfl
@[simp] theorem State.memWrite_tbl (s : State) (a : Nat) (bs : List Byte) : (s.memWrite a bs).tbl = s.tbl := rfl
@[simp] theorem State.memWrite_prog (s : State) (a : Nat) (bs : List Byte) : (s.memWrite a bs).prog = s.prog := rfl
@[simp] theorem State.memWrite_fx (s : State) (a : Nat) (bs : List Byte) : (s.memWrite a bs).fx = s.fx := rfl
@[simp] theorem State.memWrite_tm (s : State) (a : Nat) (bs : List Byte) : (s.memWrite a bs).tm = s.tm := rfl
@[simp] theorem State.memWrite_limits (s : State) (a : Nat) (bs : List Byte) : (s.memWrite a bs).limits = s.limits := rfl
@[simp] theorem State.memWrite_faultsDue (s : State) (a : Nat) (bs : List Byte) : (s.memWrite a bs).faultsDue = s.faultsDue := rfl
@[simp] theorem State.memWrite_ciph (s : State) (a : Nat) (bs : List Byte) : (s.memWrite a bs).ciph = s.ciph := rfl
@[simp] theorem State.memWrite_stor (s : State) (a : Nat) (bs : List Byte) : (s.memWrite a bs).stor = s.stor := rfl
@[simp] theorem State.memWrite_rma (s : State) (a : Nat) (bs : List Byte) : (s.memWrite a bs).rma = s.rma := rfl
@[simp] theorem State.memWrite_time (s : State) (a : Nat) (bs : List Byte) : (s.memWrite a bs).time = s.time := rfl
@[simp] theorem State.memWrite_led (s : State) (a : Nat) (bs : List Byte) : (s.memWrite a bs).led = s.led := rfl
@[simp] theorem State.memWrite_cal (s : State) (a : Nat) (bs : List Byte) : (s.memWrite a bs).cal = s.cal := rfl
@[simp] theorem State.memWrite_pkg (s : State) (a : Nat) (bs : List Byte) : (s.memWrite a bs).pkg = s.pkg := rfl
@[simp] theorem State.memWrite_stc (s : State) (a : Nat) (bs : List Byte) : (s.memWrite a bs).stc = s.stc := rfl
@[simp] theorem State.memWrite_sq (s : State) (a : Nat) (bs : List Byte) : (s.memWrite a bs).sq = s.sq := rfl
@[simp] theorem State.memWrite_boot (s : State) (a : Nat) (bs : List Byte) : (s.memWrite a bs).boot = s.boot := rfl
@[simp] theorem State.memWrite_tr (s : State) (a : Nat) (bs : List Byte) : (s.memWrite a bs).tr = s.tr := rfl
@[simp] theorem State.memWrite_dbg (s : State) (a : Nat) (bs : List Byte) : (s.memWrite a bs).dbg = s.dbg := rfl
@[simp] theorem State.memWrite_tap (s : State) (a : Nat) (bs : List Byte) : (s.memWrite a bs).tap = s.tap := rfl
@[simp] theorem State.memWrite_ccr (s : State) (a : Nat) (bs : List Byte) : (s.memWrite a bs).ccr = s.ccr := rfl
@[simp] theorem State.memWrite_harts (s : State) (a : Nat) (bs : List Byte) : (s.memWrite a bs).harts = s.harts := rfl
@[simp] theorem State.memWrite_request (s : State) (a : Nat) (bs : List Byte) : (s.memWrite a bs).request = s.request := rfl
@[simp] theorem State.memWrite_faultTimes (s : State) (a : Nat) (bs : List Byte) : (s.memWrite a bs).faultTimes = s.faultTimes := rfl
@[simp] theorem State.memWrite_resetTimes (s : State) (a : Nat) (bs : List Byte) : (s.memWrite a bs).resetTimes = s.resetTimes := rfl
@[simp] theorem State.memWrite_lateFaults (s : State) (a : Nat) (bs : List Byte) : (s.memWrite a bs).lateFaults = s.lateFaults := rfl

/-! ### stage -/

@[simp] theorem State.stage_pending (s : State) (ring rtype low : Nat) (words : List Nat) : (s.stage ring rtype low words).pending = s.pending := rfl
@[simp] theorem State.stage_powered (s : State) (ring rtype low : Nat) (words : List Nat) : (s.stage ring rtype low words).powered = s.powered := rfl
@[simp] theorem State.stage_regs (s : State) (ring rtype low : Nat) (words : List Nat) : (s.stage ring rtype low words).regs = s.regs := rfl
@[simp] theorem State.stage_locks (s : State) (ring rtype low : Nat) (words : List Nat) : (s.stage ring rtype low words).locks = s.locks := rfl
@[simp] theorem State.stage_latches (s : State) (ring rtype low : Nat) (words : List Nat) : (s.stage ring rtype low words).latches = s.latches := rfl
@[simp] theorem State.stage_log (s : State) (ring rtype low : Nat) (words : List Nat) : (s.stage ring rtype low words).log = s.log := rfl
@[simp] theorem State.stage_out (s : State) (ring rtype low : Nat) (words : List Nat) : (s.stage ring rtype low words).out = s.out := rfl
@[simp] theorem State.stage_draws (s : State) (ring rtype low : Nat) (words : List Nat) : (s.stage ring rtype low words).draws = s.draws := rfl
@[simp] theorem State.stage_traceLost (s : State) (ring rtype low : Nat) (words : List Nat) : (s.stage ring rtype low words).traceLost = s.traceLost := rfl
@[simp] theorem State.stage_mem (s : State) (ring rtype low : Nat) (words : List Nat) : (s.stage ring rtype low words).mem = s.mem := rfl
@[simp] theorem State.stage_staging (s : State) (ring rtype low : Nat) (words : List Nat) : (s.stage ring rtype low words).staging = s.staging := rfl
@[simp] theorem State.stage_poison (s : State) (ring rtype low : Nat) (words : List Nat) : (s.stage ring rtype low words).poison = s.poison := rfl
@[simp] theorem State.stage_cfgs (s : State) (ring rtype low : Nat) (words : List Nat) : (s.stage ring rtype low words).cfgs = s.cfgs := rfl
@[simp] theorem State.stage_hosts (s : State) (ring rtype low : Nat) (words : List Nat) : (s.stage ring rtype low words).hosts = s.hosts := rfl
@[simp] theorem State.stage_dlogs (s : State) (ring rtype low : Nat) (words : List Nat) : (s.stage ring rtype low words).dlogs = s.dlogs := rfl
@[simp] theorem State.stage_rings (s : State) (ring rtype low : Nat) (words : List Nat) : (s.stage ring rtype low words).rings = s.rings := rfl
@[simp] theorem State.stage_mac (s : State) (ring rtype low : Nat) (words : List Nat) : (s.stage ring rtype low words).mac = s.mac := rfl
@[simp] theorem State.stage_tbl (s : State) (ring rtype low : Nat) (words : List Nat) : (s.stage ring rtype low words).tbl = s.tbl := rfl
@[simp] theorem State.stage_prog (s : State) (ring rtype low : Nat) (words : List Nat) : (s.stage ring rtype low words).prog = s.prog := rfl
@[simp] theorem State.stage_fx (s : State) (ring rtype low : Nat) (words : List Nat) : (s.stage ring rtype low words).fx = s.fx := rfl
@[simp] theorem State.stage_tm (s : State) (ring rtype low : Nat) (words : List Nat) : (s.stage ring rtype low words).tm = s.tm := rfl
@[simp] theorem State.stage_limits (s : State) (ring rtype low : Nat) (words : List Nat) : (s.stage ring rtype low words).limits = s.limits := rfl
@[simp] theorem State.stage_faultsDue (s : State) (ring rtype low : Nat) (words : List Nat) : (s.stage ring rtype low words).faultsDue = s.faultsDue := rfl
@[simp] theorem State.stage_ciph (s : State) (ring rtype low : Nat) (words : List Nat) : (s.stage ring rtype low words).ciph = s.ciph := rfl
@[simp] theorem State.stage_stor (s : State) (ring rtype low : Nat) (words : List Nat) : (s.stage ring rtype low words).stor = s.stor := rfl
@[simp] theorem State.stage_rma (s : State) (ring rtype low : Nat) (words : List Nat) : (s.stage ring rtype low words).rma = s.rma := rfl
@[simp] theorem State.stage_time (s : State) (ring rtype low : Nat) (words : List Nat) : (s.stage ring rtype low words).time = s.time := rfl
@[simp] theorem State.stage_led (s : State) (ring rtype low : Nat) (words : List Nat) : (s.stage ring rtype low words).led = s.led := rfl
@[simp] theorem State.stage_cal (s : State) (ring rtype low : Nat) (words : List Nat) : (s.stage ring rtype low words).cal = s.cal := rfl
@[simp] theorem State.stage_pkg (s : State) (ring rtype low : Nat) (words : List Nat) : (s.stage ring rtype low words).pkg = s.pkg := rfl
@[simp] theorem State.stage_stc (s : State) (ring rtype low : Nat) (words : List Nat) : (s.stage ring rtype low words).stc = s.stc := rfl
@[simp] theorem State.stage_sq (s : State) (ring rtype low : Nat) (words : List Nat) : (s.stage ring rtype low words).sq = s.sq := rfl
@[simp] theorem State.stage_boot (s : State) (ring rtype low : Nat) (words : List Nat) : (s.stage ring rtype low words).boot = s.boot := rfl
@[simp] theorem State.stage_tr (s : State) (ring rtype low : Nat) (words : List Nat) : (s.stage ring rtype low words).tr = s.tr := rfl
@[simp] theorem State.stage_dbg (s : State) (ring rtype low : Nat) (words : List Nat) : (s.stage ring rtype low words).dbg = s.dbg := rfl
@[simp] theorem State.stage_tap (s : State) (ring rtype low : Nat) (words : List Nat) : (s.stage ring rtype low words).tap = s.tap := rfl
@[simp] theorem State.stage_ccr (s : State) (ring rtype low : Nat) (words : List Nat) : (s.stage ring rtype low words).ccr = s.ccr := rfl
@[simp] theorem State.stage_harts (s : State) (ring rtype low : Nat) (words : List Nat) : (s.stage ring rtype low words).harts = s.harts := rfl
@[simp] theorem State.stage_request (s : State) (ring rtype low : Nat) (words : List Nat) : (s.stage ring rtype low words).request = s.request := rfl
@[simp] theorem State.stage_faultTimes (s : State) (ring rtype low : Nat) (words : List Nat) : (s.stage ring rtype low words).faultTimes = s.faultTimes := rfl
@[simp] theorem State.stage_resetTimes (s : State) (ring rtype low : Nat) (words : List Nat) : (s.stage ring rtype low words).resetTimes = s.resetTimes := rfl
@[simp] theorem State.stage_lateFaults (s : State) (ring rtype low : Nat) (words : List Nat) : (s.stage ring rtype low words).lateFaults = s.lateFaults := rfl

/-! ### withPending -/

@[simp] theorem State.withPending_pending (s : State) (x : List Instr) : (s.withPending x).pending = x := rfl
@[simp] theorem State.withPending_powered (s : State) (x : List Instr) : (s.withPending x).powered = s.powered := rfl
@[simp] theorem State.withPending_regs (s : State) (x : List Instr) : (s.withPending x).regs = s.regs := rfl
@[simp] theorem State.withPending_locks (s : State) (x : List Instr) : (s.withPending x).locks = s.locks := rfl
@[simp] theorem State.withPending_latches (s : State) (x : List Instr) : (s.withPending x).latches = s.latches := rfl
@[simp] theorem State.withPending_log (s : State) (x : List Instr) : (s.withPending x).log = s.log := rfl
@[simp] theorem State.withPending_staged (s : State) (x : List Instr) : (s.withPending x).staged = s.staged := rfl
@[simp] theorem State.withPending_out (s : State) (x : List Instr) : (s.withPending x).out = s.out := rfl
@[simp] theorem State.withPending_draws (s : State) (x : List Instr) : (s.withPending x).draws = s.draws := rfl
@[simp] theorem State.withPending_traceLost (s : State) (x : List Instr) : (s.withPending x).traceLost = s.traceLost := rfl
@[simp] theorem State.withPending_mem (s : State) (x : List Instr) : (s.withPending x).mem = s.mem := rfl
@[simp] theorem State.withPending_staging (s : State) (x : List Instr) : (s.withPending x).staging = s.staging := rfl
@[simp] theorem State.withPending_poison (s : State) (x : List Instr) : (s.withPending x).poison = s.poison := rfl
@[simp] theorem State.withPending_cfgs (s : State) (x : List Instr) : (s.withPending x).cfgs = s.cfgs := rfl
@[simp] theorem State.withPending_hosts (s : State) (x : List Instr) : (s.withPending x).hosts = s.hosts := rfl
@[simp] theorem State.withPending_dlogs (s : State) (x : List Instr) : (s.withPending x).dlogs = s.dlogs := rfl
@[simp] theorem State.withPending_rings (s : State) (x : List Instr) : (s.withPending x).rings = s.rings := rfl
@[simp] theorem State.withPending_mac (s : State) (x : List Instr) : (s.withPending x).mac = s.mac := rfl
@[simp] theorem State.withPending_tbl (s : State) (x : List Instr) : (s.withPending x).tbl = s.tbl := rfl
@[simp] theorem State.withPending_prog (s : State) (x : List Instr) : (s.withPending x).prog = s.prog := rfl
@[simp] theorem State.withPending_fx (s : State) (x : List Instr) : (s.withPending x).fx = s.fx := rfl
@[simp] theorem State.withPending_tm (s : State) (x : List Instr) : (s.withPending x).tm = s.tm := rfl
@[simp] theorem State.withPending_limits (s : State) (x : List Instr) : (s.withPending x).limits = s.limits := rfl
@[simp] theorem State.withPending_faultsDue (s : State) (x : List Instr) : (s.withPending x).faultsDue = s.faultsDue := rfl
@[simp] theorem State.withPending_ciph (s : State) (x : List Instr) : (s.withPending x).ciph = s.ciph := rfl
@[simp] theorem State.withPending_stor (s : State) (x : List Instr) : (s.withPending x).stor = s.stor := rfl
@[simp] theorem State.withPending_rma (s : State) (x : List Instr) : (s.withPending x).rma = s.rma := rfl
@[simp] theorem State.withPending_time (s : State) (x : List Instr) : (s.withPending x).time = s.time := rfl
@[simp] theorem State.withPending_led (s : State) (x : List Instr) : (s.withPending x).led = s.led := rfl
@[simp] theorem State.withPending_cal (s : State) (x : List Instr) : (s.withPending x).cal = s.cal := rfl
@[simp] theorem State.withPending_pkg (s : State) (x : List Instr) : (s.withPending x).pkg = s.pkg := rfl
@[simp] theorem State.withPending_stc (s : State) (x : List Instr) : (s.withPending x).stc = s.stc := rfl
@[simp] theorem State.withPending_sq (s : State) (x : List Instr) : (s.withPending x).sq = s.sq := rfl
@[simp] theorem State.withPending_boot (s : State) (x : List Instr) : (s.withPending x).boot = s.boot := rfl
@[simp] theorem State.withPending_tr (s : State) (x : List Instr) : (s.withPending x).tr = s.tr := rfl
@[simp] theorem State.withPending_dbg (s : State) (x : List Instr) : (s.withPending x).dbg = s.dbg := rfl
@[simp] theorem State.withPending_tap (s : State) (x : List Instr) : (s.withPending x).tap = s.tap := rfl
@[simp] theorem State.withPending_ccr (s : State) (x : List Instr) : (s.withPending x).ccr = s.ccr := rfl
@[simp] theorem State.withPending_harts (s : State) (x : List Instr) : (s.withPending x).harts = s.harts := rfl
@[simp] theorem State.withPending_request (s : State) (x : List Instr) : (s.withPending x).request = s.request := rfl
@[simp] theorem State.withPending_faultTimes (s : State) (x : List Instr) : (s.withPending x).faultTimes = s.faultTimes := rfl
@[simp] theorem State.withPending_resetTimes (s : State) (x : List Instr) : (s.withPending x).resetTimes = s.resetTimes := rfl
@[simp] theorem State.withPending_lateFaults (s : State) (x : List Instr) : (s.withPending x).lateFaults = s.lateFaults := rfl

/-! ### withPowered -/

@[simp] theorem State.withPowered_pending (s : State) (x : Bool) : (s.withPowered x).pending = s.pending := rfl
@[simp] theorem State.withPowered_powered (s : State) (x : Bool) : (s.withPowered x).powered = x := rfl
@[simp] theorem State.withPowered_regs (s : State) (x : Bool) : (s.withPowered x).regs = s.regs := rfl
@[simp] theorem State.withPowered_locks (s : State) (x : Bool) : (s.withPowered x).locks = s.locks := rfl
@[simp] theorem State.withPowered_latches (s : State) (x : Bool) : (s.withPowered x).latches = s.latches := rfl
@[simp] theorem State.withPowered_log (s : State) (x : Bool) : (s.withPowered x).log = s.log := rfl
@[simp] theorem State.withPowered_staged (s : State) (x : Bool) : (s.withPowered x).staged = s.staged := rfl
@[simp] theorem State.withPowered_out (s : State) (x : Bool) : (s.withPowered x).out = s.out := rfl
@[simp] theorem State.withPowered_draws (s : State) (x : Bool) : (s.withPowered x).draws = s.draws := rfl
@[simp] theorem State.withPowered_traceLost (s : State) (x : Bool) : (s.withPowered x).traceLost = s.traceLost := rfl
@[simp] theorem State.withPowered_mem (s : State) (x : Bool) : (s.withPowered x).mem = s.mem := rfl
@[simp] theorem State.withPowered_staging (s : State) (x : Bool) : (s.withPowered x).staging = s.staging := rfl
@[simp] theorem State.withPowered_poison (s : State) (x : Bool) : (s.withPowered x).poison = s.poison := rfl
@[simp] theorem State.withPowered_cfgs (s : State) (x : Bool) : (s.withPowered x).cfgs = s.cfgs := rfl
@[simp] theorem State.withPowered_hosts (s : State) (x : Bool) : (s.withPowered x).hosts = s.hosts := rfl
@[simp] theorem State.withPowered_dlogs (s : State) (x : Bool) : (s.withPowered x).dlogs = s.dlogs := rfl
@[simp] theorem State.withPowered_rings (s : State) (x : Bool) : (s.withPowered x).rings = s.rings := rfl
@[simp] theorem State.withPowered_mac (s : State) (x : Bool) : (s.withPowered x).mac = s.mac := rfl
@[simp] theorem State.withPowered_tbl (s : State) (x : Bool) : (s.withPowered x).tbl = s.tbl := rfl
@[simp] theorem State.withPowered_prog (s : State) (x : Bool) : (s.withPowered x).prog = s.prog := rfl
@[simp] theorem State.withPowered_fx (s : State) (x : Bool) : (s.withPowered x).fx = s.fx := rfl
@[simp] theorem State.withPowered_tm (s : State) (x : Bool) : (s.withPowered x).tm = s.tm := rfl
@[simp] theorem State.withPowered_limits (s : State) (x : Bool) : (s.withPowered x).limits = s.limits := rfl
@[simp] theorem State.withPowered_faultsDue (s : State) (x : Bool) : (s.withPowered x).faultsDue = s.faultsDue := rfl
@[simp] theorem State.withPowered_ciph (s : State) (x : Bool) : (s.withPowered x).ciph = s.ciph := rfl
@[simp] theorem State.withPowered_stor (s : State) (x : Bool) : (s.withPowered x).stor = s.stor := rfl
@[simp] theorem State.withPowered_rma (s : State) (x : Bool) : (s.withPowered x).rma = s.rma := rfl
@[simp] theorem State.withPowered_time (s : State) (x : Bool) : (s.withPowered x).time = s.time := rfl
@[simp] theorem State.withPowered_led (s : State) (x : Bool) : (s.withPowered x).led = s.led := rfl
@[simp] theorem State.withPowered_cal (s : State) (x : Bool) : (s.withPowered x).cal = s.cal := rfl
@[simp] theorem State.withPowered_pkg (s : State) (x : Bool) : (s.withPowered x).pkg = s.pkg := rfl
@[simp] theorem State.withPowered_stc (s : State) (x : Bool) : (s.withPowered x).stc = s.stc := rfl
@[simp] theorem State.withPowered_sq (s : State) (x : Bool) : (s.withPowered x).sq = s.sq := rfl
@[simp] theorem State.withPowered_boot (s : State) (x : Bool) : (s.withPowered x).boot = s.boot := rfl
@[simp] theorem State.withPowered_tr (s : State) (x : Bool) : (s.withPowered x).tr = s.tr := rfl
@[simp] theorem State.withPowered_dbg (s : State) (x : Bool) : (s.withPowered x).dbg = s.dbg := rfl
@[simp] theorem State.withPowered_tap (s : State) (x : Bool) : (s.withPowered x).tap = s.tap := rfl
@[simp] theorem State.withPowered_ccr (s : State) (x : Bool) : (s.withPowered x).ccr = s.ccr := rfl
@[simp] theorem State.withPowered_harts (s : State) (x : Bool) : (s.withPowered x).harts = s.harts := rfl
@[simp] theorem State.withPowered_request (s : State) (x : Bool) : (s.withPowered x).request = s.request := rfl
@[simp] theorem State.withPowered_faultTimes (s : State) (x : Bool) : (s.withPowered x).faultTimes = s.faultTimes := rfl
@[simp] theorem State.withPowered_resetTimes (s : State) (x : Bool) : (s.withPowered x).resetTimes = s.resetTimes := rfl
@[simp] theorem State.withPowered_lateFaults (s : State) (x : Bool) : (s.withPowered x).lateFaults = s.lateFaults := rfl

/-! ### withRegs -/

@[simp] theorem State.withRegs_pending (s : State) (x : Map (Map Nat)) : (s.withRegs x).pending = s.pending := rfl
@[simp] theorem State.withRegs_powered (s : State) (x : Map (Map Nat)) : (s.withRegs x).powered = s.powered := rfl
@[simp] theorem State.withRegs_regs (s : State) (x : Map (Map Nat)) : (s.withRegs x).regs = x := rfl
@[simp] theorem State.withRegs_locks (s : State) (x : Map (Map Nat)) : (s.withRegs x).locks = s.locks := rfl
@[simp] theorem State.withRegs_latches (s : State) (x : Map (Map Nat)) : (s.withRegs x).latches = s.latches := rfl
@[simp] theorem State.withRegs_log (s : State) (x : Map (Map Nat)) : (s.withRegs x).log = s.log := rfl
@[simp] theorem State.withRegs_staged (s : State) (x : Map (Map Nat)) : (s.withRegs x).staged = s.staged := rfl
@[simp] theorem State.withRegs_out (s : State) (x : Map (Map Nat)) : (s.withRegs x).out = s.out := rfl
@[simp] theorem State.withRegs_draws (s : State) (x : Map (Map Nat)) : (s.withRegs x).draws = s.draws := rfl
@[simp] theorem State.withRegs_traceLost (s : State) (x : Map (Map Nat)) : (s.withRegs x).traceLost = s.traceLost := rfl
@[simp] theorem State.withRegs_mem (s : State) (x : Map (Map Nat)) : (s.withRegs x).mem = s.mem := rfl
@[simp] theorem State.withRegs_staging (s : State) (x : Map (Map Nat)) : (s.withRegs x).staging = s.staging := rfl
@[simp] theorem State.withRegs_poison (s : State) (x : Map (Map Nat)) : (s.withRegs x).poison = s.poison := rfl
@[simp] theorem State.withRegs_cfgs (s : State) (x : Map (Map Nat)) : (s.withRegs x).cfgs = s.cfgs := rfl
@[simp] theorem State.withRegs_hosts (s : State) (x : Map (Map Nat)) : (s.withRegs x).hosts = s.hosts := rfl
@[simp] theorem State.withRegs_dlogs (s : State) (x : Map (Map Nat)) : (s.withRegs x).dlogs = s.dlogs := rfl
@[simp] theorem State.withRegs_rings (s : State) (x : Map (Map Nat)) : (s.withRegs x).rings = s.rings := rfl
@[simp] theorem State.withRegs_mac (s : State) (x : Map (Map Nat)) : (s.withRegs x).mac = s.mac := rfl
@[simp] theorem State.withRegs_tbl (s : State) (x : Map (Map Nat)) : (s.withRegs x).tbl = s.tbl := rfl
@[simp] theorem State.withRegs_prog (s : State) (x : Map (Map Nat)) : (s.withRegs x).prog = s.prog := rfl
@[simp] theorem State.withRegs_fx (s : State) (x : Map (Map Nat)) : (s.withRegs x).fx = s.fx := rfl
@[simp] theorem State.withRegs_tm (s : State) (x : Map (Map Nat)) : (s.withRegs x).tm = s.tm := rfl
@[simp] theorem State.withRegs_limits (s : State) (x : Map (Map Nat)) : (s.withRegs x).limits = s.limits := rfl
@[simp] theorem State.withRegs_faultsDue (s : State) (x : Map (Map Nat)) : (s.withRegs x).faultsDue = s.faultsDue := rfl
@[simp] theorem State.withRegs_ciph (s : State) (x : Map (Map Nat)) : (s.withRegs x).ciph = s.ciph := rfl
@[simp] theorem State.withRegs_stor (s : State) (x : Map (Map Nat)) : (s.withRegs x).stor = s.stor := rfl
@[simp] theorem State.withRegs_rma (s : State) (x : Map (Map Nat)) : (s.withRegs x).rma = s.rma := rfl
@[simp] theorem State.withRegs_time (s : State) (x : Map (Map Nat)) : (s.withRegs x).time = s.time := rfl
@[simp] theorem State.withRegs_led (s : State) (x : Map (Map Nat)) : (s.withRegs x).led = s.led := rfl
@[simp] theorem State.withRegs_cal (s : State) (x : Map (Map Nat)) : (s.withRegs x).cal = s.cal := rfl
@[simp] theorem State.withRegs_pkg (s : State) (x : Map (Map Nat)) : (s.withRegs x).pkg = s.pkg := rfl
@[simp] theorem State.withRegs_stc (s : State) (x : Map (Map Nat)) : (s.withRegs x).stc = s.stc := rfl
@[simp] theorem State.withRegs_sq (s : State) (x : Map (Map Nat)) : (s.withRegs x).sq = s.sq := rfl
@[simp] theorem State.withRegs_boot (s : State) (x : Map (Map Nat)) : (s.withRegs x).boot = s.boot := rfl
@[simp] theorem State.withRegs_tr (s : State) (x : Map (Map Nat)) : (s.withRegs x).tr = s.tr := rfl
@[simp] theorem State.withRegs_dbg (s : State) (x : Map (Map Nat)) : (s.withRegs x).dbg = s.dbg := rfl
@[simp] theorem State.withRegs_tap (s : State) (x : Map (Map Nat)) : (s.withRegs x).tap = s.tap := rfl
@[simp] theorem State.withRegs_ccr (s : State) (x : Map (Map Nat)) : (s.withRegs x).ccr = s.ccr := rfl
@[simp] theorem State.withRegs_harts (s : State) (x : Map (Map Nat)) : (s.withRegs x).harts = s.harts := rfl
@[simp] theorem State.withRegs_request (s : State) (x : Map (Map Nat)) : (s.withRegs x).request = s.request := rfl
@[simp] theorem State.withRegs_faultTimes (s : State) (x : Map (Map Nat)) : (s.withRegs x).faultTimes = s.faultTimes := rfl
@[simp] theorem State.withRegs_resetTimes (s : State) (x : Map (Map Nat)) : (s.withRegs x).resetTimes = s.resetTimes := rfl
@[simp] theorem State.withRegs_lateFaults (s : State) (x : Map (Map Nat)) : (s.withRegs x).lateFaults = s.lateFaults := rfl

/-! ### withLocks -/

@[simp] theorem State.withLocks_pending (s : State) (x : Map Bool) : (s.withLocks x).pending = s.pending := rfl
@[simp] theorem State.withLocks_powered (s : State) (x : Map Bool) : (s.withLocks x).powered = s.powered := rfl
@[simp] theorem State.withLocks_regs (s : State) (x : Map Bool) : (s.withLocks x).regs = s.regs := rfl
@[simp] theorem State.withLocks_locks (s : State) (x : Map Bool) : (s.withLocks x).locks = x := rfl
@[simp] theorem State.withLocks_latches (s : State) (x : Map Bool) : (s.withLocks x).latches = s.latches := rfl
@[simp] theorem State.withLocks_log (s : State) (x : Map Bool) : (s.withLocks x).log = s.log := rfl
@[simp] theorem State.withLocks_staged (s : State) (x : Map Bool) : (s.withLocks x).staged = s.staged := rfl
@[simp] theorem State.withLocks_out (s : State) (x : Map Bool) : (s.withLocks x).out = s.out := rfl
@[simp] theorem State.withLocks_draws (s : State) (x : Map Bool) : (s.withLocks x).draws = s.draws := rfl
@[simp] theorem State.withLocks_traceLost (s : State) (x : Map Bool) : (s.withLocks x).traceLost = s.traceLost := rfl
@[simp] theorem State.withLocks_mem (s : State) (x : Map Bool) : (s.withLocks x).mem = s.mem := rfl
@[simp] theorem State.withLocks_staging (s : State) (x : Map Bool) : (s.withLocks x).staging = s.staging := rfl
@[simp] theorem State.withLocks_poison (s : State) (x : Map Bool) : (s.withLocks x).poison = s.poison := rfl
@[simp] theorem State.withLocks_cfgs (s : State) (x : Map Bool) : (s.withLocks x).cfgs = s.cfgs := rfl
@[simp] theorem State.withLocks_hosts (s : State) (x : Map Bool) : (s.withLocks x).hosts = s.hosts := rfl
@[simp] theorem State.withLocks_dlogs (s : State) (x : Map Bool) : (s.withLocks x).dlogs = s.dlogs := rfl
@[simp] theorem State.withLocks_rings (s : State) (x : Map Bool) : (s.withLocks x).rings = s.rings := rfl
@[simp] theorem State.withLocks_mac (s : State) (x : Map Bool) : (s.withLocks x).mac = s.mac := rfl
@[simp] theorem State.withLocks_tbl (s : State) (x : Map Bool) : (s.withLocks x).tbl = s.tbl := rfl
@[simp] theorem State.withLocks_prog (s : State) (x : Map Bool) : (s.withLocks x).prog = s.prog := rfl
@[simp] theorem State.withLocks_fx (s : State) (x : Map Bool) : (s.withLocks x).fx = s.fx := rfl
@[simp] theorem State.withLocks_tm (s : State) (x : Map Bool) : (s.withLocks x).tm = s.tm := rfl
@[simp] theorem State.withLocks_limits (s : State) (x : Map Bool) : (s.withLocks x).limits = s.limits := rfl
@[simp] theorem State.withLocks_faultsDue (s : State) (x : Map Bool) : (s.withLocks x).faultsDue = s.faultsDue := rfl
@[simp] theorem State.withLocks_ciph (s : State) (x : Map Bool) : (s.withLocks x).ciph = s.ciph := rfl
@[simp] theorem State.withLocks_stor (s : State) (x : Map Bool) : (s.withLocks x).stor = s.stor := rfl
@[simp] theorem State.withLocks_rma (s : State) (x : Map Bool) : (s.withLocks x).rma = s.rma := rfl
@[simp] theorem State.withLocks_time (s : State) (x : Map Bool) : (s.withLocks x).time = s.time := rfl
@[simp] theorem State.withLocks_led (s : State) (x : Map Bool) : (s.withLocks x).led = s.led := rfl
@[simp] theorem State.withLocks_cal (s : State) (x : Map Bool) : (s.withLocks x).cal = s.cal := rfl
@[simp] theorem State.withLocks_pkg (s : State) (x : Map Bool) : (s.withLocks x).pkg = s.pkg := rfl
@[simp] theorem State.withLocks_stc (s : State) (x : Map Bool) : (s.withLocks x).stc = s.stc := rfl
@[simp] theorem State.withLocks_sq (s : State) (x : Map Bool) : (s.withLocks x).sq = s.sq := rfl
@[simp] theorem State.withLocks_boot (s : State) (x : Map Bool) : (s.withLocks x).boot = s.boot := rfl
@[simp] theorem State.withLocks_tr (s : State) (x : Map Bool) : (s.withLocks x).tr = s.tr := rfl
@[simp] theorem State.withLocks_dbg (s : State) (x : Map Bool) : (s.withLocks x).dbg = s.dbg := rfl
@[simp] theorem State.withLocks_tap (s : State) (x : Map Bool) : (s.withLocks x).tap = s.tap := rfl
@[simp] theorem State.withLocks_ccr (s : State) (x : Map Bool) : (s.withLocks x).ccr = s.ccr := rfl
@[simp] theorem State.withLocks_harts (s : State) (x : Map Bool) : (s.withLocks x).harts = s.harts := rfl
@[simp] theorem State.withLocks_request (s : State) (x : Map Bool) : (s.withLocks x).request = s.request := rfl
@[simp] theorem State.withLocks_faultTimes (s : State) (x : Map Bool) : (s.withLocks x).faultTimes = s.faultTimes := rfl
@[simp] theorem State.withLocks_resetTimes (s : State) (x : Map Bool) : (s.withLocks x).resetTimes = s.resetTimes := rfl
@[simp] theorem State.withLocks_lateFaults (s : State) (x : Map Bool) : (s.withLocks x).lateFaults = s.lateFaults := rfl

/-! ### withLatches -/

@[simp] theorem State.withLatches_pending (s : State) (x : Map Latch) : (s.withLatches x).pending = s.pending := rfl
@[simp] theorem State.withLatches_powered (s : State) (x : Map Latch) : (s.withLatches x).powered = s.powered := rfl
@[simp] theorem State.withLatches_regs (s : State) (x : Map Latch) : (s.withLatches x).regs = s.regs := rfl
@[simp] theorem State.withLatches_locks (s : State) (x : Map Latch) : (s.withLatches x).locks = s.locks := rfl
@[simp] theorem State.withLatches_latches (s : State) (x : Map Latch) : (s.withLatches x).latches = x := rfl
@[simp] theorem State.withLatches_log (s : State) (x : Map Latch) : (s.withLatches x).log = s.log := rfl
@[simp] theorem State.withLatches_staged (s : State) (x : Map Latch) : (s.withLatches x).staged = s.staged := rfl
@[simp] theorem State.withLatches_out (s : State) (x : Map Latch) : (s.withLatches x).out = s.out := rfl
@[simp] theorem State.withLatches_draws (s : State) (x : Map Latch) : (s.withLatches x).draws = s.draws := rfl
@[simp] theorem State.withLatches_traceLost (s : State) (x : Map Latch) : (s.withLatches x).traceLost = s.traceLost := rfl
@[simp] theorem State.withLatches_mem (s : State) (x : Map Latch) : (s.withLatches x).mem = s.mem := rfl
@[simp] theorem State.withLatches_staging (s : State) (x : Map Latch) : (s.withLatches x).staging = s.staging := rfl
@[simp] theorem State.withLatches_poison (s : State) (x : Map Latch) : (s.withLatches x).poison = s.poison := rfl
@[simp] theorem State.withLatches_cfgs (s : State) (x : Map Latch) : (s.withLatches x).cfgs = s.cfgs := rfl
@[simp] theorem State.withLatches_hosts (s : State) (x : Map Latch) : (s.withLatches x).hosts = s.hosts := rfl
@[simp] theorem State.withLatches_dlogs (s : State) (x : Map Latch) : (s.withLatches x).dlogs = s.dlogs := rfl
@[simp] theorem State.withLatches_rings (s : State) (x : Map Latch) : (s.withLatches x).rings = s.rings := rfl
@[simp] theorem State.withLatches_mac (s : State) (x : Map Latch) : (s.withLatches x).mac = s.mac := rfl
@[simp] theorem State.withLatches_tbl (s : State) (x : Map Latch) : (s.withLatches x).tbl = s.tbl := rfl
@[simp] theorem State.withLatches_prog (s : State) (x : Map Latch) : (s.withLatches x).prog = s.prog := rfl
@[simp] theorem State.withLatches_fx (s : State) (x : Map Latch) : (s.withLatches x).fx = s.fx := rfl
@[simp] theorem State.withLatches_tm (s : State) (x : Map Latch) : (s.withLatches x).tm = s.tm := rfl
@[simp] theorem State.withLatches_limits (s : State) (x : Map Latch) : (s.withLatches x).limits = s.limits := rfl
@[simp] theorem State.withLatches_faultsDue (s : State) (x : Map Latch) : (s.withLatches x).faultsDue = s.faultsDue := rfl
@[simp] theorem State.withLatches_ciph (s : State) (x : Map Latch) : (s.withLatches x).ciph = s.ciph := rfl
@[simp] theorem State.withLatches_stor (s : State) (x : Map Latch) : (s.withLatches x).stor = s.stor := rfl
@[simp] theorem State.withLatches_rma (s : State) (x : Map Latch) : (s.withLatches x).rma = s.rma := rfl
@[simp] theorem State.withLatches_time (s : State) (x : Map Latch) : (s.withLatches x).time = s.time := rfl
@[simp] theorem State.withLatches_led (s : State) (x : Map Latch) : (s.withLatches x).led = s.led := rfl
@[simp] theorem State.withLatches_cal (s : State) (x : Map Latch) : (s.withLatches x).cal = s.cal := rfl
@[simp] theorem State.withLatches_pkg (s : State) (x : Map Latch) : (s.withLatches x).pkg = s.pkg := rfl
@[simp] theorem State.withLatches_stc (s : State) (x : Map Latch) : (s.withLatches x).stc = s.stc := rfl
@[simp] theorem State.withLatches_sq (s : State) (x : Map Latch) : (s.withLatches x).sq = s.sq := rfl
@[simp] theorem State.withLatches_boot (s : State) (x : Map Latch) : (s.withLatches x).boot = s.boot := rfl
@[simp] theorem State.withLatches_tr (s : State) (x : Map Latch) : (s.withLatches x).tr = s.tr := rfl
@[simp] theorem State.withLatches_dbg (s : State) (x : Map Latch) : (s.withLatches x).dbg = s.dbg := rfl
@[simp] theorem State.withLatches_tap (s : State) (x : Map Latch) : (s.withLatches x).tap = s.tap := rfl
@[simp] theorem State.withLatches_ccr (s : State) (x : Map Latch) : (s.withLatches x).ccr = s.ccr := rfl
@[simp] theorem State.withLatches_harts (s : State) (x : Map Latch) : (s.withLatches x).harts = s.harts := rfl
@[simp] theorem State.withLatches_request (s : State) (x : Map Latch) : (s.withLatches x).request = s.request := rfl
@[simp] theorem State.withLatches_faultTimes (s : State) (x : Map Latch) : (s.withLatches x).faultTimes = s.faultTimes := rfl
@[simp] theorem State.withLatches_resetTimes (s : State) (x : Map Latch) : (s.withLatches x).resetTimes = s.resetTimes := rfl
@[simp] theorem State.withLatches_lateFaults (s : State) (x : Map Latch) : (s.withLatches x).lateFaults = s.lateFaults := rfl

/-! ### withLog -/

@[simp] theorem State.withLog_pending (s : State) (x : LogSt) : (s.withLog x).pending = s.pending := rfl
@[simp] theorem State.withLog_powered (s : State) (x : LogSt) : (s.withLog x).powered = s.powered := rfl
@[simp] theorem State.withLog_regs (s : State) (x : LogSt) : (s.withLog x).regs = s.regs := rfl
@[simp] theorem State.withLog_locks (s : State) (x : LogSt) : (s.withLog x).locks = s.locks := rfl
@[simp] theorem State.withLog_latches (s : State) (x : LogSt) : (s.withLog x).latches = s.latches := rfl
@[simp] theorem State.withLog_log (s : State) (x : LogSt) : (s.withLog x).log = x := rfl
@[simp] theorem State.withLog_staged (s : State) (x : LogSt) : (s.withLog x).staged = s.staged := rfl
@[simp] theorem State.withLog_out (s : State) (x : LogSt) : (s.withLog x).out = s.out := rfl
@[simp] theorem State.withLog_draws (s : State) (x : LogSt) : (s.withLog x).draws = s.draws := rfl
@[simp] theorem State.withLog_traceLost (s : State) (x : LogSt) : (s.withLog x).traceLost = s.traceLost := rfl
@[simp] theorem State.withLog_mem (s : State) (x : LogSt) : (s.withLog x).mem = s.mem := rfl
@[simp] theorem State.withLog_staging (s : State) (x : LogSt) : (s.withLog x).staging = s.staging := rfl
@[simp] theorem State.withLog_poison (s : State) (x : LogSt) : (s.withLog x).poison = s.poison := rfl
@[simp] theorem State.withLog_cfgs (s : State) (x : LogSt) : (s.withLog x).cfgs = s.cfgs := rfl
@[simp] theorem State.withLog_hosts (s : State) (x : LogSt) : (s.withLog x).hosts = s.hosts := rfl
@[simp] theorem State.withLog_dlogs (s : State) (x : LogSt) : (s.withLog x).dlogs = s.dlogs := rfl
@[simp] theorem State.withLog_rings (s : State) (x : LogSt) : (s.withLog x).rings = s.rings := rfl
@[simp] theorem State.withLog_mac (s : State) (x : LogSt) : (s.withLog x).mac = s.mac := rfl
@[simp] theorem State.withLog_tbl (s : State) (x : LogSt) : (s.withLog x).tbl = s.tbl := rfl
@[simp] theorem State.withLog_prog (s : State) (x : LogSt) : (s.withLog x).prog = s.prog := rfl
@[simp] theorem State.withLog_fx (s : State) (x : LogSt) : (s.withLog x).fx = s.fx := rfl
@[simp] theorem State.withLog_tm (s : State) (x : LogSt) : (s.withLog x).tm = s.tm := rfl
@[simp] theorem State.withLog_limits (s : State) (x : LogSt) : (s.withLog x).limits = s.limits := rfl
@[simp] theorem State.withLog_faultsDue (s : State) (x : LogSt) : (s.withLog x).faultsDue = s.faultsDue := rfl
@[simp] theorem State.withLog_ciph (s : State) (x : LogSt) : (s.withLog x).ciph = s.ciph := rfl
@[simp] theorem State.withLog_stor (s : State) (x : LogSt) : (s.withLog x).stor = s.stor := rfl
@[simp] theorem State.withLog_rma (s : State) (x : LogSt) : (s.withLog x).rma = s.rma := rfl
@[simp] theorem State.withLog_time (s : State) (x : LogSt) : (s.withLog x).time = s.time := rfl
@[simp] theorem State.withLog_led (s : State) (x : LogSt) : (s.withLog x).led = s.led := rfl
@[simp] theorem State.withLog_cal (s : State) (x : LogSt) : (s.withLog x).cal = s.cal := rfl
@[simp] theorem State.withLog_pkg (s : State) (x : LogSt) : (s.withLog x).pkg = s.pkg := rfl
@[simp] theorem State.withLog_stc (s : State) (x : LogSt) : (s.withLog x).stc = s.stc := rfl
@[simp] theorem State.withLog_sq (s : State) (x : LogSt) : (s.withLog x).sq = s.sq := rfl
@[simp] theorem State.withLog_boot (s : State) (x : LogSt) : (s.withLog x).boot = s.boot := rfl
@[simp] theorem State.withLog_tr (s : State) (x : LogSt) : (s.withLog x).tr = s.tr := rfl
@[simp] theorem State.withLog_dbg (s : State) (x : LogSt) : (s.withLog x).dbg = s.dbg := rfl
@[simp] theorem State.withLog_tap (s : State) (x : LogSt) : (s.withLog x).tap = s.tap := rfl
@[simp] theorem State.withLog_ccr (s : State) (x : LogSt) : (s.withLog x).ccr = s.ccr := rfl
@[simp] theorem State.withLog_harts (s : State) (x : LogSt) : (s.withLog x).harts = s.harts := rfl
@[simp] theorem State.withLog_request (s : State) (x : LogSt) : (s.withLog x).request = s.request := rfl
@[simp] theorem State.withLog_faultTimes (s : State) (x : LogSt) : (s.withLog x).faultTimes = s.faultTimes := rfl
@[simp] theorem State.withLog_resetTimes (s : State) (x : LogSt) : (s.withLog x).resetTimes = s.resetTimes := rfl
@[simp] theorem State.withLog_lateFaults (s : State) (x : LogSt) : (s.withLog x).lateFaults = s.lateFaults := rfl

/-! ### withStaged -/

@[simp] theorem State.withStaged_pending (s : State) (x : List Staged) : (s.withStaged x).pending = s.pending := rfl
@[simp] theorem State.withStaged_powered (s : State) (x : List Staged) : (s.withStaged x).powered = s.powered := rfl
@[simp] theorem State.withStaged_regs (s : State) (x : List Staged) : (s.withStaged x).regs = s.regs := rfl
@[simp] theorem State.withStaged_locks (s : State) (x : List Staged) : (s.withStaged x).locks = s.locks := rfl
@[simp] theorem State.withStaged_latches (s : State) (x : List Staged) : (s.withStaged x).latches = s.latches := rfl
@[simp] theorem State.withStaged_log (s : State) (x : List Staged) : (s.withStaged x).log = s.log := rfl
@[simp] theorem State.withStaged_staged (s : State) (x : List Staged) : (s.withStaged x).staged = x := rfl
@[simp] theorem State.withStaged_out (s : State) (x : List Staged) : (s.withStaged x).out = s.out := rfl
@[simp] theorem State.withStaged_draws (s : State) (x : List Staged) : (s.withStaged x).draws = s.draws := rfl
@[simp] theorem State.withStaged_traceLost (s : State) (x : List Staged) : (s.withStaged x).traceLost = s.traceLost := rfl
@[simp] theorem State.withStaged_mem (s : State) (x : List Staged) : (s.withStaged x).mem = s.mem := rfl
@[simp] theorem State.withStaged_staging (s : State) (x : List Staged) : (s.withStaged x).staging = s.staging := rfl
@[simp] theorem State.withStaged_poison (s : State) (x : List Staged) : (s.withStaged x).poison = s.poison := rfl
@[simp] theorem State.withStaged_cfgs (s : State) (x : List Staged) : (s.withStaged x).cfgs = s.cfgs := rfl
@[simp] theorem State.withStaged_hosts (s : State) (x : List Staged) : (s.withStaged x).hosts = s.hosts := rfl
@[simp] theorem State.withStaged_dlogs (s : State) (x : List Staged) : (s.withStaged x).dlogs = s.dlogs := rfl
@[simp] theorem State.withStaged_rings (s : State) (x : List Staged) : (s.withStaged x).rings = s.rings := rfl
@[simp] theorem State.withStaged_mac (s : State) (x : List Staged) : (s.withStaged x).mac = s.mac := rfl
@[simp] theorem State.withStaged_tbl (s : State) (x : List Staged) : (s.withStaged x).tbl = s.tbl := rfl
@[simp] theorem State.withStaged_prog (s : State) (x : List Staged) : (s.withStaged x).prog = s.prog := rfl
@[simp] theorem State.withStaged_fx (s : State) (x : List Staged) : (s.withStaged x).fx = s.fx := rfl
@[simp] theorem State.withStaged_tm (s : State) (x : List Staged) : (s.withStaged x).tm = s.tm := rfl
@[simp] theorem State.withStaged_limits (s : State) (x : List Staged) : (s.withStaged x).limits = s.limits := rfl
@[simp] theorem State.withStaged_faultsDue (s : State) (x : List Staged) : (s.withStaged x).faultsDue = s.faultsDue := rfl
@[simp] theorem State.withStaged_ciph (s : State) (x : List Staged) : (s.withStaged x).ciph = s.ciph := rfl
@[simp] theorem State.withStaged_stor (s : State) (x : List Staged) : (s.withStaged x).stor = s.stor := rfl
@[simp] theorem State.withStaged_rma (s : State) (x : List Staged) : (s.withStaged x).rma = s.rma := rfl
@[simp] theorem State.withStaged_time (s : State) (x : List Staged) : (s.withStaged x).time = s.time := rfl
@[simp] theorem State.withStaged_led (s : State) (x : List Staged) : (s.withStaged x).led = s.led := rfl
@[simp] theorem State.withStaged_cal (s : State) (x : List Staged) : (s.withStaged x).cal = s.cal := rfl
@[simp] theorem State.withStaged_pkg (s : State) (x : List Staged) : (s.withStaged x).pkg = s.pkg := rfl
@[simp] theorem State.withStaged_stc (s : State) (x : List Staged) : (s.withStaged x).stc = s.stc := rfl
@[simp] theorem State.withStaged_sq (s : State) (x : List Staged) : (s.withStaged x).sq = s.sq := rfl
@[simp] theorem State.withStaged_boot (s : State) (x : List Staged) : (s.withStaged x).boot = s.boot := rfl
@[simp] theorem State.withStaged_tr (s : State) (x : List Staged) : (s.withStaged x).tr = s.tr := rfl
@[simp] theorem State.withStaged_dbg (s : State) (x : List Staged) : (s.withStaged x).dbg = s.dbg := rfl
@[simp] theorem State.withStaged_tap (s : State) (x : List Staged) : (s.withStaged x).tap = s.tap := rfl
@[simp] theorem State.withStaged_ccr (s : State) (x : List Staged) : (s.withStaged x).ccr = s.ccr := rfl
@[simp] theorem State.withStaged_harts (s : State) (x : List Staged) : (s.withStaged x).harts = s.harts := rfl
@[simp] theorem State.withStaged_request (s : State) (x : List Staged) : (s.withStaged x).request = s.request := rfl
@[simp] theorem State.withStaged_faultTimes (s : State) (x : List Staged) : (s.withStaged x).faultTimes = s.faultTimes := rfl
@[simp] theorem State.withStaged_resetTimes (s : State) (x : List Staged) : (s.withStaged x).resetTimes = s.resetTimes := rfl
@[simp] theorem State.withStaged_lateFaults (s : State) (x : List Staged) : (s.withStaged x).lateFaults = s.lateFaults := rfl

/-! ### withOut -/

@[simp] theorem State.withOut_pending (s : State) (x : List Out) : (s.withOut x).pending = s.pending := rfl
@[simp] theorem State.withOut_powered (s : State) (x : List Out) : (s.withOut x).powered = s.powered := rfl
@[simp] theorem State.withOut_regs (s : State) (x : List Out) : (s.withOut x).regs = s.regs := rfl
@[simp] theorem State.withOut_locks (s : State) (x : List Out) : (s.withOut x).locks = s.locks := rfl
@[simp] theorem State.withOut_latches (s : State) (x : List Out) : (s.withOut x).latches = s.latches := rfl
@[simp] theorem State.withOut_log (s : State) (x : List Out) : (s.withOut x).log = s.log := rfl
@[simp] theorem State.withOut_staged (s : State) (x : List Out) : (s.withOut x).staged = s.staged := rfl
@[simp] theorem State.withOut_out (s : State) (x : List Out) : (s.withOut x).out = x := rfl
@[simp] theorem State.withOut_draws (s : State) (x : List Out) : (s.withOut x).draws = s.draws := rfl
@[simp] theorem State.withOut_traceLost (s : State) (x : List Out) : (s.withOut x).traceLost = s.traceLost := rfl
@[simp] theorem State.withOut_mem (s : State) (x : List Out) : (s.withOut x).mem = s.mem := rfl
@[simp] theorem State.withOut_staging (s : State) (x : List Out) : (s.withOut x).staging = s.staging := rfl
@[simp] theorem State.withOut_poison (s : State) (x : List Out) : (s.withOut x).poison = s.poison := rfl
@[simp] theorem State.withOut_cfgs (s : State) (x : List Out) : (s.withOut x).cfgs = s.cfgs := rfl
@[simp] theorem State.withOut_hosts (s : State) (x : List Out) : (s.withOut x).hosts = s.hosts := rfl
@[simp] theorem State.withOut_dlogs (s : State) (x : List Out) : (s.withOut x).dlogs = s.dlogs := rfl
@[simp] theorem State.withOut_rings (s : State) (x : List Out) : (s.withOut x).rings = s.rings := rfl
@[simp] theorem State.withOut_mac (s : State) (x : List Out) : (s.withOut x).mac = s.mac := rfl
@[simp] theorem State.withOut_tbl (s : State) (x : List Out) : (s.withOut x).tbl = s.tbl := rfl
@[simp] theorem State.withOut_prog (s : State) (x : List Out) : (s.withOut x).prog = s.prog := rfl
@[simp] theorem State.withOut_fx (s : State) (x : List Out) : (s.withOut x).fx = s.fx := rfl
@[simp] theorem State.withOut_tm (s : State) (x : List Out) : (s.withOut x).tm = s.tm := rfl
@[simp] theorem State.withOut_limits (s : State) (x : List Out) : (s.withOut x).limits = s.limits := rfl
@[simp] theorem State.withOut_faultsDue (s : State) (x : List Out) : (s.withOut x).faultsDue = s.faultsDue := rfl
@[simp] theorem State.withOut_ciph (s : State) (x : List Out) : (s.withOut x).ciph = s.ciph := rfl
@[simp] theorem State.withOut_stor (s : State) (x : List Out) : (s.withOut x).stor = s.stor := rfl
@[simp] theorem State.withOut_rma (s : State) (x : List Out) : (s.withOut x).rma = s.rma := rfl
@[simp] theorem State.withOut_time (s : State) (x : List Out) : (s.withOut x).time = s.time := rfl
@[simp] theorem State.withOut_led (s : State) (x : List Out) : (s.withOut x).led = s.led := rfl
@[simp] theorem State.withOut_cal (s : State) (x : List Out) : (s.withOut x).cal = s.cal := rfl
@[simp] theorem State.withOut_pkg (s : State) (x : List Out) : (s.withOut x).pkg = s.pkg := rfl
@[simp] theorem State.withOut_stc (s : State) (x : List Out) : (s.withOut x).stc = s.stc := rfl
@[simp] theorem State.withOut_sq (s : State) (x : List Out) : (s.withOut x).sq = s.sq := rfl
@[simp] theorem State.withOut_boot (s : State) (x : List Out) : (s.withOut x).boot = s.boot := rfl
@[simp] theorem State.withOut_tr (s : State) (x : List Out) : (s.withOut x).tr = s.tr := rfl
@[simp] theorem State.withOut_dbg (s : State) (x : List Out) : (s.withOut x).dbg = s.dbg := rfl
@[simp] theorem State.withOut_tap (s : State) (x : List Out) : (s.withOut x).tap = s.tap := rfl
@[simp] theorem State.withOut_ccr (s : State) (x : List Out) : (s.withOut x).ccr = s.ccr := rfl
@[simp] theorem State.withOut_harts (s : State) (x : List Out) : (s.withOut x).harts = s.harts := rfl
@[simp] theorem State.withOut_request (s : State) (x : List Out) : (s.withOut x).request = s.request := rfl
@[simp] theorem State.withOut_faultTimes (s : State) (x : List Out) : (s.withOut x).faultTimes = s.faultTimes := rfl
@[simp] theorem State.withOut_resetTimes (s : State) (x : List Out) : (s.withOut x).resetTimes = s.resetTimes := rfl
@[simp] theorem State.withOut_lateFaults (s : State) (x : List Out) : (s.withOut x).lateFaults = s.lateFaults := rfl

/-! ### withDraws -/

@[simp] theorem State.withDraws_pending (s : State) (x : Nat) : (s.withDraws x).pending = s.pending := rfl
@[simp] theorem State.withDraws_powered (s : State) (x : Nat) : (s.withDraws x).powered = s.powered := rfl
@[simp] theorem State.withDraws_regs (s : State) (x : Nat) : (s.withDraws x).regs = s.regs := rfl
@[simp] theorem State.withDraws_locks (s : State) (x : Nat) : (s.withDraws x).locks = s.locks := rfl
@[simp] theorem State.withDraws_latches (s : State) (x : Nat) : (s.withDraws x).latches = s.latches := rfl
@[simp] theorem State.withDraws_log (s : State) (x : Nat) : (s.withDraws x).log = s.log := rfl
@[simp] theorem State.withDraws_staged (s : State) (x : Nat) : (s.withDraws x).staged = s.staged := rfl
@[simp] theorem State.withDraws_out (s : State) (x : Nat) : (s.withDraws x).out = s.out := rfl
@[simp] theorem State.withDraws_draws (s : State) (x : Nat) : (s.withDraws x).draws = x := rfl
@[simp] theorem State.withDraws_traceLost (s : State) (x : Nat) : (s.withDraws x).traceLost = s.traceLost := rfl
@[simp] theorem State.withDraws_mem (s : State) (x : Nat) : (s.withDraws x).mem = s.mem := rfl
@[simp] theorem State.withDraws_staging (s : State) (x : Nat) : (s.withDraws x).staging = s.staging := rfl
@[simp] theorem State.withDraws_poison (s : State) (x : Nat) : (s.withDraws x).poison = s.poison := rfl
@[simp] theorem State.withDraws_cfgs (s : State) (x : Nat) : (s.withDraws x).cfgs = s.cfgs := rfl
@[simp] theorem State.withDraws_hosts (s : State) (x : Nat) : (s.withDraws x).hosts = s.hosts := rfl
@[simp] theorem State.withDraws_dlogs (s : State) (x : Nat) : (s.withDraws x).dlogs = s.dlogs := rfl
@[simp] theorem State.withDraws_rings (s : State) (x : Nat) : (s.withDraws x).rings = s.rings := rfl
@[simp] theorem State.withDraws_mac (s : State) (x : Nat) : (s.withDraws x).mac = s.mac := rfl
@[simp] theorem State.withDraws_tbl (s : State) (x : Nat) : (s.withDraws x).tbl = s.tbl := rfl
@[simp] theorem State.withDraws_prog (s : State) (x : Nat) : (s.withDraws x).prog = s.prog := rfl
@[simp] theorem State.withDraws_fx (s : State) (x : Nat) : (s.withDraws x).fx = s.fx := rfl
@[simp] theorem State.withDraws_tm (s : State) (x : Nat) : (s.withDraws x).tm = s.tm := rfl
@[simp] theorem State.withDraws_limits (s : State) (x : Nat) : (s.withDraws x).limits = s.limits := rfl
@[simp] theorem State.withDraws_faultsDue (s : State) (x : Nat) : (s.withDraws x).faultsDue = s.faultsDue := rfl
@[simp] theorem State.withDraws_ciph (s : State) (x : Nat) : (s.withDraws x).ciph = s.ciph := rfl
@[simp] theorem State.withDraws_stor (s : State) (x : Nat) : (s.withDraws x).stor = s.stor := rfl
@[simp] theorem State.withDraws_rma (s : State) (x : Nat) : (s.withDraws x).rma = s.rma := rfl
@[simp] theorem State.withDraws_time (s : State) (x : Nat) : (s.withDraws x).time = s.time := rfl
@[simp] theorem State.withDraws_led (s : State) (x : Nat) : (s.withDraws x).led = s.led := rfl
@[simp] theorem State.withDraws_cal (s : State) (x : Nat) : (s.withDraws x).cal = s.cal := rfl
@[simp] theorem State.withDraws_pkg (s : State) (x : Nat) : (s.withDraws x).pkg = s.pkg := rfl
@[simp] theorem State.withDraws_stc (s : State) (x : Nat) : (s.withDraws x).stc = s.stc := rfl
@[simp] theorem State.withDraws_sq (s : State) (x : Nat) : (s.withDraws x).sq = s.sq := rfl
@[simp] theorem State.withDraws_boot (s : State) (x : Nat) : (s.withDraws x).boot = s.boot := rfl
@[simp] theorem State.withDraws_tr (s : State) (x : Nat) : (s.withDraws x).tr = s.tr := rfl
@[simp] theorem State.withDraws_dbg (s : State) (x : Nat) : (s.withDraws x).dbg = s.dbg := rfl
@[simp] theorem State.withDraws_tap (s : State) (x : Nat) : (s.withDraws x).tap = s.tap := rfl
@[simp] theorem State.withDraws_ccr (s : State) (x : Nat) : (s.withDraws x).ccr = s.ccr := rfl
@[simp] theorem State.withDraws_harts (s : State) (x : Nat) : (s.withDraws x).harts = s.harts := rfl
@[simp] theorem State.withDraws_request (s : State) (x : Nat) : (s.withDraws x).request = s.request := rfl
@[simp] theorem State.withDraws_faultTimes (s : State) (x : Nat) : (s.withDraws x).faultTimes = s.faultTimes := rfl
@[simp] theorem State.withDraws_resetTimes (s : State) (x : Nat) : (s.withDraws x).resetTimes = s.resetTimes := rfl
@[simp] theorem State.withDraws_lateFaults (s : State) (x : Nat) : (s.withDraws x).lateFaults = s.lateFaults := rfl

/-! ### withTraceLost -/

@[simp] theorem State.withTraceLost_pending (s : State) (x : Nat) : (s.withTraceLost x).pending = s.pending := rfl
@[simp] theorem State.withTraceLost_powered (s : State) (x : Nat) : (s.withTraceLost x).powered = s.powered := rfl
@[simp] theorem State.withTraceLost_regs (s : State) (x : Nat) : (s.withTraceLost x).regs = s.regs := rfl
@[simp] theorem State.withTraceLost_locks (s : State) (x : Nat) : (s.withTraceLost x).locks = s.locks := rfl
@[simp] theorem State.withTraceLost_latches (s : State) (x : Nat) : (s.withTraceLost x).latches = s.latches := rfl
@[simp] theorem State.withTraceLost_log (s : State) (x : Nat) : (s.withTraceLost x).log = s.log := rfl
@[simp] theorem State.withTraceLost_staged (s : State) (x : Nat) : (s.withTraceLost x).staged = s.staged := rfl
@[simp] theorem State.withTraceLost_out (s : State) (x : Nat) : (s.withTraceLost x).out = s.out := rfl
@[simp] theorem State.withTraceLost_draws (s : State) (x : Nat) : (s.withTraceLost x).draws = s.draws := rfl
@[simp] theorem State.withTraceLost_traceLost (s : State) (x : Nat) : (s.withTraceLost x).traceLost = x := rfl
@[simp] theorem State.withTraceLost_mem (s : State) (x : Nat) : (s.withTraceLost x).mem = s.mem := rfl
@[simp] theorem State.withTraceLost_staging (s : State) (x : Nat) : (s.withTraceLost x).staging = s.staging := rfl
@[simp] theorem State.withTraceLost_poison (s : State) (x : Nat) : (s.withTraceLost x).poison = s.poison := rfl
@[simp] theorem State.withTraceLost_cfgs (s : State) (x : Nat) : (s.withTraceLost x).cfgs = s.cfgs := rfl
@[simp] theorem State.withTraceLost_hosts (s : State) (x : Nat) : (s.withTraceLost x).hosts = s.hosts := rfl
@[simp] theorem State.withTraceLost_dlogs (s : State) (x : Nat) : (s.withTraceLost x).dlogs = s.dlogs := rfl
@[simp] theorem State.withTraceLost_rings (s : State) (x : Nat) : (s.withTraceLost x).rings = s.rings := rfl
@[simp] theorem State.withTraceLost_mac (s : State) (x : Nat) : (s.withTraceLost x).mac = s.mac := rfl
@[simp] theorem State.withTraceLost_tbl (s : State) (x : Nat) : (s.withTraceLost x).tbl = s.tbl := rfl
@[simp] theorem State.withTraceLost_prog (s : State) (x : Nat) : (s.withTraceLost x).prog = s.prog := rfl
@[simp] theorem State.withTraceLost_fx (s : State) (x : Nat) : (s.withTraceLost x).fx = s.fx := rfl
@[simp] theorem State.withTraceLost_tm (s : State) (x : Nat) : (s.withTraceLost x).tm = s.tm := rfl
@[simp] theorem State.withTraceLost_limits (s : State) (x : Nat) : (s.withTraceLost x).limits = s.limits := rfl
@[simp] theorem State.withTraceLost_faultsDue (s : State) (x : Nat) : (s.withTraceLost x).faultsDue = s.faultsDue := rfl
@[simp] theorem State.withTraceLost_ciph (s : State) (x : Nat) : (s.withTraceLost x).ciph = s.ciph := rfl
@[simp] theorem State.withTraceLost_stor (s : State) (x : Nat) : (s.withTraceLost x).stor = s.stor := rfl
@[simp] theorem State.withTraceLost_rma (s : State) (x : Nat) : (s.withTraceLost x).rma = s.rma := rfl
@[simp] theorem State.withTraceLost_time (s : State) (x : Nat) : (s.withTraceLost x).time = s.time := rfl
@[simp] theorem State.withTraceLost_led (s : State) (x : Nat) : (s.withTraceLost x).led = s.led := rfl
@[simp] theorem State.withTraceLost_cal (s : State) (x : Nat) : (s.withTraceLost x).cal = s.cal := rfl
@[simp] theorem State.withTraceLost_pkg (s : State) (x : Nat) : (s.withTraceLost x).pkg = s.pkg := rfl
@[simp] theorem State.withTraceLost_stc (s : State) (x : Nat) : (s.withTraceLost x).stc = s.stc := rfl
@[simp] theorem State.withTraceLost_sq (s : State) (x : Nat) : (s.withTraceLost x).sq = s.sq := rfl
@[simp] theorem State.withTraceLost_boot (s : State) (x : Nat) : (s.withTraceLost x).boot = s.boot := rfl
@[simp] theorem State.withTraceLost_tr (s : State) (x : Nat) : (s.withTraceLost x).tr = s.tr := rfl
@[simp] theorem State.withTraceLost_dbg (s : State) (x : Nat) : (s.withTraceLost x).dbg = s.dbg := rfl
@[simp] theorem State.withTraceLost_tap (s : State) (x : Nat) : (s.withTraceLost x).tap = s.tap := rfl
@[simp] theorem State.withTraceLost_ccr (s : State) (x : Nat) : (s.withTraceLost x).ccr = s.ccr := rfl
@[simp] theorem State.withTraceLost_harts (s : State) (x : Nat) : (s.withTraceLost x).harts = s.harts := rfl
@[simp] theorem State.withTraceLost_request (s : State) (x : Nat) : (s.withTraceLost x).request = s.request := rfl
@[simp] theorem State.withTraceLost_faultTimes (s : State) (x : Nat) : (s.withTraceLost x).faultTimes = s.faultTimes := rfl
@[simp] theorem State.withTraceLost_resetTimes (s : State) (x : Nat) : (s.withTraceLost x).resetTimes = s.resetTimes := rfl
@[simp] theorem State.withTraceLost_lateFaults (s : State) (x : Nat) : (s.withTraceLost x).lateFaults = s.lateFaults := rfl

/-! ### withMem -/

@[simp] theorem State.withMem_pending (s : State) (x : List Host.Cell) : (s.withMem x).pending = s.pending := rfl
@[simp] theorem State.withMem_powered (s : State) (x : List Host.Cell) : (s.withMem x).powered = s.powered := rfl
@[simp] theorem State.withMem_regs (s : State) (x : List Host.Cell) : (s.withMem x).regs = s.regs := rfl
@[simp] theorem State.withMem_locks (s : State) (x : List Host.Cell) : (s.withMem x).locks = s.locks := rfl
@[simp] theorem State.withMem_latches (s : State) (x : List Host.Cell) : (s.withMem x).latches = s.latches := rfl
@[simp] theorem State.withMem_log (s : State) (x : List Host.Cell) : (s.withMem x).log = s.log := rfl
@[simp] theorem State.withMem_staged (s : State) (x : List Host.Cell) : (s.withMem x).staged = s.staged := rfl
@[simp] theorem State.withMem_out (s : State) (x : List Host.Cell) : (s.withMem x).out = s.out := rfl
@[simp] theorem State.withMem_draws (s : State) (x : List Host.Cell) : (s.withMem x).draws = s.draws := rfl
@[simp] theorem State.withMem_traceLost (s : State) (x : List Host.Cell) : (s.withMem x).traceLost = s.traceLost := rfl
@[simp] theorem State.withMem_mem (s : State) (x : List Host.Cell) : (s.withMem x).mem = x := rfl
@[simp] theorem State.withMem_staging (s : State) (x : List Host.Cell) : (s.withMem x).staging = s.staging := rfl
@[simp] theorem State.withMem_poison (s : State) (x : List Host.Cell) : (s.withMem x).poison = s.poison := rfl
@[simp] theorem State.withMem_cfgs (s : State) (x : List Host.Cell) : (s.withMem x).cfgs = s.cfgs := rfl
@[simp] theorem State.withMem_hosts (s : State) (x : List Host.Cell) : (s.withMem x).hosts = s.hosts := rfl
@[simp] theorem State.withMem_dlogs (s : State) (x : List Host.Cell) : (s.withMem x).dlogs = s.dlogs := rfl
@[simp] theorem State.withMem_rings (s : State) (x : List Host.Cell) : (s.withMem x).rings = s.rings := rfl
@[simp] theorem State.withMem_mac (s : State) (x : List Host.Cell) : (s.withMem x).mac = s.mac := rfl
@[simp] theorem State.withMem_tbl (s : State) (x : List Host.Cell) : (s.withMem x).tbl = s.tbl := rfl
@[simp] theorem State.withMem_prog (s : State) (x : List Host.Cell) : (s.withMem x).prog = s.prog := rfl
@[simp] theorem State.withMem_fx (s : State) (x : List Host.Cell) : (s.withMem x).fx = s.fx := rfl
@[simp] theorem State.withMem_tm (s : State) (x : List Host.Cell) : (s.withMem x).tm = s.tm := rfl
@[simp] theorem State.withMem_limits (s : State) (x : List Host.Cell) : (s.withMem x).limits = s.limits := rfl
@[simp] theorem State.withMem_faultsDue (s : State) (x : List Host.Cell) : (s.withMem x).faultsDue = s.faultsDue := rfl
@[simp] theorem State.withMem_ciph (s : State) (x : List Host.Cell) : (s.withMem x).ciph = s.ciph := rfl
@[simp] theorem State.withMem_stor (s : State) (x : List Host.Cell) : (s.withMem x).stor = s.stor := rfl
@[simp] theorem State.withMem_rma (s : State) (x : List Host.Cell) : (s.withMem x).rma = s.rma := rfl
@[simp] theorem State.withMem_time (s : State) (x : List Host.Cell) : (s.withMem x).time = s.time := rfl
@[simp] theorem State.withMem_led (s : State) (x : List Host.Cell) : (s.withMem x).led = s.led := rfl
@[simp] theorem State.withMem_cal (s : State) (x : List Host.Cell) : (s.withMem x).cal = s.cal := rfl
@[simp] theorem State.withMem_pkg (s : State) (x : List Host.Cell) : (s.withMem x).pkg = s.pkg := rfl
@[simp] theorem State.withMem_stc (s : State) (x : List Host.Cell) : (s.withMem x).stc = s.stc := rfl
@[simp] theorem State.withMem_sq (s : State) (x : List Host.Cell) : (s.withMem x).sq = s.sq := rfl
@[simp] theorem State.withMem_boot (s : State) (x : List Host.Cell) : (s.withMem x).boot = s.boot := rfl
@[simp] theorem State.withMem_tr (s : State) (x : List Host.Cell) : (s.withMem x).tr = s.tr := rfl
@[simp] theorem State.withMem_dbg (s : State) (x : List Host.Cell) : (s.withMem x).dbg = s.dbg := rfl
@[simp] theorem State.withMem_tap (s : State) (x : List Host.Cell) : (s.withMem x).tap = s.tap := rfl
@[simp] theorem State.withMem_ccr (s : State) (x : List Host.Cell) : (s.withMem x).ccr = s.ccr := rfl
@[simp] theorem State.withMem_harts (s : State) (x : List Host.Cell) : (s.withMem x).harts = s.harts := rfl
@[simp] theorem State.withMem_request (s : State) (x : List Host.Cell) : (s.withMem x).request = s.request := rfl
@[simp] theorem State.withMem_faultTimes (s : State) (x : List Host.Cell) : (s.withMem x).faultTimes = s.faultTimes := rfl
@[simp] theorem State.withMem_resetTimes (s : State) (x : List Host.Cell) : (s.withMem x).resetTimes = s.resetTimes := rfl
@[simp] theorem State.withMem_lateFaults (s : State) (x : List Host.Cell) : (s.withMem x).lateFaults = s.lateFaults := rfl

/-! ### withStaging -/

@[simp] theorem State.withStaging_pending (s : State) (x : List Host.Cell) : (s.withStaging x).pending = s.pending := rfl
@[simp] theorem State.withStaging_powered (s : State) (x : List Host.Cell) : (s.withStaging x).powered = s.powered := rfl
@[simp] theorem State.withStaging_regs (s : State) (x : List Host.Cell) : (s.withStaging x).regs = s.regs := rfl
@[simp] theorem State.withStaging_locks (s : State) (x : List Host.Cell) : (s.withStaging x).locks = s.locks := rfl
@[simp] theorem State.withStaging_latches (s : State) (x : List Host.Cell) : (s.withStaging x).latches = s.latches := rfl
@[simp] theorem State.withStaging_log (s : State) (x : List Host.Cell) : (s.withStaging x).log = s.log := rfl
@[simp] theorem State.withStaging_staged (s : State) (x : List Host.Cell) : (s.withStaging x).staged = s.staged := rfl
@[simp] theorem State.withStaging_out (s : State) (x : List Host.Cell) : (s.withStaging x).out = s.out := rfl
@[simp] theorem State.withStaging_draws (s : State) (x : List Host.Cell) : (s.withStaging x).draws = s.draws := rfl
@[simp] theorem State.withStaging_traceLost (s : State) (x : List Host.Cell) : (s.withStaging x).traceLost = s.traceLost := rfl
@[simp] theorem State.withStaging_mem (s : State) (x : List Host.Cell) : (s.withStaging x).mem = s.mem := rfl
@[simp] theorem State.withStaging_staging (s : State) (x : List Host.Cell) : (s.withStaging x).staging = x := rfl
@[simp] theorem State.withStaging_poison (s : State) (x : List Host.Cell) : (s.withStaging x).poison = s.poison := rfl
@[simp] theorem State.withStaging_cfgs (s : State) (x : List Host.Cell) : (s.withStaging x).cfgs = s.cfgs := rfl
@[simp] theorem State.withStaging_hosts (s : State) (x : List Host.Cell) : (s.withStaging x).hosts = s.hosts := rfl
@[simp] theorem State.withStaging_dlogs (s : State) (x : List Host.Cell) : (s.withStaging x).dlogs = s.dlogs := rfl
@[simp] theorem State.withStaging_rings (s : State) (x : List Host.Cell) : (s.withStaging x).rings = s.rings := rfl
@[simp] theorem State.withStaging_mac (s : State) (x : List Host.Cell) : (s.withStaging x).mac = s.mac := rfl
@[simp] theorem State.withStaging_tbl (s : State) (x : List Host.Cell) : (s.withStaging x).tbl = s.tbl := rfl
@[simp] theorem State.withStaging_prog (s : State) (x : List Host.Cell) : (s.withStaging x).prog = s.prog := rfl
@[simp] theorem State.withStaging_fx (s : State) (x : List Host.Cell) : (s.withStaging x).fx = s.fx := rfl
@[simp] theorem State.withStaging_tm (s : State) (x : List Host.Cell) : (s.withStaging x).tm = s.tm := rfl
@[simp] theorem State.withStaging_limits (s : State) (x : List Host.Cell) : (s.withStaging x).limits = s.limits := rfl
@[simp] theorem State.withStaging_faultsDue (s : State) (x : List Host.Cell) : (s.withStaging x).faultsDue = s.faultsDue := rfl
@[simp] theorem State.withStaging_ciph (s : State) (x : List Host.Cell) : (s.withStaging x).ciph = s.ciph := rfl
@[simp] theorem State.withStaging_stor (s : State) (x : List Host.Cell) : (s.withStaging x).stor = s.stor := rfl
@[simp] theorem State.withStaging_rma (s : State) (x : List Host.Cell) : (s.withStaging x).rma = s.rma := rfl
@[simp] theorem State.withStaging_time (s : State) (x : List Host.Cell) : (s.withStaging x).time = s.time := rfl
@[simp] theorem State.withStaging_led (s : State) (x : List Host.Cell) : (s.withStaging x).led = s.led := rfl
@[simp] theorem State.withStaging_cal (s : State) (x : List Host.Cell) : (s.withStaging x).cal = s.cal := rfl
@[simp] theorem State.withStaging_pkg (s : State) (x : List Host.Cell) : (s.withStaging x).pkg = s.pkg := rfl
@[simp] theorem State.withStaging_stc (s : State) (x : List Host.Cell) : (s.withStaging x).stc = s.stc := rfl
@[simp] theorem State.withStaging_sq (s : State) (x : List Host.Cell) : (s.withStaging x).sq = s.sq := rfl
@[simp] theorem State.withStaging_boot (s : State) (x : List Host.Cell) : (s.withStaging x).boot = s.boot := rfl
@[simp] theorem State.withStaging_tr (s : State) (x : List Host.Cell) : (s.withStaging x).tr = s.tr := rfl
@[simp] theorem State.withStaging_dbg (s : State) (x : List Host.Cell) : (s.withStaging x).dbg = s.dbg := rfl
@[simp] theorem State.withStaging_tap (s : State) (x : List Host.Cell) : (s.withStaging x).tap = s.tap := rfl
@[simp] theorem State.withStaging_ccr (s : State) (x : List Host.Cell) : (s.withStaging x).ccr = s.ccr := rfl
@[simp] theorem State.withStaging_harts (s : State) (x : List Host.Cell) : (s.withStaging x).harts = s.harts := rfl
@[simp] theorem State.withStaging_request (s : State) (x : List Host.Cell) : (s.withStaging x).request = s.request := rfl
@[simp] theorem State.withStaging_faultTimes (s : State) (x : List Host.Cell) : (s.withStaging x).faultTimes = s.faultTimes := rfl
@[simp] theorem State.withStaging_resetTimes (s : State) (x : List Host.Cell) : (s.withStaging x).resetTimes = s.resetTimes := rfl
@[simp] theorem State.withStaging_lateFaults (s : State) (x : List Host.Cell) : (s.withStaging x).lateFaults = s.lateFaults := rfl

/-! ### withPoison -/

@[simp] theorem State.withPoison_pending (s : State) (x : List Nat) : (s.withPoison x).pending = s.pending := rfl
@[simp] theorem State.withPoison_powered (s : State) (x : List Nat) : (s.withPoison x).powered = s.powered := rfl
@[simp] theorem State.withPoison_regs (s : State) (x : List Nat) : (s.withPoison x).regs = s.regs := rfl
@[simp] theorem State.withPoison_locks (s : State) (x : List Nat) : (s.withPoison x).locks = s.locks := rfl
@[simp] theorem State.withPoison_latches (s : State) (x : List Nat) : (s.withPoison x).latches = s.latches := rfl
@[simp] theorem State.withPoison_log (s : State) (x : List Nat) : (s.withPoison x).log = s.log := rfl
@[simp] theorem State.withPoison_staged (s : State) (x : List Nat) : (s.withPoison x).staged = s.staged := rfl
@[simp] theorem State.withPoison_out (s : State) (x : List Nat) : (s.withPoison x).out = s.out := rfl
@[simp] theorem State.withPoison_draws (s : State) (x : List Nat) : (s.withPoison x).draws = s.draws := rfl
@[simp] theorem State.withPoison_traceLost (s : State) (x : List Nat) : (s.withPoison x).traceLost = s.traceLost := rfl
@[simp] theorem State.withPoison_mem (s : State) (x : List Nat) : (s.withPoison x).mem = s.mem := rfl
@[simp] theorem State.withPoison_staging (s : State) (x : List Nat) : (s.withPoison x).staging = s.staging := rfl
@[simp] theorem State.withPoison_poison (s : State) (x : List Nat) : (s.withPoison x).poison = x := rfl
@[simp] theorem State.withPoison_cfgs (s : State) (x : List Nat) : (s.withPoison x).cfgs = s.cfgs := rfl
@[simp] theorem State.withPoison_hosts (s : State) (x : List Nat) : (s.withPoison x).hosts = s.hosts := rfl
@[simp] theorem State.withPoison_dlogs (s : State) (x : List Nat) : (s.withPoison x).dlogs = s.dlogs := rfl
@[simp] theorem State.withPoison_rings (s : State) (x : List Nat) : (s.withPoison x).rings = s.rings := rfl
@[simp] theorem State.withPoison_mac (s : State) (x : List Nat) : (s.withPoison x).mac = s.mac := rfl
@[simp] theorem State.withPoison_tbl (s : State) (x : List Nat) : (s.withPoison x).tbl = s.tbl := rfl
@[simp] theorem State.withPoison_prog (s : State) (x : List Nat) : (s.withPoison x).prog = s.prog := rfl
@[simp] theorem State.withPoison_fx (s : State) (x : List Nat) : (s.withPoison x).fx = s.fx := rfl
@[simp] theorem State.withPoison_tm (s : State) (x : List Nat) : (s.withPoison x).tm = s.tm := rfl
@[simp] theorem State.withPoison_limits (s : State) (x : List Nat) : (s.withPoison x).limits = s.limits := rfl
@[simp] theorem State.withPoison_faultsDue (s : State) (x : List Nat) : (s.withPoison x).faultsDue = s.faultsDue := rfl
@[simp] theorem State.withPoison_ciph (s : State) (x : List Nat) : (s.withPoison x).ciph = s.ciph := rfl
@[simp] theorem State.withPoison_stor (s : State) (x : List Nat) : (s.withPoison x).stor = s.stor := rfl
@[simp] theorem State.withPoison_rma (s : State) (x : List Nat) : (s.withPoison x).rma = s.rma := rfl
@[simp] theorem State.withPoison_time (s : State) (x : List Nat) : (s.withPoison x).time = s.time := rfl
@[simp] theorem State.withPoison_led (s : State) (x : List Nat) : (s.withPoison x).led = s.led := rfl
@[simp] theorem State.withPoison_cal (s : State) (x : List Nat) : (s.withPoison x).cal = s.cal := rfl
@[simp] theorem State.withPoison_pkg (s : State) (x : List Nat) : (s.withPoison x).pkg = s.pkg := rfl
@[simp] theorem State.withPoison_stc (s : State) (x : List Nat) : (s.withPoison x).stc = s.stc := rfl
@[simp] theorem State.withPoison_sq (s : State) (x : List Nat) : (s.withPoison x).sq = s.sq := rfl
@[simp] theorem State.withPoison_boot (s : State) (x : List Nat) : (s.withPoison x).boot = s.boot := rfl
@[simp] theorem State.withPoison_tr (s : State) (x : List Nat) : (s.withPoison x).tr = s.tr := rfl
@[simp] theorem State.withPoison_dbg (s : State) (x : List Nat) : (s.withPoison x).dbg = s.dbg := rfl
@[simp] theorem State.withPoison_tap (s : State) (x : List Nat) : (s.withPoison x).tap = s.tap := rfl
@[simp] theorem State.withPoison_ccr (s : State) (x : List Nat) : (s.withPoison x).ccr = s.ccr := rfl
@[simp] theorem State.withPoison_harts (s : State) (x : List Nat) : (s.withPoison x).harts = s.harts := rfl
@[simp] theorem State.withPoison_request (s : State) (x : List Nat) : (s.withPoison x).request = s.request := rfl
@[simp] theorem State.withPoison_faultTimes (s : State) (x : List Nat) : (s.withPoison x).faultTimes = s.faultTimes := rfl
@[simp] theorem State.withPoison_resetTimes (s : State) (x : List Nat) : (s.withPoison x).resetTimes = s.resetTimes := rfl
@[simp] theorem State.withPoison_lateFaults (s : State) (x : List Nat) : (s.withPoison x).lateFaults = s.lateFaults := rfl

/-! ### withCfgs -/

@[simp] theorem State.withCfgs_pending (s : State) (x : Map FnCfg) : (s.withCfgs x).pending = s.pending := rfl
@[simp] theorem State.withCfgs_powered (s : State) (x : Map FnCfg) : (s.withCfgs x).powered = s.powered := rfl
@[simp] theorem State.withCfgs_regs (s : State) (x : Map FnCfg) : (s.withCfgs x).regs = s.regs := rfl
@[simp] theorem State.withCfgs_locks (s : State) (x : Map FnCfg) : (s.withCfgs x).locks = s.locks := rfl
@[simp] theorem State.withCfgs_latches (s : State) (x : Map FnCfg) : (s.withCfgs x).latches = s.latches := rfl
@[simp] theorem State.withCfgs_log (s : State) (x : Map FnCfg) : (s.withCfgs x).log = s.log := rfl
@[simp] theorem State.withCfgs_staged (s : State) (x : Map FnCfg) : (s.withCfgs x).staged = s.staged := rfl
@[simp] theorem State.withCfgs_out (s : State) (x : Map FnCfg) : (s.withCfgs x).out = s.out := rfl
@[simp] theorem State.withCfgs_draws (s : State) (x : Map FnCfg) : (s.withCfgs x).draws = s.draws := rfl
@[simp] theorem State.withCfgs_traceLost (s : State) (x : Map FnCfg) : (s.withCfgs x).traceLost = s.traceLost := rfl
@[simp] theorem State.withCfgs_mem (s : State) (x : Map FnCfg) : (s.withCfgs x).mem = s.mem := rfl
@[simp] theorem State.withCfgs_staging (s : State) (x : Map FnCfg) : (s.withCfgs x).staging = s.staging := rfl
@[simp] theorem State.withCfgs_poison (s : State) (x : Map FnCfg) : (s.withCfgs x).poison = s.poison := rfl
@[simp] theorem State.withCfgs_cfgs (s : State) (x : Map FnCfg) : (s.withCfgs x).cfgs = x := rfl
@[simp] theorem State.withCfgs_hosts (s : State) (x : Map FnCfg) : (s.withCfgs x).hosts = s.hosts := rfl
@[simp] theorem State.withCfgs_dlogs (s : State) (x : Map FnCfg) : (s.withCfgs x).dlogs = s.dlogs := rfl
@[simp] theorem State.withCfgs_rings (s : State) (x : Map FnCfg) : (s.withCfgs x).rings = s.rings := rfl
@[simp] theorem State.withCfgs_mac (s : State) (x : Map FnCfg) : (s.withCfgs x).mac = s.mac := rfl
@[simp] theorem State.withCfgs_tbl (s : State) (x : Map FnCfg) : (s.withCfgs x).tbl = s.tbl := rfl
@[simp] theorem State.withCfgs_prog (s : State) (x : Map FnCfg) : (s.withCfgs x).prog = s.prog := rfl
@[simp] theorem State.withCfgs_fx (s : State) (x : Map FnCfg) : (s.withCfgs x).fx = s.fx := rfl
@[simp] theorem State.withCfgs_tm (s : State) (x : Map FnCfg) : (s.withCfgs x).tm = s.tm := rfl
@[simp] theorem State.withCfgs_limits (s : State) (x : Map FnCfg) : (s.withCfgs x).limits = s.limits := rfl
@[simp] theorem State.withCfgs_faultsDue (s : State) (x : Map FnCfg) : (s.withCfgs x).faultsDue = s.faultsDue := rfl
@[simp] theorem State.withCfgs_ciph (s : State) (x : Map FnCfg) : (s.withCfgs x).ciph = s.ciph := rfl
@[simp] theorem State.withCfgs_stor (s : State) (x : Map FnCfg) : (s.withCfgs x).stor = s.stor := rfl
@[simp] theorem State.withCfgs_rma (s : State) (x : Map FnCfg) : (s.withCfgs x).rma = s.rma := rfl
@[simp] theorem State.withCfgs_time (s : State) (x : Map FnCfg) : (s.withCfgs x).time = s.time := rfl
@[simp] theorem State.withCfgs_led (s : State) (x : Map FnCfg) : (s.withCfgs x).led = s.led := rfl
@[simp] theorem State.withCfgs_cal (s : State) (x : Map FnCfg) : (s.withCfgs x).cal = s.cal := rfl
@[simp] theorem State.withCfgs_pkg (s : State) (x : Map FnCfg) : (s.withCfgs x).pkg = s.pkg := rfl
@[simp] theorem State.withCfgs_stc (s : State) (x : Map FnCfg) : (s.withCfgs x).stc = s.stc := rfl
@[simp] theorem State.withCfgs_sq (s : State) (x : Map FnCfg) : (s.withCfgs x).sq = s.sq := rfl
@[simp] theorem State.withCfgs_boot (s : State) (x : Map FnCfg) : (s.withCfgs x).boot = s.boot := rfl
@[simp] theorem State.withCfgs_tr (s : State) (x : Map FnCfg) : (s.withCfgs x).tr = s.tr := rfl
@[simp] theorem State.withCfgs_dbg (s : State) (x : Map FnCfg) : (s.withCfgs x).dbg = s.dbg := rfl
@[simp] theorem State.withCfgs_tap (s : State) (x : Map FnCfg) : (s.withCfgs x).tap = s.tap := rfl
@[simp] theorem State.withCfgs_ccr (s : State) (x : Map FnCfg) : (s.withCfgs x).ccr = s.ccr := rfl
@[simp] theorem State.withCfgs_harts (s : State) (x : Map FnCfg) : (s.withCfgs x).harts = s.harts := rfl
@[simp] theorem State.withCfgs_request (s : State) (x : Map FnCfg) : (s.withCfgs x).request = s.request := rfl
@[simp] theorem State.withCfgs_faultTimes (s : State) (x : Map FnCfg) : (s.withCfgs x).faultTimes = s.faultTimes := rfl
@[simp] theorem State.withCfgs_resetTimes (s : State) (x : Map FnCfg) : (s.withCfgs x).resetTimes = s.resetTimes := rfl
@[simp] theorem State.withCfgs_lateFaults (s : State) (x : Map FnCfg) : (s.withCfgs x).lateFaults = s.lateFaults := rfl

/-! ### withHosts -/

@[simp] theorem State.withHosts_pending (s : State) (x : Map HostLink) : (s.withHosts x).pending = s.pending := rfl
@[simp] theorem State.withHosts_powered (s : State) (x : Map HostLink) : (s.withHosts x).powered = s.powered := rfl
@[simp] theorem State.withHosts_regs (s : State) (x : Map HostLink) : (s.withHosts x).regs = s.regs := rfl
@[simp] theorem State.withHosts_locks (s : State) (x : Map HostLink) : (s.withHosts x).locks = s.locks := rfl
@[simp] theorem State.withHosts_latches (s : State) (x : Map HostLink) : (s.withHosts x).latches = s.latches := rfl
@[simp] theorem State.withHosts_log (s : State) (x : Map HostLink) : (s.withHosts x).log = s.log := rfl
@[simp] theorem State.withHosts_staged (s : State) (x : Map HostLink) : (s.withHosts x).staged = s.staged := rfl
@[simp] theorem State.withHosts_out (s : State) (x : Map HostLink) : (s.withHosts x).out = s.out := rfl
@[simp] theorem State.withHosts_draws (s : State) (x : Map HostLink) : (s.withHosts x).draws = s.draws := rfl
@[simp] theorem State.withHosts_traceLost (s : State) (x : Map HostLink) : (s.withHosts x).traceLost = s.traceLost := rfl
@[simp] theorem State.withHosts_mem (s : State) (x : Map HostLink) : (s.withHosts x).mem = s.mem := rfl
@[simp] theorem State.withHosts_staging (s : State) (x : Map HostLink) : (s.withHosts x).staging = s.staging := rfl
@[simp] theorem State.withHosts_poison (s : State) (x : Map HostLink) : (s.withHosts x).poison = s.poison := rfl
@[simp] theorem State.withHosts_cfgs (s : State) (x : Map HostLink) : (s.withHosts x).cfgs = s.cfgs := rfl
@[simp] theorem State.withHosts_hosts (s : State) (x : Map HostLink) : (s.withHosts x).hosts = x := rfl
@[simp] theorem State.withHosts_dlogs (s : State) (x : Map HostLink) : (s.withHosts x).dlogs = s.dlogs := rfl
@[simp] theorem State.withHosts_rings (s : State) (x : Map HostLink) : (s.withHosts x).rings = s.rings := rfl
@[simp] theorem State.withHosts_mac (s : State) (x : Map HostLink) : (s.withHosts x).mac = s.mac := rfl
@[simp] theorem State.withHosts_tbl (s : State) (x : Map HostLink) : (s.withHosts x).tbl = s.tbl := rfl
@[simp] theorem State.withHosts_prog (s : State) (x : Map HostLink) : (s.withHosts x).prog = s.prog := rfl
@[simp] theorem State.withHosts_fx (s : State) (x : Map HostLink) : (s.withHosts x).fx = s.fx := rfl
@[simp] theorem State.withHosts_tm (s : State) (x : Map HostLink) : (s.withHosts x).tm = s.tm := rfl
@[simp] theorem State.withHosts_limits (s : State) (x : Map HostLink) : (s.withHosts x).limits = s.limits := rfl
@[simp] theorem State.withHosts_faultsDue (s : State) (x : Map HostLink) : (s.withHosts x).faultsDue = s.faultsDue := rfl
@[simp] theorem State.withHosts_ciph (s : State) (x : Map HostLink) : (s.withHosts x).ciph = s.ciph := rfl
@[simp] theorem State.withHosts_stor (s : State) (x : Map HostLink) : (s.withHosts x).stor = s.stor := rfl
@[simp] theorem State.withHosts_rma (s : State) (x : Map HostLink) : (s.withHosts x).rma = s.rma := rfl
@[simp] theorem State.withHosts_time (s : State) (x : Map HostLink) : (s.withHosts x).time = s.time := rfl
@[simp] theorem State.withHosts_led (s : State) (x : Map HostLink) : (s.withHosts x).led = s.led := rfl
@[simp] theorem State.withHosts_cal (s : State) (x : Map HostLink) : (s.withHosts x).cal = s.cal := rfl
@[simp] theorem State.withHosts_pkg (s : State) (x : Map HostLink) : (s.withHosts x).pkg = s.pkg := rfl
@[simp] theorem State.withHosts_stc (s : State) (x : Map HostLink) : (s.withHosts x).stc = s.stc := rfl
@[simp] theorem State.withHosts_sq (s : State) (x : Map HostLink) : (s.withHosts x).sq = s.sq := rfl
@[simp] theorem State.withHosts_boot (s : State) (x : Map HostLink) : (s.withHosts x).boot = s.boot := rfl
@[simp] theorem State.withHosts_tr (s : State) (x : Map HostLink) : (s.withHosts x).tr = s.tr := rfl
@[simp] theorem State.withHosts_dbg (s : State) (x : Map HostLink) : (s.withHosts x).dbg = s.dbg := rfl
@[simp] theorem State.withHosts_tap (s : State) (x : Map HostLink) : (s.withHosts x).tap = s.tap := rfl
@[simp] theorem State.withHosts_ccr (s : State) (x : Map HostLink) : (s.withHosts x).ccr = s.ccr := rfl
@[simp] theorem State.withHosts_harts (s : State) (x : Map HostLink) : (s.withHosts x).harts = s.harts := rfl
@[simp] theorem State.withHosts_request (s : State) (x : Map HostLink) : (s.withHosts x).request = s.request := rfl
@[simp] theorem State.withHosts_faultTimes (s : State) (x : Map HostLink) : (s.withHosts x).faultTimes = s.faultTimes := rfl
@[simp] theorem State.withHosts_resetTimes (s : State) (x : Map HostLink) : (s.withHosts x).resetTimes = s.resetTimes := rfl
@[simp] theorem State.withHosts_lateFaults (s : State) (x : Map HostLink) : (s.withHosts x).lateFaults = s.lateFaults := rfl

/-! ### withDlogs -/

@[simp] theorem State.withDlogs_pending (s : State) (x : Map Dlog) : (s.withDlogs x).pending = s.pending := rfl
@[simp] theorem State.withDlogs_powered (s : State) (x : Map Dlog) : (s.withDlogs x).powered = s.powered := rfl
@[simp] theorem State.withDlogs_regs (s : State) (x : Map Dlog) : (s.withDlogs x).regs = s.regs := rfl
@[simp] theorem State.withDlogs_locks (s : State) (x : Map Dlog) : (s.withDlogs x).locks = s.locks := rfl
@[simp] theorem State.withDlogs_latches (s : State) (x : Map Dlog) : (s.withDlogs x).latches = s.latches := rfl
@[simp] theorem State.withDlogs_log (s : State) (x : Map Dlog) : (s.withDlogs x).log = s.log := rfl
@[simp] theorem State.withDlogs_staged (s : State) (x : Map Dlog) : (s.withDlogs x).staged = s.staged := rfl
@[simp] theorem State.withDlogs_out (s : State) (x : Map Dlog) : (s.withDlogs x).out = s.out := rfl
@[simp] theorem State.withDlogs_draws (s : State) (x : Map Dlog) : (s.withDlogs x).draws = s.draws := rfl
@[simp] theorem State.withDlogs_traceLost (s : State) (x : Map Dlog) : (s.withDlogs x).traceLost = s.traceLost := rfl
@[simp] theorem State.withDlogs_mem (s : State) (x : Map Dlog) : (s.withDlogs x).mem = s.mem := rfl
@[simp] theorem State.withDlogs_staging (s : State) (x : Map Dlog) : (s.withDlogs x).staging = s.staging := rfl
@[simp] theorem State.withDlogs_poison (s : State) (x : Map Dlog) : (s.withDlogs x).poison = s.poison := rfl
@[simp] theorem State.withDlogs_cfgs (s : State) (x : Map Dlog) : (s.withDlogs x).cfgs = s.cfgs := rfl
@[simp] theorem State.withDlogs_hosts (s : State) (x : Map Dlog) : (s.withDlogs x).hosts = s.hosts := rfl
@[simp] theorem State.withDlogs_dlogs (s : State) (x : Map Dlog) : (s.withDlogs x).dlogs = x := rfl
@[simp] theorem State.withDlogs_rings (s : State) (x : Map Dlog) : (s.withDlogs x).rings = s.rings := rfl
@[simp] theorem State.withDlogs_mac (s : State) (x : Map Dlog) : (s.withDlogs x).mac = s.mac := rfl
@[simp] theorem State.withDlogs_tbl (s : State) (x : Map Dlog) : (s.withDlogs x).tbl = s.tbl := rfl
@[simp] theorem State.withDlogs_prog (s : State) (x : Map Dlog) : (s.withDlogs x).prog = s.prog := rfl
@[simp] theorem State.withDlogs_fx (s : State) (x : Map Dlog) : (s.withDlogs x).fx = s.fx := rfl
@[simp] theorem State.withDlogs_tm (s : State) (x : Map Dlog) : (s.withDlogs x).tm = s.tm := rfl
@[simp] theorem State.withDlogs_limits (s : State) (x : Map Dlog) : (s.withDlogs x).limits = s.limits := rfl
@[simp] theorem State.withDlogs_faultsDue (s : State) (x : Map Dlog) : (s.withDlogs x).faultsDue = s.faultsDue := rfl
@[simp] theorem State.withDlogs_ciph (s : State) (x : Map Dlog) : (s.withDlogs x).ciph = s.ciph := rfl
@[simp] theorem State.withDlogs_stor (s : State) (x : Map Dlog) : (s.withDlogs x).stor = s.stor := rfl
@[simp] theorem State.withDlogs_rma (s : State) (x : Map Dlog) : (s.withDlogs x).rma = s.rma := rfl
@[simp] theorem State.withDlogs_time (s : State) (x : Map Dlog) : (s.withDlogs x).time = s.time := rfl
@[simp] theorem State.withDlogs_led (s : State) (x : Map Dlog) : (s.withDlogs x).led = s.led := rfl
@[simp] theorem State.withDlogs_cal (s : State) (x : Map Dlog) : (s.withDlogs x).cal = s.cal := rfl
@[simp] theorem State.withDlogs_pkg (s : State) (x : Map Dlog) : (s.withDlogs x).pkg = s.pkg := rfl
@[simp] theorem State.withDlogs_stc (s : State) (x : Map Dlog) : (s.withDlogs x).stc = s.stc := rfl
@[simp] theorem State.withDlogs_sq (s : State) (x : Map Dlog) : (s.withDlogs x).sq = s.sq := rfl
@[simp] theorem State.withDlogs_boot (s : State) (x : Map Dlog) : (s.withDlogs x).boot = s.boot := rfl
@[simp] theorem State.withDlogs_tr (s : State) (x : Map Dlog) : (s.withDlogs x).tr = s.tr := rfl
@[simp] theorem State.withDlogs_dbg (s : State) (x : Map Dlog) : (s.withDlogs x).dbg = s.dbg := rfl
@[simp] theorem State.withDlogs_tap (s : State) (x : Map Dlog) : (s.withDlogs x).tap = s.tap := rfl
@[simp] theorem State.withDlogs_ccr (s : State) (x : Map Dlog) : (s.withDlogs x).ccr = s.ccr := rfl
@[simp] theorem State.withDlogs_harts (s : State) (x : Map Dlog) : (s.withDlogs x).harts = s.harts := rfl
@[simp] theorem State.withDlogs_request (s : State) (x : Map Dlog) : (s.withDlogs x).request = s.request := rfl
@[simp] theorem State.withDlogs_faultTimes (s : State) (x : Map Dlog) : (s.withDlogs x).faultTimes = s.faultTimes := rfl
@[simp] theorem State.withDlogs_resetTimes (s : State) (x : Map Dlog) : (s.withDlogs x).resetTimes = s.resetTimes := rfl
@[simp] theorem State.withDlogs_lateFaults (s : State) (x : Map Dlog) : (s.withDlogs x).lateFaults = s.lateFaults := rfl

/-! ### withRings -/

@[simp] theorem State.withRings_pending (s : State) (x : Map RingSt) : (s.withRings x).pending = s.pending := rfl
@[simp] theorem State.withRings_powered (s : State) (x : Map RingSt) : (s.withRings x).powered = s.powered := rfl
@[simp] theorem State.withRings_regs (s : State) (x : Map RingSt) : (s.withRings x).regs = s.regs := rfl
@[simp] theorem State.withRings_locks (s : State) (x : Map RingSt) : (s.withRings x).locks = s.locks := rfl
@[simp] theorem State.withRings_latches (s : State) (x : Map RingSt) : (s.withRings x).latches = s.latches := rfl
@[simp] theorem State.withRings_log (s : State) (x : Map RingSt) : (s.withRings x).log = s.log := rfl
@[simp] theorem State.withRings_staged (s : State) (x : Map RingSt) : (s.withRings x).staged = s.staged := rfl
@[simp] theorem State.withRings_out (s : State) (x : Map RingSt) : (s.withRings x).out = s.out := rfl
@[simp] theorem State.withRings_draws (s : State) (x : Map RingSt) : (s.withRings x).draws = s.draws := rfl
@[simp] theorem State.withRings_traceLost (s : State) (x : Map RingSt) : (s.withRings x).traceLost = s.traceLost := rfl
@[simp] theorem State.withRings_mem (s : State) (x : Map RingSt) : (s.withRings x).mem = s.mem := rfl
@[simp] theorem State.withRings_staging (s : State) (x : Map RingSt) : (s.withRings x).staging = s.staging := rfl
@[simp] theorem State.withRings_poison (s : State) (x : Map RingSt) : (s.withRings x).poison = s.poison := rfl
@[simp] theorem State.withRings_cfgs (s : State) (x : Map RingSt) : (s.withRings x).cfgs = s.cfgs := rfl
@[simp] theorem State.withRings_hosts (s : State) (x : Map RingSt) : (s.withRings x).hosts = s.hosts := rfl
@[simp] theorem State.withRings_dlogs (s : State) (x : Map RingSt) : (s.withRings x).dlogs = s.dlogs := rfl
@[simp] theorem State.withRings_rings (s : State) (x : Map RingSt) : (s.withRings x).rings = x := rfl
@[simp] theorem State.withRings_mac (s : State) (x : Map RingSt) : (s.withRings x).mac = s.mac := rfl
@[simp] theorem State.withRings_tbl (s : State) (x : Map RingSt) : (s.withRings x).tbl = s.tbl := rfl
@[simp] theorem State.withRings_prog (s : State) (x : Map RingSt) : (s.withRings x).prog = s.prog := rfl
@[simp] theorem State.withRings_fx (s : State) (x : Map RingSt) : (s.withRings x).fx = s.fx := rfl
@[simp] theorem State.withRings_tm (s : State) (x : Map RingSt) : (s.withRings x).tm = s.tm := rfl
@[simp] theorem State.withRings_limits (s : State) (x : Map RingSt) : (s.withRings x).limits = s.limits := rfl
@[simp] theorem State.withRings_faultsDue (s : State) (x : Map RingSt) : (s.withRings x).faultsDue = s.faultsDue := rfl
@[simp] theorem State.withRings_ciph (s : State) (x : Map RingSt) : (s.withRings x).ciph = s.ciph := rfl
@[simp] theorem State.withRings_stor (s : State) (x : Map RingSt) : (s.withRings x).stor = s.stor := rfl
@[simp] theorem State.withRings_rma (s : State) (x : Map RingSt) : (s.withRings x).rma = s.rma := rfl
@[simp] theorem State.withRings_time (s : State) (x : Map RingSt) : (s.withRings x).time = s.time := rfl
@[simp] theorem State.withRings_led (s : State) (x : Map RingSt) : (s.withRings x).led = s.led := rfl
@[simp] theorem State.withRings_cal (s : State) (x : Map RingSt) : (s.withRings x).cal = s.cal := rfl
@[simp] theorem State.withRings_pkg (s : State) (x : Map RingSt) : (s.withRings x).pkg = s.pkg := rfl
@[simp] theorem State.withRings_stc (s : State) (x : Map RingSt) : (s.withRings x).stc = s.stc := rfl
@[simp] theorem State.withRings_sq (s : State) (x : Map RingSt) : (s.withRings x).sq = s.sq := rfl
@[simp] theorem State.withRings_boot (s : State) (x : Map RingSt) : (s.withRings x).boot = s.boot := rfl
@[simp] theorem State.withRings_tr (s : State) (x : Map RingSt) : (s.withRings x).tr = s.tr := rfl
@[simp] theorem State.withRings_dbg (s : State) (x : Map RingSt) : (s.withRings x).dbg = s.dbg := rfl
@[simp] theorem State.withRings_tap (s : State) (x : Map RingSt) : (s.withRings x).tap = s.tap := rfl
@[simp] theorem State.withRings_ccr (s : State) (x : Map RingSt) : (s.withRings x).ccr = s.ccr := rfl
@[simp] theorem State.withRings_harts (s : State) (x : Map RingSt) : (s.withRings x).harts = s.harts := rfl
@[simp] theorem State.withRings_request (s : State) (x : Map RingSt) : (s.withRings x).request = s.request := rfl
@[simp] theorem State.withRings_faultTimes (s : State) (x : Map RingSt) : (s.withRings x).faultTimes = s.faultTimes := rfl
@[simp] theorem State.withRings_resetTimes (s : State) (x : Map RingSt) : (s.withRings x).resetTimes = s.resetTimes := rfl
@[simp] theorem State.withRings_lateFaults (s : State) (x : Map RingSt) : (s.withRings x).lateFaults = s.lateFaults := rfl

/-! ### withMac -/

@[simp] theorem State.withMac_pending (s : State) (x : MacSt) : (s.withMac x).pending = s.pending := rfl
@[simp] theorem State.withMac_powered (s : State) (x : MacSt) : (s.withMac x).powered = s.powered := rfl
@[simp] theorem State.withMac_regs (s : State) (x : MacSt) : (s.withMac x).regs = s.regs := rfl
@[simp] theorem State.withMac_locks (s : State) (x : MacSt) : (s.withMac x).locks = s.locks := rfl
@[simp] theorem State.withMac_latches (s : State) (x : MacSt) : (s.withMac x).latches = s.latches := rfl
@[simp] theorem State.withMac_log (s : State) (x : MacSt) : (s.withMac x).log = s.log := rfl
@[simp] theorem State.withMac_staged (s : State) (x : MacSt) : (s.withMac x).staged = s.staged := rfl
@[simp] theorem State.withMac_out (s : State) (x : MacSt) : (s.withMac x).out = s.out := rfl
@[simp] theorem State.withMac_draws (s : State) (x : MacSt) : (s.withMac x).draws = s.draws := rfl
@[simp] theorem State.withMac_traceLost (s : State) (x : MacSt) : (s.withMac x).traceLost = s.traceLost := rfl
@[simp] theorem State.withMac_mem (s : State) (x : MacSt) : (s.withMac x).mem = s.mem := rfl
@[simp] theorem State.withMac_staging (s : State) (x : MacSt) : (s.withMac x).staging = s.staging := rfl
@[simp] theorem State.withMac_poison (s : State) (x : MacSt) : (s.withMac x).poison = s.poison := rfl
@[simp] theorem State.withMac_cfgs (s : State) (x : MacSt) : (s.withMac x).cfgs = s.cfgs := rfl
@[simp] theorem State.withMac_hosts (s : State) (x : MacSt) : (s.withMac x).hosts = s.hosts := rfl
@[simp] theorem State.withMac_dlogs (s : State) (x : MacSt) : (s.withMac x).dlogs = s.dlogs := rfl
@[simp] theorem State.withMac_rings (s : State) (x : MacSt) : (s.withMac x).rings = s.rings := rfl
@[simp] theorem State.withMac_mac (s : State) (x : MacSt) : (s.withMac x).mac = x := rfl
@[simp] theorem State.withMac_tbl (s : State) (x : MacSt) : (s.withMac x).tbl = s.tbl := rfl
@[simp] theorem State.withMac_prog (s : State) (x : MacSt) : (s.withMac x).prog = s.prog := rfl
@[simp] theorem State.withMac_fx (s : State) (x : MacSt) : (s.withMac x).fx = s.fx := rfl
@[simp] theorem State.withMac_tm (s : State) (x : MacSt) : (s.withMac x).tm = s.tm := rfl
@[simp] theorem State.withMac_limits (s : State) (x : MacSt) : (s.withMac x).limits = s.limits := rfl
@[simp] theorem State.withMac_faultsDue (s : State) (x : MacSt) : (s.withMac x).faultsDue = s.faultsDue := rfl
@[simp] theorem State.withMac_ciph (s : State) (x : MacSt) : (s.withMac x).ciph = s.ciph := rfl
@[simp] theorem State.withMac_stor (s : State) (x : MacSt) : (s.withMac x).stor = s.stor := rfl
@[simp] theorem State.withMac_rma (s : State) (x : MacSt) : (s.withMac x).rma = s.rma := rfl
@[simp] theorem State.withMac_time (s : State) (x : MacSt) : (s.withMac x).time = s.time := rfl
@[simp] theorem State.withMac_led (s : State) (x : MacSt) : (s.withMac x).led = s.led := rfl
@[simp] theorem State.withMac_cal (s : State) (x : MacSt) : (s.withMac x).cal = s.cal := rfl
@[simp] theorem State.withMac_pkg (s : State) (x : MacSt) : (s.withMac x).pkg = s.pkg := rfl
@[simp] theorem State.withMac_stc (s : State) (x : MacSt) : (s.withMac x).stc = s.stc := rfl
@[simp] theorem State.withMac_sq (s : State) (x : MacSt) : (s.withMac x).sq = s.sq := rfl
@[simp] theorem State.withMac_boot (s : State) (x : MacSt) : (s.withMac x).boot = s.boot := rfl
@[simp] theorem State.withMac_tr (s : State) (x : MacSt) : (s.withMac x).tr = s.tr := rfl
@[simp] theorem State.withMac_dbg (s : State) (x : MacSt) : (s.withMac x).dbg = s.dbg := rfl
@[simp] theorem State.withMac_tap (s : State) (x : MacSt) : (s.withMac x).tap = s.tap := rfl
@[simp] theorem State.withMac_ccr (s : State) (x : MacSt) : (s.withMac x).ccr = s.ccr := rfl
@[simp] theorem State.withMac_harts (s : State) (x : MacSt) : (s.withMac x).harts = s.harts := rfl
@[simp] theorem State.withMac_request (s : State) (x : MacSt) : (s.withMac x).request = s.request := rfl
@[simp] theorem State.withMac_faultTimes (s : State) (x : MacSt) : (s.withMac x).faultTimes = s.faultTimes := rfl
@[simp] theorem State.withMac_resetTimes (s : State) (x : MacSt) : (s.withMac x).resetTimes = s.resetTimes := rfl
@[simp] theorem State.withMac_lateFaults (s : State) (x : MacSt) : (s.withMac x).lateFaults = s.lateFaults := rfl

/-! ### withTbl -/

@[simp] theorem State.withTbl_pending (s : State) (x : TblSt) : (s.withTbl x).pending = s.pending := rfl
@[simp] theorem State.withTbl_powered (s : State) (x : TblSt) : (s.withTbl x).powered = s.powered := rfl
@[simp] theorem State.withTbl_regs (s : State) (x : TblSt) : (s.withTbl x).regs = s.regs := rfl
@[simp] theorem State.withTbl_locks (s : State) (x : TblSt) : (s.withTbl x).locks = s.locks := rfl
@[simp] theorem State.withTbl_latches (s : State) (x : TblSt) : (s.withTbl x).latches = s.latches := rfl
@[simp] theorem State.withTbl_log (s : State) (x : TblSt) : (s.withTbl x).log = s.log := rfl
@[simp] theorem State.withTbl_staged (s : State) (x : TblSt) : (s.withTbl x).staged = s.staged := rfl
@[simp] theorem State.withTbl_out (s : State) (x : TblSt) : (s.withTbl x).out = s.out := rfl
@[simp] theorem State.withTbl_draws (s : State) (x : TblSt) : (s.withTbl x).draws = s.draws := rfl
@[simp] theorem State.withTbl_traceLost (s : State) (x : TblSt) : (s.withTbl x).traceLost = s.traceLost := rfl
@[simp] theorem State.withTbl_mem (s : State) (x : TblSt) : (s.withTbl x).mem = s.mem := rfl
@[simp] theorem State.withTbl_staging (s : State) (x : TblSt) : (s.withTbl x).staging = s.staging := rfl
@[simp] theorem State.withTbl_poison (s : State) (x : TblSt) : (s.withTbl x).poison = s.poison := rfl
@[simp] theorem State.withTbl_cfgs (s : State) (x : TblSt) : (s.withTbl x).cfgs = s.cfgs := rfl
@[simp] theorem State.withTbl_hosts (s : State) (x : TblSt) : (s.withTbl x).hosts = s.hosts := rfl
@[simp] theorem State.withTbl_dlogs (s : State) (x : TblSt) : (s.withTbl x).dlogs = s.dlogs := rfl
@[simp] theorem State.withTbl_rings (s : State) (x : TblSt) : (s.withTbl x).rings = s.rings := rfl
@[simp] theorem State.withTbl_mac (s : State) (x : TblSt) : (s.withTbl x).mac = s.mac := rfl
@[simp] theorem State.withTbl_tbl (s : State) (x : TblSt) : (s.withTbl x).tbl = x := rfl
@[simp] theorem State.withTbl_prog (s : State) (x : TblSt) : (s.withTbl x).prog = s.prog := rfl
@[simp] theorem State.withTbl_fx (s : State) (x : TblSt) : (s.withTbl x).fx = s.fx := rfl
@[simp] theorem State.withTbl_tm (s : State) (x : TblSt) : (s.withTbl x).tm = s.tm := rfl
@[simp] theorem State.withTbl_limits (s : State) (x : TblSt) : (s.withTbl x).limits = s.limits := rfl
@[simp] theorem State.withTbl_faultsDue (s : State) (x : TblSt) : (s.withTbl x).faultsDue = s.faultsDue := rfl
@[simp] theorem State.withTbl_ciph (s : State) (x : TblSt) : (s.withTbl x).ciph = s.ciph := rfl
@[simp] theorem State.withTbl_stor (s : State) (x : TblSt) : (s.withTbl x).stor = s.stor := rfl
@[simp] theorem State.withTbl_rma (s : State) (x : TblSt) : (s.withTbl x).rma = s.rma := rfl
@[simp] theorem State.withTbl_time (s : State) (x : TblSt) : (s.withTbl x).time = s.time := rfl
@[simp] theorem State.withTbl_led (s : State) (x : TblSt) : (s.withTbl x).led = s.led := rfl
@[simp] theorem State.withTbl_cal (s : State) (x : TblSt) : (s.withTbl x).cal = s.cal := rfl
@[simp] theorem State.withTbl_pkg (s : State) (x : TblSt) : (s.withTbl x).pkg = s.pkg := rfl
@[simp] theorem State.withTbl_stc (s : State) (x : TblSt) : (s.withTbl x).stc = s.stc := rfl
@[simp] theorem State.withTbl_sq (s : State) (x : TblSt) : (s.withTbl x).sq = s.sq := rfl
@[simp] theorem State.withTbl_boot (s : State) (x : TblSt) : (s.withTbl x).boot = s.boot := rfl
@[simp] theorem State.withTbl_tr (s : State) (x : TblSt) : (s.withTbl x).tr = s.tr := rfl
@[simp] theorem State.withTbl_dbg (s : State) (x : TblSt) : (s.withTbl x).dbg = s.dbg := rfl
@[simp] theorem State.withTbl_tap (s : State) (x : TblSt) : (s.withTbl x).tap = s.tap := rfl
@[simp] theorem State.withTbl_ccr (s : State) (x : TblSt) : (s.withTbl x).ccr = s.ccr := rfl
@[simp] theorem State.withTbl_harts (s : State) (x : TblSt) : (s.withTbl x).harts = s.harts := rfl
@[simp] theorem State.withTbl_request (s : State) (x : TblSt) : (s.withTbl x).request = s.request := rfl
@[simp] theorem State.withTbl_faultTimes (s : State) (x : TblSt) : (s.withTbl x).faultTimes = s.faultTimes := rfl
@[simp] theorem State.withTbl_resetTimes (s : State) (x : TblSt) : (s.withTbl x).resetTimes = s.resetTimes := rfl
@[simp] theorem State.withTbl_lateFaults (s : State) (x : TblSt) : (s.withTbl x).lateFaults = s.lateFaults := rfl

/-! ### withProg -/

@[simp] theorem State.withProg_pending (s : State) (x : ProgSt) : (s.withProg x).pending = s.pending := rfl
@[simp] theorem State.withProg_powered (s : State) (x : ProgSt) : (s.withProg x).powered = s.powered := rfl
@[simp] theorem State.withProg_regs (s : State) (x : ProgSt) : (s.withProg x).regs = s.regs := rfl
@[simp] theorem State.withProg_locks (s : State) (x : ProgSt) : (s.withProg x).locks = s.locks := rfl
@[simp] theorem State.withProg_latches (s : State) (x : ProgSt) : (s.withProg x).latches = s.latches := rfl
@[simp] theorem State.withProg_log (s : State) (x : ProgSt) : (s.withProg x).log = s.log := rfl
@[simp] theorem State.withProg_staged (s : State) (x : ProgSt) : (s.withProg x).staged = s.staged := rfl
@[simp] theorem State.withProg_out (s : State) (x : ProgSt) : (s.withProg x).out = s.out := rfl
@[simp] theorem State.withProg_draws (s : State) (x : ProgSt) : (s.withProg x).draws = s.draws := rfl
@[simp] theorem State.withProg_traceLost (s : State) (x : ProgSt) : (s.withProg x).traceLost = s.traceLost := rfl
@[simp] theorem State.withProg_mem (s : State) (x : ProgSt) : (s.withProg x).mem = s.mem := rfl
@[simp] theorem State.withProg_staging (s : State) (x : ProgSt) : (s.withProg x).staging = s.staging := rfl
@[simp] theorem State.withProg_poison (s : State) (x : ProgSt) : (s.withProg x).poison = s.poison := rfl
@[simp] theorem State.withProg_cfgs (s : State) (x : ProgSt) : (s.withProg x).cfgs = s.cfgs := rfl
@[simp] theorem State.withProg_hosts (s : State) (x : ProgSt) : (s.withProg x).hosts = s.hosts := rfl
@[simp] theorem State.withProg_dlogs (s : State) (x : ProgSt) : (s.withProg x).dlogs = s.dlogs := rfl
@[simp] theorem State.withProg_rings (s : State) (x : ProgSt) : (s.withProg x).rings = s.rings := rfl
@[simp] theorem State.withProg_mac (s : State) (x : ProgSt) : (s.withProg x).mac = s.mac := rfl
@[simp] theorem State.withProg_tbl (s : State) (x : ProgSt) : (s.withProg x).tbl = s.tbl := rfl
@[simp] theorem State.withProg_prog (s : State) (x : ProgSt) : (s.withProg x).prog = x := rfl
@[simp] theorem State.withProg_fx (s : State) (x : ProgSt) : (s.withProg x).fx = s.fx := rfl
@[simp] theorem State.withProg_tm (s : State) (x : ProgSt) : (s.withProg x).tm = s.tm := rfl
@[simp] theorem State.withProg_limits (s : State) (x : ProgSt) : (s.withProg x).limits = s.limits := rfl
@[simp] theorem State.withProg_faultsDue (s : State) (x : ProgSt) : (s.withProg x).faultsDue = s.faultsDue := rfl
@[simp] theorem State.withProg_ciph (s : State) (x : ProgSt) : (s.withProg x).ciph = s.ciph := rfl
@[simp] theorem State.withProg_stor (s : State) (x : ProgSt) : (s.withProg x).stor = s.stor := rfl
@[simp] theorem State.withProg_rma (s : State) (x : ProgSt) : (s.withProg x).rma = s.rma := rfl
@[simp] theorem State.withProg_time (s : State) (x : ProgSt) : (s.withProg x).time = s.time := rfl
@[simp] theorem State.withProg_led (s : State) (x : ProgSt) : (s.withProg x).led = s.led := rfl
@[simp] theorem State.withProg_cal (s : State) (x : ProgSt) : (s.withProg x).cal = s.cal := rfl
@[simp] theorem State.withProg_pkg (s : State) (x : ProgSt) : (s.withProg x).pkg = s.pkg := rfl
@[simp] theorem State.withProg_stc (s : State) (x : ProgSt) : (s.withProg x).stc = s.stc := rfl
@[simp] theorem State.withProg_sq (s : State) (x : ProgSt) : (s.withProg x).sq = s.sq := rfl
@[simp] theorem State.withProg_boot (s : State) (x : ProgSt) : (s.withProg x).boot = s.boot := rfl
@[simp] theorem State.withProg_tr (s : State) (x : ProgSt) : (s.withProg x).tr = s.tr := rfl
@[simp] theorem State.withProg_dbg (s : State) (x : ProgSt) : (s.withProg x).dbg = s.dbg := rfl
@[simp] theorem State.withProg_tap (s : State) (x : ProgSt) : (s.withProg x).tap = s.tap := rfl
@[simp] theorem State.withProg_ccr (s : State) (x : ProgSt) : (s.withProg x).ccr = s.ccr := rfl
@[simp] theorem State.withProg_harts (s : State) (x : ProgSt) : (s.withProg x).harts = s.harts := rfl
@[simp] theorem State.withProg_request (s : State) (x : ProgSt) : (s.withProg x).request = s.request := rfl
@[simp] theorem State.withProg_faultTimes (s : State) (x : ProgSt) : (s.withProg x).faultTimes = s.faultTimes := rfl
@[simp] theorem State.withProg_resetTimes (s : State) (x : ProgSt) : (s.withProg x).resetTimes = s.resetTimes := rfl
@[simp] theorem State.withProg_lateFaults (s : State) (x : ProgSt) : (s.withProg x).lateFaults = s.lateFaults := rfl

/-! ### withFx -/

@[simp] theorem State.withFx_pending (s : State) (x : FxSt) : (s.withFx x).pending = s.pending := rfl
@[simp] theorem State.withFx_powered (s : State) (x : FxSt) : (s.withFx x).powered = s.powered := rfl
@[simp] theorem State.withFx_regs (s : State) (x : FxSt) : (s.withFx x).regs = s.regs := rfl
@[simp] theorem State.withFx_locks (s : State) (x : FxSt) : (s.withFx x).locks = s.locks := rfl
@[simp] theorem State.withFx_latches (s : State) (x : FxSt) : (s.withFx x).latches = s.latches := rfl
@[simp] theorem State.withFx_log (s : State) (x : FxSt) : (s.withFx x).log = s.log := rfl
@[simp] theorem State.withFx_staged (s : State) (x : FxSt) : (s.withFx x).staged = s.staged := rfl
@[simp] theorem State.withFx_out (s : State) (x : FxSt) : (s.withFx x).out = s.out := rfl
@[simp] theorem State.withFx_draws (s : State) (x : FxSt) : (s.withFx x).draws = s.draws := rfl
@[simp] theorem State.withFx_traceLost (s : State) (x : FxSt) : (s.withFx x).traceLost = s.traceLost := rfl
@[simp] theorem State.withFx_mem (s : State) (x : FxSt) : (s.withFx x).mem = s.mem := rfl
@[simp] theorem State.withFx_staging (s : State) (x : FxSt) : (s.withFx x).staging = s.staging := rfl
@[simp] theorem State.withFx_poison (s : State) (x : FxSt) : (s.withFx x).poison = s.poison := rfl
@[simp] theorem State.withFx_cfgs (s : State) (x : FxSt) : (s.withFx x).cfgs = s.cfgs := rfl
@[simp] theorem State.withFx_hosts (s : State) (x : FxSt) : (s.withFx x).hosts = s.hosts := rfl
@[simp] theorem State.withFx_dlogs (s : State) (x : FxSt) : (s.withFx x).dlogs = s.dlogs := rfl
@[simp] theorem State.withFx_rings (s : State) (x : FxSt) : (s.withFx x).rings = s.rings := rfl
@[simp] theorem State.withFx_mac (s : State) (x : FxSt) : (s.withFx x).mac = s.mac := rfl
@[simp] theorem State.withFx_tbl (s : State) (x : FxSt) : (s.withFx x).tbl = s.tbl := rfl
@[simp] theorem State.withFx_prog (s : State) (x : FxSt) : (s.withFx x).prog = s.prog := rfl
@[simp] theorem State.withFx_fx (s : State) (x : FxSt) : (s.withFx x).fx = x := rfl
@[simp] theorem State.withFx_tm (s : State) (x : FxSt) : (s.withFx x).tm = s.tm := rfl
@[simp] theorem State.withFx_limits (s : State) (x : FxSt) : (s.withFx x).limits = s.limits := rfl
@[simp] theorem State.withFx_faultsDue (s : State) (x : FxSt) : (s.withFx x).faultsDue = s.faultsDue := rfl
@[simp] theorem State.withFx_ciph (s : State) (x : FxSt) : (s.withFx x).ciph = s.ciph := rfl
@[simp] theorem State.withFx_stor (s : State) (x : FxSt) : (s.withFx x).stor = s.stor := rfl
@[simp] theorem State.withFx_rma (s : State) (x : FxSt) : (s.withFx x).rma = s.rma := rfl
@[simp] theorem State.withFx_time (s : State) (x : FxSt) : (s.withFx x).time = s.time := rfl
@[simp] theorem State.withFx_led (s : State) (x : FxSt) : (s.withFx x).led = s.led := rfl
@[simp] theorem State.withFx_cal (s : State) (x : FxSt) : (s.withFx x).cal = s.cal := rfl
@[simp] theorem State.withFx_pkg (s : State) (x : FxSt) : (s.withFx x).pkg = s.pkg := rfl
@[simp] theorem State.withFx_stc (s : State) (x : FxSt) : (s.withFx x).stc = s.stc := rfl
@[simp] theorem State.withFx_sq (s : State) (x : FxSt) : (s.withFx x).sq = s.sq := rfl
@[simp] theorem State.withFx_boot (s : State) (x : FxSt) : (s.withFx x).boot = s.boot := rfl
@[simp] theorem State.withFx_tr (s : State) (x : FxSt) : (s.withFx x).tr = s.tr := rfl
@[simp] theorem State.withFx_dbg (s : State) (x : FxSt) : (s.withFx x).dbg = s.dbg := rfl
@[simp] theorem State.withFx_tap (s : State) (x : FxSt) : (s.withFx x).tap = s.tap := rfl
@[simp] theorem State.withFx_ccr (s : State) (x : FxSt) : (s.withFx x).ccr = s.ccr := rfl
@[simp] theorem State.withFx_harts (s : State) (x : FxSt) : (s.withFx x).harts = s.harts := rfl
@[simp] theorem State.withFx_request (s : State) (x : FxSt) : (s.withFx x).request = s.request := rfl
@[simp] theorem State.withFx_faultTimes (s : State) (x : FxSt) : (s.withFx x).faultTimes = s.faultTimes := rfl
@[simp] theorem State.withFx_resetTimes (s : State) (x : FxSt) : (s.withFx x).resetTimes = s.resetTimes := rfl
@[simp] theorem State.withFx_lateFaults (s : State) (x : FxSt) : (s.withFx x).lateFaults = s.lateFaults := rfl

/-! ### withTm -/

@[simp] theorem State.withTm_pending (s : State) (x : TmSt) : (s.withTm x).pending = s.pending := rfl
@[simp] theorem State.withTm_powered (s : State) (x : TmSt) : (s.withTm x).powered = s.powered := rfl
@[simp] theorem State.withTm_regs (s : State) (x : TmSt) : (s.withTm x).regs = s.regs := rfl
@[simp] theorem State.withTm_locks (s : State) (x : TmSt) : (s.withTm x).locks = s.locks := rfl
@[simp] theorem State.withTm_latches (s : State) (x : TmSt) : (s.withTm x).latches = s.latches := rfl
@[simp] theorem State.withTm_log (s : State) (x : TmSt) : (s.withTm x).log = s.log := rfl
@[simp] theorem State.withTm_staged (s : State) (x : TmSt) : (s.withTm x).staged = s.staged := rfl
@[simp] theorem State.withTm_out (s : State) (x : TmSt) : (s.withTm x).out = s.out := rfl
@[simp] theorem State.withTm_draws (s : State) (x : TmSt) : (s.withTm x).draws = s.draws := rfl
@[simp] theorem State.withTm_traceLost (s : State) (x : TmSt) : (s.withTm x).traceLost = s.traceLost := rfl
@[simp] theorem State.withTm_mem (s : State) (x : TmSt) : (s.withTm x).mem = s.mem := rfl
@[simp] theorem State.withTm_staging (s : State) (x : TmSt) : (s.withTm x).staging = s.staging := rfl
@[simp] theorem State.withTm_poison (s : State) (x : TmSt) : (s.withTm x).poison = s.poison := rfl
@[simp] theorem State.withTm_cfgs (s : State) (x : TmSt) : (s.withTm x).cfgs = s.cfgs := rfl
@[simp] theorem State.withTm_hosts (s : State) (x : TmSt) : (s.withTm x).hosts = s.hosts := rfl
@[simp] theorem State.withTm_dlogs (s : State) (x : TmSt) : (s.withTm x).dlogs = s.dlogs := rfl
@[simp] theorem State.withTm_rings (s : State) (x : TmSt) : (s.withTm x).rings = s.rings := rfl
@[simp] theorem State.withTm_mac (s : State) (x : TmSt) : (s.withTm x).mac = s.mac := rfl
@[simp] theorem State.withTm_tbl (s : State) (x : TmSt) : (s.withTm x).tbl = s.tbl := rfl
@[simp] theorem State.withTm_prog (s : State) (x : TmSt) : (s.withTm x).prog = s.prog := rfl
@[simp] theorem State.withTm_fx (s : State) (x : TmSt) : (s.withTm x).fx = s.fx := rfl
@[simp] theorem State.withTm_tm (s : State) (x : TmSt) : (s.withTm x).tm = x := rfl
@[simp] theorem State.withTm_limits (s : State) (x : TmSt) : (s.withTm x).limits = s.limits := rfl
@[simp] theorem State.withTm_faultsDue (s : State) (x : TmSt) : (s.withTm x).faultsDue = s.faultsDue := rfl
@[simp] theorem State.withTm_ciph (s : State) (x : TmSt) : (s.withTm x).ciph = s.ciph := rfl
@[simp] theorem State.withTm_stor (s : State) (x : TmSt) : (s.withTm x).stor = s.stor := rfl
@[simp] theorem State.withTm_rma (s : State) (x : TmSt) : (s.withTm x).rma = s.rma := rfl
@[simp] theorem State.withTm_time (s : State) (x : TmSt) : (s.withTm x).time = s.time := rfl
@[simp] theorem State.withTm_led (s : State) (x : TmSt) : (s.withTm x).led = s.led := rfl
@[simp] theorem State.withTm_cal (s : State) (x : TmSt) : (s.withTm x).cal = s.cal := rfl
@[simp] theorem State.withTm_pkg (s : State) (x : TmSt) : (s.withTm x).pkg = s.pkg := rfl
@[simp] theorem State.withTm_stc (s : State) (x : TmSt) : (s.withTm x).stc = s.stc := rfl
@[simp] theorem State.withTm_sq (s : State) (x : TmSt) : (s.withTm x).sq = s.sq := rfl
@[simp] theorem State.withTm_boot (s : State) (x : TmSt) : (s.withTm x).boot = s.boot := rfl
@[simp] theorem State.withTm_tr (s : State) (x : TmSt) : (s.withTm x).tr = s.tr := rfl
@[simp] theorem State.withTm_dbg (s : State) (x : TmSt) : (s.withTm x).dbg = s.dbg := rfl
@[simp] theorem State.withTm_tap (s : State) (x : TmSt) : (s.withTm x).tap = s.tap := rfl
@[simp] theorem State.withTm_ccr (s : State) (x : TmSt) : (s.withTm x).ccr = s.ccr := rfl
@[simp] theorem State.withTm_harts (s : State) (x : TmSt) : (s.withTm x).harts = s.harts := rfl
@[simp] theorem State.withTm_request (s : State) (x : TmSt) : (s.withTm x).request = s.request := rfl
@[simp] theorem State.withTm_faultTimes (s : State) (x : TmSt) : (s.withTm x).faultTimes = s.faultTimes := rfl
@[simp] theorem State.withTm_resetTimes (s : State) (x : TmSt) : (s.withTm x).resetTimes = s.resetTimes := rfl
@[simp] theorem State.withTm_lateFaults (s : State) (x : TmSt) : (s.withTm x).lateFaults = s.lateFaults := rfl

/-! ### withLimits -/

@[simp] theorem State.withLimits_pending (s : State) (x : Map Limit) : (s.withLimits x).pending = s.pending := rfl
@[simp] theorem State.withLimits_powered (s : State) (x : Map Limit) : (s.withLimits x).powered = s.powered := rfl
@[simp] theorem State.withLimits_regs (s : State) (x : Map Limit) : (s.withLimits x).regs = s.regs := rfl
@[simp] theorem State.withLimits_locks (s : State) (x : Map Limit) : (s.withLimits x).locks = s.locks := rfl
@[simp] theorem State.withLimits_latches (s : State) (x : Map Limit) : (s.withLimits x).latches = s.latches := rfl
@[simp] theorem State.withLimits_log (s : State) (x : Map Limit) : (s.withLimits x).log = s.log := rfl
@[simp] theorem State.withLimits_staged (s : State) (x : Map Limit) : (s.withLimits x).staged = s.staged := rfl
@[simp] theorem State.withLimits_out (s : State) (x : Map Limit) : (s.withLimits x).out = s.out := rfl
@[simp] theorem State.withLimits_draws (s : State) (x : Map Limit) : (s.withLimits x).draws = s.draws := rfl
@[simp] theorem State.withLimits_traceLost (s : State) (x : Map Limit) : (s.withLimits x).traceLost = s.traceLost := rfl
@[simp] theorem State.withLimits_mem (s : State) (x : Map Limit) : (s.withLimits x).mem = s.mem := rfl
@[simp] theorem State.withLimits_staging (s : State) (x : Map Limit) : (s.withLimits x).staging = s.staging := rfl
@[simp] theorem State.withLimits_poison (s : State) (x : Map Limit) : (s.withLimits x).poison = s.poison := rfl
@[simp] theorem State.withLimits_cfgs (s : State) (x : Map Limit) : (s.withLimits x).cfgs = s.cfgs := rfl
@[simp] theorem State.withLimits_hosts (s : State) (x : Map Limit) : (s.withLimits x).hosts = s.hosts := rfl
@[simp] theorem State.withLimits_dlogs (s : State) (x : Map Limit) : (s.withLimits x).dlogs = s.dlogs := rfl
@[simp] theorem State.withLimits_rings (s : State) (x : Map Limit) : (s.withLimits x).rings = s.rings := rfl
@[simp] theorem State.withLimits_mac (s : State) (x : Map Limit) : (s.withLimits x).mac = s.mac := rfl
@[simp] theorem State.withLimits_tbl (s : State) (x : Map Limit) : (s.withLimits x).tbl = s.tbl := rfl
@[simp] theorem State.withLimits_prog (s : State) (x : Map Limit) : (s.withLimits x).prog = s.prog := rfl
@[simp] theorem State.withLimits_fx (s : State) (x : Map Limit) : (s.withLimits x).fx = s.fx := rfl
@[simp] theorem State.withLimits_tm (s : State) (x : Map Limit) : (s.withLimits x).tm = s.tm := rfl
@[simp] theorem State.withLimits_limits (s : State) (x : Map Limit) : (s.withLimits x).limits = x := rfl
@[simp] theorem State.withLimits_faultsDue (s : State) (x : Map Limit) : (s.withLimits x).faultsDue = s.faultsDue := rfl
@[simp] theorem State.withLimits_ciph (s : State) (x : Map Limit) : (s.withLimits x).ciph = s.ciph := rfl
@[simp] theorem State.withLimits_stor (s : State) (x : Map Limit) : (s.withLimits x).stor = s.stor := rfl
@[simp] theorem State.withLimits_rma (s : State) (x : Map Limit) : (s.withLimits x).rma = s.rma := rfl
@[simp] theorem State.withLimits_time (s : State) (x : Map Limit) : (s.withLimits x).time = s.time := rfl
@[simp] theorem State.withLimits_led (s : State) (x : Map Limit) : (s.withLimits x).led = s.led := rfl
@[simp] theorem State.withLimits_cal (s : State) (x : Map Limit) : (s.withLimits x).cal = s.cal := rfl
@[simp] theorem State.withLimits_pkg (s : State) (x : Map Limit) : (s.withLimits x).pkg = s.pkg := rfl
@[simp] theorem State.withLimits_stc (s : State) (x : Map Limit) : (s.withLimits x).stc = s.stc := rfl
@[simp] theorem State.withLimits_sq (s : State) (x : Map Limit) : (s.withLimits x).sq = s.sq := rfl
@[simp] theorem State.withLimits_boot (s : State) (x : Map Limit) : (s.withLimits x).boot = s.boot := rfl
@[simp] theorem State.withLimits_tr (s : State) (x : Map Limit) : (s.withLimits x).tr = s.tr := rfl
@[simp] theorem State.withLimits_dbg (s : State) (x : Map Limit) : (s.withLimits x).dbg = s.dbg := rfl
@[simp] theorem State.withLimits_tap (s : State) (x : Map Limit) : (s.withLimits x).tap = s.tap := rfl
@[simp] theorem State.withLimits_ccr (s : State) (x : Map Limit) : (s.withLimits x).ccr = s.ccr := rfl
@[simp] theorem State.withLimits_harts (s : State) (x : Map Limit) : (s.withLimits x).harts = s.harts := rfl
@[simp] theorem State.withLimits_request (s : State) (x : Map Limit) : (s.withLimits x).request = s.request := rfl
@[simp] theorem State.withLimits_faultTimes (s : State) (x : Map Limit) : (s.withLimits x).faultTimes = s.faultTimes := rfl
@[simp] theorem State.withLimits_resetTimes (s : State) (x : Map Limit) : (s.withLimits x).resetTimes = s.resetTimes := rfl
@[simp] theorem State.withLimits_lateFaults (s : State) (x : Map Limit) : (s.withLimits x).lateFaults = s.lateFaults := rfl

/-! ### withFaultsDue -/

@[simp] theorem State.withFaultsDue_pending (s : State) (x : List (Nat × Nat × List Nat)) : (s.withFaultsDue x).pending = s.pending := rfl
@[simp] theorem State.withFaultsDue_powered (s : State) (x : List (Nat × Nat × List Nat)) : (s.withFaultsDue x).powered = s.powered := rfl
@[simp] theorem State.withFaultsDue_regs (s : State) (x : List (Nat × Nat × List Nat)) : (s.withFaultsDue x).regs = s.regs := rfl
@[simp] theorem State.withFaultsDue_locks (s : State) (x : List (Nat × Nat × List Nat)) : (s.withFaultsDue x).locks = s.locks := rfl
@[simp] theorem State.withFaultsDue_latches (s : State) (x : List (Nat × Nat × List Nat)) : (s.withFaultsDue x).latches = s.latches := rfl
@[simp] theorem State.withFaultsDue_log (s : State) (x : List (Nat × Nat × List Nat)) : (s.withFaultsDue x).log = s.log := rfl
@[simp] theorem State.withFaultsDue_staged (s : State) (x : List (Nat × Nat × List Nat)) : (s.withFaultsDue x).staged = s.staged := rfl
@[simp] theorem State.withFaultsDue_out (s : State) (x : List (Nat × Nat × List Nat)) : (s.withFaultsDue x).out = s.out := rfl
@[simp] theorem State.withFaultsDue_draws (s : State) (x : List (Nat × Nat × List Nat)) : (s.withFaultsDue x).draws = s.draws := rfl
@[simp] theorem State.withFaultsDue_traceLost (s : State) (x : List (Nat × Nat × List Nat)) : (s.withFaultsDue x).traceLost = s.traceLost := rfl
@[simp] theorem State.withFaultsDue_mem (s : State) (x : List (Nat × Nat × List Nat)) : (s.withFaultsDue x).mem = s.mem := rfl
@[simp] theorem State.withFaultsDue_staging (s : State) (x : List (Nat × Nat × List Nat)) : (s.withFaultsDue x).staging = s.staging := rfl
@[simp] theorem State.withFaultsDue_poison (s : State) (x : List (Nat × Nat × List Nat)) : (s.withFaultsDue x).poison = s.poison := rfl
@[simp] theorem State.withFaultsDue_cfgs (s : State) (x : List (Nat × Nat × List Nat)) : (s.withFaultsDue x).cfgs = s.cfgs := rfl
@[simp] theorem State.withFaultsDue_hosts (s : State) (x : List (Nat × Nat × List Nat)) : (s.withFaultsDue x).hosts = s.hosts := rfl
@[simp] theorem State.withFaultsDue_dlogs (s : State) (x : List (Nat × Nat × List Nat)) : (s.withFaultsDue x).dlogs = s.dlogs := rfl
@[simp] theorem State.withFaultsDue_rings (s : State) (x : List (Nat × Nat × List Nat)) : (s.withFaultsDue x).rings = s.rings := rfl
@[simp] theorem State.withFaultsDue_mac (s : State) (x : List (Nat × Nat × List Nat)) : (s.withFaultsDue x).mac = s.mac := rfl
@[simp] theorem State.withFaultsDue_tbl (s : State) (x : List (Nat × Nat × List Nat)) : (s.withFaultsDue x).tbl = s.tbl := rfl
@[simp] theorem State.withFaultsDue_prog (s : State) (x : List (Nat × Nat × List Nat)) : (s.withFaultsDue x).prog = s.prog := rfl
@[simp] theorem State.withFaultsDue_fx (s : State) (x : List (Nat × Nat × List Nat)) : (s.withFaultsDue x).fx = s.fx := rfl
@[simp] theorem State.withFaultsDue_tm (s : State) (x : List (Nat × Nat × List Nat)) : (s.withFaultsDue x).tm = s.tm := rfl
@[simp] theorem State.withFaultsDue_limits (s : State) (x : List (Nat × Nat × List Nat)) : (s.withFaultsDue x).limits = s.limits := rfl
@[simp] theorem State.withFaultsDue_faultsDue (s : State) (x : List (Nat × Nat × List Nat)) : (s.withFaultsDue x).faultsDue = x := rfl
@[simp] theorem State.withFaultsDue_ciph (s : State) (x : List (Nat × Nat × List Nat)) : (s.withFaultsDue x).ciph = s.ciph := rfl
@[simp] theorem State.withFaultsDue_stor (s : State) (x : List (Nat × Nat × List Nat)) : (s.withFaultsDue x).stor = s.stor := rfl
@[simp] theorem State.withFaultsDue_rma (s : State) (x : List (Nat × Nat × List Nat)) : (s.withFaultsDue x).rma = s.rma := rfl
@[simp] theorem State.withFaultsDue_time (s : State) (x : List (Nat × Nat × List Nat)) : (s.withFaultsDue x).time = s.time := rfl
@[simp] theorem State.withFaultsDue_led (s : State) (x : List (Nat × Nat × List Nat)) : (s.withFaultsDue x).led = s.led := rfl
@[simp] theorem State.withFaultsDue_cal (s : State) (x : List (Nat × Nat × List Nat)) : (s.withFaultsDue x).cal = s.cal := rfl
@[simp] theorem State.withFaultsDue_pkg (s : State) (x : List (Nat × Nat × List Nat)) : (s.withFaultsDue x).pkg = s.pkg := rfl
@[simp] theorem State.withFaultsDue_stc (s : State) (x : List (Nat × Nat × List Nat)) : (s.withFaultsDue x).stc = s.stc := rfl
@[simp] theorem State.withFaultsDue_sq (s : State) (x : List (Nat × Nat × List Nat)) : (s.withFaultsDue x).sq = s.sq := rfl
@[simp] theorem State.withFaultsDue_boot (s : State) (x : List (Nat × Nat × List Nat)) : (s.withFaultsDue x).boot = s.boot := rfl
@[simp] theorem State.withFaultsDue_tr (s : State) (x : List (Nat × Nat × List Nat)) : (s.withFaultsDue x).tr = s.tr := rfl
@[simp] theorem State.withFaultsDue_dbg (s : State) (x : List (Nat × Nat × List Nat)) : (s.withFaultsDue x).dbg = s.dbg := rfl
@[simp] theorem State.withFaultsDue_tap (s : State) (x : List (Nat × Nat × List Nat)) : (s.withFaultsDue x).tap = s.tap := rfl
@[simp] theorem State.withFaultsDue_ccr (s : State) (x : List (Nat × Nat × List Nat)) : (s.withFaultsDue x).ccr = s.ccr := rfl
@[simp] theorem State.withFaultsDue_harts (s : State) (x : List (Nat × Nat × List Nat)) : (s.withFaultsDue x).harts = s.harts := rfl
@[simp] theorem State.withFaultsDue_request (s : State) (x : List (Nat × Nat × List Nat)) : (s.withFaultsDue x).request = s.request := rfl
@[simp] theorem State.withFaultsDue_faultTimes (s : State) (x : List (Nat × Nat × List Nat)) : (s.withFaultsDue x).faultTimes = s.faultTimes := rfl
@[simp] theorem State.withFaultsDue_resetTimes (s : State) (x : List (Nat × Nat × List Nat)) : (s.withFaultsDue x).resetTimes = s.resetTimes := rfl
@[simp] theorem State.withFaultsDue_lateFaults (s : State) (x : List (Nat × Nat × List Nat)) : (s.withFaultsDue x).lateFaults = s.lateFaults := rfl

/-! ### withCiph -/

@[simp] theorem State.withCiph_pending (s : State) (x : CiphSt) : (s.withCiph x).pending = s.pending := rfl
@[simp] theorem State.withCiph_powered (s : State) (x : CiphSt) : (s.withCiph x).powered = s.powered := rfl
@[simp] theorem State.withCiph_regs (s : State) (x : CiphSt) : (s.withCiph x).regs = s.regs := rfl
@[simp] theorem State.withCiph_locks (s : State) (x : CiphSt) : (s.withCiph x).locks = s.locks := rfl
@[simp] theorem State.withCiph_latches (s : State) (x : CiphSt) : (s.withCiph x).latches = s.latches := rfl
@[simp] theorem State.withCiph_log (s : State) (x : CiphSt) : (s.withCiph x).log = s.log := rfl
@[simp] theorem State.withCiph_staged (s : State) (x : CiphSt) : (s.withCiph x).staged = s.staged := rfl
@[simp] theorem State.withCiph_out (s : State) (x : CiphSt) : (s.withCiph x).out = s.out := rfl
@[simp] theorem State.withCiph_draws (s : State) (x : CiphSt) : (s.withCiph x).draws = s.draws := rfl
@[simp] theorem State.withCiph_traceLost (s : State) (x : CiphSt) : (s.withCiph x).traceLost = s.traceLost := rfl
@[simp] theorem State.withCiph_mem (s : State) (x : CiphSt) : (s.withCiph x).mem = s.mem := rfl
@[simp] theorem State.withCiph_staging (s : State) (x : CiphSt) : (s.withCiph x).staging = s.staging := rfl
@[simp] theorem State.withCiph_poison (s : State) (x : CiphSt) : (s.withCiph x).poison = s.poison := rfl
@[simp] theorem State.withCiph_cfgs (s : State) (x : CiphSt) : (s.withCiph x).cfgs = s.cfgs := rfl
@[simp] theorem State.withCiph_hosts (s : State) (x : CiphSt) : (s.withCiph x).hosts = s.hosts := rfl
@[simp] theorem State.withCiph_dlogs (s : State) (x : CiphSt) : (s.withCiph x).dlogs = s.dlogs := rfl
@[simp] theorem State.withCiph_rings (s : State) (x : CiphSt) : (s.withCiph x).rings = s.rings := rfl
@[simp] theorem State.withCiph_mac (s : State) (x : CiphSt) : (s.withCiph x).mac = s.mac := rfl
@[simp] theorem State.withCiph_tbl (s : State) (x : CiphSt) : (s.withCiph x).tbl = s.tbl := rfl
@[simp] theorem State.withCiph_prog (s : State) (x : CiphSt) : (s.withCiph x).prog = s.prog := rfl
@[simp] theorem State.withCiph_fx (s : State) (x : CiphSt) : (s.withCiph x).fx = s.fx := rfl
@[simp] theorem State.withCiph_tm (s : State) (x : CiphSt) : (s.withCiph x).tm = s.tm := rfl
@[simp] theorem State.withCiph_limits (s : State) (x : CiphSt) : (s.withCiph x).limits = s.limits := rfl
@[simp] theorem State.withCiph_faultsDue (s : State) (x : CiphSt) : (s.withCiph x).faultsDue = s.faultsDue := rfl
@[simp] theorem State.withCiph_ciph (s : State) (x : CiphSt) : (s.withCiph x).ciph = x := rfl
@[simp] theorem State.withCiph_stor (s : State) (x : CiphSt) : (s.withCiph x).stor = s.stor := rfl
@[simp] theorem State.withCiph_rma (s : State) (x : CiphSt) : (s.withCiph x).rma = s.rma := rfl
@[simp] theorem State.withCiph_time (s : State) (x : CiphSt) : (s.withCiph x).time = s.time := rfl
@[simp] theorem State.withCiph_led (s : State) (x : CiphSt) : (s.withCiph x).led = s.led := rfl
@[simp] theorem State.withCiph_cal (s : State) (x : CiphSt) : (s.withCiph x).cal = s.cal := rfl
@[simp] theorem State.withCiph_pkg (s : State) (x : CiphSt) : (s.withCiph x).pkg = s.pkg := rfl
@[simp] theorem State.withCiph_stc (s : State) (x : CiphSt) : (s.withCiph x).stc = s.stc := rfl
@[simp] theorem State.withCiph_sq (s : State) (x : CiphSt) : (s.withCiph x).sq = s.sq := rfl
@[simp] theorem State.withCiph_boot (s : State) (x : CiphSt) : (s.withCiph x).boot = s.boot := rfl
@[simp] theorem State.withCiph_tr (s : State) (x : CiphSt) : (s.withCiph x).tr = s.tr := rfl
@[simp] theorem State.withCiph_dbg (s : State) (x : CiphSt) : (s.withCiph x).dbg = s.dbg := rfl
@[simp] theorem State.withCiph_tap (s : State) (x : CiphSt) : (s.withCiph x).tap = s.tap := rfl
@[simp] theorem State.withCiph_ccr (s : State) (x : CiphSt) : (s.withCiph x).ccr = s.ccr := rfl
@[simp] theorem State.withCiph_harts (s : State) (x : CiphSt) : (s.withCiph x).harts = s.harts := rfl
@[simp] theorem State.withCiph_request (s : State) (x : CiphSt) : (s.withCiph x).request = s.request := rfl
@[simp] theorem State.withCiph_faultTimes (s : State) (x : CiphSt) : (s.withCiph x).faultTimes = s.faultTimes := rfl
@[simp] theorem State.withCiph_resetTimes (s : State) (x : CiphSt) : (s.withCiph x).resetTimes = s.resetTimes := rfl
@[simp] theorem State.withCiph_lateFaults (s : State) (x : CiphSt) : (s.withCiph x).lateFaults = s.lateFaults := rfl

/-! ### withStor -/

@[simp] theorem State.withStor_pending (s : State) (x : StorSt) : (s.withStor x).pending = s.pending := rfl
@[simp] theorem State.withStor_powered (s : State) (x : StorSt) : (s.withStor x).powered = s.powered := rfl
@[simp] theorem State.withStor_regs (s : State) (x : StorSt) : (s.withStor x).regs = s.regs := rfl
@[simp] theorem State.withStor_locks (s : State) (x : StorSt) : (s.withStor x).locks = s.locks := rfl
@[simp] theorem State.withStor_latches (s : State) (x : StorSt) : (s.withStor x).latches = s.latches := rfl
@[simp] theorem State.withStor_log (s : State) (x : StorSt) : (s.withStor x).log = s.log := rfl
@[simp] theorem State.withStor_staged (s : State) (x : StorSt) : (s.withStor x).staged = s.staged := rfl
@[simp] theorem State.withStor_out (s : State) (x : StorSt) : (s.withStor x).out = s.out := rfl
@[simp] theorem State.withStor_draws (s : State) (x : StorSt) : (s.withStor x).draws = s.draws := rfl
@[simp] theorem State.withStor_traceLost (s : State) (x : StorSt) : (s.withStor x).traceLost = s.traceLost := rfl
@[simp] theorem State.withStor_mem (s : State) (x : StorSt) : (s.withStor x).mem = s.mem := rfl
@[simp] theorem State.withStor_staging (s : State) (x : StorSt) : (s.withStor x).staging = s.staging := rfl
@[simp] theorem State.withStor_poison (s : State) (x : StorSt) : (s.withStor x).poison = s.poison := rfl
@[simp] theorem State.withStor_cfgs (s : State) (x : StorSt) : (s.withStor x).cfgs = s.cfgs := rfl
@[simp] theorem State.withStor_hosts (s : State) (x : StorSt) : (s.withStor x).hosts = s.hosts := rfl
@[simp] theorem State.withStor_dlogs (s : State) (x : StorSt) : (s.withStor x).dlogs = s.dlogs := rfl
@[simp] theorem State.withStor_rings (s : State) (x : StorSt) : (s.withStor x).rings = s.rings := rfl
@[simp] theorem State.withStor_mac (s : State) (x : StorSt) : (s.withStor x).mac = s.mac := rfl
@[simp] theorem State.withStor_tbl (s : State) (x : StorSt) : (s.withStor x).tbl = s.tbl := rfl
@[simp] theorem State.withStor_prog (s : State) (x : StorSt) : (s.withStor x).prog = s.prog := rfl
@[simp] theorem State.withStor_fx (s : State) (x : StorSt) : (s.withStor x).fx = s.fx := rfl
@[simp] theorem State.withStor_tm (s : State) (x : StorSt) : (s.withStor x).tm = s.tm := rfl
@[simp] theorem State.withStor_limits (s : State) (x : StorSt) : (s.withStor x).limits = s.limits := rfl
@[simp] theorem State.withStor_faultsDue (s : State) (x : StorSt) : (s.withStor x).faultsDue = s.faultsDue := rfl
@[simp] theorem State.withStor_ciph (s : State) (x : StorSt) : (s.withStor x).ciph = s.ciph := rfl
@[simp] theorem State.withStor_stor (s : State) (x : StorSt) : (s.withStor x).stor = x := rfl
@[simp] theorem State.withStor_rma (s : State) (x : StorSt) : (s.withStor x).rma = s.rma := rfl
@[simp] theorem State.withStor_time (s : State) (x : StorSt) : (s.withStor x).time = s.time := rfl
@[simp] theorem State.withStor_led (s : State) (x : StorSt) : (s.withStor x).led = s.led := rfl
@[simp] theorem State.withStor_cal (s : State) (x : StorSt) : (s.withStor x).cal = s.cal := rfl
@[simp] theorem State.withStor_pkg (s : State) (x : StorSt) : (s.withStor x).pkg = s.pkg := rfl
@[simp] theorem State.withStor_stc (s : State) (x : StorSt) : (s.withStor x).stc = s.stc := rfl
@[simp] theorem State.withStor_sq (s : State) (x : StorSt) : (s.withStor x).sq = s.sq := rfl
@[simp] theorem State.withStor_boot (s : State) (x : StorSt) : (s.withStor x).boot = s.boot := rfl
@[simp] theorem State.withStor_tr (s : State) (x : StorSt) : (s.withStor x).tr = s.tr := rfl
@[simp] theorem State.withStor_dbg (s : State) (x : StorSt) : (s.withStor x).dbg = s.dbg := rfl
@[simp] theorem State.withStor_tap (s : State) (x : StorSt) : (s.withStor x).tap = s.tap := rfl
@[simp] theorem State.withStor_ccr (s : State) (x : StorSt) : (s.withStor x).ccr = s.ccr := rfl
@[simp] theorem State.withStor_harts (s : State) (x : StorSt) : (s.withStor x).harts = s.harts := rfl
@[simp] theorem State.withStor_request (s : State) (x : StorSt) : (s.withStor x).request = s.request := rfl
@[simp] theorem State.withStor_faultTimes (s : State) (x : StorSt) : (s.withStor x).faultTimes = s.faultTimes := rfl
@[simp] theorem State.withStor_resetTimes (s : State) (x : StorSt) : (s.withStor x).resetTimes = s.resetTimes := rfl
@[simp] theorem State.withStor_lateFaults (s : State) (x : StorSt) : (s.withStor x).lateFaults = s.lateFaults := rfl

/-! ### withRma -/

@[simp] theorem State.withRma_pending (s : State) (x : RmaSt) : (s.withRma x).pending = s.pending := rfl
@[simp] theorem State.withRma_powered (s : State) (x : RmaSt) : (s.withRma x).powered = s.powered := rfl
@[simp] theorem State.withRma_regs (s : State) (x : RmaSt) : (s.withRma x).regs = s.regs := rfl
@[simp] theorem State.withRma_locks (s : State) (x : RmaSt) : (s.withRma x).locks = s.locks := rfl
@[simp] theorem State.withRma_latches (s : State) (x : RmaSt) : (s.withRma x).latches = s.latches := rfl
@[simp] theorem State.withRma_log (s : State) (x : RmaSt) : (s.withRma x).log = s.log := rfl
@[simp] theorem State.withRma_staged (s : State) (x : RmaSt) : (s.withRma x).staged = s.staged := rfl
@[simp] theorem State.withRma_out (s : State) (x : RmaSt) : (s.withRma x).out = s.out := rfl
@[simp] theorem State.withRma_draws (s : State) (x : RmaSt) : (s.withRma x).draws = s.draws := rfl
@[simp] theorem State.withRma_traceLost (s : State) (x : RmaSt) : (s.withRma x).traceLost = s.traceLost := rfl
@[simp] theorem State.withRma_mem (s : State) (x : RmaSt) : (s.withRma x).mem = s.mem := rfl
@[simp] theorem State.withRma_staging (s : State) (x : RmaSt) : (s.withRma x).staging = s.staging := rfl
@[simp] theorem State.withRma_poison (s : State) (x : RmaSt) : (s.withRma x).poison = s.poison := rfl
@[simp] theorem State.withRma_cfgs (s : State) (x : RmaSt) : (s.withRma x).cfgs = s.cfgs := rfl
@[simp] theorem State.withRma_hosts (s : State) (x : RmaSt) : (s.withRma x).hosts = s.hosts := rfl
@[simp] theorem State.withRma_dlogs (s : State) (x : RmaSt) : (s.withRma x).dlogs = s.dlogs := rfl
@[simp] theorem State.withRma_rings (s : State) (x : RmaSt) : (s.withRma x).rings = s.rings := rfl
@[simp] theorem State.withRma_mac (s : State) (x : RmaSt) : (s.withRma x).mac = s.mac := rfl
@[simp] theorem State.withRma_tbl (s : State) (x : RmaSt) : (s.withRma x).tbl = s.tbl := rfl
@[simp] theorem State.withRma_prog (s : State) (x : RmaSt) : (s.withRma x).prog = s.prog := rfl
@[simp] theorem State.withRma_fx (s : State) (x : RmaSt) : (s.withRma x).fx = s.fx := rfl
@[simp] theorem State.withRma_tm (s : State) (x : RmaSt) : (s.withRma x).tm = s.tm := rfl
@[simp] theorem State.withRma_limits (s : State) (x : RmaSt) : (s.withRma x).limits = s.limits := rfl
@[simp] theorem State.withRma_faultsDue (s : State) (x : RmaSt) : (s.withRma x).faultsDue = s.faultsDue := rfl
@[simp] theorem State.withRma_ciph (s : State) (x : RmaSt) : (s.withRma x).ciph = s.ciph := rfl
@[simp] theorem State.withRma_stor (s : State) (x : RmaSt) : (s.withRma x).stor = s.stor := rfl
@[simp] theorem State.withRma_rma (s : State) (x : RmaSt) : (s.withRma x).rma = x := rfl
@[simp] theorem State.withRma_time (s : State) (x : RmaSt) : (s.withRma x).time = s.time := rfl
@[simp] theorem State.withRma_led (s : State) (x : RmaSt) : (s.withRma x).led = s.led := rfl
@[simp] theorem State.withRma_cal (s : State) (x : RmaSt) : (s.withRma x).cal = s.cal := rfl
@[simp] theorem State.withRma_pkg (s : State) (x : RmaSt) : (s.withRma x).pkg = s.pkg := rfl
@[simp] theorem State.withRma_stc (s : State) (x : RmaSt) : (s.withRma x).stc = s.stc := rfl
@[simp] theorem State.withRma_sq (s : State) (x : RmaSt) : (s.withRma x).sq = s.sq := rfl
@[simp] theorem State.withRma_boot (s : State) (x : RmaSt) : (s.withRma x).boot = s.boot := rfl
@[simp] theorem State.withRma_tr (s : State) (x : RmaSt) : (s.withRma x).tr = s.tr := rfl
@[simp] theorem State.withRma_dbg (s : State) (x : RmaSt) : (s.withRma x).dbg = s.dbg := rfl
@[simp] theorem State.withRma_tap (s : State) (x : RmaSt) : (s.withRma x).tap = s.tap := rfl
@[simp] theorem State.withRma_ccr (s : State) (x : RmaSt) : (s.withRma x).ccr = s.ccr := rfl
@[simp] theorem State.withRma_harts (s : State) (x : RmaSt) : (s.withRma x).harts = s.harts := rfl
@[simp] theorem State.withRma_request (s : State) (x : RmaSt) : (s.withRma x).request = s.request := rfl
@[simp] theorem State.withRma_faultTimes (s : State) (x : RmaSt) : (s.withRma x).faultTimes = s.faultTimes := rfl
@[simp] theorem State.withRma_resetTimes (s : State) (x : RmaSt) : (s.withRma x).resetTimes = s.resetTimes := rfl
@[simp] theorem State.withRma_lateFaults (s : State) (x : RmaSt) : (s.withRma x).lateFaults = s.lateFaults := rfl

/-! ### withTime -/

@[simp] theorem State.withTime_pending (s : State) (x : TimeSt) : (s.withTime x).pending = s.pending := rfl
@[simp] theorem State.withTime_powered (s : State) (x : TimeSt) : (s.withTime x).powered = s.powered := rfl
@[simp] theorem State.withTime_regs (s : State) (x : TimeSt) : (s.withTime x).regs = s.regs := rfl
@[simp] theorem State.withTime_locks (s : State) (x : TimeSt) : (s.withTime x).locks = s.locks := rfl
@[simp] theorem State.withTime_latches (s : State) (x : TimeSt) : (s.withTime x).latches = s.latches := rfl
@[simp] theorem State.withTime_log (s : State) (x : TimeSt) : (s.withTime x).log = s.log := rfl
@[simp] theorem State.withTime_staged (s : State) (x : TimeSt) : (s.withTime x).staged = s.staged := rfl
@[simp] theorem State.withTime_out (s : State) (x : TimeSt) : (s.withTime x).out = s.out := rfl
@[simp] theorem State.withTime_draws (s : State) (x : TimeSt) : (s.withTime x).draws = s.draws := rfl
@[simp] theorem State.withTime_traceLost (s : State) (x : TimeSt) : (s.withTime x).traceLost = s.traceLost := rfl
@[simp] theorem State.withTime_mem (s : State) (x : TimeSt) : (s.withTime x).mem = s.mem := rfl
@[simp] theorem State.withTime_staging (s : State) (x : TimeSt) : (s.withTime x).staging = s.staging := rfl
@[simp] theorem State.withTime_poison (s : State) (x : TimeSt) : (s.withTime x).poison = s.poison := rfl
@[simp] theorem State.withTime_cfgs (s : State) (x : TimeSt) : (s.withTime x).cfgs = s.cfgs := rfl
@[simp] theorem State.withTime_hosts (s : State) (x : TimeSt) : (s.withTime x).hosts = s.hosts := rfl
@[simp] theorem State.withTime_dlogs (s : State) (x : TimeSt) : (s.withTime x).dlogs = s.dlogs := rfl
@[simp] theorem State.withTime_rings (s : State) (x : TimeSt) : (s.withTime x).rings = s.rings := rfl
@[simp] theorem State.withTime_mac (s : State) (x : TimeSt) : (s.withTime x).mac = s.mac := rfl
@[simp] theorem State.withTime_tbl (s : State) (x : TimeSt) : (s.withTime x).tbl = s.tbl := rfl
@[simp] theorem State.withTime_prog (s : State) (x : TimeSt) : (s.withTime x).prog = s.prog := rfl
@[simp] theorem State.withTime_fx (s : State) (x : TimeSt) : (s.withTime x).fx = s.fx := rfl
@[simp] theorem State.withTime_tm (s : State) (x : TimeSt) : (s.withTime x).tm = s.tm := rfl
@[simp] theorem State.withTime_limits (s : State) (x : TimeSt) : (s.withTime x).limits = s.limits := rfl
@[simp] theorem State.withTime_faultsDue (s : State) (x : TimeSt) : (s.withTime x).faultsDue = s.faultsDue := rfl
@[simp] theorem State.withTime_ciph (s : State) (x : TimeSt) : (s.withTime x).ciph = s.ciph := rfl
@[simp] theorem State.withTime_stor (s : State) (x : TimeSt) : (s.withTime x).stor = s.stor := rfl
@[simp] theorem State.withTime_rma (s : State) (x : TimeSt) : (s.withTime x).rma = s.rma := rfl
@[simp] theorem State.withTime_time (s : State) (x : TimeSt) : (s.withTime x).time = x := rfl
@[simp] theorem State.withTime_led (s : State) (x : TimeSt) : (s.withTime x).led = s.led := rfl
@[simp] theorem State.withTime_cal (s : State) (x : TimeSt) : (s.withTime x).cal = s.cal := rfl
@[simp] theorem State.withTime_pkg (s : State) (x : TimeSt) : (s.withTime x).pkg = s.pkg := rfl
@[simp] theorem State.withTime_stc (s : State) (x : TimeSt) : (s.withTime x).stc = s.stc := rfl
@[simp] theorem State.withTime_sq (s : State) (x : TimeSt) : (s.withTime x).sq = s.sq := rfl
@[simp] theorem State.withTime_boot (s : State) (x : TimeSt) : (s.withTime x).boot = s.boot := rfl
@[simp] theorem State.withTime_tr (s : State) (x : TimeSt) : (s.withTime x).tr = s.tr := rfl
@[simp] theorem State.withTime_dbg (s : State) (x : TimeSt) : (s.withTime x).dbg = s.dbg := rfl
@[simp] theorem State.withTime_tap (s : State) (x : TimeSt) : (s.withTime x).tap = s.tap := rfl
@[simp] theorem State.withTime_ccr (s : State) (x : TimeSt) : (s.withTime x).ccr = s.ccr := rfl
@[simp] theorem State.withTime_harts (s : State) (x : TimeSt) : (s.withTime x).harts = s.harts := rfl
@[simp] theorem State.withTime_request (s : State) (x : TimeSt) : (s.withTime x).request = s.request := rfl
@[simp] theorem State.withTime_faultTimes (s : State) (x : TimeSt) : (s.withTime x).faultTimes = s.faultTimes := rfl
@[simp] theorem State.withTime_resetTimes (s : State) (x : TimeSt) : (s.withTime x).resetTimes = s.resetTimes := rfl
@[simp] theorem State.withTime_lateFaults (s : State) (x : TimeSt) : (s.withTime x).lateFaults = s.lateFaults := rfl

/-! ### withLed -/

@[simp] theorem State.withLed_pending (s : State) (x : LedSt) : (s.withLed x).pending = s.pending := rfl
@[simp] theorem State.withLed_powered (s : State) (x : LedSt) : (s.withLed x).powered = s.powered := rfl
@[simp] theorem State.withLed_regs (s : State) (x : LedSt) : (s.withLed x).regs = s.regs := rfl
@[simp] theorem State.withLed_locks (s : State) (x : LedSt) : (s.withLed x).locks = s.locks := rfl
@[simp] theorem State.withLed_latches (s : State) (x : LedSt) : (s.withLed x).latches = s.latches := rfl
@[simp] theorem State.withLed_log (s : State) (x : LedSt) : (s.withLed x).log = s.log := rfl
@[simp] theorem State.withLed_staged (s : State) (x : LedSt) : (s.withLed x).staged = s.staged := rfl
@[simp] theorem State.withLed_out (s : State) (x : LedSt) : (s.withLed x).out = s.out := rfl
@[simp] theorem State.withLed_draws (s : State) (x : LedSt) : (s.withLed x).draws = s.draws := rfl
@[simp] theorem State.withLed_traceLost (s : State) (x : LedSt) : (s.withLed x).traceLost = s.traceLost := rfl
@[simp] theorem State.withLed_mem (s : State) (x : LedSt) : (s.withLed x).mem = s.mem := rfl
@[simp] theorem State.withLed_staging (s : State) (x : LedSt) : (s.withLed x).staging = s.staging := rfl
@[simp] theorem State.withLed_poison (s : State) (x : LedSt) : (s.withLed x).poison = s.poison := rfl
@[simp] theorem State.withLed_cfgs (s : State) (x : LedSt) : (s.withLed x).cfgs = s.cfgs := rfl
@[simp] theorem State.withLed_hosts (s : State) (x : LedSt) : (s.withLed x).hosts = s.hosts := rfl
@[simp] theorem State.withLed_dlogs (s : State) (x : LedSt) : (s.withLed x).dlogs = s.dlogs := rfl
@[simp] theorem State.withLed_rings (s : State) (x : LedSt) : (s.withLed x).rings = s.rings := rfl
@[simp] theorem State.withLed_mac (s : State) (x : LedSt) : (s.withLed x).mac = s.mac := rfl
@[simp] theorem State.withLed_tbl (s : State) (x : LedSt) : (s.withLed x).tbl = s.tbl := rfl
@[simp] theorem State.withLed_prog (s : State) (x : LedSt) : (s.withLed x).prog = s.prog := rfl
@[simp] theorem State.withLed_fx (s : State) (x : LedSt) : (s.withLed x).fx = s.fx := rfl
@[simp] theorem State.withLed_tm (s : State) (x : LedSt) : (s.withLed x).tm = s.tm := rfl
@[simp] theorem State.withLed_limits (s : State) (x : LedSt) : (s.withLed x).limits = s.limits := rfl
@[simp] theorem State.withLed_faultsDue (s : State) (x : LedSt) : (s.withLed x).faultsDue = s.faultsDue := rfl
@[simp] theorem State.withLed_ciph (s : State) (x : LedSt) : (s.withLed x).ciph = s.ciph := rfl
@[simp] theorem State.withLed_stor (s : State) (x : LedSt) : (s.withLed x).stor = s.stor := rfl
@[simp] theorem State.withLed_rma (s : State) (x : LedSt) : (s.withLed x).rma = s.rma := rfl
@[simp] theorem State.withLed_time (s : State) (x : LedSt) : (s.withLed x).time = s.time := rfl
@[simp] theorem State.withLed_led (s : State) (x : LedSt) : (s.withLed x).led = x := rfl
@[simp] theorem State.withLed_cal (s : State) (x : LedSt) : (s.withLed x).cal = s.cal := rfl
@[simp] theorem State.withLed_pkg (s : State) (x : LedSt) : (s.withLed x).pkg = s.pkg := rfl
@[simp] theorem State.withLed_stc (s : State) (x : LedSt) : (s.withLed x).stc = s.stc := rfl
@[simp] theorem State.withLed_sq (s : State) (x : LedSt) : (s.withLed x).sq = s.sq := rfl
@[simp] theorem State.withLed_boot (s : State) (x : LedSt) : (s.withLed x).boot = s.boot := rfl
@[simp] theorem State.withLed_tr (s : State) (x : LedSt) : (s.withLed x).tr = s.tr := rfl
@[simp] theorem State.withLed_dbg (s : State) (x : LedSt) : (s.withLed x).dbg = s.dbg := rfl
@[simp] theorem State.withLed_tap (s : State) (x : LedSt) : (s.withLed x).tap = s.tap := rfl
@[simp] theorem State.withLed_ccr (s : State) (x : LedSt) : (s.withLed x).ccr = s.ccr := rfl
@[simp] theorem State.withLed_harts (s : State) (x : LedSt) : (s.withLed x).harts = s.harts := rfl
@[simp] theorem State.withLed_request (s : State) (x : LedSt) : (s.withLed x).request = s.request := rfl
@[simp] theorem State.withLed_faultTimes (s : State) (x : LedSt) : (s.withLed x).faultTimes = s.faultTimes := rfl
@[simp] theorem State.withLed_resetTimes (s : State) (x : LedSt) : (s.withLed x).resetTimes = s.resetTimes := rfl
@[simp] theorem State.withLed_lateFaults (s : State) (x : LedSt) : (s.withLed x).lateFaults = s.lateFaults := rfl

/-! ### withCal -/

@[simp] theorem State.withCal_pending (s : State) (x : CalSt) : (s.withCal x).pending = s.pending := rfl
@[simp] theorem State.withCal_powered (s : State) (x : CalSt) : (s.withCal x).powered = s.powered := rfl
@[simp] theorem State.withCal_regs (s : State) (x : CalSt) : (s.withCal x).regs = s.regs := rfl
@[simp] theorem State.withCal_locks (s : State) (x : CalSt) : (s.withCal x).locks = s.locks := rfl
@[simp] theorem State.withCal_latches (s : State) (x : CalSt) : (s.withCal x).latches = s.latches := rfl
@[simp] theorem State.withCal_log (s : State) (x : CalSt) : (s.withCal x).log = s.log := rfl
@[simp] theorem State.withCal_staged (s : State) (x : CalSt) : (s.withCal x).staged = s.staged := rfl
@[simp] theorem State.withCal_out (s : State) (x : CalSt) : (s.withCal x).out = s.out := rfl
@[simp] theorem State.withCal_draws (s : State) (x : CalSt) : (s.withCal x).draws = s.draws := rfl
@[simp] theorem State.withCal_traceLost (s : State) (x : CalSt) : (s.withCal x).traceLost = s.traceLost := rfl
@[simp] theorem State.withCal_mem (s : State) (x : CalSt) : (s.withCal x).mem = s.mem := rfl
@[simp] theorem State.withCal_staging (s : State) (x : CalSt) : (s.withCal x).staging = s.staging := rfl
@[simp] theorem State.withCal_poison (s : State) (x : CalSt) : (s.withCal x).poison = s.poison := rfl
@[simp] theorem State.withCal_cfgs (s : State) (x : CalSt) : (s.withCal x).cfgs = s.cfgs := rfl
@[simp] theorem State.withCal_hosts (s : State) (x : CalSt) : (s.withCal x).hosts = s.hosts := rfl
@[simp] theorem State.withCal_dlogs (s : State) (x : CalSt) : (s.withCal x).dlogs = s.dlogs := rfl
@[simp] theorem State.withCal_rings (s : State) (x : CalSt) : (s.withCal x).rings = s.rings := rfl
@[simp] theorem State.withCal_mac (s : State) (x : CalSt) : (s.withCal x).mac = s.mac := rfl
@[simp] theorem State.withCal_tbl (s : State) (x : CalSt) : (s.withCal x).tbl = s.tbl := rfl
@[simp] theorem State.withCal_prog (s : State) (x : CalSt) : (s.withCal x).prog = s.prog := rfl
@[simp] theorem State.withCal_fx (s : State) (x : CalSt) : (s.withCal x).fx = s.fx := rfl
@[simp] theorem State.withCal_tm (s : State) (x : CalSt) : (s.withCal x).tm = s.tm := rfl
@[simp] theorem State.withCal_limits (s : State) (x : CalSt) : (s.withCal x).limits = s.limits := rfl
@[simp] theorem State.withCal_faultsDue (s : State) (x : CalSt) : (s.withCal x).faultsDue = s.faultsDue := rfl
@[simp] theorem State.withCal_ciph (s : State) (x : CalSt) : (s.withCal x).ciph = s.ciph := rfl
@[simp] theorem State.withCal_stor (s : State) (x : CalSt) : (s.withCal x).stor = s.stor := rfl
@[simp] theorem State.withCal_rma (s : State) (x : CalSt) : (s.withCal x).rma = s.rma := rfl
@[simp] theorem State.withCal_time (s : State) (x : CalSt) : (s.withCal x).time = s.time := rfl
@[simp] theorem State.withCal_led (s : State) (x : CalSt) : (s.withCal x).led = s.led := rfl
@[simp] theorem State.withCal_cal (s : State) (x : CalSt) : (s.withCal x).cal = x := rfl
@[simp] theorem State.withCal_pkg (s : State) (x : CalSt) : (s.withCal x).pkg = s.pkg := rfl
@[simp] theorem State.withCal_stc (s : State) (x : CalSt) : (s.withCal x).stc = s.stc := rfl
@[simp] theorem State.withCal_sq (s : State) (x : CalSt) : (s.withCal x).sq = s.sq := rfl
@[simp] theorem State.withCal_boot (s : State) (x : CalSt) : (s.withCal x).boot = s.boot := rfl
@[simp] theorem State.withCal_tr (s : State) (x : CalSt) : (s.withCal x).tr = s.tr := rfl
@[simp] theorem State.withCal_dbg (s : State) (x : CalSt) : (s.withCal x).dbg = s.dbg := rfl
@[simp] theorem State.withCal_tap (s : State) (x : CalSt) : (s.withCal x).tap = s.tap := rfl
@[simp] theorem State.withCal_ccr (s : State) (x : CalSt) : (s.withCal x).ccr = s.ccr := rfl
@[simp] theorem State.withCal_harts (s : State) (x : CalSt) : (s.withCal x).harts = s.harts := rfl
@[simp] theorem State.withCal_request (s : State) (x : CalSt) : (s.withCal x).request = s.request := rfl
@[simp] theorem State.withCal_faultTimes (s : State) (x : CalSt) : (s.withCal x).faultTimes = s.faultTimes := rfl
@[simp] theorem State.withCal_resetTimes (s : State) (x : CalSt) : (s.withCal x).resetTimes = s.resetTimes := rfl
@[simp] theorem State.withCal_lateFaults (s : State) (x : CalSt) : (s.withCal x).lateFaults = s.lateFaults := rfl

/-! ### withPkg -/

@[simp] theorem State.withPkg_pending (s : State) (x : PkgSt) : (s.withPkg x).pending = s.pending := rfl
@[simp] theorem State.withPkg_powered (s : State) (x : PkgSt) : (s.withPkg x).powered = s.powered := rfl
@[simp] theorem State.withPkg_regs (s : State) (x : PkgSt) : (s.withPkg x).regs = s.regs := rfl
@[simp] theorem State.withPkg_locks (s : State) (x : PkgSt) : (s.withPkg x).locks = s.locks := rfl
@[simp] theorem State.withPkg_latches (s : State) (x : PkgSt) : (s.withPkg x).latches = s.latches := rfl
@[simp] theorem State.withPkg_log (s : State) (x : PkgSt) : (s.withPkg x).log = s.log := rfl
@[simp] theorem State.withPkg_staged (s : State) (x : PkgSt) : (s.withPkg x).staged = s.staged := rfl
@[simp] theorem State.withPkg_out (s : State) (x : PkgSt) : (s.withPkg x).out = s.out := rfl
@[simp] theorem State.withPkg_draws (s : State) (x : PkgSt) : (s.withPkg x).draws = s.draws := rfl
@[simp] theorem State.withPkg_traceLost (s : State) (x : PkgSt) : (s.withPkg x).traceLost = s.traceLost := rfl
@[simp] theorem State.withPkg_mem (s : State) (x : PkgSt) : (s.withPkg x).mem = s.mem := rfl
@[simp] theorem State.withPkg_staging (s : State) (x : PkgSt) : (s.withPkg x).staging = s.staging := rfl
@[simp] theorem State.withPkg_poison (s : State) (x : PkgSt) : (s.withPkg x).poison = s.poison := rfl
@[simp] theorem State.withPkg_cfgs (s : State) (x : PkgSt) : (s.withPkg x).cfgs = s.cfgs := rfl
@[simp] theorem State.withPkg_hosts (s : State) (x : PkgSt) : (s.withPkg x).hosts = s.hosts := rfl
@[simp] theorem State.withPkg_dlogs (s : State) (x : PkgSt) : (s.withPkg x).dlogs = s.dlogs := rfl
@[simp] theorem State.withPkg_rings (s : State) (x : PkgSt) : (s.withPkg x).rings = s.rings := rfl
@[simp] theorem State.withPkg_mac (s : State) (x : PkgSt) : (s.withPkg x).mac = s.mac := rfl
@[simp] theorem State.withPkg_tbl (s : State) (x : PkgSt) : (s.withPkg x).tbl = s.tbl := rfl
@[simp] theorem State.withPkg_prog (s : State) (x : PkgSt) : (s.withPkg x).prog = s.prog := rfl
@[simp] theorem State.withPkg_fx (s : State) (x : PkgSt) : (s.withPkg x).fx = s.fx := rfl
@[simp] theorem State.withPkg_tm (s : State) (x : PkgSt) : (s.withPkg x).tm = s.tm := rfl
@[simp] theorem State.withPkg_limits (s : State) (x : PkgSt) : (s.withPkg x).limits = s.limits := rfl
@[simp] theorem State.withPkg_faultsDue (s : State) (x : PkgSt) : (s.withPkg x).faultsDue = s.faultsDue := rfl
@[simp] theorem State.withPkg_ciph (s : State) (x : PkgSt) : (s.withPkg x).ciph = s.ciph := rfl
@[simp] theorem State.withPkg_stor (s : State) (x : PkgSt) : (s.withPkg x).stor = s.stor := rfl
@[simp] theorem State.withPkg_rma (s : State) (x : PkgSt) : (s.withPkg x).rma = s.rma := rfl
@[simp] theorem State.withPkg_time (s : State) (x : PkgSt) : (s.withPkg x).time = s.time := rfl
@[simp] theorem State.withPkg_led (s : State) (x : PkgSt) : (s.withPkg x).led = s.led := rfl
@[simp] theorem State.withPkg_cal (s : State) (x : PkgSt) : (s.withPkg x).cal = s.cal := rfl
@[simp] theorem State.withPkg_pkg (s : State) (x : PkgSt) : (s.withPkg x).pkg = x := rfl
@[simp] theorem State.withPkg_stc (s : State) (x : PkgSt) : (s.withPkg x).stc = s.stc := rfl
@[simp] theorem State.withPkg_sq (s : State) (x : PkgSt) : (s.withPkg x).sq = s.sq := rfl
@[simp] theorem State.withPkg_boot (s : State) (x : PkgSt) : (s.withPkg x).boot = s.boot := rfl
@[simp] theorem State.withPkg_tr (s : State) (x : PkgSt) : (s.withPkg x).tr = s.tr := rfl
@[simp] theorem State.withPkg_dbg (s : State) (x : PkgSt) : (s.withPkg x).dbg = s.dbg := rfl
@[simp] theorem State.withPkg_tap (s : State) (x : PkgSt) : (s.withPkg x).tap = s.tap := rfl
@[simp] theorem State.withPkg_ccr (s : State) (x : PkgSt) : (s.withPkg x).ccr = s.ccr := rfl
@[simp] theorem State.withPkg_harts (s : State) (x : PkgSt) : (s.withPkg x).harts = s.harts := rfl
@[simp] theorem State.withPkg_request (s : State) (x : PkgSt) : (s.withPkg x).request = s.request := rfl
@[simp] theorem State.withPkg_faultTimes (s : State) (x : PkgSt) : (s.withPkg x).faultTimes = s.faultTimes := rfl
@[simp] theorem State.withPkg_resetTimes (s : State) (x : PkgSt) : (s.withPkg x).resetTimes = s.resetTimes := rfl
@[simp] theorem State.withPkg_lateFaults (s : State) (x : PkgSt) : (s.withPkg x).lateFaults = s.lateFaults := rfl

/-! ### withStc -/

@[simp] theorem State.withStc_pending (s : State) (x : StcSt) : (s.withStc x).pending = s.pending := rfl
@[simp] theorem State.withStc_powered (s : State) (x : StcSt) : (s.withStc x).powered = s.powered := rfl
@[simp] theorem State.withStc_regs (s : State) (x : StcSt) : (s.withStc x).regs = s.regs := rfl
@[simp] theorem State.withStc_locks (s : State) (x : StcSt) : (s.withStc x).locks = s.locks := rfl
@[simp] theorem State.withStc_latches (s : State) (x : StcSt) : (s.withStc x).latches = s.latches := rfl
@[simp] theorem State.withStc_log (s : State) (x : StcSt) : (s.withStc x).log = s.log := rfl
@[simp] theorem State.withStc_staged (s : State) (x : StcSt) : (s.withStc x).staged = s.staged := rfl
@[simp] theorem State.withStc_out (s : State) (x : StcSt) : (s.withStc x).out = s.out := rfl
@[simp] theorem State.withStc_draws (s : State) (x : StcSt) : (s.withStc x).draws = s.draws := rfl
@[simp] theorem State.withStc_traceLost (s : State) (x : StcSt) : (s.withStc x).traceLost = s.traceLost := rfl
@[simp] theorem State.withStc_mem (s : State) (x : StcSt) : (s.withStc x).mem = s.mem := rfl
@[simp] theorem State.withStc_staging (s : State) (x : StcSt) : (s.withStc x).staging = s.staging := rfl
@[simp] theorem State.withStc_poison (s : State) (x : StcSt) : (s.withStc x).poison = s.poison := rfl
@[simp] theorem State.withStc_cfgs (s : State) (x : StcSt) : (s.withStc x).cfgs = s.cfgs := rfl
@[simp] theorem State.withStc_hosts (s : State) (x : StcSt) : (s.withStc x).hosts = s.hosts := rfl
@[simp] theorem State.withStc_dlogs (s : State) (x : StcSt) : (s.withStc x).dlogs = s.dlogs := rfl
@[simp] theorem State.withStc_rings (s : State) (x : StcSt) : (s.withStc x).rings = s.rings := rfl
@[simp] theorem State.withStc_mac (s : State) (x : StcSt) : (s.withStc x).mac = s.mac := rfl
@[simp] theorem State.withStc_tbl (s : State) (x : StcSt) : (s.withStc x).tbl = s.tbl := rfl
@[simp] theorem State.withStc_prog (s : State) (x : StcSt) : (s.withStc x).prog = s.prog := rfl
@[simp] theorem State.withStc_fx (s : State) (x : StcSt) : (s.withStc x).fx = s.fx := rfl
@[simp] theorem State.withStc_tm (s : State) (x : StcSt) : (s.withStc x).tm = s.tm := rfl
@[simp] theorem State.withStc_limits (s : State) (x : StcSt) : (s.withStc x).limits = s.limits := rfl
@[simp] theorem State.withStc_faultsDue (s : State) (x : StcSt) : (s.withStc x).faultsDue = s.faultsDue := rfl
@[simp] theorem State.withStc_ciph (s : State) (x : StcSt) : (s.withStc x).ciph = s.ciph := rfl
@[simp] theorem State.withStc_stor (s : State) (x : StcSt) : (s.withStc x).stor = s.stor := rfl
@[simp] theorem State.withStc_rma (s : State) (x : StcSt) : (s.withStc x).rma = s.rma := rfl
@[simp] theorem State.withStc_time (s : State) (x : StcSt) : (s.withStc x).time = s.time := rfl
@[simp] theorem State.withStc_led (s : State) (x : StcSt) : (s.withStc x).led = s.led := rfl
@[simp] theorem State.withStc_cal (s : State) (x : StcSt) : (s.withStc x).cal = s.cal := rfl
@[simp] theorem State.withStc_pkg (s : State) (x : StcSt) : (s.withStc x).pkg = s.pkg := rfl
@[simp] theorem State.withStc_stc (s : State) (x : StcSt) : (s.withStc x).stc = x := rfl
@[simp] theorem State.withStc_sq (s : State) (x : StcSt) : (s.withStc x).sq = s.sq := rfl
@[simp] theorem State.withStc_boot (s : State) (x : StcSt) : (s.withStc x).boot = s.boot := rfl
@[simp] theorem State.withStc_tr (s : State) (x : StcSt) : (s.withStc x).tr = s.tr := rfl
@[simp] theorem State.withStc_dbg (s : State) (x : StcSt) : (s.withStc x).dbg = s.dbg := rfl
@[simp] theorem State.withStc_tap (s : State) (x : StcSt) : (s.withStc x).tap = s.tap := rfl
@[simp] theorem State.withStc_ccr (s : State) (x : StcSt) : (s.withStc x).ccr = s.ccr := rfl
@[simp] theorem State.withStc_harts (s : State) (x : StcSt) : (s.withStc x).harts = s.harts := rfl
@[simp] theorem State.withStc_request (s : State) (x : StcSt) : (s.withStc x).request = s.request := rfl
@[simp] theorem State.withStc_faultTimes (s : State) (x : StcSt) : (s.withStc x).faultTimes = s.faultTimes := rfl
@[simp] theorem State.withStc_resetTimes (s : State) (x : StcSt) : (s.withStc x).resetTimes = s.resetTimes := rfl
@[simp] theorem State.withStc_lateFaults (s : State) (x : StcSt) : (s.withStc x).lateFaults = s.lateFaults := rfl

/-! ### withSq -/

@[simp] theorem State.withSq_pending (s : State) (x : SqSt) : (s.withSq x).pending = s.pending := rfl
@[simp] theorem State.withSq_powered (s : State) (x : SqSt) : (s.withSq x).powered = s.powered := rfl
@[simp] theorem State.withSq_regs (s : State) (x : SqSt) : (s.withSq x).regs = s.regs := rfl
@[simp] theorem State.withSq_locks (s : State) (x : SqSt) : (s.withSq x).locks = s.locks := rfl
@[simp] theorem State.withSq_latches (s : State) (x : SqSt) : (s.withSq x).latches = s.latches := rfl
@[simp] theorem State.withSq_log (s : State) (x : SqSt) : (s.withSq x).log = s.log := rfl
@[simp] theorem State.withSq_staged (s : State) (x : SqSt) : (s.withSq x).staged = s.staged := rfl
@[simp] theorem State.withSq_out (s : State) (x : SqSt) : (s.withSq x).out = s.out := rfl
@[simp] theorem State.withSq_draws (s : State) (x : SqSt) : (s.withSq x).draws = s.draws := rfl
@[simp] theorem State.withSq_traceLost (s : State) (x : SqSt) : (s.withSq x).traceLost = s.traceLost := rfl
@[simp] theorem State.withSq_mem (s : State) (x : SqSt) : (s.withSq x).mem = s.mem := rfl
@[simp] theorem State.withSq_staging (s : State) (x : SqSt) : (s.withSq x).staging = s.staging := rfl
@[simp] theorem State.withSq_poison (s : State) (x : SqSt) : (s.withSq x).poison = s.poison := rfl
@[simp] theorem State.withSq_cfgs (s : State) (x : SqSt) : (s.withSq x).cfgs = s.cfgs := rfl
@[simp] theorem State.withSq_hosts (s : State) (x : SqSt) : (s.withSq x).hosts = s.hosts := rfl
@[simp] theorem State.withSq_dlogs (s : State) (x : SqSt) : (s.withSq x).dlogs = s.dlogs := rfl
@[simp] theorem State.withSq_rings (s : State) (x : SqSt) : (s.withSq x).rings = s.rings := rfl
@[simp] theorem State.withSq_mac (s : State) (x : SqSt) : (s.withSq x).mac = s.mac := rfl
@[simp] theorem State.withSq_tbl (s : State) (x : SqSt) : (s.withSq x).tbl = s.tbl := rfl
@[simp] theorem State.withSq_prog (s : State) (x : SqSt) : (s.withSq x).prog = s.prog := rfl
@[simp] theorem State.withSq_fx (s : State) (x : SqSt) : (s.withSq x).fx = s.fx := rfl
@[simp] theorem State.withSq_tm (s : State) (x : SqSt) : (s.withSq x).tm = s.tm := rfl
@[simp] theorem State.withSq_limits (s : State) (x : SqSt) : (s.withSq x).limits = s.limits := rfl
@[simp] theorem State.withSq_faultsDue (s : State) (x : SqSt) : (s.withSq x).faultsDue = s.faultsDue := rfl
@[simp] theorem State.withSq_ciph (s : State) (x : SqSt) : (s.withSq x).ciph = s.ciph := rfl
@[simp] theorem State.withSq_stor (s : State) (x : SqSt) : (s.withSq x).stor = s.stor := rfl
@[simp] theorem State.withSq_rma (s : State) (x : SqSt) : (s.withSq x).rma = s.rma := rfl
@[simp] theorem State.withSq_time (s : State) (x : SqSt) : (s.withSq x).time = s.time := rfl
@[simp] theorem State.withSq_led (s : State) (x : SqSt) : (s.withSq x).led = s.led := rfl
@[simp] theorem State.withSq_cal (s : State) (x : SqSt) : (s.withSq x).cal = s.cal := rfl
@[simp] theorem State.withSq_pkg (s : State) (x : SqSt) : (s.withSq x).pkg = s.pkg := rfl
@[simp] theorem State.withSq_stc (s : State) (x : SqSt) : (s.withSq x).stc = s.stc := rfl
@[simp] theorem State.withSq_sq (s : State) (x : SqSt) : (s.withSq x).sq = x := rfl
@[simp] theorem State.withSq_boot (s : State) (x : SqSt) : (s.withSq x).boot = s.boot := rfl
@[simp] theorem State.withSq_tr (s : State) (x : SqSt) : (s.withSq x).tr = s.tr := rfl
@[simp] theorem State.withSq_dbg (s : State) (x : SqSt) : (s.withSq x).dbg = s.dbg := rfl
@[simp] theorem State.withSq_tap (s : State) (x : SqSt) : (s.withSq x).tap = s.tap := rfl
@[simp] theorem State.withSq_ccr (s : State) (x : SqSt) : (s.withSq x).ccr = s.ccr := rfl
@[simp] theorem State.withSq_harts (s : State) (x : SqSt) : (s.withSq x).harts = s.harts := rfl
@[simp] theorem State.withSq_request (s : State) (x : SqSt) : (s.withSq x).request = s.request := rfl
@[simp] theorem State.withSq_faultTimes (s : State) (x : SqSt) : (s.withSq x).faultTimes = s.faultTimes := rfl
@[simp] theorem State.withSq_resetTimes (s : State) (x : SqSt) : (s.withSq x).resetTimes = s.resetTimes := rfl
@[simp] theorem State.withSq_lateFaults (s : State) (x : SqSt) : (s.withSq x).lateFaults = s.lateFaults := rfl

/-! ### withBoot -/

@[simp] theorem State.withBoot_pending (s : State) (x : BootSt) : (s.withBoot x).pending = s.pending := rfl
@[simp] theorem State.withBoot_powered (s : State) (x : BootSt) : (s.withBoot x).powered = s.powered := rfl
@[simp] theorem State.withBoot_regs (s : State) (x : BootSt) : (s.withBoot x).regs = s.regs := rfl
@[simp] theorem State.withBoot_locks (s : State) (x : BootSt) : (s.withBoot x).locks = s.locks := rfl
@[simp] theorem State.withBoot_latches (s : State) (x : BootSt) : (s.withBoot x).latches = s.latches := rfl
@[simp] theorem State.withBoot_log (s : State) (x : BootSt) : (s.withBoot x).log = s.log := rfl
@[simp] theorem State.withBoot_staged (s : State) (x : BootSt) : (s.withBoot x).staged = s.staged := rfl
@[simp] theorem State.withBoot_out (s : State) (x : BootSt) : (s.withBoot x).out = s.out := rfl
@[simp] theorem State.withBoot_draws (s : State) (x : BootSt) : (s.withBoot x).draws = s.draws := rfl
@[simp] theorem State.withBoot_traceLost (s : State) (x : BootSt) : (s.withBoot x).traceLost = s.traceLost := rfl
@[simp] theorem State.withBoot_mem (s : State) (x : BootSt) : (s.withBoot x).mem = s.mem := rfl
@[simp] theorem State.withBoot_staging (s : State) (x : BootSt) : (s.withBoot x).staging = s.staging := rfl
@[simp] theorem State.withBoot_poison (s : State) (x : BootSt) : (s.withBoot x).poison = s.poison := rfl
@[simp] theorem State.withBoot_cfgs (s : State) (x : BootSt) : (s.withBoot x).cfgs = s.cfgs := rfl
@[simp] theorem State.withBoot_hosts (s : State) (x : BootSt) : (s.withBoot x).hosts = s.hosts := rfl
@[simp] theorem State.withBoot_dlogs (s : State) (x : BootSt) : (s.withBoot x).dlogs = s.dlogs := rfl
@[simp] theorem State.withBoot_rings (s : State) (x : BootSt) : (s.withBoot x).rings = s.rings := rfl
@[simp] theorem State.withBoot_mac (s : State) (x : BootSt) : (s.withBoot x).mac = s.mac := rfl
@[simp] theorem State.withBoot_tbl (s : State) (x : BootSt) : (s.withBoot x).tbl = s.tbl := rfl
@[simp] theorem State.withBoot_prog (s : State) (x : BootSt) : (s.withBoot x).prog = s.prog := rfl
@[simp] theorem State.withBoot_fx (s : State) (x : BootSt) : (s.withBoot x).fx = s.fx := rfl
@[simp] theorem State.withBoot_tm (s : State) (x : BootSt) : (s.withBoot x).tm = s.tm := rfl
@[simp] theorem State.withBoot_limits (s : State) (x : BootSt) : (s.withBoot x).limits = s.limits := rfl
@[simp] theorem State.withBoot_faultsDue (s : State) (x : BootSt) : (s.withBoot x).faultsDue = s.faultsDue := rfl
@[simp] theorem State.withBoot_ciph (s : State) (x : BootSt) : (s.withBoot x).ciph = s.ciph := rfl
@[simp] theorem State.withBoot_stor (s : State) (x : BootSt) : (s.withBoot x).stor = s.stor := rfl
@[simp] theorem State.withBoot_rma (s : State) (x : BootSt) : (s.withBoot x).rma = s.rma := rfl
@[simp] theorem State.withBoot_time (s : State) (x : BootSt) : (s.withBoot x).time = s.time := rfl
@[simp] theorem State.withBoot_led (s : State) (x : BootSt) : (s.withBoot x).led = s.led := rfl
@[simp] theorem State.withBoot_cal (s : State) (x : BootSt) : (s.withBoot x).cal = s.cal := rfl
@[simp] theorem State.withBoot_pkg (s : State) (x : BootSt) : (s.withBoot x).pkg = s.pkg := rfl
@[simp] theorem State.withBoot_stc (s : State) (x : BootSt) : (s.withBoot x).stc = s.stc := rfl
@[simp] theorem State.withBoot_sq (s : State) (x : BootSt) : (s.withBoot x).sq = s.sq := rfl
@[simp] theorem State.withBoot_boot (s : State) (x : BootSt) : (s.withBoot x).boot = x := rfl
@[simp] theorem State.withBoot_tr (s : State) (x : BootSt) : (s.withBoot x).tr = s.tr := rfl
@[simp] theorem State.withBoot_dbg (s : State) (x : BootSt) : (s.withBoot x).dbg = s.dbg := rfl
@[simp] theorem State.withBoot_tap (s : State) (x : BootSt) : (s.withBoot x).tap = s.tap := rfl
@[simp] theorem State.withBoot_ccr (s : State) (x : BootSt) : (s.withBoot x).ccr = s.ccr := rfl
@[simp] theorem State.withBoot_harts (s : State) (x : BootSt) : (s.withBoot x).harts = s.harts := rfl
@[simp] theorem State.withBoot_request (s : State) (x : BootSt) : (s.withBoot x).request = s.request := rfl
@[simp] theorem State.withBoot_faultTimes (s : State) (x : BootSt) : (s.withBoot x).faultTimes = s.faultTimes := rfl
@[simp] theorem State.withBoot_resetTimes (s : State) (x : BootSt) : (s.withBoot x).resetTimes = s.resetTimes := rfl
@[simp] theorem State.withBoot_lateFaults (s : State) (x : BootSt) : (s.withBoot x).lateFaults = s.lateFaults := rfl

/-! ### withTr -/

@[simp] theorem State.withTr_pending (s : State) (x : TrSt) : (s.withTr x).pending = s.pending := rfl
@[simp] theorem State.withTr_powered (s : State) (x : TrSt) : (s.withTr x).powered = s.powered := rfl
@[simp] theorem State.withTr_regs (s : State) (x : TrSt) : (s.withTr x).regs = s.regs := rfl
@[simp] theorem State.withTr_locks (s : State) (x : TrSt) : (s.withTr x).locks = s.locks := rfl
@[simp] theorem State.withTr_latches (s : State) (x : TrSt) : (s.withTr x).latches = s.latches := rfl
@[simp] theorem State.withTr_log (s : State) (x : TrSt) : (s.withTr x).log = s.log := rfl
@[simp] theorem State.withTr_staged (s : State) (x : TrSt) : (s.withTr x).staged = s.staged := rfl
@[simp] theorem State.withTr_out (s : State) (x : TrSt) : (s.withTr x).out = s.out := rfl
@[simp] theorem State.withTr_draws (s : State) (x : TrSt) : (s.withTr x).draws = s.draws := rfl
@[simp] theorem State.withTr_traceLost (s : State) (x : TrSt) : (s.withTr x).traceLost = s.traceLost := rfl
@[simp] theorem State.withTr_mem (s : State) (x : TrSt) : (s.withTr x).mem = s.mem := rfl
@[simp] theorem State.withTr_staging (s : State) (x : TrSt) : (s.withTr x).staging = s.staging := rfl
@[simp] theorem State.withTr_poison (s : State) (x : TrSt) : (s.withTr x).poison = s.poison := rfl
@[simp] theorem State.withTr_cfgs (s : State) (x : TrSt) : (s.withTr x).cfgs = s.cfgs := rfl
@[simp] theorem State.withTr_hosts (s : State) (x : TrSt) : (s.withTr x).hosts = s.hosts := rfl
@[simp] theorem State.withTr_dlogs (s : State) (x : TrSt) : (s.withTr x).dlogs = s.dlogs := rfl
@[simp] theorem State.withTr_rings (s : State) (x : TrSt) : (s.withTr x).rings = s.rings := rfl
@[simp] theorem State.withTr_mac (s : State) (x : TrSt) : (s.withTr x).mac = s.mac := rfl
@[simp] theorem State.withTr_tbl (s : State) (x : TrSt) : (s.withTr x).tbl = s.tbl := rfl
@[simp] theorem State.withTr_prog (s : State) (x : TrSt) : (s.withTr x).prog = s.prog := rfl
@[simp] theorem State.withTr_fx (s : State) (x : TrSt) : (s.withTr x).fx = s.fx := rfl
@[simp] theorem State.withTr_tm (s : State) (x : TrSt) : (s.withTr x).tm = s.tm := rfl
@[simp] theorem State.withTr_limits (s : State) (x : TrSt) : (s.withTr x).limits = s.limits := rfl
@[simp] theorem State.withTr_faultsDue (s : State) (x : TrSt) : (s.withTr x).faultsDue = s.faultsDue := rfl
@[simp] theorem State.withTr_ciph (s : State) (x : TrSt) : (s.withTr x).ciph = s.ciph := rfl
@[simp] theorem State.withTr_stor (s : State) (x : TrSt) : (s.withTr x).stor = s.stor := rfl
@[simp] theorem State.withTr_rma (s : State) (x : TrSt) : (s.withTr x).rma = s.rma := rfl
@[simp] theorem State.withTr_time (s : State) (x : TrSt) : (s.withTr x).time = s.time := rfl
@[simp] theorem State.withTr_led (s : State) (x : TrSt) : (s.withTr x).led = s.led := rfl
@[simp] theorem State.withTr_cal (s : State) (x : TrSt) : (s.withTr x).cal = s.cal := rfl
@[simp] theorem State.withTr_pkg (s : State) (x : TrSt) : (s.withTr x).pkg = s.pkg := rfl
@[simp] theorem State.withTr_stc (s : State) (x : TrSt) : (s.withTr x).stc = s.stc := rfl
@[simp] theorem State.withTr_sq (s : State) (x : TrSt) : (s.withTr x).sq = s.sq := rfl
@[simp] theorem State.withTr_boot (s : State) (x : TrSt) : (s.withTr x).boot = s.boot := rfl
@[simp] theorem State.withTr_tr (s : State) (x : TrSt) : (s.withTr x).tr = x := rfl
@[simp] theorem State.withTr_dbg (s : State) (x : TrSt) : (s.withTr x).dbg = s.dbg := rfl
@[simp] theorem State.withTr_tap (s : State) (x : TrSt) : (s.withTr x).tap = s.tap := rfl
@[simp] theorem State.withTr_ccr (s : State) (x : TrSt) : (s.withTr x).ccr = s.ccr := rfl
@[simp] theorem State.withTr_harts (s : State) (x : TrSt) : (s.withTr x).harts = s.harts := rfl
@[simp] theorem State.withTr_request (s : State) (x : TrSt) : (s.withTr x).request = s.request := rfl
@[simp] theorem State.withTr_faultTimes (s : State) (x : TrSt) : (s.withTr x).faultTimes = s.faultTimes := rfl
@[simp] theorem State.withTr_resetTimes (s : State) (x : TrSt) : (s.withTr x).resetTimes = s.resetTimes := rfl
@[simp] theorem State.withTr_lateFaults (s : State) (x : TrSt) : (s.withTr x).lateFaults = s.lateFaults := rfl

/-! ### withDbg -/

@[simp] theorem State.withDbg_pending (s : State) (x : DbgSt) : (s.withDbg x).pending = s.pending := rfl
@[simp] theorem State.withDbg_powered (s : State) (x : DbgSt) : (s.withDbg x).powered = s.powered := rfl
@[simp] theorem State.withDbg_regs (s : State) (x : DbgSt) : (s.withDbg x).regs = s.regs := rfl
@[simp] theorem State.withDbg_locks (s : State) (x : DbgSt) : (s.withDbg x).locks = s.locks := rfl
@[simp] theorem State.withDbg_latches (s : State) (x : DbgSt) : (s.withDbg x).latches = s.latches := rfl
@[simp] theorem State.withDbg_log (s : State) (x : DbgSt) : (s.withDbg x).log = s.log := rfl
@[simp] theorem State.withDbg_staged (s : State) (x : DbgSt) : (s.withDbg x).staged = s.staged := rfl
@[simp] theorem State.withDbg_out (s : State) (x : DbgSt) : (s.withDbg x).out = s.out := rfl
@[simp] theorem State.withDbg_draws (s : State) (x : DbgSt) : (s.withDbg x).draws = s.draws := rfl
@[simp] theorem State.withDbg_traceLost (s : State) (x : DbgSt) : (s.withDbg x).traceLost = s.traceLost := rfl
@[simp] theorem State.withDbg_mem (s : State) (x : DbgSt) : (s.withDbg x).mem = s.mem := rfl
@[simp] theorem State.withDbg_staging (s : State) (x : DbgSt) : (s.withDbg x).staging = s.staging := rfl
@[simp] theorem State.withDbg_poison (s : State) (x : DbgSt) : (s.withDbg x).poison = s.poison := rfl
@[simp] theorem State.withDbg_cfgs (s : State) (x : DbgSt) : (s.withDbg x).cfgs = s.cfgs := rfl
@[simp] theorem State.withDbg_hosts (s : State) (x : DbgSt) : (s.withDbg x).hosts = s.hosts := rfl
@[simp] theorem State.withDbg_dlogs (s : State) (x : DbgSt) : (s.withDbg x).dlogs = s.dlogs := rfl
@[simp] theorem State.withDbg_rings (s : State) (x : DbgSt) : (s.withDbg x).rings = s.rings := rfl
@[simp] theorem State.withDbg_mac (s : State) (x : DbgSt) : (s.withDbg x).mac = s.mac := rfl
@[simp] theorem State.withDbg_tbl (s : State) (x : DbgSt) : (s.withDbg x).tbl = s.tbl := rfl
@[simp] theorem State.withDbg_prog (s : State) (x : DbgSt) : (s.withDbg x).prog = s.prog := rfl
@[simp] theorem State.withDbg_fx (s : State) (x : DbgSt) : (s.withDbg x).fx = s.fx := rfl
@[simp] theorem State.withDbg_tm (s : State) (x : DbgSt) : (s.withDbg x).tm = s.tm := rfl
@[simp] theorem State.withDbg_limits (s : State) (x : DbgSt) : (s.withDbg x).limits = s.limits := rfl
@[simp] theorem State.withDbg_faultsDue (s : State) (x : DbgSt) : (s.withDbg x).faultsDue = s.faultsDue := rfl
@[simp] theorem State.withDbg_ciph (s : State) (x : DbgSt) : (s.withDbg x).ciph = s.ciph := rfl
@[simp] theorem State.withDbg_stor (s : State) (x : DbgSt) : (s.withDbg x).stor = s.stor := rfl
@[simp] theorem State.withDbg_rma (s : State) (x : DbgSt) : (s.withDbg x).rma = s.rma := rfl
@[simp] theorem State.withDbg_time (s : State) (x : DbgSt) : (s.withDbg x).time = s.time := rfl
@[simp] theorem State.withDbg_led (s : State) (x : DbgSt) : (s.withDbg x).led = s.led := rfl
@[simp] theorem State.withDbg_cal (s : State) (x : DbgSt) : (s.withDbg x).cal = s.cal := rfl
@[simp] theorem State.withDbg_pkg (s : State) (x : DbgSt) : (s.withDbg x).pkg = s.pkg := rfl
@[simp] theorem State.withDbg_stc (s : State) (x : DbgSt) : (s.withDbg x).stc = s.stc := rfl
@[simp] theorem State.withDbg_sq (s : State) (x : DbgSt) : (s.withDbg x).sq = s.sq := rfl
@[simp] theorem State.withDbg_boot (s : State) (x : DbgSt) : (s.withDbg x).boot = s.boot := rfl
@[simp] theorem State.withDbg_tr (s : State) (x : DbgSt) : (s.withDbg x).tr = s.tr := rfl
@[simp] theorem State.withDbg_dbg (s : State) (x : DbgSt) : (s.withDbg x).dbg = x := rfl
@[simp] theorem State.withDbg_tap (s : State) (x : DbgSt) : (s.withDbg x).tap = s.tap := rfl
@[simp] theorem State.withDbg_ccr (s : State) (x : DbgSt) : (s.withDbg x).ccr = s.ccr := rfl
@[simp] theorem State.withDbg_harts (s : State) (x : DbgSt) : (s.withDbg x).harts = s.harts := rfl
@[simp] theorem State.withDbg_request (s : State) (x : DbgSt) : (s.withDbg x).request = s.request := rfl
@[simp] theorem State.withDbg_faultTimes (s : State) (x : DbgSt) : (s.withDbg x).faultTimes = s.faultTimes := rfl
@[simp] theorem State.withDbg_resetTimes (s : State) (x : DbgSt) : (s.withDbg x).resetTimes = s.resetTimes := rfl
@[simp] theorem State.withDbg_lateFaults (s : State) (x : DbgSt) : (s.withDbg x).lateFaults = s.lateFaults := rfl

/-! ### withTap -/

@[simp] theorem State.withTap_pending (s : State) (x : TapSt) : (s.withTap x).pending = s.pending := rfl
@[simp] theorem State.withTap_powered (s : State) (x : TapSt) : (s.withTap x).powered = s.powered := rfl
@[simp] theorem State.withTap_regs (s : State) (x : TapSt) : (s.withTap x).regs = s.regs := rfl
@[simp] theorem State.withTap_locks (s : State) (x : TapSt) : (s.withTap x).locks = s.locks := rfl
@[simp] theorem State.withTap_latches (s : State) (x : TapSt) : (s.withTap x).latches = s.latches := rfl
@[simp] theorem State.withTap_log (s : State) (x : TapSt) : (s.withTap x).log = s.log := rfl
@[simp] theorem State.withTap_staged (s : State) (x : TapSt) : (s.withTap x).staged = s.staged := rfl
@[simp] theorem State.withTap_out (s : State) (x : TapSt) : (s.withTap x).out = s.out := rfl
@[simp] theorem State.withTap_draws (s : State) (x : TapSt) : (s.withTap x).draws = s.draws := rfl
@[simp] theorem State.withTap_traceLost (s : State) (x : TapSt) : (s.withTap x).traceLost = s.traceLost := rfl
@[simp] theorem State.withTap_mem (s : State) (x : TapSt) : (s.withTap x).mem = s.mem := rfl
@[simp] theorem State.withTap_staging (s : State) (x : TapSt) : (s.withTap x).staging = s.staging := rfl
@[simp] theorem State.withTap_poison (s : State) (x : TapSt) : (s.withTap x).poison = s.poison := rfl
@[simp] theorem State.withTap_cfgs (s : State) (x : TapSt) : (s.withTap x).cfgs = s.cfgs := rfl
@[simp] theorem State.withTap_hosts (s : State) (x : TapSt) : (s.withTap x).hosts = s.hosts := rfl
@[simp] theorem State.withTap_dlogs (s : State) (x : TapSt) : (s.withTap x).dlogs = s.dlogs := rfl
@[simp] theorem State.withTap_rings (s : State) (x : TapSt) : (s.withTap x).rings = s.rings := rfl
@[simp] theorem State.withTap_mac (s : State) (x : TapSt) : (s.withTap x).mac = s.mac := rfl
@[simp] theorem State.withTap_tbl (s : State) (x : TapSt) : (s.withTap x).tbl = s.tbl := rfl
@[simp] theorem State.withTap_prog (s : State) (x : TapSt) : (s.withTap x).prog = s.prog := rfl
@[simp] theorem State.withTap_fx (s : State) (x : TapSt) : (s.withTap x).fx = s.fx := rfl
@[simp] theorem State.withTap_tm (s : State) (x : TapSt) : (s.withTap x).tm = s.tm := rfl
@[simp] theorem State.withTap_limits (s : State) (x : TapSt) : (s.withTap x).limits = s.limits := rfl
@[simp] theorem State.withTap_faultsDue (s : State) (x : TapSt) : (s.withTap x).faultsDue = s.faultsDue := rfl
@[simp] theorem State.withTap_ciph (s : State) (x : TapSt) : (s.withTap x).ciph = s.ciph := rfl
@[simp] theorem State.withTap_stor (s : State) (x : TapSt) : (s.withTap x).stor = s.stor := rfl
@[simp] theorem State.withTap_rma (s : State) (x : TapSt) : (s.withTap x).rma = s.rma := rfl
@[simp] theorem State.withTap_time (s : State) (x : TapSt) : (s.withTap x).time = s.time := rfl
@[simp] theorem State.withTap_led (s : State) (x : TapSt) : (s.withTap x).led = s.led := rfl
@[simp] theorem State.withTap_cal (s : State) (x : TapSt) : (s.withTap x).cal = s.cal := rfl
@[simp] theorem State.withTap_pkg (s : State) (x : TapSt) : (s.withTap x).pkg = s.pkg := rfl
@[simp] theorem State.withTap_stc (s : State) (x : TapSt) : (s.withTap x).stc = s.stc := rfl
@[simp] theorem State.withTap_sq (s : State) (x : TapSt) : (s.withTap x).sq = s.sq := rfl
@[simp] theorem State.withTap_boot (s : State) (x : TapSt) : (s.withTap x).boot = s.boot := rfl
@[simp] theorem State.withTap_tr (s : State) (x : TapSt) : (s.withTap x).tr = s.tr := rfl
@[simp] theorem State.withTap_dbg (s : State) (x : TapSt) : (s.withTap x).dbg = s.dbg := rfl
@[simp] theorem State.withTap_tap (s : State) (x : TapSt) : (s.withTap x).tap = x := rfl
@[simp] theorem State.withTap_ccr (s : State) (x : TapSt) : (s.withTap x).ccr = s.ccr := rfl
@[simp] theorem State.withTap_harts (s : State) (x : TapSt) : (s.withTap x).harts = s.harts := rfl
@[simp] theorem State.withTap_request (s : State) (x : TapSt) : (s.withTap x).request = s.request := rfl
@[simp] theorem State.withTap_faultTimes (s : State) (x : TapSt) : (s.withTap x).faultTimes = s.faultTimes := rfl
@[simp] theorem State.withTap_resetTimes (s : State) (x : TapSt) : (s.withTap x).resetTimes = s.resetTimes := rfl
@[simp] theorem State.withTap_lateFaults (s : State) (x : TapSt) : (s.withTap x).lateFaults = s.lateFaults := rfl

/-! ### withCcr -/

@[simp] theorem State.withCcr_pending (s : State) (x : CcrSt) : (s.withCcr x).pending = s.pending := rfl
@[simp] theorem State.withCcr_powered (s : State) (x : CcrSt) : (s.withCcr x).powered = s.powered := rfl
@[simp] theorem State.withCcr_regs (s : State) (x : CcrSt) : (s.withCcr x).regs = s.regs := rfl
@[simp] theorem State.withCcr_locks (s : State) (x : CcrSt) : (s.withCcr x).locks = s.locks := rfl
@[simp] theorem State.withCcr_latches (s : State) (x : CcrSt) : (s.withCcr x).latches = s.latches := rfl
@[simp] theorem State.withCcr_log (s : State) (x : CcrSt) : (s.withCcr x).log = s.log := rfl
@[simp] theorem State.withCcr_staged (s : State) (x : CcrSt) : (s.withCcr x).staged = s.staged := rfl
@[simp] theorem State.withCcr_out (s : State) (x : CcrSt) : (s.withCcr x).out = s.out := rfl
@[simp] theorem State.withCcr_draws (s : State) (x : CcrSt) : (s.withCcr x).draws = s.draws := rfl
@[simp] theorem State.withCcr_traceLost (s : State) (x : CcrSt) : (s.withCcr x).traceLost = s.traceLost := rfl
@[simp] theorem State.withCcr_mem (s : State) (x : CcrSt) : (s.withCcr x).mem = s.mem := rfl
@[simp] theorem State.withCcr_staging (s : State) (x : CcrSt) : (s.withCcr x).staging = s.staging := rfl
@[simp] theorem State.withCcr_poison (s : State) (x : CcrSt) : (s.withCcr x).poison = s.poison := rfl
@[simp] theorem State.withCcr_cfgs (s : State) (x : CcrSt) : (s.withCcr x).cfgs = s.cfgs := rfl
@[simp] theorem State.withCcr_hosts (s : State) (x : CcrSt) : (s.withCcr x).hosts = s.hosts := rfl
@[simp] theorem State.withCcr_dlogs (s : State) (x : CcrSt) : (s.withCcr x).dlogs = s.dlogs := rfl
@[simp] theorem State.withCcr_rings (s : State) (x : CcrSt) : (s.withCcr x).rings = s.rings := rfl
@[simp] theorem State.withCcr_mac (s : State) (x : CcrSt) : (s.withCcr x).mac = s.mac := rfl
@[simp] theorem State.withCcr_tbl (s : State) (x : CcrSt) : (s.withCcr x).tbl = s.tbl := rfl
@[simp] theorem State.withCcr_prog (s : State) (x : CcrSt) : (s.withCcr x).prog = s.prog := rfl
@[simp] theorem State.withCcr_fx (s : State) (x : CcrSt) : (s.withCcr x).fx = s.fx := rfl
@[simp] theorem State.withCcr_tm (s : State) (x : CcrSt) : (s.withCcr x).tm = s.tm := rfl
@[simp] theorem State.withCcr_limits (s : State) (x : CcrSt) : (s.withCcr x).limits = s.limits := rfl
@[simp] theorem State.withCcr_faultsDue (s : State) (x : CcrSt) : (s.withCcr x).faultsDue = s.faultsDue := rfl
@[simp] theorem State.withCcr_ciph (s : State) (x : CcrSt) : (s.withCcr x).ciph = s.ciph := rfl
@[simp] theorem State.withCcr_stor (s : State) (x : CcrSt) : (s.withCcr x).stor = s.stor := rfl
@[simp] theorem State.withCcr_rma (s : State) (x : CcrSt) : (s.withCcr x).rma = s.rma := rfl
@[simp] theorem State.withCcr_time (s : State) (x : CcrSt) : (s.withCcr x).time = s.time := rfl
@[simp] theorem State.withCcr_led (s : State) (x : CcrSt) : (s.withCcr x).led = s.led := rfl
@[simp] theorem State.withCcr_cal (s : State) (x : CcrSt) : (s.withCcr x).cal = s.cal := rfl
@[simp] theorem State.withCcr_pkg (s : State) (x : CcrSt) : (s.withCcr x).pkg = s.pkg := rfl
@[simp] theorem State.withCcr_stc (s : State) (x : CcrSt) : (s.withCcr x).stc = s.stc := rfl
@[simp] theorem State.withCcr_sq (s : State) (x : CcrSt) : (s.withCcr x).sq = s.sq := rfl
@[simp] theorem State.withCcr_boot (s : State) (x : CcrSt) : (s.withCcr x).boot = s.boot := rfl
@[simp] theorem State.withCcr_tr (s : State) (x : CcrSt) : (s.withCcr x).tr = s.tr := rfl
@[simp] theorem State.withCcr_dbg (s : State) (x : CcrSt) : (s.withCcr x).dbg = s.dbg := rfl
@[simp] theorem State.withCcr_tap (s : State) (x : CcrSt) : (s.withCcr x).tap = s.tap := rfl
@[simp] theorem State.withCcr_ccr (s : State) (x : CcrSt) : (s.withCcr x).ccr = x := rfl
@[simp] theorem State.withCcr_harts (s : State) (x : CcrSt) : (s.withCcr x).harts = s.harts := rfl
@[simp] theorem State.withCcr_request (s : State) (x : CcrSt) : (s.withCcr x).request = s.request := rfl
@[simp] theorem State.withCcr_faultTimes (s : State) (x : CcrSt) : (s.withCcr x).faultTimes = s.faultTimes := rfl
@[simp] theorem State.withCcr_resetTimes (s : State) (x : CcrSt) : (s.withCcr x).resetTimes = s.resetTimes := rfl
@[simp] theorem State.withCcr_lateFaults (s : State) (x : CcrSt) : (s.withCcr x).lateFaults = s.lateFaults := rfl

/-! ### withHarts -/

@[simp] theorem State.withHarts_pending (s : State) (x : Map Hart) : (s.withHarts x).pending = s.pending := rfl
@[simp] theorem State.withHarts_powered (s : State) (x : Map Hart) : (s.withHarts x).powered = s.powered := rfl
@[simp] theorem State.withHarts_regs (s : State) (x : Map Hart) : (s.withHarts x).regs = s.regs := rfl
@[simp] theorem State.withHarts_locks (s : State) (x : Map Hart) : (s.withHarts x).locks = s.locks := rfl
@[simp] theorem State.withHarts_latches (s : State) (x : Map Hart) : (s.withHarts x).latches = s.latches := rfl
@[simp] theorem State.withHarts_log (s : State) (x : Map Hart) : (s.withHarts x).log = s.log := rfl
@[simp] theorem State.withHarts_staged (s : State) (x : Map Hart) : (s.withHarts x).staged = s.staged := rfl
@[simp] theorem State.withHarts_out (s : State) (x : Map Hart) : (s.withHarts x).out = s.out := rfl
@[simp] theorem State.withHarts_draws (s : State) (x : Map Hart) : (s.withHarts x).draws = s.draws := rfl
@[simp] theorem State.withHarts_traceLost (s : State) (x : Map Hart) : (s.withHarts x).traceLost = s.traceLost := rfl
@[simp] theorem State.withHarts_mem (s : State) (x : Map Hart) : (s.withHarts x).mem = s.mem := rfl
@[simp] theorem State.withHarts_staging (s : State) (x : Map Hart) : (s.withHarts x).staging = s.staging := rfl
@[simp] theorem State.withHarts_poison (s : State) (x : Map Hart) : (s.withHarts x).poison = s.poison := rfl
@[simp] theorem State.withHarts_cfgs (s : State) (x : Map Hart) : (s.withHarts x).cfgs = s.cfgs := rfl
@[simp] theorem State.withHarts_hosts (s : State) (x : Map Hart) : (s.withHarts x).hosts = s.hosts := rfl
@[simp] theorem State.withHarts_dlogs (s : State) (x : Map Hart) : (s.withHarts x).dlogs = s.dlogs := rfl
@[simp] theorem State.withHarts_rings (s : State) (x : Map Hart) : (s.withHarts x).rings = s.rings := rfl
@[simp] theorem State.withHarts_mac (s : State) (x : Map Hart) : (s.withHarts x).mac = s.mac := rfl
@[simp] theorem State.withHarts_tbl (s : State) (x : Map Hart) : (s.withHarts x).tbl = s.tbl := rfl
@[simp] theorem State.withHarts_prog (s : State) (x : Map Hart) : (s.withHarts x).prog = s.prog := rfl
@[simp] theorem State.withHarts_fx (s : State) (x : Map Hart) : (s.withHarts x).fx = s.fx := rfl
@[simp] theorem State.withHarts_tm (s : State) (x : Map Hart) : (s.withHarts x).tm = s.tm := rfl
@[simp] theorem State.withHarts_limits (s : State) (x : Map Hart) : (s.withHarts x).limits = s.limits := rfl
@[simp] theorem State.withHarts_faultsDue (s : State) (x : Map Hart) : (s.withHarts x).faultsDue = s.faultsDue := rfl
@[simp] theorem State.withHarts_ciph (s : State) (x : Map Hart) : (s.withHarts x).ciph = s.ciph := rfl
@[simp] theorem State.withHarts_stor (s : State) (x : Map Hart) : (s.withHarts x).stor = s.stor := rfl
@[simp] theorem State.withHarts_rma (s : State) (x : Map Hart) : (s.withHarts x).rma = s.rma := rfl
@[simp] theorem State.withHarts_time (s : State) (x : Map Hart) : (s.withHarts x).time = s.time := rfl
@[simp] theorem State.withHarts_led (s : State) (x : Map Hart) : (s.withHarts x).led = s.led := rfl
@[simp] theorem State.withHarts_cal (s : State) (x : Map Hart) : (s.withHarts x).cal = s.cal := rfl
@[simp] theorem State.withHarts_pkg (s : State) (x : Map Hart) : (s.withHarts x).pkg = s.pkg := rfl
@[simp] theorem State.withHarts_stc (s : State) (x : Map Hart) : (s.withHarts x).stc = s.stc := rfl
@[simp] theorem State.withHarts_sq (s : State) (x : Map Hart) : (s.withHarts x).sq = s.sq := rfl
@[simp] theorem State.withHarts_boot (s : State) (x : Map Hart) : (s.withHarts x).boot = s.boot := rfl
@[simp] theorem State.withHarts_tr (s : State) (x : Map Hart) : (s.withHarts x).tr = s.tr := rfl
@[simp] theorem State.withHarts_dbg (s : State) (x : Map Hart) : (s.withHarts x).dbg = s.dbg := rfl
@[simp] theorem State.withHarts_tap (s : State) (x : Map Hart) : (s.withHarts x).tap = s.tap := rfl
@[simp] theorem State.withHarts_ccr (s : State) (x : Map Hart) : (s.withHarts x).ccr = s.ccr := rfl
@[simp] theorem State.withHarts_harts (s : State) (x : Map Hart) : (s.withHarts x).harts = x := rfl
@[simp] theorem State.withHarts_request (s : State) (x : Map Hart) : (s.withHarts x).request = s.request := rfl
@[simp] theorem State.withHarts_faultTimes (s : State) (x : Map Hart) : (s.withHarts x).faultTimes = s.faultTimes := rfl
@[simp] theorem State.withHarts_resetTimes (s : State) (x : Map Hart) : (s.withHarts x).resetTimes = s.resetTimes := rfl
@[simp] theorem State.withHarts_lateFaults (s : State) (x : Map Hart) : (s.withHarts x).lateFaults = s.lateFaults := rfl

/-! ### withRequest -/

@[simp] theorem State.withRequest_pending (s : State) (x : Nat) : (s.withRequest x).pending = s.pending := rfl
@[simp] theorem State.withRequest_powered (s : State) (x : Nat) : (s.withRequest x).powered = s.powered := rfl
@[simp] theorem State.withRequest_regs (s : State) (x : Nat) : (s.withRequest x).regs = s.regs := rfl
@[simp] theorem State.withRequest_locks (s : State) (x : Nat) : (s.withRequest x).locks = s.locks := rfl
@[simp] theorem State.withRequest_latches (s : State) (x : Nat) : (s.withRequest x).latches = s.latches := rfl
@[simp] theorem State.withRequest_log (s : State) (x : Nat) : (s.withRequest x).log = s.log := rfl
@[simp] theorem State.withRequest_staged (s : State) (x : Nat) : (s.withRequest x).staged = s.staged := rfl
@[simp] theorem State.withRequest_out (s : State) (x : Nat) : (s.withRequest x).out = s.out := rfl
@[simp] theorem State.withRequest_draws (s : State) (x : Nat) : (s.withRequest x).draws = s.draws := rfl
@[simp] theorem State.withRequest_traceLost (s : State) (x : Nat) : (s.withRequest x).traceLost = s.traceLost := rfl
@[simp] theorem State.withRequest_mem (s : State) (x : Nat) : (s.withRequest x).mem = s.mem := rfl
@[simp] theorem State.withRequest_staging (s : State) (x : Nat) : (s.withRequest x).staging = s.staging := rfl
@[simp] theorem State.withRequest_poison (s : State) (x : Nat) : (s.withRequest x).poison = s.poison := rfl
@[simp] theorem State.withRequest_cfgs (s : State) (x : Nat) : (s.withRequest x).cfgs = s.cfgs := rfl
@[simp] theorem State.withRequest_hosts (s : State) (x : Nat) : (s.withRequest x).hosts = s.hosts := rfl
@[simp] theorem State.withRequest_dlogs (s : State) (x : Nat) : (s.withRequest x).dlogs = s.dlogs := rfl
@[simp] theorem State.withRequest_rings (s : State) (x : Nat) : (s.withRequest x).rings = s.rings := rfl
@[simp] theorem State.withRequest_mac (s : State) (x : Nat) : (s.withRequest x).mac = s.mac := rfl
@[simp] theorem State.withRequest_tbl (s : State) (x : Nat) : (s.withRequest x).tbl = s.tbl := rfl
@[simp] theorem State.withRequest_prog (s : State) (x : Nat) : (s.withRequest x).prog = s.prog := rfl
@[simp] theorem State.withRequest_fx (s : State) (x : Nat) : (s.withRequest x).fx = s.fx := rfl
@[simp] theorem State.withRequest_tm (s : State) (x : Nat) : (s.withRequest x).tm = s.tm := rfl
@[simp] theorem State.withRequest_limits (s : State) (x : Nat) : (s.withRequest x).limits = s.limits := rfl
@[simp] theorem State.withRequest_faultsDue (s : State) (x : Nat) : (s.withRequest x).faultsDue = s.faultsDue := rfl
@[simp] theorem State.withRequest_ciph (s : State) (x : Nat) : (s.withRequest x).ciph = s.ciph := rfl
@[simp] theorem State.withRequest_stor (s : State) (x : Nat) : (s.withRequest x).stor = s.stor := rfl
@[simp] theorem State.withRequest_rma (s : State) (x : Nat) : (s.withRequest x).rma = s.rma := rfl
@[simp] theorem State.withRequest_time (s : State) (x : Nat) : (s.withRequest x).time = s.time := rfl
@[simp] theorem State.withRequest_led (s : State) (x : Nat) : (s.withRequest x).led = s.led := rfl
@[simp] theorem State.withRequest_cal (s : State) (x : Nat) : (s.withRequest x).cal = s.cal := rfl
@[simp] theorem State.withRequest_pkg (s : State) (x : Nat) : (s.withRequest x).pkg = s.pkg := rfl
@[simp] theorem State.withRequest_stc (s : State) (x : Nat) : (s.withRequest x).stc = s.stc := rfl
@[simp] theorem State.withRequest_sq (s : State) (x : Nat) : (s.withRequest x).sq = s.sq := rfl
@[simp] theorem State.withRequest_boot (s : State) (x : Nat) : (s.withRequest x).boot = s.boot := rfl
@[simp] theorem State.withRequest_tr (s : State) (x : Nat) : (s.withRequest x).tr = s.tr := rfl
@[simp] theorem State.withRequest_dbg (s : State) (x : Nat) : (s.withRequest x).dbg = s.dbg := rfl
@[simp] theorem State.withRequest_tap (s : State) (x : Nat) : (s.withRequest x).tap = s.tap := rfl
@[simp] theorem State.withRequest_ccr (s : State) (x : Nat) : (s.withRequest x).ccr = s.ccr := rfl
@[simp] theorem State.withRequest_harts (s : State) (x : Nat) : (s.withRequest x).harts = s.harts := rfl
@[simp] theorem State.withRequest_request (s : State) (x : Nat) : (s.withRequest x).request = x := rfl
@[simp] theorem State.withRequest_faultTimes (s : State) (x : Nat) : (s.withRequest x).faultTimes = s.faultTimes := rfl
@[simp] theorem State.withRequest_resetTimes (s : State) (x : Nat) : (s.withRequest x).resetTimes = s.resetTimes := rfl
@[simp] theorem State.withRequest_lateFaults (s : State) (x : Nat) : (s.withRequest x).lateFaults = s.lateFaults := rfl

/-! ### withFaultTimes -/

@[simp] theorem State.withFaultTimes_pending (s : State) (x : List Nat) : (s.withFaultTimes x).pending = s.pending := rfl
@[simp] theorem State.withFaultTimes_powered (s : State) (x : List Nat) : (s.withFaultTimes x).powered = s.powered := rfl
@[simp] theorem State.withFaultTimes_regs (s : State) (x : List Nat) : (s.withFaultTimes x).regs = s.regs := rfl
@[simp] theorem State.withFaultTimes_locks (s : State) (x : List Nat) : (s.withFaultTimes x).locks = s.locks := rfl
@[simp] theorem State.withFaultTimes_latches (s : State) (x : List Nat) : (s.withFaultTimes x).latches = s.latches := rfl
@[simp] theorem State.withFaultTimes_log (s : State) (x : List Nat) : (s.withFaultTimes x).log = s.log := rfl
@[simp] theorem State.withFaultTimes_staged (s : State) (x : List Nat) : (s.withFaultTimes x).staged = s.staged := rfl
@[simp] theorem State.withFaultTimes_out (s : State) (x : List Nat) : (s.withFaultTimes x).out = s.out := rfl
@[simp] theorem State.withFaultTimes_draws (s : State) (x : List Nat) : (s.withFaultTimes x).draws = s.draws := rfl
@[simp] theorem State.withFaultTimes_traceLost (s : State) (x : List Nat) : (s.withFaultTimes x).traceLost = s.traceLost := rfl
@[simp] theorem State.withFaultTimes_mem (s : State) (x : List Nat) : (s.withFaultTimes x).mem = s.mem := rfl
@[simp] theorem State.withFaultTimes_staging (s : State) (x : List Nat) : (s.withFaultTimes x).staging = s.staging := rfl
@[simp] theorem State.withFaultTimes_poison (s : State) (x : List Nat) : (s.withFaultTimes x).poison = s.poison := rfl
@[simp] theorem State.withFaultTimes_cfgs (s : State) (x : List Nat) : (s.withFaultTimes x).cfgs = s.cfgs := rfl
@[simp] theorem State.withFaultTimes_hosts (s : State) (x : List Nat) : (s.withFaultTimes x).hosts = s.hosts := rfl
@[simp] theorem State.withFaultTimes_dlogs (s : State) (x : List Nat) : (s.withFaultTimes x).dlogs = s.dlogs := rfl
@[simp] theorem State.withFaultTimes_rings (s : State) (x : List Nat) : (s.withFaultTimes x).rings = s.rings := rfl
@[simp] theorem State.withFaultTimes_mac (s : State) (x : List Nat) : (s.withFaultTimes x).mac = s.mac := rfl
@[simp] theorem State.withFaultTimes_tbl (s : State) (x : List Nat) : (s.withFaultTimes x).tbl = s.tbl := rfl
@[simp] theorem State.withFaultTimes_prog (s : State) (x : List Nat) : (s.withFaultTimes x).prog = s.prog := rfl
@[simp] theorem State.withFaultTimes_fx (s : State) (x : List Nat) : (s.withFaultTimes x).fx = s.fx := rfl
@[simp] theorem State.withFaultTimes_tm (s : State) (x : List Nat) : (s.withFaultTimes x).tm = s.tm := rfl
@[simp] theorem State.withFaultTimes_limits (s : State) (x : List Nat) : (s.withFaultTimes x).limits = s.limits := rfl
@[simp] theorem State.withFaultTimes_faultsDue (s : State) (x : List Nat) : (s.withFaultTimes x).faultsDue = s.faultsDue := rfl
@[simp] theorem State.withFaultTimes_ciph (s : State) (x : List Nat) : (s.withFaultTimes x).ciph = s.ciph := rfl
@[simp] theorem State.withFaultTimes_stor (s : State) (x : List Nat) : (s.withFaultTimes x).stor = s.stor := rfl
@[simp] theorem State.withFaultTimes_rma (s : State) (x : List Nat) : (s.withFaultTimes x).rma = s.rma := rfl
@[simp] theorem State.withFaultTimes_time (s : State) (x : List Nat) : (s.withFaultTimes x).time = s.time := rfl
@[simp] theorem State.withFaultTimes_led (s : State) (x : List Nat) : (s.withFaultTimes x).led = s.led := rfl
@[simp] theorem State.withFaultTimes_cal (s : State) (x : List Nat) : (s.withFaultTimes x).cal = s.cal := rfl
@[simp] theorem State.withFaultTimes_pkg (s : State) (x : List Nat) : (s.withFaultTimes x).pkg = s.pkg := rfl
@[simp] theorem State.withFaultTimes_stc (s : State) (x : List Nat) : (s.withFaultTimes x).stc = s.stc := rfl
@[simp] theorem State.withFaultTimes_sq (s : State) (x : List Nat) : (s.withFaultTimes x).sq = s.sq := rfl
@[simp] theorem State.withFaultTimes_boot (s : State) (x : List Nat) : (s.withFaultTimes x).boot = s.boot := rfl
@[simp] theorem State.withFaultTimes_tr (s : State) (x : List Nat) : (s.withFaultTimes x).tr = s.tr := rfl
@[simp] theorem State.withFaultTimes_dbg (s : State) (x : List Nat) : (s.withFaultTimes x).dbg = s.dbg := rfl
@[simp] theorem State.withFaultTimes_tap (s : State) (x : List Nat) : (s.withFaultTimes x).tap = s.tap := rfl
@[simp] theorem State.withFaultTimes_ccr (s : State) (x : List Nat) : (s.withFaultTimes x).ccr = s.ccr := rfl
@[simp] theorem State.withFaultTimes_harts (s : State) (x : List Nat) : (s.withFaultTimes x).harts = s.harts := rfl
@[simp] theorem State.withFaultTimes_request (s : State) (x : List Nat) : (s.withFaultTimes x).request = s.request := rfl
@[simp] theorem State.withFaultTimes_faultTimes (s : State) (x : List Nat) : (s.withFaultTimes x).faultTimes = x := rfl
@[simp] theorem State.withFaultTimes_resetTimes (s : State) (x : List Nat) : (s.withFaultTimes x).resetTimes = s.resetTimes := rfl
@[simp] theorem State.withFaultTimes_lateFaults (s : State) (x : List Nat) : (s.withFaultTimes x).lateFaults = s.lateFaults := rfl

/-! ### withResetTimes -/

@[simp] theorem State.withResetTimes_pending (s : State) (x : Map (List Nat)) : (s.withResetTimes x).pending = s.pending := rfl
@[simp] theorem State.withResetTimes_powered (s : State) (x : Map (List Nat)) : (s.withResetTimes x).powered = s.powered := rfl
@[simp] theorem State.withResetTimes_regs (s : State) (x : Map (List Nat)) : (s.withResetTimes x).regs = s.regs := rfl
@[simp] theorem State.withResetTimes_locks (s : State) (x : Map (List Nat)) : (s.withResetTimes x).locks = s.locks := rfl
@[simp] theorem State.withResetTimes_latches (s : State) (x : Map (List Nat)) : (s.withResetTimes x).latches = s.latches := rfl
@[simp] theorem State.withResetTimes_log (s : State) (x : Map (List Nat)) : (s.withResetTimes x).log = s.log := rfl
@[simp] theorem State.withResetTimes_staged (s : State) (x : Map (List Nat)) : (s.withResetTimes x).staged = s.staged := rfl
@[simp] theorem State.withResetTimes_out (s : State) (x : Map (List Nat)) : (s.withResetTimes x).out = s.out := rfl
@[simp] theorem State.withResetTimes_draws (s : State) (x : Map (List Nat)) : (s.withResetTimes x).draws = s.draws := rfl
@[simp] theorem State.withResetTimes_traceLost (s : State) (x : Map (List Nat)) : (s.withResetTimes x).traceLost = s.traceLost := rfl
@[simp] theorem State.withResetTimes_mem (s : State) (x : Map (List Nat)) : (s.withResetTimes x).mem = s.mem := rfl
@[simp] theorem State.withResetTimes_staging (s : State) (x : Map (List Nat)) : (s.withResetTimes x).staging = s.staging := rfl
@[simp] theorem State.withResetTimes_poison (s : State) (x : Map (List Nat)) : (s.withResetTimes x).poison = s.poison := rfl
@[simp] theorem State.withResetTimes_cfgs (s : State) (x : Map (List Nat)) : (s.withResetTimes x).cfgs = s.cfgs := rfl
@[simp] theorem State.withResetTimes_hosts (s : State) (x : Map (List Nat)) : (s.withResetTimes x).hosts = s.hosts := rfl
@[simp] theorem State.withResetTimes_dlogs (s : State) (x : Map (List Nat)) : (s.withResetTimes x).dlogs = s.dlogs := rfl
@[simp] theorem State.withResetTimes_rings (s : State) (x : Map (List Nat)) : (s.withResetTimes x).rings = s.rings := rfl
@[simp] theorem State.withResetTimes_mac (s : State) (x : Map (List Nat)) : (s.withResetTimes x).mac = s.mac := rfl
@[simp] theorem State.withResetTimes_tbl (s : State) (x : Map (List Nat)) : (s.withResetTimes x).tbl = s.tbl := rfl
@[simp] theorem State.withResetTimes_prog (s : State) (x : Map (List Nat)) : (s.withResetTimes x).prog = s.prog := rfl
@[simp] theorem State.withResetTimes_fx (s : State) (x : Map (List Nat)) : (s.withResetTimes x).fx = s.fx := rfl
@[simp] theorem State.withResetTimes_tm (s : State) (x : Map (List Nat)) : (s.withResetTimes x).tm = s.tm := rfl
@[simp] theorem State.withResetTimes_limits (s : State) (x : Map (List Nat)) : (s.withResetTimes x).limits = s.limits := rfl
@[simp] theorem State.withResetTimes_faultsDue (s : State) (x : Map (List Nat)) : (s.withResetTimes x).faultsDue = s.faultsDue := rfl
@[simp] theorem State.withResetTimes_ciph (s : State) (x : Map (List Nat)) : (s.withResetTimes x).ciph = s.ciph := rfl
@[simp] theorem State.withResetTimes_stor (s : State) (x : Map (List Nat)) : (s.withResetTimes x).stor = s.stor := rfl
@[simp] theorem State.withResetTimes_rma (s : State) (x : Map (List Nat)) : (s.withResetTimes x).rma = s.rma := rfl
@[simp] theorem State.withResetTimes_time (s : State) (x : Map (List Nat)) : (s.withResetTimes x).time = s.time := rfl
@[simp] theorem State.withResetTimes_led (s : State) (x : Map (List Nat)) : (s.withResetTimes x).led = s.led := rfl
@[simp] theorem State.withResetTimes_cal (s : State) (x : Map (List Nat)) : (s.withResetTimes x).cal = s.cal := rfl
@[simp] theorem State.withResetTimes_pkg (s : State) (x : Map (List Nat)) : (s.withResetTimes x).pkg = s.pkg := rfl
@[simp] theorem State.withResetTimes_stc (s : State) (x : Map (List Nat)) : (s.withResetTimes x).stc = s.stc := rfl
@[simp] theorem State.withResetTimes_sq (s : State) (x : Map (List Nat)) : (s.withResetTimes x).sq = s.sq := rfl
@[simp] theorem State.withResetTimes_boot (s : State) (x : Map (List Nat)) : (s.withResetTimes x).boot = s.boot := rfl
@[simp] theorem State.withResetTimes_tr (s : State) (x : Map (List Nat)) : (s.withResetTimes x).tr = s.tr := rfl
@[simp] theorem State.withResetTimes_dbg (s : State) (x : Map (List Nat)) : (s.withResetTimes x).dbg = s.dbg := rfl
@[simp] theorem State.withResetTimes_tap (s : State) (x : Map (List Nat)) : (s.withResetTimes x).tap = s.tap := rfl
@[simp] theorem State.withResetTimes_ccr (s : State) (x : Map (List Nat)) : (s.withResetTimes x).ccr = s.ccr := rfl
@[simp] theorem State.withResetTimes_harts (s : State) (x : Map (List Nat)) : (s.withResetTimes x).harts = s.harts := rfl
@[simp] theorem State.withResetTimes_request (s : State) (x : Map (List Nat)) : (s.withResetTimes x).request = s.request := rfl
@[simp] theorem State.withResetTimes_faultTimes (s : State) (x : Map (List Nat)) : (s.withResetTimes x).faultTimes = s.faultTimes := rfl
@[simp] theorem State.withResetTimes_resetTimes (s : State) (x : Map (List Nat)) : (s.withResetTimes x).resetTimes = x := rfl
@[simp] theorem State.withResetTimes_lateFaults (s : State) (x : Map (List Nat)) : (s.withResetTimes x).lateFaults = s.lateFaults := rfl

/-! ### withLateFaults -/

@[simp] theorem State.withLateFaults_pending (s : State) (x : List Nat) : (s.withLateFaults x).pending = s.pending := rfl
@[simp] theorem State.withLateFaults_powered (s : State) (x : List Nat) : (s.withLateFaults x).powered = s.powered := rfl
@[simp] theorem State.withLateFaults_regs (s : State) (x : List Nat) : (s.withLateFaults x).regs = s.regs := rfl
@[simp] theorem State.withLateFaults_locks (s : State) (x : List Nat) : (s.withLateFaults x).locks = s.locks := rfl
@[simp] theorem State.withLateFaults_latches (s : State) (x : List Nat) : (s.withLateFaults x).latches = s.latches := rfl
@[simp] theorem State.withLateFaults_log (s : State) (x : List Nat) : (s.withLateFaults x).log = s.log := rfl
@[simp] theorem State.withLateFaults_staged (s : State) (x : List Nat) : (s.withLateFaults x).staged = s.staged := rfl
@[simp] theorem State.withLateFaults_out (s : State) (x : List Nat) : (s.withLateFaults x).out = s.out := rfl
@[simp] theorem State.withLateFaults_draws (s : State) (x : List Nat) : (s.withLateFaults x).draws = s.draws := rfl
@[simp] theorem State.withLateFaults_traceLost (s : State) (x : List Nat) : (s.withLateFaults x).traceLost = s.traceLost := rfl
@[simp] theorem State.withLateFaults_mem (s : State) (x : List Nat) : (s.withLateFaults x).mem = s.mem := rfl
@[simp] theorem State.withLateFaults_staging (s : State) (x : List Nat) : (s.withLateFaults x).staging = s.staging := rfl
@[simp] theorem State.withLateFaults_poison (s : State) (x : List Nat) : (s.withLateFaults x).poison = s.poison := rfl
@[simp] theorem State.withLateFaults_cfgs (s : State) (x : List Nat) : (s.withLateFaults x).cfgs = s.cfgs := rfl
@[simp] theorem State.withLateFaults_hosts (s : State) (x : List Nat) : (s.withLateFaults x).hosts = s.hosts := rfl
@[simp] theorem State.withLateFaults_dlogs (s : State) (x : List Nat) : (s.withLateFaults x).dlogs = s.dlogs := rfl
@[simp] theorem State.withLateFaults_rings (s : State) (x : List Nat) : (s.withLateFaults x).rings = s.rings := rfl
@[simp] theorem State.withLateFaults_mac (s : State) (x : List Nat) : (s.withLateFaults x).mac = s.mac := rfl
@[simp] theorem State.withLateFaults_tbl (s : State) (x : List Nat) : (s.withLateFaults x).tbl = s.tbl := rfl
@[simp] theorem State.withLateFaults_prog (s : State) (x : List Nat) : (s.withLateFaults x).prog = s.prog := rfl
@[simp] theorem State.withLateFaults_fx (s : State) (x : List Nat) : (s.withLateFaults x).fx = s.fx := rfl
@[simp] theorem State.withLateFaults_tm (s : State) (x : List Nat) : (s.withLateFaults x).tm = s.tm := rfl
@[simp] theorem State.withLateFaults_limits (s : State) (x : List Nat) : (s.withLateFaults x).limits = s.limits := rfl
@[simp] theorem State.withLateFaults_faultsDue (s : State) (x : List Nat) : (s.withLateFaults x).faultsDue = s.faultsDue := rfl
@[simp] theorem State.withLateFaults_ciph (s : State) (x : List Nat) : (s.withLateFaults x).ciph = s.ciph := rfl
@[simp] theorem State.withLateFaults_stor (s : State) (x : List Nat) : (s.withLateFaults x).stor = s.stor := rfl
@[simp] theorem State.withLateFaults_rma (s : State) (x : List Nat) : (s.withLateFaults x).rma = s.rma := rfl
@[simp] theorem State.withLateFaults_time (s : State) (x : List Nat) : (s.withLateFaults x).time = s.time := rfl
@[simp] theorem State.withLateFaults_led (s : State) (x : List Nat) : (s.withLateFaults x).led = s.led := rfl
@[simp] theorem State.withLateFaults_cal (s : State) (x : List Nat) : (s.withLateFaults x).cal = s.cal := rfl
@[simp] theorem State.withLateFaults_pkg (s : State) (x : List Nat) : (s.withLateFaults x).pkg = s.pkg := rfl
@[simp] theorem State.withLateFaults_stc (s : State) (x : List Nat) : (s.withLateFaults x).stc = s.stc := rfl
@[simp] theorem State.withLateFaults_sq (s : State) (x : List Nat) : (s.withLateFaults x).sq = s.sq := rfl
@[simp] theorem State.withLateFaults_boot (s : State) (x : List Nat) : (s.withLateFaults x).boot = s.boot := rfl
@[simp] theorem State.withLateFaults_tr (s : State) (x : List Nat) : (s.withLateFaults x).tr = s.tr := rfl
@[simp] theorem State.withLateFaults_dbg (s : State) (x : List Nat) : (s.withLateFaults x).dbg = s.dbg := rfl
@[simp] theorem State.withLateFaults_tap (s : State) (x : List Nat) : (s.withLateFaults x).tap = s.tap := rfl
@[simp] theorem State.withLateFaults_ccr (s : State) (x : List Nat) : (s.withLateFaults x).ccr = s.ccr := rfl
@[simp] theorem State.withLateFaults_harts (s : State) (x : List Nat) : (s.withLateFaults x).harts = s.harts := rfl
@[simp] theorem State.withLateFaults_request (s : State) (x : List Nat) : (s.withLateFaults x).request = s.request := rfl
@[simp] theorem State.withLateFaults_faultTimes (s : State) (x : List Nat) : (s.withLateFaults x).faultTimes = s.faultTimes := rfl
@[simp] theorem State.withLateFaults_resetTimes (s : State) (x : List Nat) : (s.withLateFaults x).resetTimes = s.resetTimes := rfl
@[simp] theorem State.withLateFaults_lateFaults (s : State) (x : List Nat) : (s.withLateFaults x).lateFaults = x := rfl

end Sys2Proof.Machine
end

