-- ==== Sys2Proof/Laws/Ops.lean ====
section
/-! SUPPORT. What the shared operations do to a register field: one lemma per operation, cited in place of its text. -/

namespace Sys2Proof.Machine

/-! ### Reading a field after a write -/

/-- A field reads as the value last written, cut to its width. -/
@[simp] theorem State.fld_setFld_same (s : State) (f : Fld) (i v : Nat) : (s.setFld f i v).fld f i = v % 2 ^ f.width := by
  have h : (s.setFld f i v).fld f i = (v % 2 ^ f.width ^^^ f.rst i) ^^^ f.rst i := by simp [State.fld, State.setFld]
  rw [h, Nat.xor_assoc, Nat.xor_self, Nat.xor_zero]

/-- Another copy of the field is left alone. -/
theorem State.fld_setFld_copy (s : State) (f : Fld) (i j v : Nat) (h : j ≠ i) : (s.setFld f i v).fld f j = s.fld f j := by
  simp [State.fld, State.setFld, Map.get_set_ne _ _ _ _ _ h]

/-- Another field is left alone. -/
theorem State.fld_setFld_ne (s : State) (f g : Fld) (i j v : Nat) (h : g.id ≠ f.id) : (s.setFld f i v).fld g j = s.fld g j := by
  simp [State.fld, State.setFld, Map.get_set_ne _ _ _ _ _ h]

/-- Both together, for fields that share a number only with themselves. -/
theorem State.fld_setFld (s : State) (f : Fld) (i j v : Nat) : (s.setFld f i v).fld f j = if j = i then v % 2 ^ f.width else s.fld f j := by
  split
  · next h => subst h; simp
  · next h => exact State.fld_setFld_copy s f i j v h

theorem State.flag_setFlag_same (s : State) (f : Fld) (i : Nat) (b : Bool) (h : 0 < f.width) : (s.setFlag f i b).flag f i = b := by
  have hw : 1 < 2 ^ f.width := Nat.one_lt_two_pow (by omega)
  cases b <;> simp [State.flag, State.setFlag, b2n, Nat.mod_eq_of_lt hw]

/-- A field depends on the register file alone. -/
theorem State.fld_of_regs {s t : State} (h : s.regs = t.regs) (f : Fld) (i : Nat) : s.fld f i = t.fld f i := by
  simp [State.fld, h]

@[simp] theorem State.fld_withPending (s : State) (x : List Instr) (f : Fld) (i : Nat) : (s.withPending x).fld f i = s.fld f i := rfl
@[simp] theorem State.fld_withPowered (s : State) (x : Bool) (f : Fld) (i : Nat) : (s.withPowered x).fld f i = s.fld f i := rfl
@[simp] theorem State.fld_withLocks (s : State) (x : Map Bool) (f : Fld) (i : Nat) : (s.withLocks x).fld f i = s.fld f i := rfl
@[simp] theorem State.fld_withLatches (s : State) (x : Map Latch) (f : Fld) (i : Nat) : (s.withLatches x).fld f i = s.fld f i := rfl
@[simp] theorem State.fld_withLog (s : State) (x : LogSt) (f : Fld) (i : Nat) : (s.withLog x).fld f i = s.fld f i := rfl
@[simp] theorem State.fld_withStaged (s : State) (x : List Staged) (f : Fld) (i : Nat) : (s.withStaged x).fld f i = s.fld f i := rfl
@[simp] theorem State.fld_withOut (s : State) (x : List Out) (f : Fld) (i : Nat) : (s.withOut x).fld f i = s.fld f i := rfl
@[simp] theorem State.fld_withDraws (s : State) (x : Nat) (f : Fld) (i : Nat) : (s.withDraws x).fld f i = s.fld f i := rfl
@[simp] theorem State.fld_withTraceLost (s : State) (x : Nat) (f : Fld) (i : Nat) : (s.withTraceLost x).fld f i = s.fld f i := rfl
@[simp] theorem State.fld_withMem (s : State) (x : List Host.Cell) (f : Fld) (i : Nat) : (s.withMem x).fld f i = s.fld f i := rfl
@[simp] theorem State.fld_withStaging (s : State) (x : List Host.Cell) (f : Fld) (i : Nat) : (s.withStaging x).fld f i = s.fld f i := rfl
@[simp] theorem State.fld_withPoison (s : State) (x : List Nat) (f : Fld) (i : Nat) : (s.withPoison x).fld f i = s.fld f i := rfl
@[simp] theorem State.fld_withCfgs (s : State) (x : Map FnCfg) (f : Fld) (i : Nat) : (s.withCfgs x).fld f i = s.fld f i := rfl
@[simp] theorem State.fld_withHosts (s : State) (x : Map HostLink) (f : Fld) (i : Nat) : (s.withHosts x).fld f i = s.fld f i := rfl
@[simp] theorem State.fld_withDlogs (s : State) (x : Map Dlog) (f : Fld) (i : Nat) : (s.withDlogs x).fld f i = s.fld f i := rfl
@[simp] theorem State.fld_withRings (s : State) (x : Map RingSt) (f : Fld) (i : Nat) : (s.withRings x).fld f i = s.fld f i := rfl
@[simp] theorem State.fld_withMac (s : State) (x : MacSt) (f : Fld) (i : Nat) : (s.withMac x).fld f i = s.fld f i := rfl
@[simp] theorem State.fld_withTbl (s : State) (x : TblSt) (f : Fld) (i : Nat) : (s.withTbl x).fld f i = s.fld f i := rfl
@[simp] theorem State.fld_withProg (s : State) (x : ProgSt) (f : Fld) (i : Nat) : (s.withProg x).fld f i = s.fld f i := rfl
@[simp] theorem State.fld_withFx (s : State) (x : FxSt) (f : Fld) (i : Nat) : (s.withFx x).fld f i = s.fld f i := rfl
@[simp] theorem State.fld_withTm (s : State) (x : TmSt) (f : Fld) (i : Nat) : (s.withTm x).fld f i = s.fld f i := rfl
@[simp] theorem State.fld_withLimits (s : State) (x : Map Limit) (f : Fld) (i : Nat) : (s.withLimits x).fld f i = s.fld f i := rfl
@[simp] theorem State.fld_withFaultsDue (s : State) (x : List (Nat × Nat × List Nat)) (f : Fld) (i : Nat) : (s.withFaultsDue x).fld f i = s.fld f i := rfl
@[simp] theorem State.fld_withCiph (s : State) (x : CiphSt) (f : Fld) (i : Nat) : (s.withCiph x).fld f i = s.fld f i := rfl
@[simp] theorem State.fld_withStor (s : State) (x : StorSt) (f : Fld) (i : Nat) : (s.withStor x).fld f i = s.fld f i := rfl
@[simp] theorem State.fld_withRma (s : State) (x : RmaSt) (f : Fld) (i : Nat) : (s.withRma x).fld f i = s.fld f i := rfl
@[simp] theorem State.fld_withTime (s : State) (x : TimeSt) (f : Fld) (i : Nat) : (s.withTime x).fld f i = s.fld f i := rfl
@[simp] theorem State.fld_withLed (s : State) (x : LedSt) (f : Fld) (i : Nat) : (s.withLed x).fld f i = s.fld f i := rfl
@[simp] theorem State.fld_withCal (s : State) (x : CalSt) (f : Fld) (i : Nat) : (s.withCal x).fld f i = s.fld f i := rfl
@[simp] theorem State.fld_withPkg (s : State) (x : PkgSt) (f : Fld) (i : Nat) : (s.withPkg x).fld f i = s.fld f i := rfl
@[simp] theorem State.fld_withStc (s : State) (x : StcSt) (f : Fld) (i : Nat) : (s.withStc x).fld f i = s.fld f i := rfl
@[simp] theorem State.fld_withSq (s : State) (x : SqSt) (f : Fld) (i : Nat) : (s.withSq x).fld f i = s.fld f i := rfl
@[simp] theorem State.fld_withBoot (s : State) (x : BootSt) (f : Fld) (i : Nat) : (s.withBoot x).fld f i = s.fld f i := rfl
@[simp] theorem State.fld_withTr (s : State) (x : TrSt) (f : Fld) (i : Nat) : (s.withTr x).fld f i = s.fld f i := rfl
@[simp] theorem State.fld_withDbg (s : State) (x : DbgSt) (f : Fld) (i : Nat) : (s.withDbg x).fld f i = s.fld f i := rfl
@[simp] theorem State.fld_withTap (s : State) (x : TapSt) (f : Fld) (i : Nat) : (s.withTap x).fld f i = s.fld f i := rfl
@[simp] theorem State.fld_withCcr (s : State) (x : CcrSt) (f : Fld) (i : Nat) : (s.withCcr x).fld f i = s.fld f i := rfl
@[simp] theorem State.fld_withRequest (s : State) (x : Nat) (f : Fld) (i : Nat) : (s.withRequest x).fld f i = s.fld f i := rfl
@[simp] theorem State.fld_withFaultTimes (s : State) (x : List Nat) (f : Fld) (i : Nat) : (s.withFaultTimes x).fld f i = s.fld f i := rfl
@[simp] theorem State.fld_withResetTimes (s : State) (x : Map (List Nat)) (f : Fld) (i : Nat) : (s.withResetTimes x).fld f i = s.fld f i := rfl
@[simp] theorem State.fld_withLateFaults (s : State) (x : List Nat) (f : Fld) (i : Nat) : (s.withLateFaults x).fld f i = s.fld f i := rfl
@[simp] theorem State.fld_withHarts (s : State) (x : Map Hart) (f : Fld) (i : Nat) : (s.withHarts x).fld f i = s.fld f i := rfl
@[simp] theorem State.fld_emit (s : State) (o : Out) (f : Fld) (i : Nat) : (s.emit o).fld f i = s.fld f i := rfl
@[simp] theorem State.fld_drawn (s : State) (f : Fld) (i : Nat) : s.drawn.fld f i = s.fld f i := rfl
@[simp] theorem State.fld_setRing (s : State) (r : Nat) (x : RingSt) (f : Fld) (i : Nat) : (s.setRing r x).fld f i = s.fld f i := rfl
@[simp] theorem State.fld_setCfg (s : State) (n : Nat) (c : FnCfg) (f : Fld) (i : Nat) : (s.setCfg n c).fld f i = s.fld f i := rfl
@[simp] theorem State.fld_stage (s : State) (a b c : Nat) (ws : List Nat) (f : Fld) (i : Nat) : (s.stage a b c ws).fld f i = s.fld f i := rfl
@[simp] theorem State.fld_memWrite (s : State) (a : Nat) (bs : List Byte) (f : Fld) (i : Nat) : (s.memWrite a bs).fld f i = s.fld f i := rfl

@[simp] theorem State.when_true (s : State) (f : State → State) : s.when true f = f s := rfl
@[simp] theorem State.when_false (s : State) (f : State → State) : s.when false f = s := rfl

/-! ### Events and the fault log -/

/-- The fields that raising an event may change: counts and pending bits of sources, PBA bits, the trace pointer and its losses, and what shows the wake of the cluster or stack that an interrupt or a trace message reaches (R58, R338, R629, R632, R645). -/
def eventFld (f : Fld) : Bool :=
  [F.AO_EVT_ROUTE_COUNT.id, F.AO_EVT_ROUTE_PENDING.id, F.HX_FNV_PBA_PBA.id, F.CX_DBG_TRACE_LOST.id, F.CX_DBG_TRACE_WPTR.id, F.AO_PD_CTRL_BLOCKED.id,
    F.AO_WAKE_STATUS_POWER.id, F.AO_WAKE_STATUS_WAKES.id, F.MX_HBM_STACK_CTRL_STATE.id].contains f.id

/-- The fields that a log entry may change besides: the counters and NEWEST of AO_FLT_LOG (R623). -/
def logFld (f : Fld) : Bool := [F.AO_FLT_LOG_STAT_COUNT.id, F.AO_FLT_LOG_NEWEST_NEWEST.id].contains f.id

theorem eventFld_ne {f : Fld} (h : eventFld f = false) :
    f.id ≠ F.AO_EVT_ROUTE_COUNT.id ∧ f.id ≠ F.AO_EVT_ROUTE_PENDING.id ∧ f.id ≠ F.HX_FNV_PBA_PBA.id ∧ f.id ≠ F.CX_DBG_TRACE_LOST.id
      ∧ f.id ≠ F.CX_DBG_TRACE_WPTR.id ∧ f.id ≠ F.AO_PD_CTRL_BLOCKED.id ∧ f.id ≠ F.AO_WAKE_STATUS_POWER.id ∧ f.id ≠ F.AO_WAKE_STATUS_WAKES.id
      ∧ f.id ≠ F.MX_HBM_STACK_CTRL_STATE.id := by
  simpa [eventFld] using h

theorem logFld_ne {f : Fld} (h : logFld f = false) : f.id ≠ F.AO_FLT_LOG_STAT_COUNT.id ∧ f.id ≠ F.AO_FLT_LOG_NEWEST_NEWEST.id := by
  simpa [logFld] using h

/-- A wake leaves every field alone but BLOCKED, WAKES and what its display writes. -/
theorem State.fld_wakeWith (s : State) (d : Nat) (set : State → Nat → State) (f : Fld) (i : Nat) (h : eventFld f = false)
    (hs : ∀ v, (set s v).fld f i = s.fld f i) : (s.wakeWith d set).fld f i = s.fld f i := by
  obtain ⟨_, _, _, _, _, h6, _, h8, _⟩ := eventFld_ne h
  unfold State.wakeWith State.bumpSat
  split
  · exact State.fld_setFld_ne _ _ _ _ _ _ h6
  · split
    · rw [State.fld_setFld_ne _ _ _ _ _ _ h8, hs]
    · split
      · rw [State.fld_setFld_ne _ _ _ _ _ _ h8, hs]
      · rfl

theorem State.fld_rouse (s : State) (d : Nat) (set : State → Nat → State) (f : Fld) (i : Nat) (h : eventFld f = false)
    (hs : ∀ v, (set s v).fld f i = s.fld f i) : (s.rouse d set).fld f i = s.fld f i := by
  unfold State.rouse
  split
  · rfl
  · exact s.fld_wakeWith d set f i h hs

theorem State.fld_showStack (s : State) (d v : Nat) (f : Fld) (i : Nat) (h : eventFld f = false) : (s.showStack d v).fld f i = s.fld f i := by
  obtain ⟨_, _, _, _, _, _, _, _, h9⟩ := eventFld_ne h
  unfold State.showStack
  split
  · exact State.fld_setFld_ne _ _ _ _ _ _ h9
  · rfl

/-- An access that wakes its stack leaves every field but those of the wake alone. -/
theorem State.fld_stackTouch (s : State) (a : Nat) (f : Fld) (i : Nat) (h : eventFld f = false) : (s.stackTouch a).fld f i = s.fld f i := by
  have ⟨_, _, _, _, _, _, h7, _, _⟩ := eventFld_ne h
  have one (t : State) (d : Nat) : (t.rouse d (fun s v => (s.setFld F.AO_WAKE_STATUS_POWER d v).showStack d v)).fld f i = t.fld f i :=
    State.fld_rouse t d _ f i h (fun v => by rw [State.fld_showStack _ _ _ _ _ h, State.fld_setFld_ne _ _ _ _ _ _ h7])
  unfold State.stackTouch
  split
  · dsimp only
    split
    · rw [one, one]
    · rfl
  · rfl

theorem State.fld_imsic (s : State) (core file identity : Nat) (f : Fld) (i : Nat) (h : eventFld f = false) :
    (s.imsic core file identity).fld f i = s.fld f i := by
  have ⟨_, _, _, _, _, _, h7, _, _⟩ := eventFld_ne h
  unfold State.imsic
  rw [State.fld_rouse _ _ _ _ _ h (fun v => State.fld_setFld_ne _ _ _ _ _ _ h7), State.fld_emit, State.fld_withHarts]

theorem State.fld_vector (s : State) (fi vec : Nat) (f : Fld) (i : Nat) (h : eventFld f = false) : (s.vector fi vec).fld f i = s.fld f i := by
  obtain ⟨_, _, h3, _⟩ := eventFld_ne h
  unfold State.vector
  split
  · rfl
  · split
    · rfl
    · exact State.fld_setFld_ne _ _ _ _ _ _ h3

theorem State.fld_sendIrq (s : State) (e : Nat) (f : Fld) (i : Nat) (h : eventFld f = false) : (s.sendIrq e).fld f i = s.fld f i := by
  obtain ⟨_, h2, _⟩ := eventFld_ne h
  unfold State.sendIrq
  simp only [State.setFlag]
  split
  · rw [State.fld_setFld_ne _ _ _ _ _ _ h2, State.fld_withLog]
  · split
    · rw [State.fld_setFld_ne _ _ _ _ _ _ h2, State.fld_vector _ _ _ _ _ h, State.fld_withLog]
    · rw [State.fld_setFld_ne _ _ _ _ _ _ h2, State.fld_imsic _ _ _ _ _ _ h, State.fld_withLog]

theorem State.fld_irq (s : State) (e : Nat) (f : Fld) (i : Nat) (h : eventFld f = false) : (s.irq e).fld f i = s.fld f i := by
  obtain ⟨_, h2, _⟩ := eventFld_ne h
  unfold State.irq
  simp only [State.setFlag]
  split
  · exact State.fld_setFld_ne _ _ _ _ _ _ h2
  · exact State.fld_sendIrq s e f i h

theorem State.fld_tracePut (s : State) (size e : Nat) (ws : List Nat) (f : Fld) (i : Nat) (h : eventFld f = false) :
    (s.tracePut size e ws).fld f i = s.fld f i := by
  obtain ⟨_, _, _, _, h5, _⟩ := eventFld_ne h
  unfold State.tracePut State.corePut
  simp only
  rw [State.fld_setFld_ne _ _ _ _ _ _ h5, State.fld_memWrite, State.fld_stackTouch _ _ _ _ h]

theorem State.fld_traceMsg (s : State) (e : Nat) (ws : List Nat) (f : Fld) (i : Nat) (h : eventFld f = false) :
    (s.traceMsg e ws).fld f i = s.fld f i := by
  obtain ⟨_, _, _, h4, _⟩ := eventFld_ne h
  unfold State.traceMsg State.bumpSat
  split
  · rfl
  · by_cases hl : s.traceLost = 0
    · simp only [hl, if_true]
      split
      · rw [State.fld_withTraceLost]; exact State.fld_setFld_ne _ _ _ _ _ _ h4
      · exact State.fld_tracePut _ _ _ _ _ _ h
    · simp only [hl, if_false]
      split
      · rw [State.fld_withTraceLost]; exact State.fld_setFld_ne _ _ _ _ _ _ h4
      · rw [State.fld_tracePut _ _ _ _ _ _ h, State.fld_withTraceLost, State.fld_tracePut _ _ _ _ _ _ h]

@[simp] theorem State.fld_numbered (s : State) (e : Nat) (f : Fld) (i : Nat) : (s.numbered e).fld f i = s.fld f i := rfl

theorem State.fld_shown (s : State) (e seq : Nat) (p : List Item) (f : Fld) (i : Nat) (h : eventFld f = false) :
    (s.shown e seq p).fld f i = s.fld f i := by
  obtain ⟨h1, _⟩ := eventFld_ne h
  exact State.fld_setFld_ne _ _ _ _ _ _ h1

theorem State.fld_traced (s : State) (e : Nat) (ws : List Nat) (f : Fld) (i : Nat) (h : eventFld f = false) :
    (s.traced e ws).fld f i = s.fld f i := by
  unfold State.traced
  split
  · exact State.fld_traceMsg s e ws f i h
  · rfl

theorem State.fld_routed (s : State) (e : Nat) (ws : List Nat) (f : Fld) (i : Nat) (h : eventFld f = false) :
    (s.routed e ws).fld f i = s.fld f i := by
  unfold State.routed
  simp only
  split
  · rfl
  · split
    · exact State.fld_irq s e f i h
    · rfl

/-- Raising an event leaves every field but its own alone. -/
theorem State.fld_raise (s : State) (e : Nat) (p : List Item) (f : Fld) (i : Nat) (h : eventFld f = false) :
    (s.raise e p).fld f i = s.fld f i := by
  unfold State.raise
  simp only
  rw [State.fld_routed _ _ _ _ _ h, State.fld_traced _ _ _ _ _ h, State.fld_shown _ _ _ _ _ _ h, State.fld_numbered]

theorem State.fld_limitedBy (s : State) (period ev k n : Nat) (p : Nat → List Item) (f : Fld) (i : Nat) (h : eventFld f = false) :
    (s.limitedBy period ev k n p).fld f i = s.fld f i := by
  unfold State.limitedBy
  simp only
  split
  · rw [State.fld_raise _ _ _ _ _ h, State.fld_withLimits]
  · rw [State.fld_withLimits]

theorem State.fld_limited (s : State) (ev k n : Nat) (p : Nat → List Item) (f : Fld) (i : Nat) (h : eventFld f = false) :
    (s.limited ev k n p).fld f i = s.fld f i := State.fld_limitedBy s 1000000 ev k n p f i h

theorem State.fld_flashEntry (s : State) (e : LogEntry) (f : Fld) (i : Nat) (h : logFld f = false) : (s.flashEntry e).fld f i = s.fld f i := by
  obtain ⟨h1, _⟩ := logFld_ne h
  unfold State.flashEntry State.bump
  simp only
  rw [State.fld_setFld_ne _ _ _ _ _ _ h1, State.fld_setFld_ne _ _ _ _ _ _ h1]; rfl

theorem State.fld_logNumber (s : State) (e : LogEntry) (f : Fld) (i : Nat) (h : logFld f = false) : (s.logNumber e).fld f i = s.fld f i := by
  obtain ⟨h1, h2⟩ := logFld_ne h
  unfold State.logNumber State.bump
  rw [State.fld_setFld_ne _ _ _ _ _ _ h1, State.fld_setFld_ne _ _ _ _ _ _ h2, State.fld_withLog]

@[simp] theorem State.fld_logKeep (s : State) (e : LogEntry) (f : Fld) (i : Nat) : (s.logKeep e).fld f i = s.fld f i := by
  unfold State.logKeep
  split <;> rfl

theorem State.fld_logFlash (s : State) (late : Bool) (e : LogEntry) (f : Fld) (i : Nat) (h : logFld f = false) :
    (s.logFlash late e).fld f i = s.fld f i := by
  obtain ⟨h1, _⟩ := logFld_ne h
  unfold State.logFlash
  split
  · rfl
  · split
    · exact State.fld_flashEntry _ _ _ _ h
    · exact State.fld_setFld_ne _ _ _ _ _ _ h1

theorem State.fld_logAs (s : State) (late : Bool) (type cond source count : Nat) (detail : List Nat) (f : Fld) (i : Nat) (h : logFld f = false) :
    (s.logAs late type cond source count detail).fld f i = s.fld f i := by
  unfold State.logAs
  simp only
  rw [State.fld_logFlash _ _ _ _ _ h, State.fld_logKeep, State.fld_logNumber _ _ _ _ h]

/-- A log entry leaves every field but those of AO_FLT_LOG alone. -/
theorem State.fld_logEntry (s : State) (type cond source count : Nat) (detail : List Nat) (f : Fld) (i : Nat) (h : logFld f = false) :
    (s.logEntry type cond source count detail).fld f i = s.fld f i := State.fld_logAs s false type cond source count detail f i h

theorem State.fld_condition (s : State) (cond source : Nat) (detail : List Nat) (f : Fld) (i : Nat) (h : logFld f = false) :
    (s.condition cond source detail).fld f i = s.fld f i := State.fld_logAs s false 1 cond source 1 detail f i h

/-- A condition under the interval rule leaves every field but those of the event and the log alone. -/
theorem State.fld_violate (s : State) (cond source ev : Nat) (detail : List Nat) (f : Fld) (i : Nat) (h : eventFld f = false) (g : logFld f = false) :
    (s.violate cond source ev detail).fld f i = s.fld f i := by
  unfold State.violate
  split
  · rfl
  · simp only
    split
    · rw [State.fld_withLog, State.fld_logEntry _ _ _ _ _ _ _ _ g]
    · rw [State.fld_withLog, State.fld_raise _ _ _ _ _ h, State.fld_logEntry _ _ _ _ _ _ _ _ g]

/-! ### Writes of a party -/

@[simp] theorem State.fld_journal (s : State) (rank : Nat) (f g : Fld) (i j : Nat) : (s.journal rank f i).fld g j = s.fld g j := by
  unfold State.journal; split <;> rfl

/-- A field that is not locked, nor kept for the supervisor until it is, takes the value a party writes, without the bits that the spec reserves (R6, R10). -/
theorem State.fld_put (s : State) (who : Party) (f : Fld) (i v : Nat) (h : s.lockHit f i = false) (g : s.supOnly who f i = false) :
    (s.put who f i v).fld f i = liveBits f i v % 2 ^ f.width := by
  unfold State.put; simp [h, g]

/-- Only arrays of words have reserved bits inside a field. -/
theorem liveBits_eq (f : Fld) (i v : Nat) (h : f.id ≠ F.HX_RMA_TMPL_WORD.id) (g : f.id ≠ F.FX_TBE_STAGE_WORD.id) : liveBits f i v = v := by
  simp [liveBits, h, g]

/-- An unlocked RWL field outside AO is the supervisor's alone (R10). -/
theorem State.put_supOnly (s : State) (who : Party) (f : Fld) (i v : Nat) (h : s.supOnly who f i = true) : s.put who f i v = s := by
  unfold State.put; simp [h]

/-- A locked field keeps its value (R8, R10). -/
theorem State.put_locked (s : State) (who : Party) (f : Fld) (i v : Nat) (h : s.lockHit f i = true) : s.put who f i v = s := by
  unfold State.put; simp [h]

theorem State.fld_put_ne (s : State) (who : Party) (f g : Fld) (i j v : Nat) (h : g.id ≠ f.id) : (s.put who f i v).fld g j = s.fld g j := by
  unfold State.put; split
  · rfl
  · rw [State.fld_journal, State.fld_setFld_ne _ _ _ _ _ _ h]

end Sys2Proof.Machine
end

