-- ==== Sys2Proof/Laws/Frames.lean ====
section
/-! SUPPORT. What the shared operations leave alone beside the registers: one lemma per operation over the components of the state, and one on the canonical form of the memories. -/

namespace Sys2Proof.Machine

/-! ### The relation -/

theorem State.samePartsBut_refl (s : State) (ps : List Part) : s.samePartsBut s ps :=
  ⟨fun p _ => by cases p <;> rfl, rfl⟩

theorem Part.same_trans {p : Part} {s t u : State} (h : p.same s t) (g : p.same t u) : p.same s u := by
  cases p <;> exact Eq.trans g h

theorem State.samePartsBut_trans {s t u : State} {ps : List Part} (h : s.samePartsBut t ps) (g : t.samePartsBut u ps) : s.samePartsBut u ps :=
  ⟨fun p hp => Part.same_trans (h.1 p hp) (g.1 p hp), g.2.trans h.2⟩

/-- A longer list says less. -/
theorem State.samePartsBut_mono {s t : State} {ps qs : List Part} (h : s.samePartsBut t ps) (hq : ps ⊆ qs) : s.samePartsBut t qs :=
  ⟨fun p hp => h.1 p (fun k => hp (hq k)), h.2⟩

theorem State.samePartsBut_foldl {α : Type} (f : State → α → State) (ps : List Part) (hf : ∀ (s : State) (a : α), s.samePartsBut (f s a) ps) (l : List α) (s : State) :
    s.samePartsBut (l.foldl f s) ps := by
  induction l generalizing s with
  | nil => exact s.samePartsBut_refl ps
  | cons a l ih => exact State.samePartsBut_trans (hf s a) (ih _)

/-! ### Register fields -/

theorem State.setFld_parts (s : State) (f : Fld) (i v : Nat) (ps : List Part) : s.samePartsBut (s.setFld f i v) ps :=
  ⟨fun p _ => by cases p <;> rfl, rfl⟩

theorem State.setFlag_parts (s : State) (f : Fld) (i : Nat) (b : Bool) (ps : List Part) : s.samePartsBut (s.setFlag f i b) ps := s.setFld_parts f i _ ps

theorem State.bump_parts (s : State) (f : Fld) (i n : Nat) (ps : List Part) : s.samePartsBut (s.bump f i n) ps := s.setFld_parts f i _ ps

theorem State.bumpSat_parts (s : State) (f : Fld) (i n : Nat) (ps : List Part) : s.samePartsBut (s.bumpSat f i n) ps := s.setFld_parts f i _ ps

/-! ### What leaves the module -/

theorem State.emit_parts (s : State) (o : Out) : s.samePartsBut (s.emit o) [.out] :=
  ⟨fun p hp => by cases p <;> first | rfl | simp at hp, rfl⟩

theorem State.memWrite_parts (s : State) (a : Nat) (bs : List Byte) : s.samePartsBut (s.memWrite a bs) [.mem, .poison] :=
  ⟨fun p hp => by cases p <;> first | rfl | simp at hp, rfl⟩

theorem State.vector_parts (s : State) (fi vec : Nat) : s.samePartsBut (s.vector fi vec) [.out] := by
  unfold State.vector
  split
  · exact s.samePartsBut_refl _
  · split
    · exact s.emit_parts _
    · exact s.setFld_parts _ _ _ _

theorem State.withLog_parts (s : State) (x : LogSt) : s.samePartsBut (s.withLog x) [.log] :=
  ⟨fun p hp => by cases p <;> first | rfl | simp at hp, rfl⟩

theorem State.withStaged_parts (s : State) (x : List Staged) : s.samePartsBut (s.withStaged x) [.staged] :=
  ⟨fun p hp => by cases p <;> first | rfl | simp at hp, rfl⟩

theorem State.withTraceLost_parts (s : State) (x : Nat) : s.samePartsBut (s.withTraceLost x) [.traceLost] :=
  ⟨fun p hp => by cases p <;> first | rfl | simp at hp, rfl⟩

theorem State.withLimits_parts (s : State) (x : Map Limit) : s.samePartsBut (s.withLimits x) [.limits] :=
  ⟨fun p hp => by cases p <;> first | rfl | simp at hp, rfl⟩

theorem State.withDlogs_parts (s : State) (x : Map Dlog) : s.samePartsBut (s.withDlogs x) [.dlogs] :=
  ⟨fun p hp => by cases p <;> first | rfl | simp at hp, rfl⟩

theorem State.withHarts_parts (s : State) (x : Map Hart) : s.samePartsBut (s.withHarts x) [.harts] :=
  ⟨fun p hp => by cases p <;> first | rfl | simp at hp, rfl⟩

/-! ### Wakes and interrupts (R58, R300, R632) -/

/-- A wake changes no component beside the registers, where its display does not. -/
theorem State.wakeWith_parts (s : State) (d : Nat) (set : State → Nat → State) (ps : List Part) (h : ∀ v, s.samePartsBut (set s v) ps) :
    s.samePartsBut (s.wakeWith d set) ps := by
  unfold State.wakeWith
  split
  · exact s.bumpSat_parts _ _ _ _
  · split
    · exact State.samePartsBut_trans (h _) (State.bumpSat_parts _ _ _ _ _)
    · split
      · exact State.samePartsBut_trans (h _) (State.bumpSat_parts _ _ _ _ _)
      · exact s.samePartsBut_refl _

theorem State.rouse_parts (s : State) (d : Nat) (set : State → Nat → State) (ps : List Part) (h : ∀ v, s.samePartsBut (set s v) ps) :
    s.samePartsBut (s.rouse d set) ps := by
  unfold State.rouse
  split
  · exact s.samePartsBut_refl _
  · exact s.wakeWith_parts d set ps h

theorem State.showStack_parts (s : State) (d v : Nat) (ps : List Part) : s.samePartsBut (s.showStack d v) ps := by
  unfold State.showStack
  split
  · exact s.setFld_parts _ _ _ _
  · exact s.samePartsBut_refl _

theorem State.stackTouch_parts (s : State) (a : Nat) (ps : List Part) : s.samePartsBut (s.stackTouch a) ps := by
  have one (t : State) (d : Nat) : t.samePartsBut (t.rouse d (fun s v => (s.setFld F.AO_WAKE_STATUS_POWER d v).showStack d v)) ps :=
    t.rouse_parts d _ ps (fun v => State.samePartsBut_trans (t.setFld_parts _ _ _ _) (State.showStack_parts _ _ _ _))
  unfold State.stackTouch
  split
  · dsimp only
    split
    · exact State.samePartsBut_trans (one s _) (one _ _)
    · exact s.samePartsBut_refl _
  · exact s.samePartsBut_refl _

theorem State.corePut_parts (s : State) (a : Nat) (bs : List Byte) : s.samePartsBut (s.corePut a bs) [.mem, .poison] :=
  State.samePartsBut_trans (s.stackTouch_parts a _) (State.memWrite_parts _ _ _)

theorem State.imsic_parts (s : State) (core file identity : Nat) : s.samePartsBut (s.imsic core file identity) [.harts, .out] := by
  unfold State.imsic
  exact State.samePartsBut_trans (State.samePartsBut_mono (s.withHarts_parts _) (by simp))
    (State.samePartsBut_trans (State.samePartsBut_mono (State.emit_parts _ _) (by simp))
      (State.rouse_parts _ _ _ _ (fun v => State.setFld_parts _ _ _ _ _)))

/-! ### Events (R628 to R632, R645) -/

theorem State.sendIrq_parts (s : State) (e : Nat) : s.samePartsBut (s.sendIrq e) [.log, .out, .harts] := by
  have h (x : LogSt) := State.samePartsBut_mono (s.withLog_parts x) (qs := [.log, .out, .harts]) (by simp)
  unfold State.sendIrq
  simp only
  split
  · exact State.samePartsBut_trans (h _) (State.setFlag_parts _ _ _ _ _)
  · split
    · exact State.samePartsBut_trans (h _) (State.samePartsBut_trans (State.samePartsBut_mono (State.vector_parts _ _ _) (by simp)) (State.setFlag_parts _ _ _ _ _))
    · exact State.samePartsBut_trans (h _) (State.samePartsBut_trans (State.samePartsBut_mono (State.imsic_parts _ _ _ _) (by simp)) (State.setFlag_parts _ _ _ _ _))

theorem State.irq_parts (s : State) (e : Nat) : s.samePartsBut (s.irq e) [.log, .out, .harts] := by
  unfold State.irq
  simp only
  split
  · exact s.setFlag_parts _ _ _ _
  · exact s.sendIrq_parts e

theorem State.tracePut_parts (s : State) (size e : Nat) (ws : List Nat) : s.samePartsBut (s.tracePut size e ws) [.mem, .poison] := by
  unfold State.tracePut
  exact State.samePartsBut_trans (State.corePut_parts _ _ _) (State.setFld_parts _ _ _ _ _)

theorem State.traceMsg_parts (s : State) (e : Nat) (ws : List Nat) : s.samePartsBut (s.traceMsg e ws) [.traceLost, .mem, .poison] := by
  have put : ∀ (t : State) (a b : Nat) (l : List Nat), t.samePartsBut (t.tracePut a b l) [.traceLost, .mem, .poison] := fun t a b l =>
    State.samePartsBut_mono (t.tracePut_parts a b l) (by simp)
  have lost : ∀ (t : State) (n : Nat), t.samePartsBut (t.withTraceLost n) [.traceLost, .mem, .poison] := fun t n =>
    State.samePartsBut_mono (t.withTraceLost_parts n) (by simp)
  unfold State.traceMsg
  split
  · exact s.samePartsBut_refl _
  · dsimp only
    by_cases h : s.traceLost = 0
    · simp only [h, if_true]
      split
      · exact State.samePartsBut_trans (s.bumpSat_parts _ _ _ _) (lost _ _)
      · exact put s _ _ _
    · simp only [h, if_false]
      split
      · exact State.samePartsBut_trans (s.bumpSat_parts _ _ _ _) (lost _ _)
      · exact State.samePartsBut_trans (State.samePartsBut_trans (put s _ _ _) (lost _ _)) (put _ _ _ _)

theorem State.numbered_parts (s : State) (e : Nat) : s.samePartsBut (s.numbered e) [.log] := s.withLog_parts _

theorem State.shown_parts (s : State) (e seq : Nat) (p : List Item) : s.samePartsBut (s.shown e seq p) [.out] :=
  State.samePartsBut_trans (s.bumpSat_parts _ _ _ _) (State.emit_parts _ _)

theorem State.traced_parts (s : State) (e : Nat) (ws : List Nat) : s.samePartsBut (s.traced e ws) [.traceLost, .mem, .poison] := by
  unfold State.traced
  split
  · exact s.traceMsg_parts e ws
  · exact s.samePartsBut_refl _

theorem State.routed_parts (s : State) (e : Nat) (ws : List Nat) : s.samePartsBut (s.routed e ws) [.log, .out, .harts, .staged] := by
  unfold State.routed
  dsimp only
  split
  · exact State.samePartsBut_mono (s.withStaged_parts _) (by simp)
  · split
    · exact State.samePartsBut_mono (s.irq_parts e) (by simp)
    · exact s.samePartsBut_refl _

theorem State.raise_parts (s : State) (e : Nat) (p : List Item) : s.samePartsBut (s.raise e p) eventParts := by
  unfold State.raise
  exact State.samePartsBut_trans (State.samePartsBut_mono (s.numbered_parts e) (by simp [eventParts]))
    (State.samePartsBut_trans (State.samePartsBut_mono (State.shown_parts _ e _ p) (by simp [eventParts]))
      (State.samePartsBut_trans (State.samePartsBut_mono (State.traced_parts _ e _) (by simp [eventParts]))
        (State.samePartsBut_mono (State.routed_parts _ e _) (by simp [eventParts]))))

theorem State.limitedBy_parts (s : State) (period ev k n : Nat) (p : Nat → List Item) :
    s.samePartsBut (s.limitedBy period ev k n p) (.limits :: eventParts) := by
  unfold State.limitedBy
  simp only
  split
  · exact State.samePartsBut_trans (State.samePartsBut_mono (s.withLimits_parts _) (by simp))
      (State.samePartsBut_mono (State.raise_parts _ _ _) (by simp))
  · exact State.samePartsBut_mono (s.withLimits_parts _) (by simp)

theorem State.limited_parts (s : State) (ev k n : Nat) (p : Nat → List Item) : s.samePartsBut (s.limited ev k n p) (.limits :: eventParts) :=
  s.limitedBy_parts _ _ _ _ _

/-! ### The fault log (R344, R607 to R610) -/

theorem State.logAs_parts (s : State) (late : Bool) (type cond source count : Nat) (detail : List Nat) :
    s.samePartsBut (s.logAs late type cond source count detail) [.log] := by
  unfold State.logAs
  simp only
  generalize s.newEntry type cond source count detail = e
  have h1 : s.samePartsBut (s.logNumber e) [.log] :=
    State.samePartsBut_trans (s.withLog_parts _) (State.samePartsBut_trans (State.setFld_parts _ _ _ _ _) (State.bump_parts _ _ _ _ _))
  have h2 : ∀ t : State, t.samePartsBut (t.logKeep e) [.log] := fun t => by
    unfold State.logKeep; split <;> exact t.withLog_parts _
  have h3 : ∀ t : State, t.samePartsBut (t.logFlash late e) [.log] := fun t => by
    unfold State.logFlash
    split
    · exact t.withLog_parts _
    · split
      · unfold State.flashEntry
        exact State.samePartsBut_trans (t.withLog_parts _) (State.samePartsBut_trans (State.bump_parts _ _ _ _ _) (State.bump_parts _ _ _ _ _))
      · exact t.bump_parts _ _ _ _
  exact State.samePartsBut_trans h1 (State.samePartsBut_trans (h2 _) (h3 _))

theorem State.logEntry_parts (s : State) (type cond source count : Nat) (detail : List Nat) :
    s.samePartsBut (s.logEntry type cond source count detail) [.log] := s.logAs_parts _ _ _ _ _ _

theorem State.condition_parts (s : State) (cond source : Nat) (detail : List Nat) : s.samePartsBut (s.condition cond source detail) [.log] :=
  s.logEntry_parts _ _ _ _ _

theorem State.violate_parts (s : State) (cond source ev : Nat) (detail : List Nat) : s.samePartsBut (s.violate cond source ev detail) eventParts := by
  unfold State.violate
  split
  · exact State.samePartsBut_mono (s.withLog_parts _) (by simp [eventParts])
  · simp only
    refine State.samePartsBut_trans (State.samePartsBut_mono (s.logEntry_parts 1 cond source 1 detail) (by simp [eventParts])) ?_
    refine State.samePartsBut_trans ?_ (State.samePartsBut_mono (State.withLog_parts _ _) (by simp [eventParts]))
    split
    · exact State.samePartsBut_refl _ _
    · exact State.raise_parts _ _ _

theorem State.carve_parts (s : State) (fi code : Nat) : s.samePartsBut (s.carve fi code) eventParts :=
  State.samePartsBut_trans (s.bump_parts _ _ _ _) (State.violate_parts _ _ _ _ _)

theorem State.lockViolation_parts (s : State) (who : Party) (addr : Nat) : s.samePartsBut (s.lockViolation who addr) eventParts :=
  State.samePartsBut_trans (s.bump_parts _ _ _ _) (State.violate_parts _ _ _ _ _)

/-! ### Writes -/

theorem State.dlogMark_parts (s : State) (fi a n : Nat) : s.samePartsBut (s.dlogMark fi a n) [.dlogs] := by
  unfold State.dlogMark
  refine State.samePartsBut_foldl _ _ (fun t k => ?_) _ s
  dsimp only
  split
  · exact t.withDlogs_parts _
  · exact t.samePartsBut_refl _

/-- The posted writes of a transfer to host memory only leave the module. -/
theorem State.hostPut_parts (s : State) (fi a : Nat) (bs : List Byte) : s.samePartsBut (s.hostPut fi a bs) [.out] :=
  State.samePartsBut_foldl _ _ (fun t _ => t.emit_parts _) _ s

theorem State.dmaWrite_parts (s : State) (fi a : Nat) (bs : List Byte) : s.samePartsBut (s.dmaWrite fi a bs) (.dlogs :: eventParts) := by
  unfold State.dmaWrite
  split
  · split
    · exact State.samePartsBut_trans (State.samePartsBut_mono (s.hostPut_parts _ _ _) (by simp [eventParts]))
        (State.samePartsBut_mono (State.dlogMark_parts _ _ _ _) (by simp))
    · exact s.samePartsBut_refl _
  · split
    · exact s.samePartsBut_refl _
    · split
      · exact State.samePartsBut_mono (s.raise_parts _ _) (by simp)
      · exact State.samePartsBut_mono (s.corePut_parts _ _) (by simp [eventParts])

theorem State.put_parts (s : State) (who : Party) (f : Fld) (i v : Nat) : s.samePartsBut (s.put who f i v) [.log] := by
  unfold State.put State.journal
  split
  · exact s.samePartsBut_refl _
  · split
    · exact State.samePartsBut_trans (s.setFld_parts f i _ _) (State.withLog_parts _ _)
    · exact s.setFld_parts f i _ _

theorem State.when_parts (s : State) (c : Bool) (f : State → State) (ps : List Part) (h : s.samePartsBut (f s) ps) : s.samePartsBut (s.when c f) ps := by
  cases c
  · exact s.samePartsBut_refl ps
  · exact h

theorem State.writeTo_parts (s : State) (who : Party) (region block : Nat) (cores : Bool) (f : State → State) (ps : List Part)
    (h : s.samePartsBut (f s) ps) : s.samePartsBut (s.writeTo who region block cores f) ps := by
  unfold State.writeTo
  split
  · exact s.bumpSat_parts _ _ _ _
  · exact s.when_parts _ f ps h

/-! ### The canonical form of the memories (R301, R303) -/

/-- What leaves both memories alone keeps their form. -/
theorem State.memWf_of_parts {s t : State} {ps : List Part} (h : s.samePartsBut t ps) (hm : Part.mem ∉ ps) (hs : Part.staging ∉ ps)
    (w : s.memWf = true) : t.memWf = true := by
  have h1 : t.mem = s.mem := h.1 .mem hm
  have h2 : t.staging = s.staging := h.1 .staging hs
  unfold State.memWf at *
  rw [h1, h2]
  exact w

theorem State.memWf_memWrite (s : State) (a : Nat) (bs : List Byte) (w : s.memWf = true) : (s.memWrite a bs).memWf = true := by
  unfold State.memWf at *
  simp only [Bool.and_eq_true] at w ⊢
  exact ⟨cellsWrite_wf a bs s.mem w.1, w.2⟩

theorem State.memWf_corePut (s : State) (a : Nat) (bs : List Byte) (w : s.memWf = true) : (s.corePut a bs).memWf = true :=
  State.memWf_memWrite _ a bs (State.memWf_of_parts (s.stackTouch_parts a []) (by simp) (by simp) w)


theorem State.memWf_tracePut (s : State) (size e : Nat) (ws : List Nat) (w : s.memWf = true) : (s.tracePut size e ws).memWf = true :=
  State.memWf_of_parts (State.setFld_parts _ _ _ _ []) (by simp) (by simp) (s.memWf_corePut _ _ w)

theorem State.memWf_traceMsg (s : State) (e : Nat) (ws : List Nat) (w : s.memWf = true) : (s.traceMsg e ws).memWf = true := by
  have lost : ∀ (t : State) (n : Nat), t.memWf = true → (t.withTraceLost n).memWf = true := fun t n h =>
    State.memWf_of_parts (t.withTraceLost_parts n) (by simp) (by simp) h
  have bump : ∀ t : State, t.memWf = true → (t.bumpSat F.CX_DBG_TRACE_LOST).memWf = true := fun t h =>
    State.memWf_of_parts (t.bumpSat_parts F.CX_DBG_TRACE_LOST 0 1 []) (by simp) (by simp) h
  unfold State.traceMsg
  split
  · exact w
  · dsimp only
    by_cases h : s.traceLost = 0
    · simp only [h, if_true]
      split
      · exact lost _ _ (bump s w)
      · exact s.memWf_tracePut _ _ _ w
    · simp only [h, if_false]
      split
      · exact lost _ _ (bump s w)
      · exact State.memWf_tracePut _ _ _ _ (lost _ _ (s.memWf_tracePut _ _ _ w))

theorem State.memWf_traced (s : State) (e : Nat) (ws : List Nat) (w : s.memWf = true) : (s.traced e ws).memWf = true := by
  unfold State.traced
  split
  · exact s.memWf_traceMsg e ws w
  · exact w

theorem State.memWf_raise (s : State) (e : Nat) (p : List Item) (w : s.memWf = true) : (s.raise e p).memWf = true := by
  unfold State.raise
  exact State.memWf_of_parts (State.routed_parts _ e _) (by simp) (by simp) (State.memWf_traced _ e _
    (State.memWf_of_parts (State.shown_parts _ e _ p) (by simp) (by simp) (State.memWf_of_parts (s.numbered_parts e) (by simp) (by simp) w)))

theorem State.memWf_violate (s : State) (cond source ev : Nat) (detail : List Nat) (w : s.memWf = true) : (s.violate cond source ev detail).memWf = true := by
  unfold State.violate
  split
  · exact w
  · have h := State.memWf_of_parts (s.logEntry_parts 1 cond source 1 detail) (by simp) (by simp) w
    simp only
    refine State.memWf_of_parts (State.withLog_parts _ _) (by simp) (by simp) ?_
    split
    · exact h
    · exact State.memWf_raise _ _ _ h

theorem State.memWf_limitedBy (s : State) (period ev k n : Nat) (p : Nat → List Item) (w : s.memWf = true) : (s.limitedBy period ev k n p).memWf = true := by
  unfold State.limitedBy
  simp only
  split
  · exact State.memWf_raise _ _ _ w
  · exact w

theorem State.memWf_dmaWrite (s : State) (fi a : Nat) (bs : List Byte) (w : s.memWf = true) : (s.dmaWrite fi a bs).memWf = true := by
  unfold State.dmaWrite
  split
  · split
    · exact State.memWf_of_parts (State.dlogMark_parts _ _ _ _) (by simp) (by simp) (State.memWf_of_parts (s.hostPut_parts fi a bs) (by simp) (by simp) w)
    · exact w
  · split
    · exact w
    · split
      · exact s.memWf_raise _ _ w
      · exact s.memWf_corePut _ _ w

end Sys2Proof.Machine
end

