-- ==== Sys2Proof/Laws/PerInstr.lean ====
section
/-! SUPPORT. One lemma per command: only what carries a list or a packet can be ill formed. -/

namespace Sys2Proof.Laws.Plain

/-- A command that carries no list and no packet of a form of its own is well formed. -/
def Statement (i : Instr) : Prop := i.carries = false → i.wf = true

theorem powerOn : ∀ a0 a1 a2, Statement (.powerOn a0 a1 a2) := fun _ _ _ _ => rfl
theorem bootStart : ∀ a0, Statement (.bootStart a0) := fun _ _ => rfl
theorem keyPairDerived : Statement .keyPairDerived := fun _ => rfl
theorem runReady : Statement .runReady := fun _ => rfl
theorem failedStartTimeout : Statement .failedStartTimeout := fun _ => rfl
theorem vinBelowVhold : Statement .vinBelowVhold := fun _ => rfl
theorem vinRecovered : Statement .vinRecovered := fun _ => rfl
theorem vinBelowVvault : Statement .vinBelowVvault := fun _ => rfl
theorem vaultDone : Statement .vaultDone := fun _ => rfl
theorem vinTurnOff : Statement .vinTurnOff := fun _ => rfl
theorem rstN : Statement .rstN := fun _ => rfl
theorem haltReq : ∀ a0, Statement (.haltReq a0) := fun _ _ => rfl
theorem snetReq : ∀ a0, Statement (.snetReq a0) := fun _ _ => rfl
theorem restartReq : ∀ a0, Statement (.restartReq a0) := fun _ _ => rfl
theorem thermalTrip : Statement .thermalTrip := fun _ => rfl
theorem lidBreach : Statement .lidBreach := fun _ => rfl
theorem alarmZeroise : ∀ a0, Statement (.alarmZeroise a0) := fun _ _ => rfl
theorem refclkLost : Statement .refclkLost := fun _ => rfl
theorem tbCtrlWrite : ∀ a0 a1, Statement (.tbCtrlWrite a0 a1) := fun _ _ _ => rfl
theorem tbOffsetWrite : ∀ a0 a1, Statement (.tbOffsetWrite a0 a1) := fun _ _ _ => rfl
theorem slewDone : Statement .slewDone := fun _ => rfl
theorem tbSyncSet : ∀ a0 a1, Statement (.tbSyncSet a0 a1) := fun _ _ _ => rfl
theorem ptpMessageRx : ∀ a0, Statement (.ptpMessageRx a0) := fun _ _ => rfl
theorem syncLocked : ∀ a0, Statement (.syncLocked a0) := fun _ _ => rfl
theorem syncHoldover : Statement .syncHoldover := fun _ => rfl
theorem errEstTick : Statement .errEstTick := fun _ => rfl
theorem holdoverExpired : Statement .holdoverExpired := fun _ => rfl
theorem ppsOutEdge : Statement .ppsOutEdge := fun _ => rfl
theorem ppsInEdge : ∀ a0, Statement (.ppsInEdge a0) := fun _ _ => rfl
theorem ppsInMissing : Statement .ppsInMissing := fun _ => rfl
theorem wakeTrigger : ∀ a0, Statement (.wakeTrigger a0) := fun _ _ => rfl
theorem wakeComplete : ∀ a0 a1, Statement (.wakeComplete a0 a1) := fun _ _ _ => rfl
theorem idleGate : ∀ a0, Statement (.idleGate a0) := fun _ _ => rfl
theorem plannedWake : ∀ a0, Statement (.plannedWake a0) := fun _ _ => rfl
theorem lbCfgWrite : ∀ a0 a1 a2, Statement (.lbCfgWrite a0 a1 a2) := fun _ _ _ _ => rfl
theorem lbSizeApply : ∀ a0, Statement (.lbSizeApply a0) := fun _ _ => rfl
theorem portCfgWrite : ∀ a0 a1 a2, Statement (.portCfgWrite a0 a1 a2) := fun _ _ _ _ => rfl
theorem subportCfgWrite : ∀ a0 a1 a2, Statement (.subportCfgWrite a0 a1 a2) := fun _ _ _ _ => rfl
theorem anResolved : ∀ a0 a1 a2 a3, Statement (.anResolved a0 a1 a2 a3) := fun _ _ _ _ _ => rfl
theorem anFail : ∀ a0, Statement (.anFail a0) := fun _ _ => rfl
theorem trainRequest : ∀ a0 a1, Statement (.trainRequest a0 a1) := fun _ _ _ => rfl
theorem trainingDone : ∀ a0, Statement (.trainingDone a0) := fun _ _ => rfl
theorem trainTimeout : ∀ a0 a1, Statement (.trainTimeout a0 a1) := fun _ _ _ => rfl
theorem alignLock : ∀ a0, Statement (.alignLock a0) := fun _ _ => rfl
theorem alignTimeout : ∀ a0, Statement (.alignTimeout a0) := fun _ _ => rfl
theorem linkLoss : ∀ a0 a1 a2, Statement (.linkLoss a0 a1 a2) := fun _ _ _ _ => rfl
theorem remoteFaultRx : ∀ a0 a1, Statement (.remoteFaultRx a0 a1) := fun _ _ _ => rfl
theorem remoteFaultClear : ∀ a0, Statement (.remoteFaultClear a0) := fun _ _ => rfl
theorem macRxFrame : ∀ a0 a1, Statement (.macRxFrame a0 a1) := fun _ _ _ => rfl
theorem lbGrant : ∀ a0 a1 a2 a3, Statement (.lbGrant a0 a1 a2 a3) := fun _ _ _ _ _ => rfl
theorem bundleRewrite : ∀ a0 a1 a2 a3, Statement (.bundleRewrite a0 a1 a2 a3) := fun _ _ _ _ _ => rfl
theorem xprofCommit : ∀ a0 a1 a2 a3, Statement (.xprofCommit a0 a1 a2 a3) := fun _ _ _ _ _ => rfl
theorem counterLatch : ∀ a0 a1 a2 a3, Statement (.counterLatch a0 a1 a2 a3) := fun _ _ _ _ _ => rfl
theorem counterLatchDone : ∀ a0 a1, Statement (.counterLatchDone a0 a1) := fun _ _ _ => rfl
theorem loadSwap : ∀ a0 a1 a2, Statement (.loadSwap a0 a1 a2) := fun _ _ _ _ => rfl
theorem loadOnly : ∀ a0 a1 a2, Statement (.loadOnly a0 a1 a2) := fun _ _ _ _ => rfl
theorem swap : ∀ a0, Statement (.swap a0) := fun _ _ => rfl
theorem abort : ∀ a0, Statement (.abort a0) := fun _ _ => rfl
theorem epochFlip : Statement .epochFlip := fun _ => rfl
theorem oldBankDrained : ∀ a0, Statement (.oldBankDrained a0) := fun _ _ => rfl
theorem drainTimeout : Statement .drainTimeout := fun _ => rfl
theorem tblCfgWrite : ∀ a0 a1 a2 a3, Statement (.tblCfgWrite a0 a1 a2 a3) := fun _ _ _ _ _ => rfl
theorem tableInsert : ∀ a0 a1 a2, Statement (.tableInsert a0 a1 a2) := fun _ _ _ _ => rfl
theorem tableReplace : ∀ a0 a1 a2, Statement (.tableReplace a0 a1 a2) := fun _ _ _ _ => rfl
theorem tableWrite : ∀ a0 a1 a2, Statement (.tableWrite a0 a1 a2) := fun _ _ _ _ => rfl
theorem tableDelete : ∀ a0 a1 a2, Statement (.tableDelete a0 a1 a2) := fun _ _ _ _ => rfl
theorem tableRead : ∀ a0 a1 a2, Statement (.tableRead a0 a1 a2) := fun _ _ _ _ => rfl
theorem tableFlush : ∀ a0 a1 a2, Statement (.tableFlush a0 a1 a2) := fun _ _ _ _ => rfl
theorem tableUpdate : ∀ a0 a1 a2 a3, Statement (.tableUpdate a0 a1 a2 a3) := fun _ _ _ _ _ => rfl
theorem engineCommit : ∀ a0 a1, Statement (.engineCommit a0 a1) := fun _ _ _ => rfl
theorem ageSweep : ∀ a0 a1, Statement (.ageSweep a0 a1) := fun _ _ _ => rfl
theorem stitchLearnRx : ∀ a0, Statement (.stitchLearnRx a0) := fun _ _ => rfl
theorem entryRewrite : ∀ a0 a1 a2, Statement (.entryRewrite a0 a1 a2) := fun _ _ _ _ => rfl
theorem admissionEnqueue : ∀ a0, Statement (.admissionEnqueue a0) := fun _ _ => rfl
theorem qcfgWrite : ∀ a0 a1 a2 a3, Statement (.qcfgWrite a0 a1 a2 a3) := fun _ _ _ _ _ => rfl
theorem cutThroughEligible : ∀ a0, Statement (.cutThroughEligible a0) := fun _ _ => rfl
theorem tailWritten : ∀ a0, Statement (.tailWritten a0) := fun _ _ => rfl
theorem segmentAllocResume : ∀ a0, Statement (.segmentAllocResume a0) := fun _ _ => rfl
theorem bgDrained : ∀ a0, Statement (.bgDrained a0) := fun _ _ => rfl
theorem dequeueSelect : ∀ a0 a1 a2 a3, Statement (.dequeueSelect a0 a1 a2 a3) := fun _ _ _ _ _ => rfl
theorem gateTransition : ∀ a0, Statement (.gateTransition a0) := fun _ _ => rfl
theorem gateChange : ∀ a0, Statement (.gateChange a0) := fun _ _ => rfl
theorem gateCancel : ∀ a0, Statement (.gateCancel a0) := fun _ _ => rfl
theorem gateListSwap : ∀ a0, Statement (.gateListSwap a0) := fun _ _ => rfl
theorem meterCommit : ∀ a0 a1 a2 a3, Statement (.meterCommit a0 a1 a2 a3) := fun _ _ _ _ _ => rfl
theorem qdepthSample : ∀ a0 a1, Statement (.qdepthSample a0 a1) := fun _ _ _ => rfl
theorem sampleGroupCommit : ∀ a0 a1 a2, Statement (.sampleGroupCommit a0 a1 a2) := fun _ _ _ _ => rfl
theorem helloTx : ∀ a0, Statement (.helloTx a0) := fun _ _ => rfl
theorem helloRx : ∀ a0, Statement (.helloRx a0) := fun _ _ => rfl
theorem helloTimeout : ∀ a0, Statement (.helloTimeout a0) := fun _ _ => rfl
theorem stitchDataRx : ∀ a0, Statement (.stitchDataRx a0) := fun _ _ => rfl
theorem timeExchange : Statement .timeExchange := fun _ => rfl
theorem timeRx : ∀ a0, Statement (.timeRx a0) := fun _ _ => rfl
theorem rejoin : ∀ a0, Statement (.rejoin a0) := fun _ _ => rfl
theorem rejoinPendTimeout : ∀ a0, Statement (.rejoinPendTimeout a0) := fun _ _ => rfl
theorem resyncReplayDone : ∀ a0, Statement (.resyncReplayDone a0) := fun _ _ => rfl
theorem neighbourLost : ∀ a0, Statement (.neighbourLost a0) := fun _ _ => rfl
theorem routeWrite : ∀ a0 a1 a2, Statement (.routeWrite a0 a1 a2) := fun _ _ _ _ => rfl
theorem hbmPartWrite : ∀ a0 a1, Statement (.hbmPartWrite a0 a1) := fun _ _ _ => rfl
theorem hbmScrub : ∀ a0 a1 a2, Statement (.hbmScrub a0 a1 a2) := fun _ _ _ _ => rfl
theorem stackOff : ∀ a0 a1, Statement (.stackOff a0 a1) := fun _ _ _ => rfl
theorem stackOn : ∀ a0 a1, Statement (.stackOn a0 a1) := fun _ _ _ => rfl
theorem stackOnDone : ∀ a0, Statement (.stackOnDone a0) := fun _ _ => rfl
theorem hostPerstDeassert : ∀ a0, Statement (.hostPerstDeassert a0) := fun _ _ => rfl
theorem hostDlActive : ∀ a0 a1 a2 a3 a4 a5, Statement (.hostDlActive a0 a1 a2 a3 a4 a5) := fun _ _ _ _ _ _ _ => rfl
theorem hostTrainTimeout : ∀ a0 a1, Statement (.hostTrainTimeout a0 a1) := fun _ _ _ => rfl
theorem hotReset : ∀ a0 a1, Statement (.hotReset a0 a1) := fun _ _ _ => rfl
theorem hostDlDown : ∀ a0 a1, Statement (.hostDlDown a0 a1) := fun _ _ _ => rfl
theorem hostPerstAssert : ∀ a0, Statement (.hostPerstAssert a0) := fun _ _ => rfl
theorem configRequest : ∀ a0 a1, Statement (.configRequest a0 a1) := fun _ _ _ => rfl
theorem barRequest : ∀ a0, Statement (.barRequest a0) := by intros; intro h; cases h
theorem completionRx : ∀ a0 a1 a2, Statement (.completionRx a0 a1 a2) := fun _ _ _ _ => rfl
theorem completionTimeout : ∀ a0 a1, Statement (.completionTimeout a0 a1) := fun _ _ _ => rfl
theorem tagRelease : ∀ a0 a1, Statement (.tagRelease a0 a1) := fun _ _ _ => rfl
theorem bmeClear : ∀ a0, Statement (.bmeClear a0) := fun _ _ => rfl
theorem flr : ∀ a0, Statement (.flr a0) := fun _ _ => rfl
theorem functionResetDone : ∀ a0, Statement (.functionResetDone a0) := fun _ _ => rfl
theorem msixUnmask : ∀ a0 a1, Statement (.msixUnmask a0 a1) := fun _ _ _ => rfl
theorem driveEn : ∀ a0 a1, Statement (.driveEn a0 a1) := fun _ _ _ => rfl
theorem driveDlActive : ∀ a0 a1 a2, Statement (.driveDlActive a0 a1 a2) := fun _ _ _ _ => rfl
theorem driveTrainTimeout : ∀ a0, Statement (.driveTrainTimeout a0) := fun _ _ => rfl
theorem driveEnum : ∀ a0 a1, Statement (.driveEnum a0 a1) := fun _ _ _ => rfl
theorem driveEnumTimeout : ∀ a0, Statement (.driveEnumTimeout a0) := fun _ _ => rfl
theorem driveError : ∀ a0, Statement (.driveError a0) := fun _ _ => rfl
theorem surpriseDown : ∀ a0, Statement (.surpriseDown a0) := fun _ _ => rfl
theorem driveRelease : ∀ a0 a1, Statement (.driveRelease a0 a1) := fun _ _ _ => rfl
theorem driveRequest : ∀ a0 a1, Statement (.driveRequest a0 a1) := fun _ _ _ => rfl
theorem mmioTimeout : ∀ a0, Statement (.mmioTimeout a0) := fun _ _ => rfl
theorem fnRecWrite : ∀ a0 a1 a2 a3, Statement (.fnRecWrite a0 a1 a2 a3) := fun _ _ _ _ _ => rfl
theorem vfEnable : ∀ a0, Statement (.vfEnable a0) := fun _ _ => rfl
theorem vfDisable : ∀ a0, Statement (.vfDisable a0) := fun _ _ => rfl
theorem functionDestroyDone : ∀ a0, Statement (.functionDestroyDone a0) := fun _ _ => rfl
theorem dlogEnable : ∀ a0 a1 a2, Statement (.dlogEnable a0 a1 a2) := fun _ _ _ _ => rfl
theorem harvest : ∀ a0 a1, Statement (.harvest a0 a1) := fun _ _ _ => rfl
theorem harvestDone : ∀ a0, Statement (.harvestDone a0) := fun _ _ => rfl
theorem bitmapFlush : ∀ a0, Statement (.bitmapFlush a0) := fun _ _ => rfl
theorem doorbell : ∀ a0 a1 a2, Statement (.doorbell a0 a1 a2) := fun _ _ _ _ => rfl
theorem ringEnable : ∀ a0 a1, Statement (.ringEnable a0 a1) := fun _ _ _ => rfl
theorem ringStop : ∀ a0 a1, Statement (.ringStop a0 a1) := fun _ _ _ => rfl
theorem ringResume : ∀ a0 a1, Statement (.ringResume a0 a1) := fun _ _ _ => rfl
theorem ringReset : ∀ a0 a1, Statement (.ringReset a0 a1) := fun _ _ _ => rfl
theorem ringInvalidate : ∀ a0 a1, Statement (.ringInvalidate a0 a1) := fun _ _ _ => rfl
theorem ringStopped : ∀ a0, Statement (.ringStopped a0) := fun _ _ => rfl
theorem descFetch : ∀ a0 a1 a2, Statement (.descFetch a0 a1 a2) := by intros; intro h; cases h
theorem descDispatch : ∀ a0, Statement (.descDispatch a0) := fun _ _ => rfl
theorem nopDesc : ∀ a0, Statement (.nopDesc a0) := fun _ _ => rfl
theorem fence : ∀ a0, Statement (.fence a0) := fun _ _ => rfl
theorem string : ∀ a0, Statement (.string a0) := fun _ _ => rfl
theorem stringTimeout : ∀ a0, Statement (.stringTimeout a0) := fun _ _ => rfl
theorem rxBuf : ∀ a0, Statement (.rxBuf a0) := fun _ _ => rfl
theorem send : ∀ a0 a1 a2, Statement (.send a0 a1 a2) := fun _ _ _ _ => rfl
theorem descComplete : ∀ a0 a1 a2 a3, Statement (.descComplete a0 a1 a2 a3) := fun _ _ _ _ _ => rfl
theorem headTimeExpiry : ∀ a0, Statement (.headTimeExpiry a0) := fun _ _ => rfl
theorem eventRecordPlace : ∀ a0, Statement (.eventRecordPlace a0) := fun _ _ => rfl
theorem holdLimitExpiry : ∀ a0, Statement (.holdLimitExpiry a0) := fun _ _ => rfl
theorem rxFrameDeliver : ∀ a0, Statement (.rxFrameDeliver a0) := fun _ _ => rfl
theorem microword : ∀ a0 a1 a2, Statement (.microword a0 a1 a2) := by intros; intro h; cases h
theorem sqWatchdog : ∀ a0 a1, Statement (.sqWatchdog a0 a1) := fun _ _ _ => rfl
theorem contextTimer : ∀ a0 a1, Statement (.contextTimer a0 a1) := fun _ _ _ => rfl
theorem sqRelease : ∀ a0 a1, Statement (.sqRelease a0 a1) := fun _ _ _ => rfl
theorem sqInitDone : ∀ a0 a1, Statement (.sqInitDone a0 a1) := fun _ _ _ => rfl
theorem sqOffline : ∀ a0 a1, Statement (.sqOffline a0 a1) := fun _ _ _ => rfl
theorem sqOnline : ∀ a0 a1, Statement (.sqOnline a0 a1) := fun _ _ _ => rfl
theorem sqDrained : ∀ a0, Statement (.sqDrained a0) := fun _ _ => rfl
theorem ucodeLoad : ∀ a0 a1, Statement (.ucodeLoad a0 a1) := fun _ _ _ => rfl
theorem ucodeQuiesced : ∀ a0, Statement (.ucodeQuiesced a0) := fun _ _ => rfl
theorem ucodeDrainTimeout : Statement .ucodeDrainTimeout := fun _ => rfl
theorem rmaWrite : ∀ a0 a1 a2, Statement (.rmaWrite a0 a1 a2) := fun _ _ _ _ => rfl
theorem rmaRead : ∀ a0, Statement (.rmaRead a0) := fun _ _ => rfl
theorem winSet : ∀ a0, Statement (.winSet a0) := fun _ _ => rfl
theorem winRevoke : ∀ a0, Statement (.winRevoke a0) := fun _ _ => rfl
theorem revokeDrained : ∀ a0, Statement (.revokeDrained a0) := fun _ _ => rfl
theorem writePktRx : ∀ a0 a1, Statement (.writePktRx a0 a1) := fun _ _ _ => rfl
theorem readReqRx : ∀ a0 a1 a2 a3, Statement (.readReqRx a0 a1 a2 a3) := fun _ _ _ _ _ => rfl
theorem readRespRx : ∀ a0, Statement (.readRespRx a0) := fun _ _ => rfl
theorem ackRx : ∀ a0, Statement (.ackRx a0) := fun _ _ => rfl
theorem rtoExpiry : ∀ a0 a1, Statement (.rtoExpiry a0 a1) := fun _ _ _ => rfl
theorem packetDeadline : ∀ a0 a1, Statement (.packetDeadline a0 a1) := fun _ _ _ => rfl
theorem rateIncrease : ∀ a0, Statement (.rateIncrease a0) := fun _ _ => rfl
theorem peerWaitTimeout : ∀ a0, Statement (.peerWaitTimeout a0) := fun _ _ => rfl
theorem epEnable : ∀ a0 a1 a2, Statement (.epEnable a0 a1 a2) := fun _ _ _ _ => rfl
theorem epDisable : ∀ a0 a1 a2, Statement (.epDisable a0 a1 a2) := fun _ _ _ _ => rfl
theorem epHoldoffExpiry : ∀ a0, Statement (.epHoldoffExpiry a0) := fun _ _ => rfl
theorem connect : ∀ a0 a1, Statement (.connect a0 a1) := fun _ _ _ => rfl
theorem connReset : ∀ a0 a1, Statement (.connReset a0 a1) := fun _ _ _ => rfl
theorem nsConfigWrite : ∀ a0 a1 a2 a3, Statement (.nsConfigWrite a0 a1 a2 a3) := fun _ _ _ _ _ => rfl
theorem nsDisable : ∀ a0 a1, Statement (.nsDisable a0 a1) := fun _ _ _ => rfl
theorem nsDiscard : ∀ a0 a1, Statement (.nsDiscard a0 a1) := fun _ _ _ => rfl
theorem nvmFlush : ∀ a0, Statement (.nvmFlush a0) := fun _ _ => rfl
theorem nvmWrite : ∀ a0 a1 a2 a3, Statement (.nvmWrite a0 a1 a2 a3) := fun _ _ _ _ _ => rfl
theorem nvmRead : ∀ a0 a1 a2 a3, Statement (.nvmRead a0 a1 a2 a3) := fun _ _ _ _ _ => rfl
theorem writeZeroes : ∀ a0 a1, Statement (.writeZeroes a0 a1) := fun _ _ _ => rfl
theorem datasetManagement : ∀ a0 a1 a2, Statement (.datasetManagement a0 a1 a2) := fun _ _ _ _ => rfl
theorem orderedWrite : ∀ a0 a1 a2 a3, Statement (.orderedWrite a0 a1 a2 a3) := fun _ _ _ _ _ => rfl
theorem identify : ∀ a0, Statement (.identify a0) := fun _ _ => rfl
theorem getLogPage : ∀ a0, Statement (.getLogPage a0) := fun _ _ => rfl
theorem setFeatures : ∀ a0 a1 a2, Statement (.setFeatures a0 a1 a2) := fun _ _ _ _ => rfl
theorem getFeatures : ∀ a0, Statement (.getFeatures a0) := fun _ _ => rfl
theorem groupAdmit : Statement .groupAdmit := fun _ => rfl
theorem groupCertify : Statement .groupCertify := fun _ => rfl
theorem certWaitWarn : Statement .certWaitWarn := fun _ => rfl
theorem destageIssue : Statement .destageIssue := fun _ => rfl
theorem destageDone : ∀ a0 a1, Statement (.destageDone a0 a1) := fun _ _ _ => rfl
theorem drvTimeout : ∀ a0, Statement (.drvTimeout a0) := fun _ _ => rfl
theorem drvAbortTimeout : ∀ a0, Statement (.drvAbortTimeout a0) := fun _ _ => rfl
theorem apstIdle : ∀ a0, Statement (.apstIdle a0) := fun _ _ => rfl
theorem keyLoad : ∀ a0 a1 a2, Statement (.keyLoad a0 a1 a2) := fun _ _ _ _ => rfl
theorem keyErase : ∀ a0, Statement (.keyErase a0) := fun _ _ => rfl
theorem keyChangeDone : ∀ a0, Statement (.keyChangeDone a0) := fun _ _ => rfl
theorem ciphJob : ∀ a0 a1 a2, Statement (.ciphJob a0 a1 a2) := fun _ _ _ _ => rfl
theorem ciphJobDone : ∀ a0 a1, Statement (.ciphJobDone a0 a1) := fun _ _ _ => rfl
theorem supplySample : ∀ a0 a1 a2, Statement (.supplySample a0 a1 a2) := fun _ _ _ _ => rfl
theorem backstop : Statement .backstop := fun _ => rfl
theorem backstopRelease : Statement .backstopRelease := fun _ => rfl
theorem overcurrent : Statement .overcurrent := fun _ => rfl
theorem overvoltage : ∀ a0, Statement (.overvoltage a0) := fun _ _ => rfl
theorem overvoltageFault : Statement .overvoltageFault := fun _ => rfl
theorem flicker : ∀ a0, Statement (.flicker a0) := fun _ _ => rfl
theorem captestStart : ∀ a0, Statement (.captestStart a0) := fun _ _ => rfl
theorem captestTimer : Statement .captestTimer := fun _ => rfl
theorem captestDone : ∀ a0 a1 a2, Statement (.captestDone a0 a1 a2) := fun _ _ _ _ => rfl
theorem forceOff : ∀ a0 a1, Statement (.forceOff a0 a1) := fun _ _ _ => rfl
theorem forceOffRelease : ∀ a0 a1, Statement (.forceOffRelease a0 a1) := fun _ _ _ => rfl
theorem ledgerMsClose : ∀ a0, Statement (.ledgerMsClose a0) := by intros; intro h; cases h
theorem accountPeriodEnd : ∀ a0, Statement (.accountPeriodEnd a0) := fun _ _ => rfl
theorem plannerRun : Statement .plannerRun := fun _ => rfl
theorem ledgerCopy : Statement .ledgerCopy := fun _ => rfl
theorem energySnap : Statement .energySnap := fun _ => rfl
theorem bootReady : ∀ a0, Statement (.bootReady a0) := fun _ _ => rfl
theorem clrDemoteA : ∀ a0, Statement (.clrDemoteA a0) := fun _ _ => rfl
theorem clrDemoteB : ∀ a0, Statement (.clrDemoteB a0) := fun _ _ => rfl
theorem imgErase : ∀ a0 a1, Statement (.imgErase a0 a1) := fun _ _ _ => rfl
theorem imgWrite : ∀ a0 a1 a2, Statement (.imgWrite a0 a1 a2) := fun _ _ _ _ => rfl
theorem imgCommit : ∀ a0 a1, Statement (.imgCommit a0 a1) := fun _ _ _ => rfl
theorem writeBcfg : ∀ a0 a1, Statement (.writeBcfg a0 a1) := fun _ _ _ => rfl
theorem imgCmdDone : ∀ a0, Statement (.imgCmdDone a0) := fun _ _ => rfl
theorem floorAdvance : ∀ a0, Statement (.floorAdvance a0) := fun _ _ => rfl
theorem rootRevoke : ∀ a0 a1 a2, Statement (.rootRevoke a0 a1 a2) := fun _ _ _ _ => rfl
theorem coreRelease : ∀ a0 a1, Statement (.coreRelease a0 a1) := fun _ _ _ => rfl
theorem sealDerive : ∀ a0 a1, Statement (.sealDerive a0 a1) := fun _ _ _ => rfl
theorem attReport : ∀ a0, Statement (.attReport a0) := fun _ _ => rfl
theorem reportDone : Statement .reportDone := fun _ => rfl
theorem regionResetReq : ∀ a0 a1, Statement (.regionResetReq a0 a1) := fun _ _ _ => rfl
theorem interconnectTimeout : ∀ a0, Statement (.interconnectTimeout a0) := fun _ _ => rfl
theorem pllUnlock : ∀ a0, Statement (.pllUnlock a0) := fun _ _ => rfl
theorem wdogKick : ∀ a0 a1, Statement (.wdogKick a0 a1) := fun _ _ _ => rfl
theorem supervisorWatchdog : Statement .supervisorWatchdog := fun _ => rfl
theorem violationLogInterval : ∀ a0 a1, Statement (.violationLogInterval a0 a1) := fun _ _ _ => rfl
theorem flashToken : Statement .flashToken := fun _ => rfl
theorem logSelect : ∀ a0 a1, Statement (.logSelect a0 a1) := fun _ _ _ => rfl
theorem tightropeReq : ∀ a0, Statement (.tightropeReq a0) := fun _ _ => rfl
theorem tightropeTimer : ∀ a0 a1, Statement (.tightropeTimer a0 a1) := by intros; intro h; cases h
theorem ageTick : Statement .ageTick := fun _ => rfl
theorem calUpdate : ∀ a0 a1, Statement (.calUpdate a0 a1) := fun _ _ _ => rfl
theorem irqHoldoffExpiry : ∀ a0, Statement (.irqHoldoffExpiry a0) := fun _ _ => rfl
theorem pmcOverflow : ∀ a0 a1 a2 a3, Statement (.pmcOverflow a0 a1 a2 a3) := fun _ _ _ _ _ => rfl
theorem ccrSweep : ∀ a0 a1 a2, Statement (.ccrSweep a0 a1 a2) := fun _ _ _ _ => rfl
theorem sweepDone : Statement .sweepDone := fun _ => rfl
theorem traceEnable : ∀ a0 a1, Statement (.traceEnable a0 a1) := fun _ _ _ => rfl
theorem traceBufferEnd : Statement .traceBufferEnd := fun _ => rfl
theorem extest : ∀ a0 a1, Statement (.extest a0 a1) := fun _ _ _ => rfl
theorem samplePreload : ∀ a0 a1, Statement (.samplePreload a0 a1) := fun _ _ _ => rfl
theorem idcode : Statement .idcode := fun _ => rfl
theorem clamp : ∀ a0, Statement (.clamp a0) := fun _ _ => rfl
theorem highz : ∀ a0, Statement (.highz a0) := fun _ _ => rfl
theorem dtmcs : ∀ a0, Statement (.dtmcs a0) := fun _ _ => rfl
theorem dmi : ∀ a0, Statement (.dmi a0) := fun _ _ => rfl
theorem mailbox : ∀ a0, Statement (.mailbox a0) := fun _ _ => rfl
theorem bypass : ∀ a0, Statement (.bypass a0) := fun _ _ => rfl
theorem debugChallenge : ∀ a0, Statement (.debugChallenge a0) := fun _ _ => rfl
theorem debugOpen : ∀ a0 a1, Statement (.debugOpen a0 a1) := fun _ _ _ => rfl
theorem debugOpenDone : Statement .debugOpenDone := fun _ => rfl
theorem debugClose : ∀ a0, Statement (.debugClose a0) := fun _ _ => rfl
theorem challengeExpiry : Statement .challengeExpiry := fun _ => rfl
theorem tempSample : ∀ a0, Statement (.tempSample a0) := by intros; intro h; cases h
theorem gpioEdge : ∀ a0 a1, Statement (.gpioEdge a0 a1) := fun _ _ _ => rfl
theorem auxOverload : ∀ a0, Statement (.auxOverload a0) := fun _ _ => rfl
theorem auxRetry : ∀ a0, Statement (.auxRetry a0) := fun _ _ => rfl
theorem smbSetAddress : ∀ a0 a1, Statement (.smbSetAddress a0 a1) := fun _ _ _ => rfl
theorem smbBlockRead : ∀ a0, Statement (.smbBlockRead a0) := fun _ _ => rfl
theorem smbAlertResponse : Statement .smbAlertResponse := fun _ => rfl
theorem macsecSaInstall : ∀ a0 a1, Statement (.macsecSaInstall a0 a1) := fun _ _ _ => rfl
theorem macsecSaErase : ∀ a0 a1, Statement (.macsecSaErase a0 a1) := fun _ _ _ => rfl
theorem macsecSaDone : ∀ a0, Statement (.macsecSaDone a0) := fun _ _ => rfl
theorem macsecPnThreshold : ∀ a0 a1, Statement (.macsecPnThreshold a0 a1) := fun _ _ _ => rfl
theorem lpiEntry : ∀ a0 a1, Statement (.lpiEntry a0 a1) := fun _ _ _ => rfl
theorem lpiExit : ∀ a0 a1, Statement (.lpiExit a0 a1) := fun _ _ _ => rfl
theorem registerWrite : ∀ a0, Statement (.registerWrite a0) := by intros; intro h; cases h
theorem calUpdateDone : ∀ a0, Statement (.calUpdateDone a0) := fun _ _ => rfl
theorem regionResetDone : ∀ a0, Statement (.regionResetDone a0) := fun _ _ => rfl
theorem supervisorMachineCheck : Statement .supervisorMachineCheck := fun _ => rfl
theorem coreMachineCheck : Statement .coreMachineCheck := fun _ => rfl
theorem aoUncorrectableError : Statement .aoUncorrectableError := fun _ => rfl
theorem hbmControllerFault : Statement .hbmControllerFault := fun _ => rfl
theorem controlStorageError : ∀ a0, Statement (.controlStorageError a0) := fun _ _ => rfl
theorem correctableError : ∀ a0, Statement (.correctableError a0) := fun _ _ => rfl

end Sys2Proof.Laws.Plain
end

