-- ==== Sys2Proof/Tests/Slice0.lean ====
section
/-! SUPPORT. Small checks of the model: the premises of each statement can be met, ill-formed commands are refused, and single steps on small states. -/

namespace Sys2Proof.Tests

open Sys2Proof.Machine

/-- A powered module in a state. -/
def inMode (m : ModState) : State := (State.reset.withPowered true).setFld F.AO_MODULE_STATE_STATE 0 m.code

/-- The state with one version in the write cache. -/
def oneVer (s : State) (v : VerState) : State :=
  s.withStor { vers := [{ id := 0, gid := 0, seq := 0, handle := 0, blk := 0, mask := 1, data := [], st := v }] }

/-- A module in RUN whose logical port 0 has an operative gate list, all gates shut. -/
def gateRun : State :=
  ((inMode .run).setFlag F.FX_TM_GATE_CFG_OPER_EN 0 true).setFld F.FX_TM_GATE_CFG_GATES_NOW 0 0

/-- A transmit SA of port 0, sub-port 1, AN 2, at its PN threshold. -/
def oneSa : Sa :=
  { port := 0, tx := true, sc := 1, an := 2, suite := 0, key := [], salt := [], ssci := 0, pn := 0xC0000000, sci := 0, inUse := true }

/-- A frame of `n` bytes before its FCS. -/
def wireFrame (n : Nat) (good : Bool) : WireFrame :=
  { bytes := List.replicate n 1, fcsOk := good, framing := false, codeErr := false, fecBad := false, fecCorr := 0, fecUncorr := 0, cut := false }

/-- A frame in a landing buffer. -/
def lbFrame : LbFrame := { lp := 20, bytes := List.replicate 60 1, ts := 0 }

/-- A load of the first pipelines of PA and PD. -/
def oneLoad (go : Bool) : Load := { op := 1, linked := false, pipes := [0, 63], graphs := [], contract := [], go := go }


/-- A direct table 3 of 4,096 entries. -/
def directTable : State :=
  ((inMode .run).setFlag F.FX_TBE_TBL_CFG_EN 3 true).setFld F.FX_TBE_TBL_CFG_KIND 3 1

/-- A direct table 3 with one entry. -/
def oneEntry : State := directTable.withTbl { tabs := [(3, [{ region := 0, index := 4, key := 0 }])] }

/-- An exact-match table 3 that ages, with one entry. -/
def ageTable (e : TEntry) : State :=
  ((((inMode .run).setFlag F.FX_TBE_TBL_CFG_EN 3 true).setFld F.FX_TBE_TBL_CFG_SIZE 3 4096).setFlag F.FX_TBE_TBL_CFG_AGE_EN 3 true).withTbl
    { tabs := [(3, [e])] }

/-- A descriptor at position 0: its DTYPE, and the bytes from byte 4 on. -/
def descOf (dtype : Nat) (rest : List Byte) : Desc :=
  { pos := 0, bytes := [0, 0, BitVec.ofNat 8 dtype, 128] ++ rest ++ List.replicate (60 - rest.length) 0 }

/-- Ring 5 ACTIVE, held by function 0, with a descriptor in work. -/
def inWork (dtype : Nat) (rest : List Byte) : State :=
  (((((inMode .run).setFlag F.HX_FN_REC_COMMITTED 0 true).setFld F.HX_FN_REC_RING_BASE 0 5).setFld F.HX_FN_REC_RING_COUNT 0 1).setFld
    F.HX_RING_STATUS_STATE 5 1).withRings [(5, { t := 1, f := 1, d := 1, work := [descOf dtype rest] })]

/-- A FLUSH of table 3. -/
def flushDesc : Desc := { pos := 0, bytes := [3, 0x60, 0x30, 128] ++ List.replicate 60 0 }

/-- It is in work on ring 5; two entries of the table match it. -/
def flushRun : State :=
  (((inWork 0x30 []).withRings [(5, { t := 1, f := 1, d := 1, work := [flushDesc] })]).setFlag F.FX_TBE_TBL_CFG_EN 3 true).withTbl
    { tabs := [(3, [{ region := 0, index := 4, key := 0 }, { region := 0, index := 5, key := 1 }])] }

/-- A frame of one segment in FX. -/
def fxFrame : FxFrame := { pkt := { bytes := [1, 2, 3], orig := [1, 2, 3] } }

/-- A copy for class 3 of logical port 1, queue 19. -/
def stageCopy : Copy := { fid := 7, lp := 1, cls := 3, kind := 0 }

/-- A frame waiting with that copy. -/
def stageItem : AdmItem := { fid := 7, cls := 3, copies := [stageCopy] }

/-- Frame 7 at the head of the last admission stage, its queue charged. -/
def stagedFrame (charge : Nat) : State :=
  (inMode .run).withFx { frames := [(7, some fxFrame)], nextFid := 8, mainq := [(31, [stageItem])], charge := if charge = 0 then [] else [(19, charge)] }

/-- Frame 7 with its copy in queue 19. -/
def queuedFrame (f : FxFrame) : State :=
  (inMode .run).withFx { frames := [(7, some f)], nextFid := 8, queues := [(19, [stageCopy])], charge := [(19, 1)] }

/-- A copy of frame 7 in a queue of host port 512. -/
def hostCopy (cls : Nat) : Copy := { fid := 7, lp := 512, cls := cls, kind := 0, eligible := true }

/-- Frame 7 with one copy queued to host port 512. -/
def hostQueue (cls : Nat) : State :=
  (inMode .run).withFx { frames := [(7, some { fxFrame with live := 1 })], nextFid := 8, queues := [(8192 + cls, [hostCopy cls])], charge := [(8192 + cls, 1)] }

/-- Frame 7 queued to class 15 of logical port 511, which is UP. -/
def frontQueue : State :=
  (((inMode .run).withFx
      { frames := [(7, some { fxFrame with live := 1 })], nextFid := 8, queues := [(8191, [{ hostCopy 15 with lp := 511 }])], charge := [(8191, 1)] }).setFld
    F.PA_MAC_LINK_STATUS_STATE 511 4).setFld F.AO_WAKE_STATUS_POWER 42 3

/-- Logical port 511 with an operative gate list of one entry. -/
def listRun : State :=
  (((inMode .run).setFlag F.FX_TM_GATE_CFG_OPER_EN 511 true).setFld F.FX_GCL_ENTRY_GATES (512 * 511) 5).setFlag F.FX_GCL_ENTRY_CLOSE_OTHERS (512 * 511) true

/-- Stitch link 7 in a state, its port UP, its neighbour module 1. -/
def stcRun (st : Nat) : State :=
  (((inMode .run).setFld F.PD_STC_LINK_STATE 7 st).setFld F.PD_STC_LINK_NB_DEVID 7 1).setFld F.PA_MAC_LINK_STATUS_STATE 508 4

/-- A stitch frame: type, source and destination byte, destination port, payload. -/
def stcFrame (type src dest : Nat) (p : List Byte) : List Byte :=
  [BitVec.ofNat 8 (0x10 + type), BitVec.ofNat 8 src] ++ beBytes 2 (64 * dest) ++ List.replicate 12 0 ++ p

/-- A frame waits on link 7. -/
def stcIn (st : Nat) (bs : List Byte) : State := (stcRun st).withStc { inbox := [(7, [(5, bs)])] }

/-- MOVE of key 2 of table 3 by module 1: SEQ 9, stamp 2 to the 16th, DATA 6. -/
def learnFrame : List Byte :=
  stcFrame 2 0x40 0 ([2, 0x21, 0x40, 3, 0, 0, 0, 9, 0, 0, 0, 0, 0, 1, 0, 0, 0, 0, 0, 6] ++ List.replicate 12 0 ++ [0, 0, 0, 2] ++ List.replicate 28 0)

/-- A message of module 1 waits in its receiver; shared table 3 holds key 2 with an update stamp. -/
def learnRun (upd : Nat) (m : LearnMsg) : State :=
  ((((ageTable { region := 0, index := 7, key := 2, upd := upd }).setFlag F.FX_TBE_TBL_CFG_STITCH_SHARE 3 true).setFld F.PD_STC_LINK_STATE 7 2).setFld
    F.PD_STC_LINK_NB_DEVID 7 1).withTbl { tabs := [(3, [{ region := 0, index := 7, key := 2, upd := upd }])], inbox := [(1, [m])] }

/-- Module 1, slave of module 0 on link 7, with frames waiting. -/
def slaveRun (fs : List (Nat × List Byte)) : State :=
  ((((inMode .run).setFld F.AO_DEVICE_ID_DEVID 0 1).setFld F.PD_STC_LINK_STATE 7 2).setFlag F.AO_TB_CTRL_SERVO_EN 0 true).withStc
    { hellos := [(7, {})], inbox := if fs.isEmpty then [] else [(7, fs)] }

/-- A TIME frame of module 0: its TX_TS, the arrival it saw, and the slave's TX_TS of 100. -/
def timeFrame (t3 t2 : Nat) : List Byte := stcFrame 3 0x10 0 (beBytes 8 t3 ++ beBytes 8 t2 ++ beBytes 8 100)

/-- A read of 64 bytes in flight on host link 1. -/
def hostRead767 : HostRead := { tag := 767, fi := 7, ring := 5, left := 64, len := 64 }

/-- Host link 1 with that read. -/
def oneRead : State := (inMode .run).withHosts [(1, { perst := false, reads := [hostRead767] })]

/-- PF7 on an ACTIVE sub-link, mastering, ring 5 of it ACTIVE; the kind of reset it is in. -/
def linkRun (resetting : Nat) : State :=
  ((((((inMode .run).setFld F.HX_PCIE_LINK_STATUS_STATE 2 3).setFlag F.HX_FN_REC_COMMITTED 7 true).setFld F.HX_FN_REC_RING_BASE 7 5).setFld
    F.HX_FN_REC_RING_COUNT 7 2).setFld F.HX_RING_STATUS_STATE 5 1).withCfgs [(7, { bme := true, mse := true, resetting := resetting })]

/-- Drive slot 7 in a state. -/
def driveAt (st : Nat) : State := (inMode .run).setFld F.HX_RP_SUBLINK_STATUS_STATE 7 st

/-- Rings 5 and 6 of function 0, ring 5 of a kind, in a state, with its contents. -/
def ringRun (kind st : Nat) (x : RingSt) : State :=
  ((((((inMode .run).setFlag F.HX_FN_REC_COMMITTED 0 true).setFld F.HX_FN_REC_RING_BASE 0 5).setFld F.HX_FN_REC_RING_COUNT 0 2).setFld
    F.HX_RING_STATUS_STATE 5 st).setFld F.HX_RING_CFG_KIND 5 kind).withRings (if x = {} then [] else [(5, x)])
    |>.withCfgs [(0, { bme := true })]

/-- Receive ring 5 and its buffer ring 6, both ACTIVE, a buffer descriptor to dispatch in ring 6. -/
def bufferRun : State := ((ringRun 2 1 {}).setFld F.HX_RING_STATUS_STATE 6 1).withRings [(6, { t := 1, f := 1, cache := [descOf 3 []] })]

/-- A frame waiting at an internal port. -/
def rxItem : RxItem := { copy := { fid := 0, lp := 512, cls := 0, kind := 0 }, bytes := List.replicate 20 1, info := 0, ts := 0, hash := 0, hashSel := 0, cut := false }

/-- The same rings with the buffer posted, sequencer 0 READY for class 0, and the frame waiting at port 512, which delivers into ring 5. -/
def receiveRun : State :=
  (((bufferRun.setFld F.HX_SQ_STATUS_STATE 0 2).setFld F.HX_HVP_CFG_BASE_RING 0 5).withRings [(6, { t := 1, f := 1, d := 1, work := [descOf 3 []] })]).withFx
    { rx := [(512, [rxItem])] }

/-- A record staged for a ring. -/
def recordFor (ring : Nat) : Staged := { ring := ring, rtype := 0x22, low := 3, words := [1, 2] }

/-- Sequencer 4 in a state; context 15 of it runs word 7 of the patch RAM, which has all its parity bits and nothing else. -/
def microRun (st : Nat) : State :=
  ((inMode .run).setFld F.HX_SQ_STATUS_STATE 4 st).withSq
    { ctxs := [(79, { job := some (5, 0), upc := 7, nspace := true })], cur := [(4, 15)], patch := [(7, 2 ^ 128 * 0xFFFF)] }

/-- A WRITE or READ descriptor of three bytes for connection 9. -/
def rmaDesc (dtype : Nat) : Desc :=
  { pos := 0, bytes := [9, 0x80, BitVec.ofNat 8 dtype, 128] ++ List.replicate 20 0 ++ [3, 0, 0, 0] ++ List.replicate 36 0 }

def connKey : PeerKey := { conn := true, id := 9, addr := 0, peer := 0 }

/-- The state of the peer of connection 9. -/
def connPeer : Peer := { key := connKey, nextPsn := 4, nextMsn := 6, rate := 1000, expected := 8 }

/-- READY connection 9 of function 0, and a descriptor of ring 5 for it. -/
def rmaPost (dtype : Nat) : State :=
  (((inWork dtype []).withRings [(5, { t := 1, f := 1, d := 1, work := [rmaDesc dtype] })]).setFld F.HX_RMA_CONN_STATE 9 1).withRma { peers := [connPeer] }

def onePkt : TxPkt := { psn := 8, off := 0, len := 3, first := true, last := true, sendTs := 0 }

/-- A WRITE of one packet in progress, on connection 9 or from endpoint 9. -/
def txOne (conn : Bool) : TxMsg :=
  { ring := 5, pos := 0, key := { connKey with conn := conn }, read := false, durable := false, notify := false, imm := 0, wkey := 0, laddr := 64, roff := 0,
    len := 3, msn := 1, data := [7, 7, 7], cut := 3, pkts := [onePkt] }

/-- The datagram of an RMA packet for connection 9: WRITE, READ_REQ, READ_RESP or ACK of PSN 8, three bytes where it carries any. -/
def rmaUdp (op : Nat) : Udp :=
  let h : RmaHdr := { op := op, first := op == 1, last := op == 1, conn := true, dst := 9, src := 0, plen := if op % 2 = 1 then 3 else 0, psn := 8, sendTs := 0,
                      key := 9 * 4096, msgLen := if op < 4 then 3 else 0 }
  let body := h.bytes ++ (if op % 2 = 1 then [7, 7, 7] else [])
  { v6 := false, src := [10, 0, 0, 1], dst := [10, 0, 0, 2], ecn := 0,
    body := beBytes 2 0xC000 ++ beBytes 2 4791 ++ beBytes 2 (8 + body.length) ++ [0, 0] ++ body }

/-- The frame that carries a datagram. -/
def rxOf (u : Udp) : RxItem :=
  let ip : List Byte := [0x45, 0] ++ beBytes 2 (20 + u.body.length) ++ [0, 0, 0, 0, 64, 17, 0, 0] ++ u.src ++ u.dst
  { rxItem with bytes := List.replicate 12 0 ++ beBytes 2 0x0800 ++ ip ++ u.body }

def rmaItem (op : Nat) : RxItem := rxOf (rmaUdp op)

/-- A datagram whose RMA header is `h`, with a payload. -/
def udpWith (h : RmaHdr) (payload : List Byte) : Udp :=
  let body := h.bytes ++ payload
  { v6 := false, src := [10, 0, 0, 1], dst := [10, 0, 0, 2], ecn := 0,
    body := beBytes 2 0xC000 ++ beBytes 2 4791 ++ beBytes 2 (8 + body.length) ++ [0, 0] ++ body }

/-- An ACK of PSN 8 with syndrome 0x12, and a WRITE packet to endpoint 9. -/
def refusalUdp : Udp := udpWith { op := 4, conn := true, dst := 9, src := 0, psn := 8, sendTs := 0, aux := 0x12000000 } []
def datagramUdp : Udp := udpWith { op := 1, first := true, last := true, conn := false, dst := 9, src := 0, plen := 3, psn := 8, sendTs := 0, msgLen := 3 } [7, 7, 7]

def memWin : RmaWin := { attached := true, base := 4096, len := 64, rd := true, wr := true }

/-- The frame at port 515, sequencer 0 READY, window 9 of function 0 attached, and a READ or WRITE in progress. -/
def rmaIn' (op : Nat) : State :=
  ((((((rmaPost 0x40).setFld F.HX_SQ_STATUS_STATE 0 2).setFld F.HX_SQ_CTRL_CLASS_MASK 0 15).setFld F.HX_FN_REC_WIN_COUNT 0 16).setFld F.HX_RMA_CFG_PORT 0 4791).setFld
      F.HX_RMA_CONN_PEER_ADDR 9 (ofLe (beBytes 16 0xFFFF0A000001)) |>.withCfgs [(0, { mse := true })] |>.withFx { rx := [(515, [rmaItem op])] }).withRma
    { peers := [connPeer], wins := [(9, memWin)], tx := if op < 3 then [] else [{ txOne true with read := op == 3 }] }

/-- The refusal for the WRITE in progress; the datagram for endpoint 9 in HOLDOFF. -/
def refusedAck : State := (rmaIn' 4).withFx { rx := [(515, [rxOf refusalUdp])] }
def datagramIn : State := ((rmaIn' 1).withFx { rx := [(515, [rxOf datagramUdp])] }).setFld F.HX_RMA_EP_STATE 9 1

/-- The same descriptor with its payload at the start of core memory, on a ring of cluster 0. -/
def coreDesc : Desc :=
  { pos := 0, bytes := [9, 0x80, 0x40, 128, 0, 0, 0, 0] ++ leBytes 8 0x1000000000 ++ List.replicate 8 0 ++ [3, 0, 0, 0] ++ List.replicate 36 0 }

def coreRma : State :=
  ((((((rmaPost 0x40).withRings [(5, { t := 1, f := 1, d := 1, work := [coreDesc] })]).setFlag F.HX_FN_REC_COMMITTED 0 false).setFlag F.HX_FN_REC_COMMITTED 2056 true).setFld F.HX_FN_REC_RING_BASE 2056 5).setFld
    F.HX_FN_REC_RING_COUNT 2056 1).setFld F.HX_RMA_CONN_OWNER 9 2056

/-- A window descriptor in work, window 9 in the record of function 0. -/
def winRun (dtype : Nat) (rest : List Byte) (w : RmaWin) : State :=
  ((inWork dtype rest).setFld F.HX_FN_REC_WIN_COUNT 0 16).withRma { wins := if w = {} then [] else [(9, w)] }

/-- A storage descriptor: its DTYPE, its opcode, and the bytes from byte 4 on. -/
def ioDesc (dtype opc : Nat) (rest : List Byte) : Desc :=
  { pos := 0, bytes := [BitVec.ofNat 8 opc, 0, BitVec.ofNat 8 dtype, 128] ++ rest ++ List.replicate (60 - rest.length) 0 }

/-- Handle 3 in a state of R453, of 512-byte LBAs on drive 2; function 0 holds it as NSID 1 and has a storage descriptor in work. -/
def nsRun (st dtype opc : Nat) (rest : List Byte) : State :=
  (((((((((inWork dtype []).withRings [(5, { t := 1, f := 1, d := 1, work := [ioDesc dtype opc rest] })]).setFld F.HX_STOR_NS_STATE 3 st).setFld F.HX_STOR_NS_NLBA 3 8).setFld
    F.HX_STOR_NS_LBA4K 3 0).setFld F.HX_STOR_NS_DRIVE 3 2).setFld F.HX_FN_REC_NS_BASE 0 3).setFld F.HX_FN_REC_NS_COUNT 0 1).setFld F.HX_RP_SUBLINK_STATUS_STATE 2 3)

/-- Namespace 3 in a state, with one version and one destage of it. -/
def destageRun (st : Nat) (d : Destage) : State :=
  (nsRun st 0x50 0 [1]).withStor { vers := [{ id := 0, gid := 0, seq := 0, handle := 3, blk := 0, mask := 1, data := [], st := .destagingCert }], destages := [d] }

/-- A destage of version 0. -/
def oneDestage : Destage := { id := 1, handle := 3, vers := [0], spans := [(0, 1)] }

/-- The operands of a command on LBA 2 of NSID 1 at host address 4,096. -/
def lba2 : List Byte := [1, 0, 0, 0, 0, 16] ++ List.replicate 14 0 ++ [2]

/-- Slot 9 of function 0 loaded with a CTR key, and a cipher descriptor in work. -/
def ciphRun (dtype : Nat) (d : Desc) : State :=
  (((((((inWork dtype []).withRings [(5, { t := 1, f := 1, d := 1, work := [d] })]).setFld F.HX_FN_REC_KEY_COUNT 0 16).setFld F.HX_CIPH_SLOT_LOADED 9 1).setFld
    F.HX_CIPH_SLOT_MODE 9 2).setFld F.HX_CIPH_SLOT_ENC 9 1).withCiph { keys := [(9, List.replicate 16 3)] })

/-- A descriptor of four words: bytes 0 and 1, the DTYPE, and the bytes from byte 4 on. -/
def keyDesc (dtype b0 b1 : Nat) (rest : List Byte) : Desc :=
  { pos := 0, bytes := [BitVec.ofNat 8 b0, BitVec.ofNat 8 b1, BitVec.ofNat 8 dtype, 128] ++ rest ++ List.replicate (60 - rest.length) 0 }

/-- A job of 4 bytes, the first of them AAD in GCM, in lane 3. -/
def oneJob (mode : Nat) : CiphJob :=
  { ring := 5, pos := 0, lane := 3, slot := 9, mode := mode, decrypt := false, key := [], iv := [], aad := 1, src := [1, 2, 3, 4], dst := 4096, tagAddr := 8192, tag := [] }

/-- That job in its lane. -/
def jobRun (mode : Nat) : State := (ciphRun 0x62 (keyDesc 0x62 0 0 [])).withCiph { jobs := [oneJob mode] }

/-- An image command in progress. -/
def imgRun (m : ModState) (c : ImgCmd) (st : Nat) : State :=
  ((inMode m).setFld F.AO_IMG_STATUS_STATE 0 st).withBoot { img := some c, flash := [(1, [(0, 1), (0x037F0000, 2)])] }

/-- The header of an image of two empty sections, and a boot configuration copy with no entry, as the flash holds them. -/
def imageFlash : Map Byte :=
  let bs : List Byte := [0x44, 0x4C, 0x49, 0x4D, 1, 0, 0, 1, 0, 1, 0, 0, 1, 0, 0, 0, 0, 0, 2, 0] ++ List.replicate 44 0 ++ [1] ++ List.replicate 11 0 ++ [2]
    ++ List.replicate 179 0
  bs.zipIdx.map (fun x => (x.2, x.1))

def emptyBcfg : Map Byte := flashPut [] 0 (let h := leBytes 4 0x41464342 ++ List.replicate 8 0; h ++ leBytes 4 (crc32c h))

/-- An entry of the log. -/
def oneEntry' : LogEntry := { type := 1, units := 1, seq := 7, time := 5, cond := 0x0601, source := 2, count := 3, detail := [4] }

/-- An open interval of condition 0x6902 of source 3. -/
def oneInterval (n : Nat) : Interval := { cond := 0x6902, source := 3, count := n, event := 0, detail := [] }

/-- A host link up, function 0 with memory space enabled, and translation entry 0 of link 0 leading to page `page` of a target. -/
def barRun (target page : Nat) : State :=
  ((((((((inMode .run).setFlag F.HX_FN_REC_COMMITTED 0 true).setFld F.HX_PCIE_LINK_STATUS_STATE 0 3).setFld F.HX_PCIE_TT_VALID 0 1).setFld F.HX_PCIE_TT_RD 0 1).setFld F.HX_PCIE_TT_WR 0 1).setFld
    F.HX_PCIE_TT_TARGET 0 target).setFld F.HX_PCIE_TT_ADDR 0 page).withCfgs [(0, { mse := true })]

/-- A request of one word at offset 16. -/
def oneTlp (write : Bool) : BarTlp :=
  { fi := 0, offset := 16, dws := 1, firstBe := 15, lastBe := 0, write := write, data := if write then [1, 2, 3, 4] else [], malformed := false, poisoned := false, bad := false }

/-- A sensor that reads 25 C, and one at 110 C. -/
def mild : SensorReading := { valid := true, temp := 400 }
def hotOne : SensorReading := { valid := true, temp := 1760 }

/-- A write of one register by a party. -/
def oneWrite (who : Party) (addr : Word) (v : Dword) : RegWrite := { who := who, addr := addr, value := v, wide := false, bad := false }
set_option maxRecDepth 8000 in
/-- The premises of StepRunsFrontCommand can be met. -/
theorem premises_StepRunsFrontCommand :
    ((∃ (c : Instr) (rest : List Instr) (s : State), s.pending = c :: rest)) ∧ ((∃ s : State, s.pending = [] ∧ s.powered = false)) ∧ ((∃ s : State, s.pending = [] ∧
      s.powered = true ∧ s.tpll = true ∧ s.time.phase < 159)) ∧ ((∃ s : State, s.pending = [] ∧ s.powered = true ∧ (s.tpll = false ∨ 159 ≤ s.time.phase))) :=
  ⟨⟨.rstN, [], State.reset.withPending [.rstN], by decide⟩, ⟨State.reset, by decide⟩, ⟨inMode .run, by decide⟩, ⟨inMode .standby, by decide⟩⟩

set_option maxRecDepth 8000 in
/-- The premises of TickAdvancesTheTimeBase can be met. -/
theorem premises_TickAdvancesTheTimeBase :
    ((∃ s : State, s.powered = true ∧ s.time.slew = 0 ∧ s.tbRate = 0)) :=
  ⟨inMode .run, by decide⟩

set_option maxRecDepth 8000 in
/-- The premises of StepKeepsMemoryForm can be met. -/
theorem premises_StepKeepsMemoryForm :
    ((∃ s t : State, s.memWf = true ∧ step s = .next t)) :=
  ⟨State.reset, State.reset, by decide, rfl⟩

set_option maxRecDepth 8000 in
/-- The premises of OnlyTransitionsMoveTheState can be met. -/
theorem premises_OnlyTransitionsMoveTheState :
    ((∃ (i : Instr) (s t : State), movesState i = false ∧ exec i s = .next t)) :=
  ⟨.drainTimeout, State.reset, _, by decide, rfl⟩

set_option maxRecDepth 8000 in
/-- The premises of MemoryFrame can be met. -/
theorem premises_MemoryFrame :
    ((∃ (i : Instr) (s t : State), storesToMem i = false ∧ s.fld F.CX_DBG_TRACE_EN = 0 ∧ exec i s = .next t)) :=
  ⟨.drainTimeout, State.reset, _, by decide, by decide, rfl⟩

set_option maxRecDepth 8000 in
/-- The premises of FusesOnlyAdvance can be met. -/
theorem premises_FusesOnlyAdvance :
    ((∃ (i : Instr) (s t : State), exec i s = .next t)) :=
  ⟨.drainTimeout, State.reset, _, rfl⟩

set_option maxRecDepth 8000 in
/-- The premises of SameClockWrites can be met. -/
theorem premises_SameClockWrites :
    ((∃ s : State, s.powered = true)) ∧ ((∃ (s : State) (fi : Fin 2056), s.powered = true ∧ s.fenced 0 = false ∧ s.faultsDue = [] ∧ s.request = 0 ∧ s.mode ≠ .safetyNet ∧
      fi.val = s.mgr)) ∧ ((∃ (s : State) (a b : Party), s.rank a < s.rank b)) ∧ ((∃ (s : State) (a b : Party), s.rank a = s.rank b ∧ partyIndex a < partyIndex b)) :=
  ⟨⟨inMode .run, by decide⟩, ⟨inMode .run, 0, by decide⟩, ⟨inMode .run, .supervisor, .core 3, by decide⟩, ⟨inMode .run, .core 3, .core 31, by decide⟩⟩

set_option maxRecDepth 8000 in
/-- The premises of HaltWinsOverOtherRequests can be met. -/
theorem premises_HaltWinsOverOtherRequests :
    (∃ (v : Dword), v.getLsbD 2 = true) ∧ (∃ (v : Dword), v.getLsbD 2 = false ∧ v.getLsbD 1 = true) ∧ (∃ (s : State) (v : Dword), s.inService = true ∧ s.dirty = false ∧
      s.fenced 0 = false ∧ s.faultsDue = [] ∧ s.request = 0 ∧ v.toNat / 65536 % 65536 = 0xC1A0 ∧ v.getLsbD 2 = true) ∧ (∃ (s : State) (v : Dword), s.inService = true ∧
      s.dirty = false ∧ s.fenced 0 = false ∧ s.faultsDue = [] ∧ s.request = 0 ∧ v.toNat / 65536 % 65536 = 0xC1A0 ∧ v.getLsbD 2 = false ∧ v.getLsbD 1 = true) :=
  ⟨⟨0xC1A00007, by decide⟩, ⟨0xC1A00003, by decide⟩, ⟨inMode .run, 0xC1A00007, by decide⟩, ⟨inMode .rideThrough, 0xC1A00003, by decide⟩⟩

set_option maxRecDepth 8000 in
/-- The premises of CorrectableDriveErrors can be met. -/
theorem premises_CorrectableDriveErrors :
    (∃ (s : State) (d : Fin 8), s.dlState d = dlEnabled) :=
  ⟨driveAt dlEnabled, 7, by decide⟩

set_option maxRecDepth 8000 in
/-- The premises of FrameTimeAndPorts can be met. -/
theorem premises_FrameTimeAndPorts :
    ((∃ (i : Instr) (s t : State), (chapterOf i = 0 ∨ chapterOf i = 1 ∨ chapterOf i = 2 ∨ chapterOf i = 3) ∧ exec i s = .next t)) :=
  ⟨.vinBelowVvault, State.reset, _, by decide, rfl⟩

set_option maxRecDepth 8000 in
/-- The premises of FrameParserProgramsTables can be met. -/
theorem premises_FrameParserProgramsTables :
    ((∃ (i : Instr) (s t : State), (chapterOf i = 4 ∨ chapterOf i = 5 ∨ chapterOf i = 6 ∨ chapterOf i = 7) ∧ exec i s = .next t)) :=
  ⟨.drainTimeout, State.reset, _, by decide, rfl⟩

set_option maxRecDepth 8000 in
/-- The premises of FrameBufferSchedulerStitch can be met. -/
theorem premises_FrameBufferSchedulerStitch :
    ((∃ (i : Instr) (s t : State), (chapterOf i = 8 ∨ chapterOf i = 9 ∨ chapterOf i = 10 ∨ chapterOf i = 11) ∧ exec i s = .next t)) :=
  ⟨.timeExchange, State.reset, _, by decide, rfl⟩

set_option maxRecDepth 8000 in
/-- The premises of FrameHostsAndFunctions can be met. -/
theorem premises_FrameHostsAndFunctions :
    ((∃ (i : Instr) (s t : State), (chapterOf i = 12 ∨ chapterOf i = 13) ∧ exec i s = .next t)) :=
  ⟨.hostDlDown 0 0, State.reset, _, by decide, rfl⟩

set_option maxRecDepth 8000 in
/-- The premises of FrameRingsAndSequencers can be met. -/
theorem premises_FrameRingsAndSequencers :
    ((∃ (i : Instr) (s t : State), (chapterOf i = 14 ∨ chapterOf i = 15) ∧ exec i s = .next t)) :=
  ⟨.ucodeDrainTimeout, State.reset, _, by decide, rfl⟩

set_option maxRecDepth 8000 in
/-- The premises of FrameRemoteStorageCipher can be met. -/
theorem premises_FrameRemoteStorageCipher :
    ((∃ (i : Instr) (s t : State), (chapterOf i = 16 ∨ chapterOf i = 17 ∨ chapterOf i = 18) ∧ exec i s = .next t)) :=
  ⟨.groupAdmit, State.reset, _, by decide, rfl⟩

set_option maxRecDepth 8000 in
/-- The premises of FrameSupplyBootTrust can be met. -/
theorem premises_FrameSupplyBootTrust :
    ((∃ (i : Instr) (s t : State), (chapterOf i = 19 ∨ chapterOf i = 20 ∨ chapterOf i = 21) ∧ exec i s = .next t)) :=
  ⟨.runReady, State.reset, _, by decide, rfl⟩

set_option maxRecDepth 8000 in
/-- The premises of FrameFaultsEventsPackage can be met. -/
theorem premises_FrameFaultsEventsPackage :
    ((∃ (i : Instr) (s t : State), (chapterOf i = 22 ∨ chapterOf i = 23 ∨ chapterOf i = 24) ∧ exec i s = .next t)) :=
  ⟨.thermalTrip, State.reset, _, by decide, rfl⟩

set_option maxRecDepth 8000 in
/-- The premises of SagAndRecovery can be met. -/
theorem premises_SagAndRecovery :
    (∃ (s : State), s.mode = .run) ∧ (∃ (s : State), s.mode = .rideThrough ∧ s.dwelt = true) ∧ (∃ (s : State), s.mode = .rideThrough) ∧ (∃ (s : State), s.powered = true) :=
  ⟨⟨inMode .run, by decide⟩, ⟨((inMode .rideThrough).setFld F.AO_TB_NOW_NOW 0 100000000).withPkg { dwell := some 0 }, by decide⟩, ⟨inMode .rideThrough, by decide⟩,
    ⟨inMode .halt, by decide⟩⟩

set_option maxRecDepth 8000 in
/-- The premises of ExitsFromService can be met. -/
theorem premises_ExitsFromService :
    (∃ (s : State) (who : Party), s.inService = true ∧ s.dirty = false ∧ s.admits who 0 0 = true) ∧ (∃ (s : State) (who : Party), s.inService = true ∧ s.dirty = false ∧
      s.admits who 0 0 = true) ∧ (∃ (s : State) (who : Party), s.inService = true ∧ s.dirty = true ∧ s.admits who 0 0 = true) ∧ (∃ (s : State) (who : Party), s.inService
      = true ∧ s.dirty = true ∧ s.admits who 0 0 = true) ∧ (∃ (s : State) (who : Party), s.inService = true ∧ s.dirty = true ∧ s.admits who 0 0 = true) ∧ (∃ (s : State)
      (e : Nat × Nat), s.inService = true ∧ s.dirty = false ∧ e ∈ s.pkg.hot ∧ 2 ≤ e.2) ∧ (∃ (s : State), s.inService = true ∧ s.dirty = false) ∧ (∃ (s : State), s.mode =
      .vault) ∧ (∃ (s : State), s.inService = true ∧ s.dirty = true) ∧ (∃ (s : State), s.mode = .vault) :=
  ⟨⟨inMode .run, .supervisor, by decide⟩, ⟨inMode .rideThrough, .faultLogic, by decide⟩, ⟨oneVer (inMode .run) .cert, .supervisor, by decide⟩, ⟨oneVer (inMode .run)
    .uncert, .supervisor, by decide⟩, ⟨oneVer (inMode .rideThrough) .destagingCert, .supervisor, by decide⟩, ⟨(inMode .run).withPkg { hot := [(3, 2)] }, (3, 2), by
    decide⟩, ⟨inMode .run, by decide⟩, ⟨inMode .vault, by decide⟩, ⟨oneVer (inMode .run) .cert, by decide⟩, ⟨inMode .vault, by decide⟩⟩

set_option maxRecDepth 8000 in
/-- The premises of PowerBootAndRun can be met. -/
theorem premises_PowerBootAndRun :
    (∃ (s : State), s.powered = false ∧ s.bcfgUsed = none) ∧ (∃ (s : State), s.mode = .standby ∧ s.flag F.AO_SUP_STATUS_BELOW_VHOLD = false ∧ s.boot.strap = true ∧
      s.flag F.AO_PKG_LID_INTACT = true) ∧ (∃ (s : State), s.mode = .standby ∧ s.flag F.AO_SUP_STATUS_BELOW_VHOLD = false ∧ s.boot.strap = false ∧ s.flag
      F.AO_PKG_LID_INTACT = true) ∧ (∃ (s : State), s.admits .supervisor 0 7 = true) ∧ (∃ (s : State), s.runDue = true) ∧ (∃ (s : State), s.mode = .boot ∧ 2 ≤
      s.boot.fails ∧ s.fld F.AO_MODULE_STATE_TS_TS + 120000000000 ≤ s.now) ∧ (∃ (s : State), s.mode = .vault ∧ s.fld F.AO_MODULE_STATE_PENDING = ModState.halt.code ∧
      s.pkg.rstSeen = false) :=
  ⟨⟨State.reset, by decide⟩, ⟨((inMode .standby).withBoot { strap := true }).setFlag F.AO_PKG_LID_INTACT 0 true, by decide⟩, ⟨(inMode .standby).setFlag
    F.AO_PKG_LID_INTACT 0 true, by decide⟩, ⟨inMode .boot, by decide⟩, ⟨(inMode .boot).setFlag F.AO_BOOT_CTRL_READY 0 true, by decide⟩, ⟨((inMode .boot).withBoot
    { fails := 2 }).setFld F.AO_TB_NOW_NOW 0 120000000000, by decide⟩, ⟨(inMode .vault).setFld F.AO_MODULE_STATE_PENDING 0 7, by decide⟩⟩

set_option maxRecDepth 8000 in
/-- The premises of TimeBaseDiscipline can be met. -/
theorem premises_TimeBaseDiscipline :
    (∃ (s : State), s.powered = true ∧ s.fld F.AO_TB_CTRL_REF_SEL = 2 ∧ s.fld F.AO_TB_STATUS_REF_ACTIVE = 1) ∧ (∃ (s : State) (who : Party) (v : Word), s.admits who 0 1
      = true ∧ bits v.toNat 0 2 ≠ 3 ∧ s.fld F.AO_TB_CTRL_REF_SEL ≠ bits v.toNat 0 2) ∧ (∃ (s : State) (who : Party) (v : Word), s.admits who 0 1 = true ∧ bits v.toNat 0
      2 ≠ 3 ∧ s.fld F.AO_TB_CTRL_REF_SEL = bits v.toNat 0 2) ∧ (∃ (s : State) (who : Party) (v : Word), s.admits who 0 1 = true ∧ bits v.toNat 0 2 = 3) ∧ (∃ (s : State)
      (who : Party) (v : Dword), s.admits who 0 1 = true ∧ s.disciplines who = true ∧ 0 < v.toNat ∧ v.toNat < 2 ^ 63) ∧ (∃ (s : State) (who : Party) (v : Dword),
      s.admits who 0 1 = true ∧ s.disciplines who = true ∧ 2 ^ 64 - 100000000 ≤ v.toNat) ∧ (∃ (s : State) (who : Party) (v : Dword), s.admits who 0 1 = true ∧
      s.disciplines who = true ∧ 2 ^ 63 ≤ v.toNat ∧ v.toNat < 2 ^ 64 - 100000000) ∧ (∃ (s : State) (who : Party), s.admits who 0 1 = true ∧ s.disciplines who = true) ∧
      (∃ (s : State), s.flag F.AO_TB_STATUS_SLEWING = true) ∧ (∃ (s : State) (who : Party) (v : Word), s.admits who 0 1 = true ∧ s.manages who = true ∧ s.flag
      F.AO_TB_CTRL_SERVO_EN = false ∧ bits v.toNat 0 2 = 1 ∧ (s.fld F.AO_TB_STATUS_SYNC = 0 ∨ s.fld F.AO_TB_STATUS_SYNC = 3)) ∧ (∃ (s : State) (who : Party) (v : Word),
      s.admits who 0 1 = true ∧ s.manages who = true ∧ s.flag F.AO_TB_CTRL_SERVO_EN = false ∧ bits v.toNat 0 2 = 2 ∧ s.fld F.AO_TB_STATUS_SYNC = 1) ∧ (∃ (s : State) (who
      : Party) (v : Word), s.admits who 0 1 = true ∧ s.manages who = true ∧ s.flag F.AO_TB_CTRL_SERVO_EN = false ∧ bits v.toNat 0 2 = 2 ∧ s.fld F.AO_TB_STATUS_SYNC = 2)
      ∧ (∃ (s : State) (domain : Fin 256), s.powered = true ∧ s.flag F.AO_TB_CTRL_SERVO_EN = true ∧ s.timeSlave = false ∧ (s.ptpDomain domain).time.ptpDomains.head? =
      some domain.val ∧ (s.fld F.AO_TB_STATUS_SYNC = 0 ∨ s.fld F.AO_TB_STATUS_SYNC = 3)) ∧ (∃ (s : State), s.powered = true ∧ s.time.ptpDomains.length < 4) ∧ (∃ (s :
      State), s.flag F.AO_TB_CTRL_SERVO_EN = true ∧ s.timeSlave = false ∧ s.fld F.AO_TB_STATUS_SYNC = 1) ∧ (∃ (s : State), s.timeSlave = false ∧ s.fld
      F.AO_TB_STATUS_SYNC = 2) ∧ (∃ (s : State), s.powered = true ∧ (s.fld F.AO_TB_STATUS_SYNC = 0 ∨ s.fld F.AO_TB_STATUS_SYNC = 3)) ∧ (∃ (s : State), s.fld
      F.AO_TB_STATUS_SYNC = 3 ∧ 1000000 ≤ s.fld F.AO_TB_STATUS_ERR_EST) :=
  ⟨⟨((inMode .run).setFld F.AO_TB_CTRL_REF_SEL 0 2).setFld F.AO_TB_STATUS_REF_ACTIVE 0 1, by decide⟩, ⟨inMode .run, .supervisor, 0x12, by decide⟩, ⟨(inMode .run).setFld
    F.AO_TB_CTRL_REF_SEL 0 2, .supervisor, 0x12, by decide⟩, ⟨inMode .run, .supervisor, 3, by decide⟩, ⟨inMode .run, .supervisor, 1, by decide⟩, ⟨inMode .run,
    .supervisor, 0xFFFFFFFFFA0A1F00, by decide⟩, ⟨inMode .run, .supervisor, 0xFFFFFFFFFA0A1EFF, by decide⟩, ⟨(inMode .run).setFlag F.AO_TB_STATUS_SLEWING 0 true,
    .supervisor, by decide⟩, ⟨(inMode .run).setFlag F.AO_TB_STATUS_SLEWING 0 true, by decide⟩, ⟨(inMode .run).setFlag F.AO_TB_CTRL_SERVO_EN 0 false, .fn 0, 0x64001, by
    decide⟩, ⟨((inMode .run).setFlag F.AO_TB_CTRL_SERVO_EN 0 false).setFld F.AO_TB_STATUS_SYNC 0 1, .fn 0, 0x64002, by decide⟩, ⟨((inMode .run).setFlag
    F.AO_TB_CTRL_SERVO_EN 0 false).setFld F.AO_TB_STATUS_SYNC 0 2, .fn 0, 0x64002, by decide⟩, ⟨(inMode .run).setFld F.AO_TB_STATUS_SYNC 0 3, 255, by decide⟩, ⟨inMode
    .run, by decide⟩, ⟨(inMode .run).setFld F.AO_TB_STATUS_SYNC 0 1, by decide⟩, ⟨(inMode .run).setFld F.AO_TB_STATUS_SYNC 0 2, by decide⟩, ⟨(inMode .run).setFld
    F.AO_TB_STATUS_ERR_EST 0 0xFFFFF, by decide⟩, ⟨((inMode .run).setFld F.AO_TB_STATUS_SYNC 0 3).setFld F.AO_TB_STATUS_ERR_EST 0 1000000, by decide⟩⟩

set_option maxRecDepth 8000 in
/-- The premises of PpsGatingAndLandingBuffers can be met. -/
theorem premises_PpsGatingAndLandingBuffers :
    (∃ (s : State), s.powered = true ∧ s.flag F.AO_PPS_CTRL_OUT_EN = true) ∧ (∃ (s : State) (rising : Bool), s.powered = true ∧ s.flag F.AO_PPS_CTRL_IN_EN = true ∧
      rising ≠ s.flag F.AO_PPS_CTRL_IN_POL) ∧ (∃ (s : State), s.powered = true ∧ s.flag F.AO_PPS_CTRL_IN_EN = true) ∧ (∃ (s : State) (d : Fin 96), s.inService = true ∧
      (s.fld F.AO_WAKE_STATUS_POWER d = 0 ∨ s.fld F.AO_WAKE_STATUS_POWER d = 2) ∧ s.forcedOff d = false) ∧ (∃ (s : State) (d : Fin 96), s.inService = true ∧ s.forcedOff
      d = true) ∧ (∃ (s : State) (d : Fin 96), s.fld F.AO_WAKE_STATUS_POWER d = 1) ∧ (∃ (s : State) (d : Fin 96), s.inService = true ∧ s.fld F.AO_WAKE_STATUS_POWER d = 3
      ∧ s.fld F.AO_WAKE_POLICY_MODE d = 2 ∧ s.pinned d = false) ∧ (∃ (s : State) (d : Fin 96), s.inService = true ∧ s.fld F.AO_WAKE_STATUS_POWER d = 3 ∧ s.fld
      F.AO_WAKE_POLICY_MODE d = 0 ∧ s.pinned d = false ∧ (d.val < 44 ∨ 60 ≤ d.val)) ∧ (∃ (s : State) (lp : Fin 512), s.inService = true ∧ ((s.operList lp).isSome ||
      (s.flag F.FX_TM_GATE_CFG_PEND lp && s.flag F.FX_TM_GATE_CFG_ADMIN_EN lp)) = true ∧ s.windows.contains lp.val = false) ∧ (∃ (s : State) (who : Party) (port : Fin
      128) (v : Word), s.admits who (1 + port.val / 32) 1 = true ∧ bits v.toNat 0 9 ≤ s.fld F.PA_MAC_LB_CFG_SIZE port) ∧ (∃ (s : State) (who : Party) (port : Fin 128) (v
      : Word), s.admits who (1 + port.val / 32) 1 = true ∧ s.fld F.PA_MAC_LB_CFG_SIZE port < bits v.toNat 0 9 ∧ 256 < (List.range 32).foldl (fun a p => a + s.fld
      F.PA_MAC_LB_CFG_SIZE (port.val / 32 * 32 + p)) 0 - s.fld F.PA_MAC_LB_CFG_SIZE port + bits v.toNat 0 9) ∧ (∃ (s : State) (port : Fin 128), (s.lbHeld port).isEmpty =
      true) :=
  ⟨⟨(inMode .run).setFlag F.AO_PPS_CTRL_OUT_EN 0 true, by decide⟩, ⟨(inMode .run).setFlag F.AO_PPS_CTRL_IN_EN 0 true, true, by decide⟩, ⟨(inMode .run).setFlag
    F.AO_PPS_CTRL_IN_EN 0 true, by decide⟩, ⟨(inMode .run).setFld F.AO_WAKE_STATUS_POWER 95 0, 95, by decide⟩, ⟨((inMode .run).setFld F.AO_WAKE_STATUS_POWER 95
    0).setFlag F.AO_PD_CTRL_FORCE_OFF 95 true, 95, by decide⟩, ⟨(inMode .run).setFld F.AO_WAKE_STATUS_POWER 0 1, 0, by decide⟩, ⟨(inMode .run).setFld
    F.AO_WAKE_POLICY_MODE 64 2, 64, by decide⟩, ⟨inMode .run, 76, by decide⟩, ⟨gateRun, 0, by decide⟩, ⟨inMode .run, .supervisor, 127, 0x10000, by decide⟩, ⟨inMode .run,
    .supervisor, 32, 9, by decide⟩, ⟨inMode .run, 5, by decide⟩⟩

set_option maxRecDepth 8000 in
/-- The premises of PortConfiguration can be met. -/
theorem premises_PortConfiguration :
    (∃ (s : State) (who : Party) (port : Fin 128) (v : Word), s.admits who (1 + port.val / 32) 1 = true ∧ bits v.toNat 0 2 ≠ 3 ∧ (bit v.toNat 3 = true → 120 ≤ port.val)
      ∧ (bits v.toNat 0 2 ≠ s.fld F.PA_MAC_PORT_CFG_BREAKOUT port → ∀ k ∈ [0, 1, 2, 3], if subInUse (bits v.toNat 0 2) k then subAllowed (bits v.toNat 0 2) (s.fld
      F.PA_MAC_SUBPORT_CFG_SPEED (4 * port.val + k)) (s.fld F.PA_MAC_SUBPORT_CFG_FEC (4 * port.val + k)) = true else s.flag F.PA_MAC_SUBPORT_CFG_EN (4 * port.val + k) =
      false)) ∧ (∃ (s : State) (who : Party) (port : Fin 128) (v : Word), s.admits who (1 + port.val / 32) 1 = true ∧ bits v.toNat 0 2 ≠ 3 ∧ bit v.toNat 3 = true ∧
      port.val < 120) ∧ (∃ (s : State) (who : Party) (port : Fin 128) (v : Word) (k : Fin 4), s.admits who (1 + port.val / 32) 1 = true ∧ bits v.toNat 0 2 ≠ 3 ∧ bits
      v.toNat 0 2 ≠ s.fld F.PA_MAC_PORT_CFG_BREAKOUT port ∧ (if subInUse (bits v.toNat 0 2) k then subAllowed (bits v.toNat 0 2) (s.fld F.PA_MAC_SUBPORT_CFG_SPEED (4 *
      port.val + k)) (s.fld F.PA_MAC_SUBPORT_CFG_FEC (4 * port.val + k)) = false else s.flag F.PA_MAC_SUBPORT_CFG_EN (4 * port.val + k) = true)) ∧ (∃ (s : State) (who :
      Party) (port : Fin 128) (v : Word), s.admits who (1 + port.val / 32) 1 = true ∧ bits v.toNat 0 2 = 3) ∧ (∃ (s : State) (who : Party) (lp : Fin 512) (v : Word),
      s.admits who (regionOfLp lp) 1 = true ∧ (subInUse (s.fld F.PA_MAC_PORT_CFG_BREAKOUT (lp.val / 4)) (lp.val % 4) = true → subAllowed (s.fld
      F.PA_MAC_PORT_CFG_BREAKOUT (lp.val / 4)) (bits v.toNat 0 4) (bits v.toNat 8 4) = true) ∧ (bit v.toNat 31 = true → subInUse (s.fld F.PA_MAC_PORT_CFG_BREAKOUT
      (lp.val / 4)) (lp.val % 4) = true) ∧ (bit v.toNat 31 = true → s.forcedOff (11 * (lp.val / 128) + lp.val % 128 / 16) = false)) ∧ (∃ (s : State) (who : Party) (lp :
      Fin 512) (v : Word), s.admits who (regionOfLp lp) 1 = true ∧ (subInUse (s.fld F.PA_MAC_PORT_CFG_BREAKOUT (lp.val / 4)) (lp.val % 4) && !subAllowed (s.fld
      F.PA_MAC_PORT_CFG_BREAKOUT (lp.val / 4)) (bits v.toNat 0 4) (bits v.toNat 8 4) || bit v.toNat 31 && !subInUse (s.fld F.PA_MAC_PORT_CFG_BREAKOUT (lp.val / 4))
      (lp.val % 4)) = true) ∧ (∃ (s : State) (who : Party) (lp : Fin 512) (v : Word), s.admits who (regionOfLp lp) 1 = true ∧ bit v.toNat 31 = true ∧ subInUse (s.fld
      F.PA_MAC_PORT_CFG_BREAKOUT (lp.val / 4)) (lp.val % 4) = true ∧ subAllowed (s.fld F.PA_MAC_PORT_CFG_BREAKOUT (lp.val / 4)) (bits v.toNat 0 4) (bits v.toNat 8 4) =
      true ∧ s.forcedOff (11 * (lp.val / 128) + lp.val % 128 / 16) = true) :=
  ⟨⟨inMode .run, .supervisor, 120, 8, by decide⟩, ⟨inMode .run, .supervisor, 119, 8, by decide⟩, ⟨(inMode .run).setFlag F.PA_MAC_SUBPORT_CFG_EN 3 true, .supervisor, 0,
    1, 3, by decide⟩, ⟨inMode .run, .supervisor, 0, 3, by decide⟩, ⟨inMode .run, .supervisor, 148, 0xC17C8F00, by decide⟩, ⟨inMode .run, .supervisor, 1, 0xC17C8F00, by
    decide⟩, ⟨(inMode .run).setFlag F.AO_PD_CTRL_FORCE_OFF 0 true, .supervisor, 0, 0xC17C8F00, by decide⟩⟩

set_option maxRecDepth 8000 in
/-- The premises of LinkStateMachine can be met. -/
theorem premises_LinkStateMachine :
    (∃ (s : State) (lp : Fin 512) (speed : Fin 7) (fec : Fin 4), s.inService = true ∧ s.fenced (regionOfLp lp) = false ∧ s.linkState lp = 1 ∧ subAllowed (s.portMode
      (lp.val / 4)) speed fec = true) ∧ (∃ (s : State) (lp : Fin 512), s.inService = true ∧ s.fenced (regionOfLp lp) = false ∧ s.linkState lp = 1) ∧ (∃ (s : State) (lane
      : Fin 512), s.inService = true ∧ s.fenced (regionOfLp (s.laneLp lane)) = false ∧ s.linkState (s.laneLp lane) = 2) ∧ (∃ (s : State) (lp : Fin 512), s.inService =
      true ∧ s.fenced (regionOfLp lp) = false ∧ s.linkState lp = 2) ∧ (∃ (s : State) (lane : Fin 512), s.inService = true ∧ s.fenced (regionOfLp (s.laneLp lane)) = false
      ∧ s.linkState (s.laneLp lane) = 2 ∧ Map.get false lane s.mac.trainSeen = true) ∧ (∃ (s : State) (lane : Fin 512), s.inService = true ∧ s.fenced (regionOfLp
      (s.laneLp lane)) = false ∧ s.linkState (s.laneLp lane) = 2 ∧ Map.get false lane s.mac.trainSeen = false) ∧ (∃ (s : State) (lp : Fin 512), s.inService = true ∧
      s.fenced (regionOfLp lp) = false ∧ s.linkState lp = 3) ∧ (∃ (s : State) (lp : Fin 512), s.inService = true ∧ s.fenced (regionOfLp lp) = false ∧ s.linkState lp = 3)
      ∧ (∃ (s : State) (lp : Fin 512), s.inService = true ∧ s.fenced (regionOfLp lp) = false ∧ s.linkState lp = 4) ∧ (∃ (s : State) (lp : Fin 512), s.inService = true ∧
      s.fenced (regionOfLp lp) = false ∧ s.linkState lp = 5) ∧ (∃ (s : State) (lp : Fin 512), s.inService = true ∧ s.fenced (regionOfLp lp) = false ∧ s.linkState lp = 4)
      ∧ (∃ (s : State) (lp : Fin 512), s.inService = true ∧ s.fenced (regionOfLp lp) = false ∧ s.linkState lp = 5) :=
  ⟨⟨(inMode .run).setFld F.PA_MAC_LINK_STATUS_STATE 0 1, 0, 0, 3, by decide⟩, ⟨(inMode .run).setFld F.PA_MAC_LINK_STATUS_STATE 511 1, 511, by decide⟩, ⟨(inMode
    .run).setFld F.PA_MAC_LINK_STATUS_STATE 0 2, 3, by decide⟩, ⟨(inMode .run).setFld F.PA_MAC_LINK_STATUS_STATE 0 2, 0, by decide⟩, ⟨((inMode .run).setFld
    F.PA_MAC_LINK_STATUS_STATE 0 2).withMac { trainSeen := [(1, true)] }, 1, by decide⟩, ⟨(inMode .run).setFld F.PA_MAC_LINK_STATUS_STATE 508 2, 511, by decide⟩,
    ⟨(inMode .rideThrough).setFld F.PA_MAC_LINK_STATUS_STATE 148 3, 148, by decide⟩, ⟨(inMode .run).setFld F.PA_MAC_LINK_STATUS_STATE 0 3, 0, by decide⟩, ⟨(inMode
    .run).setFld F.PA_MAC_LINK_STATUS_STATE 0 4, 0, by decide⟩, ⟨(inMode .run).setFld F.PA_MAC_LINK_STATUS_STATE 0 5, 0, by decide⟩, ⟨(inMode .run).setFld
    F.PA_MAC_LINK_STATUS_STATE 0 4, 0, by decide⟩, ⟨(inMode .run).setFld F.PA_MAC_LINK_STATUS_STATE 0 5, 0, by decide⟩⟩

set_option maxRecDepth 8000 in
/-- The premises of FramesFromTheLineMacsecAndLpi can be met. -/
theorem premises_FramesFromTheLineMacsecAndLpi :
    (∃ (s : State) (lp : Fin 512) (f : WireFrame), s.inService = true ∧ s.fenced (regionOfLp lp) = false ∧ s.linkState lp = 4 ∧ s.isStitch lp = false ∧ s.flag
      F.PA_MAC_SUBPORT_CFG_MACSEC_EN lp = false ∧ (f.fcsOk && !f.framing && !f.codeErr && !f.fecBad) = true ∧ 60 ≤ f.bytes.length ∧ f.bytes.length + 4 ≤ s.maxFrame lp ∧
      etherType f.bytes ≠ 0x8808 ∧ (s.lbHeld (lp.val / 4)).foldl (fun a g => a + lbBytes g) 0 + (f.bytes.length + 19) / 16 * 16 ≤ s.lbSize (lp.val / 4) * 4096) ∧ (∃ (s :
      State) (lp : Fin 512) (f : WireFrame), s.inService = true ∧ s.fenced (regionOfLp lp) = false ∧ s.linkState lp = 4 ∧ s.isStitch lp = false ∧ s.flag
      F.PA_MAC_SUBPORT_CFG_MACSEC_EN lp = false ∧ (f.fcsOk && !f.framing && !f.codeErr && !f.fecBad) = true ∧ 60 ≤ f.bytes.length ∧ f.bytes.length + 4 ≤ s.maxFrame lp ∧
      etherType f.bytes ≠ 0x8808 ∧ s.lbSize (lp.val / 4) * 4096 < (s.lbHeld (lp.val / 4)).foldl (fun a g => a + lbBytes g) 0 + (f.bytes.length + 19) / 16 * 16) ∧ (∃ (s :
      State) (lp : Fin 512) (f : WireFrame), s.inService = true ∧ s.fenced (regionOfLp lp) = false ∧ s.linkState lp = 4 ∧ (!f.fcsOk && !f.framing && !f.codeErr &&
      !f.fecBad && !s.cutGrant lp f) = true ∧ f.bytes.length + 4 ≤ s.maxFrame lp) ∧ (∃ (s : State) (region : Fin 4) (v : Word), s.powered = true ∧ s.fenced (region.val +
      1) = false ∧ bits v.toNat 30 2 = 1 ∧ Map.get 0 region s.mac.saCmd = 0) ∧ (∃ (s : State) (region : Fin 4) (v : Word), s.powered = true ∧ s.fenced (region.val + 1) =
      false ∧ bits v.toNat 30 2 = 1 ∧ Map.get 0 region s.mac.saCmd ≠ 0) ∧ (∃ (s : State) (region : Fin 4) (v : Word), s.powered = true ∧ s.fenced (region.val + 1) =
      false ∧ bits v.toNat 30 2 = 2 ∧ Map.get 0 region s.mac.saCmd = 0) ∧ (∃ (s : State) (region : Fin 4) (v : Word), s.powered = true ∧ s.fenced (region.val + 1) =
      false ∧ bits v.toNat 30 2 = 2 ∧ Map.get 0 region s.mac.saCmd ≠ 0) ∧ (∃ (s : State) (region : Fin 4) (v : Nat), Map.get 0 region s.mac.saCmd = v + 1 ∧ bits v 30 2 =
      1 ∧ (bit v 29 = true → bits v 20 4 < 4) ∧ (s.findSa (32 * region.val + bits v 24 5) (bit v 29) (bits v 20 4) (bits v 18 2)).map (·.inUse) ≠ some true) ∧ (∃ (s :
      State) (region : Fin 4) (v : Nat), Map.get 0 region s.mac.saCmd = v + 1 ∧ bits v 30 2 = 2 ∧ (bit v 29 = true → bits v 20 4 < 4) ∧ (s.findSa (32 * region.val + bits
      v 24 5) (bit v 29) (bits v 20 4) (bits v 18 2)).map (·.inUse) ≠ some true) ∧ (∃ (s : State) (region : Fin 4) (v : Nat), Map.get 0 region s.mac.saCmd = v + 1 ∧ (bit
      v 29 = true → bits v 20 4 < 4) ∧ (s.findSa (32 * region.val + bits v 24 5) (bit v 29) (bits v 20 4) (bits v 18 2)).map (·.inUse) = some true) ∧ (∃ (s : State)
      (region : Fin 4) (v : Nat), Map.get 0 region s.mac.saCmd = v + 1 ∧ bit v 29 = true ∧ 4 ≤ bits v 20 4) ∧ (∃ (s : State) (lp : Fin 512) (an : Fin 4) (a : Sa),
      s.findSa (lp.val / 4) true (lp.val % 4) an = some a ∧ a.told = false ∧ pnThreshold a.suite ≤ a.pn) ∧ (∃ (s : State) (lp : Fin 512), s.inService = true ∧ s.fenced
      (regionOfLp lp) = false ∧ s.linkState lp = 4 ∧ s.lpiReady lp = true) ∧ (∃ (s : State) (lp : Fin 512), s.inService = true ∧ s.fenced (regionOfLp lp) = false ∧
      s.linkState lp = 4 ∧ Map.get false lp s.mac.lpiRes = true ∧ s.flag F.PA_MAC_LINK_STATUS_RX_LPI lp = false) ∧ (∃ (s : State) (lp : Fin 512), s.inService = true ∧
      s.fenced (regionOfLp lp) = false ∧ s.linkState lp = 4 ∧ s.flag F.PA_MAC_LINK_STATUS_TX_LPI lp = true) ∧ (∃ (s : State) (lp : Fin 512), s.inService = true ∧
      s.fenced (regionOfLp lp) = false ∧ s.linkState lp = 4 ∧ s.flag F.PA_MAC_LINK_STATUS_RX_LPI lp = true) :=
  ⟨⟨(inMode .run).setFld F.PA_MAC_LINK_STATUS_STATE 0 4, 0, wireFrame 60 true, by decide⟩, ⟨((inMode .run).setFld F.PA_MAC_LINK_STATUS_STATE 0 4).setFld
    F.PA_MAC_LB_CFG_SIZE 0 0, 0, wireFrame 60 true, by decide⟩, ⟨(inMode .run).setFld F.PA_MAC_LINK_STATUS_STATE 0 4, 0, wireFrame 60 false, by decide⟩, ⟨inMode .run, 3,
    0x40000000, by decide⟩, ⟨(inMode .run).withMac { saCmd := [(3, 5)] }, 3, 0x40000000, by decide⟩, ⟨inMode .run, 0, 0x80000000, by decide⟩, ⟨(inMode .run).withMac
    { saCmd := [(0, 5)] }, 0, 0x80000000, by decide⟩, ⟨(inMode .run).withMac { saCmd := [(3, 0x7F000002)] }, 3, 0x7F000001, by decide⟩, ⟨(inMode .run).withMac
    { saCmd := [(0, 0x80000001)] }, 0, 0x80000000, by decide⟩, ⟨(inMode .run).withMac { saCmd := [(0, 0x60180001)], sas := [oneSa] }, 0, 0x60180000, by decide⟩, ⟨(inMode
    .run).withMac { saCmd := [(0, 0x60F80001)] }, 0, 0x60F80000, by decide⟩, ⟨(inMode .run).withMac { sas := [oneSa] }, 1, 2, oneSa, by decide⟩, ⟨((((inMode .run).setFld
    F.PA_MAC_LINK_STATUS_STATE 1 4).setFld F.PA_MAC_SUBPORT_CFG_LPI_EN 1 1).setFld F.PA_MAC_LINK_STATUS_SPEED_RES 1 4).withMac { lpiRes := [(1, true)] }, 1, by decide⟩,
    ⟨((inMode .run).setFld F.PA_MAC_LINK_STATUS_STATE 1 4).withMac { lpiRes := [(1, true)] }, 1, by decide⟩, ⟨((inMode .run).setFld F.PA_MAC_LINK_STATUS_STATE 1
    4).setFld F.PA_MAC_LINK_STATUS_TX_LPI 1 1, 1, by decide⟩, ⟨((inMode .run).setFld F.PA_MAC_LINK_STATUS_STATE 1 4).setFld F.PA_MAC_LINK_STATUS_RX_LPI 1 1, 1, by
    decide⟩⟩

set_option maxRecDepth 8000 in
/-- The premises of GrantsProfilesAndCounters can be met. -/
theorem premises_GrantsProfilesAndCounters :
    (∃ (s : State) (pipe : Fin 32) (ecc : List EccHit) (port : Nat) (g : LbFrame) (rest : List LbFrame), s.inService = true ∧ s.fenced (pipe.val / 8 + 1) = false ∧
      s.fenced 5 = false ∧ (∀ e ∈ ecc, e.kind ≠ .uncorrectable) ∧ s.awake (halfDomain (pipe.val / 8 + 1) (pipe.val % 8)) = true ∧ s.grantPort pipe = some port ∧ s.lbHeld
      port = g :: rest ∧ s.faultsDue = [] ∧ s.request = 0) ∧ (∃ (s : State) (pipe : Fin 32) (ecc : List EccHit) (g : LbFrame) (rest : List LbFrame), s.inService = true ∧
      s.fenced (pipe.val / 8 + 1) = false ∧ s.fenced 5 = false ∧ (∀ e ∈ ecc, e.kind ≠ .uncorrectable) ∧ s.awake (halfDomain (pipe.val / 8 + 1) (pipe.val % 8)) = true ∧
      s.forcedOff (halfDomain (pipe.val / 8 + 1) (pipe.val % 8)) = false ∧ s.lbHeld (128 + (pipe.val / 8 + 1)) = g :: rest ∧ (Map.get [] pipe s.fx.mainq).length < 64 ∧
      s.faultsDue = [] ∧ s.request = 0) ∧ (∃ (s : State) (who : Party) (region : Fin 4), s.admits who (1 + region.val) 2 true = true) ∧ (∃ (s : State) (who : Party)
      (region : Fin 4) (meter : Fin 16384), s.admits who (1 + region.val) 5 = true ∧
      (match Map.get 0 (4 * (16384 * region.val + meter.val) + 0) s.tm.meterHeld with | 0 => s.fld F.PA_MTR_CFG_CIR (16384 * region.val + meter.val) | a + 1 => a) % 2 ^
      19 ≤ (match Map.get 0 (4 * (16384 * region.val + meter.val) + 1) s.tm.meterHeld with | 0 => s.fld F.PA_MTR_CFG_PIR (16384 * region.val + meter.val) | a + 1 => a) %
      2 ^ 19) ∧ (∃ (s : State) (who : Party) (region : Fin 4) (meter : Fin 16384), s.admits who (1 + region.val) 5 = true ∧
      (match Map.get 0 (4 * (16384 * region.val + meter.val) + 1) s.tm.meterHeld with | 0 => s.fld F.PA_MTR_CFG_PIR (16384 * region.val + meter.val) | a + 1 => a) % 2 ^
      19 < (match Map.get 0 (4 * (16384 * region.val + meter.val) + 0) s.tm.meterHeld with | 0 => s.fld F.PA_MTR_CFG_CIR (16384 * region.val + meter.val) | a + 1 => a) %
      2 ^ 19) ∧ (∃ (s : State) (who : Party) (region : Fin 4), s.admits who (1 + region.val) 4 true = true) ∧ (∃ (s : State) (region : Fin 4) (ch : Fin 4) (n : Nat),
      Map.get 0 (4 * region.val + ch.val) s.tm.latches = n + 1) :=
  ⟨⟨(inMode .run).withMac { lb := [(5, [lbFrame])] }, 1, [], 5, lbFrame, [], by decide⟩, ⟨(inMode .run).withMac { lb := [(132, [lbFrame])] }, 31, [], lbFrame, [], by
    decide⟩, ⟨(inMode .run).withTm { xprofHeld := [(1020, 0x30005)] }, .core 0, 3, by decide⟩, ⟨(inMode .run).withTm { meterHeld := [(0, 6), (1, 6), (2, 1)] },
    .supervisor, 0, 0, by decide⟩, ⟨(inMode .run).withTm { meterHeld := [(0, 7), (1, 6)] }, .supervisor, 0, 0, by decide⟩, ⟨inMode .run, .core 31, 3, by decide⟩,
    ⟨(inMode .run).withTm { latches := [(5, 8)], counters := [(131079, (3, 200))] }, 1, 1, 7, by decide⟩⟩

set_option maxRecDepth 8000 in
/-- The premises of ProgramLoadsAndSwaps can be met. -/
theorem premises_ProgramLoadsAndSwaps :
    (∃ (s : State) (who : Party) (pages : Fin 8192), s.admits who 0 3 = true ∧ s.fld F.AO_PROG_STATUS_STATE = 0 ∧ s.mode = .run ∧ pages.val ≠ 0 ∧ pages.val ≤ 4096) ∧ (∃
      (s : State) (who : Party) (pages : Fin 8192), s.admits who 0 3 = true ∧ s.fld F.AO_PROG_STATUS_STATE = 0 ∧ s.mode = .run ∧ (pages.val = 0 ∨ 4096 < pages.val)) ∧ (∃
      (s : State) (who : Party), s.admits who 0 3 = true ∧ s.fld F.AO_PROG_STATUS_STATE ≠ 0) ∧ (∃ (s : State) (who : Party), s.admits who 0 3 = true ∧ s.fld
      F.AO_PROG_STATUS_STATE = 0 ∧ s.mode ≠ .run) ∧ (∃ (s : State) (who : Party) (pages : Fin 8192), s.admits who 0 3 = true ∧ s.fld F.AO_PROG_STATUS_STATE = 0 ∧ s.mode
      = .run ∧ pages.val ≠ 0 ∧ pages.val ≤ 4096) ∧ (∃ (s : State) (who : Party) (pages : Fin 8192), s.admits who 0 3 = true ∧ s.fld F.AO_PROG_STATUS_STATE = 0 ∧ s.mode =
      .run ∧ (pages.val = 0 ∨ 4096 < pages.val)) ∧ (∃ (s : State) (who : Party), s.admits who 0 3 = true ∧ s.fld F.AO_PROG_STATUS_STATE ≠ 0) ∧ (∃ (s : State) (who :
      Party), s.admits who 0 3 = true ∧ s.fld F.AO_PROG_STATUS_STATE = 0 ∧ s.mode ≠ .run) ∧ (∃ (s : State) (who : Party) (l : Load), s.admits who 0 3 = true ∧
      s.prog.load = some l ∧ l.go = false ∧ s.fld F.AO_PROG_STATUS_STATE = 3 ∧ s.mode = .run) ∧ (∃ (s : State) (who : Party), s.admits who 0 3 = true ∧ 1 ≤ s.fld
      F.AO_PROG_STATUS_STATE ∧ s.fld F.AO_PROG_STATUS_STATE ≤ 3) ∧ (∃ (s : State) (who : Party), s.admits who 0 3 = true ∧ 4 ≤ s.fld F.AO_PROG_STATUS_STATE) ∧ (∃ (s :
      State) (l : Load), s.prog.load = some l ∧ l.go = true ∧ 2 ≤ s.fld F.AO_PROG_STATUS_STATE ∧ s.fld F.AO_PROG_STATUS_STATE ≤ 4 ∧ s.fld F.AO_PROG_TSWAP_TSWAP ≤ s.now ∧
      l.pipes.Nodup) ∧ (∃ (s : State) (pipe : Fin 64), s.flag F.PA_LVC_PROG_STATUS_OLD_BUSY pipe = true ∧ s.oldBankIdle pipe = true) ∧ (∃ (s : State) (l : Load),
      s.prog.load = some l ∧ l.linked = true ∧ s.fld F.AO_PROG_STATUS_STATE = 5) ∧ ((∃ (s : State) (l : Load), s.prog.load = some l ∧ s.fld F.AO_PROG_STATUS_STATE = 1)) :=
  ⟨⟨inMode .run, .supervisor, 1, by decide⟩, ⟨inMode .run, .supervisor, 4097, by decide⟩, ⟨(inMode .run).setFld F.AO_PROG_STATUS_STATE 0 5, .supervisor, by decide⟩,
    ⟨inMode .rideThrough, .supervisor, by decide⟩, ⟨inMode .run, .supervisor, 1, by decide⟩, ⟨inMode .run, .supervisor, 4097, by decide⟩, ⟨(inMode .run).setFld
    F.AO_PROG_STATUS_STATE 0 5, .supervisor, by decide⟩, ⟨inMode .rideThrough, .supervisor, by decide⟩, ⟨((inMode .run).withProg { load := some (oneLoad false) }).setFld
    F.AO_PROG_STATUS_STATE 0 3, .supervisor, oneLoad false, by decide⟩, ⟨(inMode .run).setFld F.AO_PROG_STATUS_STATE 0 3, .supervisor, by decide⟩, ⟨(inMode .run).setFld
    F.AO_PROG_STATUS_STATE 0 4, .supervisor, by decide⟩, ⟨((inMode .run).withProg { load := some (oneLoad true) }).setFld F.AO_PROG_STATUS_STATE 0 2, oneLoad true, by
    decide⟩, ⟨(inMode .run).setFlag F.PA_LVC_PROG_STATUS_OLD_BUSY 63 true, 63, by decide⟩, ⟨((inMode .run).withProg
    { load := some { oneLoad true with linked := true } }).setFld F.AO_PROG_STATUS_STATE 0 5, { oneLoad true with linked := true }, by decide⟩, ⟨((inMode .run).withProg
    { load := some (oneLoad false) }).setFld F.AO_PROG_STATUS_STATE 0 1, oneLoad false, by decide⟩⟩

set_option maxRecDepth 8000 in
/-- The premises of TableDefinitionsAndChannels can be met. -/
theorem premises_TableDefinitionsAndChannels :
    (∃ (s : State) (who : Party) (table : Fin 64) (v : Word), s.admits who 5 6 true = true ∧ (keyWidth (bits v.toNat 28 2) (bits v.toNat 24 4)).isSome = true ∧ s.entries
      table = [] ∧ s.tblBound table = false ∧ (bit v.toNat 31 = true → s.poolUsed (bits v.toNat 28 2) table + sizeOf' (bits v.toNat 28 2) (bits v.toNat 24 4) (bits
      v.toNat 0 21) * entryCost (bits v.toNat 28 2) (bits v.toNat 24 4) ≤ poolUnits (bits v.toNat 28 2)) ∧ sizeAllowed (bits v.toNat 28 2) (bits v.toNat 0 21) = true) ∧
      (∃ (s : State) (who : Party) (table : Fin 64) (v : Word), s.admits who 5 6 true = true ∧ (keyWidth (bits v.toNat 28 2) (bits v.toNat 24 4)).isSome = true ∧
      (s.entries table ≠ [] ∨ s.tblBound table = true ∨ sizeAllowed (bits v.toNat 28 2) (bits v.toNat 0 21) = false ∨ bit v.toNat 31 = true ∧ poolUnits (bits v.toNat 28
      2) < s.poolUsed (bits v.toNat 28 2) table + sizeOf' (bits v.toNat 28 2) (bits v.toNat 24 4) (bits v.toNat 0 21) * entryCost (bits v.toNat 28 2) (bits v.toNat 24
      4))) ∧ (∃ (s : State) (who : Party) (v : Word), s.admits who 5 6 true = true ∧ keyWidth (bits v.toNat 28 2) (bits v.toNat 24 4) = none) ∧ (∃ (s : State) (who :
      Party), s.admits who 5 6 true = true) ∧ (∃ (s : State) (who : Party), s.admits who 5 6 true = true) ∧ (∃ (s : State) (who : Party), s.admits who 5 6 true = true) ∧
      (∃ (s : State) (who : Party), s.admits who 5 6 true = true) ∧ (∃ (s : State) (ch : Fin 4), s.flag F.FX_TBE_RESULT_BUSY ch = false) ∧ (∃ (s : State) (ch : Fin 4),
      s.flag F.FX_TBE_RESULT_BUSY ch = true) ∧ (∃ (s : State) (ch : Fin 4), s.flag F.FX_TBE_RESULT_BUSY ch = false) ∧ (∃ (s : State) (ch : Fin 4), s.flag
      F.FX_TBE_RESULT_BUSY ch = true) ∧ (∃ (s : State) (ch : Fin 4), s.flag F.FX_TBE_RESULT_BUSY ch = false) ∧ (∃ (s : State) (ch : Fin 4), s.flag F.FX_TBE_RESULT_BUSY
      ch = true) ∧ (∃ (s : State) (ch : Fin 4), s.flag F.FX_TBE_RESULT_BUSY ch = false) ∧ (∃ (s : State) (ch : Fin 4), s.flag F.FX_TBE_RESULT_BUSY ch = true) ∧ (∃ (s :
      State) (ch : Fin 4), s.flag F.FX_TBE_RESULT_BUSY ch = false) ∧ (∃ (s : State) (ch : Fin 4), s.flag F.FX_TBE_RESULT_BUSY ch = true) ∧ (∃ (s : State) (ch : Fin 4),
      s.flag F.FX_TBE_RESULT_BUSY ch = false) ∧ (∃ (s : State) (ch : Fin 4), s.flag F.FX_TBE_RESULT_BUSY ch = true) :=
  ⟨⟨inMode .run, .supervisor, 63, 0x81001000, by decide⟩, ⟨oneEntry, .core 31, 3, 0x1000, by decide⟩, ⟨inMode .run, .core 31, 0x98001000, by decide⟩, ⟨inMode .run, .core
    0, by decide⟩, ⟨inMode .run, .core 0, by decide⟩, ⟨inMode .run, .core 0, by decide⟩, ⟨inMode .run, .core 0, by decide⟩, ⟨inMode .run, 0, by decide⟩, ⟨(inMode
    .run).setFlag F.FX_TBE_RESULT_BUSY 0 true, 0, by decide⟩, ⟨inMode .run, 1, by decide⟩, ⟨(inMode .run).setFlag F.FX_TBE_RESULT_BUSY 1 true, 1, by decide⟩, ⟨inMode
    .run, 2, by decide⟩, ⟨(inMode .run).setFlag F.FX_TBE_RESULT_BUSY 2 true, 2, by decide⟩, ⟨inMode .run, 3, by decide⟩, ⟨(inMode .run).setFlag F.FX_TBE_RESULT_BUSY 3
    true, 3, by decide⟩, ⟨inMode .run, 0, by decide⟩, ⟨(inMode .run).setFlag F.FX_TBE_RESULT_BUSY 0 true, 0, by decide⟩, ⟨inMode .run, 1, by decide⟩, ⟨(inMode
    .run).setFlag F.FX_TBE_RESULT_BUSY 1 true, 1, by decide⟩⟩

set_option maxRecDepth 8000 in
/-- The premises of TableCommitsAgeingAndRewrites can be met. -/
theorem premises_TableCommitsAgeingAndRewrites :
    (∃ (s : State) (half : Fin 2) (ch : Fin 4) (w : Nat) (index : Nat), s.fenced 5 = false ∧ ((List.range 26).map (fun i => (Map.get 0 half s.tbl.turn + i) % 26)).find?
      (s.srcWaits half) = some ch.val ∧ Map.get none ch s.tbl.chan = some (w, index) ∧ s.flushMore (bits w 0 6) (bits w 28 4) (bits w 24 4) (s.chanWords ch) = false) ∧
      (∃ (s : State) (half : Fin 2) (ch : Fin 4) (w : Nat) (index : Nat), s.fenced 5 = false ∧ ((List.range 26).map (fun i => (Map.get 0 half s.tbl.turn + i) %
      26)).find? (s.srcWaits half) = some ch.val ∧ Map.get none ch s.tbl.chan = some (w, index) ∧ s.tblEn (bits w 0 6) = false) ∧ (∃ (s : State) (half : Fin 2) (ch : Fin
      4) (w : Nat) (index : Nat), s.fenced 5 = false ∧ ((List.range 26).map (fun i => (Map.get 0 half s.tbl.turn + i) % 26)).find? (s.srcWaits half) = some ch.val ∧
      Map.get none ch s.tbl.chan = some (w, index) ∧ s.flushMore (bits w 0 6) (bits w 28 4) (bits w 24 4) (s.chanWords ch) = false ∧ s.tblEn (bits w 0 6) = true ∧
      s.badCommand (bits w 0 6) (bits w 28 4) (bits w 24 4) index (s.chanWords ch) = true) ∧ (∃ (s : State) (half : Fin 2) (ch : Fin 4) (w : Nat) (index : Nat), s.fenced
      5 = false ∧ ((List.range 26).map (fun i => (Map.get 0 half s.tbl.turn + i) % 26)).find? (s.srcWaits half) = some ch.val ∧ Map.get none ch s.tbl.chan = some (w,
      index) ∧ s.flushMore (bits w 0 6) (bits w 28 4) (bits w 24 4) (s.chanWords ch) = false ∧ s.tblEn (bits w 0 6) = true ∧ s.badCommand (bits w 0 6) (bits w 28 4)
      (bits w 24 4) index (s.chanWords ch) = false ∧ s.tblLocal (bits w 0 6) = true ∧ (s.scopeOf (bits w 0 6) (bits w 24 4)).any s.fenced = true) ∧ (∃ (s : State) (half
      : Fin 2) (ch : Fin 4) (w : Nat) (index : Nat), s.fenced 5 = false ∧ ((List.range 26).map (fun i => (Map.get 0 half s.tbl.turn + i) % 26)).find? (s.srcWaits half) =
      some ch.val ∧ Map.get none ch s.tbl.chan = some (w, index) ∧ s.flushMore (bits w 0 6) (bits w 28 4) (bits w 24 4) (s.chanWords ch) = false ∧ s.tblEn (bits w 0 6) =
      true ∧ s.badCommand (bits w 0 6) (bits w 28 4) (bits w 24 4) index (s.chanWords ch) = false ∧ (s.tblLocal (bits w 0 6) = true → (s.scopeOf (bits w 0 6) (bits w 24
      4)).any s.fenced = false) ∧ bits w 28 4 = 1 ∧ (s.scopeOf (bits w 0 6) (bits w 24 4)).filter (fun r => (s.addressed (bits w 0 6) r index (s.chanWords ch)).isSome) ≠
      []) ∧ (∃ (s : State) (half : Fin 2) (ch : Fin 4) (w : Nat) (index : Nat), s.fenced 5 = false ∧ ((List.range 26).map (fun i => (Map.get 0 half s.tbl.turn + i) %
      26)).find? (s.srcWaits half) = some ch.val ∧ Map.get none ch s.tbl.chan = some (w, index) ∧ s.flushMore (bits w 0 6) (bits w 28 4) (bits w 24 4) (s.chanWords ch) =
      false ∧ s.tblEn (bits w 0 6) = true ∧ s.badCommand (bits w 0 6) (bits w 28 4) (bits w 24 4) index (s.chanWords ch) = false ∧ (s.tblLocal (bits w 0 6) = true →
      (s.scopeOf (bits w 0 6) (bits w 24 4)).any s.fenced = false) ∧ (bits w 28 4 = 2 ∨ bits w 28 4 = 4) ∧ ((s.scopeOf (bits w 0 6) (bits w 24 4)).filter (fun r =>
      (s.addressed (bits w 0 6) r index (s.chanWords ch)).isSome)).length ≠ (s.scopeOf (bits w 0 6) (bits w 24 4)).length) ∧ (∃ (s : State) (half : Fin 2) (ch : Fin 4)
      (w : Nat) (index : Nat), s.fenced 5 = false ∧ ((List.range 26).map (fun i => (Map.get 0 half s.tbl.turn + i) % 26)).find? (s.srcWaits half) = some ch.val ∧ Map.get
      none ch s.tbl.chan = some (w, index) ∧ s.flushMore (bits w 0 6) (bits w 28 4) (bits w 24 4) (s.chanWords ch) = false ∧ s.tblEn (bits w 0 6) = true ∧ s.badCommand
      (bits w 0 6) (bits w 28 4) (bits w 24 4) index (s.chanWords ch) = false ∧ (s.tblLocal (bits w 0 6) = true → (s.scopeOf (bits w 0 6) (bits w 24 4)).any s.fenced =
      false) ∧ bits w 28 4 = 5 ∧ s.addressed (bits w 0 6) ((s.scopeOf (bits w 0 6) (bits w 24 4)).headD 0) index (s.chanWords ch) = none) ∧ (∃ (s : State) (half : Fin 2)
      (ch : Fin 4) (w : Nat) (index : Nat), s.fenced 5 = false ∧ ((List.range 26).map (fun i => (Map.get 0 half s.tbl.turn + i) % 26)).find? (s.srcWaits half) = some
      ch.val ∧ Map.get none ch s.tbl.chan = some (w, index) ∧ s.flushMore (bits w 0 6) (bits w 28 4) (bits w 24 4) (s.chanWords ch) = false ∧ s.tblEn (bits w 0 6) = true
      ∧ s.badCommand (bits w 0 6) (bits w 28 4) (bits w 24 4) index (s.chanWords ch) = false ∧ (s.tblLocal (bits w 0 6) = true → (s.scopeOf (bits w 0 6) (bits w 24
      4)).any s.fenced = false) ∧ (bits w 28 4 = 1 ∨ bits w 28 4 = 3) ∧ (s.scopeOf (bits w 0 6) (bits w 24 4)).filter (fun r => (s.addressed (bits w 0 6) r index
      (s.chanWords ch)).isSome) = [] ∧ (s.scopeOf (bits w 0 6) (bits w 24 4)).mapM (fun r => s.placeFor (bits w 0 6) r (imageKey (s.chanWords ch)) index) = none) ∧ (∃ (s
      : State) (half : Fin 2) (ch : Fin 4) (w : Nat) (index : Nat) (places : List Nat), s.fenced 5 = false ∧ ((List.range 26).map (fun i => (Map.get 0 half s.tbl.turn +
      i) % 26)).find? (s.srcWaits half) = some ch.val ∧ Map.get none ch s.tbl.chan = some (w, index) ∧ s.flushMore (bits w 0 6) (bits w 28 4) (bits w 24 4) (s.chanWords
      ch) = false ∧ s.tblEn (bits w 0 6) = true ∧ s.badCommand (bits w 0 6) (bits w 28 4) (bits w 24 4) index (s.chanWords ch) = false ∧ (s.tblLocal (bits w 0 6) = true
      → (s.scopeOf (bits w 0 6) (bits w 24 4)).any s.fenced = false) ∧ (bits w 28 4 = 1 ∨ bits w 28 4 = 3) ∧ (s.scopeOf (bits w 0 6) (bits w 24 4)).filter (fun r =>
      (s.addressed (bits w 0 6) r index (s.chanWords ch)).isSome) = [] ∧ (s.scopeOf (bits w 0 6) (bits w 24 4)).mapM (fun r => s.placeFor (bits w 0 6) r (imageKey
      (s.chanWords ch)) index) = some places) ∧ (∃ (s : State) (half : Fin 2) (ch : Fin 4) (w : Nat) (index : Nat), s.fenced 5 = false ∧ ((List.range 26).map (fun i =>
      (Map.get 0 half s.tbl.turn + i) % 26)).find? (s.srcWaits half) = some ch.val ∧ Map.get none ch s.tbl.chan = some (w, index) ∧ s.flushMore (bits w 0 6) (bits w 28
      4) (bits w 24 4) (s.chanWords ch) = false ∧ s.tblEn (bits w 0 6) = true ∧ s.badCommand (bits w 0 6) (bits w 28 4) (bits w 24 4) index (s.chanWords ch) = false ∧
      (s.tblLocal (bits w 0 6) = true → (s.scopeOf (bits w 0 6) (bits w 24 4)).any s.fenced = false) ∧ bits w 28 4 = 4 ∧ ((s.scopeOf (bits w 0 6) (bits w 24 4)).filter
      (fun r => (s.addressed (bits w 0 6) r index (s.chanWords ch)).isSome)).length = (s.scopeOf (bits w 0 6) (bits w 24 4)).length) ∧ (∃ (s : State) (half : Fin 2) (ch
      : Fin 4) (w : Nat) (index : Nat) (e : TEntry), s.fenced 5 = false ∧ ((List.range 26).map (fun i => (Map.get 0 half s.tbl.turn + i) % 26)).find? (s.srcWaits half) =
      some ch.val ∧ Map.get none ch s.tbl.chan = some (w, index) ∧ s.flushMore (bits w 0 6) (bits w 28 4) (bits w 24 4) (s.chanWords ch) = false ∧ s.tblEn (bits w 0 6) =
      true ∧ s.badCommand (bits w 0 6) (bits w 28 4) (bits w 24 4) index (s.chanWords ch) = false ∧ (s.tblLocal (bits w 0 6) = true → (s.scopeOf (bits w 0 6) (bits w 24
      4)).any s.fenced = false) ∧ (bits w 28 4 = 2 ∨ bits w 28 4 = 3) ∧ s.tblLocal (bits w 0 6) = false ∧ s.addressed (bits w 0 6) 0 index (s.chanWords ch) = some e) ∧
      (∃ (s : State) (half : Fin 2) (ch : Fin 4) (w : Nat) (index : Nat) (e : TEntry), s.fenced 5 = false ∧ ((List.range 26).map (fun i => (Map.get 0 half s.tbl.turn +
      i) % 26)).find? (s.srcWaits half) = some ch.val ∧ Map.get none ch s.tbl.chan = some (w, index) ∧ s.flushMore (bits w 0 6) (bits w 28 4) (bits w 24 4) (s.chanWords
      ch) = false ∧ s.tblEn (bits w 0 6) = true ∧ s.badCommand (bits w 0 6) (bits w 28 4) (bits w 24 4) index (s.chanWords ch) = false ∧ (s.tblLocal (bits w 0 6) = true
      → (s.scopeOf (bits w 0 6) (bits w 24 4)).any s.fenced = false) ∧ bits w 28 4 = 5 ∧ s.addressed (bits w 0 6) ((s.scopeOf (bits w 0 6) (bits w 24 4)).headD 0) index
      (s.chanWords ch) = some e) ∧ (∃ (s : State) (half : Fin 2) (ch : Fin 4) (w : Nat) (index : Nat) (e : TEntry) (es : List TEntry), s.fenced 5 = false ∧ ((List.range
      26).map (fun i => (Map.get 0 half s.tbl.turn + i) % 26)).find? (s.srcWaits half) = some ch.val ∧ Map.get none ch s.tbl.chan = some (w, index) ∧ s.tblEn (bits w 0
      6) = true ∧ s.badCommand (bits w 0 6) (bits w 28 4) (bits w 24 4) index (s.chanWords ch) = false ∧ (s.tblLocal (bits w 0 6) = true → (s.scopeOf (bits w 0 6) (bits
      w 24 4)).any s.fenced = false) ∧ bits w 28 4 = 6 ∧ s.flushHits (bits w 0 6) (bits w 24 4) (s.chanWords ch) = e :: es ∧ es ≠ []) ∧ (∃ (s : State) (half : Fin 2) (r
      : Fin 4) (l : Learn) (rest : List Learn), s.fenced 5 = false ∧ ((List.range 26).map (fun i => (Map.get 0 half s.tbl.turn + i) % 26)).find? (s.srcWaits half) = some
      (20 + r.val) ∧ takeLearn half (Map.get [] (r.val + 1) s.tbl.learnq) = some (l, rest)) ∧ (∃ (s : State) (table : Fin 64) (w : Sweep) (index : Nat) (e : TEntry),
      s.tblEn table = true ∧ s.tblKind table = 0 ∧ s.fenced 5 = false ∧ s.sweepNow table = some w ∧ w.ages = true ∧ s.nextEntry table w.pos = some index ∧ (s.entries
      table).filter (fun x => x.index == index) = [e] ∧ e.stat = false ∧ e.origin = s.devid ∧ e.hits = 0 ∧ e.aged1 = true) ∧ (∃ (s : State) (table : Fin 64) (w : Sweep)
      (index : Nat) (e : TEntry), s.tblEn table = true ∧ s.tblKind table = 0 ∧ s.fenced 5 = false ∧ s.sweepNow table = some w ∧ w.ages = true ∧ s.nextEntry table w.pos =
      some index ∧ (s.entries table).filter (fun x => x.index == index) = [e] ∧ e.stat = false ∧ e.origin = s.devid ∧ e.hits ≠ 0) ∧ (∃ (s : State) (table : Fin 64) (w :
      Sweep) (index : Nat) (e : TEntry), s.tblEn table = true ∧ s.tblKind table = 0 ∧ s.fenced 5 = false ∧ s.sweepNow table = some w ∧ w.ages = true ∧ s.nextEntry table
      w.pos = some index ∧ (s.entries table).filter (fun x => x.index == index) = [e] ∧ e.stat = false ∧ e.origin = s.devid ∧ e.hits = 0 ∧ e.aged1 = false) ∧ (∃ (s :
      State) (table : Fin 64) (w : Sweep) (index : Nat) (e : TEntry), s.tblEn table = true ∧ s.tblKind table = 0 ∧ s.fenced 5 = false ∧ s.sweepNow table = some w ∧
      w.ages = true ∧ s.nextEntry table w.pos = some index ∧ (s.entries table).filter (fun x => x.index == index) = [e] ∧ (e.stat = true ∨ e.origin ≠ s.devid)) ∧ (∃ (s :
      State) (table : Fin 64) (region : Fin 4) (index : Fin 1048576) (e : TEntry), (s.entries table).filter (fun x => x.index == index.val) = [e] ∧ e.inReplica
      (region.val + 1) = true ∧ bit e.bad region = true) ∧ (∃ (s : State) (ring : Fin 65536) (d : Desc) (i : Nat), s.fenced 5 = false ∧ s.tblPlace ring = some i ∧
      (s.ring ring).work.find? (fun d => d.dtype == 0x30) = some d ∧ s.badUpdate ring d = true) ∧ (∃ (s : State) (ring : Fin 65536) (got : Bool) (d : Desc) (i : Nat),
      s.fenced 5 = false ∧ s.tblPlace ring = some i ∧ (s.ring ring).work.find? (fun d => d.dtype == 0x30) = some d ∧ s.badUpdate ring d = false ∧ (!(if s.ownerOf ring <
      2056 then got else s.coreGood (leAt d.bytes 8 8) 192)) = true) ∧ (∃ (s : State) (ring : Fin 65536) (got : Bool) (image : List Byte) (d : Desc) (i : Nat), s.fenced
      5 = false ∧ s.tblPlace ring = some i ∧ (s.ring ring).work.find? (fun d => d.dtype == 0x30) = some d ∧ s.badUpdate ring d = false ∧ (!(if s.ownerOf ring < 2056 then
      got else s.coreGood (leAt d.bytes 8 8) 192)) = false ∧ s.flushMore (bits (leAt d.bytes 0 4) 0 6) (bits (leAt d.bytes 0 4) 12 4) (bits (leAt d.bytes 0 4) 8 4)
      (bytesWords 48 (if s.ownerOf ring < 2056 then image else s.memRead (leAt d.bytes 8 8) 192)) = false) ∧ (∃ (s : State) (ring : Fin 65536) (got : Bool) (image : List
      Byte) (d : Desc) (i : Nat), s.fenced 5 = false ∧ s.tblPlace ring = some i ∧ (s.ring ring).work.find? (fun d => d.dtype == 0x30) = some d ∧ s.badUpdate ring d =
      false ∧ (!(if s.ownerOf ring < 2056 then got else s.coreGood (leAt d.bytes 8 8) 192)) = false ∧ s.flushMore (bits (leAt d.bytes 0 4) 0 6) (bits (leAt d.bytes 0 4)
      12 4) (bits (leAt d.bytes 0 4) 8 4) (bytesWords 48 (if s.ownerOf ring < 2056 then image else s.memRead (leAt d.bytes 8 8) 192)) = true) :=
  ⟨⟨(directTable.withTbl { chan := [(2, some (0x30000001, 4))] }), 1, 2, 0x30000001, 4, by decide⟩, ⟨(directTable.withTbl { chan := [(2, some (0x30000001, 4))] }), 1, 2,
    0x30000001, 4, by decide⟩, ⟨(directTable.withTbl { chan := [(2, some (0x70000003, 4))] }), 1, 2, 0x70000003, 4, by decide⟩, ⟨(((directTable.setFlag
    F.FX_TBE_TBL_CFG_SCOPE 3 true).setFlag F.AO_FLT_REGION_RESETTING 2 true).withTbl { chan := [(2, some (0x12000003, 4))] }), 1, 2, 0x12000003, 4, by decide⟩,
    ⟨(directTable.withTbl { chan := [(2, some (0x10000003, 4))], tabs := [(3, [{ region := 0, index := 4, key := 0, data := 9 }])] }), 1, 2, 0x10000003, 4, by decide⟩,
    ⟨(directTable.withTbl { chan := [(2, some (0x20000003, 4))] }), 1, 2, 0x20000003, 4, by decide⟩, ⟨(directTable.withTbl { chan := [(2, some (0x50000003, 4))] }), 1,
    2, 0x50000003, 4, by decide⟩, ⟨((directTable.setFld F.FX_TBE_TBL_CFG_KIND 3 2).withTbl { chan := [(2, some (0x10000003, 4))] }), 1, 2, 0x10000003, 4, by decide⟩,
    ⟨(directTable.withTbl { chan := [(2, some (0x10000003, 4))] }), 1, 2, 0x10000003, 4, [4], by decide⟩, ⟨(directTable.withTbl
    { chan := [(2, some (0x40000003, 4))], tabs := [(3, [{ region := 0, index := 4, key := 0, data := 9 }])] }), 1, 2, 0x40000003, 4, by decide⟩, ⟨(directTable.withTbl
    { chan := [(2, some (0x30000003, 4))], tabs := [(3, [{ region := 0, index := 4, key := 0, data := 9 }])] }), 1, 2, 0x30000003, 4,
    { region := 0, index := 4, key := 0, data := 9 }, by decide⟩, ⟨(directTable.withTbl
    { chan := [(2, some (0x50000003, 4))], tabs := [(3, [{ region := 0, index := 4, key := 0, data := 9 }])] }), 1, 2, 0x50000003, 4,
    { region := 0, index := 4, key := 0, data := 9 }, by decide⟩, ⟨((ageTable { region := 0, index := 4, key := 0, data := 9 }).withTbl
    { chan := [(2, some (0x60000003, 4))], tabs := [(3, [{ region := 0, index := 4, key := 0, data := 9 }, { region := 0, index := 5, key := 0, data := 9 }])] }), 1, 2,
    0x60000003, 4, { region := 0, index := 4, key := 0, data := 9 }, [{ region := 0, index := 5, key := 0, data := 9 }], by decide⟩, ⟨(inMode .run).withTbl
    { learnq := [(4, [{ table := 6, key := 1, data := 1, time := 0 }, { table := 5, key := 1, data := 1, time := 0 }])] }, 1, 3,
    { table := 5, key := 1, data := 1, time := 0 }, [{ table := 6, key := 1, data := 1, time := 0 }], by decide⟩, ⟨(ageTable
    { region := 0, index := 1048575, key := 2, aged1 := true }), 3, { since := 1, ages := true, period := 100000 }, 1048575,
    { region := 0, index := 1048575, key := 2, aged1 := true }, by decide⟩, ⟨(ageTable { region := 0, index := 0, key := 2, hits := 3, aged1 := true }), 3,
    { since := 1, ages := true, period := 100000 }, 0, { region := 0, index := 0, key := 2, hits := 3, aged1 := true }, by decide⟩, ⟨(ageTable
    { region := 0, index := 7, key := 2 }), 3, { since := 1, ages := true, period := 100000 }, 7, { region := 0, index := 7, key := 2 }, by decide⟩, ⟨(ageTable
    { region := 0, index := 7, key := 2, stat := true }), 3, { since := 1, ages := true, period := 100000 }, 7, { region := 0, index := 7, key := 2, stat := true }, by
    decide⟩, ⟨(ageTable { region := 0, index := 7, key := 2, bad := 8 }), 3, 3, 7, { region := 0, index := 7, key := 2, bad := 8 }, by decide⟩, ⟨inWork 0x30 [0, 0, 16],
    5, descOf 0x30 [0, 0, 16], 0, by decide⟩, ⟨inWork 0x30 [], 5, false, descOf 0x30 [], 0, by decide⟩, ⟨inWork 0x30 [], 5, true, [], descOf 0x30 [], 0, by decide⟩,
    ⟨flushRun, 5, true, [], flushDesc, 0, by decide⟩⟩

set_option maxRecDepth 8000 in
/-- The premises of AdmissionAndQueueSettings can be met. -/
theorem premises_AdmissionAndQueueSettings :
    (∃ (s : State) (n : Nat) (ex : Bool) (a : AdmItem) (rest : List AdmItem) (c : Copy) (cs : List Copy) (f : FxFrame), s.fenced 5 = false ∧ s.admTurn.map (·.2) = some n
      ∧ s.stageHead n = some (ex, a, rest) ∧ s.frame? a.fid = some f ∧ (s.unfold f.pkt a.copies).2 = c :: cs ∧ c.lp ≠ 1023 ∧ (f.pkt.stitched && s.stitchLp c.lp) = false
      ∧ s.fenced (lpRegion c.lp) = false ∧ ((s.charged (queueIx c.lp c.cls) + f.pkt.segments - s.minOf (queueIx c.lp c.cls) - (s.charged (queueIx c.lp c.cls) - s.minOf
      (queueIx c.lp c.cls))) = 0 ∨ (((s.charged (queueIx c.lp c.cls) - s.minOf (queueIx c.lp c.cls)) + (s.charged (queueIx c.lp c.cls) + f.pkt.segments - s.minOf
      (queueIx c.lp c.cls) - (s.charged (queueIx c.lp c.cls) - s.minOf (queueIx c.lp c.cls))) : Nat) : Int) ≤ s.limitOf (queueIx c.lp c.cls)) ∧ ((s.charged (queueIx c.lp
      c.cls) + f.pkt.segments - s.minOf (queueIx c.lp c.cls) - (s.charged (queueIx c.lp c.cls) - s.minOf (queueIx c.lp c.cls))) : Int) ≤ s.freeF) ∧ (∃ (s : State) (n :
      Nat) (ex : Bool) (a : AdmItem) (rest : List AdmItem) (c : Copy) (cs : List Copy) (f : FxFrame), s.fenced 5 = false ∧ s.admTurn.map (·.2) = some n ∧ s.stageHead n =
      some (ex, a, rest) ∧ s.frame? a.fid = some f ∧ (s.unfold f.pkt a.copies).2 = c :: cs ∧ c.lp ≠ 1023 ∧ (f.pkt.stitched && s.stitchLp c.lp) = false ∧ s.fenced
      (lpRegion c.lp) = true) ∧ (∃ (s : State) (n : Nat) (ex : Bool) (a : AdmItem) (rest : List AdmItem) (c : Copy) (cs : List Copy) (f : FxFrame), s.fenced 5 = false ∧
      s.admTurn.map (·.2) = some n ∧ s.stageHead n = some (ex, a, rest) ∧ s.frame? a.fid = some f ∧ (s.unfold f.pkt a.copies).2 = c :: cs ∧ c.lp ≠ 1023 ∧ (f.pkt.stitched
      && s.stitchLp c.lp) = false ∧ s.fenced (lpRegion c.lp) = false ∧ (s.charged (queueIx c.lp c.cls) + f.pkt.segments - s.minOf (queueIx c.lp c.cls) - (s.charged
      (queueIx c.lp c.cls) - s.minOf (queueIx c.lp c.cls))) ≠ 0 ∧ s.limitOf (queueIx c.lp c.cls) < (((s.charged (queueIx c.lp c.cls) - s.minOf (queueIx c.lp c.cls)) +
      (s.charged (queueIx c.lp c.cls) + f.pkt.segments - s.minOf (queueIx c.lp c.cls) - (s.charged (queueIx c.lp c.cls) - s.minOf (queueIx c.lp c.cls))) : Nat) : Int)) ∧
      (∃ (s : State) (n : Nat) (ex : Bool) (a : AdmItem) (rest : List AdmItem) (c : Copy) (cs : List Copy) (f : FxFrame), s.fenced 5 = false ∧ s.admTurn.map (·.2) = some
      n ∧ s.stageHead n = some (ex, a, rest) ∧ s.frame? a.fid = some f ∧ (s.unfold f.pkt a.copies).2 = c :: cs ∧ c.lp ≠ 1023 ∧ (f.pkt.stitched && s.stitchLp c.lp) =
      false ∧ s.fenced (lpRegion c.lp) = false ∧ ((s.charged (queueIx c.lp c.cls) + f.pkt.segments - s.minOf (queueIx c.lp c.cls) - (s.charged (queueIx c.lp c.cls) -
      s.minOf (queueIx c.lp c.cls))) = 0 ∨ (((s.charged (queueIx c.lp c.cls) - s.minOf (queueIx c.lp c.cls)) + (s.charged (queueIx c.lp c.cls) + f.pkt.segments - s.minOf
      (queueIx c.lp c.cls) - (s.charged (queueIx c.lp c.cls) - s.minOf (queueIx c.lp c.cls))) : Nat) : Int) ≤ s.limitOf (queueIx c.lp c.cls)) ∧ s.freeF < ((s.charged
      (queueIx c.lp c.cls) + f.pkt.segments - s.minOf (queueIx c.lp c.cls) - (s.charged (queueIx c.lp c.cls) - s.minOf (queueIx c.lp c.cls))) : Int)) ∧ (∃ (s : State) (n
      : Nat) (ex : Bool) (a : AdmItem) (rest : List AdmItem) (c : Copy) (cs : List Copy) (f : FxFrame), s.fenced 5 = false ∧ s.admTurn.map (·.2) = some n ∧ s.stageHead n
      = some (ex, a, rest) ∧ s.frame? a.fid = some f ∧ (s.unfold f.pkt a.copies).2 = c :: cs ∧ c.lp = 1023) ∧ (∃ (s : State), (s.fenced 5 = true ∨ s.admTurn = none)) ∧
      (∃ (s : State) (who : Party) (qi : Fin 8656) (v : Word), s.admits who 5 1 = true ∧ (bits v.toNat 26 4 < 4 ∨ 9 ≤ bits v.toNat 26 4) ∧ s.guarantee - s.minOf qi +
      bits v.toNat 0 20 ≤ 524288) ∧ (∃ (s : State) (who : Party) (qi : Fin 8656) (v : Word), s.admits who 5 1 = true ∧ (4 ≤ bits v.toNat 26 4 ∧ bits v.toNat 26 4 ≤ 8 ∨
      524288 < s.guarantee - s.minOf qi + bits v.toNat 0 20)) ∧ (∃ (s : State) (who : Party), s.admits who 5 1 = true) ∧ (∃ (s : State) (qi : Fin 8656) (c : Copy) (rest
      : List Copy), s.queue qi = c :: rest ∧ c.cut = true) ∧ (∃ (s : State) (qi : Fin 8656), (s.queue qi).head?.any (fun c => c.cut) = false) :=
  ⟨⟨stagedFrame 0, 31, false, stageItem, [], stageCopy, [], fxFrame, by decide⟩, ⟨(stagedFrame 0).setFlag F.AO_FLT_REGION_RESETTING 1 true, 31, false, stageItem, [],
    stageCopy, [], fxFrame, by decide⟩, ⟨(stagedFrame 1048576).setFld F.FX_ADM_QCFG_K 19 9, 31, false, stageItem, [], stageCopy, [], fxFrame, by decide⟩, ⟨((stagedFrame
    0).setFld F.FX_ADM_QCFG_MIN 19 4).setFld F.FX_ADM_QCFG_MIN 20 1048575, 31, false, stageItem, [], stageCopy, [], fxFrame, by decide⟩, ⟨(stagedFrame 0).withFx
    { (stagedFrame 0).fx with mainq := [(31, [{ stageItem with copies := [{ stageCopy with lp := 1023 }] }])] }, 31, false,
    { stageItem with copies := [{ stageCopy with lp := 1023 }] }, [], { stageCopy with lp := 1023 }, [], fxFrame, by decide⟩, ⟨inMode .run, by decide⟩, ⟨inMode .run,
    .supervisor, 8655, 0xE4080000, by decide⟩, ⟨inMode .run, .supervisor, 0, 0x10000000, by decide⟩, ⟨inMode .run, .supervisor, by decide⟩, ⟨(inMode .run).withFx
    { queues := [(19, [{ stageCopy with cut := true }])] }, 19, { stageCopy with cut := true }, [], by decide⟩, ⟨inMode .run, 0, by decide⟩⟩

set_option maxRecDepth 8000 in
/-- The premises of TailsSegmentsAndBankGroups can be met. -/
theorem premises_TailsSegmentsAndBankGroups :
    (∃ (s : State) (fid : Nat) (f : FxFrame), s.frame? fid = some f ∧ f.tail = false ∧ f.bad = 0 ∧ f.want = 0 ∧ f.live ≠ 0 ∧ s.fx.cuts.filter (fun x => x.fid == fid) =
      []) ∧ (∃ (s : State) (fid : Nat) (f : FxFrame), s.frame? fid = some f ∧ f.tail = false ∧ f.bad ≠ 0 ∧ s.fx.cuts.filter (fun x => x.fid == fid) = []) ∧ (∃ (s :
      State) (fid : Nat) (f : FxFrame) (x : CutTx) (out : List Byte), s.frame? fid = some f ∧ f.tail = false ∧ s.fx.cuts.filter (fun x => x.fid == fid) = [x] ∧ x.bytes =
      some out) ∧ (∃ (s : State) (fid : Nat), (s.frame? fid = none ∨ (s.frame? fid).any (fun f => f.tail) = true)) ∧ (∃ (s : State) (fid : Nat) (f : FxFrame), s.frame?
      fid = some f ∧ f.want ≠ 0 ∧ f.live ≠ 0) ∧ (∃ (s : State) (fid : Nat), (s.frame? fid).all (fun f => f.want == 0 || f.live == 0) = true) ∧ (∃ (s : State) (g : Fin
      16), s.bgDraining g = true ∧ s.bgUsed g = 0 ∧ (s.forcedOff (bgDomain g) = true ∨ s.bgShort = false ∧ s.fld F.AO_WAKE_POLICY_MODE (bgDomain g) = 0)) ∧ (∃ (s :
      State) (g : Fin 16), (s.bgDraining g = false ∨ s.bgUsed g ≠ 0 ∨ ¬(s.forcedOff (bgDomain g) = true ∨ s.bgShort = false ∧ s.fld F.AO_WAKE_POLICY_MODE (bgDomain g) =
      0))) :=
  ⟨⟨queuedFrame { fxFrame with tail := false, live := 1 }, 7, { fxFrame with tail := false, live := 1 }, by decide⟩, ⟨queuedFrame
    { fxFrame with tail := false, live := 1, bad := 3 }, 7, { fxFrame with tail := false, live := 1, bad := 3 }, by decide⟩, ⟨(queuedFrame
    { fxFrame with tail := false, live := 1, bad := 3 }).withFx
    { (queuedFrame { fxFrame with tail := false, live := 1, bad := 3 }).fx with cuts := [{ lp := 511, cls := 3, fid := 7, charged := 1522, drr := true, queueShaped := true, portShaped := true, bytes := some [1, 2, 3] }] },
    7, { fxFrame with tail := false, live := 1, bad := 3 },
    { lp := 511, cls := 3, fid := 7, charged := 1522, drr := true, queueShaped := true, portShaped := true, bytes := some [1, 2, 3] }, [1, 2, 3], by decide⟩, ⟨inMode
    .run, 9, by decide⟩, ⟨(queuedFrame { fxFrame with want := 2, live := 1 }).setFld F.FX_BUF_BG_STATUS_POWER 0 3, 7, { fxFrame with want := 2, live := 1 }, by decide⟩,
    ⟨inMode .run, 9, by decide⟩, ⟨((inMode .run).setFlag F.FX_BUF_BG_STATUS_DRAINING 15 true).setFlag F.AO_PD_CTRL_FORCE_OFF (bgDomain 15) true, 15, by decide⟩, ⟨inMode
    .run, 15, by decide⟩⟩

set_option maxRecDepth 8000 in
/-- The premises of DequeueAndSampling can be met. -/
theorem premises_DequeueAndSampling :
    (∃ (s : State) (server : Fin 46) (ready : Fin 65536) (i : Nat) (lp : Nat) (more : List (Nat × Nat)) (c : Copy) (rest : List Copy) (f : FxFrame) (cls : Nat),
      s.inService = true ∧ s.fenced 5 = false ∧ s.turns server ready = (i, lp) :: more ∧ s.accepts lp = true ∧ Map.get 0 lp s.tm.pending = 0 ∧ 512 ≤ lp ∧ lp < 528 ∧
      (s.select lp).2 = some cls ∧ s.queue (queueIx lp cls) = c :: rest ∧ c.lp = lp ∧ c.eligible = true ∧ s.frame? c.fid = some f ∧ s.faultsDue = [] ∧ s.request = 0) ∧
      (∃ (s : State) (server : Fin 46) (ready : Fin 65536) (i : Nat) (lp : Nat) (more : List (Nat × Nat)) (c : Copy) (rest : List Copy) (f : FxFrame), s.inService = true
      ∧ s.fenced 5 = false ∧ s.turns server ready = (i, lp) :: more ∧ s.accepts lp = true ∧ Map.get 0 lp s.tm.pending = 0 ∧ s.portDown lp = false ∧ s.awake (halfDomain
      (1 + lp / 128) (lp / 4 % 32 / 4)) = true ∧ lp < 512 ∧ s.operList lp = none ∧ s.queue (queueIx lp 15) = c :: rest ∧ c.eligible = true ∧ s.frame? c.fid = some f ∧
      s.faultsDue = [] ∧ s.request = 0) ∧ (∃ (s : State) (server : Fin 46) (ready : Fin 65536) (i : Nat) (lp : Nat) (more : List (Nat × Nat)) (c : Copy) (rest : List
      Copy) (f : FxFrame), s.inService = true ∧ s.fenced 5 = false ∧ s.turns server ready = (i, lp) :: more ∧ s.accepts lp = true ∧ Map.get 0 lp s.tm.pending = 0 ∧
      s.portDown lp = true ∧ lp < 512 ∧ s.operList lp = none ∧ s.queue (queueIx lp 15) = c :: rest ∧ c.eligible = true ∧ s.frame? c.fid = some f ∧ s.faultsDue = [] ∧
      s.request = 0) ∧ (∃ (s : State) (server : Fin 46) (ready : Fin 65536), (s.inService = false ∨ s.fenced 5 = true ∨ (s.turns server ready).all (fun p => !s.accepts
      p.2) = true) ∧ s.faultsDue = [] ∧ s.request = 0) ∧ (∃ (s : State) (group : Fin 64), s.flag F.FX_TM_QDEPTH_SAMPLE_EN group = true ∧ s.fenced 5 = false) ∧ (∃ (s :
      State) (group : Fin 64), s.flag F.FX_TM_QDEPTH_SAMPLE_EN group = true ∧ s.fenced 5 = false) ∧ (∃ (s : State) (group : Fin 64) (w : Nat), s.flag
      F.FX_TM_QDEPTH_SAMPLE_EN group = true ∧ s.fenced 5 = false ∧ Map.get 0 (4 * group.val) s.tm.sampleNext = w + 1) ∧ (∃ (s : State) (group : Fin 64), (s.flag
      F.FX_TM_QDEPTH_SAMPLE_EN group = false ∨ s.fenced 5 = true)) ∧ (∃ (s : State) (who : Party) (group : Fin 64) (w1 : Nat) (w2 : Nat), s.admits who 5 2 = true ∧
      s.flag F.FX_TM_QDEPTH_SAMPLE_EN group = false ∧ Map.get 0 (4 * group.val + 1) s.tm.sampleHeld = w1 + 1 ∧ Map.get 0 (4 * group.val + 2) s.tm.sampleHeld = w2 + 1) ∧
      (∃ (s : State) (who : Party) (group : Fin 64), s.admits who 5 2 = true ∧ s.flag F.FX_TM_QDEPTH_SAMPLE_EN group = false) ∧ (∃ (s : State) (who : Party) (group : Fin
      64), s.admits who 5 2 = true ∧ s.flag F.FX_TM_QDEPTH_SAMPLE_EN group = true) :=
  ⟨⟨hostQueue 0, 32, 1, 0, 512, [], hostCopy 0, [], { fxFrame with live := 1 }, 0, by decide⟩, ⟨frontQueue, 31, 32768, 15, 511, [], { hostCopy 15 with lp := 511 }, [],
    { fxFrame with live := 1 }, by decide⟩, ⟨frontQueue.setFld F.PA_MAC_LINK_STATUS_STATE 511 0, 31, 32768, 15, 511, [], { hostCopy 15 with lp := 511 }, [],
    { fxFrame with live := 1 }, by decide⟩, ⟨inMode .run, 45, 0, by decide⟩, ⟨((inMode .run).setFlag F.FX_TM_QDEPTH_SAMPLE_EN 63 true).setFld
    F.FX_TM_QDEPTH_SAMPLE_BASE_QI 63 8655, 63, by decide⟩, ⟨((inMode .run).setFlag F.FX_TM_QDEPTH_SAMPLE_EN 63 true).setFld F.FX_TM_QDEPTH_SAMPLE_BASE_QI 63 8655, 63, by
    decide⟩, ⟨((inMode .run).setFlag F.FX_TM_QDEPTH_SAMPLE_EN 63 true).withTm { sampleNext := [(252, 6)] }, 63, 5, by decide⟩, ⟨inMode .run, 3, by decide⟩, ⟨(inMode
    .run).withTm { sampleHeld := [(253, 0x50001), (254, 0x80001)] }, .supervisor, 63, 0x50000, 0x80000, by decide⟩, ⟨inMode .run, .supervisor, 63, by decide⟩, ⟨(inMode
    .run).setFlag F.FX_TM_QDEPTH_SAMPLE_EN 63 true, .supervisor, 63, by decide⟩⟩

set_option maxRecDepth 8000 in
/-- The premises of GateLists can be met. -/
theorem premises_GateLists :
    (∃ (s : State) (lp : Fin 512), s.flag F.FX_TM_GATE_CFG_PEND lp = false ∧ s.now + 2000 ≤ s.fld F.FX_TM_GATE_CFG_ADMIN_BASE lp) ∧ (∃ (s : State) (lp : Fin 512), s.flag
      F.FX_TM_GATE_CFG_PEND lp = false ∧ s.fld F.FX_TM_GATE_CFG_ADMIN_BASE lp < s.now + 2000) ∧ (∃ (s : State) (lp : Fin 512), s.flag F.FX_TM_GATE_CFG_PEND lp = true) ∧
      (∃ (s : State) (lp : Fin 512), s.flag F.FX_TM_GATE_CFG_PEND lp = true ∧ s.now < Map.get 0 lp s.tm.pending) ∧ (∃ (s : State) (lp : Fin 512), s.flag
      F.FX_TM_GATE_CFG_PEND lp = true ∧ Map.get 0 lp s.tm.pending ≤ s.now) ∧ (∃ (s : State) (lp : Fin 512) (g : GateList) (x : GateSpan), s.operList lp = some g ∧
      s.gateAt lp s.now = some x) ∧ (∃ (s : State) (lp : Fin 512), (s.flag F.FX_TM_GATE_CFG_PEND lp = false ∨ Map.get 0 lp s.tm.pending ≤ s.now)) ∧ (∃ (s : State) (lp :
      Fin 512), (s.flag F.FX_TM_GATE_CFG_PEND lp = false ∨ s.now < Map.get 0 lp s.tm.pending)) ∧ (∃ (s : State) (lp : Fin 512), s.operList lp = none) :=
  ⟨⟨(inMode .run).setFld F.FX_TM_GATE_CFG_ADMIN_BASE 511 2000, 511, by decide⟩, ⟨(inMode .run).setFld F.FX_TM_GATE_CFG_ADMIN_BASE 511 1999, 511, by decide⟩, ⟨(inMode
    .run).setFlag F.FX_TM_GATE_CFG_PEND 511 true, 511, by decide⟩, ⟨((inMode .run).setFlag F.FX_TM_GATE_CFG_PEND 511 true).withTm { pending := [(511, 1)] }, 511, by
    decide⟩, ⟨((inMode .run).setFlag F.FX_TM_GATE_CFG_PEND 511 true).withTm { pending := [(511, 0)] }, 511, by decide⟩, ⟨listRun, 511,
    { lp := 511, bank := 0, len := 1, cycle := 256, base := 0 }, { gates := 5, others := true, entry := 0, stop := 256 }, by decide⟩, ⟨inMode .run, 511, by decide⟩,
    ⟨inMode .run, 511, by decide⟩, ⟨inMode .run, 511, by decide⟩⟩

set_option maxRecDepth 8000 in
/-- The premises of StitchLinksAndNeighbours can be met. -/
theorem premises_StitchLinksAndNeighbours :
    (∃ (s : State) (link : Fin 8), s.stcLink link ≠ 0 ∧ s.lpUp (480 + 4 * link.val) = true) ∧ (∃ (s : State) (link : Fin 8) (time : Nat) (bs : List Byte) (rest : List
      (Nat × List Byte)), takeKind (· == stcTypeHello) (Map.get [] link s.stc.inbox) = some ((time, bs), rest) ∧ s.stcCheck link bs = 0 ∧ s.stcLink link = 1 ∧ beField
      (bs.drop 16) 0 1 / 64 ≠ s.devid) ∧ (∃ (s : State) (link : Fin 8) (time : Nat) (bs : List Byte) (rest : List (Nat × List Byte)), takeKind (· == stcTypeHello)
      (Map.get [] link s.stc.inbox) = some ((time, bs), rest) ∧ s.stcCheck link bs = 0 ∧ s.stcLink link = 1 ∧ beField (bs.drop 16) 0 1 / 64 = s.devid) ∧ (∃ (s : State)
      (link : Fin 8) (time : Nat) (bs : List Byte) (rest : List (Nat × List Byte)), takeKind (· == stcTypeHello) (Map.get [] link s.stc.inbox) = some ((time, bs), rest)
      ∧ s.stcCheck link bs = 0 ∧ s.stcLink link = 2 ∧ beField (bs.drop 16) 0 1 / 64 ≠ s.nbDevid link) ∧ (∃ (s : State) (link : Fin 8) (time : Nat) (bs : List Byte) (rest
      : List (Nat × List Byte)), takeKind (· == stcTypeHello) (Map.get [] link s.stc.inbox) = some ((time, bs), rest) ∧ s.stcCheck link bs = 0 ∧ s.stcLink link = 2 ∧
      beField (bs.drop 16) 0 1 / 64 = s.nbDevid link ∧ beField (bs.drop 16) 2 2 = s.fld F.PD_STC_LINK_NB_BOOT_ID link) ∧ (∃ (s : State) (link : Fin 8) (time : Nat) (bs :
      List Byte) (rest : List (Nat × List Byte)), takeKind (· == stcTypeHello) (Map.get [] link s.stc.inbox) = some ((time, bs), rest) ∧ s.stcCheck link bs = 0 ∧
      s.stcLink link = 2 ∧ beField (bs.drop 16) 0 1 / 64 = s.nbDevid link ∧ beField (bs.drop 16) 2 2 ≠ s.fld F.PD_STC_LINK_NB_BOOT_ID link) ∧ (∃ (s : State) (link : Fin
      8) (time : Nat) (bs : List Byte) (rest : List (Nat × List Byte)), takeKind (· == stcTypeHello) (Map.get [] link s.stc.inbox) = some ((time, bs), rest) ∧ s.stcCheck
      link bs = 0 ∧ s.stcLink link ≠ 1 ∧ s.stcLink link ≠ 2) ∧ (∃ (s : State) (link : Fin 8) (time : Nat) (bs : List Byte) (rest : List (Nat × List Byte)), takeKind (·
      == stcTypeHello) (Map.get [] link s.stc.inbox) = some ((time, bs), rest) ∧ s.stcCheck link bs ≠ 0) ∧ (∃ (s : State) (link : Fin 8), takeKind (· == stcTypeHello)
      (Map.get [] link s.stc.inbox) = none) ∧ (∃ (s : State) (link : Fin 8), (s.stcLink link = 0 ∨ s.lpUp (480 + 4 * link.val) = false)) ∧ (∃ (s : State) (link : Fin 8),
      s.stcLink link ≠ 2) ∧ (∃ (s : State) (link : Fin 8), s.stcLink link = 2) ∧ (∃ (s : State) (devid : Fin 4) (k : Fin 8), bit (s.fld F.FX_STC_ROUTE_REJOIN_PEND devid)
      k = true ∧ s.stcIdle k = true ∧ (s.activeMembers devid).all s.stcIdle = true) ∧ (∃ (s : State) (devid : Fin 4) (k : Fin 8), bit (s.fld F.FX_STC_ROUTE_REJOIN_PEND
      devid) k = true ∧ s.stc.told.contains (8 * devid.val + k.val) = false) ∧ (∃ (s : State) (devid : Fin 4) (x : Nat × Nat), s.stc.serving.find? (·.1 == devid.val) =
      some x) ∧ (∃ (s : State) (devid : Fin 4), s.linkTo devid = none ∧ s.stc.known.contains devid.val = true) ∧ (∃ (s : State) (who : Party) (devid : Fin 4), s.admits
      who 5 7 = true ∧ devid.val ≠ s.devid) ∧ (∃ (s : State) (who : Party) (devid : Fin 4), s.admits who 5 7 = true ∧ devid.val = s.devid) ∧ (∃ (s : State) (devid : Fin
      4), (∀ k : Fin 8, bit (s.fld F.FX_STC_ROUTE_REJOIN_PEND devid) k = false)) ∧ (∃ (s : State) (devid : Fin 4), (∀ k : Fin 8, bit (s.fld F.FX_STC_ROUTE_REJOIN_PEND
      devid) k = false)) ∧ (∃ (s : State) (devid : Fin 4), s.stc.serving.find? (·.1 == devid.val) = none) ∧ (∃ (s : State) (devid : Fin 4), ((s.linkTo devid).isSome =
      true ∨ s.stc.known.contains devid.val = false)) :=
  ⟨⟨stcRun 1, 7, by decide⟩, ⟨stcIn 1 (stcFrame 4 0x40 0 ([0x40, 0, 0x12, 0x34] ++ List.replicate 12 0)), 7, 5, stcFrame 4 0x40 0 ([0x40, 0, 0x12, 0x34] ++
    List.replicate 12 0), [], by decide⟩, ⟨stcIn 1 (stcFrame 4 0 0 (List.replicate 16 0)), 7, 5, stcFrame 4 0 0 (List.replicate 16 0), [], by decide⟩, ⟨stcIn 2 (stcFrame
    4 0x80 0 ([0x80] ++ List.replicate 15 0)), 7, 5, stcFrame 4 0x80 0 ([0x80] ++ List.replicate 15 0), [], by decide⟩, ⟨(stcIn 2 (stcFrame 4 0x40 0 ([0x40, 0, 0x12,
    0x34] ++ List.replicate 12 0))).setFld F.PD_STC_LINK_NB_BOOT_ID 7 0x1234, 7, 5, stcFrame 4 0x40 0 ([0x40, 0, 0x12, 0x34] ++ List.replicate 12 0), [], by decide⟩,
    ⟨stcIn 2 (stcFrame 4 0x40 0 ([0x40, 0, 0x12, 0x34] ++ List.replicate 12 0)), 7, 5, stcFrame 4 0x40 0 ([0x40, 0, 0x12, 0x34] ++ List.replicate 12 0), [], by decide⟩,
    ⟨stcIn 3 (stcFrame 4 0x40 0 ([0x40, 0, 0x12, 0x34] ++ List.replicate 12 0)), 7, 5, stcFrame 4 0x40 0 ([0x40, 0, 0x12, 0x34] ++ List.replicate 12 0), [], by decide⟩,
    ⟨stcIn 1 (stcFrame 4 0x40 1 []), 7, 5, stcFrame 4 0x40 1 [], [], by decide⟩, ⟨inMode .run, 3, by decide⟩, ⟨inMode .run, 3, by decide⟩, ⟨inMode .run, 3, by decide⟩,
    ⟨(stcRun 2).setFld F.FX_STC_ROUTE_ACTIVE 1 255, 7, by decide⟩, ⟨(stcRun 2).setFld F.FX_STC_ROUTE_REJOIN_PEND 1 0x81, 1, 7, by decide⟩, ⟨(stcRun 2).setFld
    F.FX_STC_ROUTE_REJOIN_PEND 1 0x81, 1, 7, by decide⟩, ⟨(stcRun 2).withStc { serving := [(2, 9), (1, 4)] }, 1, (1, 4), by decide⟩, ⟨((ageTable
    { region := 0, index := 7, key := 2, origin := 1 }).setFlag F.FX_TBE_TBL_CFG_STITCH_SHARE 3 true).withStc { known := [1] }, 1, by decide⟩, ⟨((stcRun 2).setFld
    F.FX_STC_ROUTE_MEMBERS 1 255).setFld F.FX_STC_ROUTE_ACTIVE 1 255, .supervisor, 1, by decide⟩, ⟨stcRun 2, .supervisor, 0, by decide⟩, ⟨inMode .run, 3, by decide⟩,
    ⟨inMode .run, 3, by decide⟩, ⟨inMode .run, 3, by decide⟩, ⟨inMode .run, 3, by decide⟩⟩

set_option maxRecDepth 8000 in
/-- The premises of StitchedDataLearningAndTime can be met. -/
theorem premises_StitchedDataLearningAndTime :
    (∃ (s : State) (link : Fin 8) (time : Nat) (bs : List Byte) (rest : List (Nat × List Byte)), s.inService = true ∧ s.fenced 5 = false ∧ takeKind (fun t => t ==
      stcTypeData || t == 0 || decide (4 < t)) (Map.get [] link s.stc.inbox) = some ((time, bs), rest) ∧ s.stcLink link = 2 ∧ s.stcCheck link bs = 0 ∧ (Map.get [] (30 +
      link.val / 4) s.fx.mainq).length < 64) ∧ (∃ (s : State) (link : Fin 8) (time : Nat) (bs : List Byte) (rest : List (Nat × List Byte)), takeKind (fun t => t ==
      stcTypeData || t == 0 || decide (4 < t)) (Map.get [] link s.stc.inbox) = some ((time, bs), rest) ∧ (s.stcLink link ≠ 2 ∨ s.stcCheck link bs ≠ 0)) ∧ (∃ (s : State)
      (link : Fin 8), (s.inService = false ∨ s.fenced 5 = true ∨ takeKind (fun t => t == stcTypeData || t == 0 || decide (4 < t)) (Map.get [] link s.stc.inbox) = none))
      ∧ (∃ (s : State) (devid : Fin 4) (m : LearnMsg) (rest : List LearnMsg) (e : TEntry), s.inService = true ∧ s.fenced 5 = false ∧ Map.get [] devid s.tbl.inbox = m ::
      rest ∧ (match Map.get none m.origin s.tbl.rxSeq with | none => 0 | some q => (m.seq + 2 ^ 32 - q - 1) % 2 ^ 32) = 0 ∧ s.tblEn m.table = true ∧ s.tblKind m.table =
      0 ∧ s.tblLocal m.table = false ∧ s.flag F.FX_TBE_TBL_CFG_STITCH_SHARE m.table = true ∧ (m.op = msgInsert ∨ m.op = msgMove) ∧ (s.entries m.table).find? (fun e =>
      e.key == m.key) = some e ∧ e.stat = false ∧ ((e.upd < bits m.stamp 16 32 ∨ e.upd = bits m.stamp 16 32 ∧ e.origin < m.origin))) ∧ (∃ (s : State) (devid : Fin 4) (m
      : LearnMsg) (rest : List LearnMsg), s.inService = true ∧ s.fenced 5 = false ∧ Map.get [] devid s.tbl.inbox = m :: rest ∧
      (match Map.get none m.origin s.tbl.rxSeq with | none => 0 | some q => (m.seq + 2 ^ 32 - q - 1) % 2 ^ 32) = 0 ∧ s.tblEn m.table = true ∧ s.tblKind m.table = 0 ∧
      s.tblLocal m.table = false ∧ s.flag F.FX_TBE_TBL_CFG_STITCH_SHARE m.table = true ∧ (m.op = msgInsert ∨ m.op = msgMove) ∧
      ((match (s.entries m.table).find? (fun e => e.key == m.key) with | some e => decide ¬(e.stat = false ∧ (e.upd < bits m.stamp 16 32 ∨ e.upd = bits m.stamp 16 32 ∧ e.origin < m.origin)) | none => (s.placeFor m.table 0 m.key 0).isNone)
      = true)) ∧ (∃ (s : State) (devid : Fin 4) (m : LearnMsg) (rest : List LearnMsg), s.inService = true ∧ s.fenced 5 = false ∧ Map.get [] devid s.tbl.inbox = m :: rest
      ∧ (match Map.get none m.origin s.tbl.rxSeq with | none => 0 | some q => (m.seq + 2 ^ 32 - q - 1) % 2 ^ 32) = 0 ∧ s.tblEn m.table = true ∧ s.tblKind m.table = 0 ∧
      s.tblLocal m.table = false ∧ s.flag F.FX_TBE_TBL_CFG_STITCH_SHARE m.table = true ∧ (m.op = msgInsert ∨ m.op = msgMove) ∧ (s.entries m.table).find? (fun e => e.key
      == m.key) = none ∧ (s.placeFor m.table 0 m.key 0).isSome = true) ∧ (∃ (s : State) (devid : Fin 4) (m : LearnMsg) (rest : List LearnMsg) (e : TEntry), s.inService =
      true ∧ s.fenced 5 = false ∧ Map.get [] devid s.tbl.inbox = m :: rest ∧
      (match Map.get none m.origin s.tbl.rxSeq with | none => 0 | some q => (m.seq + 2 ^ 32 - q - 1) % 2 ^ 32) = 0 ∧ s.tblEn m.table = true ∧ s.tblKind m.table = 0 ∧
      s.tblLocal m.table = false ∧ s.flag F.FX_TBE_TBL_CFG_STITCH_SHARE m.table = true ∧ (m.op = msgAged ∨ m.op = msgRemove) ∧ (s.entries m.table).find? (fun e => e.key
      == m.key) = some e ∧ e.origin = m.origin ∧ e.upd ≤ bits m.stamp 16 32) ∧ (∃ (s : State) (devid : Fin 4) (m : LearnMsg) (rest : List LearnMsg), s.inService = true ∧
      s.fenced 5 = false ∧ Map.get [] devid s.tbl.inbox = m :: rest ∧
      (match Map.get none m.origin s.tbl.rxSeq with | none => 0 | some q => (m.seq + 2 ^ 32 - q - 1) % 2 ^ 32) = 0 ∧ s.tblEn m.table = true ∧ s.tblKind m.table = 0 ∧
      s.tblLocal m.table = false ∧ s.flag F.FX_TBE_TBL_CFG_STITCH_SHARE m.table = true ∧ (m.op = msgAged ∨ m.op = msgRemove) ∧ ((s.entries m.table).find? (fun e => e.key
      == m.key)).all (fun e => e.origin != m.origin || decide (bits m.stamp 16 32 < e.upd)) = true) ∧ (∃ (s : State) (devid : Fin 4) (m : LearnMsg) (rest : List
      LearnMsg) (q : Nat) (n : Nat), s.inService = true ∧ s.fenced 5 = false ∧ Map.get [] devid s.tbl.inbox = m :: rest ∧ Map.get none m.origin s.tbl.rxSeq = some q ∧
      (m.seq + 2 ^ 32 - q - 1) % 2 ^ 32 = n ∧ n ≠ 0) ∧ (∃ (s : State) (devid : Fin 4), (s.inService = false ∨ s.fenced 5 = true ∨ Map.get [] devid s.tbl.inbox = [])) ∧
      (∃ (s : State) (k : Nat), s.inService = true ∧ s.timeSlave = true ∧ s.linkTo s.masterOf = some k) ∧ (∃ (s : State), s.inService = true ∧ s.timeSlave = true ∧
      s.stc.waiting = true ∧ 2 ≤ s.stc.missed ∧ s.syncState = 2) ∧ (∃ (s : State) (link : Fin 8) (time : Nat) (bs : List Byte) (rest : List (Nat × List Byte)) (off :
      Int), s.inService = true ∧ takeKind (· == stcTypeTime) (Map.get [] link s.stc.inbox) = some ((time, bs), rest) ∧ s.stcLink link = 2 ∧ s.stcCheck link bs = 0 ∧
      s.timeSlave = true ∧ s.nbDevid link = s.masterOf ∧ beField (bs.drop 16) 16 8 ≠ 0 ∧ ((beField (bs.drop 16) 8 8 : Int) - beField (bs.drop 16) 16 8) - (((time : Int)
      - beField (bs.drop 16) 16 8) - ((beField (bs.drop 16) 0 8 : Int) - beField (bs.drop 16) 8 8)) / 2 = off ∧ 0 < off ∧ off < 2 ^ 63) ∧ (∃ (s : State) (link : Fin 8)
      (time : Nat) (bs : List Byte) (rest : List (Nat × List Byte)) (off : Int), s.inService = true ∧ takeKind (· == stcTypeTime) (Map.get [] link s.stc.inbox) = some
      ((time, bs), rest) ∧ s.stcLink link = 2 ∧ s.stcCheck link bs = 0 ∧ s.timeSlave = true ∧ s.nbDevid link = s.masterOf ∧ beField (bs.drop 16) 16 8 ≠ 0 ∧ ((beField
      (bs.drop 16) 8 8 : Int) - beField (bs.drop 16) 16 8) - (((time : Int) - beField (bs.drop 16) 16 8) - ((beField (bs.drop 16) 0 8 : Int) - beField (bs.drop 16) 8 8))
      / 2 = off ∧ -100000000 ≤ off ∧ off < 0) ∧ (∃ (s : State) (link : Fin 8) (time : Nat) (bs : List Byte) (rest : List (Nat × List Byte)), s.inService = true ∧
      takeKind (· == stcTypeTime) (Map.get [] link s.stc.inbox) = some ((time, bs), rest) ∧ s.stcLink link = 2 ∧ s.stcCheck link bs = 0 ∧ s.timeSlave = false) ∧ (∃ (s :
      State) (link : Fin 8) (time : Nat) (bs : List Byte) (rest : List (Nat × List Byte)) (off : Int), s.inService = true ∧ takeKind (· == stcTypeTime) (Map.get [] link
      s.stc.inbox) = some ((time, bs), rest) ∧ s.stcLink link = 2 ∧ s.stcCheck link bs = 0 ∧ s.timeSlave = true ∧ s.nbDevid link = s.masterOf ∧ beField (bs.drop 16) 16 8
      ≠ 0 ∧ ((beField (bs.drop 16) 8 8 : Int) - beField (bs.drop 16) 16 8) - (((time : Int) - beField (bs.drop 16) 16 8) - ((beField (bs.drop 16) 0 8 : Int) - beField
      (bs.drop 16) 8 8)) / 2 = off ∧ off < -100000000) ∧ (∃ (s : State), (s.inService = false ∨ s.timeSlave = false)) :=
  ⟨⟨stcIn 2 (stcFrame 1 0x40 5 (List.replicate 14 7)), 7, 5, stcFrame 1 0x40 5 (List.replicate 14 7), [], by decide⟩, ⟨stcIn 1 (stcFrame 1 0x40 5 (List.replicate 14 7)),
    7, 5, stcFrame 1 0x40 5 (List.replicate 14 7), [], by decide⟩, ⟨inMode .run, 3, by decide⟩, ⟨learnRun 0 (learnOf (learnFrame.drop 16)), 1, learnOf (learnFrame.drop
    16), [], { region := 0, index := 7, key := 2 }, by decide⟩, ⟨learnRun 5 (learnOf (learnFrame.drop 16)), 1, learnOf (learnFrame.drop 16), [], by decide⟩, ⟨(learnRun 0
    (learnOf (learnFrame.drop 16))).withTbl { inbox := [(1, [learnOf (learnFrame.drop 16)])] }, 1, learnOf (learnFrame.drop 16), [], by decide⟩, ⟨learnRun 0
    ({ learnOf (learnFrame.drop 16) with op := 4, origin := 0 }), 1, { learnOf (learnFrame.drop 16) with op := 4, origin := 0 }, [],
    { region := 0, index := 7, key := 2 }, by decide⟩, ⟨learnRun 0 ({ learnOf (learnFrame.drop 16) with op := 3 }), 1, { learnOf (learnFrame.drop 16) with op := 3 }, [],
    by decide⟩, ⟨(learnRun 0 (learnOf (learnFrame.drop 16))).withTbl { (learnRun 0 (learnOf (learnFrame.drop 16))).tbl with rxSeq := [(1, some 3)] }, 1, learnOf
    (learnFrame.drop 16), [], 3, 5, by decide⟩, ⟨inMode .run, 3, by decide⟩, ⟨slaveRun [], 7, by decide⟩, ⟨((slaveRun []).withStc
    { hellos := [(7, {})], waiting := true, missed := 2 }).setFld F.AO_TB_STATUS_SYNC 0 2, by decide⟩, ⟨slaveRun [(120, timeFrame 160 100)], 7, 120, timeFrame 160 100,
    [], 20, by decide⟩, ⟨slaveRun [(100000300, timeFrame 160 200)], 7, 100000300, timeFrame 160 200, [], -50000020, by decide⟩, ⟨(slaveRun [(120, timeFrame 160
    100)]).setFlag F.AO_TB_CTRL_SERVO_EN 0 false, 7, 120, timeFrame 160 100, [], by decide⟩, ⟨slaveRun [(300000300, timeFrame 160 200)], 7, 300000300, timeFrame 160 200,
    [], -150000020, by decide⟩, ⟨inMode .run, by decide⟩⟩

set_option maxRecDepth 8000 in
/-- The premises of HbmLayoutScrubAndStacks can be met. -/
theorem premises_HbmLayoutScrubAndStacks :
    (∃ (s : State) (who : Party) (v : Word), s.admits who 8 0 = true ∧ s.ringUp = true ∧ s.lockHit F.MX_HBM_PART_WC_SIZE 0 = false ∧ partRefused (bits v.toNat 8 4) (bits
      v.toNat 0 5) = false) ∧ (∃ (s : State) (who : Party) (v : Word), s.admits who 8 0 = true ∧ s.ringUp = true ∧ s.lockHit F.MX_HBM_PART_WC_SIZE 0 = false ∧
      partRefused (bits v.toNat 8 4) (bits v.toNat 0 5) = true) ∧ (∃ (s : State) (who : Party), s.admits who 8 0 = true ∧ s.ringUp = true ∧ s.lockHit
      F.MX_HBM_PART_WC_SIZE 0 = true) ∧ (∃ (s : State) (stack : Fin 4), s.ringUp = true ∧ s.fld F.MX_HBM_STACK_CTRL_STATE stack < 2) ∧ (∃ (s : State) (stack : Fin 4) (r
      : ScrubResult), s.ringUp = true ∧ s.fld F.MX_HBM_STACK_CTRL_STATE stack < 2 ∧ r ≠ .corrected) ∧ (∃ (s : State) (stack : Fin 4), (s.ringUp = false ∨ 2 ≤ s.fld
      F.MX_HBM_STACK_CTRL_STATE stack)) ∧ (∃ (s : State) (stack : Fin 4) (addr : Dword), s.ringUp = true ∧ s.fld F.MX_HBM_STACK_CTRL_STATE stack < 2 ∧ s.coreStack
      addr.toNat = some stack.val) ∧ (∃ (s : State) (who : Party) (stack : Fin 4), s.admits who 8 0 = true ∧ s.ringUp = true ∧ s.stackHolds stack = false ∧ s.fld
      F.MX_HBM_STACK_CTRL_STATE stack < 2) ∧ (∃ (s : State) (who : Party) (stack : Fin 4), s.admits who 8 0 = true ∧ s.ringUp = true ∧ s.stackHolds stack = true) ∧ (∃ (s
      : State) (who : Party) (stack : Fin 4), s.admits who 8 0 = true ∧ s.stackHolds stack = false ∧ 2 ≤ s.fld F.MX_HBM_STACK_CTRL_STATE stack) ∧ (∃ (s : State) (who :
      Party) (stack : Fin 4), s.admits who 8 0 = true ∧ s.ringUp = true ∧ s.fld F.MX_HBM_STACK_CTRL_STATE stack = 2) ∧ (∃ (s : State) (stack : Fin 4), s.fld
      F.MX_HBM_STACK_CTRL_STATE stack = 3) ∧ (∃ (s : State) (stack : Fin 4), s.fld F.MX_HBM_STACK_CTRL_STATE stack ≠ 3) :=
  ⟨⟨inMode .boot, .supervisor, 0xE03, by decide⟩, ⟨inMode .boot, .supervisor, 0x01F, by decide⟩, ⟨(inMode .boot).withLocks [(8, true)], .supervisor, by decide⟩, ⟨inMode
    .vault, 3, by decide⟩, ⟨inMode .run, 1, .peer 0, by decide⟩, ⟨State.reset, 1, by decide⟩, ⟨inMode .run, 1, 0x1400000000, by decide⟩, ⟨((inMode .run).setFld
    F.MX_HBM_PART_WC_STACKS 0 1).withMem [(0x1C00000000, 7)], .supervisor, 3, by decide⟩, ⟨inMode .run, .supervisor, 0, by decide⟩, ⟨((inMode .run).setFld
    F.MX_HBM_PART_WC_SIZE 0 0).setFld F.MX_HBM_STACK_CTRL_STATE 3 2, .supervisor, 3, by decide⟩, ⟨(inMode .run).setFld F.MX_HBM_STACK_CTRL_STATE 3 2, .supervisor, 3, by
    decide⟩, ⟨(inMode .run).setFld F.MX_HBM_STACK_CTRL_STATE 3 3, 3, by decide⟩, ⟨inMode .run, 3, by decide⟩⟩

set_option maxRecDepth 8000 in
/-- The premises of HostSublinksAndReads can be met. -/
theorem premises_HostSublinksAndReads :
    (∃ (s : State) (link : Fin 2) (n : Fin 2), s.hlAllowed link = true ∧ n.val ∈ s.sublinks link ∧ s.hlState link n = 0) ∧ (∃ (s : State) (link : Fin 2) (sub : Fin 2)
      (rate : Fin 7) (width : Fin 17) (flit : Bool) (power : Fin 3), 1 ≤ s.hlState link sub ∧ s.hostFits link rate width power flit = true) ∧ (∃ (s : State) (link : Fin
      2) (sub : Fin 2) (rate : Fin 7) (width : Fin 17) (flit : Bool) (power : Fin 3), (s.hlState link sub = 0 ∨ s.hostFits link rate width power flit = false)) ∧ (∃ (s :
      State) (link : Fin 2) (sub : Fin 2), s.hlState link sub = 1) ∧ (∃ (s : State) (link : Fin 2) (sub : Fin 2), (s.hlState link sub = 2 ∨ s.hlState link sub = 3)) ∧ (∃
      (s : State) (link : Fin 2) (sub : Fin 2), (s.hlState link sub = 2 ∨ s.hlState link sub = 3)) ∧ (∃ (s : State) (link : Fin 2) (sub : Fin 2), s.hlState link sub ≠ 1)
      ∧ (∃ (s : State) (link : Fin 2) (sub : Fin 2), s.hlState link sub ≠ 2 ∧ s.hlState link sub ≠ 3) ∧ (∃ (s : State) (link : Fin 2) (sub : Fin 2), s.hlState link sub ≠
      2 ∧ s.hlState link sub ≠ 3) ∧ (∃ (s : State) (link : Fin 2) (tag : Fin 1024) (n : Fin 4097) (r : HostRead), (s.host link).reads.find? (·.tag == tag.val) = some r ∧
      n.val < r.left) ∧ (∃ (s : State) (link : Fin 2) (tag : Fin 1024) (n : Fin 4097) (r : HostRead), (s.host link).reads.find? (·.tag == tag.val) = some r ∧ r.left ≤
      n.val ∧ (s.host link).queue = []) ∧ (∃ (s : State) (link : Fin 2) (tag : Fin 1024) (r : HostRead), (s.host link).reads.find? (·.tag == tag.val) = some r) ∧ (∃ (s :
      State) (link : Fin 2) (tag : Fin 1024) (r : HostRead), (s.host link).reads.find? (·.tag == tag.val) = some r) ∧ (∃ (s : State) (link : Fin 2) (tag : Fin 1024),
      (s.host link).reads.find? (·.tag == tag.val) = none ∧ (s.host link).dead.find? (·.tag == tag.val) = none) ∧ (∃ (s : State) (link : Fin 2) (tag : Fin 1024) (d :
      DeadTag), (s.host link).reads.find? (·.tag == tag.val) = none ∧ (s.host link).dead.find? (·.tag == tag.val) = some d) ∧ (∃ (s : State) (link : Fin 2) (tag : Fin
      1024) (r : HostRead), (s.host link).reads.find? (·.tag == tag.val) = some r ∧ r.expires ≤ s.now) ∧ (∃ (s : State) (link : Fin 2) (tag : Fin 1024), (s.host
      link).reads.find? (·.tag == tag.val) = none ∧ (s.host link).dead.any (fun d => d.tag == tag.val && d.abandoned && decide (d.expires ≤ s.now)) = true) ∧ (∃ (s :
      State) (link : Fin 2) (tag : Fin 1024), (((s.host link).reads.find? (·.tag == tag.val)).any (fun r => decide (s.now < r.expires)) = true ∨ (s.host
      link).reads.find? (·.tag == tag.val) = none ∧ (s.host link).dead.any (fun d => d.tag == tag.val && d.abandoned && decide (d.expires ≤ s.now)) = false)) ∧ (∃ (s :
      State) (h : Fin 2) (n : Fin 2), hlTraining ≤ s.hlState h n) ∧ (∃ (s : State) (h : Fin 2) (n : Fin 2), s.hlState h n = 0) :=
  ⟨⟨(inMode .run).setFlag F.HX_PCIE_LINK_CFG_BIFUR 1 true, 1, 1, by decide⟩, ⟨(inMode .boot).setFld F.HX_PCIE_LINK_STATUS_STATE 3 1, 1, 1, 6, 16, true, 1, by decide⟩,
    ⟨inMode .run, 1, 1, 6, 16, false, 1, by decide⟩, ⟨(inMode .boot).setFld F.HX_PCIE_LINK_STATUS_STATE 3 1, 1, 1, by decide⟩, ⟨(inMode .run).setFld
    F.HX_PCIE_LINK_STATUS_STATE 2 3, 1, 0, by decide⟩, ⟨(inMode .run).setFld F.HX_PCIE_LINK_STATUS_STATE 2 2, 1, 0, by decide⟩, ⟨inMode .run, 1, 1, by decide⟩, ⟨inMode
    .run, 1, 1, by decide⟩, ⟨inMode .run, 1, 1, by decide⟩, ⟨oneRead, 1, 767, 63, hostRead767, by decide⟩, ⟨oneRead, 1, 767, 64, hostRead767, by decide⟩, ⟨oneRead, 1,
    767, hostRead767, by decide⟩, ⟨oneRead, 1, 767, hostRead767, by decide⟩, ⟨inMode .run, 1, 0, by decide⟩, ⟨oneRead.withHosts [(1,
    { dead := [{ tag := 0, abandoned := true, expires := 0, until' := 9 }] })], 1, 0, { tag := 0, abandoned := true, expires := 0, until' := 9 }, by decide⟩, ⟨oneRead,
    1, 767, hostRead767, by decide⟩, ⟨oneRead.withHosts [(1, { dead := [{ tag := 0, abandoned := true, expires := 0, until' := 9 }] })], 1, 0, by decide⟩, ⟨inMode .run,
    1, 0, by decide⟩, ⟨(inMode .run).setFld F.HX_PCIE_LINK_STATUS_STATE 1 hlTraining, 0, 1, by decide⟩, ⟨inMode .run, 1, 1, by decide⟩⟩

set_option maxRecDepth 8000 in
/-- The premises of ConfigurationAndFunctions can be met. -/
theorem premises_ConfigurationAndFunctions :
    (∃ (s : State) (fi : Fin 2056), s.hlState (linkOf fi) (s.sublinkOf fi) = 3 ∧ ¬(s.mode = .safetyNet ∧ fi.val ≠ 0) ∧ (fi.val < 8 ∨ s.live fi = true) ∧ (s.cfg
      fi).resetting = 0) ∧ (∃ (s : State) (fi : Fin 2056), s.hlState (linkOf fi) (s.sublinkOf fi) = 3 ∧ ¬(s.mode = .safetyNet ∧ fi.val ≠ 0) ∧ (fi.val < 8 ∨ s.live fi =
      true) ∧ (s.cfg fi).resetting = 0) ∧ (∃ (s : State) (fi : Fin 2056), s.hlState (linkOf fi) (s.sublinkOf fi) = 3 ∧ ¬(s.mode = .safetyNet ∧ fi.val ≠ 0) ∧ (fi.val < 8
      ∨ s.live fi = true) ∧ (s.cfg fi).resetting = 0) ∧ (∃ (s : State) (fi : Fin 2056), s.hlState (linkOf fi) (s.sublinkOf fi) = 3 ∧ ¬(s.mode = .safetyNet ∧ fi.val ≠ 0)
      ∧ (fi.val < 8 ∨ s.live fi = true) ∧ (s.cfg fi).resetting = 0) ∧ (∃ (s : State) (fi : Fin 2056), s.hlState (linkOf fi) (s.sublinkOf fi) = 3 ∧ ¬(s.mode = .safetyNet
      ∧ fi.val ≠ 0) ∧ (fi.val < 8 ∨ s.live fi = true) ∧ (s.cfg fi).resetting = 0) ∧ (∃ (s : State) (fi : Fin 2056), s.hlState (linkOf fi) (s.sublinkOf fi) = 3 ∧ ¬(s.mode
      = .safetyNet ∧ fi.val ≠ 0) ∧ (fi.val < 8 ∨ s.live fi = true) ∧ (s.cfg fi).resetting = 0) ∧ (∃ (s : State) (fi : Fin 2056), s.hlState (linkOf fi) (s.sublinkOf fi) =
      3 ∧ ¬(s.mode = .safetyNet ∧ fi.val ≠ 0) ∧ (fi.val < 8 ∨ s.live fi = true) ∧ (s.cfg fi).resetting = 0) ∧ (∃ (s : State) (fi : Fin 2056), s.hlState (linkOf fi)
      (s.sublinkOf fi) = 3 ∧ ¬(s.mode = .safetyNet ∧ fi.val ≠ 0) ∧ (fi.val < 8 ∨ s.live fi = true) ∧ (s.cfg fi).resetting = 0) ∧ (∃ (s : State) (fi : Fin 2056),
      s.hlState (linkOf fi) (s.sublinkOf fi) = 3 ∧ ¬(s.mode = .safetyNet ∧ fi.val ≠ 0) ∧ (fi.val < 8 ∨ s.live fi = true) ∧ (s.cfg fi).resetting = 0) ∧ (∃ (s : State) (fi
      : Fin 2056), s.hlState (linkOf fi) (s.sublinkOf fi) = 3 ∧ ¬(s.mode = .safetyNet ∧ fi.val ≠ 0) ∧ (fi.val < 8 ∨ s.live fi = true) ∧ (s.cfg fi).resetting = 0) ∧ (∃ (s
      : State) (fi : Fin 2056), (s.hlState (linkOf fi) (s.sublinkOf fi) = 2 ∨ s.hlState (linkOf fi) (s.sublinkOf fi) = 3 ∧ (s.cfg fi).resetting ≠ 0) ∧ ¬(s.mode =
      .safetyNet ∧ fi.val ≠ 0) ∧ (fi.val < 8 ∨ s.live fi = true ∨ (s.cfg fi).resetting ≠ 0)) ∧ (∃ (s : State) (fi : Fin 2056), (s.hlState (linkOf fi) (s.sublinkOf fi) =
      2 ∨ s.hlState (linkOf fi) (s.sublinkOf fi) = 3) ∧ (s.mode = .safetyNet ∧ fi.val ≠ 0 ∨ 8 ≤ fi.val ∧ s.live fi = false ∧ (s.cfg fi).resetting = 0)) ∧ (∃ (s : State)
      (fi : Fin 2056), s.hlState (linkOf fi) (s.sublinkOf fi) < 2) ∧ (∃ (s : State) (fi : Fin 2056) (r : Fin 65536), s.hlState (linkOf fi) (s.sublinkOf fi) = 3 ∧
      ¬(s.mode = .safetyNet ∧ fi.val ≠ 0) ∧ (fi.val < 8 ∨ s.live fi = true) ∧ (s.cfg fi).resetting = 0 ∧ (8 ≤ fi.val ∨ (s.cfg fi).mse = true) ∧ (s.cfg fi).bme = true ∧
      s.ringOwner r = some fi.val ∧ s.ringState r = 1) ∧ (∃ (s : State) (fi : Fin 2056), s.hlState (linkOf fi) (s.sublinkOf fi) = 3 ∧ ¬(s.mode = .safetyNet ∧ fi.val ≠ 0)
      ∧ (fi.val < 8 ∨ s.live fi = true) ∧ (s.cfg fi).resetting = 0 ∧ (s.cfg fi).bme = false) ∧ (∃ (s : State) (fi : Fin 2056), s.hlState (linkOf fi) (s.sublinkOf fi) = 3
      ∧ ¬(s.mode = .safetyNet ∧ fi.val ≠ 0) ∧ (fi.val < 8 ∨ s.live fi = true) ∧ (s.cfg fi).resetting = 0) ∧ (∃ (s : State) (fi : Fin 2056), (s.cfg fi).resetting ≠ 0 ∧
      (s.cfg fi).resetting ≠ 4) ∧ (∃ (s : State) (fi : Fin 2056), (s.cfg fi).resetting = 1) ∧ (∃ (s : State) (fi : Fin 2056), ((s.cfg fi).resetting = 0 ∨ (s.cfg
      fi).resetting = 4)) ∧ (∃ (s : State) (fi : Fin 2056) (vec : Fin 2048), vec.val < s.fld F.HX_FN_REC_VEC_COUNT fi ∧ (s.cfg fi).bme = true ∧ (s.cfg fi).msixMask =
      false ∧ bit (s.fld F.HX_FNV_PBA_PBA (fi.val * 64 + vec.val / 32)) (vec.val % 32) = true) ∧ (∃ (s : State) (fi : Fin 2056) (vec : Fin 2048), vec.val < s.fld
      F.HX_FN_REC_VEC_COUNT fi ∧ ((s.cfg fi).bme = false ∨ (s.cfg fi).msixMask = true)) ∧ (∃ (s : State) (fi : Fin 2056) (vec : Fin 2048), s.fld F.HX_FN_REC_VEC_COUNT fi
      ≤ vec.val) ∧ (∃ (s : State) (who : Party) (fi : Fin 2064), s.admits who 6 2 = true ∧ s.recOpen who fi = true) ∧ (∃ (s : State) (who : Party) (fi : Fin 2064),
      s.admits who 6 2 = true ∧ s.recOpen who fi = true) ∧ (∃ (s : State) (who : Party) (fi : Fin 2064), s.admits who 6 2 = true ∧ s.recOpen who fi = true) ∧ (∃ (s :
      State) (who : Party) (fi : Fin 2064), s.admits who 6 2 = true ∧ s.recOpen who fi = true) ∧ (∃ (s : State) (who : Party) (fi : Fin 2064), s.admits who 6 2 = true ∧
      s.recOpen who fi = true) ∧ (∃ (s : State) (who : Party) (fi : Fin 2064), s.admits who 6 2 = true ∧ s.recOpen who fi = true) ∧ (∃ (s : State) (who : Party) (fi :
      Fin 2064), s.admits who 6 2 = true ∧ s.recOpen who fi = true) ∧ (∃ (s : State) (who : Party) (fi : Fin 2064), s.admits who 6 2 = true ∧ s.recOpen who fi = true) ∧
      (∃ (s : State) (who : Party) (fi : Fin 2064), s.admits who 6 2 = true ∧ s.recOpen who fi = false) ∧ (∃ (s : State) (pf : Fin 8), s.hlState (linkOf pf) (s.sublinkOf
      pf) = 3 ∧ ¬(s.mode = .safetyNet ∧ pf.val ≠ 0) ∧ (s.cfg pf).resetting = 0 ∧ (s.cfg pf).vfEn = false) ∧ (∃ (s : State) (pf : Fin 8), s.hlState (linkOf pf)
      (s.sublinkOf pf) = 3 ∧ ¬(s.mode = .safetyNet ∧ pf.val ≠ 0) ∧ (s.cfg pf).resetting = 0 ∧ (s.cfg pf).vfEn = true) ∧ (∃ (s : State) (pf : Fin 8), s.hlState (linkOf
      pf) (s.sublinkOf pf) = 3 ∧ ¬(s.mode = .safetyNet ∧ pf.val ≠ 0) ∧ (s.cfg pf).resetting = 0 ∧ (s.cfg pf).vfEn = true) ∧ (∃ (s : State) (pf : Fin 8), s.hlState
      (linkOf pf) (s.sublinkOf pf) = 3 ∧ ¬(s.mode = .safetyNet ∧ pf.val ≠ 0) ∧ (s.cfg pf).resetting = 0 ∧ (s.cfg pf).vfEn = false) ∧ (∃ (s : State) (fi : Fin 2056),
      (s.cfg fi).resetting = 4) ∧ (∃ (s : State) (fi : Fin 2056), (s.cfg fi).resetting = 4 ∧ (8 ≤ fi.val ∧ ((s.cfg fi).vfPend = false ∨ (s.cfg (pfOf fi)).vfEn = false) ∨
      fi.val < 8 ∧ s.live fi = false ∧ (s.cfg fi).vfPend = false)) ∧ (∃ (s : State) (fi : Fin 2056), (s.cfg fi).resetting ≠ 4) :=
  ⟨⟨linkRun 0, 7, by decide⟩, ⟨linkRun 0, 7, by decide⟩, ⟨linkRun 0, 7, by decide⟩, ⟨linkRun 0, 7, by decide⟩, ⟨linkRun 0, 7, by decide⟩, ⟨linkRun 0, 7, by decide⟩,
    ⟨linkRun 0, 7, by decide⟩, ⟨linkRun 0, 7, by decide⟩, ⟨linkRun 0, 7, by decide⟩, ⟨linkRun 0, 7, by decide⟩, ⟨(linkRun 0).setFld F.HX_PCIE_LINK_STATUS_STATE 2 2, 7,
    by decide⟩, ⟨linkRun 0, 2055, by decide⟩, ⟨inMode .run, 7, by decide⟩, ⟨linkRun 0, 7, 5, by decide⟩, ⟨(linkRun 0).withCfgs [], 7, by decide⟩, ⟨linkRun 0, 7, by
    decide⟩, ⟨(linkRun 0).withCfgs [(2055, { resetting := 3, bme := true })], 2055, by decide⟩, ⟨(linkRun 0).withCfgs [(2055, { resetting := 1, bme := true })], 2055, by
    decide⟩, ⟨linkRun 0, 7, by decide⟩, ⟨((linkRun 0).setFld F.HX_FN_REC_VEC_COUNT 7 64).setFld F.HX_FNV_PBA_PBA (7 * 64 + 1) 0x80000000, 7, 63, by decide⟩, ⟨(((linkRun
    0).setFld F.HX_FN_REC_VEC_COUNT 7 64).setFld F.HX_FNV_PBA_PBA (7 * 64 + 1) 0x80000000).withCfgs [], 7, 63, by decide⟩, ⟨linkRun 0, 7, 63, by decide⟩, ⟨inMode .boot,
    .supervisor, 2063, by decide⟩, ⟨inMode .boot, .supervisor, 2063, by decide⟩, ⟨inMode .boot, .supervisor, 2063, by decide⟩, ⟨inMode .boot, .supervisor, 2063, by
    decide⟩, ⟨inMode .boot, .supervisor, 2063, by decide⟩, ⟨inMode .boot, .supervisor, 2063, by decide⟩, ⟨inMode .boot, .supervisor, 2063, by decide⟩, ⟨inMode .boot,
    .supervisor, 2063, by decide⟩, ⟨inMode .run, .supervisor, 2063, by decide⟩, ⟨(linkRun 0).withCfgs [(7, { numVfs := 2 })], 7, by decide⟩, ⟨(linkRun 0).withCfgs [(7,
    { numVfs := 2, vfEn := true })], 7, by decide⟩, ⟨(linkRun 0).withCfgs [(7, { numVfs := 2, vfEn := true })], 7, by decide⟩, ⟨linkRun 0, 7, by decide⟩, ⟨((linkRun
    0).withCfgs [(2055, { resetting := 4 })]).setFlag F.HX_FN_REC_COMMITTED 2055 true, 2055, by decide⟩, ⟨((linkRun 0).withCfgs [(2055, { resetting := 4 })]).setFlag
    F.HX_FN_REC_COMMITTED 2055 true, 2055, by decide⟩, ⟨linkRun 0, 7, by decide⟩⟩

set_option maxRecDepth 8000 in
/-- The premises of DirtyPageLoggingAndDrives can be met. -/
theorem premises_DirtyPageLoggingAndDrives :
    (∃ (s : State) (who : Party) (slot : Fin 64) (v : Word), s.admits who 6 2 = true ∧ bit v.toNat 31 = true ∧ bit v.toNat 30 = false ∧ s.flag F.HX_FN_DLOG_EN slot =
      false ∧ ((s.listed F.HX_FN_DLOG_EN).foldl (fun a j => a + s.shadowBytes j) 0) + s.shadowBytes slot ≤ 64 * 2 ^ 20 ∧ bits v.toNat 0 12 < 2056 ∧ s.live (bits v.toNat
      0 12) = true) ∧ (∃ (s : State) (who : Party) (slot : Fin 64) (v : Word), s.admits who 6 2 = true ∧ bit v.toNat 31 = true ∧ bit v.toNat 30 = false ∧ s.flag
      F.HX_FN_DLOG_EN slot = false ∧ (2056 ≤ bits v.toNat 0 12 ∨ s.live (bits v.toNat 0 12) = false)) ∧ (∃ (s : State) (who : Party) (slot : Fin 64) (v : Word), s.admits
      who 6 2 = true ∧ bit v.toNat 31 = true ∧ bit v.toNat 30 = false ∧ s.flag F.HX_FN_DLOG_EN slot = false ∧ 64 * 2 ^ 20 < ((s.listed F.HX_FN_DLOG_EN).foldl (fun a j =>
      a + s.shadowBytes j) 0) + s.shadowBytes slot) ∧ (∃ (s : State) (who : Party) (v : Word), bit v.toNat 31 = false ∧ s.admits who 6 2 = true) ∧ (∃ (s : State) (who :
      Party) (slot : Fin 64), s.admits who 6 2 = true ∧ s.flag F.HX_FN_DLOG_EN slot = false) ∧ (∃ (s : State) (slot : Fin 64), (s.flag F.HX_FN_DLOG_BUSY slot = false ∨
      (s.cfg s.mgr).bme = false)) ∧ (∃ (s : State) (slot : Fin 64), (s.flag F.HX_FN_DLOG_EN slot = false ∨ (s.cfg s.mgr).bme = false)) ∧ (∃ (s : State) (who : Party)
      (slot : Fin 64), s.admits who 6 2 = true ∧ s.flag F.HX_FN_DLOG_EN slot = true ∧ s.flag F.HX_FN_DLOG_BUSY slot = false) ∧ (∃ (s : State) (who : Party) (slot : Fin
      64), s.admits who 6 2 = true ∧ s.flag F.HX_FN_DLOG_EN slot = true ∧ s.flag F.HX_FN_DLOG_BUSY slot = true) ∧ (∃ (s : State) (slot : Fin 64), s.mgr < 2056 ∧ s.flag
      F.HX_FN_DLOG_BUSY slot = true ∧ s.masters s.mgr = true ∧ s.fld F.HX_FN_DLOG_RECORD slot % 8 = 0 ∧ s.fld F.HX_FN_DLOG_FUNC slot ≠ s.mgr) ∧ (∃ (s : State) (slot :
      Fin 64), s.mgr < 2056 ∧ s.flag F.HX_FN_DLOG_EN slot = true ∧ (s.cfg s.mgr).bme = true ∧ s.fld F.HX_FN_DLOG_FUNC slot ≠ s.mgr) ∧ (∃ (s : State) (who : Party) (slot
      : Fin 8), s.admits who 6 1 = true ∧ s.slotUsed slot = true ∧ s.drivesRun = true ∧ s.dlState slot = 0) ∧ (∃ (s : State) (slot : Fin 8) (rate : Fin 6) (width : Fin
      17), s.dlState slot = 1 ∧ rate.val ≠ 0 ∧ linkWidth width = true ∧ width.val ≤ s.slotLanes slot) ∧ (∃ (s : State) (slot : Fin 8) (rate : Fin 6) (width : Fin 17),
      (s.dlState slot ≠ 1 ∨ ¬(rate.val ≠ 0 ∧ linkWidth width = true ∧ width.val ≤ s.slotLanes slot))) ∧ (∃ (s : State) (slot : Fin 8), s.dlState slot = 1) ∧ (∃ (s :
      State) (slot : Fin 8) (id : DriveId), s.dlState slot = 2 ∧ id.nvme = true ∧ id.v14 = true ∧ id.spaces.any (fun x => x.2.1 == 512 || x.2.1 == 4096) = true) ∧ (∃ (s
      : State) (slot : Fin 8) (id : DriveId), s.dlState slot = 2 ∧ id.nvme = true ∧ (id.v14 = false ∨ id.spaces.any (fun x => x.2.1 == 512 || x.2.1 == 4096) = false)) ∧
      (∃ (s : State) (slot : Fin 8), s.dlState slot ≠ 2) ∧ (∃ (s : State) (slot : Fin 8) (id : DriveId), s.dlState slot = 2 ∧ id.nvme = false) ∧ (∃ (s : State) (slot :
      Fin 8), s.dlState slot = 2) ∧ (∃ (s : State) (slot : Fin 8), s.dlState slot = 3) ∧ (∃ (s : State) (slot : Fin 8), s.dlState slot = 3) ∧ (∃ (s : State) (slot : Fin
      8), s.dlState slot = 3) ∧ (∃ (s : State) (slot : Fin 8), s.dlState slot ≠ 1) ∧ (∃ (s : State) (slot : Fin 8), s.dlState slot ≠ 2) ∧ (∃ (s : State) (slot : Fin 8),
      s.dlState slot ≠ 3) ∧ (∃ (s : State) (slot : Fin 8), s.dlState slot ≠ 3) ∧ (∃ (s : State) (slot : Fin 8), s.dlState slot ≠ 3) ∧ (∃ (s : State) (who : Party) (slot
      : Fin 8), s.admits who 6 1 = true ∧ s.slotUsed slot = true ∧ (s.dlState slot = 4 ∨ s.dlState slot = 5) ∧ s.fld F.HX_RP_SUBLINK_CTRL_EN slot = 1) ∧ (∃ (s : State)
      (slot : Fin 8) (req : DriveReq), s.dlState slot = 3 ∧ req.allowed = true ∧ (req.write && req.len.val == 4 && decide (0xFEE00000 ≤ req.addr.toNat) && decide
      (req.addr.toNat + 4 ≤ 0xFEE01000)) = false) ∧ (∃ (s : State) (slot : Fin 8) (req : DriveReq), s.dlState slot = 3 ∧ (req.write && req.len.val == 4 && decide
      (0xFEE00000 ≤ req.addr.toNat) && decide (req.addr.toNat + 4 ≤ 0xFEE01000)) = true) ∧ (∃ (s : State) (slot : Fin 8) (req : DriveReq), s.dlState slot = 3 ∧
      req.allowed = false ∧ (req.write && req.len.val == 4 && decide (0xFEE00000 ≤ req.addr.toNat) && decide (req.addr.toNat + 4 ≤ 0xFEE01000)) = false ∧ req.write =
      false) ∧ (∃ (s : State) (slot : Fin 8) (req : DriveReq), s.dlState slot = 3 ∧ req.allowed = false ∧ (req.write && req.len.val == 4 && decide (0xFEE00000 ≤
      req.addr.toNat) && decide (req.addr.toNat + 4 ≤ 0xFEE01000)) = false ∧ req.write = true) ∧ (∃ (s : State) (slot : Fin 8), s.dlState slot ≠ 3) :=
  ⟨⟨(linkRun 0).setFld F.HX_FN_DLOG_LENGTH 63 0xFFFFFFF, .supervisor, 63, 0x80000007, by decide⟩, ⟨linkRun 0, .supervisor, 63, 0x80000808, by decide⟩, ⟨(((((linkRun
    0).setFld F.HX_FN_DLOG_LENGTH 63 0xFFFFFFF).setFld F.HX_FN_DLOG_LENGTH 62 0xFFFFFFF).setFld F.HX_FN_DLOG_LENGTH 61 0xFFFFFFF).setFlag F.HX_FN_DLOG_EN 62
    true).setFlag F.HX_FN_DLOG_EN 61 true, .supervisor, 63, 0x80000007, by decide⟩, ⟨linkRun 0, .supervisor, 7, by decide⟩, ⟨linkRun 0, .supervisor, 63, by decide⟩,
    ⟨linkRun 0, 63, by decide⟩, ⟨linkRun 0, 63, by decide⟩, ⟨(linkRun 0).setFlag F.HX_FN_DLOG_EN 63 true, .supervisor, 63, by decide⟩, ⟨((linkRun 0).setFlag
    F.HX_FN_DLOG_EN 63 true).setFlag F.HX_FN_DLOG_BUSY 63 true, .supervisor, 63, by decide⟩, ⟨(((linkRun 0).setFlag F.HX_FN_DLOG_EN 63 true).setFlag F.HX_FN_DLOG_BUSY 63
    true).withCfgs [(0, { bme := true })] |>.setFld F.HX_FN_DLOG_FUNC 63 7, 63, by decide⟩, ⟨(((linkRun 0).setFlag F.HX_FN_DLOG_EN 63 true).withDlogs [(63,
    { dirty := [0], bits := [(0, 1)] })]).withCfgs [(0, { bme := true })] |>.setFld F.HX_FN_DLOG_FUNC 63 7, 63, by decide⟩, ⟨inMode .run, .supervisor, 7, by decide⟩,
    ⟨driveAt 1, 7, 5, 4, by decide⟩, ⟨driveAt 1, 7, 0, 16, by decide⟩, ⟨driveAt 1, 7, by decide⟩, ⟨driveAt 2, 7,
    { nvme := true, v14 := true, mps := 0, vwc := true, spaces := [(1, 512, false, 8)] }, by decide⟩, ⟨driveAt 2, 7,
    { nvme := true, v14 := true, mps := 0, vwc := true, spaces := [] }, by decide⟩, ⟨driveAt 1, 7, by decide⟩, ⟨driveAt 2, 7,
    { nvme := false, v14 := true, mps := 0, vwc := true, spaces := [] }, by decide⟩, ⟨driveAt 2, 7, by decide⟩, ⟨driveAt 3, 7, by decide⟩, ⟨driveAt 3, 7, by decide⟩,
    ⟨driveAt 3, 7, by decide⟩, ⟨driveAt 4, 7, by decide⟩, ⟨driveAt 4, 7, by decide⟩, ⟨driveAt 4, 7, by decide⟩, ⟨driveAt 4, 7, by decide⟩, ⟨driveAt 4, 7, by decide⟩,
    ⟨(driveAt 5).setFlag F.HX_RP_SUBLINK_CTRL_EN 7 true, .supervisor, 7, by decide⟩, ⟨driveAt 3, 7, { write := false, addr := 0, len := 4, allowed := true }, by decide⟩,
    ⟨driveAt 3, 7, { write := true, addr := 0xFEE00FFC, len := 4, allowed := false }, by decide⟩, ⟨driveAt 3, 7,
    { write := false, addr := 0, len := 4, allowed := false }, by decide⟩, ⟨driveAt 3, 7, { write := true, addr := 0, len := 4, allowed := false }, by decide⟩, ⟨driveAt
    4, 7, by decide⟩⟩

set_option maxRecDepth 8000 in
/-- The premises of RingControl can be met. -/
theorem premises_RingControl :
    (∃ (s : State) (who : Party) (ring : Fin 65536) (v : Word) (p : Nat), s.powered = true ∧ s.fenced 6 = false ∧ s.mayTouch who ring = true ∧ (s.ringOwner ring).isSome
      = true ∧ s.ringState ring ≠ 0 ∧ s.ringState ring ≠ 4 ∧ s.ringKind ring = 0 ∧ v.toNat % 65536 < s.ringN ring ∧ (v.toNat % 65536 + (if bit v.toNat 16 then s.ringN
      ring else 0)) % (2 * s.ringN ring) = p ∧ posDiff (s.ringN ring) p (s.ring ring).h ≤ s.ringN ring ∧ posDiff (s.ringN ring) (s.ring ring).t (s.ring ring).h < posDiff
      (s.ringN ring) p (s.ring ring).h) ∧ (∃ (s : State) (who : Party) (ring : Fin 65536) (v : Word) (p : Nat), s.powered = true ∧ s.fenced 6 = false ∧ s.mayTouch who
      ring = true ∧ (s.ringOwner ring).isSome = true ∧ s.ringState ring ≠ 0 ∧ s.ringState ring ≠ 4 ∧ s.ringKind ring ≠ 0 ∧ v.toNat % 65536 < s.ringN ring ∧ (v.toNat %
      65536 + (if bit v.toNat 16 then s.ringN ring else 0)) % (2 * s.ringN ring) = p ∧ posDiff (s.ringN ring) p (s.ring ring).h ≤ posDiff (s.ringN ring) (s.ring ring).t
      (s.ring ring).h) ∧ (∃ (s : State) (who : Party) (ring : Fin 65536), s.powered = true ∧ s.fenced 6 = false ∧ s.mayTouch who ring = true ∧ (s.ringOwner ring).isSome
      = true ∧ (s.ringState ring = 0 ∨ s.ringState ring = 4)) ∧ (∃ (s : State) (who : Party) (ring : Fin 65536), s.powered = true ∧ s.fenced 6 = false ∧ s.mayTouch who
      ring = true ∧ (s.ringOwner ring).isSome = true ∧ s.ringState ring = 0 ∧ s.ringValid ring = true) ∧ (∃ (s : State) (who : Party) (ring : Fin 65536), s.powered =
      true ∧ s.fenced 6 = false ∧ s.mayTouch who ring = true ∧ (s.ringOwner ring).isSome = true ∧ s.ringState ring = 0 ∧ s.ringValid ring = false) ∧ (∃ (s : State) (who
      : Party) (ring : Fin 65536), s.powered = true ∧ s.fenced 6 = false ∧ s.mayTouch who ring = true ∧ (s.ringOwner ring).isSome = true ∧ s.ringState ring = 1) ∧ (∃ (s
      : State) (ring : Fin 65536), s.ringState ring = 2 ∧ (s.ring ring).work = []) ∧ (∃ (s : State) (who : Party) (ring : Fin 65536), s.powered = true ∧ s.fenced 6 =
      false ∧ s.mayTouch who ring = true ∧ (s.ringOwner ring).isSome = true ∧ s.ringState ring = 3 ∧ s.ringMaster ring = true) ∧ (∃ (s : State) (who : Party) (ring : Fin
      65536), s.powered = true ∧ s.fenced 6 = false ∧ s.mayTouch who ring = true ∧ (s.ringOwner ring).isSome = true ∧ (s.ringState ring = 3 ∨ s.ringState ring = 4)) ∧ (∃
      (s : State) (who : Party) (ring : Fin 65536), s.powered = true ∧ s.fenced 6 = false ∧ s.mayTouch who ring = true ∧ (s.ringOwner ring).isSome = true ∧ s.ringKind
      ring = 0 ∧ (s.ringState ring = 1 ∨ s.ringState ring = 2 ∨ s.ringState ring = 3)) ∧ (∃ (s : State) (ring : Fin 65536) (e : List Byte), s.ownerOf ring < 2056 ∧
      (s.ring ring).asked ≠ 0 ∧ (s.ringState ring = 1 ∨ s.ringState ring = 2) ∧ (s.ring ring).cache = [] ∧ (s.ring ring).f ≠ (s.ring ring).t ∧ (s.ring
      ring).ended.contains (s.ring ring).f = false ∧ leAt e 3 1 / 128 = ownBit (s.ringN ring) (s.ring ring).f) ∧ (∃ (s : State) (ring : Fin 65536), (s.ring ring).asked ≠
      0 ∧ (s.ringState ring = 1 ∨ s.ringState ring = 2)) ∧ (∃ (s : State) (ring : Fin 65536) (e : List Byte), s.ownerOf ring < 2056 ∧ (s.ring ring).asked ≠ 0 ∧
      (s.ringState ring = 1 ∨ s.ringState ring = 2) ∧ (s.ring ring).f ≠ (s.ring ring).t ∧ leAt e 3 1 / 128 ≠ ownBit (s.ringN ring) (s.ring ring).f) ∧ (∃ (s : State)
      (ring : Fin 65536), (s.ring ring).asked ≠ 0 ∧ s.ringState ring ≠ 1 ∧ s.ringState ring ≠ 2) ∧ (∃ (s : State) (ring : Fin 65536), (s.ring ring).asked = 0) ∧ (∃ (s :
      State) (ring : Fin 65536), (s.ringState ring ≠ 2 ∨ (s.ring ring).work ≠ [])) ∧ (∃ (s : State) (who : Party) (ring : Fin 65536), s.powered = true ∧ s.fenced 6 =
      false ∧ s.mayTouch who ring = true ∧ (s.ringOwner ring).isSome = true ∧ s.ringState ring ≠ 0) ∧ (∃ (s : State), s.powered = true ∧ s.fenced 6 = true) ∧ (∃ (s :
      State) (who : Party) (ring : Fin 65536), (s.powered = false ∨ s.fenced 6 = false ∧ s.mayTouch who ring = true ∧ (s.ringOwner ring).isSome = false)) ∧ (∃ (s :
      State) (who : Party) (ring : Fin 65536), s.powered = true ∧ s.fenced 6 = false ∧ s.mayTouch who ring = true ∧ (s.ringOwner ring).isSome = true ∧ s.ringState ring ≠
      1) ∧ (∃ (s : State), s.powered = true ∧ s.fenced 6 = true) ∧ (∃ (s : State) (who : Party) (ring : Fin 65536), (s.powered = false ∨ s.fenced 6 = false ∧ s.mayTouch
      who ring = true ∧ (s.ringOwner ring).isSome = false)) ∧ (∃ (s : State) (who : Party) (ring : Fin 65536), s.powered = true ∧ s.fenced 6 = false ∧ s.mayTouch who
      ring = true ∧ (s.ringOwner ring).isSome = true ∧ (s.ringState ring ≠ 3 ∨ s.ringMaster ring = false)) ∧ (∃ (s : State), s.powered = true ∧ s.fenced 6 = true) ∧ (∃
      (s : State) (who : Party) (ring : Fin 65536), (s.powered = false ∨ s.fenced 6 = false ∧ s.mayTouch who ring = true ∧ (s.ringOwner ring).isSome = false)) ∧ (∃ (s :
      State) (who : Party) (ring : Fin 65536), s.powered = true ∧ s.fenced 6 = false ∧ s.mayTouch who ring = true ∧ (s.ringOwner ring).isSome = true ∧ (¬(s.ringState
      ring = 3 ∨ s.ringState ring = 4))) ∧ (∃ (s : State), s.powered = true ∧ s.fenced 6 = true) ∧ (∃ (s : State) (who : Party) (ring : Fin 65536), (s.powered = false ∨
      s.fenced 6 = false ∧ s.mayTouch who ring = true ∧ (s.ringOwner ring).isSome = false)) ∧ (∃ (s : State) (who : Party) (ring : Fin 65536), s.powered = true ∧
      s.fenced 6 = false ∧ s.mayTouch who ring = true ∧ (s.ringOwner ring).isSome = true ∧ (s.ringKind ring ≠ 0 ∨ ¬(s.ringState ring = 1 ∨ s.ringState ring = 2 ∨
      s.ringState ring = 3))) ∧ (∃ (s : State), s.powered = true ∧ s.fenced 6 = true) ∧ (∃ (s : State) (who : Party) (ring : Fin 65536), (s.powered = false ∨ s.fenced 6
      = false ∧ s.mayTouch who ring = true ∧ (s.ringOwner ring).isSome = false)) ∧ (∃ (s : State) (who : Party) (ring : Fin 65536) (v : Word), s.powered = true ∧
      s.fenced 6 = false ∧ s.mayTouch who ring = true ∧ (s.ringOwner ring).isSome = true ∧ s.ringState ring ≠ 0 ∧ s.ringState ring ≠ 4 ∧ (s.ringN ring ≤ v.toNat % 65536
      ∨ s.ringKind ring = 0 ∧ s.ringN ring < posDiff (s.ringN ring) ((v.toNat % 65536 + (if bit v.toNat 16 then s.ringN ring else 0)) % (2 * s.ringN ring)) (s.ring
      ring).h ∨ s.ringKind ring ≠ 0 ∧ posDiff (s.ringN ring) (s.ring ring).t (s.ring ring).h < posDiff (s.ringN ring) ((v.toNat % 65536 + (if bit v.toNat 16 then s.ringN
      ring else 0)) % (2 * s.ringN ring)) (s.ring ring).h)) ∧ (∃ (s : State), s.powered = true ∧ s.fenced 6 = true) ∧ (∃ (s : State) (who : Party) (ring : Fin 65536),
      s.powered = true ∧ s.fenced 6 = false ∧ s.mayTouch who ring = false) ∧ (∃ (s : State) (who : Party) (ring : Fin 65536), (s.powered = false ∨ s.fenced 6 = false ∧
      s.mayTouch who ring = true ∧ (s.ringOwner ring).isSome = false)) :=
  ⟨⟨ringRun 0 1 {}, .fn 0, 5, 0x10000, 8, by decide⟩, ⟨ringRun 1 1 { t := 3 }, .fn 0, 5, 3, 3, by decide⟩, ⟨ringRun 0 4 {}, .fn 0, 5, by decide⟩, ⟨ringRun 0 0
    { h := 4 }, .fn 0, 5, by decide⟩, ⟨(ringRun 0 0 {}).setFld F.HX_RING_BASE_BASE 5 32, .fn 0, 5, by decide⟩, ⟨ringRun 1 1 {}, .fn 0, 5, by decide⟩, ⟨ringRun 0 2
    { unpub := 1 }, 5, by decide⟩, ⟨(ringRun 0 3 { h := 4, f := 6, d := 5 }).withCfgs [(0, { bme := true })], .fn 0, 5, by decide⟩, ⟨ringRun 0 4
    { h := 4, f := 6, d := 5 }, .fn 0, 5, by decide⟩, ⟨(ringRun 0 3 { h := 4, f := 6, d := 5 }).withCfgs [(0, { bme := true })], .fn 0, 5, by decide⟩, ⟨ringRun 0 1
    { t := 1, asked := 1 }, 5, [0, 0, 0, 128], by decide⟩, ⟨ringRun 0 2 { t := 1, asked := 1 }, 5, by decide⟩, ⟨ringRun 0 1 { t := 1, asked := 1 }, 5, [0, 0, 0, 0], by
    decide⟩, ⟨ringRun 0 3 { t := 1, asked := 1 }, 5, by decide⟩, ⟨ringRun 0 1 { t := 1 }, 5, by decide⟩, ⟨ringRun 0 1 {}, 5, by decide⟩, ⟨ringRun 0 1 {}, .fn 0, 5, by
    decide⟩, ⟨(ringRun 0 1 {}).setFlag F.AO_FLT_REGION_RESETTING 6 true, by decide⟩, ⟨State.reset, .supervisor, 5, by decide⟩, ⟨ringRun 0 0 {}, .fn 0, 5, by decide⟩,
    ⟨(ringRun 0 1 {}).setFlag F.AO_FLT_REGION_RESETTING 6 true, by decide⟩, ⟨State.reset, .supervisor, 5, by decide⟩, ⟨(ringRun 0 3 {}).withCfgs [], .fn 0, 5, by
    decide⟩, ⟨(ringRun 0 1 {}).setFlag F.AO_FLT_REGION_RESETTING 6 true, by decide⟩, ⟨State.reset, .supervisor, 5, by decide⟩, ⟨ringRun 0 1 {}, .fn 0, 5, by decide⟩,
    ⟨(ringRun 0 1 {}).setFlag F.AO_FLT_REGION_RESETTING 6 true, by decide⟩, ⟨State.reset, .supervisor, 5, by decide⟩, ⟨ringRun 1 1 {}, .fn 0, 5, by decide⟩, ⟨(ringRun 0
    1 {}).setFlag F.AO_FLT_REGION_RESETTING 6 true, by decide⟩, ⟨State.reset, .supervisor, 5, by decide⟩, ⟨ringRun 0 1 {}, .fn 0, 5, 8, by decide⟩, ⟨(ringRun 0 1
    {}).setFlag F.AO_FLT_REGION_RESETTING 6 true, by decide⟩, ⟨ringRun 0 1 {}, .fn 3, 5, by decide⟩, ⟨State.reset, .supervisor, 5, by decide⟩⟩

set_option maxRecDepth 8000 in
/-- The premises of DescriptorsRecordsAndDelivery can be met. -/
theorem premises_DescriptorsRecordsAndDelivery :
    (∃ (s : State) (ring : Fin 65536) (d : Desc), (s.ring ring).work.find? (fun d => d.dtype == 0 || !s.mayCarry ring d.dtype) = some d ∧ s.mayCarry ring d.dtype = true)
      ∧ (∃ (s : State) (ring : Fin 65536) (d : Desc), (s.ring ring).work.find? (fun d => d.dtype == 1) = some d ∧ s.mayCarry ring 1 = true ∧ d.zero 4 56 = true ∧ leAt
      d.bytes 0 2 = 0 ∧ (s.ring ring).h = d.pos ∧ (s.ring ring).unpub = 0 ∧ (s.ringState ring = 1 ∨ s.ringState ring = 2) ∧ s.rings.find? (fun e => (s.waitMet
      e.2).isSome && (s.ringState e.1 == ringActive || s.ringState e.1 == ringStopping)) = none) ∧ (∃ (s : State) (ring : Fin 65536) (d : Desc), (s.ring ring).work.find?
      (fun d => d.dtype == 1) = some d ∧ s.mayCarry ring 1 = true ∧ d.zero 4 56 = true ∧ leAt d.bytes 0 2 = 0 ∧ (s.ring ring).h ≠ d.pos ∧ s.rings.find? (fun e =>
      (s.waitMet e.2).isSome && (s.ringState e.1 == ringActive || s.ringState e.1 == ringStopping)) = none) ∧ (∃ (s : State) (ring : Fin 65536) (d : Desc), (s.ring
      ring).work.find? (fun d => d.dtype == 2) = some d ∧ s.mayCarry ring 2 = true ∧ leAt d.bytes 0 2 = 0 ∧ leAt d.bytes 6 2 = 0 ∧ d.zero 16 56 = true ∧ (s.ownerOf ring
      = s.mgr ∨ s.ringOwner (leAt d.bytes 4 2) = s.ringOwner ring) ∧ (s.ring ring).fence = none ∧ (s.ringState (leAt d.bytes 4 2) = 1 ∨ s.ringState (leAt d.bytes 4 2) =
      2 ∨ s.ringState (leAt d.bytes 4 2) = 3) ∧ 2 ^ 31 ≤ ((s.ring (leAt d.bytes 4 2)).pubCount + 2 ^ 32 - leAt d.bytes 8 4) % 2 ^ 32) ∧ (∃ (s : State) (ring : Fin 65536)
      (p : Nat) (target : Nat) (value : Nat) (limit : Nat), (s.ring ring).waiting = some (p, target, value, limit) ∧ limit ≠ 0 ∧ s.ringState ring = 1 ∧ s.waitMet (s.ring
      ring) = none) ∧ (∃ (s : State) (ring : Fin 65536) (d : Desc), s.nextDesc ring = some d ∧ d.dtype = 3 ∧ s.mayCarry ring 3 = true ∧ leAt d.bytes 0 2 = 0 ∧ d.zero 4 8
      = true ∧ d.zero 16 56 = true ∧ leAt d.bytes 8 8 % 64 = 0) ∧ (∃ (s : State) (ring : Fin 65536) (d : Desc), s.fenced 5 = false ∧ (s.ring ring).work.find? (fun d =>
      d.dtype == 0x10) = some d ∧ s.mayCarry ring 0x10 = true ∧ bits (leAt d.bytes 0 4) 14 2 = 0 ∧ bits (leAt d.bytes 0 4) 24 7 = 0 ∧ bits (leAt d.bytes 4 4) 14 18 = 0 ∧
      d.zero 16 56 = true ∧ bits (leAt d.bytes 0 4) 0 10 < 541 ∧ bit (s.fld F.HX_FN_REC_CLASS_MASK (s.ownerOf ring)) (bits (leAt d.bytes 0 4) 10 4) = true ∧ (bits (leAt
      d.bytes 4 4) 0 14 < 14 ∨ 10240 < bits (leAt d.bytes 4 4) 0 14)) ∧ (∃ (s : State) (ring : Fin 65536) (data : List Byte) (d : Desc), s.fenced 5 = false ∧ (s.ring
      ring).work.find? (fun d => d.dtype == 0x10) = some d ∧ s.mayCarry ring 0x10 = true ∧ bits (leAt d.bytes 0 4) 14 2 = 0 ∧ bits (leAt d.bytes 0 4) 24 7 = 0 ∧ bits
      (leAt d.bytes 4 4) 14 18 = 0 ∧ d.zero 16 56 = true ∧ bits (leAt d.bytes 0 4) 0 10 < 541 ∧ bit (s.fld F.HX_FN_REC_CLASS_MASK (s.ownerOf ring)) (bits (leAt d.bytes 0
      4) 10 4) = true ∧ 14 ≤ bits (leAt d.bytes 4 4) 0 14 ∧ bits (leAt d.bytes 4 4) 0 14 ≤ 10240 ∧ s.ownerOf ring < 2056 ∧ data.length = bits (leAt d.bytes 4 4) 0 14) ∧
      (∃ (s : State) (ring : Fin 65536) (pos : Fin 131072), (s.ring ring).work.any (fun d => d.pos == pos.val) = true ∧ (s.ringState ring = 1 ∨ s.ringState ring = 2)) ∧
      (∃ (s : State) (ring : Fin 65536), (s.ring ring).unpub ≠ 0 ∧ s.ringKind ring = 0 ∧ s.ownerOf ring < 2056 ∧ s.masters (s.ownerOf ring) = true ∧ s.fld
      F.HX_RING_HEAD_ADDR_HEAD_ADDR ring % 8 = 0) ∧ (∃ (s : State) (ring : Fin 65536) (g : Staged) (rest : List Staged), stagedFor ring s.staged = some (g, rest) ∧ g.irq
      = none ∧ s.takesRecords ring = true ∧ s.ringFull ring = false ∧ s.fld F.HX_RING_CFG_POLICY ring ≠ 2 ∧ s.ownerOf ring < 2056 ∧ s.masters (s.ownerOf ring) = true ∧
      s.fld F.HX_RING_BASE_BASE ring % 64 = 0) ∧ (∃ (s : State) (ring : Fin 65536) (g : Staged) (rest : List Staged), stagedFor ring s.staged = some (g, rest) ∧ g.irq =
      none ∧ s.takesRecords ring = false) ∧ (∃ (s : State) (ring : Fin 65536) (g : Staged), s.fld F.HX_RING_CFG_POLICY ring = 0 ∧ s.ringLive ring = true ∧ s.ringKind
      ring = 1 ∧ s.ringFull ring = true ∧ s.staged.filter (fun g => g.ring == ring.val) = [g]) ∧ (∃ (s : State) (ring : Fin 65536) (d : Desc), (s.ring ring).work.find?
      (fun d => d.dtype == 0 || !s.mayCarry ring d.dtype) = some d ∧ s.mayCarry ring d.dtype = false) ∧ (∃ (s : State) (ring : Fin 65536) (d : Desc), (s.ring
      ring).work.find? (fun d => d.dtype == 1) = some d ∧ (s.mayCarry ring 1 = false ∨ d.zero 4 56 = false ∨ leAt d.bytes 0 2 ≠ 0)) ∧ (∃ (s : State) (ring : Fin 65536)
      (d : Desc), (s.ring ring).work.find? (fun d => d.dtype == 2) = some d ∧ (s.mayCarry ring 2 = false ∨ leAt d.bytes 0 2 ≠ 0 ∨ leAt d.bytes 6 2 ≠ 0 ∨ d.zero 16 56 =
      false)) ∧ (∃ (s : State) (ring : Fin 65536) (d : Desc), (s.ring ring).work.find? (fun d => d.dtype == 2) = some d ∧ s.mayCarry ring 2 = true ∧ leAt d.bytes 0 2 = 0
      ∧ leAt d.bytes 6 2 = 0 ∧ d.zero 16 56 = true ∧ (¬(s.ownerOf ring = s.mgr ∨ s.ringOwner (leAt d.bytes 4 2) = s.ringOwner ring))) ∧ (∃ (s : State) (ring : Fin 65536)
      (d : Desc), (s.ring ring).work.find? (fun d => d.dtype == 2) = some d ∧ s.mayCarry ring 2 = true ∧ leAt d.bytes 0 2 = 0 ∧ leAt d.bytes 6 2 = 0 ∧ d.zero 16 56 =
      true ∧ (s.ownerOf ring = s.mgr ∨ s.ringOwner (leAt d.bytes 4 2) = s.ringOwner ring) ∧ (s.ring ring).fence = none ∧ 2 ^ 31 ≤ ((s.ring (leAt d.bytes 4 2)).pubCount +
      2 ^ 32 - leAt d.bytes 8 4) % 2 ^ 32 ∧ (s.ringState (leAt d.bytes 4 2) = 0 ∨ 4 ≤ s.ringState (leAt d.bytes 4 2))) ∧ (∃ (s : State) (ring : Fin 65536) (d : Desc),
      (s.ring ring).work.find? (fun d => d.dtype == 2) = some d ∧ s.mayCarry ring 2 = true ∧ leAt d.bytes 0 2 = 0 ∧ leAt d.bytes 6 2 = 0 ∧ d.zero 16 56 = true ∧
      (s.ownerOf ring = s.mgr ∨ s.ringOwner (leAt d.bytes 4 2) = s.ringOwner ring) ∧ (s.ring ring).fence = none ∧ ((s.ring (leAt d.bytes 4 2)).pubCount + 2 ^ 32 - leAt
      d.bytes 8 4) % 2 ^ 32 < 2 ^ 31 ∧ (s.ringState ring = 1 ∨ s.ringState ring = 2) ∧ s.rings.find? (fun e => (s.waitMet e.2).isSome && (s.ringState e.1 == ringActive
      || s.ringState e.1 == ringStopping)) = none) ∧ (∃ (s : State) (ring : Fin 65536), (((s.ring ring).waiting).all (fun w => w.2.2.2 == 0) = true ∨ s.ringState ring ≠
      1 ∧ s.ringState ring ≠ 2)) ∧ (∃ (s : State) (ring : Fin 65536) (d : Desc), s.nextDesc ring = some d ∧ d.dtype = 3 ∧ (s.mayCarry ring 3 = false ∨ leAt d.bytes 0 2 ≠
      0 ∨ d.zero 4 8 = false ∨ d.zero 16 56 = false ∨ leAt d.bytes 8 8 % 64 ≠ 0)) ∧ (∃ (s : State) (ring : Fin 65536), (s.nextDesc ring).any (fun d => d.dtype == 3) =
      false) ∧ (∃ (s : State) (ring : Fin 65536) (d : Desc), s.fenced 5 = false ∧ (s.ring ring).work.find? (fun d => d.dtype == 0x10) = some d ∧ (s.mayCarry ring 0x10 =
      false ∨ bits (leAt d.bytes 0 4) 14 2 ≠ 0 ∨ bits (leAt d.bytes 0 4) 24 7 ≠ 0 ∨ bits (leAt d.bytes 4 4) 14 18 ≠ 0 ∨ d.zero 16 56 = false ∨ 541 ≤ bits (leAt d.bytes 0
      4) 0 10)) ∧ (∃ (s : State) (ring : Fin 65536) (d : Desc), s.fenced 5 = false ∧ (s.ring ring).work.find? (fun d => d.dtype == 0x10) = some d ∧ s.mayCarry ring 0x10
      = true ∧ bits (leAt d.bytes 0 4) 14 2 = 0 ∧ bits (leAt d.bytes 0 4) 24 7 = 0 ∧ bits (leAt d.bytes 4 4) 14 18 = 0 ∧ d.zero 16 56 = true ∧ bits (leAt d.bytes 0 4) 0
      10 < 541 ∧ bit (s.fld F.HX_FN_REC_CLASS_MASK (s.ownerOf ring)) (bits (leAt d.bytes 0 4) 10 4) = false) ∧ (∃ (s : State) (ring : Fin 65536) (ok : Bool) (data : List
      Byte) (d : Desc), s.fenced 5 = false ∧ (s.ring ring).work.find? (fun d => d.dtype == 0x10) = some d ∧ s.mayCarry ring 0x10 = true ∧ bits (leAt d.bytes 0 4) 14 2 =
      0 ∧ bits (leAt d.bytes 0 4) 24 7 = 0 ∧ bits (leAt d.bytes 4 4) 14 18 = 0 ∧ d.zero 16 56 = true ∧ bits (leAt d.bytes 0 4) 0 10 < 541 ∧ bit (s.fld
      F.HX_FN_REC_CLASS_MASK (s.ownerOf ring)) (bits (leAt d.bytes 0 4) 10 4) = true ∧ 14 ≤ bits (leAt d.bytes 4 4) 0 14 ∧ bits (leAt d.bytes 4 4) 0 14 ≤ 10240 ∧
      s.sourceBytes (s.ownerOf ring) (leAt d.bytes 8 8) (bits (leAt d.bytes 4 4) 0 14) ok data = none) ∧ (∃ (s : State), s.fenced 5 = true) ∧ (∃ (s : State) (ring : Fin
      65536) (pos : Fin 131072), ((s.ring ring).work.any (fun d => d.pos == pos.val) = false ∨ s.ringState ring ≠ 1 ∧ s.ringState ring ≠ 2)) ∧ (∃ (s : State) (ring : Fin
      65536), (s.ring ring).unpub = 0) ∧ (∃ (s : State) (ring : Fin 65536), (s.ring ring).unpub ≠ 0 ∧ s.ringKind ring ≠ 0) ∧ (∃ (s : State) (ring : Fin 65536) (g :
      Staged) (rest : List Staged), stagedFor ring s.staged = some (g, rest) ∧ g.irq = none ∧ s.takesRecords ring = true ∧ s.ringFull ring = true ∧ (s.fld
      F.HX_RING_CFG_POLICY ring ≠ 0 ∨ (s.ring ring).holdOver = true)) ∧ (∃ (s : State) (ring : Fin 65536) (g : Staged) (rest : List Staged), stagedFor ring s.staged =
      some (g, rest) ∧ g.irq = none ∧ s.takesRecords ring = true ∧ s.ringFull ring = true ∧ s.fld F.HX_RING_CFG_POLICY ring = 0 ∧ (s.ring ring).holdOver = false) ∧ (∃ (s
      : State) (ring : Fin 65536), stagedFor ring s.staged = none) ∧ (∃ (s : State) (ring : Fin 65536), (s.fld F.HX_RING_CFG_POLICY ring ≠ 0 ∨ s.ringLive ring = false ∨
      s.ringKind ring = 1 ∧ s.ringFull ring = false)) ∧ (∃ (s : State) (port : Fin 24) (g : RxItem), 16 ≤ port.val ∧ s.fenced 7 = false ∧ s.rxHead (512 + port.val) =
      some g ∧ s.ringLive (s.rxRing (512 + port.val) g) = false) ∧ (∃ (s : State) (port : Fin 24) (g : RxItem), port.val < 16 ∧ s.served 0 = true ∧ s.fenced 6 = false ∧
      s.rxHead (512 + port.val) = some g ∧ s.isRma g.bytes = false ∧ s.ringLive (s.rxRing (512 + port.val) g) = false) ∧ (∃ (s : State) (port : Fin 24), s.rxHead (512 +
      port.val) = none) ∧ (∃ (s : State) (port : Fin 24) (g : RxItem) (r : Nat) (fi : Nat), port.val < 16 ∧ s.served 0 = true ∧ s.fenced 6 = false ∧ s.rxHead (512 +
      port.val) = some g ∧ s.isRma g.bytes = false ∧ s.rxRing (512 + port.val) g = r ∧ s.ringLive r = true ∧ s.ringKind r = 2 ∧ s.fld F.HX_RING_CFG_POLICY r ≠ 2 ∧
      s.ringOwner r = some fi ∧ fi < 2056 ∧ s.fld F.HX_FN_REC_HVP fi = port.val ∧ g.bytes.length ≤ 15 * s.bufSize r ∧ s.rxFull r g = false) :=
  ⟨⟨inWork 0 [], 5, descOf 0 [], by decide⟩, ⟨inWork 1 [], 5, descOf 1 [], by decide⟩, ⟨(inWork 1 []).withRings [(5, { h := 15, work := [descOf 1 []] })], 5, descOf 1
    [], by decide⟩, ⟨inWork 2 [5, 0, 0, 0, 7, 0, 0, 0, 9], 5, descOf 2 [5, 0, 0, 0, 7, 0, 0, 0, 9], by decide⟩, ⟨(inWork 2 []).withRings [(5,
    { waiting := some (0, 5, 7, 9), work := [descOf 2 []] })], 5, 0, 5, 7, 9, by decide⟩, ⟨bufferRun, 6, descOf 3 [], by decide⟩, ⟨inWork 0x10 [13], 5, descOf 0x10 [13],
    by decide⟩, ⟨inWork 0x10 [14], 5, List.replicate 14 1, descOf 0x10 [14], by decide⟩, ⟨inWork 0x40 [], 5, 0, by decide⟩, ⟨ringRun 0 1 { h := 9, unpub := 3 }, 5, by
    decide⟩, ⟨(ringRun 1 1 { t := 15, h := 8 }).withStaged [recordFor 9, recordFor 5], 5, recordFor 5, [recordFor 9], by decide⟩, ⟨(ringRun 0 1 {}).withStaged [recordFor
    9, recordFor 5], 5, recordFor 5, [recordFor 9], by decide⟩, ⟨(ringRun 1 1 { t := 8 }).withStaged [recordFor 9, recordFor 5], 5, recordFor 5, by decide⟩, ⟨inWork 9
    [], 5, descOf 9 [], by decide⟩, ⟨inWork 1 [1], 5, descOf 1 [1], by decide⟩, ⟨inWork 2 [5, 0, 1], 5, descOf 2 [5, 0, 1], by decide⟩, ⟨(inWork 2 [9]).setFld
    F.HX_FN_MGR_MGR_PF 0 3, 5, descOf 2 [9], by decide⟩, ⟨inWork 2 [9, 0, 0, 0, 7], 5, descOf 2 [9, 0, 0, 0, 7], by decide⟩, ⟨inWork 2 [9], 5, descOf 2 [9], by decide⟩,
    ⟨ringRun 0 1 {}, 5, by decide⟩, ⟨(bufferRun.withRings [(6, { t := 1, f := 1, cache := [descOf 3 [1]] })]), 6, descOf 3 [1], by decide⟩, ⟨ringRun 0 1 {}, 5, by
    decide⟩, ⟨inWork 0x10 [0, 64], 5, descOf 0x10 [0, 64], by decide⟩, ⟨(inWork 0x10 [14]).setFld F.HX_FN_REC_CLASS_MASK 0 0, 5, descOf 0x10 [14], by decide⟩, ⟨inWork
    0x10 [14], 5, false, [], descOf 0x10 [14], by decide⟩, ⟨(inMode .run).setFlag F.AO_FLT_REGION_RESETTING 5 true, by decide⟩, ⟨ringRun 0 1 {}, 5, 0, by decide⟩,
    ⟨ringRun 0 1 {}, 5, by decide⟩, ⟨ringRun 1 1 { unpub := 2 }, 5, by decide⟩, ⟨((ringRun 1 1 { t := 8 }).setFld F.HX_RING_CFG_POLICY 5 1).withStaged [recordFor 5], 5,
    recordFor 5, [], by decide⟩, ⟨(ringRun 1 1 { t := 8 }).withStaged [recordFor 5], 5, recordFor 5, [], by decide⟩, ⟨ringRun 1 1 {}, 5, by decide⟩, ⟨ringRun 1 1 {}, 5,
    by decide⟩, ⟨(inMode .run).withFx { rx := [(535, [rxItem])] }, 23, rxItem, by decide⟩, ⟨(((inMode .run).setFld F.HX_SQ_STATUS_STATE 0 2).setFld
    F.HX_SQ_CTRL_CLASS_MASK 0 15).withFx { rx := [(512, [rxItem])] }, 0, rxItem, by decide⟩, ⟨inMode .run, 0, by decide⟩, ⟨receiveRun, 0, rxItem, 5, 0, by decide⟩⟩

set_option maxRecDepth 8000 in
/-- The premises of SequencersAndMicrocode can be met. -/
theorem premises_SequencersAndMicrocode :
    (∃ (s : State) (ring : Fin 65536) (d : Desc) (cls : Nat) (n : Nat) (k : Nat), s.nextDesc ring = some d ∧ dtypeClass d.dtype = some cls ∧ s.mayCarry ring d.dtype =
      true ∧ s.psHolds ring cls = false ∧ s.sqPick cls = some (n, k)) ∧ (∃ (s : State) (ring : Fin 65536) (d : Desc) (cls : Nat), s.nextDesc ring = some d ∧ dtypeClass
      d.dtype = some cls ∧ (s.psHolds ring cls = true ∨ s.sqPick cls = none) ∧ s.mayCarry ring d.dtype = true) ∧ (∃ (s : State) (ring : Fin 65536), (s.nextDesc ring).all
      (fun d => (dtypeClass d.dtype).isNone) = true) ∧ (∃ (s : State) (sq : Fin 16) (ctx : Fin 16) (o : MicroStep) (f : Bool × Nat) (w : Nat), (s.sqState sq = 1 ∧
      ctx.val = 0 ∨ (s.sqState sq = 3 ∨ s.sqState sq = 4) ∧ s.runs sq ctx = true) ∧ s.faultsDue = [] ∧ s.request = 0 ∧ o.ecc = false ∧ s.fetchAt (s.ctx sq ctx).nspace
      (s.ctx sq ctx).upc = f ∧ Nat.xor (s.storeWord f.1 f.2) o.readErr.toNat = w ∧ paritySyndrome w = 0 ∧ o.fault = none ∧ bit w 100 = false ∧ o.trapReturn = false ∧
      ((s.ctx sq ctx).nextIrq = none ∨ bit w 101 = false ∨ (s.ctx sq ctx).trap.isSome = true)) ∧ (∃ (s : State) (sq : Fin 16) (ctx : Fin 16) (o : MicroStep) (f : Bool ×
      Nat) (w : Nat) (v : SqSaved), (s.sqState sq = 1 ∧ ctx.val = 0 ∨ (s.sqState sq = 3 ∨ s.sqState sq = 4) ∧ s.runs sq ctx = true) ∧ s.faultsDue = [] ∧ s.request = 0 ∧
      o.ecc = false ∧ s.fetchAt (s.ctx sq ctx).nspace (s.ctx sq ctx).upc = f ∧ Nat.xor (s.storeWord f.1 f.2) o.readErr.toNat = w ∧ paritySyndrome w = 0 ∧ o.fault = none
      ∧ bit w 100 = false ∧ o.trapReturn = true ∧ (s.ctx sq ctx).trap = some v ∧ ((s.ctx sq ctx).nextIrq = none ∨ bit w 101 = false)) ∧ (∃ (s : State) (sq : Fin 16) (ctx
      : Fin 16) (o : MicroStep) (f : Bool × Nat) (w : Nat) (c : TrapFault), (s.sqState sq = 1 ∧ ctx.val = 0 ∨ (s.sqState sq = 3 ∨ s.sqState sq = 4) ∧ s.runs sq ctx =
      true) ∧ s.faultsDue = [] ∧ s.request = 0 ∧ o.ecc = false ∧ s.fetchAt (s.ctx sq ctx).nspace (s.ctx sq ctx).upc = f ∧ Nat.xor (s.storeWord f.1 f.2) o.readErr.toNat =
      w ∧ paritySyndrome w = 0 ∧ o.fault = some c ∧ (s.ctx sq ctx).trap = none) ∧ (∃ (s : State) (sq : Fin 16) (ctx : Fin 16) (o : MicroStep) (f : Bool × Nat) (w : Nat)
      (i : Nat), (s.sqState sq = 1 ∧ ctx.val = 0 ∨ (s.sqState sq = 3 ∨ s.sqState sq = 4) ∧ s.runs sq ctx = true) ∧ s.faultsDue = [] ∧ s.request = 0 ∧ o.ecc = false ∧
      s.fetchAt (s.ctx sq ctx).nspace (s.ctx sq ctx).upc = f ∧ Nat.xor (s.storeWord f.1 f.2) o.readErr.toNat = w ∧ paritySyndrome w = 0 ∧ o.fault = none ∧ bit w 100 =
      false ∧ o.trapReturn = false ∧ (s.ctx sq ctx).trap = none ∧ (s.ctx sq ctx).nextIrq = some i ∧ bit w 101 = true) ∧ (∃ (s : State) (sq : Fin 16) (ctx : Fin 16) (o :
      MicroStep) (f : Bool × Nat) (w : Nat) (j : Nat × Nat), (s.sqState sq = 1 ∧ ctx.val = 0 ∨ (s.sqState sq = 3 ∨ s.sqState sq = 4) ∧ s.runs sq ctx = true) ∧
      s.faultsDue = [] ∧ s.request = 0 ∧ o.ecc = false ∧ s.fetchAt (s.ctx sq ctx).nspace (s.ctx sq ctx).upc = f ∧ Nat.xor (s.storeWord f.1 f.2) o.readErr.toNat = w ∧
      paritySyndrome w = 0 ∧ o.fault = none ∧ bit w 100 = true ∧ (s.ctx sq ctx).job = some j ∧ (s.ring j.1).work.any (fun d => d.pos == j.2) = true) ∧ (∃ (s : State) (sq
      : Fin 16) (ctx : Fin 16) (o : MicroStep) (f : Bool × Nat) (w : Nat), s.mode ≠ .boot ∧ (s.sqState sq = 1 ∧ ctx.val = 0 ∨ (s.sqState sq = 3 ∨ s.sqState sq = 4) ∧
      s.runs sq ctx = true) ∧ s.faultsDue = [] ∧ s.request = 0 ∧ o.ecc = false ∧ s.fetchAt (s.ctx sq ctx).nspace (s.ctx sq ctx).upc = f ∧ Nat.xor (s.storeWord f.1 f.2)
      o.readErr.toNat = w ∧ paritySyndrome w ≠ 0 ∧ (Map.get [] sq s.sq.checks).filter (fun x => decide (s.now < x + 3600000000000)) = []) ∧ (∃ (s : State) (sq : Fin 16)
      (ctx : Fin 16) (o : MicroStep) (f : Bool × Nat) (w : Nat), s.mode ≠ .boot ∧ (s.sqState sq = 1 ∧ ctx.val = 0 ∨ (s.sqState sq = 3 ∨ s.sqState sq = 4) ∧ s.runs sq ctx
      = true) ∧ s.faultsDue = [] ∧ s.request = 0 ∧ o.ecc = false ∧ s.fetchAt (s.ctx sq ctx).nspace (s.ctx sq ctx).upc = f ∧ Nat.xor (s.storeWord f.1 f.2) o.readErr.toNat
      = w ∧ paritySyndrome w ≠ 0 ∧ (Map.get [] sq s.sq.checks).any (fun x => decide (s.now < x + 3600000000000)) = true ∧ (∀ c ∈ List.range 4, bit (s.fld
      F.HX_SQ_CTRL_CLASS_MASK sq) c = true → ∃ m : Fin 16, m ≠ sq ∧ bit (s.fld F.HX_SQ_CTRL_CLASS_MASK m) c = true ∧ s.sqState m ≠ 7 ∧ s.flag F.HX_SQ_CTRL_OFFLINE m =
      false)) ∧ (∃ (s : State) (sq : Fin 16) (o : MicroStep), s.mode ≠ .boot ∧ (s.sqState sq = 1 ∨ s.sqState sq = 2 ∨ s.sqState sq = 3 ∨ s.sqState sq = 4) ∧ s.faultsDue
      = [] ∧ s.request = 0 ∧ o.ecc = true ∧ (Map.get [] sq s.sq.checks).filter (fun x => decide (s.now < x + 3600000000000)) = []) ∧ (∃ (s : State) (sq : Fin 16) (ctx :
      Fin 16) (o : MicroStep) (f : Bool × Nat) (w : Nat) (c : TrapFault), s.mode ≠ .boot ∧ (s.sqState sq = 1 ∧ ctx.val = 0 ∨ (s.sqState sq = 3 ∨ s.sqState sq = 4) ∧
      s.runs sq ctx = true) ∧ s.faultsDue = [] ∧ s.request = 0 ∧ o.ecc = false ∧ s.fetchAt (s.ctx sq ctx).nspace (s.ctx sq ctx).upc = f ∧ Nat.xor (s.storeWord f.1 f.2)
      o.readErr.toNat = w ∧ paritySyndrome w = 0 ∧ o.fault = some c ∧ (s.ctx sq ctx).trap.isSome = true ∧ o.trapReturn = false ∧ (Map.get [] sq s.sq.checks).filter (fun
      x => decide (s.now < x + 3600000000000)) = []) ∧ (∃ (s : State) (sq : Fin 16) (ctx : Fin 16) (o : MicroStep), s.faultsDue = [] ∧ s.request = 0 ∧ (o.ecc = false ∨
      s.sqState sq = 0 ∨ 5 ≤ s.sqState sq) ∧ (¬(s.sqState sq = 1 ∧ ctx.val = 0 ∨ (s.sqState sq = 3 ∨ s.sqState sq = 4) ∧ s.runs sq ctx = true))) ∧ (∃ (s : State) (sq :
      Fin 16) (ctx : Fin 16), (s.sqState sq = 3 ∨ s.sqState sq = 4) ∧ (s.ctx sq ctx).job.isSome = true ∧ (s.ctx sq ctx).waiting = false ∧ s.mode ≠ .boot ∧ s.faultsDue =
      [] ∧ s.request = 0 ∧ (Map.get [] sq s.sq.checks).filter (fun x => decide (s.now < x + 3600000000000)) = []) ∧ (∃ (s : State) (sq : Fin 16) (ctx : Fin 16),
      (s.sqState sq ≠ 3 ∧ s.sqState sq ≠ 4 ∨ (s.ctx sq ctx).job = none ∨ (s.ctx sq ctx).waiting = true) ∧ s.faultsDue = [] ∧ s.request = 0) ∧ (∃ (s : State) (sq : Fin
      16) (ctx : Fin 16), (s.ctx sq ctx).job.isSome = true ∧ (s.ctx sq ctx).irqs.contains 1 = false) ∧ (∃ (s : State) (sq : Fin 16) (ctx : Fin 16), ((s.ctx sq ctx).job =
      none ∨ (s.ctx sq ctx).irqs.contains 1 = true)) ∧ (∃ (s : State) (v : Word) (n : Fin 16), s.admits .supervisor 6 7 = true ∧ bit v.toNat n = true ∧ s.sqState n = 0)
      ∧ (∃ (s : State) (v : Word) (n : Fin 16), s.admits .supervisor 6 7 = true ∧ (bit v.toNat n = false ∨ s.sqState n ≠ 0)) ∧ (∃ (s : State) (who : Party), who ≠
      .supervisor ∧ s.admits who 6 7 = true) ∧ (∃ (s : State) (sq : Fin 16), s.sqState sq = 1 ∧ s.faultsDue = [] ∧ s.request = 0) ∧ (∃ (s : State) (sq : Fin 16) (e :
      ScanError), s.sqState sq = 1 ∧ s.faultsDue = [] ∧ s.request = 0 ∧ s.mode ≠ .boot ∧ paritySyndrome (Nat.xor (s.storeWord e.patch e.addr.val) e.bits.toNat) ≠ 0 ∧
      (Map.get [] sq s.sq.checks).filter (fun x => decide (s.now < x + 3600000000000)) = []) ∧ (∃ (s : State) (sq : Fin 16), s.sqState sq ≠ 1 ∧ s.faultsDue = [] ∧
      s.request = 0) ∧ (∃ (s : State) (who : Party) (sq : Fin 16), s.admits who 6 7 = true ∧ s.manages who = true ∧ (s.sqState sq = 2 ∨ s.sqState sq = 3) ∧ (∀ m : Fin
      16, s.sqState m ≠ 7) ∧ s.faultsDue = [] ∧ s.request = 0) ∧ (∃ (s : State) (who : Party) (sq : Fin 16), s.admits who 6 7 = true ∧ s.manages who = true ∧ s.sqState
      sq ≠ 2 ∧ s.sqState sq ≠ 3 ∧ (∀ m : Fin 16, s.sqState m ≠ 7) ∧ s.faultsDue = [] ∧ s.request = 0) ∧ (∃ (s : State) (who : Party) (sq : Fin 16), s.admits who 6 7 =
      true ∧ s.manages who = true ∧ s.sqState sq = 5) ∧ (∃ (s : State) (who : Party) (sq : Fin 16), s.admits who 6 7 = true ∧ s.manages who = true ∧ s.sqState sq ≠ 5) ∧
      (∃ (s : State) (sq : Fin 16), s.sqState sq = 4 ∧ s.busyCtx sq = 0) ∧ (∃ (s : State) (sq : Fin 16), (s.sqState sq ≠ 4 ∨ s.busyCtx sq ≠ 0)) ∧ (∃ (s : State) (who :
      Party), s.admits who 0 3 = true ∧ s.fld F.AO_UCODE_STATUS_STATE = 0 ∧ s.mode = .run) ∧ (∃ (s : State) (who : Party), s.admits who 0 3 = true ∧ s.fld
      F.AO_UCODE_STATUS_STATE ≠ 0) ∧ (∃ (s : State) (who : Party), s.admits who 0 3 = true ∧ s.fld F.AO_UCODE_STATUS_STATE = 0 ∧ s.mode ≠ .run) ∧ (∃ (s : State), s.fld
      F.AO_UCODE_STATUS_STATE = 2 ∧ s.sqQuiet = true ∧ s.fenced 6 = false) ∧ (∃ (s : State), (s.fld F.AO_UCODE_STATUS_STATE ≠ 2 ∨ s.sqQuiet = false ∨ s.fenced 6 = true))
      ∧ (∃ (s : State), s.fld F.AO_UCODE_STATUS_STATE = 2) ∧ (∃ (s : State), s.fld F.AO_UCODE_STATUS_STATE ≠ 2) ∧ ((∃ s : State, s.fld F.AO_UCODE_STATUS_STATE = 1 ∧ 0 <
      s.sq.loadPages ∧ s.sq.loadPages ≤ 4096)) ∧ ((∃ (s : State) (p : PatchSet), s.sq.load = some p ∧ s.fld F.AO_UCODE_STATUS_STATE = 3 ∧ s.fenced 6 = false)) :=
  ⟨⟨((inWork 0x40 []).withRings [(5, { t := 1, f := 1, cache := [descOf 0x40 []] })]).setFld F.HX_SQ_STATUS_STATE 4 2, 5, descOf 0x40 [], 1, 4, 0, by decide⟩, ⟨((inWork
    0x40 []).withRings [(5, { t := 1, f := 1, cache := [descOf 0x40 []] })]), 5, descOf 0x40 [], 1, by decide⟩, ⟨inMode .run, 5, by decide⟩, ⟨microRun 3, 4, 15,
    { cond := 5, flags := 9, scratch := List.replicate 8 2 }, (true, 7), 2 ^ 128 * 0xFFFF, by decide⟩, ⟨(microRun 3).setCtx 4 15
    { job := some (5, 0), upc := 7, nspace := true, trap := some { upc := 9, nspace := true, flags := 1, regs := [] } }, 4, 15,
    { cond := 5, flags := 9, scratch := List.replicate 8 2, trapReturn := true }, (true, 7), 2 ^ 128 * 0xFFFF, { upc := 9, nspace := true, flags := 1, regs := [] }, by
    decide⟩, ⟨microRun 3, 4, 15, { cond := 5, flags := 9, scratch := List.replicate 8 2, fault := some .poison }, (true, 7), 2 ^ 128 * 0xFFFF, .poison, by decide⟩,
    ⟨(microRun 3).withSq { ctxs := [(79, { job := some (5, 0), upc := 7, nspace := true, irqs := [1] })], cur := [(4, 15)], patch := [(7, 2 ^ 101 + 2 ^ 128 * 0xEFFF)] },
    4, 15, { cond := 5, flags := 9, scratch := List.replicate 8 2 }, (true, 7), 2 ^ 101 + 2 ^ 128 * 0xEFFF, 1, by decide⟩, ⟨(((inWork 0x40 []).setFld
    F.HX_SQ_STATUS_STATE 4 3).withSq { ctxs := [(79, { job := some (5, 0), upc := 7, nspace := true })], cur := [(4, 15)], patch := [(7, 2 ^ 100 + 2 ^ 128 * 0xEFFF)] }),
    4, 15, { cond := 5, flags := 9, scratch := List.replicate 8 2 }, (true, 7), 2 ^ 100 + 2 ^ 128 * 0xEFFF, (5, 0), by decide⟩, ⟨microRun 3, 4, 15,
    { cond := 5, flags := 9, scratch := List.replicate 8 2, readErr := 1 }, (true, 7), 2 ^ 128 * 0xFFFF + 1, by decide⟩, ⟨((microRun 3).setFld F.HX_SQ_CTRL_CLASS_MASK 4
    0).withSq { ctxs := [(79, { job := some (5, 0), upc := 7, nspace := true })], cur := [(4, 15)], patch := [(7, 2 ^ 128 * 0xFFFF)], checks := [(4, [0])] }, 4, 15,
    { cond := 5, flags := 9, scratch := List.replicate 8 2, readErr := 1 }, (true, 7), 2 ^ 128 * 0xFFFF + 1, by decide⟩, ⟨microRun 2, 4,
    { ecc := true, scratch := List.replicate 8 2 }, by decide⟩, ⟨(microRun 3).setCtx 4 15
    { job := some (5, 0), upc := 7, nspace := true, trap := some { upc := 9, nspace := true, flags := 1, regs := [] } }, 4, 15,
    { cond := 5, flags := 9, scratch := List.replicate 8 2, fault := some .desc }, (true, 7), 2 ^ 128 * 0xFFFF, .desc, by decide⟩, ⟨microRun 2, 4, 15,
    { scratch := List.replicate 8 2 }, by decide⟩, ⟨microRun 4, 4, 15, by decide⟩, ⟨microRun 4, 4, 0, by decide⟩, ⟨microRun 3, 4, 15, by decide⟩, ⟨microRun 3, 4, 14, by
    decide⟩, ⟨inMode .boot, 0x8000, 15, by decide⟩, ⟨inMode .boot, 0x8000, 14, by decide⟩, ⟨inMode .run, .fn 0, by decide⟩, ⟨(inMode .boot).setFld F.HX_SQ_STATUS_STATE
    15 1, 15, by decide⟩, ⟨microRun 1, 4, { patch := true, addr := 7, bits := 1 }, by decide⟩, ⟨microRun 2, 4, by decide⟩, ⟨microRun 3, .supervisor, 4, by decide⟩,
    ⟨microRun 1, .supervisor, 4, by decide⟩, ⟨microRun 5, .supervisor, 4, by decide⟩, ⟨microRun 3, .supervisor, 4, by decide⟩, ⟨(microRun 4).withSq {}, 4, by decide⟩,
    ⟨microRun 4, 4, by decide⟩, ⟨inMode .run, .supervisor, by decide⟩, ⟨(inMode .run).setFld F.AO_UCODE_STATUS_STATE 0 2, .supervisor, by decide⟩, ⟨inMode .safetyNet,
    .supervisor, by decide⟩, ⟨((inMode .run).withSq { load := some { level := 3, words := [1, 2, 0], matches' := [2 ^ 31 + 2 ^ 16 + 5] } }).setFld
    F.AO_UCODE_STATUS_STATE 0 2, by decide⟩, ⟨inMode .run, by decide⟩, ⟨(inMode .run).setFld F.AO_UCODE_STATUS_STATE 0 2, by decide⟩, ⟨inMode .run, by decide⟩, ⟨((inMode
    .run).withSq { loadPages := 1 }).setFld F.AO_UCODE_STATUS_STATE 0 1, by decide⟩, ⟨((inMode .run).withSq
    { load := some { level := 3, words := [1, 2, 0], matches' := [2 ^ 31 + 2 ^ 16 + 5] } }).setFld F.AO_UCODE_STATUS_STATE 0 3,
    { level := 3, words := [1, 2, 0], matches' := [2 ^ 31 + 2 ^ 16 + 5] }, by decide⟩⟩

set_option maxRecDepth 8000 in
/-- The premises of RmaInitiator can be met. -/
theorem premises_RmaInitiator :
    (∃ (s : State) (ring : Fin 65536) (d : Desc) (k : PeerKey), (s.ring ring).work.find? (fun d => d.dtype == 0x40 && !s.rma.tx.any (fun m => m.ring == ring.val && m.pos
      == d.pos)) = some d ∧ k = (if bit (leAt d.bytes 0 4) 15 then { conn := true, id := bits (leAt d.bytes 0 4) 0 14, addr := 0, peer := 0 } else
      { conn := false, id := bits (leAt d.bytes 0 4) 0 14, addr := beAt d.bytes 32 16, peer := bits (leAt d.bytes 28 4) 0 16 }) ∧ (s.mayCarry ring 0x40 = false ∨ bits
      (leAt d.bytes 0 4) 24 7 ≠ 0 ∨ bits (leAt d.bytes 28 4) 16 15 ≠ 0 ∨ d.zero 52 56 = false ∨ leAt d.bytes 24 4 = 0 ∨ 16777216 < leAt d.bytes 24 4 ∨ k.conn = false ∧
      (k.addr / 2 ^ 32 == 0xFFFF) = bit (s.fld F.HX_RMA_TMPL_WORD (16 * s.rmaTmpl k + 5)) 31)) ∧ (∃ (s : State) (ring : Fin 65536) (d : Desc) (k : PeerKey), (s.ring
      ring).work.find? (fun d => d.dtype == 0x40 && !s.rma.tx.any (fun m => m.ring == ring.val && m.pos == d.pos)) = some d ∧ k = (if bit (leAt d.bytes 0 4) 15 then
      { conn := true, id := bits (leAt d.bytes 0 4) 0 14, addr := 0, peer := 0 } else
      { conn := false, id := bits (leAt d.bytes 0 4) 0 14, addr := beAt d.bytes 32 16, peer := bits (leAt d.bytes 28 4) 0 16 }) ∧ s.mayCarry ring 0x40 = true ∧ bits
      (leAt d.bytes 0 4) 24 7 = 0 ∧ bits (leAt d.bytes 28 4) 16 15 = 0 ∧ d.zero 52 56 = true ∧ leAt d.bytes 24 4 ≠ 0 ∧ leAt d.bytes 24 4 ≤ 16777216 ∧ (k.conn = true ∨
      (k.addr / 2 ^ 32 == 0xFFFF) ≠ bit (s.fld F.HX_RMA_TMPL_WORD (16 * s.rmaTmpl k + 5)) 31) ∧ (k.conn = false ∧ 4096 ≤ k.id ∨ s.rmaOwner k ≠ s.ownerOf ring)) ∧ (∃ (s :
      State) (ring : Fin 65536) (d : Desc) (k : PeerKey), (s.ring ring).work.find? (fun d => d.dtype == 0x40 && !s.rma.tx.any (fun m => m.ring == ring.val && m.pos ==
      d.pos)) = some d ∧ k = (if bit (leAt d.bytes 0 4) 15 then { conn := true, id := bits (leAt d.bytes 0 4) 0 14, addr := 0, peer := 0 } else
      { conn := false, id := bits (leAt d.bytes 0 4) 0 14, addr := beAt d.bytes 32 16, peer := bits (leAt d.bytes 28 4) 0 16 }) ∧ s.mayCarry ring 0x40 = true ∧ bits
      (leAt d.bytes 0 4) 24 7 = 0 ∧ bits (leAt d.bytes 28 4) 16 15 = 0 ∧ d.zero 52 56 = true ∧ leAt d.bytes 24 4 ≠ 0 ∧ leAt d.bytes 24 4 ≤ 16777216 ∧ (k.conn = true ∨
      (k.addr / 2 ^ 32 == 0xFFFF) ≠ bit (s.fld F.HX_RMA_TMPL_WORD (16 * s.rmaTmpl k + 5)) 31) ∧ s.rmaOwner k = s.ownerOf ring ∧ if k.conn then s.connState k.id ≠ 1 else
      k.id < 4096 ∧ s.epState k.id = 0) ∧ (∃ (s : State) (ring : Fin 65536) (d : Desc) (k : PeerKey), (s.ring ring).work.find? (fun d => d.dtype == 0x40 && !s.rma.tx.any
      (fun m => m.ring == ring.val && m.pos == d.pos)) = some d ∧ k = (if bit (leAt d.bytes 0 4) 15 then
      { conn := true, id := bits (leAt d.bytes 0 4) 0 14, addr := 0, peer := 0 } else
      { conn := false, id := bits (leAt d.bytes 0 4) 0 14, addr := beAt d.bytes 32 16, peer := bits (leAt d.bytes 28 4) 0 16 }) ∧ s.mayCarry ring 0x40 = true ∧ bits
      (leAt d.bytes 0 4) 24 7 = 0 ∧ bits (leAt d.bytes 28 4) 16 15 = 0 ∧ d.zero 52 56 = true ∧ leAt d.bytes 24 4 ≠ 0 ∧ leAt d.bytes 24 4 ≤ 16777216 ∧ (k.conn = true ∨
      (k.addr / 2 ^ 32 == 0xFFFF) ≠ bit (s.fld F.HX_RMA_TMPL_WORD (16 * s.rmaTmpl k + 5)) 31) ∧ s.rmaOwner k = s.ownerOf ring ∧ if k.conn then s.connState k.id = 1 ∧ bit
      (leAt d.bytes 0 4) 14 = true ∧ s.inSync = false else k.id < 4096 ∧ s.epState k.id = 3) ∧ (∃ (s : State) (ring : Fin 65536) (d : Desc) (k : PeerKey), (s.ring
      ring).work.find? (fun d => d.dtype == 0x40 && !s.rma.tx.any (fun m => m.ring == ring.val && m.pos == d.pos)) = some d ∧ k = (if bit (leAt d.bytes 0 4) 15 then
      { conn := true, id := bits (leAt d.bytes 0 4) 0 14, addr := 0, peer := 0 } else
      { conn := false, id := bits (leAt d.bytes 0 4) 0 14, addr := beAt d.bytes 32 16, peer := bits (leAt d.bytes 28 4) 0 16 }) ∧ s.mayCarry ring 0x40 = true ∧ bits
      (leAt d.bytes 0 4) 24 7 = 0 ∧ bits (leAt d.bytes 28 4) 16 15 = 0 ∧ d.zero 52 56 = true ∧ leAt d.bytes 24 4 ≠ 0 ∧ leAt d.bytes 24 4 ≤ 16777216 ∧ (k.conn = true ∨
      (k.addr / 2 ^ 32 == 0xFFFF) ≠ bit (s.fld F.HX_RMA_TMPL_WORD (16 * s.rmaTmpl k + 5)) 31) ∧ s.rmaOwner k = s.ownerOf ring ∧ k.conn = false ∧ k.id < 4096 ∧ s.epState
      k.id = 1) ∧ (∃ (s : State) (ring : Fin 65536) (d : Desc) (k : PeerKey), (s.ring ring).work.find? (fun d => d.dtype == 0x40 && !s.rma.tx.any (fun m => m.ring ==
      ring.val && m.pos == d.pos)) = some d ∧ k = (if bit (leAt d.bytes 0 4) 15 then { conn := true, id := bits (leAt d.bytes 0 4) 0 14, addr := 0, peer := 0 } else
      { conn := false, id := bits (leAt d.bytes 0 4) 0 14, addr := beAt d.bytes 32 16, peer := bits (leAt d.bytes 28 4) 0 16 }) ∧ s.mayCarry ring 0x40 = true ∧ bits
      (leAt d.bytes 0 4) 24 7 = 0 ∧ bits (leAt d.bytes 28 4) 16 15 = 0 ∧ d.zero 52 56 = true ∧ leAt d.bytes 24 4 ≠ 0 ∧ leAt d.bytes 24 4 ≤ 16777216 ∧ (k.conn = true ∨
      (k.addr / 2 ^ 32 == 0xFFFF) ≠ bit (s.fld F.HX_RMA_TMPL_WORD (16 * s.rmaTmpl k + 5)) 31) ∧ s.rmaOwner k = s.ownerOf ring ∧ (if k.conn then s.connState k.id = 1 ∧
      (bit (leAt d.bytes 0 4) 14 = true → s.inSync = true) else k.id < 4096 ∧ s.epState k.id = 2) ∧ s.ownerOf ring < 2056) ∧ (∃ (s : State) (u : State) (ring : Fin
      65536) (data : List Byte) (d : Desc) (k : PeerKey) (q : Peer), (s.ring ring).work.find? (fun d => d.dtype == 0x40 && !s.rma.tx.any (fun m => m.ring == ring.val &&
      m.pos == d.pos)) = some d ∧ k = (if bit (leAt d.bytes 0 4) 15 then { conn := true, id := bits (leAt d.bytes 0 4) 0 14, addr := 0, peer := 0 } else
      { conn := false, id := bits (leAt d.bytes 0 4) 0 14, addr := beAt d.bytes 32 16, peer := bits (leAt d.bytes 28 4) 0 16 }) ∧ s.mayCarry ring 0x40 = true ∧ bits
      (leAt d.bytes 0 4) 24 7 = 0 ∧ bits (leAt d.bytes 28 4) 16 15 = 0 ∧ d.zero 52 56 = true ∧ leAt d.bytes 24 4 ≠ 0 ∧ leAt d.bytes 24 4 ≤ 16777216 ∧ (k.conn = true ∨
      (k.addr / 2 ^ 32 == 0xFFFF) ≠ bit (s.fld F.HX_RMA_TMPL_WORD (16 * s.rmaTmpl k + 5)) 31) ∧ s.rmaOwner k = s.ownerOf ring ∧ (if k.conn then s.connState k.id = 1 ∧
      (bit (leAt d.bytes 0 4) 14 = true → s.inSync = true) else k.id < 4096 ∧ s.epState k.id = 2) ∧ s.ownerOf ring < 2056 ∧ data.length = leAt d.bytes 24 4 ∧ s.needPeer
      k = (u, some q) ∧ s.rma.tx.filter (fun m => m.key == k) = []) ∧ (∃ (s : State) (u : State) (ring : Fin 65536) (data : List Byte) (ok : Bool) (bs : List Byte) (d :
      Desc) (k : PeerKey) (q : Peer), (s.ring ring).work.find? (fun d => d.dtype == 0x40 && !s.rma.tx.any (fun m => m.ring == ring.val && m.pos == d.pos)) = some d ∧ k =
      (if bit (leAt d.bytes 0 4) 15 then { conn := true, id := bits (leAt d.bytes 0 4) 0 14, addr := 0, peer := 0 } else
      { conn := false, id := bits (leAt d.bytes 0 4) 0 14, addr := beAt d.bytes 32 16, peer := bits (leAt d.bytes 28 4) 0 16 }) ∧ s.mayCarry ring 0x40 = true ∧ bits
      (leAt d.bytes 0 4) 24 7 = 0 ∧ bits (leAt d.bytes 28 4) 16 15 = 0 ∧ d.zero 52 56 = true ∧ leAt d.bytes 24 4 ≠ 0 ∧ leAt d.bytes 24 4 ≤ 16777216 ∧ (k.conn = true ∨
      (k.addr / 2 ^ 32 == 0xFFFF) ≠ bit (s.fld F.HX_RMA_TMPL_WORD (16 * s.rmaTmpl k + 5)) 31) ∧ s.rmaOwner k = s.ownerOf ring ∧ (if k.conn then s.connState k.id = 1 ∧
      (bit (leAt d.bytes 0 4) 14 = true → s.inSync = true) else k.id < 4096 ∧ s.epState k.id = 2) ∧ 2056 ≤ s.ownerOf ring ∧ s.sourceBytes (s.ownerOf ring) (leAt d.bytes
      8 8) (leAt d.bytes 24 4) ok data = some bs ∧ s.needPeer k = (u, some q) ∧ s.rma.tx.filter (fun m => m.key == k) = []) ∧ (∃ (s : State) (ring : Fin 65536), (s.ring
      ring).work.find? (fun d => d.dtype == 0x40 && !s.rma.tx.any (fun m => m.ring == ring.val && m.pos == d.pos)) = none ∧ (s.nextDesc ring).any (fun d => d.dtype ==
      0x40 && !s.rma.tx.any (fun m => m.ring == ring.val && m.pos == d.pos)) = false) ∧ (∃ (s : State) (ring : Fin 65536) (d : Desc) (k : PeerKey), (s.ring
      ring).work.find? (fun d => d.dtype == 0x41 && !s.rma.tx.any (fun m => m.ring == ring.val && m.pos == d.pos)) = some d ∧ k = (if bit (leAt d.bytes 0 4) 15 then
      { conn := true, id := bits (leAt d.bytes 0 4) 0 14, addr := 0, peer := 0 } else
      { conn := false, id := bits (leAt d.bytes 0 4) 0 14, addr := beAt d.bytes 32 16, peer := bits (leAt d.bytes 28 4) 0 16 }) ∧ (s.mayCarry ring 0x41 = false ∨ bits
      (leAt d.bytes 0 4) 24 7 ≠ 0 ∨ bits (leAt d.bytes 28 4) 16 16 ≠ 0 ∨ d.zero 48 56 = false ∨ leAt d.bytes 24 4 = 0 ∨ 16777216 < leAt d.bytes 24 4 ∨ k.conn = false ∧
      (k.addr / 2 ^ 32 == 0xFFFF) = bit (s.fld F.HX_RMA_TMPL_WORD (16 * s.rmaTmpl k + 5)) 31)) ∧ (∃ (s : State) (ring : Fin 65536) (d : Desc) (k : PeerKey), (s.ring
      ring).work.find? (fun d => d.dtype == 0x41 && !s.rma.tx.any (fun m => m.ring == ring.val && m.pos == d.pos)) = some d ∧ k = (if bit (leAt d.bytes 0 4) 15 then
      { conn := true, id := bits (leAt d.bytes 0 4) 0 14, addr := 0, peer := 0 } else
      { conn := false, id := bits (leAt d.bytes 0 4) 0 14, addr := beAt d.bytes 32 16, peer := bits (leAt d.bytes 28 4) 0 16 }) ∧ s.mayCarry ring 0x41 = true ∧ bits
      (leAt d.bytes 0 4) 24 7 = 0 ∧ bits (leAt d.bytes 28 4) 16 16 = 0 ∧ d.zero 48 56 = true ∧ leAt d.bytes 24 4 ≠ 0 ∧ leAt d.bytes 24 4 ≤ 16777216 ∧ (k.conn = true ∨
      (k.addr / 2 ^ 32 == 0xFFFF) ≠ bit (s.fld F.HX_RMA_TMPL_WORD (16 * s.rmaTmpl k + 5)) 31) ∧ (k.conn = false ∧ 4096 ≤ k.id ∨ s.rmaOwner k ≠ s.ownerOf ring)) ∧ (∃ (s :
      State) (ring : Fin 65536) (d : Desc) (k : PeerKey), (s.ring ring).work.find? (fun d => d.dtype == 0x41 && !s.rma.tx.any (fun m => m.ring == ring.val && m.pos ==
      d.pos)) = some d ∧ k = (if bit (leAt d.bytes 0 4) 15 then { conn := true, id := bits (leAt d.bytes 0 4) 0 14, addr := 0, peer := 0 } else
      { conn := false, id := bits (leAt d.bytes 0 4) 0 14, addr := beAt d.bytes 32 16, peer := bits (leAt d.bytes 28 4) 0 16 }) ∧ s.mayCarry ring 0x41 = true ∧ bits
      (leAt d.bytes 0 4) 24 7 = 0 ∧ bits (leAt d.bytes 28 4) 16 16 = 0 ∧ d.zero 48 56 = true ∧ leAt d.bytes 24 4 ≠ 0 ∧ leAt d.bytes 24 4 ≤ 16777216 ∧ (k.conn = true ∨
      (k.addr / 2 ^ 32 == 0xFFFF) ≠ bit (s.fld F.HX_RMA_TMPL_WORD (16 * s.rmaTmpl k + 5)) 31) ∧ s.rmaOwner k = s.ownerOf ring ∧ if k.conn then s.connState k.id ≠ 1 else
      k.id < 4096 ∧ s.epState k.id = 0) ∧ (∃ (s : State) (ring : Fin 65536) (d : Desc) (k : PeerKey), (s.ring ring).work.find? (fun d => d.dtype == 0x41 && !s.rma.tx.any
      (fun m => m.ring == ring.val && m.pos == d.pos)) = some d ∧ k = (if bit (leAt d.bytes 0 4) 15 then
      { conn := true, id := bits (leAt d.bytes 0 4) 0 14, addr := 0, peer := 0 } else
      { conn := false, id := bits (leAt d.bytes 0 4) 0 14, addr := beAt d.bytes 32 16, peer := bits (leAt d.bytes 28 4) 0 16 }) ∧ s.mayCarry ring 0x41 = true ∧ bits
      (leAt d.bytes 0 4) 24 7 = 0 ∧ bits (leAt d.bytes 28 4) 16 16 = 0 ∧ d.zero 48 56 = true ∧ leAt d.bytes 24 4 ≠ 0 ∧ leAt d.bytes 24 4 ≤ 16777216 ∧ (k.conn = true ∨
      (k.addr / 2 ^ 32 == 0xFFFF) ≠ bit (s.fld F.HX_RMA_TMPL_WORD (16 * s.rmaTmpl k + 5)) 31) ∧ s.rmaOwner k = s.ownerOf ring ∧ if k.conn then s.connState k.id = 1 ∧ bit
      (leAt d.bytes 0 4) 14 = true ∧ s.inSync = false else k.id < 4096 ∧ s.epState k.id = 3) ∧ (∃ (s : State) (ring : Fin 65536) (d : Desc) (k : PeerKey), (s.ring
      ring).work.find? (fun d => d.dtype == 0x41 && !s.rma.tx.any (fun m => m.ring == ring.val && m.pos == d.pos)) = some d ∧ k = (if bit (leAt d.bytes 0 4) 15 then
      { conn := true, id := bits (leAt d.bytes 0 4) 0 14, addr := 0, peer := 0 } else
      { conn := false, id := bits (leAt d.bytes 0 4) 0 14, addr := beAt d.bytes 32 16, peer := bits (leAt d.bytes 28 4) 0 16 }) ∧ s.mayCarry ring 0x41 = true ∧ bits
      (leAt d.bytes 0 4) 24 7 = 0 ∧ bits (leAt d.bytes 28 4) 16 16 = 0 ∧ d.zero 48 56 = true ∧ leAt d.bytes 24 4 ≠ 0 ∧ leAt d.bytes 24 4 ≤ 16777216 ∧ (k.conn = true ∨
      (k.addr / 2 ^ 32 == 0xFFFF) ≠ bit (s.fld F.HX_RMA_TMPL_WORD (16 * s.rmaTmpl k + 5)) 31) ∧ s.rmaOwner k = s.ownerOf ring ∧ k.conn = false ∧ k.id < 4096 ∧ s.epState
      k.id = 1) ∧ (∃ (s : State) (u : State) (ring : Fin 65536) (d : Desc) (k : PeerKey) (q : Peer), (s.ring ring).work.find? (fun d => d.dtype == 0x41 && !s.rma.tx.any
      (fun m => m.ring == ring.val && m.pos == d.pos)) = some d ∧ k = (if bit (leAt d.bytes 0 4) 15 then
      { conn := true, id := bits (leAt d.bytes 0 4) 0 14, addr := 0, peer := 0 } else
      { conn := false, id := bits (leAt d.bytes 0 4) 0 14, addr := beAt d.bytes 32 16, peer := bits (leAt d.bytes 28 4) 0 16 }) ∧ s.mayCarry ring 0x41 = true ∧ bits
      (leAt d.bytes 0 4) 24 7 = 0 ∧ bits (leAt d.bytes 28 4) 16 16 = 0 ∧ d.zero 48 56 = true ∧ leAt d.bytes 24 4 ≠ 0 ∧ leAt d.bytes 24 4 ≤ 16777216 ∧ (k.conn = true ∨
      (k.addr / 2 ^ 32 == 0xFFFF) ≠ bit (s.fld F.HX_RMA_TMPL_WORD (16 * s.rmaTmpl k + 5)) 31) ∧ s.rmaOwner k = s.ownerOf ring ∧ (if k.conn then s.connState k.id = 1 ∧
      (bit (leAt d.bytes 0 4) 14 = true → s.inSync = true) else k.id < 4096 ∧ s.epState k.id = 2) ∧ s.needPeer k = (u, some q) ∧ s.rma.tx.filter (fun m => m.key == k) =
      []) ∧ (∃ (s : State) (ring : Fin 65536), (s.ring ring).work.find? (fun d => d.dtype == 0x41 && !s.rma.tx.any (fun m => m.ring == ring.val && m.pos == d.pos)) =
      none ∧ (s.nextDesc ring).any (fun d => d.dtype == 0x41 && !s.rma.tx.any (fun m => m.ring == ring.val && m.pos == d.pos)) = false) ∧ (∃ (s : State) (port : Fin 16)
      (g : RxItem) (u : Udp) (p : RmaIn) (m : TxMsg) (x : TxPkt), s.served 1 = true ∧ s.rxHead (512 + port.val) = some g ∧ udpOf g.bytes = some u ∧ s.isRma g.bytes =
      true ∧ s.fenced 6 = false ∧ rmaIn u = p ∧ p.h.op = opAck ∧ s.rmaBad p = none ∧ p.h.aux / 2 ^ 24 = 0 ∧ if p.h.conn then s.connState p.h.dst = 1 else s.now <
      p.h.sendTs + s.horizon ∧ p.h.sendTs ≤ s.now + 2 * s.timeTol ∧ s.rma.tx.filter (fun m => m.key == p.key) = [m] ∧ m.pkts = [x] ∧ x.psn = p.h.psn ∧ x.finished = false
      ∧ m.read = false ∧ m.durable = false ∧ m.len ≤ m.cut ∧ x.len = m.len ∧ m.ring < 65536 ∧ (s.ring m.ring).work.any (fun d => d.pos == m.pos) = true) ∧ (∃ (s : State)
      (port : Fin 16) (g : RxItem) (u : Udp) (p : RmaIn) (m : TxMsg) (x : TxPkt), s.served 1 = true ∧ s.rxHead (512 + port.val) = some g ∧ udpOf g.bytes = some u ∧
      s.isRma g.bytes = true ∧ s.fenced 6 = false ∧ rmaIn u = p ∧ p.h.op = opAck ∧ s.rmaBad p = none ∧ 0x11 ≤ p.h.aux / 2 ^ 24 ∧ p.h.aux / 2 ^ 24 ≤ 0x13 ∧ if p.h.conn
      then s.connState p.h.dst = 1 else s.now < p.h.sendTs + s.horizon ∧ p.h.sendTs ≤ s.now + 2 * s.timeTol ∧ s.rma.tx.filter (fun m => m.key == p.key) = [m] ∧ m.pkts =
      [x] ∧ x.psn = p.h.psn ∧ x.finished = false ∧ x.placed = false ∧ m.len ≠ 0 ∧ m.read = false ∧ m.len ≤ m.cut ∧ x.len = m.len ∧ m.ring < 65536 ∧ (s.ring
      m.ring).work.any (fun d => d.pos == m.pos) = true) ∧ (∃ (s : State) (port : Fin 16), (s.served 1 = false ∨ s.fenced 6 = true ∨ (s.rxHead (512 + port.val)).all (fun
      g => (udpOf g.bytes).all (fun u => !s.isRma g.bytes || (rmaIn u).h.op != opAck)) = true)) ∧ (∃ (s : State) (i : Nat) (j : Nat) (m : TxMsg) (x : TxPkt) (q : Peer),
      s.rma.tx[i]? = some m ∧ m.pkts[j]? = some x ∧ s.peer? m.key = some q ∧ x.finished = false ∧ m.read = false ∧ (m.key.conn = true → x.tries < s.fld
      F.HX_RMA_CFG_CONN_RETRY)) ∧ (∃ (s : State) (i : Nat) (j : Nat) (m : TxMsg) (x : TxPkt), s.rma.tx[i]? = some m ∧ m.pkts[j]? = some x ∧ m.pkts = [x] ∧ x.finished =
      false ∧ x.placed = false ∧ m.key.conn = false ∧ m.read = false ∧ m.len ≠ 0 ∧ m.len ≤ m.cut ∧ s.rma.tx.filter (fun y => y.key == m.key) = [m] ∧ m.ring < 65536 ∧
      (s.ring m.ring).work.any (fun d => d.pos == m.pos) = true) ∧ (∃ (s : State) (i : Nat) (q : Peer), s.rma.peers[i]? = some q) ∧ (∃ (s : State) (ring : Fin 65536) (x
      : Nat × Nat), s.rma.waits.find? (fun x => x.1 == ring.val) = some x ∧ (s.ring ring).work.any (fun d => d.pos == x.2) = true) ∧ (∃ (s : State) (i : Nat) (j : Nat)
      (m : TxMsg) (x : TxPkt), s.rma.tx[i]? = some m ∧ m.pkts[j]? = some x ∧ x.finished = false ∧ (s.peer? m.key).isSome = true ∧ m.key.conn = true ∧ s.fld
      F.HX_RMA_CFG_CONN_RETRY ≤ x.tries ∧ s.connState m.key.id = 1) ∧ (∃ (s : State) (i : Nat) (j : Nat) (m : TxMsg) (x : TxPkt) (q : Peer), s.rma.tx[i]? = some m ∧
      m.pkts[j]? = some x ∧ s.peer? m.key = some q ∧ x.finished = false ∧ m.read = true ∧ (m.key.conn = true → x.tries < s.fld F.HX_RMA_CFG_CONN_RETRY)) ∧ (∃ (s : State)
      (i : Nat) (j : Nat), (s.rma.tx[i]?).all (fun m => (s.peer? m.key).isNone || (m.pkts[j]?).all (fun x => x.finished)) = true) ∧ (∃ (s : State) (i : Nat) (j : Nat),
      (s.rma.tx[i]?).all (fun m => m.key.conn || (m.pkts[j]?).all (fun x => x.finished)) = true) ∧ (∃ (s : State) (i : Nat), s.rma.peers[i]? = none) ∧ (∃ (s : State)
      (ring : Fin 65536), s.rma.waits.find? (fun x => x.1 == ring.val) = none) ∧ (∃ (s : State) (ring : Fin 65536) (d : Desc) (i : Nat), (s.ring ring).work.find? (fun d
      => d.dtype == 0x42) = some d ∧ s.mayCarry ring 0x42 = true ∧ leAt d.bytes 0 2 = 0 ∧ bits (leAt d.bytes 0 4) 24 7 = 0 ∧ leAt d.bytes 4 4 = i ∧ i < 2 ^ 20 ∧ bits
      (leAt d.bytes 24 4) 16 12 = 0 ∧ bits (leAt d.bytes 28 4) 12 20 = 0 ∧ d.zero 32 56 = true ∧ s.ownsWin (s.ownerOf ring) i = true ∧ (s.win i).attached = false ∧ leAt
      d.bytes 16 8 ≠ 0 ∧ leAt d.bytes 16 8 ≤ 2 ^ 40 ∧ if bit (leAt d.bytes 24 4) 31 then inRange (bits (leAt d.bytes 28 4) 0 12) (s.fld F.HX_FN_REC_NS_BASE (s.ownerOf
      ring)) (s.fld F.HX_FN_REC_NS_COUNT (s.ownerOf ring)) = true ∧ leAt d.bytes 8 8 + leAt d.bytes 16 8 ≤ s.nlba (bits (leAt d.bytes 28 4) 0 12) * s.lbaSize (bits (leAt
      d.bytes 28 4) 0 12) else s.memRange (s.ownerOf ring) (leAt d.bytes 8 8) (leAt d.bytes 16 8) = true ∧ s.ringOwner (bits (leAt d.bytes 24 4) 0 16) = s.ringOwner ring
      ∧ s.ringKind (bits (leAt d.bytes 24 4) 0 16) = 1) ∧ (∃ (s : State) (ring : Fin 65536) (d : Desc) (i : Nat), (s.ring ring).work.find? (fun d => d.dtype == 0x42) =
      some d ∧ s.mayCarry ring 0x42 = true ∧ leAt d.bytes 0 2 = 0 ∧ bits (leAt d.bytes 0 4) 24 7 = 0 ∧ leAt d.bytes 4 4 = i ∧ i < 2 ^ 20 ∧ bits (leAt d.bytes 24 4) 16 12
      = 0 ∧ bits (leAt d.bytes 28 4) 12 20 = 0 ∧ d.zero 32 56 = true ∧ s.ownsWin (s.ownerOf ring) i = true ∧ (s.win i).attached = false ∧ leAt d.bytes 16 8 ≠ 0 ∧ leAt
      d.bytes 16 8 ≤ 2 ^ 40 ∧ (¬(if bit (leAt d.bytes 24 4) 31 then inRange (bits (leAt d.bytes 28 4) 0 12) (s.fld F.HX_FN_REC_NS_BASE (s.ownerOf ring)) (s.fld
      F.HX_FN_REC_NS_COUNT (s.ownerOf ring)) = true ∧ leAt d.bytes 8 8 + leAt d.bytes 16 8 ≤ s.nlba (bits (leAt d.bytes 28 4) 0 12) * s.lbaSize (bits (leAt d.bytes 28 4)
      0 12) else s.memRange (s.ownerOf ring) (leAt d.bytes 8 8) (leAt d.bytes 16 8) = true) ∨ ¬(s.ringOwner (bits (leAt d.bytes 24 4) 0 16) = s.ringOwner ring ∧
      s.ringKind (bits (leAt d.bytes 24 4) 0 16) = 1))) ∧ (∃ (s : State) (ring : Fin 65536) (d : Desc) (i : Nat), (s.ring ring).work.find? (fun d => d.dtype == 0x42) =
      some d ∧ s.mayCarry ring 0x42 = true ∧ leAt d.bytes 0 2 = 0 ∧ bits (leAt d.bytes 0 4) 24 7 = 0 ∧ leAt d.bytes 4 4 = i ∧ i < 2 ^ 20 ∧ bits (leAt d.bytes 24 4) 16 12
      = 0 ∧ bits (leAt d.bytes 28 4) 12 20 = 0 ∧ d.zero 32 56 = true ∧ s.ownsWin (s.ownerOf ring) i = true ∧ (s.win i).attached = false ∧ (leAt d.bytes 16 8 = 0 ∨ 2 ^ 40
      < leAt d.bytes 16 8)) ∧ (∃ (s : State) (ring : Fin 65536) (d : Desc) (i : Nat), (s.ring ring).work.find? (fun d => d.dtype == 0x42) = some d ∧ s.mayCarry ring 0x42
      = true ∧ leAt d.bytes 0 2 = 0 ∧ bits (leAt d.bytes 0 4) 24 7 = 0 ∧ leAt d.bytes 4 4 = i ∧ i < 2 ^ 20 ∧ bits (leAt d.bytes 24 4) 16 12 = 0 ∧ bits (leAt d.bytes 28
      4) 12 20 = 0 ∧ d.zero 32 56 = true ∧ s.ownsWin (s.ownerOf ring) i = true ∧ (s.win i).attached = true) ∧ (∃ (s : State) (ring : Fin 65536) (d : Desc) (i : Nat),
      (s.ring ring).work.find? (fun d => d.dtype == 0x42) = some d ∧ s.mayCarry ring 0x42 = true ∧ leAt d.bytes 0 2 = 0 ∧ bits (leAt d.bytes 0 4) 24 7 = 0 ∧ leAt d.bytes
      4 4 = i ∧ i < 2 ^ 20 ∧ bits (leAt d.bytes 24 4) 16 12 = 0 ∧ bits (leAt d.bytes 28 4) 12 20 = 0 ∧ d.zero 32 56 = true ∧ s.ownsWin (s.ownerOf ring) i = false) ∧ (∃
      (s : State) (ring : Fin 65536) (d : Desc), (s.ring ring).work.find? (fun d => d.dtype == 0x42) = some d ∧ (s.mayCarry ring 0x42 = false ∨ leAt d.bytes 0 2 ≠ 0 ∨
      bits (leAt d.bytes 0 4) 24 7 ≠ 0 ∨ bits (leAt d.bytes 4 4) 20 12 ≠ 0 ∨ bits (leAt d.bytes 24 4) 16 12 ≠ 0 ∨ bits (leAt d.bytes 28 4) 12 20 ≠ 0 ∨ d.zero 32 56 =
      false)) ∧ (∃ (s : State) (ring : Fin 65536), (s.ring ring).work.find? (fun d => d.dtype == 0x42) = none ∧ (s.nextDesc ring).any (fun d => d.dtype == 0x42) = false)
      ∧ (∃ (s : State) (ring : Fin 65536) (d : Desc) (i : Nat), (s.ring ring).work.find? (fun d => d.dtype == 0x43 && !s.rma.revoking.any (fun x => x.2.1 == ring.val &&
      x.2.2 == d.pos)) = some d ∧ s.mayCarry ring 0x43 = true ∧ leAt d.bytes 0 2 = 0 ∧ bits (leAt d.bytes 0 4) 24 7 = 0 ∧ leAt d.bytes 4 4 = i ∧ i < 2 ^ 20 ∧ d.zero 8 56
      = true ∧ s.ownsWin (s.ownerOf ring) i = true) ∧ (∃ (s : State) (ring : Fin 65536) (d : Desc) (i : Nat), (s.ring ring).work.find? (fun d => d.dtype == 0x43 &&
      !s.rma.revoking.any (fun x => x.2.1 == ring.val && x.2.2 == d.pos)) = some d ∧ s.mayCarry ring 0x43 = true ∧ leAt d.bytes 0 2 = 0 ∧ bits (leAt d.bytes 0 4) 24 7 =
      0 ∧ leAt d.bytes 4 4 = i ∧ i < 2 ^ 20 ∧ d.zero 8 56 = true ∧ s.ownsWin (s.ownerOf ring) i = false) ∧ (∃ (s : State) (ring : Fin 65536) (d : Desc), (s.ring
      ring).work.find? (fun d => d.dtype == 0x43 && !s.rma.revoking.any (fun x => x.2.1 == ring.val && x.2.2 == d.pos)) = some d ∧ (s.mayCarry ring 0x43 = false ∨ leAt
      d.bytes 0 2 ≠ 0 ∨ bits (leAt d.bytes 0 4) 24 7 ≠ 0 ∨ bits (leAt d.bytes 4 4) 20 12 ≠ 0 ∨ d.zero 8 56 = false)) ∧ (∃ (s : State) (ring : Fin 65536), (s.ring
      ring).work.find? (fun d => d.dtype == 0x43 && !s.rma.revoking.any (fun x => x.2.1 == ring.val && x.2.2 == d.pos)) = none ∧ (s.nextDesc ring).any (fun d => d.dtype
      == 0x43 && !s.rma.revoking.any (fun x => x.2.1 == ring.val && x.2.2 == d.pos)) = false) ∧ (∃ (s : State) (window : Fin 1048576) (ring : Nat) (pos : Nat),
      s.rma.revoking.find? (fun x => x.1 == window.val) = some (window.val, ring, pos) ∧ (s.ring ring).work.any (fun d => d.pos == pos) = true) ∧ (∃ (s : State) (window
      : Fin 1048576), s.rma.revoking.find? (fun x => x.1 == window.val) = none) :=
  ⟨⟨inWork 0x40 [0], 5, descOf 0x40 [0], { conn := false, id := 0, addr := 0, peer := 0 }, by decide⟩, ⟨(rmaPost 0x40).setFld F.HX_RMA_CONN_OWNER 9 7, 5, rmaDesc 0x40,
    connKey, by decide⟩, ⟨(rmaPost 0x40).setFld F.HX_RMA_CONN_STATE 9 2, 5, rmaDesc 0x40, connKey, by decide⟩, ⟨(rmaPost 0x40).withRings [(5,
    { t := 1, f := 1, d := 1, work := [{ pos := 0, bytes := [9, 0xC0, 0x40, 128] ++ List.replicate 20 0 ++ [3, 0, 0, 0] ++ List.replicate 36 0 }] })], 5,
    { pos := 0, bytes := [9, 0xC0, 0x40, 128] ++ List.replicate 20 0 ++ [3, 0, 0, 0] ++ List.replicate 36 0 }, connKey, by decide⟩, ⟨((rmaPost 0x40).withRings [(5,
    { t := 1, f := 1, d := 1, work := [{ pos := 0, bytes := [9, 0, 0x40, 128] ++ List.replicate 20 0 ++ [3, 0, 0, 0] ++ List.replicate 14 0 ++ [255, 255, 10, 0, 0, 1] ++ List.replicate 16 0 }] })]).setFld
    F.HX_RMA_EP_STATE 9 1, 5,
    { pos := 0, bytes := [9, 0, 0x40, 128] ++ List.replicate 20 0 ++ [3, 0, 0, 0] ++ List.replicate 14 0 ++ [255, 255, 10, 0, 0, 1] ++ List.replicate 16 0 },
    { conn := false, id := 9, addr := 0xFFFF0A000001, peer := 0 }, by decide⟩, ⟨rmaPost 0x40, 5, rmaDesc 0x40, connKey, by decide⟩, ⟨rmaPost 0x40, rmaPost 0x40, 5, [7,
    7, 7], rmaDesc 0x40, connKey, connPeer, by decide⟩, ⟨coreRma, coreRma, 5, [], true, [0, 0, 0], coreDesc, connKey, connPeer, by decide⟩, ⟨inMode .run, 5, by decide⟩,
    ⟨inWork 0x41 [0], 5, descOf 0x41 [0], { conn := false, id := 0, addr := 0, peer := 0 }, by decide⟩, ⟨(rmaPost 0x41).setFld F.HX_RMA_CONN_OWNER 9 7, 5, rmaDesc 0x41,
    connKey, by decide⟩, ⟨(rmaPost 0x41).setFld F.HX_RMA_CONN_STATE 9 2, 5, rmaDesc 0x41, connKey, by decide⟩, ⟨(rmaPost 0x41).withRings [(5,
    { t := 1, f := 1, d := 1, work := [{ pos := 0, bytes := [9, 0xC0, 0x41, 128] ++ List.replicate 20 0 ++ [3, 0, 0, 0] ++ List.replicate 36 0 }] })], 5,
    { pos := 0, bytes := [9, 0xC0, 0x41, 128] ++ List.replicate 20 0 ++ [3, 0, 0, 0] ++ List.replicate 36 0 }, connKey, by decide⟩, ⟨((rmaPost 0x41).withRings [(5,
    { t := 1, f := 1, d := 1, work := [{ pos := 0, bytes := [9, 0, 0x41, 128] ++ List.replicate 20 0 ++ [3, 0, 0, 0] ++ List.replicate 14 0 ++ [255, 255, 10, 0, 0, 1] ++ List.replicate 16 0 }] })]).setFld
    F.HX_RMA_EP_STATE 9 1, 5,
    { pos := 0, bytes := [9, 0, 0x41, 128] ++ List.replicate 20 0 ++ [3, 0, 0, 0] ++ List.replicate 14 0 ++ [255, 255, 10, 0, 0, 1] ++ List.replicate 16 0 },
    { conn := false, id := 9, addr := 0xFFFF0A000001, peer := 0 }, by decide⟩, ⟨rmaPost 0x41, rmaPost 0x41, 5, rmaDesc 0x41, connKey, connPeer, by decide⟩, ⟨inMode .run,
    5, by decide⟩, ⟨rmaIn' 4, 3, rmaItem 4, rmaUdp 4, rmaIn (rmaUdp 4), txOne true, onePkt, by decide⟩, ⟨refusedAck, 3, rxOf refusalUdp, refusalUdp, rmaIn refusalUdp,
    txOne true, onePkt, by decide⟩, ⟨inMode .run, 3, by decide⟩, ⟨(rmaPost 0x40).withRma { peers := [connPeer], tx := [txOne true] }, 0, 0, txOne true, onePkt, connPeer,
    by decide⟩, ⟨(rmaPost 0x40).withRma { tx := [txOne false] }, 0, 0, txOne false, onePkt, by decide⟩, ⟨rmaPost 0x40, 0, connPeer, by decide⟩, ⟨(rmaPost 0x40).withRma
    { waits := [(5, 0)] }, 5, (5, 0), by decide⟩, ⟨((rmaPost 0x40).setFld F.HX_RMA_CFG_CONN_RETRY 0 0).withRma { peers := [connPeer], tx := [txOne true] }, 0, 0, txOne
    true, onePkt, by decide⟩, ⟨(rmaPost 0x40).withRma { peers := [connPeer], tx := [{ txOne true with read := true }] }, 0, 0, { txOne true with read := true }, onePkt,
    connPeer, by decide⟩, ⟨inMode .run, 0, 0, by decide⟩, ⟨inMode .run, 0, 0, by decide⟩, ⟨inMode .run, 0, by decide⟩, ⟨inMode .run, 5, by decide⟩, ⟨(winRun 0x42 [9, 0,
    0, 0, 0, 0, 1, 0, 0, 0, 0, 0, 0, 1, 0, 0, 0, 0, 0, 0, 5, 0, 0, 0x60] {}).setFld F.HX_RING_CFG_KIND 5 1, 5, descOf 0x42 [9, 0, 0, 0, 0, 0, 1, 0, 0, 0, 0, 0, 0, 1, 0,
    0, 0, 0, 0, 0, 5, 0, 0, 0x60], 9, by decide⟩, ⟨winRun 0x42 [9, 0, 0, 0, 0, 0, 1, 0, 0, 0, 0, 0, 0, 1, 0, 0, 0, 0, 0, 0, 5, 0, 0, 0x60] {}, 5, descOf 0x42 [9, 0, 0,
    0, 0, 0, 1, 0, 0, 0, 0, 0, 0, 1, 0, 0, 0, 0, 0, 0, 5, 0, 0, 0x60], 9, by decide⟩, ⟨winRun 0x42 [9] {}, 5, descOf 0x42 [9], 9, by decide⟩, ⟨winRun 0x42 [9, 0, 0, 0,
    0, 0, 1, 0, 0, 0, 0, 0, 0, 1, 0, 0, 0, 0, 0, 0, 5, 0, 0, 0x60] { attached := true }, 5, descOf 0x42 [9, 0, 0, 0, 0, 0, 1, 0, 0, 0, 0, 0, 0, 1, 0, 0, 0, 0, 0, 0, 5,
    0, 0, 0x60], 9, by decide⟩, ⟨winRun 0x42 [99] {}, 5, descOf 0x42 [99], 99, by decide⟩, ⟨winRun 0x42 [0, 0, 255] {}, 5, descOf 0x42 [0, 0, 255], by decide⟩, ⟨inMode
    .run, 5, by decide⟩, ⟨winRun 0x43 [9] { gen := 4095, attached := true, len := 8 }, 5, descOf 0x43 [9], 9, by decide⟩, ⟨winRun 0x43 [99] {}, 5, descOf 0x43 [99], 99,
    by decide⟩, ⟨winRun 0x43 [0, 0, 255] {}, 5, descOf 0x43 [0, 0, 255], by decide⟩, ⟨inMode .run, 5, by decide⟩, ⟨(winRun 0x43 [9] {}).withRma
    { revoking := [(9, 5, 0)] }, 9, 5, 0, by decide⟩, ⟨inMode .run, 9, by decide⟩⟩

set_option maxRecDepth 8000 in
/-- The premises of RmaTargetEndpointsAndConnections can be met. -/
theorem premises_RmaTargetEndpointsAndConnections :
    (∃ (s : State) (port : Fin 16) (g : RxItem) (u : Udp) (p : RmaIn) (q : Peer) (w : RmaWin), s.served 1 = true ∧ s.rxHead (512 + port.val) = some g ∧ udpOf g.bytes =
      some u ∧ s.isRma g.bytes = true ∧ s.fenced 6 = false ∧ rmaIn u = p ∧ p.h.op = opWrite ∧ s.rmaBad p = none ∧ p.h.conn = true ∧ s.connState p.h.dst = 1 ∧ p.h.durable
      = false ∧ s.peer? p.key = some q ∧ p.h.psn = q.expected ∧ s.win (p.h.key / 4096) = w ∧ s.ownsWin (s.rmaOwner p.key) (p.h.key / 4096) = true ∧ s.rmaOwner p.key <
      2056 ∧ s.live (s.rmaOwner p.key) = true ∧ p.h.key % 4096 = w.gen ∧ w.attached = true ∧ w.wr = true ∧ p.h.offset + p.h.plen ≤ w.len ∧ w.persist = false) ∧ (∃ (s :
      State) (port : Fin 16) (g : RxItem) (u : Udp) (p : RmaIn) (q : Peer) (y : Nat), s.served 1 = true ∧ s.rxHead (512 + port.val) = some g ∧ udpOf g.bytes = some u ∧
      s.isRma g.bytes = true ∧ s.fenced 6 = false ∧ rmaIn u = p ∧ p.h.op = opWrite ∧ s.rmaBad p = none ∧ p.h.conn = true ∧ s.connState p.h.dst = 1 ∧ p.h.durable = false
      ∧ s.peer? p.key = some q ∧ p.h.psn = q.expected ∧ (s.winCheck p p.h.plen).2 = .inl y) ∧ (∃ (s : State) (port : Fin 16) (g : RxItem) (u : Udp) (p : RmaIn) (q :
      Peer), s.served 1 = true ∧ s.rxHead (512 + port.val) = some g ∧ udpOf g.bytes = some u ∧ s.isRma g.bytes = true ∧ s.fenced 6 = false ∧ rmaIn u = p ∧ p.h.op =
      opWrite ∧ s.rmaBad p = none ∧ p.h.conn = true ∧ s.connState p.h.dst = 1 ∧ p.h.durable = false ∧ s.peer? p.key = some q ∧ p.h.psn ≠ q.expected) ∧ (∃ (s : State)
      (port : Fin 16) (g : RxItem) (u : Udp) (p : RmaIn), s.served 1 = true ∧ s.rxHead (512 + port.val) = some g ∧ udpOf g.bytes = some u ∧ s.isRma g.bytes = true ∧
      s.fenced 6 = false ∧ rmaIn u = p ∧ p.h.op = opWrite ∧ s.rmaBad p = none ∧ p.h.conn = true ∧ s.connState p.h.dst ≠ 1) ∧ (∃ (s : State) (port : Fin 16) (g : RxItem)
      (u : Udp) (p : RmaIn), s.served 1 = true ∧ s.rxHead (512 + port.val) = some g ∧ udpOf g.bytes = some u ∧ s.isRma g.bytes = true ∧ s.fenced 6 = false ∧ rmaIn u = p
      ∧ p.h.op = opWrite ∧ s.rmaBad p = none ∧ p.h.conn = false ∧ s.epState p.h.dst ≠ 2) ∧ (∃ (s : State) (port : Fin 16) (g : RxItem) (u : Udp) (p : RmaIn) (code :
      Nat), s.served 1 = true ∧ s.rxHead (512 + port.val) = some g ∧ udpOf g.bytes = some u ∧ s.isRma g.bytes = true ∧ s.fenced 6 = false ∧ rmaIn u = p ∧ p.h.op ≠
      opReadReq ∧ p.h.op ≠ opReadResp ∧ p.h.op ≠ opAck ∧ s.rmaBad p = some code) ∧ (∃ (s : State) (port : Fin 16), (s.served 1 = false ∨ s.fenced 6 = true ∨ (s.rxHead
      (512 + port.val)).all (fun g => (udpOf g.bytes).all (fun u => !s.isRma g.bytes || ((rmaIn u).h.op == opReadReq || (rmaIn u).h.op == opReadResp || (rmaIn u).h.op ==
      opAck))) = true)) ∧ (∃ (s : State) (port : Fin 16), (s.served 1 = false ∨ s.fenced 6 = true ∨ (s.rxHead (512 + port.val)).all (fun g => (udpOf g.bytes).all (fun u
      => !s.isRma g.bytes || ((rmaIn u).h.op != opReadReq))) = true)) ∧ (∃ (s : State) (port : Fin 16), (s.served 1 = false ∨ s.fenced 6 = true ∨ (s.rxHead (512 +
      port.val)).all (fun g => (udpOf g.bytes).all (fun u => !s.isRma g.bytes || ((rmaIn u).h.op != opReadResp))) = true)) ∧ (∃ (s : State) (port : Fin 16) (data : List
      Byte) (g : RxItem) (u : Udp) (p : RmaIn) (q : Peer) (w : RmaWin), s.served 1 = true ∧ s.rxHead (512 + port.val) = some g ∧ udpOf g.bytes = some u ∧ s.isRma g.bytes
      = true ∧ s.fenced 6 = false ∧ rmaIn u = p ∧ p.h.op = opReadReq ∧ s.rmaBad p = none ∧ p.h.conn = true ∧ s.connState p.h.dst = 1 ∧ p.h.durable = false ∧ s.peer?
      p.key = some q ∧ p.h.psn = q.expected ∧ s.win (p.h.key / 4096) = w ∧ s.ownsWin (s.rmaOwner p.key) (p.h.key / 4096) = true ∧ s.rmaOwner p.key < 2056 ∧ s.live
      (s.rmaOwner p.key) = true ∧ p.h.key % 4096 = w.gen ∧ w.attached = true ∧ w.rd = true ∧ p.h.offset + p.h.msgLen ≤ w.len ∧ w.persist = false ∧ p.h.msgLen ≠ 0 ∧
      p.h.msgLen ≤ 16777216 ∧ data.length = p.h.msgLen) ∧ (∃ (s : State) (port : Fin 16) (g : RxItem) (u : Udp) (p : RmaIn) (m : TxMsg) (x : TxPkt), s.served 1 = true ∧
      s.rxHead (512 + port.val) = some g ∧ udpOf g.bytes = some u ∧ s.isRma g.bytes = true ∧ s.fenced 6 = false ∧ rmaIn u = p ∧ p.h.op = opReadResp ∧ s.rmaBad p = none ∧
      if p.h.conn then s.connState p.h.dst = 1 else s.now < p.h.sendTs + s.horizon ∧ p.h.sendTs ≤ s.now + 2 * s.timeTol ∧ m.ring < 65536 ∧ s.rma.tx.find? (fun m =>
      m.read && m.key == p.key && m.pkts.any (fun x => x.psn == p.h.psn && !x.finished)) = some m ∧ m.pkts.find? (fun x => x.psn == p.h.psn && !x.finished) = some x ∧
      p.h.offset + p.h.plen ≤ x.len ∧ s.rmaOwner p.key < 2056) ∧ (∃ (s : State) (who : Party) (ep : Fin 4096) (v : Word), s.admits who 6 8 = true ∧ bit v.toNat 31 = true
      ∧ s.epState ep = 0 ∧ s.committed (bits v.toNat 16 12) = true) ∧ (∃ (s : State) (who : Party) (ep : Fin 4096) (v : Word), s.admits who 6 8 = true ∧ bit v.toNat 31 =
      true ∧ s.epState ep = 0 ∧ s.committed (bits v.toNat 16 12) = false) ∧ (∃ (s : State) (who : Party) (ep : Fin 4096) (v : Word), s.admits who 6 8 = true ∧ bit
      v.toNat 31 = true ∧ s.epState ep ≠ 0) ∧ (∃ (s : State) (who : Party) (v : Word), s.admits who 6 8 = true ∧ bit v.toNat 31 = false) ∧ (∃ (s : State) (who : Party)
      (ep : Fin 4096) (v : Word), s.admits who 6 8 = true ∧ bit v.toNat 31 = false ∧ s.epState ep ≠ 0) ∧ (∃ (s : State) (who : Party) (ep : Fin 4096) (v : Word),
      s.admits who 6 8 = true ∧ bit v.toNat 31 = false ∧ s.epState ep = 0) ∧ (∃ (s : State) (who : Party) (v : Word), s.admits who 6 8 = true ∧ bit v.toNat 31 = true) ∧
      (∃ (s : State) (ep : Fin 4096), s.epState ep = 1 ∧ s.inSync = true) ∧ (∃ (s : State) (ep : Fin 4096), (s.epState ep ≠ 1 ∨ s.inSync = false)) ∧ (∃ (s : State) (who
      : Party) (conn : Fin 16384), s.admits who 6 8 = true ∧ (s.connState conn ≠ 0 ∨ s.committed (s.fld F.HX_RMA_CONN_OWNER conn) = false)) ∧ (∃ (s : State) (who :
      Party) (conn : Fin 16384), s.admits who 6 8 = true ∧ s.connState conn = 0) ∧ (∃ (s : State) (who : Party) (conn : Fin 16384), s.admits who 6 8 = true ∧ s.connState
      conn = 0 ∧ s.committed (s.fld F.HX_RMA_CONN_OWNER conn) = true) ∧ (∃ (s : State) (who : Party) (conn : Fin 16384), s.admits who 6 8 = true ∧ s.connState conn ≠ 0) :=
  ⟨⟨rmaIn' 1, 3, rmaItem 1, rmaUdp 1, rmaIn (rmaUdp 1), connPeer, memWin, by decide⟩, ⟨(rmaIn' 1).withRma { peers := [connPeer] }, 3, rmaItem 1, rmaUdp 1, rmaIn (rmaUdp
    1), connPeer, synNoWindow, by decide⟩, ⟨(rmaIn' 1).withRma { peers := [{ connPeer with expected := 9 }] }, 3, rmaItem 1, rmaUdp 1, rmaIn (rmaUdp 1),
    { connPeer with expected := 9 }, by decide⟩, ⟨(rmaIn' 1).setFld F.HX_RMA_CONN_STATE 9 2, 3, rmaItem 1, rmaUdp 1, rmaIn (rmaUdp 1), by decide⟩, ⟨datagramIn, 3, rxOf
    datagramUdp, datagramUdp, rmaIn datagramUdp, by decide⟩, ⟨(rmaIn' 1).setFld F.HX_RMA_CONN_PEER_ADDR 9 0, 3, rmaItem 1, rmaUdp 1, rmaIn (rmaUdp 1), 3, by decide⟩,
    ⟨inMode .run, 3, by decide⟩, ⟨inMode .run, 3, by decide⟩, ⟨inMode .run, 3, by decide⟩, ⟨rmaIn' 2, 3, [7, 7, 7], rmaItem 2, rmaUdp 2, rmaIn (rmaUdp 2), connPeer,
    memWin, by decide⟩, ⟨rmaIn' 3, 3, rmaItem 3, rmaUdp 3, rmaIn (rmaUdp 3), { txOne true with read := true }, onePkt, by decide⟩, ⟨linkRun 0, .supervisor, 4095,
    0x80070200, by decide⟩, ⟨linkRun 0, .supervisor, 4095, 0x80080200, by decide⟩, ⟨(linkRun 0).setFld F.HX_RMA_EP_STATE 4095 2, .supervisor, 4095, 0x80080200, by
    decide⟩, ⟨linkRun 0, .supervisor, 0, by decide⟩, ⟨((linkRun 0).setFld F.HX_RMA_EP_STATE 4095 2).withRma { peers := [connPeer] }, .supervisor, 4095, 0x70200, by
    decide⟩, ⟨linkRun 0, .supervisor, 4095, 0x70200, by decide⟩, ⟨linkRun 0, .supervisor, 0x80000000, by decide⟩, ⟨((linkRun 0).setFld F.HX_RMA_EP_STATE 4095 1).setFld
    F.AO_TB_STATUS_SYNC 0 3 |>.setFld F.AO_TB_STATUS_ERR_EST 0 0, 4095, by decide⟩, ⟨linkRun 0, 4095, by decide⟩, ⟨rmaPost 0x40, .supervisor, 9, by decide⟩, ⟨linkRun 0,
    .supervisor, 16383, by decide⟩, ⟨(linkRun 0).setFld F.HX_RMA_CONN_OWNER 16383 7, .supervisor, 16383, by decide⟩, ⟨rmaPost 0x40, .supervisor, 9, by decide⟩⟩

set_option maxRecDepth 8000 in
/-- The premises of NamespacesCacheAndDestaging can be met. -/
theorem premises_NamespacesCacheAndDestaging :
    (∃ (s : State) (who : Party) (h : Fin 4096), s.admits who 6 9 = true ∧ s.nsState h = 0 ∧ s.nsHolds h = false) ∧ (∃ (s : State) (who : Party) (h : Fin 4096), s.admits
      who 6 9 = true ∧ s.nsState h = 0 ∧ s.nsHolds h = false) ∧ (∃ (s : State) (who : Party) (h : Fin 4096), s.admits who 6 9 = true ∧ s.nsState h = 0 ∧ s.nsHolds h =
      false) ∧ (∃ (s : State) (who : Party) (h : Fin 4096), s.admits who 6 9 = true ∧ s.nsState h = 0 ∧ s.nsHolds h = false) ∧ (∃ (s : State) (who : Party) (h : Fin
      4096), s.admits who 6 9 = true ∧ s.nsState h = 0 ∧ s.nsHolds h = false) ∧ (∃ (s : State) (who : Party) (h : Fin 4096), s.admits who 6 9 = true ∧ s.nsState h = 0 ∧
      s.nsHolds h = false) ∧ (∃ (s : State) (who : Party) (h : Fin 4096) (w : Fin 8), s.admits who 6 9 = true ∧ (s.nsState h ≠ 0 ∨ s.nsHolds h = true) ∧ (w = 1 ∨ w = 2 ∨
      w = 3 ∨ w = 4 ∨ w = 5 ∨ w = 6)) ∧ (∃ (s : State) (who : Party) (h : Fin 4096) (v : Word), s.admits who 6 9 = true ∧ s.nsState h = 0 ∧ s.nsHolds h = false ∧ bit
      v.toNat 31 = true ∧ bit v.toNat 30 = true ∧ s.fld F.HX_RMA_CONN_STATE (bits (s.fld F.HX_STOR_NS_BK_ID h) 0 14) ≠ 1) ∧ (∃ (s : State) (who : Party) (h : Fin 4096)
      (v : Word), s.admits who 6 9 = true ∧ (s.nsState h ≠ 0 ∨ s.nsHolds h = true) ∧ bit v.toNat 31 = true) ∧ (∃ (s : State) (who : Party) (h : Fin 4096) (v : Word),
      s.admits who 6 9 = true ∧ s.nsState h = 0 ∧ s.nsHolds h = false ∧ bit v.toNat 31 = true ∧ bit v.toNat 30 = false ∧ s.fld F.HX_RP_SUBLINK_STATUS_STATE (bits v.toNat
      16 3) ≠ 3) ∧ (∃ (s : State) (who : Party) (h : Fin 4096) (v : Word), s.admits who 6 9 = true ∧ s.nsState h = 0 ∧ s.nsHolds h = false ∧ bit v.toNat 31 = true ∧ bit
      v.toNat 30 = false ∧ s.fld F.HX_RP_SUBLINK_STATUS_STATE (bits v.toNat 16 3) = 3 ∧ (Map.get {} (bits v.toNat 16 3) s.stor.drives).spaces.find? (fun x => x.1 ==
      s.fld F.HX_STOR_NS_BK_ID h) = none) ∧ (∃ (s : State) (who : Party) (h : Fin 4096) (v : Word) (cap : Nat), s.admits who 6 9 = true ∧ s.nsState h = 0 ∧ s.nsHolds h =
      false ∧ bit v.toNat 31 = true ∧ bit v.toNat 30 = false ∧ s.fld F.HX_RP_SUBLINK_STATUS_STATE (bits v.toNat 16 3) = 3 ∧ (Map.get {} (bits v.toNat 16 3)
      s.stor.drives).spaces.find? (fun x => x.1 == s.fld F.HX_STOR_NS_BK_ID h) = some (s.fld F.HX_STOR_NS_BK_ID h, if bit v.toNat 27 then 4096 else 512, false, cap) ∧
      s.fld F.HX_STOR_NS_BASE_LBA h + s.nlba h ≤ cap ∧ (∀ g ∈ s.attached, g = h.val ∨ s.remote g = true ∨ s.fld F.HX_STOR_NS_DRIVE g ≠ bits v.toNat 16 3)) ∧ (∃ (s :
      State) (who : Party) (h : Fin 4096), s.admits who 6 9 = true ∧ s.nsState h ≠ 0 ∧ s.nsState h ≠ 5) ∧ (∃ (s : State) (who : Party) (h : Fin 4096), s.admits who 6 9 =
      true ∧ (s.nsState h = 0 ∨ s.nsState h = 5)) ∧ (∃ (s : State) (who : Party) (h : Fin 4096), s.admits who 6 9 = true ∧ (s.nsState h = 3 ∨ s.nsState h = 5) ∧ s.flag
      F.HX_STOR_NS_EN h = false) ∧ (∃ (s : State) (who : Party) (h : Fin 4096), s.admits who 6 9 = true ∧ s.nsState h ≠ 3 ∧ s.nsState h ≠ 5) ∧ (∃ (s : State) (who :
      Party) (h : Fin 4096), s.admits who 6 9 = true ∧ (s.nsState h = 3 ∨ s.nsState h = 5) ∧ s.flag F.HX_STOR_NS_EN h = true ∧ s.backend h = false) ∧ (∃ (s : State),
      (s.inService = false ∨ s.stor.waitq.head?.all (fun g => decide (s.cacheBlocks < s.stor.vers.length + g.blocks.length)) = true)) ∧ (∃ (s : State), (s.inService =
      false ∨ s.bothHeld = true ∨ s.lowestUncert = none)) ∧ (∃ (s : State) (q : Nat), s.lowestUncert = some q ∧ ((s.stor.vers.filter (fun v => v.seq == q && v.st ==
      .uncert)).any (fun v => s.stor.open'.contains v.gid) = true ∨ s.fld F.AO_LED_STATUS_CERT_LIMIT < s.nCert + (s.stor.vers.filter (fun v => v.seq == q && v.st ==
      .uncert)).length)) ∧ (∃ (s : State), s.lowestUncert = none) ∧ (∃ (s : State), s.stor.vers.filter s.mayDestage = []) ∧ (∃ (s : State) (v : Ver) (q : Peer),
      s.stor.vers.filter s.mayDestage = [v] ∧ s.remote v.handle = true ∧ v.mask = 255 ∧ q.key =
      { conn := true, id := bits (s.fld F.HX_STOR_NS_BK_ID v.handle) 0 14, addr := 0, peer := 0 } ∧ s.peer? q.key = some q ∧ s.rma.tx.filter (fun m => m.key == q.key) =
      []) ∧ (∃ (s : State) (i : Nat), ((s.stor.destages[i]?).all (fun d => s.remote d.handle) = true ∨ s.served 2 = false)) ∧ (∃ (s : State) (i : Nat) (d : Destage) (r :
      BackendResult), s.stor.destages[i]? = some d ∧ s.remote d.handle = false ∧ s.served 2 = true ∧ (r = .failed ∨ r = .rejected) ∧ d.tries < 2) ∧ (∃ (s : State) (i :
      Nat) (d : Destage) (r : BackendResult), s.stor.destages[i]? = some d ∧ s.remote d.handle = false ∧ s.served 2 = true ∧ (r = .failed ∨ r = .rejected) ∧ 2 ≤ d.tries
      ∧ s.nsState d.handle = 2) ∧ (∃ (s : State) (i : Nat) (d : Destage), s.stor.destages[i]? = some d ∧ s.remote d.handle = false ∧ s.served 2 = true ∧ s.nsState
      d.handle = 2) ∧ (∃ (s : State) (i : Nat), (s.stor.destages[i]?).all (fun d => s.remote d.handle) = true) ∧ (∃ (s : State) (i : Nat) (d : Destage),
      s.stor.destages[i]? = some d ∧ s.remote d.handle = false ∧ d.again = true ∧ d.tries < 2) ∧ (∃ (s : State) (i : Nat) (d : Destage), s.stor.destages[i]? = some d ∧
      s.remote d.handle = false ∧ d.again = true ∧ 2 ≤ d.tries ∧ s.nsState d.handle = 2) ∧ (∃ (s : State) (slot : Fin 8), s.stor.destages.any (fun d => s.onDrive slot
      d.handle && d.aborted) = false) ∧ (∃ (s : State) (fi : Fin 2056), (s.flag F.HX_STOR_FN_PS_APST_EN fi = false ∨ 4 ≤ s.fld F.HX_STOR_FN_PS_PS fi ∨ ((s.fnStor
      fi).apst.getD (s.fld F.HX_STOR_FN_PS_PS fi) (0, 0)).1 = 0 ∨ s.rings.any (fun x => s.ownerOf x.1 == fi.val && x.2.work.any (fun d => dtypeClass d.dtype == some 2))
      = true)) ∧ (∃ (s : State) (g : Group) (rest : List Group), s.stor.waitq = g :: rest ∧ s.inService = true ∧ s.stor.vers.length + g.blocks.length ≤ s.cacheBlocks) ∧
      (∃ (s : State) (q : Nat), s.lowestUncert = some q ∧ s.inService = true ∧ s.bothHeld = false ∧ (s.stor.vers.filter (fun v => v.seq == q && v.st == .uncert)).any
      (fun v => s.stor.open'.contains v.gid) = false ∧ s.nCert + (s.stor.vers.filter (fun v => v.seq == q && v.st == .uncert)).length ≤ s.fld F.AO_LED_STATUS_CERT_LIMIT)
      ∧ (∃ (s : State) (q : Nat), s.lowestUncert = some q ∧ (Map.get {} (793 * 2 ^ 32) s.limits).at' = 0) ∧ (∃ (s : State) (v : Ver), s.stor.vers.filter s.mayDestage =
      [v] ∧ s.remote v.handle = false ∧ v.mask = 255) ∧ (∃ (s : State) (i : Nat) (d : Destage), s.stor.destages[i]? = some d ∧ s.remote d.handle = false ∧ s.served 2 =
      true) ∧ (∃ (s : State) (i : Nat) (d : Destage), s.stor.destages[i]? = some d ∧ s.remote d.handle = false ∧ s.served 2 = true ∧ d.tries < 2) ∧ (∃ (s : State) (i :
      Nat) (d : Destage), s.stor.destages[i]? = some d ∧ s.remote d.handle = false ∧ s.served 2 = true ∧ 2 ≤ d.tries ∧ s.nsState d.handle = 2) ∧ (∃ (s : State) (i : Nat)
      (d : Destage), s.stor.destages[i]? = some d ∧ s.remote d.handle = false ∧ d.again = false) ∧ (∃ (s : State) (slot : Fin 8), s.stor.destages.any (fun d => s.onDrive
      slot d.handle && d.aborted) = true ∧ s.stor.destages.all (fun d => !s.onDrive slot d.handle || !d.again) = true ∧ (s.stor.destages.map (·.id)).Nodup) ∧ (∃ (s :
      State) (fi : Fin 2056) (e : Nat × Nat), s.flag F.HX_STOR_FN_PS_APST_EN fi = true ∧ s.fld F.HX_STOR_FN_PS_PS fi < 4 ∧ (s.fnStor fi).apst.getD (s.fld
      F.HX_STOR_FN_PS_PS fi) (0, 0) = e ∧ (e.1 = 3 ∨ e.1 = 4) ∧ s.rings.any (fun x => s.ownerOf x.1 == fi.val && x.2.work.any (fun d => dtypeClass d.dtype == some 2)) =
      false) :=
  ⟨⟨inMode .run, .supervisor, 3, by decide⟩, ⟨inMode .run, .supervisor, 3, by decide⟩, ⟨inMode .run, .supervisor, 3, by decide⟩, ⟨inMode .run, .supervisor, 3, by
    decide⟩, ⟨inMode .run, .supervisor, 3, by decide⟩, ⟨inMode .run, .supervisor, 3, by decide⟩, ⟨nsRun 2 0x50 0 [], .supervisor, 3, 5, by decide⟩, ⟨inMode .run,
    .supervisor, 3, 0xD0000000, by decide⟩, ⟨nsRun 2 0x50 0 [], .supervisor, 3, 0x80000000, by decide⟩, ⟨inMode .run, .supervisor, 3, 0xA0020000, by decide⟩, ⟨(inMode
    .run).setFld F.HX_RP_SUBLINK_STATUS_STATE 2 3, .supervisor, 3, 0xA0020000, by decide⟩, ⟨((inMode .run).setFld F.HX_RP_SUBLINK_STATUS_STATE 2 3).withStor
    { drives := [(2, { spaces := [(0, 512, false, 100)] })] }, .supervisor, 3, 0xA0020000, 100, by decide⟩, ⟨nsRun 2 0x50 0 [], .supervisor, 3, by decide⟩, ⟨nsRun 5 0x50
    0 [], .supervisor, 3, by decide⟩, ⟨destageRun 3 oneDestage, .supervisor, 3, by decide⟩, ⟨destageRun 2 oneDestage, .supervisor, 3, by decide⟩, ⟨((destageRun 3
    oneDestage).setFlag F.HX_STOR_NS_EN 3 true).setFld F.HX_RP_SUBLINK_STATUS_STATE 2 0, .supervisor, 3, by decide⟩, ⟨inMode .run, by decide⟩, ⟨inMode .run, by decide⟩,
    ⟨oneVer (inMode .run) .uncert, 0, by decide⟩, ⟨inMode .run, by decide⟩, ⟨inMode .run, by decide⟩, ⟨((((nsRun 2 0x50 0 []).setFlag F.HX_STOR_NS_BACKEND 3 true).setFld
    F.HX_STOR_NS_BK_ID 3 9).setFld F.HX_RMA_CONN_STATE 9 1 |>.withStor
    { vers := [{ id := 7, gid := 0, seq := 0, handle := 3, blk := 5, mask := 255, data := List.replicate 64 1, st := .cert }], nextId := 8 } |>.withRma
    { peers := [connPeer] }), { id := 7, gid := 0, seq := 0, handle := 3, blk := 5, mask := 255, data := List.replicate 64 1, st := .cert }, connPeer, by decide⟩,
    ⟨inMode .run, 0, by decide⟩, ⟨((destageRun 2 oneDestage).setFld F.HX_SQ_STATUS_STATE 0 2).setFld F.HX_SQ_CTRL_CLASS_MASK 0 15, 0, oneDestage, .failed, by decide⟩,
    ⟨((destageRun 2 { oneDestage with tries := 2 }).setFld F.HX_SQ_STATUS_STATE 0 2).setFld F.HX_SQ_CTRL_CLASS_MASK 0 15, 0, { oneDestage with tries := 2 }, .rejected,
    by decide⟩, ⟨((destageRun 2 oneDestage).setFld F.HX_SQ_STATUS_STATE 0 2).setFld F.HX_SQ_CTRL_CLASS_MASK 0 15, 0, oneDestage, by decide⟩, ⟨inMode .run, 0, by decide⟩,
    ⟨destageRun 2 { oneDestage with again := true }, 0, { oneDestage with again := true }, by decide⟩, ⟨destageRun 2 { oneDestage with again := true, tries := 2 }, 0,
    { oneDestage with again := true, tries := 2 }, by decide⟩, ⟨inMode .run, 2, by decide⟩, ⟨inMode .run, 0, by decide⟩, ⟨((inMode .run).setFld F.MX_HBM_PART_WC_SIZE 0
    1).withStor { waitq := [{ gid := 4, handle := 3, blocks := [(0, 1, [])], ordered := false }] }, { gid := 4, handle := 3, blocks := [(0, 1, [])], ordered := false },
    [], by decide⟩, ⟨(oneVer (inMode .run) .uncert).setFld F.AO_LED_STATUS_CERT_LIMIT 0 1, 0, by decide⟩, ⟨oneVer (inMode .run) .uncert, 0, by decide⟩, ⟨(nsRun 2 0x50 0
    []).withStor { vers := [{ id := 7, gid := 0, seq := 0, handle := 3, blk := 5, mask := 255, data := [], st := .cert }], nextId := 8 },
    { id := 7, gid := 0, seq := 0, handle := 3, blk := 5, mask := 255, data := [], st := .cert }, by decide⟩, ⟨((destageRun 2 oneDestage).setFld F.HX_SQ_STATUS_STATE 0
    2).setFld F.HX_SQ_CTRL_CLASS_MASK 0 15, 0, oneDestage, by decide⟩, ⟨((destageRun 2 oneDestage).setFld F.HX_SQ_STATUS_STATE 0 2).setFld F.HX_SQ_CTRL_CLASS_MASK 0 15,
    0, oneDestage, by decide⟩, ⟨((destageRun 2 { oneDestage with tries := 2 }).setFld F.HX_SQ_STATUS_STATE 0 2).setFld F.HX_SQ_CTRL_CLASS_MASK 0 15, 0,
    { oneDestage with tries := 2 }, by decide⟩, ⟨destageRun 2 oneDestage, 0, oneDestage, by decide⟩, ⟨destageRun 2 { oneDestage with aborted := true }, 2, by decide⟩,
    ⟨(((nsRun 2 0x50 0 []).withRings []).setFlag F.HX_STOR_FN_PS_APST_EN 0 true).withStor { fns := [(0, { apst := [(4, 100)] })] }, 0, (4, 100), by decide⟩⟩

set_option maxRecDepth 8000 in
/-- The premises of NvmeCommands can be met. -/
theorem premises_NvmeCommands :
    (∃ (s : State) (ring : Fin 65536) (d : Desc) (a : Nat) (b : Nat), s.inService = true ∧ (s.ring ring).work.find? (fun d => d.dtype == 0x50 && (d.opc == 0 || !ioKnown
      d.opc) && !s.begun ring d.pos) = some d ∧ d.opc = 0 ∧ (s.fnWake (s.ownerOf ring)).ioCheck (s.ownerOf ring) d false = .inl (a, b)) ∧ (∃ (s : State) (ring : Fin
      65536) (d : Desc), s.inService = true ∧ (s.ring ring).work.find? (fun d => d.dtype == 0x50 && (d.opc == 0 || !ioKnown d.opc) && !s.begun ring d.pos) = some d ∧
      ioKnown d.opc = false) ∧ (∃ (s : State) (ring : Fin 65536) (d : Desc) (n : Nat), s.inService = true ∧ (s.ring ring).work.find? (fun d => d.dtype == 0x50 && (d.opc
      == 0 || !ioKnown d.opc) && !s.begun ring d.pos) = some d ∧ d.opc = 0 ∧ (s.fnWake (s.ownerOf ring)).ioCheck (s.ownerOf ring) d false = .inr n ∧ s.volatileFor
      (s.ownerOf ring) n = false) ∧ (∃ (s : State) (ring : Fin 65536) (d : Desc) (n : Nat), s.inService = true ∧ (s.ring ring).work.find? (fun d => d.dtype == 0x50 &&
      (d.opc == 0 || !ioKnown d.opc) && !s.begun ring d.pos) = some d ∧ d.opc = 0 ∧ (s.fnWake (s.ownerOf ring)).ioCheck (s.ownerOf ring) d false = .inr n ∧ s.volatileFor
      (s.ownerOf ring) n = true ∧ s.stor.vers.any (fun v => v.handle == n && v.st == .uncert && !s.stor.cmds.any (fun c => c.gids.contains v.gid)) = true) ∧ (∃ (s :
      State) (ring : Fin 65536), (s.inService = false ∨ (s.ring ring).work.find? (fun d => d.dtype == 0x50 && (d.opc == 0 || !ioKnown d.opc) && !s.begun ring d.pos) =
      none ∧ (s.nextDesc ring).any (fun d => d.dtype == 0x50 && (d.opc == 0 || !ioKnown d.opc) && !s.begun ring d.pos) = false)) ∧ (∃ (s : State) (ring : Fin 65536) (d :
      Desc) (a : Nat) (b : Nat), s.inService = true ∧ s.stor.far.all (fun x => x.sent) = true ∧ (s.ring ring).work.find? (s.isIo ring 1) = some d ∧ d.list = false ∧
      (s.fnWake (s.ownerOf ring)).ioCheck (s.ownerOf ring) d true = .inl (a, b)) ∧ (∃ (s : State) (ring : Fin 65536) (d : Desc) (n : Nat) (ok : Bool) (data : List Byte)
      (bs : List Byte) (l : List (Nat × Nat × Bool)) (m : List (Nat × Nat × Bool)) (back : BackendResult), s.inService = true ∧ s.stor.far.all (fun x => x.sent) = true ∧
      (s.ring ring).work.find? (s.isIo ring 1) = some d ∧ (s.fnWake (s.ownerOf ring)).ioCheck (s.ownerOf ring) d true = .inr n ∧ s.segments (s.ownerOf ring) d ok data =
      some l ∧ l.all (fun x => x.2.2) = true ∧ m = (if d.list then l else [(d.dataAddr, d.nlb * s.lbaSize n, true)]) ∧ m.all (fun x => x.2.1 != 0) = true ∧ m.foldl (fun
      a x => a + x.2.1) 0 = d.nlb * s.lbaSize n ∧ s.gather (s.ownerOf ring) ok (if d.list then data.drop (16 * d.nseg) else data) m = some bs ∧ (back ≠ .rejected ∨
      s.flag F.HX_CIPH_NS_EN n = false) ∧ s.flag F.HX_STOR_NS_CACHE n = true) ∧ (∃ (s : State) (ring : Fin 65536) (d : Desc) (n : Nat) (ok : Bool) (data : List Byte) (bs
      : List Byte) (l : List (Nat × Nat × Bool)) (m : List (Nat × Nat × Bool)), s.inService = true ∧ s.stor.far.all (fun x => x.sent) = true ∧ (s.ring ring).work.find?
      (s.isIo ring 1) = some d ∧ (s.fnWake (s.ownerOf ring)).ioCheck (s.ownerOf ring) d true = .inr n ∧ s.segments (s.ownerOf ring) d ok data = some l ∧ l.all (fun x =>
      x.2.2) = true ∧ m = (if d.list then l else [(d.dataAddr, d.nlb * s.lbaSize n, true)]) ∧ m.all (fun x => x.2.1 != 0) = true ∧ m.foldl (fun a x => a + x.2.1) 0 =
      d.nlb * s.lbaSize n ∧ s.gather (s.ownerOf ring) ok (if d.list then data.drop (16 * d.nseg) else data) m = some bs ∧ s.flag F.HX_STOR_NS_CACHE n = false ∧ s.remote
      n = false) ∧ (∃ (s : State) (ring : Fin 65536) (d : Desc) (n : Nat) (ok : Bool) (data : List Byte) (bs : List Byte) (l : List (Nat × Nat × Bool)) (m : List (Nat ×
      Nat × Bool)) (back : BackendResult), s.inService = true ∧ s.stor.far.all (fun x => x.sent) = true ∧ (s.ring ring).work.find? (s.isIo ring 1) = some d ∧ (s.fnWake
      (s.ownerOf ring)).ioCheck (s.ownerOf ring) d true = .inr n ∧ s.segments (s.ownerOf ring) d ok data = some l ∧ l.all (fun x => x.2.2) = true ∧ m = (if d.list then l
      else [(d.dataAddr, d.nlb * s.lbaSize n, true)]) ∧ m.all (fun x => x.2.1 != 0) = true ∧ m.foldl (fun a x => a + x.2.1) 0 = d.nlb * s.lbaSize n ∧ s.gather (s.ownerOf
      ring) ok (if d.list then data.drop (16 * d.nseg) else data) m = some bs ∧ s.flag F.HX_STOR_NS_CACHE n = false ∧ s.remote n = false ∧ (back = .media ∨ back =
      .failed ∨ back = .lost)) ∧ (∃ (s : State) (ring : Fin 65536) (d : Desc) (n : Nat) (ok : Bool) (data : List Byte) (bs : List Byte) (l : List (Nat × Nat × Bool)) (m
      : List (Nat × Nat × Bool)) (back : BackendResult) (q : Peer), s.inService = true ∧ s.stor.far.all (fun x => x.sent) = true ∧ (s.ring ring).work.find? (s.isIo ring
      1) = some d ∧ (s.fnWake (s.ownerOf ring)).ioCheck (s.ownerOf ring) d true = .inr n ∧ s.segments (s.ownerOf ring) d ok data = some l ∧ l.all (fun x => x.2.2) = true
      ∧ m = (if d.list then l else [(d.dataAddr, d.nlb * s.lbaSize n, true)]) ∧ m.all (fun x => x.2.1 != 0) = true ∧ m.foldl (fun a x => a + x.2.1) 0 = d.nlb * s.lbaSize
      n ∧ s.gather (s.ownerOf ring) ok (if d.list then data.drop (16 * d.nseg) else data) m = some bs ∧ s.flag F.HX_STOR_NS_CACHE n = false ∧ s.remote n = true ∧ (back ≠
      .rejected ∨ s.flag F.HX_CIPH_NS_EN n = false) ∧ q.key = { conn := true, id := bits (s.fld F.HX_STOR_NS_BK_ID n) 0 14, addr := 0, peer := 0 } ∧ s.peer? q.key = some
      q ∧ s.rma.tx.filter (fun m => m.key == q.key) = [] ∧ s.stor.far.all (fun x => x.sent) = true) ∧ (∃ (s : State) (ring : Fin 65536), s.stor.far.all (fun x => x.sent)
      = true ∧ (s.inService = false ∨ (s.ring ring).work.find? (s.isIo ring 1) = none ∧ (s.nextDesc ring).any (s.isIo ring 1) = false)) ∧ (∃ (s : State) (ring : Fin
      65536) (d : Desc) (a : Nat) (b : Nat), s.inService = true ∧ s.stor.far.all (fun x => x.sent) = true ∧ (s.ring ring).work.find? (s.isIo ring 0x81) = some d ∧ d.list
      = false ∧ (s.fnWake (s.ownerOf ring)).ioCheck (s.ownerOf ring) d true = .inl (a, b)) ∧ (∃ (s : State) (ring : Fin 65536) (d : Desc) (n : Nat) (ok : Bool) (data :
      List Byte) (bs : List Byte) (l : List (Nat × Nat × Bool)) (m : List (Nat × Nat × Bool)) (back : BackendResult), s.inService = true ∧ s.stor.far.all (fun x =>
      x.sent) = true ∧ (s.ring ring).work.find? (s.isIo ring 0x81) = some d ∧ (s.fnWake (s.ownerOf ring)).ioCheck (s.ownerOf ring) d true = .inr n ∧ s.segments
      (s.ownerOf ring) d ok data = some l ∧ l.all (fun x => x.2.2) = true ∧ m = (if d.list then l else [(d.dataAddr, d.nlb * s.lbaSize n, true)]) ∧ m.all (fun x => x.2.1
      != 0) = true ∧ m.foldl (fun a x => a + x.2.1) 0 = d.nlb * s.lbaSize n ∧ s.gather (s.ownerOf ring) ok (if d.list then data.drop (16 * d.nseg) else data) m = some bs
      ∧ (back ≠ .rejected ∨ s.flag F.HX_CIPH_NS_EN n = false) ∧ s.flag F.HX_STOR_NS_CACHE n = true) ∧ (∃ (s : State) (ring : Fin 65536) (d : Desc) (n : Nat) (ok : Bool)
      (data : List Byte) (bs : List Byte) (l : List (Nat × Nat × Bool)) (m : List (Nat × Nat × Bool)), s.inService = true ∧ s.stor.far.all (fun x => x.sent) = true ∧
      (s.ring ring).work.find? (s.isIo ring 0x81) = some d ∧ (s.fnWake (s.ownerOf ring)).ioCheck (s.ownerOf ring) d true = .inr n ∧ s.segments (s.ownerOf ring) d ok data
      = some l ∧ l.all (fun x => x.2.2) = true ∧ m = (if d.list then l else [(d.dataAddr, d.nlb * s.lbaSize n, true)]) ∧ m.all (fun x => x.2.1 != 0) = true ∧ m.foldl
      (fun a x => a + x.2.1) 0 = d.nlb * s.lbaSize n ∧ s.gather (s.ownerOf ring) ok (if d.list then data.drop (16 * d.nseg) else data) m = some bs ∧ s.flag
      F.HX_STOR_NS_CACHE n = false ∧ s.remote n = false) ∧ (∃ (s : State) (ring : Fin 65536) (d : Desc) (n : Nat) (ok : Bool) (data : List Byte) (bs : List Byte) (l :
      List (Nat × Nat × Bool)) (m : List (Nat × Nat × Bool)) (back : BackendResult), s.inService = true ∧ s.stor.far.all (fun x => x.sent) = true ∧ (s.ring
      ring).work.find? (s.isIo ring 0x81) = some d ∧ (s.fnWake (s.ownerOf ring)).ioCheck (s.ownerOf ring) d true = .inr n ∧ s.segments (s.ownerOf ring) d ok data = some
      l ∧ l.all (fun x => x.2.2) = true ∧ m = (if d.list then l else [(d.dataAddr, d.nlb * s.lbaSize n, true)]) ∧ m.all (fun x => x.2.1 != 0) = true ∧ m.foldl (fun a x
      => a + x.2.1) 0 = d.nlb * s.lbaSize n ∧ s.gather (s.ownerOf ring) ok (if d.list then data.drop (16 * d.nseg) else data) m = some bs ∧ s.flag F.HX_STOR_NS_CACHE n =
      false ∧ s.remote n = false ∧ (back = .media ∨ back = .failed ∨ back = .lost)) ∧ (∃ (s : State) (ring : Fin 65536) (d : Desc) (n : Nat) (ok : Bool) (data : List
      Byte) (bs : List Byte) (l : List (Nat × Nat × Bool)) (m : List (Nat × Nat × Bool)) (back : BackendResult) (q : Peer), s.inService = true ∧ s.stor.far.all (fun x =>
      x.sent) = true ∧ (s.ring ring).work.find? (s.isIo ring 0x81) = some d ∧ (s.fnWake (s.ownerOf ring)).ioCheck (s.ownerOf ring) d true = .inr n ∧ s.segments
      (s.ownerOf ring) d ok data = some l ∧ l.all (fun x => x.2.2) = true ∧ m = (if d.list then l else [(d.dataAddr, d.nlb * s.lbaSize n, true)]) ∧ m.all (fun x => x.2.1
      != 0) = true ∧ m.foldl (fun a x => a + x.2.1) 0 = d.nlb * s.lbaSize n ∧ s.gather (s.ownerOf ring) ok (if d.list then data.drop (16 * d.nseg) else data) m = some bs
      ∧ s.flag F.HX_STOR_NS_CACHE n = false ∧ s.remote n = true ∧ (back ≠ .rejected ∨ s.flag F.HX_CIPH_NS_EN n = false) ∧ q.key =
      { conn := true, id := bits (s.fld F.HX_STOR_NS_BK_ID n) 0 14, addr := 0, peer := 0 } ∧ s.peer? q.key = some q ∧ s.rma.tx.filter (fun m => m.key == q.key) = [] ∧
      s.stor.far.all (fun x => x.sent) = true) ∧ (∃ (s : State) (ring : Fin 65536), s.stor.far.all (fun x => x.sent) = true ∧ (s.inService = false ∨ (s.ring
      ring).work.find? (s.isIo ring 0x81) = none ∧ (s.nextDesc ring).any (s.isIo ring 0x81) = false)) ∧ (∃ (s : State) (ring : Fin 65536) (d : Desc) (a : Nat) (b : Nat),
      s.inService = true ∧ s.stor.far.all (fun x => x.sent) = true ∧ (s.ring ring).work.find? (s.isIo ring 8) = some d ∧ (s.fnWake (s.ownerOf ring)).ioCheck (s.ownerOf
      ring) d true = .inl (a, b)) ∧ (∃ (s : State) (ring : Fin 65536) (d : Desc) (n : Nat) (back : BackendResult), s.inService = true ∧ s.stor.far.all (fun x => x.sent)
      = true ∧ (s.ring ring).work.find? (s.isIo ring 8) = some d ∧ (s.fnWake (s.ownerOf ring)).ioCheck (s.ownerOf ring) d true = .inr n ∧ (back ≠ .rejected ∨ s.flag
      F.HX_CIPH_NS_EN n = false) ∧ s.flag F.HX_STOR_NS_CACHE n = true) ∧ (∃ (s : State) (ring : Fin 65536) (d : Desc) (n : Nat), s.inService = true ∧ s.stor.far.all (fun
      x => x.sent) = true ∧ (s.ring ring).work.find? (s.isIo ring 8) = some d ∧ (s.fnWake (s.ownerOf ring)).ioCheck (s.ownerOf ring) d true = .inr n ∧ s.flag
      F.HX_STOR_NS_CACHE n = false ∧ s.remote n = false) ∧ (∃ (s : State) (ring : Fin 65536) (d : Desc) (n : Nat) (back : BackendResult), s.inService = true ∧
      s.stor.far.all (fun x => x.sent) = true ∧ (s.ring ring).work.find? (s.isIo ring 8) = some d ∧ (s.fnWake (s.ownerOf ring)).ioCheck (s.ownerOf ring) d true = .inr n
      ∧ s.flag F.HX_STOR_NS_CACHE n = false ∧ s.remote n = false ∧ (back = .media ∨ back = .failed ∨ back = .lost)) ∧ (∃ (s : State) (ring : Fin 65536) (d : Desc) (n :
      Nat) (back : BackendResult) (q : Peer), s.inService = true ∧ s.stor.far.all (fun x => x.sent) = true ∧ (s.ring ring).work.find? (s.isIo ring 8) = some d ∧
      (s.fnWake (s.ownerOf ring)).ioCheck (s.ownerOf ring) d true = .inr n ∧ s.flag F.HX_STOR_NS_CACHE n = false ∧ s.remote n = true ∧ (back ≠ .rejected ∨ s.flag
      F.HX_CIPH_NS_EN n = false) ∧ q.key = { conn := true, id := bits (s.fld F.HX_STOR_NS_BK_ID n) 0 14, addr := 0, peer := 0 } ∧ s.peer? q.key = some q ∧
      s.rma.tx.filter (fun m => m.key == q.key) = [] ∧ s.stor.far.all (fun x => x.sent) = true) ∧ (∃ (s : State) (ring : Fin 65536), s.stor.far.all (fun x => x.sent) =
      true ∧ (s.inService = false ∨ (s.ring ring).work.find? (s.isIo ring 8) = none ∧ (s.nextDesc ring).any (s.isIo ring 8) = false)) ∧ (∃ (s : State) (ring : Fin 65536)
      (d : Desc) (a : Nat) (b : Nat), s.inService = true ∧ s.stor.far.all (fun x => x.sent) = true ∧ (s.ring ring).work.find? (s.isIo ring 2) = some d ∧ d.list = false ∧
      (s.fnWake (s.ownerOf ring)).ioCheck (s.ownerOf ring) d false = .inl (a, b)) ∧ (∃ (s : State) (ring : Fin 65536) (d : Desc) (n : Nat) (ok : Bool) (data : List Byte)
      (l : List (Nat × Nat × Bool)) (m : List (Nat × Nat × Bool)), s.inService = true ∧ s.stor.far.all (fun x => x.sent) = true ∧ (s.ring ring).work.find? (s.isIo ring
      2) = some d ∧ (s.fnWake (s.ownerOf ring)).ioCheck (s.ownerOf ring) d false = .inr n ∧ s.segments (s.ownerOf ring) d ok data = some l ∧ l.all (fun x => x.2.2) =
      true ∧ m = (if d.list then l else [(d.dataAddr, d.nlb * s.lbaSize n, true)]) ∧ m.all (fun x => x.2.1 != 0) = true ∧ m.foldl (fun a x => a + x.2.1) 0 = d.nlb *
      s.lbaSize n ∧ s.stor.vers.filter (fun v => v.handle == n) = [] ∧ s.stor.dealloc = [] ∧ s.stor.lost = [] ∧ s.flag F.HX_CIPH_NS_EN n = false ∧ s.remote n = false) ∧
      (∃ (s : State) (ring : Fin 65536) (d : Desc) (n : Nat) (ok : Bool) (data : List Byte) (l : List (Nat × Nat × Bool)) (m : List (Nat × Nat × Bool)) (back :
      BackendResult), s.inService = true ∧ s.stor.far.all (fun x => x.sent) = true ∧ (s.ring ring).work.find? (s.isIo ring 2) = some d ∧ (s.fnWake (s.ownerOf
      ring)).ioCheck (s.ownerOf ring) d false = .inr n ∧ s.segments (s.ownerOf ring) d ok data = some l ∧ l.all (fun x => x.2.2) = true ∧ m = (if d.list then l else
      [(d.dataAddr, d.nlb * s.lbaSize n, true)]) ∧ m.all (fun x => x.2.1 != 0) = true ∧ m.foldl (fun a x => a + x.2.1) 0 = d.nlb * s.lbaSize n ∧ s.stor.vers.filter (fun
      v => v.handle == n) = [] ∧ s.stor.dealloc = [] ∧ s.stor.lost = [] ∧ s.flag F.HX_CIPH_NS_EN n = false ∧ s.remote n = false ∧ (back = .media ∨ back = .failed ∨ back
      = .lost)) ∧ (∃ (s : State) (ring : Fin 65536) (d : Desc) (n : Nat) (ok : Bool) (data : List Byte) (l : List (Nat × Nat × Bool)) (m : List (Nat × Nat × Bool)),
      s.inService = true ∧ s.stor.far.all (fun x => x.sent) = true ∧ (s.ring ring).work.find? (s.isIo ring 2) = some d ∧ (s.fnWake (s.ownerOf ring)).ioCheck (s.ownerOf
      ring) d false = .inr n ∧ s.segments (s.ownerOf ring) d ok data = some l ∧ l.all (fun x => x.2.2) = true ∧ m = (if d.list then l else [(d.dataAddr, d.nlb *
      s.lbaSize n, true)]) ∧ m.all (fun x => x.2.1 != 0) = true ∧ m.foldl (fun a x => a + x.2.1) 0 = d.nlb * s.lbaSize n ∧ s.stor.lost.any (fun x => x.hits n (d.slba *
      s.secPer n) (d.nlb * s.secPer n)) = true) ∧ (∃ (s : State) (ring : Fin 65536) (d : Desc) (n : Nat) (ok : Bool) (data : List Byte) (l : List (Nat × Nat × Bool)) (m
      : List (Nat × Nat × Bool)) (q : Peer), s.inService = true ∧ s.stor.far.all (fun x => x.sent) = true ∧ (s.ring ring).work.find? (s.isIo ring 2) = some d ∧ (s.fnWake
      (s.ownerOf ring)).ioCheck (s.ownerOf ring) d false = .inr n ∧ s.segments (s.ownerOf ring) d ok data = some l ∧ l.all (fun x => x.2.2) = true ∧ m = (if d.list then
      l else [(d.dataAddr, d.nlb * s.lbaSize n, true)]) ∧ m.all (fun x => x.2.1 != 0) = true ∧ m.foldl (fun a x => a + x.2.1) 0 = d.nlb * s.lbaSize n ∧
      s.stor.vers.filter (fun v => v.handle == n) = [] ∧ s.stor.dealloc = [] ∧ s.stor.lost = [] ∧ s.flag F.HX_CIPH_NS_EN n = false ∧ s.remote n = true ∧ q.key =
      { conn := true, id := bits (s.fld F.HX_STOR_NS_BK_ID n) 0 14, addr := 0, peer := 0 } ∧ s.peer? q.key = some q ∧ s.rma.tx.filter (fun m => m.key == q.key) = [] ∧
      s.stor.far.all (fun x => x.sent) = true) ∧ (∃ (s : State) (ring : Fin 65536), s.stor.far.all (fun x => x.sent) = true ∧ (s.inService = false ∨ (s.ring
      ring).work.find? (s.isIo ring 2) = none ∧ (s.nextDesc ring).any (s.isIo ring 2) = false)) ∧ (∃ (s : State) (ring : Fin 65536) (d : Desc) (a : Nat) (b : Nat),
      s.inService = true ∧ (s.ring ring).work.find? (s.isIo ring 9) = some d ∧ d.list = false ∧ (s.fnWake (s.ownerOf ring)).ioCheck (s.ownerOf ring) d true = .inl (a,
      b)) ∧ (∃ (s : State) (ring : Fin 65536) (d : Desc) (n : Nat) (ok : Bool) (data : List Byte) (bs : List Byte) (l : List (Nat × Nat × Bool)) (m : List (Nat × Nat ×
      Bool)), s.inService = true ∧ (s.ring ring).work.find? (s.isIo ring 9) = some d ∧ (s.fnWake (s.ownerOf ring)).ioCheck (s.ownerOf ring) d true = .inr n ∧ s.segments
      (s.ownerOf ring) d ok data = some l ∧ l.all (fun x => x.2.2) = true ∧ m = (if d.list then l else [(d.dataAddr, 16 * (leAt d.bytes 40 4 % 256 + 1), true)]) ∧ m.all
      (fun x => x.2.1 != 0) = true ∧ m.foldl (fun a x => a + x.2.1) 0 = 16 * (leAt d.bytes 40 4 % 256 + 1) ∧ s.gather (s.ownerOf ring) ok (if d.list then data.drop (16 *
      d.nseg) else data) m = some bs ∧ leAt d.bytes 40 4 = 256 ∧ leAt bs 4 4 ≠ 0 ∧ leAt bs 8 8 + leAt bs 4 4 ≤ s.nlba n) ∧ (∃ (s : State) (ring : Fin 65536) (d : Desc)
      (n : Nat) (ok : Bool) (data : List Byte) (bs : List Byte) (l : List (Nat × Nat × Bool)) (m : List (Nat × Nat × Bool)), s.inService = true ∧ (s.ring
      ring).work.find? (s.isIo ring 9) = some d ∧ (s.fnWake (s.ownerOf ring)).ioCheck (s.ownerOf ring) d true = .inr n ∧ s.segments (s.ownerOf ring) d ok data = some l ∧
      l.all (fun x => x.2.2) = true ∧ m = (if d.list then l else [(d.dataAddr, 16 * (leAt d.bytes 40 4 % 256 + 1), true)]) ∧ m.all (fun x => x.2.1 != 0) = true ∧ m.foldl
      (fun a x => a + x.2.1) 0 = 16 * (leAt d.bytes 40 4 % 256 + 1) ∧ s.gather (s.ownerOf ring) ok (if d.list then data.drop (16 * d.nseg) else data) m = some bs ∧ bit
      (leAt d.bytes 40 4) 8 = false ∧ (dsmRanges (leAt d.bytes 40 4 % 256 + 1) bs).all (fun x => decide (x.1 + x.2 ≤ s.nlba n)) = true) ∧ (∃ (s : State) (ring : Fin
      65536) (d : Desc) (n : Nat) (ok : Bool) (data : List Byte) (bs : List Byte) (l : List (Nat × Nat × Bool)) (m : List (Nat × Nat × Bool)), s.inService = true ∧
      (s.ring ring).work.find? (s.isIo ring 9) = some d ∧ (s.fnWake (s.ownerOf ring)).ioCheck (s.ownerOf ring) d true = .inr n ∧ s.segments (s.ownerOf ring) d ok data =
      some l ∧ l.all (fun x => x.2.2) = true ∧ m = (if d.list then l else [(d.dataAddr, 16 * (leAt d.bytes 40 4 % 256 + 1), true)]) ∧ m.all (fun x => x.2.1 != 0) = true
      ∧ m.foldl (fun a x => a + x.2.1) 0 = 16 * (leAt d.bytes 40 4 % 256 + 1) ∧ s.gather (s.ownerOf ring) ok (if d.list then data.drop (16 * d.nseg) else data) m = some
      bs ∧ (dsmRanges (leAt d.bytes 40 4 % 256 + 1) bs).all (fun x => decide (x.1 + x.2 ≤ s.nlba n)) = false) ∧ (∃ (s : State) (ring : Fin 65536), (s.inService = false ∨
      (s.ring ring).work.find? (s.isIo ring 9) = none ∧ (s.nextDesc ring).any (s.isIo ring 9) = false)) ∧ (∃ (s : State) (ring : Fin 65536) (d : Desc) (h : Nat),
      s.inService = true ∧ (s.ring ring).work.find? (fun d => d.dtype == 0x51 && (d.opc != 2 && d.opc != 9 && d.opc != 10)) = some d ∧ d.opc = 6 ∧ d.adminInvalid = false
      ∧ d.cdw10 % 256 = 0 ∧ s.handleOf (s.ownerOf ring) d.nsid = some h) ∧ (∃ (s : State) (ring : Fin 65536) (d : Desc), s.inService = true ∧ (s.ring ring).work.find?
      (fun d => d.dtype == 0x51 && (d.opc != 2 && d.opc != 9 && d.opc != 10)) = some d ∧ d.opc = 6 ∧ d.adminInvalid = false ∧ d.cdw10 % 256 = 0 ∧ s.handleOf (s.ownerOf
      ring) d.nsid = none) ∧ (∃ (s : State) (ring : Fin 65536) (d : Desc), s.inService = true ∧ (s.ring ring).work.find? (fun d => d.dtype == 0x51 && (d.opc != 2 &&
      d.opc != 9 && d.opc != 10)) = some d ∧ d.opc = 6 ∧ d.adminInvalid = false ∧ d.cdw10 % 256 = 1) ∧ (∃ (s : State) (ring : Fin 65536) (d : Desc), s.inService = true ∧
      (s.ring ring).work.find? (fun d => d.dtype == 0x51 && (d.opc != 2 && d.opc != 9 && d.opc != 10)) = some d ∧ d.opc = 6 ∧ d.adminInvalid = false ∧ d.cdw10 % 256 = 2)
      ∧ (∃ (s : State) (ring : Fin 65536) (d : Desc), s.inService = true ∧ (s.ring ring).work.find? (fun d => d.dtype == 0x51 && (d.opc != 2 && d.opc != 9 && d.opc !=
      10)) = some d ∧ d.opc = 6 ∧ (d.adminInvalid = true ∨ 3 ≤ d.cdw10 % 256)) ∧ (∃ (s : State) (ring : Fin 65536) (d : Desc), s.inService = true ∧ (s.ring
      ring).work.find? (fun d => d.dtype == 0x51 && (d.opc != 2 && d.opc != 9 && d.opc != 10)) = some d ∧ d.opc ≠ 6) ∧ (∃ (s : State) (ring : Fin 65536), (s.inService =
      false ∨ (s.ring ring).work.find? (fun d => d.dtype == 0x51 && (d.opc != 2 && d.opc != 9 && d.opc != 10)) = none ∧ (s.nextDesc ring).any (fun d => d.dtype == 0x51
      && (d.opc != 2 && d.opc != 9 && d.opc != 10)) = false)) ∧ (∃ (s : State) (ring : Fin 65536) (d : Desc), s.inService = true ∧ (s.ring ring).work.find? (fun d =>
      d.dtype == 0x51 && d.opc == 2) = some d ∧ d.adminInvalid = false ∧ (d.cdw10 % 256 = 1 ∨ d.cdw10 % 256 = 2)) ∧ (∃ (s : State) (ring : Fin 65536) (d : Desc),
      s.inService = true ∧ (s.ring ring).work.find? (fun d => d.dtype == 0x51 && d.opc == 2) = some d ∧ (d.adminInvalid = true ∨ d.cdw10 % 256 ≠ 1 ∧ d.cdw10 % 256 ≠ 2))
      ∧ (∃ (s : State) (ring : Fin 65536), (s.inService = false ∨ (s.ring ring).work.find? (fun d => d.dtype == 0x51 && d.opc == 2) = none ∧ (s.nextDesc ring).any (fun d
      => d.dtype == 0x51 && d.opc == 2) = false)) ∧ (∃ (s : State) (ring : Fin 65536) (d : Desc), s.inService = true ∧ (s.ring ring).work.find? (fun d => d.dtype == 0x51
      && d.opc == 9) = some d ∧ d.adminInvalid = false ∧ d.cdw10 % 256 = 2 ∧ d.cdw11 % 32 ≤ 4) ∧ (∃ (s : State) (ring : Fin 65536) (d : Desc), s.inService = true ∧
      (s.ring ring).work.find? (fun d => d.dtype == 0x51 && d.opc == 9) = some d ∧ d.adminInvalid = false ∧ d.cdw10 % 256 = 6) ∧ (∃ (s : State) (ring : Fin 65536) (d :
      Desc) (ok : Bool) (data : List Byte) (bs : List Byte) (l : List (Nat × Nat)), s.inService = true ∧ (s.ring ring).work.find? (fun d => d.dtype == 0x51 && d.opc ==
      9) = some d ∧ d.adminInvalid = false ∧ d.cdw10 % 256 = 12 ∧ s.sourceBytes (s.ownerOf ring) d.dataAddr 256 ok data = some bs ∧ apstTable 32 0 bs = some l) ∧ (∃ (s :
      State) (ring : Fin 65536) (d : Desc) (ok : Bool) (data : List Byte) (bs : List Byte), s.inService = true ∧ (s.ring ring).work.find? (fun d => d.dtype == 0x51 &&
      d.opc == 9) = some d ∧ d.adminInvalid = false ∧ d.cdw10 % 256 = 12 ∧ s.sourceBytes (s.ownerOf ring) d.dataAddr 256 ok data = some bs ∧ apstTable 32 0 bs = none) ∧
      (∃ (s : State) (ring : Fin 65536) (d : Desc), s.inService = true ∧ (s.ring ring).work.find? (fun d => d.dtype == 0x51 && d.opc == 9) = some d ∧ (d.adminInvalid =
      true ∨ d.cdw10 % 256 = 2 ∧ 4 < d.cdw11 % 32 ∨ d.cdw10 % 256 ≠ 2 ∧ d.cdw10 % 256 ≠ 6 ∧ d.cdw10 % 256 ≠ 12)) ∧ (∃ (s : State) (ring : Fin 65536), (s.inService =
      false ∨ (s.ring ring).work.find? (fun d => d.dtype == 0x51 && d.opc == 9) = none ∧ (s.nextDesc ring).any (fun d => d.dtype == 0x51 && d.opc == 9) = false)) ∧ (∃ (s
      : State) (ring : Fin 65536) (d : Desc), s.inService = true ∧ (s.ring ring).work.find? (fun d => d.dtype == 0x51 && d.opc == 10) = some d ∧ d.adminInvalid = false ∧
      d.cdw10 % 256 = 2) ∧ (∃ (s : State) (ring : Fin 65536) (d : Desc), s.inService = true ∧ (s.ring ring).work.find? (fun d => d.dtype == 0x51 && d.opc == 10) = some d
      ∧ d.adminInvalid = false ∧ d.cdw10 % 256 = 6) ∧ (∃ (s : State) (ring : Fin 65536) (d : Desc), s.inService = true ∧ (s.ring ring).work.find? (fun d => d.dtype ==
      0x51 && d.opc == 10) = some d ∧ d.adminInvalid = false ∧ d.cdw10 % 256 = 12) ∧ (∃ (s : State) (ring : Fin 65536) (d : Desc), s.inService = true ∧ (s.ring
      ring).work.find? (fun d => d.dtype == 0x51 && d.opc == 10) = some d ∧ (d.adminInvalid = true ∨ d.cdw10 % 256 ≠ 2 ∧ d.cdw10 % 256 ≠ 6 ∧ d.cdw10 % 256 ≠ 12)) ∧ (∃ (s
      : State) (ring : Fin 65536), (s.inService = false ∨ (s.ring ring).work.find? (fun d => d.dtype == 0x51 && d.opc == 10) = none ∧ (s.nextDesc ring).any (fun d =>
      d.dtype == 0x51 && d.opc == 10) = false)) :=
  ⟨⟨nsRun 2 0x50 0 [2], 5, ioDesc 0x50 0 [2], 1, 0x8016, by decide⟩, ⟨nsRun 2 0x50 5 [1], 5, ioDesc 0x50 5 [1], by decide⟩, ⟨(nsRun 2 0x50 0 [1]).setFld
    F.HX_STOR_FN_PS_PS 0 4, 5, ioDesc 0x50 0 [1], 3, by decide⟩, ⟨(((nsRun 2 0x50 0 [1]).setFlag F.HX_STOR_NS_VWC 3 true).setFlag F.HX_STOR_FN_PS_WCE 0 true).withStor
    { vers := [{ id := 0, gid := 0, seq := 0, handle := 3, blk := 0, mask := 1, data := [], st := .uncert }] }, 5, ioDesc 0x50 0 [1], 3, by decide⟩, ⟨inMode .run, 5, by
    decide⟩, ⟨nsRun 2 0x50 1 [2, 0, 0, 0, 0, 16], 5, ioDesc 0x50 1 [2, 0, 0, 0, 0, 16], 1, 0x8016, by decide⟩, ⟨(nsRun 2 0x50 1 lba2).setFld F.HX_STOR_FN_PS_PS 0 4, 5,
    ioDesc 0x50 1 lba2, 3, true, List.replicate 512 7, List.replicate 512 7, [], [(4096, 512, true)], .lost, by decide⟩, ⟨((nsRun 2 0x50 1 lba2).setFld
    F.HX_STOR_NS_CACHE 3 0).withStor { drives := [(2, { vwc := true })] }, 5, ioDesc 0x50 1 lba2, 3, true, List.replicate 512 7, List.replicate 512 7, [], [(4096, 512,
    true)], by decide⟩, ⟨(nsRun 2 0x50 1 lba2).setFld F.HX_STOR_NS_CACHE 3 0, 5, ioDesc 0x50 1 lba2, 3, true, List.replicate 512 7, List.replicate 512 7, [], [(4096,
    512, true)], .media, by decide⟩, ⟨(((((nsRun 2 0x50 1 lba2).setFld F.HX_STOR_NS_CACHE 3 0).setFlag F.HX_STOR_NS_BACKEND 3 true).setFld F.HX_STOR_NS_BK_ID 3 9).setFld
    F.HX_RMA_CONN_STATE 9 1 |>.withRma { peers := [connPeer] }), 5, ioDesc 0x50 1 lba2, 3, true, List.replicate 512 7, List.replicate 512 7, [], [(4096, 512, true)],
    .lost, connPeer, by decide⟩, ⟨inMode .run, 5, by decide⟩, ⟨nsRun 2 0x50 0x81 [2, 0, 0, 0, 0, 16], 5, ioDesc 0x50 0x81 [2, 0, 0, 0, 0, 16], 1, 0x8016, by decide⟩,
    ⟨(nsRun 2 0x50 0x81 lba2).setFld F.HX_STOR_FN_PS_PS 0 4, 5, ioDesc 0x50 0x81 lba2, 3, true, List.replicate 512 7, List.replicate 512 7, [], [(4096, 512, true)],
    .lost, by decide⟩, ⟨((nsRun 2 0x50 0x81 lba2).setFld F.HX_STOR_NS_CACHE 3 0).withStor { drives := [(2, { vwc := true })] }, 5, ioDesc 0x50 0x81 lba2, 3, true,
    List.replicate 512 7, List.replicate 512 7, [], [(4096, 512, true)], by decide⟩, ⟨(nsRun 2 0x50 0x81 lba2).setFld F.HX_STOR_NS_CACHE 3 0, 5, ioDesc 0x50 0x81 lba2,
    3, true, List.replicate 512 7, List.replicate 512 7, [], [(4096, 512, true)], .media, by decide⟩, ⟨(((((nsRun 2 0x50 0x81 lba2).setFld F.HX_STOR_NS_CACHE 3
    0).setFlag F.HX_STOR_NS_BACKEND 3 true).setFld F.HX_STOR_NS_BK_ID 3 9).setFld F.HX_RMA_CONN_STATE 9 1 |>.withRma { peers := [connPeer] }), 5, ioDesc 0x50 0x81 lba2,
    3, true, List.replicate 512 7, List.replicate 512 7, [], [(4096, 512, true)], .lost, connPeer, by decide⟩, ⟨inMode .run, 5, by decide⟩, ⟨nsRun 2 0x50 8 [2], 5,
    ioDesc 0x50 8 [2], 1, 0x8016, by decide⟩, ⟨(nsRun 2 0x50 8 ([1] ++ List.replicate 19 0 ++ [2])).setFld F.HX_STOR_FN_PS_PS 0 4, 5, ioDesc 0x50 8 ([1] ++
    List.replicate 19 0 ++ [2]), 3, .lost, by decide⟩, ⟨((nsRun 2 0x50 8 ([1] ++ List.replicate 19 0 ++ [2])).setFld F.HX_STOR_NS_CACHE 3 0).withStor
    { drives := [(2, { vwc := true })] }, 5, ioDesc 0x50 8 ([1] ++ List.replicate 19 0 ++ [2]), 3, by decide⟩, ⟨(nsRun 2 0x50 8 ([1] ++ List.replicate 19 0 ++
    [2])).setFld F.HX_STOR_NS_CACHE 3 0, 5, ioDesc 0x50 8 ([1] ++ List.replicate 19 0 ++ [2]), 3, .media, by decide⟩, ⟨(((((nsRun 2 0x50 8 ([1] ++ List.replicate 19 0 ++
    [2])).setFld F.HX_STOR_NS_CACHE 3 0).setFlag F.HX_STOR_NS_BACKEND 3 true).setFld F.HX_STOR_NS_BK_ID 3 9).setFld F.HX_RMA_CONN_STATE 9 1 |>.withRma
    { peers := [connPeer] }), 5, ioDesc 0x50 8 ([1] ++ List.replicate 19 0 ++ [2]), 3, .lost, connPeer, by decide⟩, ⟨inMode .run, 5, by decide⟩, ⟨nsRun 2 0x50 2 [2, 0,
    0, 0, 0, 16], 5, ioDesc 0x50 2 [2, 0, 0, 0, 0, 16], 1, 0x8016, by decide⟩, ⟨nsRun 2 0x50 2 lba2, 5, ioDesc 0x50 2 lba2, 3, true, [], [], [(4096, 512, true)], by
    decide⟩, ⟨nsRun 2 0x50 2 lba2, 5, ioDesc 0x50 2 lba2, 3, true, [], [], [(4096, 512, true)], .failed, by decide⟩, ⟨(nsRun 3 0x50 2 lba2).withStor
    { lost := [{ handle := 3, sec := 0, n := 8 }] }, 5, ioDesc 0x50 2 lba2, 3, true, [], [], [(4096, 512, true)], by decide⟩, ⟨((((nsRun 2 0x50 2 lba2).setFlag
    F.HX_STOR_NS_BACKEND 3 true).setFld F.HX_STOR_NS_BK_ID 3 9).setFld F.HX_RMA_CONN_STATE 9 1 |>.withRma { peers := [connPeer] }), 5, ioDesc 0x50 2 lba2, 3, true, [],
    [], [(4096, 512, true)], connPeer, by decide⟩, ⟨inMode .run, 5, by decide⟩, ⟨nsRun 2 0x50 9 [2, 0, 0, 0, 0, 16], 5, ioDesc 0x50 9 [2, 0, 0, 0, 0, 16], 1, 0x8016, by
    decide⟩, ⟨nsRun 2 0x50 9 ([1, 0, 0, 0, 0, 16] ++ List.replicate 31 0 ++ [1]), 5, ioDesc 0x50 9 ([1, 0, 0, 0, 0, 16] ++ List.replicate 31 0 ++ [1]), 3, true, [0, 0,
    0, 0, 2, 0, 0, 0, 6, 0, 0, 0, 0, 0, 0, 0], [0, 0, 0, 0, 2, 0, 0, 0, 6, 0, 0, 0, 0, 0, 0, 0], [], [(4096, 16, true)], by decide⟩, ⟨nsRun 2 0x50 9 ([1, 0, 0, 0, 0, 16]
    ++ List.replicate 31 0 ++ [0]), 5, ioDesc 0x50 9 ([1, 0, 0, 0, 0, 16] ++ List.replicate 31 0 ++ [0]), 3, true, [0, 0, 0, 0, 2, 0, 0, 0, 6, 0, 0, 0, 0, 0, 0, 0], [0,
    0, 0, 0, 2, 0, 0, 0, 6, 0, 0, 0, 0, 0, 0, 0], [], [(4096, 16, true)], by decide⟩, ⟨nsRun 2 0x50 9 ([1, 0, 0, 0, 0, 16] ++ List.replicate 31 0 ++ [1]), 5, ioDesc 0x50
    9 ([1, 0, 0, 0, 0, 16] ++ List.replicate 31 0 ++ [1]), 3, true, [0, 0, 0, 0, 2, 0, 0, 0, 7, 0, 0, 0, 0, 0, 0, 0], [0, 0, 0, 0, 2, 0, 0, 0, 7, 0, 0, 0, 0, 0, 0, 0],
    [], [(4096, 16, true)], by decide⟩, ⟨inMode .run, 5, by decide⟩, ⟨nsRun 2 0x51 6 ([1, 0, 0, 0, 0, 16] ++ List.replicate 30 0 ++ [0]), 5, ioDesc 0x51 6 ([1, 0, 0, 0,
    0, 16] ++ List.replicate 30 0 ++ [0]), 3, by decide⟩, ⟨nsRun 2 0x51 6 ([2, 0, 0, 0, 0, 16] ++ List.replicate 30 0 ++ [0]), 5, ioDesc 0x51 6 ([2, 0, 0, 0, 0, 16] ++
    List.replicate 30 0 ++ [0]), by decide⟩, ⟨nsRun 2 0x51 6 ([1, 0, 0, 0, 0, 16] ++ List.replicate 30 0 ++ [1]), 5, ioDesc 0x51 6 ([1, 0, 0, 0, 0, 16] ++ List.replicate
    30 0 ++ [1]), by decide⟩, ⟨nsRun 2 0x51 6 ([1, 0, 0, 0, 0, 16] ++ List.replicate 30 0 ++ [2]), 5, ioDesc 0x51 6 ([1, 0, 0, 0, 0, 16] ++ List.replicate 30 0 ++ [2]),
    by decide⟩, ⟨nsRun 2 0x51 6 ([1, 0, 0, 0, 0, 16] ++ List.replicate 30 0 ++ [3]), 5, ioDesc 0x51 6 ([1, 0, 0, 0, 0, 16] ++ List.replicate 30 0 ++ [3]), by decide⟩,
    ⟨nsRun 2 0x51 5 [1], 5, ioDesc 0x51 5 [1], by decide⟩, ⟨inMode .run, 5, by decide⟩, ⟨nsRun 2 0x51 2 ([1, 0, 0, 0, 0, 16] ++ List.replicate 30 0 ++ [2]), 5, ioDesc
    0x51 2 ([1, 0, 0, 0, 0, 16] ++ List.replicate 30 0 ++ [2]), by decide⟩, ⟨nsRun 2 0x51 2 [1], 5, ioDesc 0x51 2 [1], by decide⟩, ⟨inMode .run, 5, by decide⟩, ⟨nsRun 2
    0x51 9 (List.replicate 36 0 ++ [2, 0, 0, 0, 3]), 5, ioDesc 0x51 9 (List.replicate 36 0 ++ [2, 0, 0, 0, 3]), by decide⟩, ⟨nsRun 2 0x51 9 (List.replicate 36 0 ++ [6,
    0, 0, 0, 2]), 5, ioDesc 0x51 9 (List.replicate 36 0 ++ [6, 0, 0, 0, 2]), by decide⟩, ⟨nsRun 2 0x51 9 (List.replicate 36 0 ++ [12, 0, 0, 0, 1]), 5, ioDesc 0x51 9
    (List.replicate 36 0 ++ [12, 0, 0, 0, 1]), true, [], List.replicate 256 0, List.replicate 32 (0, 0), by decide⟩, ⟨nsRun 2 0x51 9 (List.replicate 36 0 ++ [12, 0, 0,
    0, 1]), 5, ioDesc 0x51 9 (List.replicate 36 0 ++ [12, 0, 0, 0, 1]), true, [8], (8 : Byte) :: List.replicate 255 0, by decide⟩, ⟨nsRun 2 0x51 9 (List.replicate 36 0
    ++ [7]), 5, ioDesc 0x51 9 (List.replicate 36 0 ++ [7]), by decide⟩, ⟨inMode .run, 5, by decide⟩, ⟨nsRun 2 0x51 10 (List.replicate 36 0 ++ [2]), 5, ioDesc 0x51 10
    (List.replicate 36 0 ++ [2]), by decide⟩, ⟨nsRun 2 0x51 10 (List.replicate 36 0 ++ [6]), 5, ioDesc 0x51 10 (List.replicate 36 0 ++ [6]), by decide⟩, ⟨nsRun 2 0x51 10
    (List.replicate 36 0 ++ [12]), 5, ioDesc 0x51 10 (List.replicate 36 0 ++ [12]), by decide⟩, ⟨nsRun 2 0x51 10 (List.replicate 36 0 ++ [7]), 5, ioDesc 0x51 10
    (List.replicate 36 0 ++ [7]), by decide⟩, ⟨inMode .run, 5, by decide⟩⟩

set_option maxRecDepth 8000 in
/-- The premises of CipherEngine can be met. -/
theorem premises_CipherEngine :
    (∃ (s : State) (ring : Fin 65536) (d : Desc), (s.ring ring).work.find? (fun d => d.dtype == 0x60 && !s.changingAt ring d.pos) = some d ∧ (s.mayCarry ring 0x60 =
      false ∨ bits (leAt d.bytes 0 4) 24 7 ≠ 0 ∨ bits (leAt d.bytes 0 4) 0 6 ≠ 0 ∨ bits (leAt d.bytes 4 4) 28 4 ≠ 0 ∨ leAt d.bytes 8 8 % 8 ≠ 0 ∨ d.zero 16 56 = false)) ∧
      (∃ (s : State) (ring : Fin 65536) (d : Desc), (s.ring ring).work.find? (fun d => d.dtype == 0x60 && !s.changingAt ring d.pos) = some d ∧ s.mayCarry ring 0x60 =
      true ∧ bits (leAt d.bytes 0 4) 24 7 = 0 ∧ bits (leAt d.bytes 0 4) 0 6 = 0 ∧ bits (leAt d.bytes 4 4) 28 4 = 0 ∧ leAt d.bytes 8 8 % 8 = 0 ∧ d.zero 16 56 = true ∧
      (s.ownsSlot (s.ownerOf ring) (bits (leAt d.bytes 4 4) 0 14) = false ∨ bit (leAt d.bytes 0 4) 9 = true ∧ s.ownsSlot (s.ownerOf ring) (bits (leAt d.bytes 4 4) 14 14)
      = false)) ∧ (∃ (s : State) (ring : Fin 65536) (d : Desc) (ok : Bool) (data : List Byte) (key : List Byte), (s.ring ring).work.find? (fun d => d.dtype == 0x60 &&
      !s.changingAt ring d.pos) = some d ∧ s.mayCarry ring 0x60 = true ∧ bits (leAt d.bytes 0 4) 24 7 = 0 ∧ bits (leAt d.bytes 0 4) 0 6 = 0 ∧ bits (leAt d.bytes 4 4) 28
      4 = 0 ∧ leAt d.bytes 8 8 % 8 = 0 ∧ d.zero 16 56 = true ∧ s.ownsSlot (s.ownerOf ring) (bits (leAt d.bytes 4 4) 0 14) = true ∧ (bit (leAt d.bytes 0 4) 9 = false ∨
      s.ownsSlot (s.ownerOf ring) (bits (leAt d.bytes 4 4) 14 14) = true) ∧ s.material (bits (leAt d.bytes 0 4) 12 4) (bits (leAt d.bytes 0 4) 6 2) (bits (leAt d.bytes 4
      4) 14 14) (bit (leAt d.bytes 0 4) 9) ((keyBytes (bits (leAt d.bytes 0 4) 12 4) (bits (leAt d.bytes 0 4) 6 2)).getD 16) (s.sourceBytes (s.ownerOf ring) (leAt
      d.bytes 8 8) ((keyBytes (bits (leAt d.bytes 0 4) 12 4) (bits (leAt d.bytes 0 4) 6 2)).getD 16 + if bit (leAt d.bytes 0 4) 9 then 8 else 0) ok data) = .inr key) ∧
      (∃ (s : State) (ring : Fin 65536) (d : Desc) (ok : Bool) (data : List Byte) (r : Nat), (s.ring ring).work.find? (fun d => d.dtype == 0x60 && !s.changingAt ring
      d.pos) = some d ∧ s.mayCarry ring 0x60 = true ∧ bits (leAt d.bytes 0 4) 24 7 = 0 ∧ bits (leAt d.bytes 0 4) 0 6 = 0 ∧ bits (leAt d.bytes 4 4) 28 4 = 0 ∧ leAt
      d.bytes 8 8 % 8 = 0 ∧ d.zero 16 56 = true ∧ s.ownsSlot (s.ownerOf ring) (bits (leAt d.bytes 4 4) 0 14) = true ∧ (bit (leAt d.bytes 0 4) 9 = false ∨ s.ownsSlot
      (s.ownerOf ring) (bits (leAt d.bytes 4 4) 14 14) = true) ∧ s.material (bits (leAt d.bytes 0 4) 12 4) (bits (leAt d.bytes 0 4) 6 2) (bits (leAt d.bytes 4 4) 14 14)
      (bit (leAt d.bytes 0 4) 9) ((keyBytes (bits (leAt d.bytes 0 4) 12 4) (bits (leAt d.bytes 0 4) 6 2)).getD 16) (s.sourceBytes (s.ownerOf ring) (leAt d.bytes 8 8)
      ((keyBytes (bits (leAt d.bytes 0 4) 12 4) (bits (leAt d.bytes 0 4) 6 2)).getD 16 + if bit (leAt d.bytes 0 4) 9 then 8 else 0) ok data) = .inl r) ∧ (∃ (s : State)
      (ring : Fin 65536) (d : Desc), (s.ring ring).work.find? (fun d => d.dtype == 0x60 && !s.changingAt ring d.pos) = some d ∧ s.mayCarry ring 0x60 = true ∧ bits (leAt
      d.bytes 0 4) 24 7 = 0 ∧ bits (leAt d.bytes 0 4) 0 6 = 0 ∧ bits (leAt d.bytes 4 4) 28 4 = 0 ∧ leAt d.bytes 8 8 % 8 = 0 ∧ d.zero 16 56 = true ∧ s.ownsSlot (s.ownerOf
      ring) (bits (leAt d.bytes 4 4) 0 14) = true ∧ (bit (leAt d.bytes 0 4) 9 = false ∨ s.ownsSlot (s.ownerOf ring) (bits (leAt d.bytes 4 4) 14 14) = true) ∧ (keyBytes
      (bits (leAt d.bytes 0 4) 12 4) (bits (leAt d.bytes 0 4) 6 2)) = none) ∧ (∃ (s : State) (ring : Fin 65536) (d : Desc), (s.ring ring).work.find? (fun d => d.dtype ==
      0x60 && !s.changingAt ring d.pos) = some d ∧ s.mayCarry ring 0x60 = true ∧ bits (leAt d.bytes 0 4) 24 7 = 0 ∧ bits (leAt d.bytes 0 4) 0 6 = 0 ∧ bits (leAt d.bytes
      4 4) 28 4 = 0 ∧ leAt d.bytes 8 8 % 8 = 0 ∧ d.zero 16 56 = true ∧ s.ownsSlot (s.ownerOf ring) (bits (leAt d.bytes 4 4) 0 14) = true ∧ (bit (leAt d.bytes 0 4) 9 =
      false ∨ s.ownsSlot (s.ownerOf ring) (bits (leAt d.bytes 4 4) 14 14) = true) ∧ (keyBytes (bits (leAt d.bytes 0 4) 12 4) (bits (leAt d.bytes 0 4) 6 2)).isSome = true
      ∧ bit (leAt d.bytes 0 4) 9 = true ∧ (s.loaded (bits (leAt d.bytes 4 4) 14 14) && s.fld F.HX_CIPH_SLOT_MODE (bits (leAt d.bytes 4 4) 14 14) == 5 && s.flag
      F.HX_CIPH_SLOT_DEC (bits (leAt d.bytes 4 4) 14 14)) = false) ∧ (∃ (s : State) (ring : Fin 65536), (s.ring ring).work.find? (fun d => d.dtype == 0x60 &&
      !s.changingAt ring d.pos) = none ∧ (s.nextDesc ring).any (fun d => d.dtype == 0x60 && !s.changingAt ring d.pos) = false) ∧ (∃ (s : State) (ring : Fin 65536) (d :
      Desc), (s.ring ring).work.find? (fun d => d.dtype == 0x61 && !s.changingAt ring d.pos) = some d ∧ s.mayCarry ring 0x61 = true ∧ bits (leAt d.bytes 0 4) 24 7 = 0 ∧
      leAt d.bytes 0 2 = 0 ∧ bits (leAt d.bytes 4 4) 14 18 = 0 ∧ d.zero 8 56 = true ∧ s.ownsSlot (s.ownerOf ring) (bits (leAt d.bytes 4 4) 0 14) = true) ∧ (∃ (s : State)
      (ring : Fin 65536) (d : Desc), (s.ring ring).work.find? (fun d => d.dtype == 0x61 && !s.changingAt ring d.pos) = some d ∧ s.mayCarry ring 0x61 = true ∧ bits (leAt
      d.bytes 0 4) 24 7 = 0 ∧ leAt d.bytes 0 2 = 0 ∧ bits (leAt d.bytes 4 4) 14 18 = 0 ∧ d.zero 8 56 = true ∧ s.ownsSlot (s.ownerOf ring) (bits (leAt d.bytes 4 4) 0 14)
      = false) ∧ (∃ (s : State) (ring : Fin 65536) (d : Desc), (s.ring ring).work.find? (fun d => d.dtype == 0x61 && !s.changingAt ring d.pos) = some d ∧ (s.mayCarry
      ring 0x61 = false ∨ bits (leAt d.bytes 0 4) 24 7 ≠ 0 ∨ leAt d.bytes 0 2 ≠ 0 ∨ bits (leAt d.bytes 4 4) 14 18 ≠ 0 ∨ d.zero 8 56 = false)) ∧ (∃ (s : State) (ring :
      Fin 65536), (s.ring ring).work.find? (fun d => d.dtype == 0x61 && !s.changingAt ring d.pos) = none ∧ (s.nextDesc ring).any (fun d => d.dtype == 0x61 &&
      !s.changingAt ring d.pos) = false) ∧ (∃ (s : State) (slot : Fin 16384) (c : KeyChange), s.ciph.changes.find? (fun c => c.slot == slot.val) = some c ∧ c.jobs.any
      (fun j => s.ciph.jobs.any (fun x => x.ring == j.1 && x.pos == j.2)) = false ∧ c.ring < 65536 ∧ (s.ring c.ring).work.any (fun d => d.pos == c.pos) = true) ∧ (∃ (s :
      State) (slot : Fin 16384) (c : KeyChange) (j : Nat × Nat), s.ciph.changes.find? (fun c => c.slot == slot.val) = some c ∧ j ∈ c.jobs ∧ s.ciph.jobs.any (fun x =>
      x.ring == j.1 && x.pos == j.2) = true) ∧ (∃ (s : State) (slot : Fin 16384), s.ciph.changes.find? (fun c => c.slot == slot.val) = none) ∧ (∃ (s : State) (ring : Fin
      65536) (d : Desc) (r : Nat), (s.ring ring).work.find? (fun d => d.dtype == 0x62 && !s.ciph.jobs.any (fun j => j.ring == ring.val && j.pos == d.pos)) = some d ∧
      s.jobRefused ring d = some r) ∧ (∃ (s : State) (ring : Fin 65536) (d : Desc), (s.ring ring).work.find? (fun d => d.dtype == 0x62 && !s.ciph.jobs.any (fun j =>
      j.ring == ring.val && j.pos == d.pos)) = some d ∧ leAt d.bytes 24 4 ≤ 16777216 ∧ leAt d.bytes 28 2 ≤ leAt d.bytes 24 4 ∧ leAt d.bytes 28 2 = 0 ∧ bits (leAt d.bytes
      0 4) 12 4 = 2 ∧ s.mayCarry ring 0x62 = true ∧ bits (leAt d.bytes 0 4) 24 7 = 0 ∧ bits (leAt d.bytes 0 4) 0 10 = 0 ∧ bits (leAt d.bytes 4 4) 14 18 = 0 ∧ leAt
      d.bytes 30 2 = 0 ∧ leAt d.bytes 8 8 = leAt d.bytes 16 8 ∧ s.ownsSlot (s.ownerOf ring) (bits (leAt d.bytes 4 4) 0 14) = true ∧ s.loaded (bits (leAt d.bytes 4 4) 0
      14) = false) ∧ (∃ (s : State) (ring : Fin 65536) (d : Desc) (ok : Bool) (data : List Byte) (src : List Byte) (tag : List Byte) (lane : Nat), (s.ring
      ring).work.find? (fun d => d.dtype == 0x62 && !s.ciph.jobs.any (fun j => j.ring == ring.val && j.pos == d.pos)) = some d ∧ s.jobRefused ring d = none ∧
      s.sourceBytes (s.ownerOf ring) (leAt d.bytes 8 8) (leAt d.bytes 24 4) ok data = some src ∧ (if readsTag (bits (leAt d.bytes 0 4) 12 4) (bit (leAt d.bytes 0 4) 11)
      then s.sourceBytes (s.ownerOf ring) (leAt d.bytes 48 8) 16 ok (data.drop (leAt d.bytes 24 4)) else some []) = some tag ∧ s.freeLane = some lane) ∧ (∃ (s : State)
      (ring : Fin 65536) (d : Desc) (ok : Bool) (data : List Byte), (s.ring ring).work.find? (fun d => d.dtype == 0x62 && !s.ciph.jobs.any (fun j => j.ring == ring.val
      && j.pos == d.pos)) = some d ∧ s.jobRefused ring d = none ∧ (s.sourceBytes (s.ownerOf ring) (leAt d.bytes 8 8) (leAt d.bytes 24 4) ok data = none ∨ (if readsTag
      (bits (leAt d.bytes 0 4) 12 4) (bit (leAt d.bytes 0 4) 11) then s.sourceBytes (s.ownerOf ring) (leAt d.bytes 48 8) 16 ok (data.drop (leAt d.bytes 24 4)) else some
      []) = none) ∧ s.freeLane.isSome = true) ∧ (∃ (s : State) (ring : Fin 65536) (d : Desc), (s.ring ring).work.find? (fun d => d.dtype == 0x62 && !s.ciph.jobs.any (fun
      j => j.ring == ring.val && j.pos == d.pos)) = some d ∧ s.jobRefused ring d = none ∧ s.freeLane = none) ∧ (∃ (s : State) (ring : Fin 65536), (s.ring
      ring).work.find? (fun d => d.dtype == 0x62 && !s.ciph.jobs.any (fun j => j.ring == ring.val && j.pos == d.pos)) = none ∧ (s.nextDesc ring).any (fun d => d.dtype ==
      0x62 && !s.ciph.jobs.any (fun j => j.ring == ring.val && j.pos == d.pos)) = false) ∧ (∃ (s : State) (lane : Fin 16) (j : CiphJob), s.ciph.jobs.find? (fun j =>
      j.lane == lane.val) = some j ∧ readsTag j.mode j.decrypt = false ∧ j.mode ≠ 3 ∧ (s.ring j.ring).work.any (fun d => d.pos == j.pos) = true) ∧ (∃ (s : State) (lane :
      Fin 16) (j : CiphJob), s.ciph.jobs.find? (fun j => j.lane == lane.val) = some j ∧ j.decrypt = false ∧ j.mode = 3 ∧ (s.ring j.ring).work.any (fun d => d.pos ==
      j.pos) = true) ∧ (∃ (s : State) (lane : Fin 16) (j : CiphJob), s.ciph.jobs.find? (fun j => j.lane == lane.val) = some j ∧ readsTag j.mode j.decrypt = true ∧ j.mode
      ≠ 3 ∧ (s.ring j.ring).work.any (fun d => d.pos == j.pos) = true) ∧ (∃ (s : State) (lane : Fin 16) (j : CiphJob), s.ciph.jobs.find? (fun j => j.lane == lane.val) =
      some j ∧ j.decrypt = true ∧ j.mode = 3 ∧ (s.ring j.ring).work.any (fun d => d.pos == j.pos) = true) ∧ (∃ (s : State) (lane : Fin 16) (j : CiphJob),
      s.ciph.jobs.find? (fun j => j.lane == lane.val) = some j ∧ (s.ring j.ring).work.any (fun d => d.pos == j.pos) = true) ∧ (∃ (s : State) (lane : Fin 16),
      s.ciph.jobs.find? (fun j => j.lane == lane.val) = none) ∧ (∃ (s : State), s.powered = true) ∧ (∃ (s : State), s.powered = false) :=
  ⟨⟨ciphRun 0x60 (keyDesc 0x60 1 32 [10]), 5, keyDesc 0x60 1 32 [10], by decide⟩, ⟨ciphRun 0x60 (keyDesc 0x60 0 32 [99]), 5, keyDesc 0x60 0 32 [99], by decide⟩, ⟨ciphRun
    0x60 (keyDesc 0x60 0 45 [10]), 5, keyDesc 0x60 0 45 [10], true, List.replicate 16 7, List.replicate 16 7, by decide⟩, ⟨ciphRun 0x60 (keyDesc 0x60 0 32 [10]), 5,
    keyDesc 0x60 0 32 [10], false, [], 3, by decide⟩, ⟨ciphRun 0x60 (keyDesc 0x60 0 0x40 [10]), 5, keyDesc 0x60 0 0x40 [10], by decide⟩, ⟨ciphRun 0x60 (keyDesc 0x60 0 34
    [10]), 5, keyDesc 0x60 0 34 [10], by decide⟩, ⟨inMode .run, 5, by decide⟩, ⟨ciphRun 0x61 (keyDesc 0x61 0 0 [9]), 5, keyDesc 0x61 0 0 [9], by decide⟩, ⟨ciphRun 0x61
    (keyDesc 0x61 0 0 [99]), 5, keyDesc 0x61 0 0 [99], by decide⟩, ⟨ciphRun 0x61 (keyDesc 0x61 1 0 [9]), 5, keyDesc 0x61 1 0 [9], by decide⟩, ⟨inMode .run, 5, by
    decide⟩, ⟨(ciphRun 0x61 (keyDesc 0x61 0 0 [9])).withCiph { changes := [{ ring := 5, pos := 0, slot := 9, jobs := [] }] }, 9,
    { ring := 5, pos := 0, slot := 9, jobs := [] }, by decide⟩, ⟨(ciphRun 0x61 (keyDesc 0x61 0 0 [9])).withCiph
    { changes := [{ ring := 5, pos := 1, slot := 9, jobs := [(5, 0)] }], jobs := [oneJob 2] }, 9, { ring := 5, pos := 1, slot := 9, jobs := [(5, 0)] }, (5, 0), by
    decide⟩, ⟨inMode .run, 9, by decide⟩, ⟨ciphRun 0x62 (keyDesc 0x62 0 0x20 [10]), 5, keyDesc 0x62 0 0x20 [10], 0x41, by decide⟩, ⟨ciphRun 0x62 (keyDesc 0x62 0 0x20
    [10]), 5, keyDesc 0x62 0 0x20 [10], by decide⟩, ⟨ciphRun 0x62 (keyDesc 0x62 0 0x20 (([9] : List Byte) ++ List.replicate 19 0 ++ [3])), 5, (keyDesc 0x62 0 0x20 (([9]
    : List Byte) ++ List.replicate 19 0 ++ [3])), true, [1, 2, 3], [1, 2, 3], [], 4, by decide⟩, ⟨ciphRun 0x62 (keyDesc 0x62 0 0x20 (([9] : List Byte) ++ List.replicate
    19 0 ++ [3])), 5, (keyDesc 0x62 0 0x20 (([9] : List Byte) ++ List.replicate 19 0 ++ [3])), false, [], by decide⟩, ⟨(ciphRun 0x62 (keyDesc 0x62 0 0x20 (([9] : List
    Byte) ++ List.replicate 19 0 ++ [3]))).withCiph { keys := [(9, [1])], jobs := (List.range 16).map (fun l => { oneJob 2 with lane := l, ring := 6 }) }, 5, (keyDesc
    0x62 0 0x20 (([9] : List Byte) ++ List.replicate 19 0 ++ [3])), by decide⟩, ⟨inMode .run, 5, by decide⟩, ⟨jobRun 0, 3, oneJob 0, by decide⟩, ⟨(ciphRun 0x62 (keyDesc
    0x62 0 0 [])).withCiph { jobs := [oneJob 3] }, 3, oneJob 3, by decide⟩, ⟨(ciphRun 0x62 (keyDesc 0x62 0 0 [])).withCiph
    { jobs := [{ oneJob 0 with decrypt := true }] }, 3, { oneJob 0 with decrypt := true }, by decide⟩, ⟨(ciphRun 0x62 (keyDesc 0x62 0 0 [])).withCiph
    { jobs := [{ oneJob 3 with decrypt := true }] }, 3, { oneJob 3 with decrypt := true }, by decide⟩, ⟨jobRun 0, 3, oneJob 0, by decide⟩, ⟨inMode .run, 3, by decide⟩,
    ⟨jobRun 2, by decide⟩, ⟨State.reset, by decide⟩⟩

set_option maxRecDepth 8000 in
/-- The premises of SupplyReserveAndHeldDomains can be met. -/
theorem premises_SupplyReserveAndHeldDomains :
    (∃ (s : State) (vin : Fin 65536) (bank : Fin 65536) (iin : Fin 262144), s.powered = true ∧ 3900 ≤ s.metered 0 65535 vin ∧ 25 * s.fld F.AO_SUP_CFG_VVAULT ≤ s.metered
      0 65535 vin ∧ s.vHold ≤ s.metered 0 65535 vin ∧ (s.sample (s.metered 0 65535 vin) (s.metered 1 65535 bank) (s.meteredIin iin)).atDirty = false) ∧ (∃ (s : State)
      (vin : Fin 65536), s.powered = true ∧ s.inService = false ∧ s.mode ≠ .boot ∧ 3900 ≤ s.metered 0 65535 vin) ∧ (∃ (s : State) (vin : Fin 65536) (bank : Fin 65536)
      (iin : Fin 262144), s.mode = .run ∧ 3900 ≤ s.metered 0 65535 vin ∧ 25 * s.fld F.AO_SUP_CFG_VVAULT ≤ s.metered 0 65535 vin ∧ s.metered 0 65535 vin < s.vHold ∧
      (s.sample (s.metered 0 65535 vin) (s.metered 1 65535 bank) (s.meteredIin iin)).atDirty = false) ∧ (∃ (s : State) (vin : Fin 65536) (bank : Fin 65536) (iin : Fin
      262144), s.inService = true ∧ 3900 ≤ s.metered 0 65535 vin ∧ 25 * s.fld F.AO_SUP_CFG_VVAULT ≤ s.metered 0 65535 vin ∧ (s.sample (s.metered 0 65535 vin) (s.metered
      1 65535 bank) (s.meteredIin iin)).atDirty = true) ∧ (∃ (s : State) (vin : Fin 65536), s.inService = true ∧ 3900 ≤ s.metered 0 65535 vin ∧ s.metered 0 65535 vin <
      25 * s.fld F.AO_SUP_CFG_VVAULT) ∧ (∃ (s : State) (vin : Fin 65536), s.mode = .boot ∧ 3900 ≤ s.metered 0 65535 vin ∧ s.metered 0 65535 vin < s.vHold) ∧ (∃ (s :
      State) (vin : Fin 65536), s.powered = true ∧ s.metered 0 65535 vin < 3900) ∧ (∃ (s : State), s.powered = false) ∧ (∃ (s : State), s.powered = true ∧ s.flag
      F.AO_SUP_STATUS_BACKSTOP = false) ∧ (∃ (s : State), (s.powered = false ∨ s.flag F.AO_SUP_STATUS_BACKSTOP = true)) ∧ (∃ (s : State), s.powered = true ∧ s.flag
      F.AO_SUP_STATUS_BACKSTOP = true) ∧ (∃ (s : State), (s.powered = false ∨ s.flag F.AO_SUP_STATUS_BACKSTOP = false)) ∧ (∃ (s : State), s.powered = true ∧ s.flag
      F.AO_SUP_STATUS_OV = false) ∧ (∃ (s : State), (s.powered = false ∨ s.flag F.AO_SUP_STATUS_OV = true)) ∧ (∃ (s : State) (low : Fin 65536), s.powered = true ∧
      s.vHold ≤ low) ∧ (∃ (s : State) (low : Fin 65536), (s.powered = false ∨ low.val < s.vHold)) ∧ (∃ (s : State), s.inService = true ∧ s.dirty = true) ∧ (∃ (s :
      State), s.inService = true ∧ s.dirty = false) ∧ (∃ (s : State), (s.mode = .standby ∨ s.mode = .safetyNet ∨ s.mode = .halt)) ∧ (∃ (s : State), s.mode = .boot) ∧ (∃
      (s : State), s.mode = .vault) ∧ (∃ (s : State), s.mode = .off) ∧ (∃ (s : State), s.inService = true ∧ s.dirty = true) ∧ (∃ (s : State), s.inService = true ∧
      s.dirty = false) ∧ (∃ (s : State), (s.mode = .standby ∨ s.mode = .safetyNet ∨ s.mode = .halt)) ∧ (∃ (s : State), s.mode = .boot) ∧ (∃ (s : State), s.mode = .vault)
      ∧ (∃ (s : State), s.mode = .off) ∧ (∃ (s : State) (who : Party), s.admits who 0 4 = true ∧ s.flag F.AO_SUP_LIM_TEST_EN = true ∧ s.flag F.AO_SUP_STATUS_TESTING =
      false ∧ s.mode = .run ∧ s.vHold + 1000 ≤ s.fld F.AO_SUP_VIN_VIN_MV ∧ s.fld F.AO_LED_STATUS_DIRTY_REQ ≤ s.reserveAt (s.vBank - 600) ∧ s.fld F.AO_PKG_GPIO_FUNC 15 =
      1) ∧ (∃ (s : State) (who : Party), s.admits who 0 4 = true ∧ s.flag F.AO_SUP_LIM_TEST_EN = true ∧ s.flag F.AO_SUP_STATUS_TESTING = false ∧ s.mode = .run ∧ s.vHold
      + 1000 ≤ s.fld F.AO_SUP_VIN_VIN_MV ∧ s.fld F.AO_LED_STATUS_DIRTY_REQ ≤ s.reserveAt (s.vBank - 600) ∧ s.fld F.AO_PKG_GPIO_FUNC 15 ≠ 1) ∧ (∃ (s : State) (who :
      Party), s.admits who 0 4 = true ∧ s.flag F.AO_SUP_LIM_TEST_EN = true ∧ s.flag F.AO_SUP_STATUS_TESTING = false ∧ (s.mode ≠ .run ∨ s.fld F.AO_SUP_VIN_VIN_MV <
      s.vHold + 1000 ∨ s.reserveAt (s.vBank - 600) < s.fld F.AO_LED_STATUS_DIRTY_REQ)) ∧ (∃ (s : State) (who : Party), s.admits who 0 4 = true ∧ (s.flag
      F.AO_SUP_LIM_TEST_EN = false ∨ s.flag F.AO_SUP_STATUS_TESTING = true)) ∧ (∃ (s : State), s.powered = true ∧ s.flag F.AO_SUP_LIM_TEST_EN = true ∧ s.flag
      F.AO_SUP_STATUS_TESTING = false ∧ s.mode = .run ∧ s.vHold + 1000 ≤ s.fld F.AO_SUP_VIN_VIN_MV ∧ s.fld F.AO_LED_STATUS_DIRTY_REQ ≤ s.reserveAt (s.vBank - 600) ∧
      s.fld F.AO_PKG_GPIO_FUNC 15 = 1) ∧ (∃ (s : State), s.powered = true ∧ s.flag F.AO_SUP_LIM_TEST_EN = true ∧ s.flag F.AO_SUP_STATUS_TESTING = false ∧ s.mode = .run ∧
      s.vHold + 1000 ≤ s.fld F.AO_SUP_VIN_VIN_MV ∧ s.fld F.AO_LED_STATUS_DIRTY_REQ ≤ s.reserveAt (s.vBank - 600) ∧ s.fld F.AO_PKG_GPIO_FUNC 15 ≠ 1) ∧ (∃ (s : State),
      s.powered = true ∧ s.flag F.AO_SUP_LIM_TEST_EN = true ∧ s.flag F.AO_SUP_STATUS_TESTING = false ∧ (s.mode ≠ .run ∨ s.fld F.AO_SUP_VIN_VIN_MV < s.vHold + 1000 ∨
      s.reserveAt (s.vBank - 600) < s.fld F.AO_LED_STATUS_DIRTY_REQ)) ∧ (∃ (s : State), s.powered = true ∧ (s.flag F.AO_SUP_LIM_TEST_EN = false ∨ s.flag
      F.AO_SUP_STATUS_TESTING = true)) ∧ (∃ (s : State) (v1 : Fin 65536) (v2 : Fin 65536) (e : Word) (c : Nat) (used : Nat), s.flag F.AO_SUP_STATUS_TESTING = true ∧
      v2.val + 50 ≤ v1 ∧ c = 2000000 * e.toNat / (v1 * v1 - v2 * v2) ∧ used = s.fld F.AO_SUP_CAP_C_USED) ∧ (∃ (s : State) (v1 : Fin 65536) (v2 : Fin 65536), s.flag
      F.AO_SUP_STATUS_TESTING = true ∧ v1.val < v2 + 50) ∧ (∃ (s : State), s.flag F.AO_SUP_STATUS_TESTING = false) ∧ (∃ (s : State) (who : Party) (d : Fin 96), s.admits
      who 0 5 = true ∧ s.mayForce d = true ∧ (d.val < 44 ∨ 60 ≤ d.val)) ∧ (∃ (s : State) (who : Party) (d : Fin 96), s.admits who 0 5 = true ∧ s.mayForce d = true ∧ 44 ≤
      d.val ∧ d.val < 60) ∧ (∃ (s : State) (who : Party) (d : Fin 96), s.admits who 0 5 = true ∧ s.mayForce d = false) ∧ (∃ (s : State) (who : Party), s.admits who 0 5 =
      true) :=
  ⟨⟨(inMode .run).withCal { vals := [(196608, 1048577)] }, 12000, 12000, 1, by decide⟩, ⟨inMode .standby, 6999, by decide⟩, ⟨inMode .run, 6900, 12000, 1, by decide⟩,
    ⟨oneVer (inMode .rideThrough) .cert, 5200, 5200, 1, by decide⟩, ⟨inMode .run, 4000, by decide⟩, ⟨inMode .boot, 6900, by decide⟩, ⟨inMode .run, 3899, by decide⟩,
    ⟨State.reset, by decide⟩, ⟨inMode .run, by decide⟩, ⟨State.reset, by decide⟩, ⟨(inMode .run).setFlag F.AO_SUP_STATUS_BACKSTOP 0 true, by decide⟩, ⟨State.reset, by
    decide⟩, ⟨inMode .run, by decide⟩, ⟨State.reset, by decide⟩, ⟨inMode .run, 7000, by decide⟩, ⟨inMode .run, 6999, by decide⟩, ⟨oneVer (inMode .run) .cert, by decide⟩,
    ⟨inMode .run, by decide⟩, ⟨inMode .safetyNet, by decide⟩, ⟨inMode .boot, by decide⟩, ⟨inMode .vault, by decide⟩, ⟨State.reset, by decide⟩, ⟨oneVer (inMode .run)
    .cert, by decide⟩, ⟨inMode .run, by decide⟩, ⟨inMode .safetyNet, by decide⟩, ⟨inMode .boot, by decide⟩, ⟨inMode .vault, by decide⟩, ⟨State.reset, by decide⟩,
    ⟨(((((inMode .run).setFlag F.AO_SUP_LIM_TEST_EN 0 true).setFld F.AO_SUP_VIN_VIN_MV 0 12000).setFld F.AO_SUP_VIN_BANK_MV 0 12000).setFld F.AO_SUP_CAP_C_USED 0
    100000).setFld F.AO_PKG_GPIO_FUNC 15 1, .supervisor, by decide⟩, ⟨(((((inMode .run).setFlag F.AO_SUP_LIM_TEST_EN 0 true).setFld F.AO_SUP_VIN_VIN_MV 0 12000).setFld
    F.AO_SUP_VIN_BANK_MV 0 12000).setFld F.AO_SUP_CAP_C_USED 0 100000), .supervisor, by decide⟩, ⟨(inMode .rideThrough).setFlag F.AO_SUP_LIM_TEST_EN 0 true, .supervisor,
    by decide⟩, ⟨inMode .run, .supervisor, by decide⟩, ⟨(((((inMode .run).setFlag F.AO_SUP_LIM_TEST_EN 0 true).setFld F.AO_SUP_VIN_VIN_MV 0 12000).setFld
    F.AO_SUP_VIN_BANK_MV 0 12000).setFld F.AO_SUP_CAP_C_USED 0 100000).setFld F.AO_PKG_GPIO_FUNC 15 1, by decide⟩, ⟨(((((inMode .run).setFlag F.AO_SUP_LIM_TEST_EN 0
    true).setFld F.AO_SUP_VIN_VIN_MV 0 12000).setFld F.AO_SUP_VIN_BANK_MV 0 12000).setFld F.AO_SUP_CAP_C_USED 0 100000), by decide⟩, ⟨(inMode .rideThrough).setFlag
    F.AO_SUP_LIM_TEST_EN 0 true, by decide⟩, ⟨inMode .run, by decide⟩, ⟨((inMode .run).setFlag F.AO_SUP_STATUS_TESTING 0 true).setFld F.AO_SUP_CAP_C_USED 0 1000, 5050,
    5000, 2000000, 7960199, 1000, by decide⟩, ⟨(inMode .run).setFlag F.AO_SUP_STATUS_TESTING 0 true, 5049, 5000, by decide⟩, ⟨inMode .run, by decide⟩, ⟨(inMode
    .run).setFld F.AO_WAKE_STATUS_POWER 3 2, .supervisor, 3, by decide⟩, ⟨inMode .run, .supervisor, 44, by decide⟩, ⟨inMode .run, .supervisor, 95, by decide⟩, ⟨(inMode
    .run).setFlag F.AO_PD_CTRL_FORCE_OFF 3 true, .supervisor, by decide⟩⟩

set_option maxRecDepth 8000 in
/-- The premises of EnergyLedger can be met. -/
theorem premises_EnergyLedger :
    (∃ (s : State), s.powered = true) ∧ (∃ (s : State), s.powered = true ∧ s.mode = .vault ∧ s.led.ms ≠ 0) ∧ (∃ (s : State), s.powered = false) ∧ (∃ (s : State) (a : Fin
      256), s.powered = true ∧ s.oper F.AO_LED_EA_EN a = 1 ∧ s.periodOver a ≤ s.now) ∧ (∃ (s : State) (a : Fin 256), (s.powered = false ∨ s.oper F.AO_LED_EA_EN a ≠ 1 ∨
      s.now < s.periodOver a)) ∧ (∃ (s : State), (s.mode = .boot ∨ s.inService = true ∨ s.mode = .safetyNet)) ∧ (∃ (s : State), s.ringUp = true) ∧ (∃ (s : State),
      s.ledgerOn = true) ∧ (∃ (s : State), s.mode ≠ .boot ∧ s.inService = false ∧ s.mode ≠ .safetyNet) ∧ (∃ (s : State), s.ringUp = false) ∧ (∃ (s : State), s.ledgerOn =
      false) ∧ ((∃ l : List (EnergySource × Nat), l.foldl (fun n x => n + x.2) 0 ≠ 0)) :=
  ⟨⟨(inMode .run).withLed { ms := 5000000, rests := [(0, 999999)] }, by decide⟩, ⟨(inMode .vault).withLed { ms := 5000000, rests := [(0, 999999)] }, by decide⟩,
    ⟨State.reset, by decide⟩, ⟨((inMode .run).setFld F.AO_LED_EA_USED 255 9).setFld F.AO_TB_NOW_NOW 0 65536000000000 |>.withLed
    { oper := [(F.AO_LED_EA_EN.id, [(255, 1)])] }, 255, by decide⟩, ⟨inMode .run, 255, by decide⟩, ⟨(inMode .run).setFld F.AO_LED_EA_CEIL 3 50, by decide⟩, ⟨(inMode
    .run).setFld F.AO_LED_EA_TOTAL 3 50, by decide⟩, ⟨(inMode .run).withLed { copy := [1, 2] }, by decide⟩, ⟨inMode .halt, by decide⟩, ⟨State.reset, by decide⟩,
    ⟨State.reset, by decide⟩, ⟨[(.ao, 3)], by decide⟩⟩

set_option maxRecDepth 8000 in
/-- The premises of ImagesFusesAndAttestation can be met. -/
theorem premises_ImagesFusesAndAttestation :
    (∃ (s : State) (who : Party) (slot : Fin 2), s.admits who 0 7 = true ∧ s.fld F.AO_IMG_STATUS_STATE = 0 ∧ (s.mode = .safetyNet ∨ (s.mode = .run ∧ slot.val ≠ s.fld
      F.AO_BOOT_STATUS_SLOT)) ∧ s.fld F.AO_PROG_STATUS_STATE = 0 ∧ s.fld F.AO_UCODE_STATUS_STATE = 0) ∧ (∃ (s : State) (who : Party), s.admits who 0 7 = true ∧ s.fld
      F.AO_IMG_STATUS_STATE ≠ 0) ∧ (∃ (s : State) (who : Party), s.admits who 0 7 = true ∧ s.fld F.AO_IMG_STATUS_STATE = 0 ∧ s.mode ≠ .run ∧ s.mode ≠ .safetyNet) ∧ (∃ (s
      : State) (who : Party) (slot : Fin 2), s.admits who 0 7 = true ∧ s.fld F.AO_IMG_STATUS_STATE = 0 ∧ s.mode = .run ∧ slot.val = s.fld F.AO_BOOT_STATUS_SLOT) ∧ (∃ (s
      : State) (who : Party) (slot : Fin 2), s.admits who 0 7 = true ∧ s.fld F.AO_IMG_STATUS_STATE = 0 ∧ (s.mode = .safetyNet ∨ (s.mode = .run ∧ slot.val ≠ s.fld
      F.AO_BOOT_STATUS_SLOT)) ∧ (s.fld F.AO_PROG_STATUS_STATE ≠ 0 ∨ s.fld F.AO_UCODE_STATUS_STATE ≠ 0)) ∧ (∃ (s : State) (who : Party) (slot : Fin 2) (pages : Fin 8192),
      s.admits who 0 7 = true ∧ s.fld F.AO_IMG_STATUS_STATE = 0 ∧ (s.mode = .safetyNet ∨ (s.mode = .run ∧ slot.val ≠ s.fld F.AO_BOOT_STATUS_SLOT)) ∧ s.fld
      F.AO_PROG_STATUS_STATE = 0 ∧ s.fld F.AO_UCODE_STATUS_STATE = 0 ∧ pages.val ≠ 0 ∧ pages.val ≤ 4096 ∧ s.fld F.AO_IMG_ARG_OFFSET + pages ≤ 14320) ∧ (∃ (s : State)
      (who : Party), s.admits who 0 7 = true ∧ s.fld F.AO_IMG_STATUS_STATE ≠ 0) ∧ (∃ (s : State) (who : Party), s.admits who 0 7 = true ∧ s.fld F.AO_IMG_STATUS_STATE = 0
      ∧ s.mode ≠ .run ∧ s.mode ≠ .safetyNet) ∧ (∃ (s : State) (who : Party) (slot : Fin 2), s.admits who 0 7 = true ∧ s.fld F.AO_IMG_STATUS_STATE = 0 ∧ s.mode = .run ∧
      slot.val = s.fld F.AO_BOOT_STATUS_SLOT) ∧ (∃ (s : State) (who : Party) (slot : Fin 2), s.admits who 0 7 = true ∧ s.fld F.AO_IMG_STATUS_STATE = 0 ∧ (s.mode =
      .safetyNet ∨ (s.mode = .run ∧ slot.val ≠ s.fld F.AO_BOOT_STATUS_SLOT)) ∧ (s.fld F.AO_PROG_STATUS_STATE ≠ 0 ∨ s.fld F.AO_UCODE_STATUS_STATE ≠ 0)) ∧ (∃ (s : State)
      (who : Party) (slot : Fin 2) (pages : Fin 8192), s.admits who 0 7 = true ∧ s.fld F.AO_IMG_STATUS_STATE = 0 ∧ (s.mode = .safetyNet ∨ (s.mode = .run ∧ slot.val ≠
      s.fld F.AO_BOOT_STATUS_SLOT)) ∧ s.fld F.AO_PROG_STATUS_STATE = 0 ∧ s.fld F.AO_UCODE_STATUS_STATE = 0 ∧ (pages.val = 0 ∨ 4096 < pages.val ∨ 14320 < s.fld
      F.AO_IMG_ARG_OFFSET + pages)) ∧ (∃ (s : State) (who : Party) (slot : Fin 2), s.admits who 0 7 = true ∧ s.fld F.AO_IMG_STATUS_STATE = 0 ∧ (s.mode = .safetyNet ∨
      (s.mode = .run ∧ slot.val ≠ s.fld F.AO_BOOT_STATUS_SLOT)) ∧ s.fld F.AO_PROG_STATUS_STATE = 0 ∧ s.fld F.AO_UCODE_STATUS_STATE = 0) ∧ (∃ (s : State) (who : Party),
      s.admits who 0 7 = true ∧ s.fld F.AO_IMG_STATUS_STATE ≠ 0) ∧ (∃ (s : State) (who : Party), s.admits who 0 7 = true ∧ s.fld F.AO_IMG_STATUS_STATE = 0 ∧ s.mode ≠
      .run ∧ s.mode ≠ .safetyNet) ∧ (∃ (s : State) (who : Party) (slot : Fin 2), s.admits who 0 7 = true ∧ s.fld F.AO_IMG_STATUS_STATE = 0 ∧ s.mode = .run ∧ slot.val =
      s.fld F.AO_BOOT_STATUS_SLOT) ∧ (∃ (s : State) (who : Party) (slot : Fin 2), s.admits who 0 7 = true ∧ s.fld F.AO_IMG_STATUS_STATE = 0 ∧ (s.mode = .safetyNet ∨
      (s.mode = .run ∧ slot.val ≠ s.fld F.AO_BOOT_STATUS_SLOT)) ∧ (s.fld F.AO_PROG_STATUS_STATE ≠ 0 ∨ s.fld F.AO_UCODE_STATUS_STATE ≠ 0)) ∧ (∃ (s : State) (who : Party)
      (pages : Fin 8192), s.admits who 0 7 = true ∧ s.fld F.AO_IMG_STATUS_STATE = 0 ∧ (s.mode = .run ∨ s.mode = .safetyNet) ∧ s.fld F.AO_PROG_STATUS_STATE = 0 ∧ s.fld
      F.AO_UCODE_STATUS_STATE = 0 ∧ pages.val ≠ 0 ∧ pages.val ≤ 8) ∧ (∃ (s : State) (who : Party), s.admits who 0 7 = true ∧ s.fld F.AO_IMG_STATUS_STATE ≠ 0) ∧ (∃ (s :
      State) (who : Party), s.admits who 0 7 = true ∧ s.fld F.AO_IMG_STATUS_STATE = 0 ∧ s.mode ≠ .run ∧ s.mode ≠ .safetyNet) ∧ (∃ (s : State) (who : Party), s.admits who
      0 7 = true ∧ s.fld F.AO_IMG_STATUS_STATE = 0 ∧ (s.mode = .run ∨ s.mode = .safetyNet) ∧ (s.fld F.AO_PROG_STATUS_STATE ≠ 0 ∨ s.fld F.AO_UCODE_STATUS_STATE ≠ 0)) ∧ (∃
      (s : State) (who : Party) (pages : Fin 8192), s.admits who 0 7 = true ∧ s.fld F.AO_IMG_STATUS_STATE = 0 ∧ (s.mode = .run ∨ s.mode = .safetyNet) ∧ s.fld
      F.AO_PROG_STATUS_STATE = 0 ∧ s.fld F.AO_UCODE_STATUS_STATE = 0 ∧ (pages.val = 0 ∨ 8 < pages.val)) ∧ (∃ (s : State) (c : ImgCmd), s.boot.img = some c ∧ c.op = 1) ∧
      (∃ (s : State) (c : ImgCmd) (r : FlashResult), s.boot.img = some c ∧ c.op = 1 ∧ r ≠ .done) ∧ (∃ (s : State) (c : ImgCmd), s.boot.img = some c ∧ c.op = 2 ∧
      (s.flashPart c.slot).any (fun e => inRange e.1 (4096 * c.offset) (4096 * c.pages)) = false) ∧ (∃ (s : State) (c : ImgCmd), s.boot.img = some c ∧ c.op = 2 ∧
      (s.flashPart c.slot).any (fun e => inRange e.1 (4096 * c.offset) (4096 * c.pages)) = true) ∧ (∃ (s : State) (c : ImgCmd), s.boot.img = some c ∧ c.op = 2 ∧
      (s.flashPart c.slot).any (fun e => inRange e.1 (4096 * c.offset) (4096 * c.pages)) = false) ∧ (∃ (s : State) (c : ImgCmd), s.boot.img = some c ∧ c.op = 2 ∧
      (s.flashPart c.slot).any (fun e => inRange e.1 (4096 * c.offset) (4096 * c.pages)) = false) ∧ (∃ (s : State) (c : ImgCmd), s.boot.img = some c ∧ c.op = 3 ∧
      (parseHdr (flashBytes (s.flashPart c.slot) 0 256)).any (fun h => !h.runLoad && decide (s.boot.floor ≤ h.svn) && decide (h.len + 3080 ≤ 0x037F0000)) = false) ∧ (∃
      (s : State) (c : ImgCmd), s.boot.img = some c ∧ c.op = 3 ∧ (parseHdr (flashBytes (s.flashPart c.slot) 0 256)).any (fun h => !h.runLoad && decide (s.boot.floor ≤
      h.svn) && decide (h.len + 3080 ≤ 0x037F0000)) = true ∧ (flashBytes (s.flashPart c.slot) 0x037F0000 64).any (fun b => b != 255) = false) ∧ (∃ (s : State) (c :
      ImgCmd), s.boot.img = some c ∧ c.op = 3 ∧ (parseHdr (flashBytes (s.flashPart c.slot) 0 256)).any (fun h => !h.runLoad && decide (s.boot.floor ≤ h.svn) && decide
      (h.len + 3080 ≤ 0x037F0000)) = true ∧ (flashBytes (s.flashPart c.slot) 0x037F0000 64).any (fun b => b != 255) = true) ∧ (∃ (s : State) (c : ImgCmd) (r :
      FlashResult), s.boot.img = some c ∧ c.op = 3 ∧ (parseHdr (flashBytes (s.flashPart c.slot) 0 256)).any (fun h => !h.runLoad && decide (s.boot.floor ≤ h.svn) &&
      decide (h.len + 3080 ≤ 0x037F0000)) = true ∧ (flashBytes (s.flashPart c.slot) 0x037F0000 64).any (fun b => b != 255) = false ∧ r ≠ .done) ∧ (∃ (s : State) (c :
      ImgCmd), s.boot.img = some c ∧ c.op = 4 ∧ (s.bcfg 0 = none ∨ s.bcfg 1 = none)) ∧ (∃ (s : State) (c : ImgCmd) (a : Nat × List (Nat × Nat)) (b : Nat × List (Nat ×
      Nat)), s.boot.img = some c ∧ c.op = 4 ∧ s.bcfg 0 = some a ∧ s.bcfg 1 = some b) ∧ (∃ (s : State) (c : ImgCmd), s.boot.img = some c ∧ c.op = 4) ∧ (∃ (s : State) (c :
      ImgCmd), s.boot.img = some c ∧ c.op = 4) ∧ (∃ (s : State), s.boot.img = none) ∧ (∃ (s : State) (who : Party), s.admits who 0 7 = true ∧ Map.get false 0
      s.boot.demoted = true) ∧ (∃ (s : State) (who : Party), s.admits who 0 7 = true ∧ Map.get false 0 s.boot.demoted = false) ∧ (∃ (s : State) (who : Party), s.admits
      who 0 7 = true ∧ Map.get false 1 s.boot.demoted = true) ∧ (∃ (s : State) (who : Party), s.admits who 0 7 = true ∧ Map.get false 1 s.boot.demoted = false) ∧ (∃ (s :
      State), s.mode = .run ∧ s.unverified = false ∧ s.boot.advance = true ∧ s.boot.floor < s.boot.svn) ∧ (∃ (s : State), (s.mode ≠ .run ∨ s.unverified = true ∨
      s.boot.advance = false ∨ s.boot.svn ≤ s.boot.floor)) ∧ (∃ (s : State) (who : Party) (v : Word) (ok : Bool) (root : Nat), s.admits who 0 8 = true ∧ bits v.toNat 16
      16 = 0xC1A0 ∧ bits v.toNat 12 4 = 1 ∧ root = bits v.toNat 0 2 ∧ ok = (s.mode == .run && !s.unverified && root != s.boot.root && (List.range 4).any (fun r => r !=
      root && bit rootsSet r && !bit s.boot.revoked r))) ∧ (∃ (s : State) (who : Party) (v : Word), s.admits who 0 8 = true ∧ (bits v.toNat 16 16 ≠ 0xC1A0 ∨ bits v.toNat
      12 4 ≠ 1)) ∧ (∃ (s : State) (who : Party) (v : Word) (slot : Nat), s.admits who 0 8 = true ∧ bits v.toNat 28 4 = 1 ∧ slot = bits v.toNat 0 14 ∧ bits v.toNat 24 4 ≤
      4 ∧ s.unverified = false ∧ s.flag F.AO_DBG_STATUS_SUPV_LOCK = false ∧ (if s.rank who ≤ 2 then s.holders.any (fun fi => s.ownsSlot fi slot) else s.holders.contains
      s.mgr && s.ownsSlot s.mgr slot) = true) ∧ (∃ (s : State) (who : Party) (v : Word) (slot : Nat), s.admits who 0 8 = true ∧ bits v.toNat 28 4 = 1 ∧ slot = bits
      v.toNat 0 14 ∧ (s.unverified = true ∨ s.flag F.AO_DBG_STATUS_SUPV_LOCK = true ∨ 4 < bits v.toNat 24 4 ∨ (if s.rank who ≤ 2 then s.holders.any (fun fi => s.ownsSlot
      fi slot) else s.holders.contains s.mgr && s.ownsSlot s.mgr slot) = false)) ∧ (∃ (s : State) (who : Party) (v : Word), s.admits who 0 8 = true ∧ bits v.toNat 28 4 ≠
      1) ∧ (∃ (s : State), s.mode ≠ .off ∧ s.mode ≠ .standby) ∧ (∃ (s : State), (s.mode = .off ∨ s.mode = .standby)) ∧ (∃ (s : State) (who : Party), s.admits who 0 8 =
      true ∧ s.flag F.AO_ATT_STATUS_BUSY = false) ∧ (∃ (s : State) (who : Party), s.admits who 0 8 = true ∧ s.flag F.AO_ATT_STATUS_BUSY = true) ∧ (∃ (s : State), s.flag
      F.AO_ATT_STATUS_BUSY = true ∧ s.flag F.AO_ATT_STATUS_READY = true) ∧ (∃ (s : State), (s.flag F.AO_ATT_STATUS_BUSY = false ∨ s.flag F.AO_ATT_STATUS_READY = false))
      ∧ (∃ (s : State), s.admits .supervisor 7 0 = true) ∧ (∃ (s : State) (who : Party), s.admits who 7 0 = true ∧ who ≠ .supervisor) :=
  ⟨⟨(imgRun .run { op := 1, slot := 0, pages := 0, offset := 0 } 0), .supervisor, 1, by decide⟩, ⟨(inMode .run).setFld F.AO_IMG_STATUS_STATE 0 2, .supervisor, by
    decide⟩, ⟨inMode .boot, .supervisor, by decide⟩, ⟨(inMode .run).setFld F.AO_BOOT_STATUS_SLOT 0 1, .supervisor, 1, by decide⟩, ⟨(inMode .run).setFld
    F.AO_UCODE_STATUS_STATE 0 2, .supervisor, 1, by decide⟩, ⟨inMode .run, .supervisor, 1, 8, by decide⟩, ⟨(inMode .run).setFld F.AO_IMG_STATUS_STATE 0 2, .supervisor,
    by decide⟩, ⟨inMode .boot, .supervisor, by decide⟩, ⟨(inMode .run).setFld F.AO_BOOT_STATUS_SLOT 0 1, .supervisor, 1, by decide⟩, ⟨(inMode .run).setFld
    F.AO_UCODE_STATUS_STATE 0 2, .supervisor, 1, by decide⟩, ⟨inMode .run, .supervisor, 1, 0, by decide⟩, ⟨inMode .run, .supervisor, 1, by decide⟩, ⟨(inMode .run).setFld
    F.AO_IMG_STATUS_STATE 0 2, .supervisor, by decide⟩, ⟨inMode .boot, .supervisor, by decide⟩, ⟨(inMode .run).setFld F.AO_BOOT_STATUS_SLOT 0 1, .supervisor, 1, by
    decide⟩, ⟨(inMode .run).setFld F.AO_UCODE_STATUS_STATE 0 2, .supervisor, 1, by decide⟩, ⟨inMode .run, .supervisor, 8, by decide⟩, ⟨(inMode .run).setFld
    F.AO_IMG_STATUS_STATE 0 2, .supervisor, by decide⟩, ⟨inMode .boot, .supervisor, by decide⟩, ⟨(inMode .run).setFld F.AO_UCODE_STATUS_STATE 0 2, .supervisor, by
    decide⟩, ⟨inMode .run, .supervisor, 0, by decide⟩, ⟨imgRun .run { op := 1, slot := 1, pages := 0, offset := 0 } 1, { op := 1, slot := 1, pages := 0, offset := 0 },
    by decide⟩, ⟨imgRun .run { op := 1, slot := 1, pages := 0, offset := 0 } 1, { op := 1, slot := 1, pages := 0, offset := 0 }, .error, by decide⟩, ⟨imgRun .run
    { op := 2, slot := 1, pages := 1, offset := 1 } 2, { op := 2, slot := 1, pages := 1, offset := 1 }, by decide⟩, ⟨imgRun .run
    { op := 2, slot := 1, pages := 1, offset := 0 } 2, { op := 2, slot := 1, pages := 1, offset := 0 }, by decide⟩, ⟨imgRun .run
    { op := 2, slot := 1, pages := 1, offset := 1 } 2, { op := 2, slot := 1, pages := 1, offset := 1 }, by decide⟩, ⟨imgRun .run
    { op := 2, slot := 1, pages := 1, offset := 1 } 2, { op := 2, slot := 1, pages := 1, offset := 1 }, by decide⟩, ⟨imgRun .run
    { op := 3, slot := 1, pages := 1, offset := 0 } 2, { op := 3, slot := 1, pages := 1, offset := 0 }, by decide⟩, ⟨(imgRun .run
    { op := 3, slot := 0, pages := 0, offset := 0 } 3).withBoot
    { img := some { op := 3, slot := 0, pages := 0, offset := 0 }, flash := [(0, imageFlash)], demoted := [(0, true)] }, { op := 3, slot := 0, pages := 0, offset := 0 },
    by decide⟩, ⟨(imgRun .run { op := 3, slot := 0, pages := 0, offset := 0 } 3).withBoot
    { img := some { op := 3, slot := 0, pages := 0, offset := 0 }, flash := [(0, imageFlash ++ [(0x037F0000, 0)])], demoted := [(0, true)] },
    { op := 3, slot := 0, pages := 0, offset := 0 }, by decide⟩, ⟨(imgRun .run { op := 3, slot := 0, pages := 0, offset := 0 } 3).withBoot
    { img := some { op := 3, slot := 0, pages := 0, offset := 0 }, flash := [(0, imageFlash)], demoted := [(0, true)] }, { op := 3, slot := 0, pages := 0, offset := 0 },
    .mismatch, by decide⟩, ⟨imgRun .run { op := 4, slot := 1, pages := 1, offset := 0 } 2, { op := 4, slot := 1, pages := 1, offset := 0 }, by decide⟩, ⟨((inMode
    .run).setFld F.AO_IMG_STATUS_STATE 0 2).withBoot { img := some { op := 4, slot := 0, pages := 1, offset := 0 }, flash := [(2, emptyBcfg), (3, emptyBcfg)] },
    { op := 4, slot := 0, pages := 1, offset := 0 }, (0, []), (0, []), by decide⟩, ⟨imgRun .run { op := 4, slot := 1, pages := 1, offset := 0 } 2,
    { op := 4, slot := 1, pages := 1, offset := 0 }, by decide⟩, ⟨imgRun .run { op := 4, slot := 1, pages := 1, offset := 0 } 2,
    { op := 4, slot := 1, pages := 1, offset := 0 }, by decide⟩, ⟨inMode .run, by decide⟩, ⟨(inMode .run).withBoot { demoted := [(0, true), (1, true)] }, .supervisor, by
    decide⟩, ⟨inMode .run, .supervisor, by decide⟩, ⟨(inMode .run).withBoot { demoted := [(0, true), (1, true)] }, .supervisor, by decide⟩, ⟨inMode .run, .supervisor, by
    decide⟩, ⟨(inMode .run).withBoot { advance := true, floor := 3, svn := 64 }, by decide⟩, ⟨inMode .run, by decide⟩, ⟨inMode .boot, .supervisor, 0xC1A01003, false, 3,
    by decide⟩, ⟨inMode .run, .supervisor, 3, by decide⟩, ⟨ciphRun 0x60 (keyDesc 0x60 0 0 []), .supervisor, 0x14000009, 9, by decide⟩, ⟨inMode .run, .supervisor,
    0x15000009, 9, by decide⟩, ⟨inMode .run, .supervisor, 9, by decide⟩, ⟨inMode .boot, by decide⟩, ⟨State.reset, by decide⟩, ⟨inMode .run, .supervisor, by decide⟩,
    ⟨(inMode .run).setFlag F.AO_ATT_STATUS_BUSY 0 true, .supervisor, by decide⟩, ⟨((inMode .run).setFlag F.AO_ATT_STATUS_BUSY 0 true).setFlag F.AO_ATT_STATUS_READY 0
    true, by decide⟩, ⟨inMode .run, by decide⟩, ⟨inMode .boot, by decide⟩, ⟨inMode .run, .fn 0, by decide⟩⟩

set_option maxRecDepth 8000 in
/-- The premises of FaultsResetsAndTheLog can be met. -/
theorem premises_FaultsResetsAndTheLog :
    (∃ (s : State) (who : Party) (r : Fin 9), s.powered = true ∧ s.reach who true (0x00900010 + 4 * r) = .served ∧ s.inService = true ∧ s.fenced r = false ∧ (s.recent
      3600000000000 (Map.get [] r s.resetTimes)).length < s.rrLimit ∧ ((s.rank who = 2 ∧ 1 ≤ r.val ∧ r.val ≤ 7) ∨ (s.rank who = 3 ∧ ((1 ≤ r.val ∧ r.val ≤ 4) ∨ r.val =
      7))) ∧ s.faultsDue = [] ∧ s.request = 0) ∧ (∃ (s : State) (who : Party) (r : Fin 9), s.powered = true ∧ s.reach who true (0x00900010 + 4 * r) = .served ∧
      s.inService = true ∧ s.fenced r = false ∧ s.rrLimit ≤ (s.recent 3600000000000 (Map.get [] r s.resetTimes)).length ∧ ((s.rank who = 2 ∧ 1 ≤ r.val ∧ r.val ≤ 7) ∨
      (s.rank who = 3 ∧ ((1 ≤ r.val ∧ r.val ≤ 4) ∨ r.val = 7))) ∧ s.faultsDue = [] ∧ s.request = 0) ∧ (∃ (s : State) (who : Party) (r : Fin 9), s.powered = true ∧
      s.reach who true (0x00900010 + 4 * r) = .served ∧ (s.inService = false ∨ s.fenced r = true ∨ ¬ ((s.rank who = 2 ∧ 1 ≤ r.val ∧ r.val ≤ 7) ∨ (s.rank who = 3 ∧ ((1 ≤
      r.val ∧ r.val ≤ 4) ∨ r.val = 7)))) ∧ s.faultsDue = [] ∧ s.request = 0) ∧ (∃ (s : State) (who : Party) (r : Fin 9), s.powered = true ∧ s.reach who true (0x00900010
      + 4 * r) ≠ .served) ∧ (∃ (s : State), s.powered = false) ∧ (∃ (s : State) (r : Fin 9), 1 ≤ r.val ∧ r.val ≤ 7 ∧ s.inService = true ∧ s.fenced r = false ∧ (s.recent
      3600000000000 (Map.get [] r s.resetTimes)).length < s.rrLimit) ∧ (∃ (s : State) (r : Fin 9), (r.val = 0 ∨ r.val = 8 ∨ s.fenced r = true ∨ s.rrLimit ≤ (s.recent
      3600000000000 (Map.get [] r s.resetTimes)).length) ∧ s.inService = true ∧ s.dirty = true) ∧ (∃ (s : State) (r : Fin 9), (r.val = 0 ∨ r.val = 8 ∨ s.fenced r = true
      ∨ s.rrLimit ≤ (s.recent 3600000000000 (Map.get [] r s.resetTimes)).length) ∧ s.inService = true ∧ s.dirty = false) ∧ (∃ (s : State), (s.mode = .standby ∨ s.mode =
      .safetyNet ∨ s.mode = .halt)) ∧ (∃ (s : State), s.mode = .boot) ∧ (∃ (s : State) (r : Fin 9), s.mode = .vault ∧ (r.val = 6 ∨ r.val = 8)) ∧ (∃ (s : State) (r : Fin
      9), s.mode = .vault ∧ (¬ (r.val = 6 ∨ r.val = 8))) ∧ (∃ (s : State), s.powered = false) ∧ (∃ (s : State) (r : Fin 9), 1 ≤ r.val ∧ r.val ≤ 7 ∧ s.inService = true ∧
      s.fenced r = false ∧ (s.recent 3600000000000 (Map.get [] r s.resetTimes)).length < s.rrLimit) ∧ (∃ (s : State) (r : Fin 9), (r.val = 0 ∨ r.val = 8 ∨ s.fenced r =
      true ∨ s.rrLimit ≤ (s.recent 3600000000000 (Map.get [] r s.resetTimes)).length) ∧ s.inService = true ∧ s.dirty = true) ∧ (∃ (s : State) (r : Fin 9), (r.val = 0 ∨
      r.val = 8 ∨ s.fenced r = true ∨ s.rrLimit ≤ (s.recent 3600000000000 (Map.get [] r s.resetTimes)).length) ∧ s.inService = true ∧ s.dirty = false) ∧ (∃ (s : State),
      (s.mode = .standby ∨ s.mode = .safetyNet ∨ s.mode = .halt)) ∧ (∃ (s : State), s.mode = .boot) ∧ (∃ (s : State) (r : Fin 9), s.mode = .vault ∧ (r.val = 6 ∨ r.val =
      8)) ∧ (∃ (s : State) (r : Fin 9), s.mode = .vault ∧ (¬ (r.val = 6 ∨ r.val = 8))) ∧ (∃ (s : State), s.powered = false) ∧ (∃ (s : State) (r : Fin 9), 1 ≤ r.val ∧
      r.val ≤ 7 ∧ s.inService = true ∧ s.fenced r = false ∧ (s.recent 3600000000000 (Map.get [] r s.resetTimes)).length < s.rrLimit) ∧ (∃ (s : State) (r : Fin 9), (r.val
      = 0 ∨ r.val = 8 ∨ s.fenced r = true ∨ s.rrLimit ≤ (s.recent 3600000000000 (Map.get [] r s.resetTimes)).length) ∧ s.inService = true ∧ s.dirty = true) ∧ (∃ (s :
      State) (r : Fin 9), (r.val = 0 ∨ r.val = 8 ∨ s.fenced r = true ∨ s.rrLimit ≤ (s.recent 3600000000000 (Map.get [] r s.resetTimes)).length) ∧ s.inService = true ∧
      s.dirty = false) ∧ (∃ (s : State), (s.mode = .standby ∨ s.mode = .safetyNet ∨ s.mode = .halt)) ∧ (∃ (s : State), s.mode = .boot) ∧ (∃ (s : State) (r : Fin 9),
      s.mode = .vault ∧ (r.val = 6 ∨ r.val = 8)) ∧ (∃ (s : State) (r : Fin 9), s.mode = .vault ∧ (¬ (r.val = 6 ∨ r.val = 8))) ∧ (∃ (s : State), s.powered = false) ∧ (∃
      (s : State) (r : Fin 9), s.fenced r = true ∧ s.inService = true) ∧ (∃ (s : State) (r : Fin 9), (s.fenced r = false ∨ s.inService = false)) ∧ (∃ (s : State) (v :
      Word), s.powered = true ∧ v.toNat = 0x4B49434B) ∧ (∃ (s : State) (who : Party) (v : Word), (who ≠ .supervisor ∨ v.toNat ≠ 0x4B49434B ∨ s.powered = false)) ∧ (∃ (s
      : State), s.unkicked = true ∧ s.inService = true ∧ s.dirty = true) ∧ (∃ (s : State), s.unkicked = true ∧ s.inService = true ∧ s.dirty = false) ∧ (∃ (s : State),
      s.unkicked = true ∧ s.mode = .boot) ∧ (∃ (s : State), (s.unkicked = false ∨ (s.mode ≠ .boot ∧ s.inService = false))) ∧ (∃ (s : State), s.inService = true ∧ s.dirty
      = true) ∧ (∃ (s : State), s.inService = true ∧ s.dirty = false) ∧ (∃ (s : State), (s.mode = .standby ∨ s.mode = .safetyNet ∨ s.mode = .halt)) ∧ (∃ (s : State),
      s.mode = .boot) ∧ (∃ (s : State), s.mode = .vault) ∧ (∃ (s : State), s.mode = .off) ∧ (∃ (s : State), s.inService = true ∧ s.dirty = true) ∧ (∃ (s : State),
      s.inService = true ∧ s.dirty = false) ∧ (∃ (s : State), (s.mode = .standby ∨ s.mode = .safetyNet ∨ s.mode = .halt)) ∧ (∃ (s : State), s.mode = .boot) ∧ (∃ (s :
      State), s.mode = .vault) ∧ (∃ (s : State), s.mode = .off) ∧ (∃ (s : State), s.inService = true ∧ s.dirty = true) ∧ (∃ (s : State), s.inService = true ∧ s.dirty =
      false) ∧ (∃ (s : State), (s.mode = .standby ∨ s.mode = .safetyNet ∨ s.mode = .halt)) ∧ (∃ (s : State), s.mode = .boot) ∧ (∃ (s : State), s.mode = .vault) ∧ (∃ (s :
      State), s.mode = .off) ∧ (∃ (s : State), s.mode = .boot ∧ s.boot.fails < 2) ∧ (∃ (s : State), s.mode = .boot ∧ 2 ≤ s.boot.fails) ∧ (∃ (s : State), s.mode ≠ .boot)
      ∧ (∃ (s : State) (cond : Fin 65536) (source : Fin 65536) (x : Interval), s.powered = true ∧ s.interval? cond source = some x ∧ x.count ≠ 0) ∧ (∃ (s : State) (cond
      : Fin 65536) (source : Fin 65536) (x : Interval), s.powered = true ∧ s.interval? cond source = some x ∧ x.count = 0) ∧ (∃ (s : State) (cond : Fin 65536) (source :
      Fin 65536), (s.powered = false ∨ s.interval? cond source = none)) ∧ (∃ (s : State), s.powered = true) ∧ (∃ (s : State), s.powered = false) ∧ (∃ (s : State) (who :
      Party) (v : Word) (e : LogEntry), s.admits who 0 9 = true ∧ s.ringUp = true ∧ s.log.entries.find? (fun e => e.seq == v.toNat) = some e ∧ s.fld
      F.AO_FLT_LOG_UNIT_UNIT < e.units) ∧ (∃ (s : State) (who : Party) (v : Word) (e : LogEntry), s.admits who 0 9 = true ∧ s.ringUp = true ∧ s.log.entries.find? (fun e
      => e.seq == v.toNat) = some e ∧ e.units ≤ s.fld F.AO_FLT_LOG_UNIT_UNIT) ∧ (∃ (s : State) (who : Party) (v : Word), s.admits who 0 9 = true ∧ (s.ringUp = false ∨
      s.log.entries.find? (fun e => e.seq == v.toNat) = none)) ∧ (∃ (s : State) (who : Party), s.admits who 0 9 = false) :=
  ⟨⟨inMode .run, .supervisor, 7, by decide⟩, ⟨(inMode .run).withResetTimes [(2, [0, 0, 0])], .supervisor, 2, by decide⟩, ⟨inMode .run, .fn 0, 5, by decide⟩, ⟨inMode
    .run, .fn 9, 5, by decide⟩, ⟨State.reset, by decide⟩, ⟨inMode .rideThrough, 1, by decide⟩, ⟨oneVer ((inMode .run).withResetTimes [(2, [0, 0, 0])]) .cert, 8, by
    decide⟩, ⟨(inMode .rideThrough).withResetTimes [(2, [0, 0, 0])], 8, by decide⟩, ⟨inMode .safetyNet, by decide⟩, ⟨inMode .boot, by decide⟩, ⟨(inMode .vault).setFld
    F.AO_MODULE_STATE_PENDING 0 4, 6, by decide⟩, ⟨inMode .vault, 0, by decide⟩, ⟨State.reset, by decide⟩, ⟨inMode .rideThrough, 5, by decide⟩, ⟨oneVer ((inMode
    .run).withResetTimes [(2, [0, 0, 0])]) .cert, 0, by decide⟩, ⟨(inMode .rideThrough).withResetTimes [(2, [0, 0, 0])], 0, by decide⟩, ⟨inMode .safetyNet, by decide⟩,
    ⟨inMode .boot, by decide⟩, ⟨(inMode .vault).setFld F.AO_MODULE_STATE_PENDING 0 4, 6, by decide⟩, ⟨inMode .vault, 3, by decide⟩, ⟨State.reset, by decide⟩, ⟨inMode
    .rideThrough, 6, by decide⟩, ⟨oneVer ((inMode .run).withResetTimes [(2, [0, 0, 0])]) .cert, 2, by decide⟩, ⟨(inMode .rideThrough).withResetTimes [(2, [0, 0, 0])], 2,
    by decide⟩, ⟨inMode .safetyNet, by decide⟩, ⟨inMode .boot, by decide⟩, ⟨(inMode .vault).setFld F.AO_MODULE_STATE_PENDING 0 4, 6, by decide⟩, ⟨inMode .vault, 1, by
    decide⟩, ⟨State.reset, by decide⟩, ⟨(inMode .run).setFlag F.AO_FLT_REGION_RESETTING 5 true, 5, by decide⟩, ⟨inMode .run, 5, by decide⟩, ⟨inMode .run, 0x4B49434B, by
    decide⟩, ⟨inMode .run, .fn 0, 0x4B49434B, by decide⟩, ⟨oneVer ((inMode .run).setFld F.AO_TB_NOW_NOW 0 1000000000000) .cert, by decide⟩, ⟨(inMode .rideThrough).setFld
    F.AO_TB_NOW_NOW 0 1000000000000, by decide⟩, ⟨(inMode .boot).setFld F.AO_TB_NOW_NOW 0 1000000000000, by decide⟩, ⟨inMode .safetyNet, by decide⟩, ⟨oneVer (inMode
    .run) .cert, by decide⟩, ⟨inMode .rideThrough, by decide⟩, ⟨inMode .safetyNet, by decide⟩, ⟨inMode .boot, by decide⟩, ⟨inMode .vault, by decide⟩, ⟨State.reset, by
    decide⟩, ⟨oneVer (inMode .run) .cert, by decide⟩, ⟨inMode .rideThrough, by decide⟩, ⟨inMode .safetyNet, by decide⟩, ⟨inMode .boot, by decide⟩, ⟨inMode .vault, by
    decide⟩, ⟨State.reset, by decide⟩, ⟨oneVer (inMode .run) .cert, by decide⟩, ⟨inMode .rideThrough, by decide⟩, ⟨inMode .safetyNet, by decide⟩, ⟨inMode .boot, by
    decide⟩, ⟨(inMode .vault).setFld F.AO_MODULE_STATE_PENDING 0 4, by decide⟩, ⟨State.reset, by decide⟩, ⟨inMode .boot, by decide⟩, ⟨(inMode .boot).withBoot
    { fails := 2 }, by decide⟩, ⟨inMode .run, by decide⟩, ⟨(inMode .run).withLog { intervals := [oneInterval 4] }, 0x6902, 3, oneInterval 4, by decide⟩, ⟨(inMode
    .run).withLog { intervals := [oneInterval 0] }, 0x6902, 3, oneInterval 0, by decide⟩, ⟨inMode .run, 0x6902, 3, by decide⟩, ⟨inMode .run, by decide⟩, ⟨State.reset, by
    decide⟩, ⟨(inMode .run).withLog { entries := [oneEntry'] }, .supervisor, 7, oneEntry', by decide⟩, ⟨(inMode .run).withLog { entries := [oneEntry'] } |>.setFld
    F.AO_FLT_LOG_UNIT_UNIT 0 255, .supervisor, 7, oneEntry', by decide⟩, ⟨(inMode .run).withLog { entries := [oneEntry'] }, .supervisor, 8, by decide⟩, ⟨inMode .run, .fn
    9, by decide⟩⟩

set_option maxRecDepth 8000 in
/-- The premises of TightropeAgeingAndCalibration can be met. -/
theorem premises_TightropeAgeingAndCalibration :
    (∃ (s : State) (who : Party), s.admits who 0 10 = true) ∧ (∃ (s : State) (who : Party), s.admits who 0 10 = false) ∧ (∃ (s : State), s.powered = true ∧ (s.trMay =
      true ∨ s.flag F.AO_TR_CFG_RUNNING = true)) ∧ (∃ (s : State) (m : Fin 65536), s.powered = true ∧ (s.trMay = true ∨ s.flag F.AO_TR_CFG_RUNNING = true) ∧ m.val < 2 ^
      15 ∧ s.trTarget ≤ m) ∧ (∃ (s : State) (r : Fin 9) (m : Fin 65536), s.powered = true ∧ (s.trMay = true ∨ s.flag F.AO_TR_CFG_RUNNING = true) ∧ signed 16 m <
      s.trTarget ∧ signed 6 (s.fld F.AO_TR_REGION_TRIM r) < 30) ∧ (∃ (s : State) (r : Fin 9) (m : Fin 65536) (m2 : Fin 65536), s.powered = true ∧ (s.trMay = true ∨
      s.flag F.AO_TR_CFG_RUNNING = true) ∧ signed 16 m < s.trTarget ∧ signed 6 (s.fld F.AO_TR_REGION_TRIM r) = 30 ∧ r ≠ 0 ∧ 4 < s.fld F.AO_TR_REGION_CEIL r ∧ signed 16
      m2 < s.trTarget) ∧ (∃ (s : State) (r : Fin 9) (m : Fin 65536), s.powered = true ∧ (s.trMay = true ∨ s.flag F.AO_TR_CFG_RUNNING = true) ∧ signed 16 m < s.trTarget ∧
      signed 6 (s.fld F.AO_TR_REGION_TRIM r) = 30 ∧ s.fld F.AO_TR_REGION_CEIL r = 4) ∧ (∃ (s : State), s.powered = true ∧ s.trMay = false ∧ s.flag F.AO_TR_CFG_RUNNING =
      false) ∧ (∃ (s : State), s.powered = false) ∧ (∃ (s : State) (r : Fin 9) (x : Int), s.powered = true ∧ s.hottestOf r = some x) ∧ (∃ (s : State), s.powered = false)
      ∧ (∃ (s : State) (who : Party) (core : Bool) (l : List (Nat × Nat × Nat)), s.admits who 0 11 true = true ∧ s.fld F.AO_CAL_STATUS_STATE = 0 ∧ (s.mode = .run ∨
      s.mode = .safetyNet) ∧ s.calList core = some l) ∧ (∃ (s : State) (who : Party), s.admits who 0 11 true = true ∧ s.fld F.AO_CAL_STATUS_STATE = 0 ∧ s.mode ≠ .run ∧
      s.mode ≠ .safetyNet) ∧ (∃ (s : State) (who : Party) (core : Bool), s.admits who 0 11 true = true ∧ s.fld F.AO_CAL_STATUS_STATE = 0 ∧ ((s.mode = .run ∨ s.mode =
      .safetyNet) ∧ s.calList core = none)) ∧ (∃ (s : State) (who : Party), s.admits who 0 11 true = true ∧ s.fld F.AO_CAL_STATUS_STATE ≠ 0) ∧ (∃ (s : State) (who :
      Party), s.admits who 0 11 true = false) ∧ (∃ (s : State) (b : Nat) (seq : Nat) (vals : Map Nat), s.fld F.AO_CAL_STATUS_STATE ≠ 0 ∧ s.calNew = (b, seq, vals)) ∧ (∃
      (s : State), s.fld F.AO_CAL_STATUS_STATE ≠ 0) ∧ (∃ (s : State), s.fld F.AO_CAL_STATUS_STATE ≠ 0) ∧ (∃ (s : State), s.fld F.AO_CAL_STATUS_STATE = 0) :=
  ⟨⟨inMode .run, .supervisor, by decide⟩, ⟨inMode .run, .fn 9, by decide⟩, ⟨inMode .run, by decide⟩, ⟨(inMode .run).setFld F.AO_TR_REGION_CEIL 8 15, 351, by decide⟩,
    ⟨inMode .run, 8, 140, by decide⟩, ⟨(inMode .run).setFld F.AO_TR_REGION_TRIM 8 30, 8, 140, 65535, by decide⟩, ⟨((inMode .run).setFld F.AO_TR_REGION_TRIM 8 30).setFld
    F.AO_TR_REGION_CEIL 8 4, 8, 140, by decide⟩, ⟨inMode .rideThrough, by decide⟩, ⟨State.reset, by decide⟩, ⟨((inMode .run).setFlag F.AO_PKG_TEMP_VALID 1 true).setFld
    F.AO_PKG_TEMP_TEMP 1 1360, 0, 1360, by decide⟩, ⟨State.reset, by decide⟩, ⟨(inMode .safetyNet).withStaging [(0, 0x43), (1, 0x41), (2, 0x50), (3, 0x55), (4, 1), (16,
    6), (20, 9)], .supervisor, false, [(6, 0, 9)], by decide⟩, ⟨inMode .rideThrough, .supervisor, by decide⟩, ⟨inMode .run, .supervisor, true, by decide⟩, ⟨(inMode
    .run).setFld F.AO_CAL_STATUS_STATE 0 1, .supervisor, by decide⟩, ⟨inMode .run, .fn 9, by decide⟩, ⟨((inMode .run).setFld F.AO_CAL_STATUS_STATE 0 1).withCal
    { upd := [(2, 5, 9)] }, 0, 1, [(131077, 10)], by decide⟩, ⟨(inMode .run).setFld F.AO_CAL_STATUS_STATE 0 1, by decide⟩, ⟨(inMode .run).setFld F.AO_CAL_STATUS_STATE 0
    1, by decide⟩, ⟨inMode .run, by decide⟩⟩

set_option maxRecDepth 8000 in
/-- The premises of RoutesCountersAndSweeps can be met. -/
theorem premises_RoutesCountersAndSweeps :
    (∃ (s : State) (e : Fin 1024), s.powered = true ∧ s.flag F.AO_EVT_ROUTE_PENDING e = true ∧ s.irqsNow.any (fun x => x.1 != e.val && x.2 == s.irqTarget e) = false ∧
      s.fld F.AO_EVT_ROUTE_IRQ_KIND e ≠ 0) ∧ (∃ (s : State) (e : Fin 1024) (vec : Nat), s.powered = true ∧ s.flag F.AO_EVT_ROUTE_PENDING e = true ∧ s.irqsNow.any (fun x
      => x.1 != e.val && x.2 == s.irqTarget e) = false ∧ s.fld F.AO_EVT_ROUTE_IRQ_KIND e = 0 ∧ vec = s.fld F.AO_EVT_ROUTE_VEC e ∧ vec < s.fld F.HX_FN_REC_VEC_COUNT s.mgr
      ∧ s.vectorOpen s.mgr vec = true) ∧ (∃ (s : State) (e : Fin 1024) (vec : Nat), s.powered = true ∧ s.flag F.AO_EVT_ROUTE_PENDING e = true ∧ s.irqsNow.any (fun x =>
      x.1 != e.val && x.2 == s.irqTarget e) = false ∧ s.fld F.AO_EVT_ROUTE_IRQ_KIND e = 0 ∧ vec = s.fld F.AO_EVT_ROUTE_VEC e ∧ vec < s.fld F.HX_FN_REC_VEC_COUNT s.mgr ∧
      s.vectorOpen s.mgr vec = false) ∧ (∃ (s : State) (e : Fin 1024) (vec : Nat), s.powered = true ∧ s.flag F.AO_EVT_ROUTE_PENDING e = true ∧ s.irqsNow.any (fun x =>
      x.1 != e.val && x.2 == s.irqTarget e) = false ∧ s.fld F.AO_EVT_ROUTE_IRQ_KIND e = 0 ∧ vec = s.fld F.AO_EVT_ROUTE_VEC e ∧ s.fld F.HX_FN_REC_VEC_COUNT s.mgr ≤ vec) ∧
      (∃ (s : State) (e : Fin 1024), s.powered = true ∧ s.flag F.AO_EVT_ROUTE_PENDING e = true ∧ s.irqsNow.any (fun x => x.1 != e.val && x.2 == s.irqTarget e) = true) ∧
      (∃ (s : State) (e : Fin 1024), (s.powered = false ∨ s.flag F.AO_EVT_ROUTE_PENDING e = false)) ∧ (∃ (s : State) (r : Fin 9) (u : Fin 37) (i : Fin 8), s.powered =
      true ∧ unitExists r u = true ∧ s.unitRuns r u = true ∧ s.flag F.PMU_PMC_EVT_EN (8 * (37 * r + u) + i) = true ∧ selectorKnown (unitKindReset (37 * r + u)) (s.fld
      F.PMU_PMC_EVT_EVENT (8 * (37 * r + u) + i)) = true) ∧ (∃ (s : State) (r : Fin 9) (u : Fin 37) (i : Fin 8), (s.powered = false ∨ unitExists r u = false ∨ s.unitRuns
      r u = false ∨ s.flag F.PMU_PMC_EVT_EN (8 * (37 * r + u) + i) = false ∨ selectorKnown (unitKindReset (37 * r + u)) (s.fld F.PMU_PMC_EVT_EVENT (8 * (37 * r + u) +
      i)) = false)) ∧ (∃ (s : State) (who : Party) (dest : Bool), s.admits who 0 14 = true ∧ (s.mode = .boot ∨ s.mode = .safetyNet) ∧ s.flag F.AO_CCR_STATUS_STATE =
      false ∧ (dest = false ∨ (s.fld F.AO_PROG_STATUS_STATE = 0 ∧ s.fld F.AO_UCODE_STATUS_STATE = 0 ∧ s.fld F.AO_IMG_STATUS_STATE = 0 ∧ s.fld F.AO_CAL_STATUS_STATE =
      0))) ∧ (∃ (s : State) (who : Party), s.admits who 0 14 = true ∧ s.mode ≠ .boot ∧ s.mode ≠ .safetyNet) ∧ (∃ (s : State) (who : Party), s.admits who 0 14 = true ∧
      (s.mode = .boot ∨ s.mode = .safetyNet) ∧ s.flag F.AO_CCR_STATUS_STATE = true) ∧ (∃ (s : State) (who : Party) (dest : Bool), s.admits who 0 14 = true ∧ (s.mode =
      .boot ∨ s.mode = .safetyNet) ∧ s.flag F.AO_CCR_STATUS_STATE = false ∧ dest = true ∧ ¬ (s.fld F.AO_PROG_STATUS_STATE = 0 ∧ s.fld F.AO_UCODE_STATUS_STATE = 0 ∧ s.fld
      F.AO_IMG_STATUS_STATE = 0 ∧ s.fld F.AO_CAL_STATUS_STATE = 0)) ∧ (∃ (s : State) (who : Party), s.admits who 0 14 = false) ∧ (∃ (s : State) (n : Nat), s.flag
      F.AO_CCR_STATUS_STATE = true ∧ s.ccr.dest = true ∧ ((((List.range 9).filter (bit s.ccr.regions)).filter s.regionRuns).flatMap s.regionCounters).length = n ∧ n ≤
      1048572) ∧ (∃ (s : State) (n : Nat), s.flag F.AO_CCR_STATUS_STATE = true ∧ s.ccr.dest = false ∧ ((((List.range 9).filter (bit s.ccr.regions)).filter
      s.regionRuns).flatMap s.regionCounters).length = n ∧ n ≤ 4194300) ∧ (∃ (s : State), s.flag F.AO_CCR_STATUS_STATE = false) ∧ (∃ (s : State) (who : Party) (v :
      Word), s.admits who 7 3 = true ∧ (bit v.toNat 31 = false ∨ (s.coresOpen = true ∧ maskCount (s.fld F.CX_DBG_TRACE_CORE_MASK) ≤ 4))) ∧ (∃ (s : State) (who : Party)
      (v : Word), s.admits who 7 3 = true ∧ bit v.toNat 31 = true ∧ (s.coresOpen = false ∨ 4 < maskCount (s.fld F.CX_DBG_TRACE_CORE_MASK))) ∧ (∃ (s : State) (who :
      Party), s.admits who 7 3 = false) ∧ (∃ (s : State), s.flag F.CX_DBG_TRACE_EN = true ∧ s.flag F.CX_DBG_TRACE_WRAP = false ∧ 4096 * s.fld F.CX_DBG_TRACE_SIZE < s.fld
      F.CX_DBG_TRACE_WPTR + 64) ∧ (∃ (s : State), (s.flag F.CX_DBG_TRACE_EN = false ∨ s.flag F.CX_DBG_TRACE_WRAP = true ∨ s.fld F.CX_DBG_TRACE_WPTR + 64 ≤ 4096 * s.fld
      F.CX_DBG_TRACE_SIZE)) :=
  ⟨⟨((inMode .run).setFlag F.AO_EVT_ROUTE_PENDING 1023 true).setFld F.AO_EVT_ROUTE_IRQ_KIND 1023 2, 1023, by decide⟩, ⟨((((inMode .run).setFlag F.AO_EVT_ROUTE_PENDING 3
    true).setFld F.HX_FN_REC_VEC_COUNT 0 4).setFld F.HX_FNV_MSIX_MASK 0 0).withCfgs [(0, { bme := true })], 3, 0, by decide⟩, ⟨((((inMode .run).setFlag
    F.AO_EVT_ROUTE_PENDING 3 true).setFld F.HX_FN_REC_VEC_COUNT 0 4).setFld F.HX_FNV_MSIX_MASK 0 0).withCfgs [(0, { bme := false })], 3, 0, by decide⟩, ⟨((((inMode
    .run).setFlag F.AO_EVT_ROUTE_PENDING 3 true).setFld F.HX_FN_REC_VEC_COUNT 0 0).setFld F.HX_FNV_MSIX_MASK 0 0).withCfgs [(0, { bme := true })], 3, 0, by decide⟩,
    ⟨((inMode .run).setFlag F.AO_EVT_ROUTE_PENDING 5 true).setFld F.AO_EVT_ROUTE_IRQ_KIND 5 2 |>.withLog { sentAt := 1, sent := [(4, 2, 0)] }, 5, by decide⟩, ⟨inMode
    .run, 5, by decide⟩, ⟨((inMode .run).setFlag F.PMU_PMC_EVT_EN 7 true).setFlag F.PMU_PMC_EVT_OVF_EV 7 true, 0, 0, 7, by decide⟩, ⟨(inMode .run).setFlag
    F.PMU_PMC_EVT_EN 295 true, 0, 36, 7, by decide⟩, ⟨inMode .boot, .supervisor, true, by decide⟩, ⟨inMode .run, .supervisor, by decide⟩, ⟨(inMode .boot).setFlag
    F.AO_CCR_STATUS_STATE 0 true, .supervisor, by decide⟩, ⟨(inMode .safetyNet).setFld F.AO_CAL_STATUS_STATE 0 3, .supervisor, true, by decide⟩, ⟨inMode .boot, .fn 9, by
    decide⟩, ⟨((inMode .boot).setFlag F.AO_CCR_STATUS_STATE 0 true).withCcr { dest := true, regions := 0 }, 0, by decide⟩, ⟨((inMode .boot).setFlag F.AO_CCR_STATUS_STATE
    0 true).withCcr { dest := false, regions := 0 }, 0, by decide⟩, ⟨inMode .run, by decide⟩, ⟨((inMode .run).setFld F.AO_DBG_STATUS_SCOPE 0 1).setFld
    F.CX_DBG_TRACE_CORE_MASK 0 0xF0000000, .supervisor, 0x80000000, by decide⟩, ⟨inMode .run, .supervisor, 0x80000000, by decide⟩, ⟨inMode .run, .fn 9, by decide⟩,
    ⟨(((inMode .run).setFlag F.CX_DBG_TRACE_EN 0 true).setFld F.CX_DBG_TRACE_SIZE 0 1).setFld F.CX_DBG_TRACE_WPTR 0 4064, by decide⟩, ⟨inMode .run, by decide⟩⟩

set_option maxRecDepth 8000 in
/-- The premises of JtagAndDebugSessions can be met. -/
theorem premises_JtagAndDebugSessions :
    (∃ (s : State), s.powered = true ∧ s.testOpen = false) ∧ (∃ (s : State), s.powered = true ∧ s.testOpen = true) ∧ (∃ (s : State), s.powered = true) ∧ (∃ (s : State),
      s.powered = true) ∧ (∃ (s : State), s.powered = true) ∧ (∃ (s : State), s.powered = true) ∧ (∃ (s : State), s.powered = true) ∧ (∃ (s : State), s.powered = true) ∧
      (∃ (s : State), s.powered = true) ∧ (∃ (s : State), s.powered = true) ∧ (∃ (s : State), s.powered = true) ∧ (∃ (s : State) (v : Word), s.powered = true ∧ bits
      v.toNat 28 4 = 1 ∧ s.flag F.AO_DBG_STATUS_STATE = false) ∧ (∃ (s : State) (v : Word), s.powered = true ∧ bits v.toNat 28 4 = 2 ∧ s.flag F.AO_DBG_STATUS_STATE =
      false) ∧ (∃ (s : State) (v : Word), s.powered = true ∧ bits v.toNat 28 4 = 3 ∧ s.flag F.AO_DBG_STATUS_STATE = false) ∧ (∃ (s : State) (v : Word), s.powered = true
      ∧ 1 ≤ bits v.toNat 28 4 ∧ bits v.toNat 28 4 ≤ 3 ∧ s.flag F.AO_DBG_STATUS_STATE = true) ∧ (∃ (s : State) (v : Word), s.powered = true ∧ (bits v.toNat 28 4 = 0 ∨ 3 <
      bits v.toNat 28 4)) ∧ (∃ (s : State), s.powered = false) ∧ (∃ (s : State), s.powered = false) ∧ (∃ (s : State), s.powered = false) ∧ (∃ (s : State), s.powered =
      false) ∧ (∃ (s : State), s.powered = false) ∧ (∃ (s : State), s.powered = false) ∧ (∃ (s : State), s.powered = false) ∧ (∃ (s : State), s.powered = false) ∧ (∃ (s
      : State), s.powered = false) ∧ (∃ (s : State) (who : Party), s.admits who 0 13 = true ∧ s.flag F.AO_DBG_STATUS_STATE = false) ∧ (∃ (s : State) (who : Party),
      s.admits who 0 13 = true ∧ s.flag F.AO_DBG_STATUS_STATE = false) ∧ (∃ (s : State) (who : Party), s.admits who 0 13 = true ∧ s.flag F.AO_DBG_STATUS_STATE = false) ∧
      (∃ (s : State) (who : Party), s.admits who 0 13 = true ∧ s.flag F.AO_DBG_STATUS_STATE = true) ∧ (∃ (s : State) (who : Party), s.admits who 0 13 = true ∧ s.flag
      F.AO_DBG_STATUS_STATE = true) ∧ (∃ (s : State) (who : Party), s.admits who 0 13 = true ∧ s.flag F.AO_DBG_STATUS_STATE = true) ∧ (∃ (s : State) (who : Party),
      s.admits who 0 13 = false) ∧ (∃ (s : State) (who : Party), s.admits who 0 13 = false) ∧ (∃ (s : State) (who : Party), s.admits who 0 13 = false) ∧ (∃ (s : State)
      (n : Nat), s.flag F.AO_DBG_STATUS_STATE = true ∧ n = s.tokenCheck s.dbg.token) ∧ (∃ (s : State), s.flag F.AO_DBG_STATUS_STATE = false) ∧ (∃ (s : State), s.dbg.at'
      + 600000000000 ≤ s.now) ∧ (∃ (s : State), s.now < s.dbg.at' + 600000000000) :=
  ⟨⟨inMode .run, by decide⟩, ⟨(inMode .safetyNet).setFld F.AO_DBG_STATUS_SCOPE 0 2, by decide⟩, ⟨inMode .run, by decide⟩, ⟨inMode .run, by decide⟩, ⟨inMode .run, by
    decide⟩, ⟨inMode .run, by decide⟩, ⟨inMode .run, by decide⟩, ⟨inMode .run, by decide⟩, ⟨(inMode .run).setFld F.AO_DBG_STATUS_SCOPE 0 1, by decide⟩, ⟨inMode .run, by
    decide⟩, ⟨(inMode .run).withDbg { buf := [(785, 9)] }, by decide⟩, ⟨(inMode .run).setFld F.AO_DBG_STATUS_SCOPE 0 1, 0x10000000, by decide⟩, ⟨(inMode .run).setFld
    F.AO_DBG_STATUS_SCOPE 0 1, 0x28000000, by decide⟩, ⟨(inMode .run).setFld F.AO_DBG_STATUS_SCOPE 0 1, 0x30000000, by decide⟩, ⟨(inMode .run).setFlag
    F.AO_DBG_STATUS_STATE 0 true, 0x30000000, by decide⟩, ⟨inMode .run, 0x40000000, by decide⟩, ⟨State.reset, by decide⟩, ⟨State.reset, by decide⟩, ⟨State.reset, by
    decide⟩, ⟨State.reset, by decide⟩, ⟨State.reset, by decide⟩, ⟨State.reset, by decide⟩, ⟨State.reset, by decide⟩, ⟨State.reset, by decide⟩, ⟨State.reset, by decide⟩,
    ⟨inMode .run, .supervisor, by decide⟩, ⟨inMode .run, .supervisor, by decide⟩, ⟨(inMode .run).setFld F.AO_DBG_STATUS_SCOPE 0 1, .supervisor, by decide⟩, ⟨(inMode
    .run).setFlag F.AO_DBG_STATUS_STATE 0 true, .supervisor, by decide⟩, ⟨(inMode .run).setFlag F.AO_DBG_STATUS_STATE 0 true, .supervisor, by decide⟩, ⟨(inMode
    .run).setFlag F.AO_DBG_STATUS_STATE 0 true, .supervisor, by decide⟩, ⟨inMode .run, .fn 9, by decide⟩, ⟨inMode .run, .fn 9, by decide⟩, ⟨inMode .run, .fn 9, by
    decide⟩, ⟨(inMode .run).setFlag F.AO_DBG_STATUS_STATE 0 true, 3, by decide⟩, ⟨inMode .run, by decide⟩, ⟨((inMode .run).setFld F.AO_TB_NOW_NOW 0 600000000000).withDbg
    { valid := true }, by decide⟩, ⟨inMode .run, by decide⟩⟩

set_option maxRecDepth 8000 in
/-- The premises of SensorsPinsAndSmbus can be met. -/
theorem premises_SensorsPinsAndSmbus :
    (∃ (s : State) (xs : List SensorReading), s.powered = true ∧ xs.length = 48) ∧ (∃ (s : State) (xs : List SensorReading), (s.powered = false ∨ xs.length ≠ 48)) ∧ (∃
      (s : State) (n : Fin 16) (level : Bool), s.powered = true ∧ s.gpioLevel n = none ∧ s.flag F.AO_PKG_GPIO_IN n ≠ level ∧ bit (s.fld F.AO_PKG_GPIO_EDGE n) (if level
      then 0 else 1) = true ∧ ((Map.get {} (100 * 2 ^ 32 + n) s.limits).at' = 0 ∨ (Map.get {} (100 * 2 ^ 32 + n) s.limits).at' - 1 + 1000 ≤ s.now)) ∧ (∃ (s : State) (n :
      Fin 16) (level : Bool), s.powered = true ∧ (s.gpioLevel n ≠ none ∨ s.flag F.AO_PKG_GPIO_IN n = level ∨ bit (s.fld F.AO_PKG_GPIO_EDGE n) (if level then 0 else 1) =
      false)) ∧ (∃ (s : State), s.powered = false) ∧ (∃ (s : State), s.powered = true) ∧ (∃ (s : State), s.powered = false) ∧ (∃ (s : State), s.powered = true) ∧ (∃ (s :
      State), s.powered = false) ∧ (∃ (s : State), s.powered = true ∧ s.mode ≠ .vault) ∧ (∃ (s : State) (pec : Bool), (pec = false ∨ s.powered = false ∨ s.mode =
      .vault)) ∧ (∃ (s : State), s.powered = true ∧ s.mode ≠ .vault) ∧ (∃ (s : State), s.powered = true ∧ s.mode ≠ .vault ∧ s.pkg.smbAddr = 0) ∧ (∃ (s : State),
      s.powered = true ∧ s.mode ≠ .vault ∧ s.pkg.smbAddr < 2 ^ 32 ∧ ¬ (s.pkg.smbAddr / 2 ^ 28 = 0 ∧ s.pkg.smbAddr / 2 ^ 20 ∈ [0, 1, 4, 6, 7, 10, 16])) ∧ (∃ (s : State)
      (pec : Bool), (pec = false ∨ s.powered = false ∨ s.mode = .vault)) ∧ (∃ (s : State), s.powered = true ∧ s.mode ≠ .vault ∧ s.pkg.alert = true) ∧ (∃ (s : State),
      (s.powered = false ∨ s.mode = .vault ∨ s.pkg.alert = false)) :=
  ⟨⟨inMode .run, List.replicate 47 mild ++ [hotOne], by decide⟩, ⟨inMode .run, [], by decide⟩, ⟨(inMode .run).setFld F.AO_PKG_GPIO_EDGE 15 1, 15, true, by decide⟩,
    ⟨(inMode .run).setFld F.AO_PKG_GPIO_EDGE 15 2, 15, true, by decide⟩, ⟨State.reset, by decide⟩, ⟨inMode .run, by decide⟩, ⟨State.reset, by decide⟩, ⟨(inMode
    .run).withPkg { auxOff := 3 }, by decide⟩, ⟨State.reset, by decide⟩, ⟨inMode .halt, by decide⟩, ⟨inMode .vault, true, by decide⟩, ⟨(inMode .run).withPkg
    { smbAddr := 0xFFFFFFFC }, by decide⟩, ⟨(inMode .run).withPkg { smbAddr := 0 }, by decide⟩, ⟨(inMode .run).withPkg { smbAddr := 0x00200000 }, by decide⟩, ⟨inMode
    .vault, true, by decide⟩, ⟨(inMode .run).withPkg { alert := true }, by decide⟩, ⟨inMode .run, by decide⟩⟩

set_option maxRecDepth 8000 in
/-- The premises of HostRequestsToBar0 can be met. -/
theorem premises_HostRequestsToBar0 :
    (∃ (s : State) (r : BarTlp), r.malformed = true ∧ s.hlState (linkOf r.fi) (s.sublinkOf r.fi) = hlActive) ∧ (∃ (s : State) (r : BarTlp), r.malformed = true ∧
      s.hlState (linkOf r.fi) (s.sublinkOf r.fi) ≠ hlActive) ∧ (∃ (s : State) (r : BarTlp), r.malformed = false ∧ (s.cfg r.fi).resetting ≠ 0 ∧ s.hlState (linkOf r.fi)
      (s.sublinkOf r.fi) = hlActive ∧ r.write = false) ∧ (∃ (s : State) (r : BarTlp), r.malformed = false ∧ (s.cfg r.fi).resetting ≠ 0 ∧ (r.write = true ∨ s.hlState
      (linkOf r.fi) (s.sublinkOf r.fi) ≠ hlActive)) ∧ (∃ (s : State) (r : BarTlp), r.malformed = false ∧ (s.cfg r.fi).resetting = 0 ∧ s.barUp r = false) ∧ (∃ (s : State)
      (r : BarTlp), r.malformed = false ∧ s.barUp r = true ∧ r.poisoned = true ∧ r.write = true) ∧ (∃ (s : State) (r : BarTlp), r.malformed = false ∧ s.barUp r = true ∧
      (r.poisoned = false ∨ r.write = false) ∧ s.barTarget r.fi r.offset.toNat (4 * r.dws) r.write = .unmapped) ∧ (∃ (s : State) (r : BarTlp) (a : Nat), r.malformed =
      false ∧ s.barUp r = true ∧ r.poisoned = false ∧ r.write = true ∧ s.barTarget r.fi r.offset.toNat (4 * r.dws) r.write = .core a ∧ s.stackOff a = false) ∧ (∃ (s :
      State) (r : BarTlp) (a : Nat), r.malformed = false ∧ s.barUp r = true ∧ r.poisoned = false ∧ r.write = true ∧ s.barTarget r.fi r.offset.toNat (4 * r.dws) r.write =
      .core a ∧ s.stackOff a = true) ∧ (∃ (s : State) (r : BarTlp) (a : Nat), r.malformed = false ∧ s.barUp r = true ∧ r.write = false ∧ s.barTarget r.fi r.offset.toNat
      (4 * r.dws) r.write = .core a ∧ s.coreGood a (4 * r.dws) = true) ∧ (∃ (s : State) (r : BarTlp) (a : Nat), r.malformed = false ∧ s.barUp r = true ∧ r.write = false
      ∧ s.barTarget r.fi r.offset.toNat (4 * r.dws) r.write = .core a ∧ s.coreGood a (4 * r.dws) = false) ∧ (∃ (s : State) (r : BarTlp) (o : Nat), r.malformed = false ∧
      s.barUp r = true ∧ r.poisoned = false ∧ r.write = true ∧ s.barTarget r.fi r.offset.toNat (4 * r.dws) r.write = .staging o) ∧ (∃ (s : State) (r : BarTlp) (o : Nat),
      r.malformed = false ∧ s.barUp r = true ∧ r.write = false ∧ s.barTarget r.fi r.offset.toNat (4 * r.dws) r.write = .staging o) ∧ (∃ (s : State) (r : BarTlp) (a :
      Nat), r.malformed = false ∧ s.barUp r = true ∧ (r.poisoned = false ∨ r.write = false) ∧ s.barTarget r.fi r.offset.toNat (4 * r.dws) r.write = .reg a ∧ (2 <
      r.dws.val ∨ (r.dws.val = 2 ∧ a % 8 ≠ 0) ∨ (r.write = true ∧ (barEnables r).any (fun b => !b) = true))) ∧ (∃ (s : State) (r : BarTlp) (a : Nat), r.malformed = false
      ∧ s.barUp r = true ∧ (r.poisoned = false ∨ r.write = false) ∧ s.barTarget r.fi r.offset.toNat (4 * r.dws) r.write = .reg a ∧ ((r.dws.val ≤ 1 ∨ (r.dws.val = 2 ∧ a %
      8 = 0))) ∧ (r.write = false ∨ (barEnables r).any (fun b => !b) = false) ∧ s.reach (.fn r.fi) r.write a = .refused) ∧ (∃ (s : State) (r : BarTlp) (a : Nat),
      r.malformed = false ∧ s.barUp r = true ∧ (r.poisoned = false ∨ r.write = false) ∧ s.barTarget r.fi r.offset.toNat (4 * r.dws) r.write = .reg a ∧ ((r.dws.val ≤ 1 ∨
      (r.dws.val = 2 ∧ a % 8 = 0))) ∧ (r.write = false ∨ (barEnables r).any (fun b => !b) = false) ∧ s.reach (.fn r.fi) r.write a = .ringOther) ∧ (∃ (s : State) (r :
      BarTlp) (a : Nat), r.malformed = false ∧ s.barUp r = true ∧ r.write = false ∧ s.barTarget r.fi r.offset.toNat (4 * r.dws) r.write = .reg a ∧ r.dws.val = 1 ∧
      r.firstBe.val ≠ 0 ∧ s.reach (.fn r.fi) r.write a = .served) ∧ (∃ (s : State) (r : BarTlp) (a : Nat), r.malformed = false ∧ s.barUp r = true ∧ r.write = false ∧
      s.barTarget r.fi r.offset.toNat (4 * r.dws) r.write = .reg a ∧ r.dws.val = 1 ∧ r.firstBe.val = 0 ∧ s.reach (.fn r.fi) r.write a = .served) ∧ (∃ (s : State) (r :
      BarTlp) (a : Nat), r.malformed = false ∧ s.barUp r = true ∧ r.write = false ∧ s.barTarget r.fi r.offset.toNat (4 * r.dws) r.write = .reg a ∧ r.dws.val = 2 ∧ a % 8
      = 0 ∧ s.reach (.fn r.fi) r.write a = .served) ∧ (∃ (s : State) (r : BarTlp) (a : Nat), r.malformed = false ∧ s.barUp r = true ∧ r.poisoned = false ∧ r.write = true
      ∧ s.barTarget r.fi r.offset.toNat (4 * r.dws) r.write = .reg a ∧ r.dws.val = 1 ∧ (barEnables r).any (fun b => !b) = false ∧ s.reach (.fn r.fi) r.write a = .served)
      ∧ (∃ (s : State) (r : BarTlp) (a : Nat), r.malformed = false ∧ s.barUp r = true ∧ r.poisoned = false ∧ r.write = true ∧ s.barTarget r.fi r.offset.toNat (4 * r.dws)
      r.write = .reg a ∧ r.dws.val = 2 ∧ a % 8 = 0 ∧ (barEnables r).any (fun b => !b) = false ∧ s.reach (.fn r.fi) r.write a = .served) :=
  ⟨⟨barRun 0 0, { oneTlp true with malformed := true }, by decide⟩, ⟨inMode .run, { oneTlp true with malformed := true }, by decide⟩, ⟨(barRun 0 0).withCfgs [(0,
    { mse := true, resetting := 1 })], oneTlp false, by decide⟩, ⟨(barRun 0 0).withCfgs [(0, { mse := true, resetting := 1 })], oneTlp true, by decide⟩, ⟨inMode .run,
    oneTlp true, by decide⟩, ⟨barRun 1 0, { oneTlp true with poisoned := true }, by decide⟩, ⟨barRun 2 0, oneTlp false, by decide⟩, ⟨(barRun 0 0x1000000), oneTlp true,
    0x1000000010, by decide⟩, ⟨(barRun 0 0x1000000).setFld F.MX_HBM_STACK_CTRL_STATE 0 2, oneTlp true, 0x1000000010, by decide⟩, ⟨(barRun 0 0x1000000), oneTlp false,
    0x1000000010, by decide⟩, ⟨(barRun 0 0x1000000).setFld F.MX_HBM_STACK_CTRL_STATE 0 2, oneTlp false, 0x1000000010, by decide⟩, ⟨barRun 1 0xFFF, oneTlp true, 0xFFF010,
    by decide⟩, ⟨barRun 1 0xFFF, oneTlp false, 0xFFF010, by decide⟩, ⟨barRun 0 0, { oneTlp true with firstBe := 7 }, 16, by decide⟩, ⟨((barRun 0 0).setFld
    F.HX_FN_MGR_MGR_PF 0 5), oneTlp false, 16, by decide⟩, ⟨((barRun 0 0x60300).setFld F.HX_FN_MGR_MGR_PF 0 5), oneTlp false, 0x60300010, by decide⟩, ⟨barRun 0 0, oneTlp
    false, 16, by decide⟩, ⟨barRun 0 0, { oneTlp false with firstBe := 0 }, 16, by decide⟩, ⟨barRun 0 0, { oneTlp false with dws := 2, lastBe := 15 }, 16, by decide⟩,
    ⟨barRun 0 0, oneTlp true, 16, by decide⟩, ⟨barRun 0 0, { oneTlp true with dws := 2, lastBe := 15, data := List.replicate 8 1 }, 16, by decide⟩⟩

set_option maxRecDepth 8000 in
/-- The premises of RegisterWrites can be met. -/
theorem premises_RegisterWrites :
    (∃ (s : State), s.powered = true) ∧ (∃ (s : State), s.powered = true ∧ s.fenced 0 = false ∧ s.faultsDue = [] ∧ s.request = 0) ∧ (∃ (s : State), s.powered = true ∧
      s.fenced 0 = false ∧ s.faultsDue = [] ∧ s.request = 0) ∧ (∃ (s : State), s.powered = true ∧ s.fenced 0 = false ∧ s.faultsDue = [] ∧ s.request = 0) ∧ (∃ (s :
      State), s.powered = true ∧ s.fenced 0 = false ∧ s.faultsDue = [] ∧ s.request = 0) ∧ (∃ (s : State), s.powered = true ∧ s.fenced 0 = false ∧ s.faultsDue = [] ∧
      s.request = 0) ∧ (∃ (s : State), s.powered = true ∧ s.fenced 0 = false ∧ s.faultsDue = [] ∧ s.request = 0) ∧ (∃ (s : State) (fi : Fin 2056), s.powered = true ∧
      s.mode ≠ .safetyNet ∧ fi.val = s.mgr ∧ s.fenced 0 = false ∧ s.faultsDue = [] ∧ s.request = 0) ∧ (∃ (s : State), s.powered = true ∧ s.fenced 0 = false ∧ Map.get
      false 0 s.locks = true ∧ s.faultsDue = [] ∧ s.request = 0) ∧ (∃ (s : State), s.powered = true ∧ s.fenced 0 = false ∧ Map.get false 0 s.locks = false ∧ s.faultsDue
      = [] ∧ s.request = 0) ∧ (∃ (s : State), s.powered = true ∧ s.fenced 6 = true ∧ s.faultsDue = [] ∧ s.request = 0) ∧ (∃ (s : State) (fi : Fin 2056), s.powered = true
      ∧ fi.val ≠ s.mgr ∧ s.faultsDue = [] ∧ s.request = 0) ∧ (∃ (s : State), s.powered = true ∧ s.faultsDue = [] ∧ s.request = 0) ∧ (∃ (s : State), s.powered = false) :=
  ⟨⟨inMode .run, by decide⟩, ⟨inMode .run, by decide⟩, ⟨inMode .run, by decide⟩, ⟨((inMode .run).setFlag F.AO_PKG_AUX_V3P3_FAULT 0 true).setFlag F.AO_PKG_AUX_V1P8_FAULT
    0 true, by decide⟩, ⟨inMode .run, by decide⟩, ⟨inMode .run, by decide⟩, ⟨inMode .run, by decide⟩, ⟨inMode .run, 0, by decide⟩, ⟨(inMode .run).withLocks [(0, true)],
    by decide⟩, ⟨inMode .run, by decide⟩, ⟨(inMode .run).setFlag F.AO_FLT_REGION_RESETTING 6 true, by decide⟩, ⟨inMode .run, 2055, by decide⟩, ⟨inMode .run, by decide⟩,
    ⟨State.reset, by decide⟩⟩

/-! ### Ill-formed commands -/

/-- 47 readings are no samples of 48 sensors (R670). -/
theorem test_illformed_tempSample : Instr.wf (.tempSample (List.replicate 47 { valid := true, temp := 20 })) = false ∧ Instr.wf (.tempSample (List.replicate 48 { valid := true, temp := 20 })) = true := by decide

/-- A BAR0 write whose data is not its length (R343). -/
theorem test_illformed_barRequest : Instr.wf (.barRequest { oneTlp true with dws := 2 }) = false ∧ Instr.wf (.barRequest (oneTlp true)) = true := by decide

/-- An entry of 63 bytes (R366). -/
theorem test_illformed_descFetch : Instr.wf (.descFetch 5 true [List.replicate 63 0]) = false ∧ Instr.wf (.descFetch 5 true [List.replicate 64 0]) = true := by decide

/-- Seven scratch registers (R394). -/
theorem test_illformed_microword :
    Instr.wf (.microword 1 2 { scratch := List.replicate 7 0 }) = false ∧ Instr.wf (.microword 1 2 { scratch := List.replicate 8 0 }) = true := by decide

/-- A register write at an address that is not aligned (R679). -/
theorem test_illformed_registerWrite :
    Instr.wf (.registerWrite [{ who := .supervisor, addr := 6, value := 0, wide := false, bad := false }]) = false
      ∧ Instr.wf (.registerWrite [{ who := .supervisor, addr := 8, value := 0, wide := true, bad := false }]) = true := by decide

/-! ### Worked examples of the spec -/

/-- The yield of the example of R30: 0b10_011_101. -/
theorem test_yield_code : yieldOf 1 = 0x9D := by decide

/-- The routing cell of the example of chapter 5: table 2 holds 10.1.2.0/24. -/
def routeRun : State :=
  (((inMode .run).setFlag F.FX_TBE_TBL_CFG_EN 2 true).setFld F.FX_TBE_TBL_CFG_KIND 2 2).withTbl
    { tabs := [(2, [{ region := 0, index := 0, key := 0x0A010200, plen := 24, data := 42, nb := 9, nbValid := true }])] }

/-- A frame at that cell, with P0 as given. -/
def routeCtx (p : Nat) : Ctx := { region := 1, egress := false, cell := 3, phv := [(7, 100), (9, 0x0A010203), (12, 64), (13, 0xB861), (96, 1496), (103, p)] }

/-- Its bundle 17 on that frame. -/
def routeCell (p : Nat) : State × Ctx × Nat :=
  routeRun.runBundle (routeCtx p) 0 { keyprof := [(8, 2 ^ 27), (9, 9)], binds := [(2, 2)] } false
    (0x0560 * 2 ^ 128 + 0x0A3067FF * 2 ^ 96 + 0x36346900 * 2 ^ 64 + 0x80500045 * 2 ^ 32 + 0xB2003C00)

theorem test_routing_cell :
    (routeCell 1).2.1.c 12 = 0x3F ∧ (routeCell 1).2.1.c 13 = 0xB961 ∧ (routeCell 1).2.1.c 20 = 42 ∧ (routeCell 1).2.2 = 9
      ∧ Map.get [] 0 [(0, (routeCell 1).1.tm.counters)] = [(1124, 1, 1496)] := by decide

theorem test_routing_cell_other : (routeCell 0).2.1.c 12 = 64 ∧ (routeCell 0).2.2 = 5 ∧ (routeCell 0).1.tm.counters = [] := by decide

/-- CBITI of the same example sets P0 of an IPv4 frame. -/
theorem test_cbiti : ((inMode .run).runBundle { region := 1, egress := false, phv := [(99, 4)] } 0 {} false (0x4E031802 * 2 ^ 96)).2.1.c 103 = 1 := by decide

/-- A mark of ECT(0) with checksum 0xB861 (example of R239). -/
theorem test_ecn_checksum :
    ((inMode .run).setFlag F.FX_ADM_SRC_CSUM_EN 0 true).markBytes
      { bytes := [0x02, 0xB8, 0x61], orig := [], phv := [(99, 1)], region := 1, ecn := some { cont := 20, pos := 0, width := 8 },
        csum := some { cont := 21, pos := 8, width := 16 } } = [0x03, 0xB8, 0x60] := by decide

/-- The stitch header of the example of R276: class 5, LP8, to LP300 of module 2. -/
theorem test_stitch_header :
    (((inMode .run).setFld F.PD_STC_LINK_NB_DEVID 3 2).stitchHead { bytes := [], orig := [], ingress := 8 }
      { fid := 0, lp := 492, cls := 5, kind := 0, remote := some (2 ^ 31 + 2 * 2 ^ 28 + 300 * 2 ^ 16) }).take 6 = [0x11, 0x25, 0x4B, 0, 2, 0] := by decide

/-- CORE_SIZE of the example of R307. -/
theorem test_core_size :
    (List.range 4).map (fun m => (((inMode .run).setFld F.MX_HBM_PART_WC_SIZE 0 12).setFld F.MX_HBM_PART_WC_STACKS 0 14).coreSize m / 1048576)
      = [13680, 12288, 12288, 12288] := by decide

/-- The four reads of the example of R329. -/
theorem test_split_reads :
    splitReq 8 0x123456F00 10240 4096 = [(0x123456F00, 256), (0x123457000, 4096), (0x123458000, 4096), (0x123459000, 1792)] := by decide

/-- The pages that the example of R363 marks. -/
theorem test_dirty_pages :
    (Map.get {} 3 ((((inMode .run).setFlag F.HX_FN_DLOG_EN 3 true).setFld F.HX_FN_DLOG_FUNC 3 20).setFld F.HX_FN_DLOG_LENGTH 3 16777216
      |>.dlogMark 20 0x123456F00 10240).dlogs).bits = [(0x2468A, 0xC0), (0x2468B, 3)] := by decide

/-- The head record of step 6 of the example of chapter 14: HEAD 5, LAP 1, ACTIVE, CCOUNT 13. -/
theorem test_head_record :
    (((((inMode .run).setFld F.HX_RING_STATUS_STATE 300 1).setFld F.HX_RING_CCOUNT_CCOUNT 300 13).withRings [(300, { h := 13, t := 13 })]).headBytes 300)
      = leBytes 8 0x0000000D00050005 := by decide

/-- The patch word of the example of chapter 15 and the parity of its high bytes. -/
theorem test_patch_parity :
    bits (withParity (0x34420000 * 2 ^ 96)) 140 4 = 0b0111 ∧ paritySyndrome (withParity (0x34420000 * 2 ^ 96)) = 0 := by decide

/-- The trap record of the example of chapter 15. -/
theorem test_trap_record :
    ((inMode .run).trapWords 9 0 {} { kind := 3, cause := 0x21, nspace := true, upc := 0, fspace := true, faddr := 0, word := 0, syn := 0 }).head? = some 0x32198000 := by
  decide

/-- A bank of 100,000 uF at 12 V. -/
def bankRun (c : Nat) : State :=
  ((((((inMode .run).setFld F.AO_SUP_CAP_C_USED 0 c).setFld F.AO_SUP_VIN_VIN_MV 0 12000).setFld F.AO_SUP_VIN_BANK_MV 0 12000).setFld
    F.AO_LED_VMODEL_VAULT_BASE 0 41536).setFld F.AO_LED_VMODEL_E_REC 0 2340).setFld F.AO_LED_CFG_CERT_FRAC 0 40

/-- RESERVE of the examples of R523 and R550. -/
theorem test_reserve :
    (bankRun 100000).reserveAt 12000 = 5573125 ∧ (bankRun 94000).reserveAt 12000 = 5238437 ∧ (bankRun 94000).reserveAt 11000 = 4225000 := by decide

/-- CERT_BASIS and CERT_LIMIT of the example of R550. -/
theorem test_cert_limit :
    (((bankRun 100000).setFld F.MX_HBM_PART_WC_SIZE 0 12).certLimit).fld F.AO_LED_STATUS_CERT_BASIS = 3483203
      ∧ (((bankRun 100000).setFld F.MX_HBM_PART_WC_SIZE 0 12).certLimit).fld F.AO_LED_STATUS_CERT_LIMIT = 147079
      ∧ (((bankRun 94000).setFld F.MX_HBM_PART_WC_SIZE 0 12).certLimit).fld F.AO_LED_STATUS_CERT_LIMIT = 138140 := by decide

/-- The remaining life of the example of R615: 43,830 h, growth 24.0 of 30.0 ps, a mean weight of 1.25. -/
theorem test_remaining_life : monthsOf (43830 * 3600) 4 (5 * 2 ^ 32) 240 300 = 98 := by decide


/-- Vector 3 of VF40 and the doorbell of ring 4,100 (example of R681). -/
theorem test_view_registers : (regAt 0x61308030).map (·.idx) = some (48 * 2048 + 3) ∧ (regAt 0x60340118).map (·.idx) = some 4100 := by decide

/-- The register of the example of R80: sub-port 0 of P37. -/
theorem test_subport_register : (regAt 0x20100150).map (·.idx) = some 148 := by decide

set_option maxRecDepth 8000 in
/-- The check value of R111: the nine bytes 0x31 to 0x39 with the reset seed. -/
theorem test_crc32c : crc32c [0x31, 0x32, 0x33, 0x34, 0x35, 0x36, 0x37, 0x38, 0x39] = 0xE3069283 := by decide

/-- A monitor read twice in one run (R612). -/
theorem test_illformed_tightropeTimer :
    Instr.wf (.tightropeTimer [{ mon := 3, delay := 1, slack := 1 }, { mon := 3, delay := 2, slack := 1 }] []) = false
      ∧ Instr.wf (.tightropeTimer [{ mon := 3, delay := 1, slack := 1 }, { mon := 4, delay := 2, slack := 1 }] []) = true := by decide

/-- Nine activity counts of a domain; the coefficients are eight (R617). -/
theorem test_illformed_ledgerMsClose :
    Instr.wf (.ledgerMsClose [{ source := .ao, domain := 3, counts := List.replicate 9 1 }]) = false
      ∧ Instr.wf (.ledgerMsClose [{ source := .ao, domain := 3, counts := List.replicate 8 1 }]) = true := by decide

end Sys2Proof.Tests
end

/-! ## The writes of one clock (R8, R31, R32) -/

namespace Sys2Proof.Machine

/-! ### The order of the writes -/

/-- Of two writers of which neither goes before the other in `State.before`, this is what R31 and R32 leave: the first ranks lower, or as high with an index no less. -/
def State.inTurn (s : State) (a b : RegWrite) : Prop :=
  s.rank b.who < s.rank a.who ∨ (s.rank a.who = s.rank b.who ∧ partyIndex b.who ≤ partyIndex a.who)

theorem State.before_iff (s : State) (a b : Party) :
    s.before a b = true ↔ s.rank b < s.rank a ∨ (s.rank a = s.rank b ∧ partyIndex b < partyIndex a) := by
  simp [State.before]

theorem State.inTurn_of_before {s : State} {a b : RegWrite} (h : s.before a.who b.who = true) : s.inTurn a b := by
  rw [State.before_iff] at h
  unfold State.inTurn
  omega

theorem State.inTurn_of_not_before {s : State} {a b : RegWrite} (h : ¬ s.before a.who b.who = true) : s.inTurn b a := by
  rw [State.before_iff] at h
  unfold State.inTurn
  omega

theorem State.inTurn_trans {s : State} {a b c : RegWrite} (h : s.inTurn a b) (g : s.inTurn b c) : s.inTurn a c := by
  unfold State.inTurn at *
  omega

theorem State.orderWrite_perm (s : State) (w : RegWrite) (l : List RegWrite) : (s.orderWrite w l).Perm (w :: l) := by
  induction l with
  | nil => exact List.Perm.refl _
  | cons x xs ih =>
    unfold State.orderWrite
    split
    · exact List.Perm.refl _
    · exact (ih.cons x).trans (List.Perm.swap w x xs)

/-- A write put in its place keeps the writes in turn. -/
theorem State.orderWrite_inTurn (s : State) (w : RegWrite) {l : List RegWrite} (hl : l.Pairwise s.inTurn) :
    (s.orderWrite w l).Pairwise s.inTurn := by
  induction l with
  | nil => exact List.pairwise_singleton _ w
  | cons x xs ih =>
    obtain ⟨hx, hxs⟩ := List.pairwise_cons.mp hl
    unfold State.orderWrite
    split
    case isTrue h =>
      refine List.pairwise_cons.mpr ⟨fun y hy => ?_, hl⟩
      have hwx := State.inTurn_of_before h
      rcases List.mem_cons.mp hy with rfl | hy
      · exact hwx
      · exact State.inTurn_trans hwx (hx y hy)
    case isFalse h =>
      refine List.pairwise_cons.mpr ⟨fun y hy => ?_, ih hxs⟩
      rcases List.mem_cons.mp ((s.orderWrite_perm w xs).mem_iff.mp hy) with rfl | hy
      · exact State.inTurn_of_not_before h
      · exact hx y hy

/-- Writes put one after another into a list in turn: the same writes, in turn. -/
theorem State.foldl_orderWrite (s : State) (ws : List RegWrite) {l : List RegWrite} (hl : l.Pairwise s.inTurn) :
    (ws.foldl (fun l w => s.orderWrite w l) l).Perm (ws ++ l) ∧ (ws.foldl (fun l w => s.orderWrite w l) l).Pairwise s.inTurn := by
  induction ws generalizing l with
  | nil => exact ⟨List.Perm.refl _, hl⟩
  | cons w ws ih =>
    obtain ⟨hp, ht⟩ := ih (s.orderWrite_inTurn w hl)
    exact ⟨hp.trans (((s.orderWrite_perm w l).append_left ws).trans List.perm_middle), ht⟩

theorem State.inOrder_perm (s : State) (ws : List RegWrite) : (s.inOrder ws).Perm ws := by
  simpa [State.inOrder] using (s.foldl_orderWrite ws List.Pairwise.nil).1

theorem State.inOrder_inTurn (s : State) (ws : List RegWrite) : (s.inOrder ws).Pairwise s.inTurn :=
  (s.foldl_orderWrite ws List.Pairwise.nil).2

theorem State.inOrder_pair (s : State) (a b : RegWrite) :
    s.inOrder [a, b] = if s.before b.who a.who = true then [b, a] else [a, b] := rfl

@[simp] theorem State.inOrder_singleton (s : State) (w : RegWrite) : s.inOrder [w] = [w] := rfl

/-- Of two writers the one that goes before is applied first, in whichever order the two are named. -/
theorem State.inOrder_pair_of_before {s : State} {a b : RegWrite} (h : s.before b.who a.who = true) :
    s.inOrder [a, b] = [b, a] ∧ s.inOrder [b, a] = [b, a] := by
  have hn : ¬ s.before a.who b.who = true := by
    rw [State.before_iff] at *
    omega
  exact ⟨by rw [State.inOrder_pair, if_pos h], by rw [State.inOrder_pair, if_neg hn]⟩

/-! ### The end of the clock -/

theorem exec_registerWrite {s : State} (h : s.powered = true) (ws : List RegWrite) :
    exec (.registerWrite ws) s = .next ((s.inOrder ws).foldl State.access s).settleDue := by
  show Host.Outcome.next (s.writes ws) = _
  rw [State.writes, h, State.when_true]

/-- Where no region fault is due, only the request of AO_MODULE_CTRL is left to the end of the clock (R21). -/
theorem State.settleDue_eq {s : State} (h : s.faultsDue = []) : s.settleDue = s.settleRequest := by
  have hs : s.withFaultsDue [] = s := by rw [← h]; rfl
  rw [State.settleDue, h, hs]
  rfl

theorem State.settleRequest_none {s : State} (h : s.request = 0) : s.settleRequest = s := by
  simp [State.settleRequest, h]

/-! ### A write of one register word -/

@[simp] theorem State.fld_overtake (s : State) (who : Party) (addr : Nat) (f : Fld) (i : Nat) : (s.overtake who addr).fld f i = s.fld f i := rfl
@[simp] theorem State.shut_overtake (s : State) (who : Party) (addr a : Nat) : (s.overtake who addr).shut a = s.shut a := rfl

/-- A 32-bit write that is served, to a region that is not fenced, of a register that is one word. -/
theorem State.access_of_served {s : State} {w : RegWrite} {h : RegHit} (hm : misfit w.who w.addr.toNat false = false)
    (hr : s.reach w.who true w.addr.toNat = .served) (hw : w.wide = false) (hs : s.shut w.addr.toNat = false) (ha : regAt w.addr.toNat = some h)
    (hl : h.row.lowWord h.word = false) (hh : h.row.highWord h.word = false) :
    s.access w = (s.overtake w.who w.addr.toNat).regWrite w.who w.addr.toNat h [(h.word, w.value.toNat % 2 ^ 32)] w.bad := by
  simp [State.access, State.writeWord, hm, hr, hw, hs, ha, hl, hh]

/-! ### AO_ATT_IN -/

/-- The row of AO_ATT_IN in the register map. -/
def attInRow : RegRow :=
  { reg := .AO_ATT_IN, base := 0x00800100, dims := [(0x4, 24)], words := 1, tenant := false, core := false,
    slots := [⟨0, F.AO_ATT_IN_WORD⟩] }

/-- The address of a word of AO_ATT_IN. -/
def attInAddr (w : Fin 24) : Nat := 0x00800100 + 4 * w

theorem regAt_attIn : ∀ w : Fin 24, regAt (attInAddr w) = some { row := attInRow, idx := w, word := 0 }
  | 0 | 1 | 2 | 3 | 4 | 5 | 6 | 7 | 8 | 9 | 10 | 11 | 12 | 13 | 14 | 15 | 16 | 17 | 18 | 19 | 20 | 21 | 22 | 23 => rfl
  | ⟨_ + 24, h⟩ => absurd h (by omega)

theorem attInAddr_toNat (w : Fin 24) : (BitVec.ofNat 32 (0x00800100 + 4 * w)).toNat = attInAddr w := by
  have := w.isLt
  simp only [BitVec.toNat_ofNat, attInAddr]
  omega

theorem attInAddr_region (w : Fin 24) : attInAddr w / 0x10000000 = 0 := by
  have := w.isLt
  unfold attInAddr
  omega

/-- A field is cut to its width as it is written, so values that agree there write the same. -/
theorem State.setFld_congr (s : State) (f : Fld) (i : Nat) {u v : Nat} (h : u % 2 ^ f.width = v % 2 ^ f.width) :
    s.setFld f i u = s.setFld f i v := by
  rw [State.setFld, State.setFld, h]

/-- AO is no region that the journal keeps (R601). -/
theorem State.journal_attIn (s : State) (rank i : Nat) : s.journal rank F.AO_ATT_IN_WORD i = s := by
  have h : s.journals F.AO_ATT_IN_WORD i = false := rfl
  rw [State.journal, h]
  rfl

/-- AO_ATT_IN is a plain RW field of AO: no lock, no reserved bit, no journal. -/
theorem State.write_attIn (s : State) (who : Party) (i v : Nat) : s.write who F.AO_ATT_IN_WORD i v = s.setFld F.AO_ATT_IN_WORD i v := by
  show s.put who F.AO_ATT_IN_WORD i v = _
  have hl : s.lockHit F.AO_ATT_IN_WORD i = false := rfl
  have ho : s.supOnly who F.AO_ATT_IN_WORD i = false := rfl
  have hv : liveBits F.AO_ATT_IN_WORD i v = v := liveBits_eq _ _ _ (by decide) (by decide)
  rw [State.put, hl, ho, hv, State.journal_attIn]
  rfl

/-- A write that reaches a word of AO_ATT_IN sets it. -/
theorem State.regWrite_attIn (s : State) (who : Party) (w : Fin 24) (v : Nat) (bad : Bool) :
    s.regWrite who (attInAddr w) { row := attInRow, idx := w, word := 0 } [(0, v)] bad = s.setFld F.AO_ATT_IN_WORD w v := by
  have hfields : s.regWrite who (attInAddr w) { row := attInRow, idx := w, word := 0 } [(0, v)] bad
      = s.write who F.AO_ATT_IN_WORD w (Slot.merge ⟨0, F.AO_ATT_IN_WORD⟩ 0 (s.fld F.AO_ATT_IN_WORD w) v) := by
    unfold State.regWrite
    rw [attInAddr_region]
    rfl
  rw [hfields, State.write_attIn]
  apply State.setFld_congr
  show (s.fld F.AO_ATT_IN_WORD w - s.fld F.AO_ATT_IN_WORD w / 2 ^ 0 % 2 ^ 32 * 2 ^ 0 + v / 2 ^ 0 % 2 ^ 32 * 2 ^ 0) % 2 ^ 32 = v % 2 ^ 32
  omega

theorem inRange_of_lt {x b n : Nat} (h : x < b) : inRange x b n = false := by
  have hb : ¬ b ≤ x := by omega
  simp [inRange, hb]

/-- The supervisor and, outside SAFETY-NET, the manager reach AO_ATT_IN (R678). -/
theorem State.reach_attIn {s : State} {who : Party} (w : Fin 24)
    (h : who = .supervisor ∨ (∃ fi : Fin 2056, who = .fn fi ∧ fi.val = s.mgr ∧ s.mode ≠ .safetyNet)) :
    s.reach who true (attInAddr w) = .served := by
  have hw := w.isLt
  rcases h with rfl | ⟨fi, rfl, hm, hn⟩
  · rfl
  · have hlow : attInAddr w < 0x60300000 := by unfold attInAddr; omega
    have hview : inRange (attInAddr w) 0x61000000 (0x10000 * 2056) = false := inRange_of_lt (by omega)
    have hring : ringReg (attInAddr w) = false := inRange_of_lt hlow
    simp [State.reach, hview, hring, hm, hn]

/-- A write of a word of AO_ATT_IN by the supervisor or, outside SAFETY-NET, the manager. -/
theorem State.access_attIn {s : State} {who : Party} (w : Fin 24) (v : Dword) (hf : s.fenced 0 = false)
    (h : who = .supervisor ∨ (∃ fi : Fin 2056, who = .fn fi ∧ fi.val = s.mgr ∧ s.mode ≠ .safetyNet)) :
    s.access { who := who, addr := BitVec.ofNat 32 (0x00800100 + 4 * w), value := v, wide := false, bad := false }
      = (s.overtake who (attInAddr w)).setFld F.AO_ATT_IN_WORD w (v.toNat % 2 ^ 32) := by
  have ha := attInAddr_toNat w
  have hm : misfit who (attInAddr w) false = false := by
    rcases h with rfl | ⟨fi, rfl, -, -⟩ <;> rfl
  have hs : s.shut (attInAddr w) = false := by rw [State.shut, attInAddr_region, hf]
  rw [State.access_of_served (h := ⟨attInRow, w, 0⟩) (by rw [ha]; exact hm) (by rw [ha]; exact State.reach_attIn w h) rfl
    (by rw [ha]; exact hs) (by rw [ha]; exact regAt_attIn w) rfl rfl]
  simp only [ha]
  exact State.regWrite_attIn _ _ _ _ _

/-- A write of AO_ATT_IN leaves nothing for the end of its clock and every other register as it was. -/
theorem State.attIn_written (s : State) (who : Party) (a w x : Nat) :
    let t := (s.overtake who a).setFld F.AO_ATT_IN_WORD w x
    t.faultsDue = s.faultsDue ∧ t.request = s.request ∧ t.fenced 0 = s.fenced 0 ∧ t.fld F.AO_ATT_IN_WORD w = x % 2 ^ 32 := by
  have hf : ((s.overtake who a).setFld F.AO_ATT_IN_WORD w x).fenced 0 = s.fenced 0 := by
    unfold State.fenced State.flag
    rw [State.fld_setFld_ne _ _ _ _ _ _ (by decide), State.fld_overtake]
  exact ⟨rfl, rfl, hf, State.fld_setFld_same _ _ _ _⟩

/-- Of the supervisor's and the manager's writes of one word of AO_ATT_IN in one clock the supervisor's value remains (R31). -/
theorem registerWrite_attIn_both {s : State} (w : Fin 24) (fi : Fin 2056) (u v : Dword) (hp : s.powered = true) (hf : s.fenced 0 = false)
    (hd : s.faultsDue = []) (hr : s.request = 0) (hn : s.mode ≠ .safetyNet) (hfi : fi.val = s.mgr) :
    ∃ t, exec (.registerWrite [
        { who := .supervisor, addr := BitVec.ofNat 32 (0x00800100 + 4 * w), value := u, wide := false, bad := false },
        { who := .fn fi, addr := BitVec.ofNat 32 (0x00800100 + 4 * w), value := v, wide := false, bad := false }]) s = .next t
      ∧ t.fld F.AO_ATT_IN_WORD w = u.toNat % 2 ^ 32 := by
  have hbefore : s.before (.fn fi) .supervisor = true := by
    rw [State.before_iff]
    exact .inl (by simp [State.rank, hfi])
  obtain ⟨hd1, hr1, hf1, -⟩ := s.attIn_written (.fn fi) (attInAddr w) w (v.toNat % 2 ^ 32)
  generalize ht : (s.overtake (.fn fi) (attInAddr w)).setFld F.AO_ATT_IN_WORD w (v.toNat % 2 ^ 32) = t at hd1 hr1 hf1
  obtain ⟨hd2, hr2, -, hval⟩ := t.attIn_written .supervisor (attInAddr w) w (u.toNat % 2 ^ 32)
  refine ⟨_, ?_, hval.trans (Nat.mod_mod _ _)⟩
  rw [exec_registerWrite hp, (State.inOrder_pair_of_before hbefore).1, List.foldl_cons, List.foldl_cons, List.foldl_nil,
    State.access_attIn w v hf (.inr ⟨fi, rfl, hfi, hn⟩), ht, State.access_attIn w u (hf1.trans hf) (.inl rfl),
    State.settleDue_eq (hd2.trans (hd1.trans hd)), State.settleRequest_none (hr2.trans (hr1.trans hr))]

/-! ### The order of R31 and R32 -/

theorem State.rank_eq (s : State) :
    s.rank .faultLogic = 1 ∧ s.rank .supervisor = 2 ∧ (∀ fi : Fin 2056, s.rank (.fn fi) = if fi.val = s.mgr then 3 else 4)
      ∧ (∀ k : Fin 32, s.rank (.core k) = 5) ∧ (∀ n : Fin 16, s.rank (.sequencer n) = 6) :=
  ⟨rfl, rfl, fun _ => rfl, fun _ => rfl, fun _ => rfl⟩

/-- Settles O9: writes put into their places one after another stay in turn, and each of two served writes of AO_ATT_IN sets the word, the supervisor's last. -/
theorem sameClockWrites : Obligations.SameClockWrites := by
  unfold Obligations.SameClockWrites
  refine ⟨fun s ws hp => ⟨exec_registerWrite hp ws, s.inOrder_perm ws, s.inOrder_inTurn ws⟩, State.rank_eq, fun _ _ _ => ⟨rfl, rfl, rfl⟩,
    fun s w fi u v hp hf hd hr hn hfi => registerWrite_attIn_both w fi u v hp hf hd hr hn hfi, fun s a b x y u v h => ?_⟩
  exact State.inOrder_pair_of_before ((s.before_iff b a).mpr (by omega))

end Sys2Proof.Machine

/-! ## What AO_MODULE_STATE shows is moved by a transition alone (R17, R23) -/

namespace Sys2Proof.Machine

/-- The fields that show the module's state and the transition that led to it. -/
def modeFlds : List Fld :=
  [F.AO_MODULE_STATE_STATE, F.AO_MODULE_STATE_PREV, F.AO_MODULE_STATE_CAUSE, F.AO_MODULE_STATE_PENDING]

/-- A field by which AO_MODULE_STATE shows the module's state. -/
def modeFld (f : Fld) : Bool := (modeFlds.map (·.id)).contains f.id

/-- What a party sees of the module's state: whether AO has power, and STATE, PREV, CAUSE and PENDING. -/
def State.stateView (s : State) : Bool × List Nat := (s.powered, modeFlds.map (s.fld · 0))

/-- The view depends on power and on its fields alone. -/
theorem State.stateView_eq {s t : State} (hp : t.powered = s.powered) (hf : ∀ f, modeFld f = true → t.fld f 0 = s.fld f 0) : t.stateView = s.stateView := by
  have h : modeFlds.map (t.fld · 0) = modeFlds.map (s.fld · 0) :=
    List.map_congr_left (fun f hm => hf f (by simpa [modeFld] using ⟨f, hm, rfl⟩))
  rw [State.stateView, State.stateView, hp, h]

/-- What leaves power and the registers as they are leaves the view. -/
theorem State.stateView_of_regs {s t : State} (hp : t.powered = s.powered) (hr : t.regs = s.regs) : t.stateView = s.stateView :=
  State.stateView_eq hp (fun f _ => State.fld_of_regs hr f 0)

theorem State.mode_of_view {s t : State} (h : t.stateView = s.stateView) : t.mode = s.mode := by
  simp only [State.stateView, modeFlds, List.map_cons, List.map_nil, Prod.mk.injEq, List.cons.injEq] at h
  obtain ⟨hp, hs, -⟩ := h
  rw [State.mode, State.mode, hp, hs]

@[simp] theorem ModState.ofCode_code (m : ModState) : ModState.ofCode m.code = m := by cases m <;> rfl

theorem ModState.code_lt (m : ModState) : m.code < 2 ^ 3 := by cases m <;> decide

/-- A view as a transition from `prev` leaves it. -/
theorem State.shows_of_view {s : State} {m prev : ModState} {cause pending : Nat}
    (h : s.stateView = (true, [m.code, prev.code, cause, pending])) : s.shows m prev cause := by
  simp only [State.stateView, modeFlds, List.map_cons, List.map_nil, Prod.mk.injEq, List.cons.injEq] at h
  obtain ⟨hp, hs, hprev, hc, -⟩ := h
  exact ⟨by rw [State.mode, hp, hs]; simp, hprev, hc⟩

/-! ### Fields, folds, events, the log -/

theorem modeFld_not_event {f : Fld} (h : modeFld f = true) : eventFld f = false ∧ logFld f = false := by
  simp only [modeFld, modeFlds, List.map_cons, List.map_nil, List.contains_cons, List.contains_nil, Bool.or_false, Bool.or_eq_true, beq_iff_eq] at h
  unfold eventFld logFld
  rcases h with h | h | h | h <;> rw [h] <;> decide

@[simp] theorem State.stateView_setFld (s : State) (f : Fld) (i v : Nat) (h : modeFld f = false) : (s.setFld f i v).stateView = s.stateView :=
  State.stateView_eq rfl (fun g hg => State.fld_setFld_ne _ _ _ _ _ _ (fun e => by rw [modeFld, e, ← modeFld, h] at hg; cases hg))

@[simp] theorem State.stateView_setFlag (s : State) (f : Fld) (i : Nat) (b : Bool) (h : modeFld f = false) : (s.setFlag f i b).stateView = s.stateView :=
  s.stateView_setFld f i _ h

@[simp] theorem State.stateView_bump (s : State) (f : Fld) (i n : Nat) (h : modeFld f = false) : (s.bump f i n).stateView = s.stateView :=
  s.stateView_setFld f i _ h

@[simp] theorem State.stateView_bumpSat (s : State) (f : Fld) (i n : Nat) (h : modeFld f = false) : (s.bumpSat f i n).stateView = s.stateView :=
  s.stateView_setFld f i _ h

theorem State.stateView_foldl {α : Type} (g : State → α → State) (hg : ∀ (s : State) (a : α), (g s a).stateView = s.stateView) (l : List α) (s : State) :
    (l.foldl g s).stateView = s.stateView := by
  induction l generalizing s with
  | nil => rfl
  | cons a l ih => exact (ih _).trans (hg s a)

@[simp] theorem State.stateView_raise (s : State) (e : Nat) (p : List Item) : (s.raise e p).stateView = s.stateView :=
  State.stateView_eq ((s.raise_parts e p).1 .powered (by decide)) (fun f hf => s.fld_raise e p f 0 (modeFld_not_event hf).1)

@[simp] theorem State.stateView_logAs (s : State) (late : Bool) (type cond source count : Nat) (detail : List Nat) :
    (s.logAs late type cond source count detail).stateView = s.stateView :=
  State.stateView_eq ((s.logAs_parts late type cond source count detail).1 .powered (by decide))
    (fun f hf => s.fld_logAs late type cond source count detail f 0 (modeFld_not_event hf).2)

@[simp] theorem State.stateView_logEntry (s : State) (type cond source count : Nat) (detail : List Nat) :
    (s.logEntry type cond source count detail).stateView = s.stateView := s.stateView_logAs _ _ _ _ _ _

@[simp] theorem State.stateView_limitedBy (s : State) (period ev k n : Nat) (p : Nat → List Item) (rest : Bool) :
    (s.limitedBy period ev k n p rest).stateView = s.stateView := by
  unfold State.limitedBy
  dsimp only
  split
  · rw [State.stateView_raise]; rfl
  · rfl

/-! Components beside power and the registers. -/

@[simp] theorem State.stateView_withStaged (s : State) (x : List Staged) : (s.withStaged x).stateView = s.stateView := State.stateView_of_regs rfl rfl
@[simp] theorem State.stateView_withTraceLost (s : State) (x : Nat) : (s.withTraceLost x).stateView = s.stateView := State.stateView_of_regs rfl rfl
@[simp] theorem State.stateView_withDlogs (s : State) (x : Map Dlog) : (s.withDlogs x).stateView = s.stateView := State.stateView_of_regs rfl rfl
@[simp] theorem State.stateView_withRings (s : State) (x : Map RingSt) : (s.withRings x).stateView = s.stateView := State.stateView_of_regs rfl rfl
@[simp] theorem State.stateView_withMac (s : State) (x : MacSt) : (s.withMac x).stateView = s.stateView := State.stateView_of_regs rfl rfl
@[simp] theorem State.stateView_withTbl (s : State) (x : TblSt) : (s.withTbl x).stateView = s.stateView := State.stateView_of_regs rfl rfl
@[simp] theorem State.stateView_withProg (s : State) (x : ProgSt) : (s.withProg x).stateView = s.stateView := State.stateView_of_regs rfl rfl
@[simp] theorem State.stateView_withFx (s : State) (x : FxSt) : (s.withFx x).stateView = s.stateView := State.stateView_of_regs rfl rfl
@[simp] theorem State.stateView_withTm (s : State) (x : TmSt) : (s.withTm x).stateView = s.stateView := State.stateView_of_regs rfl rfl
@[simp] theorem State.stateView_withCiph (s : State) (x : CiphSt) : (s.withCiph x).stateView = s.stateView := State.stateView_of_regs rfl rfl
@[simp] theorem State.stateView_withStor (s : State) (x : StorSt) : (s.withStor x).stateView = s.stateView := State.stateView_of_regs rfl rfl
@[simp] theorem State.stateView_withRma (s : State) (x : RmaSt) : (s.withRma x).stateView = s.stateView := State.stateView_of_regs rfl rfl
@[simp] theorem State.stateView_withTime (s : State) (x : TimeSt) : (s.withTime x).stateView = s.stateView := State.stateView_of_regs rfl rfl
@[simp] theorem State.stateView_withLed (s : State) (x : LedSt) : (s.withLed x).stateView = s.stateView := State.stateView_of_regs rfl rfl
@[simp] theorem State.stateView_withCal (s : State) (x : CalSt) : (s.withCal x).stateView = s.stateView := State.stateView_of_regs rfl rfl
@[simp] theorem State.stateView_withPkg (s : State) (x : PkgSt) : (s.withPkg x).stateView = s.stateView := State.stateView_of_regs rfl rfl
@[simp] theorem State.stateView_withStc (s : State) (x : StcSt) : (s.withStc x).stateView = s.stateView := State.stateView_of_regs rfl rfl
@[simp] theorem State.stateView_withSq (s : State) (x : SqSt) : (s.withSq x).stateView = s.stateView := State.stateView_of_regs rfl rfl
@[simp] theorem State.stateView_withBoot (s : State) (x : BootSt) : (s.withBoot x).stateView = s.stateView := State.stateView_of_regs rfl rfl
@[simp] theorem State.stateView_withDbg (s : State) (x : DbgSt) : (s.withDbg x).stateView = s.stateView := State.stateView_of_regs rfl rfl
@[simp] theorem State.stateView_withTap (s : State) (x : TapSt) : (s.withTap x).stateView = s.stateView := State.stateView_of_regs rfl rfl
@[simp] theorem State.stateView_withHosts (s : State) (x : Map HostLink) : (s.withHosts x).stateView = s.stateView := State.stateView_of_regs rfl rfl
@[simp] theorem State.stateView_withCfgs (s : State) (x : Map FnCfg) : (s.withCfgs x).stateView = s.stateView := State.stateView_of_regs rfl rfl
@[simp] theorem State.stateView_withHarts (s : State) (x : Map Hart) : (s.withHarts x).stateView = s.stateView := State.stateView_of_regs rfl rfl
@[simp] theorem State.stateView_withLocks (s : State) (x : Map Bool) : (s.withLocks x).stateView = s.stateView := State.stateView_of_regs rfl rfl
@[simp] theorem State.stateView_emit (s : State) (o : Out) : (s.emit o).stateView = s.stateView := State.stateView_of_regs rfl rfl
@[simp] theorem State.stateView_drawn (s : State) : s.drawn.stateView = s.stateView := State.stateView_of_regs rfl rfl
@[simp] theorem State.stateView_setRing (s : State) (r : Nat) (x : RingSt) : (s.setRing r x).stateView = s.stateView := State.stateView_of_regs rfl rfl
@[simp] theorem State.stateView_setHost (s : State) (h : Nat) (l : HostLink) : (s.setHost h l).stateView = s.stateView := State.stateView_of_regs rfl rfl
@[simp] theorem State.stateView_setCtx (s : State) (n c : Nat) (x : SqCtx) : (s.setCtx n c x).stateView = s.stateView := State.stateView_of_regs rfl rfl

/-- A choice between two states shows what the chosen one shows. -/
@[simp] theorem State.stateView_ite {c : Prop} [Decidable c] (s t : State) :
    (if c then s else t).stateView = if c then s.stateView else t.stateView := apply_ite _ _ _ _

@[simp] theorem State.stateView_when (s : State) (c : Bool) (f : State → State) (h : (f s).stateView = s.stateView) :
    (s.when c f).stateView = s.stateView := by
  cases c
  · rfl
  · exact h

/-! ### Interrupts and writes of memory -/

@[simp] theorem State.stateView_vector (s : State) (fi vec : Nat) : (s.vector fi vec).stateView = s.stateView :=
  State.stateView_eq ((s.vector_parts fi vec).1 .powered (by decide)) (fun f hf => s.fld_vector fi vec f 0 (modeFld_not_event hf).1)

@[simp] theorem State.stateView_imsic (s : State) (core file identity : Nat) : (s.imsic core file identity).stateView = s.stateView :=
  State.stateView_eq ((s.imsic_parts core file identity).1 .powered (by decide)) (fun f hf => s.fld_imsic core file identity f 0 (modeFld_not_event hf).1)

@[simp] theorem State.stateView_corePut (s : State) (a : Nat) (bs : List Byte) : (s.corePut a bs).stateView = s.stateView :=
  State.stateView_eq ((s.corePut_parts a bs).1 .powered (by decide)) (fun f hf => s.fld_stackTouch a f 0 (modeFld_not_event hf).1)

@[simp] theorem State.stateView_dlogMark (s : State) (fi a n : Nat) : (s.dlogMark fi a n).stateView = s.stateView :=
  State.stateView_foldl _ (fun t k => by simp) _ s

@[simp] theorem State.stateView_hostPut (s : State) (fi a : Nat) (bs : List Byte) : (s.hostPut fi a bs).stateView = s.stateView :=
  State.stateView_foldl _ (fun t _ => t.stateView_emit _) _ s

@[simp] theorem State.stateView_dmaWrite (s : State) (fi a : Nat) (bs : List Byte) : (s.dmaWrite fi a bs).stateView = s.stateView := by
  simp [State.dmaWrite]

/-! ### Rings and sequencers (R380 to R383, R409) -/

@[simp] theorem State.stateView_ringIrq (s : State) (r : Nat) : (s.ringIrq r).stateView = s.stateView := by
  simp [State.ringIrq]

@[simp] theorem State.stateView_headRecord (s : State) (r : Nat) : (s.headRecord r).stateView = s.stateView := by
  simp [State.headRecord]

@[simp] theorem State.stateView_advance (s : State) (r n : Nat) : (s.advance r n).stateView = s.stateView := by
  induction n generalizing s with
  | zero => rfl
  | succ n ih => simp (disch := decide) [State.advance, ih]

@[simp] theorem State.stateView_publish (s : State) (r : Nat) : (s.publish r).stateView = s.stateView := by
  simp [State.publish]

@[simp] theorem State.stateView_sqGo (s : State) (n st : Nat) : (s.sqGo n st).stateView = s.stateView := by
  simp (disch := decide) [State.sqGo]

@[simp] theorem State.stateView_sqFree (s : State) (p : Nat × Nat → Bool) : (s.sqFree p).stateView = s.stateView :=
  State.stateView_foldl _ (fun t e => by simp) _ s

@[simp] theorem State.stateView_finish (s : State) (r p result info : Nat) (status : Bool) : (s.finish r p result info status).stateView = s.stateView := by
  simp [State.finish]

@[simp] theorem State.stateView_settle (s : State) (n : Nat) : (s.settle n).stateView = s.stateView := by
  induction n generalizing s with
  | zero => rfl
  | succ n ih =>
    unfold State.settle
    split
    · split
      · simp [ih]
      · rfl
    · rfl

@[simp] theorem State.stateView_complete (s : State) (r p result info : Nat) : (s.complete r p result info).stateView = s.stateView :=
  (State.stateView_settle _ 64).trans (s.stateView_finish r p result info true)

@[simp] theorem State.stateView_completeLive (s : State) (r p result info : Nat) : (s.completeLive r p result info).stateView = s.stateView := by
  simp [State.completeLive]

/-! ### Keys (R488, R498) -/

@[simp] theorem State.stateView_endJob (s : State) (j : CiphJob) : (s.endJob j).stateView = s.stateView :=
  s.stateView_withCiph _

@[simp] theorem State.stateView_zeroDst (s : State) (j : CiphJob) : (s.zeroDst j).stateView = s.stateView := by
  simp [State.zeroDst]

@[simp] theorem State.stateView_failJob (s : State) (j : CiphJob) (result : Nat) : (s.failJob j result).stateView = s.stateView := by
  simp [State.failJob]

@[simp] theorem State.stateView_eraseSlot (s : State) (slot : Nat) : (s.eraseSlot slot).stateView = s.stateView := by
  simp (disch := decide) [State.eraseSlot]

@[simp] theorem State.stateView_zeroiseSlots (s : State) (p : Nat → Bool) : (s.zeroiseSlots p).stateView = s.stateView := by
  unfold State.zeroiseSlots
  dsimp only
  rw [State.stateView_foldl _ (fun t c => t.stateView_completeLive _ _ _ _), State.stateView_foldl _ (fun t j => t.stateView_failJob j _),
    State.stateView_withCiph, State.stateView_foldl _ State.stateView_eraseSlot, State.stateView_withLed]

/-! ### Links and the namespaces behind them (R78, R279, R324) -/

@[simp] theorem State.stateView_macCount (s : State) (lp j n : Nat) : (s.macCount lp j n).stateView = s.stateView :=
  s.stateView_bump _ _ _ (by decide)

@[simp] theorem State.stateView_abortTx (s : State) (lp : Nat) : (s.abortTx lp).stateView = s.stateView := by
  simp [State.abortTx]

@[simp] theorem State.stateView_lpiEnd (s : State) (lp : Nat) (rx : Bool) : (s.lpiEnd lp rx).stateView = s.stateView := by
  cases rx <;> simp (disch := decide) [State.lpiEnd]

@[simp] theorem State.stateView_dropMember (s : State) (d k : Nat) : (s.dropMember d k).stateView = s.stateView := by
  simp (disch := decide) [State.dropMember]

@[simp] theorem State.stateView_stcQuiet (s : State) (k st : Nat) : (s.stcQuiet k st).stateView = s.stateView :=
  s.stateView_setFld _ _ _ (by decide)

@[simp] theorem State.stateView_stcGo (s : State) (k st : Nat) : (s.stcGo k st).stateView = s.stateView :=
  (State.stateView_raise _ _ _).trans (s.stateView_setFld _ _ _ (by decide))

@[simp] theorem State.stateView_masterShow (s : State) : s.masterShow.stateView = s.stateView := by
  simp (disch := decide) [State.masterShow]

@[simp] theorem State.stateView_stcLeave (s : State) (k st : Nat) : (s.stcLeave k st).stateView = s.stateView := by
  simp [State.stcLeave]

@[simp] theorem State.stateView_stcDrop (s : State) (k : Nat) : (s.stcDrop k).stateView = s.stateView := by
  simp [State.stcDrop]

@[simp] theorem State.stateView_stcUp (s : State) (k : Nat) : (s.stcUp k).stateView = s.stateView := by
  simp [State.stcUp]

@[simp] theorem State.stateView_linkSet (s : State) (lp st : Nat) : (s.linkSet lp st).stateView = s.stateView := by
  have down (t : State) (ls : List Nat) : (ls.foldl (fun s l => s.setFld F.PA_SERDES_LANE_EQ_RX_EYE l 0) t).stateView = t.stateView :=
    State.stateView_foldl _ (fun u l => u.stateView_setFld _ _ _ (by decide)) ls t
  have up (t : State) (ls : List Nat) : (ls.foldl (fun s l => (s.setFld F.PA_SERDES_LANE_EQ_RX_EYE l s.free).drawn) t).stateView = t.stateView :=
    State.stateView_foldl _ (fun u l => by simp (disch := decide)) ls t
  simp (disch := decide) [State.linkSet, down, up]

@[simp] theorem State.stateView_lineSignal (s : State) (lp signal : Nat) : (s.lineSignal lp signal).stateView = s.stateView :=
  s.stateView_emit _

@[simp] theorem State.stateView_linkStop (s : State) (lp : Nat) : (s.linkStop lp).stateView = s.stateView := by
  simp (disch := decide) [State.linkStop]

@[simp] theorem State.stateView_abandonLink (s : State) (h : Nat) : (s.abandonLink h).stateView = s.stateView :=
  s.stateView_setHost h _

@[simp] theorem State.stateView_hlGo (s : State) (h n st : Nat) : (s.hlGo h n st).stateView = s.stateView := by
  simp (disch := decide) [State.hlGo]

@[simp] theorem State.stateView_hostStop (s : State) (h : Nat) : (s.hostStop h).stateView = s.stateView := by
  simp [State.hostStop]

@[simp] theorem State.stateView_hostStart (s : State) (h : Nat) : (s.hostStart h).stateView = s.stateView := by
  unfold State.hostStart
  split
  · rfl
  · exact State.stateView_foldl _ (fun t n => by simp) _ s

@[simp] theorem State.stateView_dropDestage (s : State) (id : Nat) : (s.dropDestage id).stateView = s.stateView :=
  s.stateView_withStor _

@[simp] theorem State.stateView_driveNudge (s : State) (h : Nat) (wake : Bool) : (s.driveNudge h wake).stateView = s.stateView := by
  simp [State.driveNudge]

@[simp] theorem State.stateView_undestage (s : State) (d : Destage) (failed : Bool) : (s.undestage d failed).stateView = s.stateView := by
  simp [State.undestage]

@[simp] theorem State.stateView_nsGo (s : State) (h st : Nat) : (s.nsGo h st).stateView = s.stateView := by
  simp (disch := decide) [State.nsGo]

@[simp] theorem State.stateView_certHold (s : State) : s.certHold.stateView = s.stateView := by
  simp (disch := decide) [State.certHold]

@[simp] theorem State.stateView_storShow (s : State) : s.storShow.stateView = s.stateView := by
  simp (disch := decide) [State.storShow]

@[simp] theorem State.stateView_backendLost (s : State) (p : Nat → Bool) : (s.backendLost p).stateView = s.stateView := by
  unfold State.backendLost
  dsimp only
  rw [State.stateView_storShow, State.stateView_foldl _ (fun t h => t.stateView_nsGo h _), State.stateView_foldl _ (fun t d => t.stateView_undestage d _)]

@[simp] theorem State.stateView_dlGo (s : State) (d st : Nat) : (s.dlGo d st).stateView = s.stateView := by
  simp (disch := decide) [State.dlGo]

@[simp] theorem State.stateView_linksDown (s : State) : s.linksDown.stateView = s.stateView := by
  unfold State.linksDown
  dsimp only
  rw [State.stateView_foldl _ (fun t d => t.stateView_dlGo d _), State.stateView_foldl _ State.stateView_hostStop,
    State.stateView_foldl _ State.stateView_linkStop]

end Sys2Proof.Machine

/-! ## A transition and what it brings with it (R17 to R23) -/

namespace Sys2Proof.Machine

/-! ### What a state takes away (R11, R525, R684) -/

/-- Leaving out other keys does not change what a key reads as. -/
theorem Map.get_filter_key {α : Type} (d : α) (k : Nat) (q : Nat → Bool) (h : q k = true) (m : Map α) :
    Map.get d k (m.filter (fun e => q e.1)) = Map.get d k m := by
  induction m with
  | nil => rfl
  | cons e m ih =>
    obtain ⟨j, v⟩ := e
    by_cases hj : j = k
    · subst hj
      simp [h, Map.get]
    · rw [List.filter_cons, Map.get, if_neg hj]
      split
      · rw [Map.get, if_neg hj, ih]
      · exact ih

/-- The copies of one field that stand in the regions a test picks leave the register file (R684). -/
def wipeFld (p : Nat → Bool) (m : Map (Map Nat)) (f : Fld) : Map (Map Nat) :=
  Map.set [] f.id ((Map.get [] f.id m).filter (fun e => !p (f.region e.1))) m

/-- A copy outside the regions picked, in every field of its number, outlives the wipe of any fields. -/
theorem Map.get_foldl_wipeFld (p : Nat → Bool) (n i : Nat) (fs : List Fld) (h : ∀ f ∈ fs, f.id = n → p (f.region i) = false) (m : Map (Map Nat)) :
    Map.get 0 i (Map.get [] n (fs.foldl (wipeFld p) m)) = Map.get 0 i (Map.get [] n m) := by
  induction fs generalizing m with
  | nil => rfl
  | cons f fs ih =>
    rw [List.foldl_cons, ih (fun g hg => h g (List.mem_cons_of_mem _ hg)), wipeFld, Map.get_set]
    split
    case isTrue hn =>
      subst hn
      exact Map.get_filter_key 0 i (fun j => !p (f.region j)) (by simp [h f List.mem_cons_self rfl]) _
    case isFalse => rfl

set_option maxRecDepth 20000 in
/-- The fields of AO_MODULE_STATE stand in AO alone. -/
theorem modeFld_home : allFlds.all (fun f => !modeFld f || (f.per == 0 && f.home == 0)) = true := by decide

theorem modeFld_region {f : Fld} (hf : f ∈ allFlds) (h : modeFld f = true) (i : Nat) : f.region i = 0 := by
  have hh := List.all_eq_true.mp modeFld_home f hf
  simp only [h, Bool.not_true, Bool.false_or, Bool.and_eq_true, beq_iff_eq] at hh
  rw [Fld.region, if_pos hh.1, hh.2]

/-- Wiping regions other than AO leaves what AO_MODULE_STATE shows. -/
theorem State.stateView_wipeRegs (s : State) (p : Nat → Bool) (keep : List Nat) (h : p 0 = false) :
    (s.wipeRegs p keep).stateView = s.stateView := by
  refine State.stateView_eq rfl (fun g hg => congrArg (Nat.xor · (g.rst 0)) ?_)
  refine Map.get_foldl_wipeFld p g.id 0 _ (fun f hf hid => ?_) s.regs
  rw [modeFld_region (List.mem_filter.mp hf).1 (by rw [modeFld, hid]; exact hg), h]

@[simp] theorem State.stateView_wipeHx (s : State) : s.wipeHx.stateView = s.stateView := by
  simp [State.wipeHx, State.stateView_wipeRegs]

@[simp] theorem State.stateView_wipeAll (s : State) : s.wipeAll.stateView = s.stateView := by
  simp [State.wipeAll, State.stateView_wipeRegs]

@[simp] theorem State.stateView_showStack (s : State) (d v : Nat) : (s.showStack d v).stateView = s.stateView := by
  simp (disch := decide) [State.showStack]

@[simp] theorem State.stateView_setPower (s : State) (d v : Nat) : (s.setPower d v).stateView = s.stateView := by
  simp (disch := decide) [State.setPower]

@[simp] theorem State.stateView_powers (s : State) (p : Nat → Bool) : (s.powers p).stateView = s.stateView :=
  State.stateView_foldl _ (fun t d => t.stateView_setPower d _) _ s

@[simp] theorem State.stateView_stacksDown (s : State) : s.stacksDown.stateView = s.stateView :=
  State.stateView_foldl _ (fun t _ => t.stateView_setFld _ _ _ (by decide)) _ s

@[simp] theorem State.stateView_dbgClose (s : State) (mask : Nat) : (s.dbgClose mask).stateView = s.stateView := by
  simp (disch := decide) [State.dbgClose]

@[simp] theorem State.stateView_dbgReset (s : State) : s.dbgReset.stateView = s.stateView :=
  (State.stateView_dbgClose _ 7).trans (s.stateView_withDbg _)

@[simp] theorem State.stateView_pins (s : State) : s.pins.stateView = s.stateView := by
  unfold State.pins
  dsimp only
  rw [State.stateView_ite, State.stateView_withPkg, State.stateView_emit, ite_self]
  simp (disch := decide)

/-! ### What the exit from a state ends (R188, R402, R523, R600, R618) -/

@[simp] theorem State.stateView_gpioSeen (s : State) (old : State) (n : Nat) : (s.gpioSeen old n).stateView = s.stateView := by
  unfold State.gpioSeen
  dsimp only
  rw [State.stateView_ite, State.stateView_limitedBy, ite_self]
  split
  · simp
  · rfl

@[simp] theorem State.stateView_setIso (s : State) (b : Bool) : (s.setIso b).stateView = s.stateView := by
  simp (disch := decide) [State.setIso]

@[simp] theorem State.stateView_certLimit (s : State) : s.certLimit.stateView = s.stateView := by
  simp (disch := decide) [State.certLimit]

@[simp] theorem State.stateView_capEnd (s : State) (result c : Nat) : (s.capEnd result c).stateView = s.stateView := by
  simp (disch := decide) [State.capEnd]

@[simp] theorem State.stateView_capAbort (s : State) : s.capAbort.stateView = s.stateView := by
  simp [State.capAbort]

@[simp] theorem State.stateView_patchInstall (s : State) (p : PatchSet) : (s.patchInstall p).stateView = s.stateView := by
  unfold State.patchInstall
  dsimp only
  rw [State.stateView_setFld _ _ _ _ (by decide), State.stateView_setFld _ _ _ _ (by decide),
    State.stateView_foldl _ (fun t i => by simp (disch := decide)), State.stateView_withSq]

@[simp] theorem State.stateView_measure (s : State) (m : List Byte) : (s.measure m).stateView = s.stateView :=
  s.stateView_withBoot _

@[simp] theorem State.stateView_ucodeEnd (s : State) (result : Nat) : (s.ucodeEnd result).stateView = s.stateView := by
  simp (disch := decide) [State.ucodeEnd]

@[simp] theorem State.stateView_ucodeWritten (s : State) : s.ucodeWritten.stateView = s.stateView := by
  unfold State.ucodeWritten
  split
  · rfl
  · simp

@[simp] theorem State.stateView_ucodeExit (s : State) : s.ucodeExit.stateView = s.stateView := by
  simp [State.ucodeExit]

@[simp] theorem State.stateView_calEnd (s : State) (result : Nat) : (s.calEnd result).stateView = s.stateView := by
  simp (disch := decide) [State.calEnd]

@[simp] theorem State.stateView_calExit (s : State) : s.calExit.stateView = s.stateView := by
  simp [State.calExit]

@[simp] theorem State.stateView_progEnd (s : State) (result : Nat) : (s.progEnd result).stateView = s.stateView := by
  simp (disch := decide) [State.progEnd]

@[simp] theorem State.stateView_progStop (s : State) (result : Nat) : (s.progStop result).stateView = s.stateView := by
  simp [State.progStop]

@[simp] theorem State.stateView_progLeave (s : State) : s.progLeave.stateView = s.stateView := by
  unfold State.progLeave
  split
  · simp
  · rfl

@[simp] theorem State.stateView_endReset (s : State) (r : Nat) : (s.endReset r).stateView = s.stateView :=
  (State.stateView_logEntry _ _ _ _ _ _).trans (s.stateView_setFlag _ _ _ (by decide))

@[simp] theorem State.stateView_leave (s : State) (new : ModState) : (s.leave new).stateView = s.stateView := by
  simp (disch := decide) [State.leave, State.stateView_foldl _ State.stateView_endReset]

@[simp] theorem State.stateView_ledgerCopy (s : State) : s.ledgerCopy.stateView = s.stateView := s.stateView_when _ _ rfl

@[simp] theorem State.stateView_energySnap (s : State) : s.energySnap.stateView = s.stateView := s.stateView_logEntry _ _ _ _ _

/-! ### The transition itself -/

theorem State.stateView_showState (s : State) (new : ModState) (cause pending : Nat) (hc : cause < 2 ^ 8) (hp : pending < 2 ^ 3) :
    (s.showState new cause pending).stateView = (true, [new.code, s.mode.code, cause, pending]) := by
  have hnew : new.code % 2 ^ F.AO_MODULE_STATE_STATE.width = new.code := Nat.mod_eq_of_lt new.code_lt
  have hold : s.mode.code % 2 ^ F.AO_MODULE_STATE_PREV.width = s.mode.code := Nat.mod_eq_of_lt s.mode.code_lt
  have hcause : cause % 2 ^ F.AO_MODULE_STATE_CAUSE.width = cause := Nat.mod_eq_of_lt hc
  have hpending : pending % 2 ^ F.AO_MODULE_STATE_PENDING.width = pending := Nat.mod_eq_of_lt hp
  simp (disch := decide) [State.showState, State.bump, State.stateView, modeFlds, State.fld_setFld_ne, hnew, hold, hcause, hpending]

/-- A transition is shown with the state it left and its cause (R23). -/
theorem State.stateView_go (s : State) (new : ModState) (cause : Nat) (pending : ModState) (hc : cause < 2 ^ 8) :
    (s.go new cause pending).stateView = (true, [new.code, s.mode.code, cause, pending.code]) := by
  have hm : (s.stateEntry new cause pending.code).mode = s.mode := State.mode_of_view (s.stateView_logAs _ _ _ _ _ _)
  unfold State.go
  dsimp only
  rw [State.stateView_pins, State.stateView_raise, State.stateView_showState _ _ _ _ hc pending.code_lt, hm]

/-! ### Entry to HALT and to SAFETY-NET (R18, R19, R554, R579, R580) -/

@[simp] theorem State.stateView_haltBody (s : State) : s.haltBody.stateView = s.stateView := by
  simp [State.haltBody]

@[simp] theorem State.stateView_snetBody (s : State) (reason : Nat) : (s.snetBody reason).stateView = s.stateView := by
  simp (disch := decide) [State.snetBody]

theorem State.haltEnter_shows (s : State) (cause : Nat) (hc : cause < 2 ^ 8) : (s.haltEnter cause).shows .halt s.mode cause := by
  have hm : (s.leave .halt).ledgerCopy.mode = s.mode := State.mode_of_view (by simp)
  refine State.shows_of_view (pending := ModState.off.code) ?_
  unfold State.haltEnter
  dsimp only
  rw [State.stateView_haltBody, State.stateView_ite, State.stateView_energySnap, ite_self, State.stateView_go _ _ _ _ hc, hm]

theorem State.snetEnter_shows (s : State) (cause reason : Nat) (hc : cause < 2 ^ 8) : (s.snetEnter cause reason).shows .safetyNet s.mode cause := by
  have hm : (s.leave .safetyNet).mode = s.mode := State.mode_of_view (by simp)
  refine State.shows_of_view (pending := ModState.off.code) ?_
  rw [State.snetEnter, State.stateView_snetBody, State.stateView_go _ _ _ _ hc, hm]

/-- With no dirty byte an exit goes straight to its target (R20). -/
theorem State.exitTo_clean {s : State} (h : s.dirty = false) (cause reason : Nat) :
    s.exitTo .halt cause reason = s.haltEnter cause ∧ s.exitTo .safetyNet cause reason = s.snetEnter cause reason := by
  simp [State.exitTo, h]

end Sys2Proof.Machine

/-! ## The requests of AO_MODULE_CTRL (R21, R25, R26) -/

namespace Sys2Proof.Machine

/-! ### Bits of a masked value -/

theorem bit_eq_testBit (x i : Nat) : bit x i = x.testBit i := by
  rw [Nat.testBit_eq_decide_div_mod_eq]
  rfl

/-- Bits from `lo` up depend on these bits alone. -/
theorem bits_congr {x y lo : Nat} (h : ∀ i, lo ≤ i → x.testBit i = y.testBit i) (n : Nat) : bits x lo n = bits y lo n := by
  refine Nat.eq_of_testBit_eq (fun i => ?_)
  simp only [bits, Nat.testBit_mod_two_pow, Nat.testBit_div_two_pow, h (i + lo) (by omega)]

/-- Masking out low bits of a word leaves the bits above them. -/
theorem testBit_and_not (v m : Dword) {n i : Nat} (hm : m.toNat < 2 ^ n) (hi : n ≤ i) :
    ((v &&& ~~~ m).toNat % 2 ^ 32).testBit i = (v.toNat % 2 ^ 32).testBit i := by
  have hmi : m.getLsbD i = false := Nat.testBit_lt_two_pow (Nat.lt_of_lt_of_le hm (Nat.pow_le_pow_right (by decide) hi))
  have hv : (v &&& ~~~ m).getLsbD i = v.getLsbD i := by
    rw [BitVec.getLsbD_and, BitVec.getLsbD_not, hmi]
    by_cases h64 : i < 64
    · simp only [h64, decide_true, Bool.not_false, Bool.and_true]
    · rw [BitVec.getLsbD_of_ge v i (by omega), Bool.false_and]
  simp only [Nat.testBit_mod_two_pow, BitVec.testBit_toNat, hv]

theorem bit_low_word (v : Dword) {i : Nat} (hi : i < 32) : bit (v.toNat % 2 ^ 32) i = v.getLsbD i := by
  rw [bit_eq_testBit, Nat.testBit_mod_two_pow, decide_eq_true hi, Bool.true_and, BitVec.testBit_toNat]

/-! ### What a write asks for -/

/-- HALT_REQ discards the other request bits (R26). -/
theorem State.moduleRequest_halt (s : State) (snet restart : Bool) : s.moduleRequest true snet restart = s.moduleRequest true false false := rfl

/-- SNET_REQ discards RESTART_REQ (R26). -/
theorem State.moduleRequest_snet (s : State) (restart : Bool) : s.moduleRequest false true restart = s.moduleRequest false true false := rfl

/-- In service a request is accepted and waits for the end of its clock (R21). -/
theorem State.moduleRequest_inService {s : State} (h : s.inService = true) :
    s.moduleRequest true false false = s.withRequest 3 ∧ s.moduleRequest false true false = s.withRequest 2 := by
  simp [State.moduleRequest, h]

/-- A write with HALT_REQ asks for the same without SNET_REQ and RESTART_REQ. -/
theorem State.moduleCtrl_halt (s : State) {v : Dword} (h : v.getLsbD 2 = true) :
    s.moduleCtrl (v.toNat % 2 ^ 32) = s.moduleCtrl ((v &&& ~~~ 3).toNat % 2 ^ 32) := by
  have hi (i : Nat) (hi : 2 ≤ i) := testBit_and_not v 3 (n := 2) (by decide) hi
  have hkey := bits_congr (lo := 16) (fun i h16 => hi i (by omega)) 16
  have h2 : bit (v.toNat % 2 ^ 32) 2 = true := (bit_low_word v (by decide)).trans h
  have h2' : bit ((v &&& ~~~ 3).toNat % 2 ^ 32) 2 = true := by rw [bit_eq_testBit, hi 2 (by decide), ← bit_eq_testBit, h2]
  simp only [State.moduleCtrl, hkey, h2, h2', State.moduleRequest_halt _ (bit _ 1) (bit _ 0)]

/-- A write with SNET_REQ and no HALT_REQ asks for the same without RESTART_REQ. -/
theorem State.moduleCtrl_snet (s : State) {v : Dword} (h : v.getLsbD 2 = false) (g : v.getLsbD 1 = true) :
    s.moduleCtrl (v.toNat % 2 ^ 32) = s.moduleCtrl ((v &&& ~~~ 1).toNat % 2 ^ 32) := by
  have hi (i : Nat) (hi : 1 ≤ i) := testBit_and_not v 1 (n := 1) (by decide) hi
  have hkey := bits_congr (lo := 16) (fun i h16 => hi i (by omega)) 16
  have h2 : bit (v.toNat % 2 ^ 32) 2 = false := (bit_low_word v (by decide)).trans h
  have h1 : bit (v.toNat % 2 ^ 32) 1 = true := (bit_low_word v (by decide)).trans g
  have h2' : bit ((v &&& ~~~ 1).toNat % 2 ^ 32) 2 = false := by rw [bit_eq_testBit, hi 2 (by decide), ← bit_eq_testBit, h2]
  have h1' : bit ((v &&& ~~~ 1).toNat % 2 ^ 32) 1 = true := by rw [bit_eq_testBit, hi 1 (by decide), ← bit_eq_testBit, h1]
  simp only [State.moduleCtrl, hkey, h2, h2', h1, h1', State.moduleRequest_snet _ (bit _ 0)]

/-! ### The write -/

/-- The row of AO_MODULE_CTRL in the register map. -/
def moduleCtrlRow : RegRow :=
  { reg := .AO_MODULE_CTRL, base := 0x00000014, dims := [], words := 1, tenant := false, core := false,
    slots := [⟨16, F.AO_MODULE_CTRL_KEY⟩, ⟨2, F.AO_MODULE_CTRL_HALT_REQ⟩, ⟨1, F.AO_MODULE_CTRL_SNET_REQ⟩, ⟨0, F.AO_MODULE_CTRL_RESTART_REQ⟩] }

theorem regAt_moduleCtrl : regAt 0x14 = some { row := moduleCtrlRow, idx := 0, word := 0 } := rfl

/-- A write that reaches AO_MODULE_CTRL: no field of it has a lock (R25). -/
theorem State.regWrite_moduleCtrl (s : State) (who : Party) (v : Nat) (bad : Bool) :
    s.regWrite who 0x14 { row := moduleCtrlRow, idx := 0, word := 0 } [(0, v)] bad = s.moduleCtrl v := rfl

theorem State.writeWord_moduleCtrl (s : State) (who : Party) (v : Nat) (bad : Bool) :
    s.writeWord who 0x14 v bad
      = if (s.overtake who 0x14).shut 0x14 then (s.overtake who 0x14).countFenced 0x14 else (s.overtake who 0x14).moduleCtrl v := by
  unfold State.writeWord
  rw [regAt_moduleCtrl]
  rfl

/-- Two writes of AO_MODULE_CTRL that ask for the same do the same, whoever makes them. -/
theorem State.access_moduleCtrl_congr (s : State) (who : Party) (bad : Bool) {u v : Dword}
    (h : ∀ t : State, t.moduleCtrl (u.toNat % 2 ^ 32) = t.moduleCtrl (v.toNat % 2 ^ 32)) :
    s.access { who := who, addr := 0x14, value := u, wide := false, bad := bad }
      = s.access { who := who, addr := 0x14, value := v, wide := false, bad := bad } := by
  have hword : s.writeWord who 0x14 (u.toNat % 2 ^ 32) bad = s.writeWord who 0x14 (v.toNat % 2 ^ 32) bad := by
    rw [State.writeWord_moduleCtrl, State.writeWord_moduleCtrl, h]
  have haddr : (0x14 : Word).toNat = 0x14 := rfl
  simp only [State.access, haddr, hword, Bool.false_eq_true, if_false]

/-- In one clock with no other write. -/
theorem exec_moduleCtrl_congr (s : State) (who : Party) (bad : Bool) {u v : Dword}
    (h : ∀ t : State, t.moduleCtrl (u.toNat % 2 ^ 32) = t.moduleCtrl (v.toNat % 2 ^ 32)) :
    exec (.registerWrite [{ who := who, addr := 0x14, value := u, wide := false, bad := bad }]) s
      = .next (match execRegisterWrite [{ who := who, addr := 0x14, value := v, wide := false, bad := bad }] s with | .next t => t | _ => s) := by
  show Host.Outcome.next (s.writes _) = .next (s.writes _)
  simp only [State.writes, State.inOrder_singleton, List.foldl_cons, List.foldl_nil, State.access_moduleCtrl_congr _ who bad h]

/-! ### The request takes effect at the end of its clock -/

/-- The supervisor's keyed write, where AO is not fenced: what it asks for, settled. -/
theorem exec_moduleCtrl_supervisor {s : State} {v : Dword} (hp : s.powered = true) (hf : s.fenced 0 = false)
    (hkey : v.toNat / 65536 % 65536 = 0xC1A0) :
    exec (.registerWrite [{ who := .supervisor, addr := 0x14, value := v, wide := false, bad := false }]) s
      = .next ((s.overtake .supervisor 0x14).moduleRequest (v.getLsbD 2) (v.getLsbD 1) (v.getLsbD 0)).settleDue := by
  have hs : s.shut 0x14 = false := hf
  have haccess : s.access { who := .supervisor, addr := 0x14, value := v, wide := false, bad := false }
      = (s.overtake .supervisor 0x14).moduleCtrl (v.toNat % 2 ^ 32) :=
    (State.access_of_served (w := ⟨.supervisor, 0x14, v, false, false⟩) rfl rfl rfl hs regAt_moduleCtrl rfl rfl).trans (State.regWrite_moduleCtrl _ _ _ _)
  have hk : (bits (v.toNat % 2 ^ 32) 16 16 == 0xC1A0) = true := by
    rw [beq_iff_eq, bits]
    omega
  rw [exec_registerWrite hp, State.inOrder_singleton, List.foldl_cons, List.foldl_nil, haccess, State.moduleCtrl, hk, State.when_true,
    bit_low_word v (by decide), bit_low_word v (by decide), bit_low_word v (by decide)]

theorem State.powered_of_inService {s : State} (h : s.inService = true) : s.powered = true := by
  cases hp : s.powered with
  | true => rfl
  | false => simp [State.inService, State.mode, hp] at h

/-- A HALT or SNET request accepted in service with no dirty byte, at the end of its clock. -/
theorem State.settleDue_request {s : State} (hs : s.inService = true) (hd : s.dirty = false) (hf : s.faultsDue = []) :
    (s.withRequest 3).settleDue = (s.withRequest 0).haltEnter causeRequest
      ∧ (s.withRequest 2).settleDue = (s.withRequest 0).snetEnter causeRequest reasonRequest := by
  obtain ⟨hhalt, -⟩ := (s.withRequest 0).exitTo_clean hd causeRequest 0
  obtain ⟨-, hsnet⟩ := (s.withRequest 0).exitTo_clean hd causeRequest reasonRequest
  have hin (n : Nat) : (s.withRequest n).inService = true := hs
  rw [State.settleDue_eq (s := s.withRequest 3) hf, State.settleDue_eq (s := s.withRequest 2) hf, ← hhalt, ← hsnet]
  simp only [State.settleRequest, State.withRequest_request, hin, Bool.true_or, if_true]
  exact ⟨rfl, rfl⟩

/-- Settles O10: a request bit of higher precedence makes the others irrelevant, and what it asks for is entered at the end of the clock. -/
theorem haltWinsOverOtherRequests : Obligations.HaltWinsOverOtherRequests := by
  unfold Obligations.HaltWinsOverOtherRequests
  refine ⟨fun s who v bad h => exec_moduleCtrl_congr s who bad (fun t => t.moduleCtrl_halt h),
    fun s who v bad h g => exec_moduleCtrl_congr s who bad (fun t => t.moduleCtrl_snet h g), ?_, ?_⟩
  · intro s v hs hd hf hdue hreq hkey h2
    refine ⟨_, ?_, State.haltEnter_shows ((s.overtake .supervisor 0x14).withRequest 0) causeRequest (by decide)⟩
    rw [exec_moduleCtrl_supervisor (State.powered_of_inService hs) hf hkey, h2, State.moduleRequest_halt,
      (State.moduleRequest_inService (s := s.overtake .supervisor 0x14) hs).1, (State.settleDue_request (s := s.overtake .supervisor 0x14) hs hd hdue).1]
  · intro s v hs hd hf hdue hreq hkey h2 h1
    refine ⟨_, ?_, State.snetEnter_shows ((s.overtake .supervisor 0x14).withRequest 0) causeRequest reasonRequest (by decide)⟩
    rw [exec_moduleCtrl_supervisor (State.powered_of_inService hs) hf hkey, h2, h1, State.moduleRequest_snet,
      (State.moduleRequest_inService (s := s.overtake .supervisor 0x14) hs).2, (State.settleDue_request (s := s.overtake .supervisor 0x14) hs hd hdue).2]

end Sys2Proof.Machine

/-! ## The counters of a root port (R340, R346) -/

namespace Sys2Proof.Machine

/-- A counter that counts reads as what it held and what was added, cut to its width. -/
theorem State.fld_bump_same (s : State) (f : Fld) (i n : Nat) : (s.bump f i n).fld f i = (s.fld f i + n) % 2 ^ f.width :=
  s.fld_setFld_same f i _

/-- Counting leaves the other fields alone. -/
theorem State.fld_bump_ne (s : State) (f g : Fld) (i j n : Nat) (h : g.id ≠ f.id) : (s.bump f i n).fld g j = s.fld g j :=
  s.fld_setFld_ne f g i j _ h

/-- A root port's counter is 64 bits wide and goes up by one. -/
theorem State.fld_rpCount_same (s : State) (d j : Nat) :
    (s.rpCount d j).fld F.HX_RP_STAT_COUNT (6 * (d / 4) + j) = (s.fld F.HX_RP_STAT_COUNT (6 * (d / 4) + j) + 1) % 2 ^ 64 :=
  s.fld_bump_same F.HX_RP_STAT_COUNT _ 1

/-- Counting at a root port moves no sub-link. -/
@[simp] theorem State.dlState_rpCount (s : State) (d j e : Nat) : (s.rpCount d j).dlState e = s.dlState e :=
  s.fld_bump_ne F.HX_RP_STAT_COUNT F.HX_RP_SUBLINK_STATUS_STATE _ e 1 (by decide)

@[simp] theorem State.rpCount_out (s : State) (d j : Nat) : (s.rpCount d j).out = s.out := s.bump_out _ _ _

/-- On an ENABLED sub-link the command counts in CORRECTABLE, index 5 of its root port, and does nothing else. -/
theorem exec_correctableError_drive_of_enabled {s : State} {d : Fin 8} (h : s.dlState d = dlEnabled) :
    exec (.correctableError (.drive d)) s = .next (s.rpCount d 5) := by
  show Host.Outcome.next (if s.dlState d = dlEnabled then s.rpCount d 5 else s) = _
  rw [if_pos h]

/-- Settles O11: the command is one count of CORRECTABLE, which moves neither the sub-link's state nor what is sent out. -/
theorem correctableDriveErrors : Obligations.CorrectableDriveErrors := by
  unfold Obligations.CorrectableDriveErrors
  intro s d h
  exact ⟨s.rpCount d 5, exec_correctableError_drive_of_enabled h, s.fld_rpCount_same d 5, (s.dlState_rpCount d 5 d).trans h, s.rpCount_out d 5⟩

end Sys2Proof.Machine
